-- ==== Sys2Proof/Word.lean ====
section
/-! DEFINITION. The word types of the VK-5128 model and the plainest arithmetic over them. -/

namespace Sys2Proof

/-- One byte of a frame, a key or a host structure (R7). -/
abbrev Byte := BitVec 8

/-- One 64-bit word of a record, a register or microcode (R70, R170). -/
abbrev Word := BitVec 64

end Sys2Proof
end

