-- ==== Sys2Proof/Syntax.lean ====
section
/-! DEFINITION. The commands of the VK-5128: one constructor per row of spec/opcode_table.json, with the
row's operands. What arrives from outside the device (frame bytes, host descriptors, sensor readings, the
marks of soft errors) is an operand of the row in which it shows. -/

namespace Sys2Proof

/-- Who writes a register: the host through BAR0, or the management complex through its own window (R371, R372). -/
inductive Requester where
  | host
  | mgmt
  deriving DecidableEq, Repr

/-- One churn context: its cluster, engine and context number (R138). -/
structure CtxId where
  cluster : Nat
  engine : Nat
  context : Nat
  deriving DecidableEq, Repr

/-- What the parity check of a fetch found (R160). -/
inductive FetchErr where
  | good
  | micro
  | nano
  deriving DecidableEq, Repr

/-- A word of a cluster's stores (R161): store 0 is the micro-store, 1 the nano-store, 2 the dispatch table. -/
structure StoreAddr where
  cluster : Nat
  store : Nat
  bank : Nat
  addr : Nat
  deriving DecidableEq, Repr

/-- A soft error of the Strainer that a search meets (R130). -/
inductive StrainerErr where
  /-- The match array of the entry now holds these data and care bits; the shadow does not. -/
  | matchArray (addr : Nat) (data care : BitVec 640)
  /-- A single-bit SRAM error at the entry, corrected and rewritten. -/
  | corrected (addr : Nat)
  /-- An uncorrectable error in the entry's shadow, priority, epoch, width or action. -/
  | uncorrectable (addr : Nat)
  deriving DecidableEq, Repr

/-- Where a buffer or Vat error lies, and whether it was corrected (R209). -/
inductive BufErr where
  | bufCorrected
  | vatCorrected
  | frameData (frame : Nat) (inVat : Bool)
  | vatDescriptor (port cls position : Nat)
  | segmentHeader (port cls position : Nat)
  | bufferState (pool index : Nat)
  deriving DecidableEq, Repr

/-- Where an HBM error of the Cellar lies, or that it was corrected (R92). -/
inductive HbmErr where
  | corrected
  | record (recNo : Nat)
  | bucket (bucket : Nat)
  deriving DecidableEq, Repr

/-- Where a Skim error lies: a single-bit one is corrected (R117). -/
inductive SkimErr where
  | corrected (bank : Nat)
  | way (bank set way : Nat)
  | writeBack (bank position : Nat)
  deriving DecidableEq, Repr

/-- A descriptor the device reads from host memory, with the data its address names.
`failed` marks a read completed with UR, CA or poison, or timed out (R261); `dataFailed` the same for the data. -/
structure HostDesc where
  desc : BitVec 512
  data : List Byte
  failed : Bool
  dataFailed : Bool
  deriving DecidableEq, Repr

/-- The cause of a level C reset (R271). -/
inductive HostResetCause where
  | perst
  | dlDown
  | hotReset
  deriving DecidableEq, Repr

/-- What the tests of a start found (R365, R366): the memories repaired, and the power domain of each unrepairable one in the
order found, 255 for the Rind and always-on logic (step 4); the failing lanes of HBM channels as (stack, channel, lanes)
(step 5) and of die-to-die lane groups as (tile, group, lanes) (step 10). -/
structure StartTests where
  memRepaired : Nat := 0
  memFailed : List Nat := []
  hbm : List (Nat × Nat × Nat) := []
  d2d : List (Nat × Nat × Nat) := []
  deriving DecidableEq, Repr

/-- A mailbox request (R317): from the host's MBX_REQ ring, or from Mladund on the internal channel.
`data` is what the device reads at data_addr; `dataFailed` marks a failed read or write of it. -/
structure MbxReq where
  internal : Bool
  desc : BitVec 512
  data : List Byte
  dataFailed : Bool
  deriving DecidableEq, Repr

/-- The two paths of an image command (R346). -/
inductive ImgPath where
  | cmd (set index : Nat)
  | mbx (m : MbxReq)
  deriving DecidableEq, Repr

/-- The reset sources of R319, and the level C and D sources that can hold a start. -/
inductive ResetSource where
  | powerOn
  | brownout
  | thermTrip
  | critA
  | rstN
  | watchdog
  | hostFull
  | failedStart
  | updateAct
  | critB
  | perst
  deriving DecidableEq, Repr

/-- The commands, one per row of the opcode table. -/
inductive Instr where
  /-- FRAME_RECEIVE (R38). A frame arrives on a front-panel port while the port is declared up and is sorted into exactly one receive counter. -/
  | frameReceive (port : Nat) (first last : Bool) (bytes : List Byte) (fecBad : Bool)
  /-- LINK_CONDITION_CHANGE (R34). Alignment lock or a local or remote fault changes on a port, which starts or restarts its up or down debounce. -/
  | linkConditionChange (port : Nat) (lock localFault remoteFault : Bool)
  /-- PORT_UP_DEBOUNCE_EXPIRE (R34). All up conditions have held for up_debounce_us, so the port is declared up and any hold ends. -/
  | portUpDebounceExpire (port : Nat)
  /-- PORT_DOWN_DEBOUNCE_EXPIRE (R34). A loss has held for down_debounce_us, so the port is declared down. -/
  | portDownDebounceExpire (port : Nat)
  /-- AUTONEG_COMPLETE (R33). Clause 73 auto-negotiation on the lowest lane of the port completes. -/
  | autonegComplete (port : Nat)
  /-- LINK_TRAINING_COMPLETE (R33). PMD link training completes on every lane of the port. -/
  | linkTrainingComplete (port : Nat)
  /-- FEC_CODEWORD_DECODE (R36). A codeword is decoded and counted in its corrected-symbol bin or as uncorrected. -/
  | fecCodewordDecode (port : Nat) (corrected : List Nat) (uncorrectable : Bool)
  /-- FEC_DEGRADE_WINDOW_END (R37). A degrade window ends, and an FEC degrade is declared or cleared from its uncorrectable count. -/
  | fecDegradeWindowEnd (port : Nat)
  /-- PAUSE_TIMER_EXPIRE (R43). A received pause timer for a priority runs out and its classes resume. -/
  | pauseTimerExpire (port prio : Nat)
  /-- HOLD_EXPIRE (R45). The port hold timer expires, and every queued and Vat-spilled frame of the port is flushed. -/
  | holdExpire (port : Nat)
  /-- FLUSH_COMPLETE (R45). A port flush ends, clearing flushing and hold_active. -/
  | flushComplete (port : Nat)
  /-- OCTET_LAYOUT_WRITE (R30). A write sets an octet's port layout, rates and polarities, or is refused with arg_err. -/
  | octetLayoutWrite (req : Requester) (octet : Nat) (value : Word)
  /-- PORT_CFG_WRITE (R35). A write to PORT_CFG is checked against its ranges and applies within 1 µs or at the next link-up. -/
  | portCfgWrite (req : Requester) (port : Nat) (value : Word)
  /-- PORT_ADMIN_DISABLE (R47). A write of admin_en = 0 takes the port down and flushes it at once, without a hold. -/
  | portAdminDisable (req : Requester) (port : Nat)
  /-- PORT_HOLD_WRITE (R391). A rewrite of port_hold_us moves the expiry of a running hold. -/
  | portHoldWrite (req : Requester) (port : Nat) (value : Word)
  /-- HEADER_SLOT_GRANT (R32). A slice grants a header slot to a waiting frame, which then passes profile selection, extraction and the flow hash. -/
  | headerSlotGrant (slice source : Nat)
  /-- RECIRCULATE (R59). Once its last byte is received, a frame is decapsulated if required and sent to its slice's recirculation port for its next pass. -/
  | recirculate (frame : Nat)
  /-- SEL_ENTRY_WRITE (R53). A write to the highest word of a selection entry applies the whole entry. -/
  | selEntryWrite (req : Requester) (entry : Nat) (value : Word)
  /-- PROFILE_WRITE (R54). A write to the highest word of a profile applies it, or it is refused with arg_err. -/
  | profileWrite (req : Requester) (profile : Nat) (value : Word)
  /-- LB_KEY_APPLY (R65). A write to apply in LB_KEY_CTL starts a switch to the staged K_lb. -/
  | lbKeyApply (req : Requester)
  /-- LB_KEY_SWITCH (R65). All slices switch to the new K_lb in one core cycle, and lb_key_pending clears. -/
  | lbKeySwitch
  /-- SKIM_LOOKUP (R96). A header or host-command lookup takes a bank port and hits, joins a miss, hits the write-back queue or opens a miss entry. -/
  | skimLookup (source bank : Nat)
  /-- CELLAR_LOOKUP_COMPLETE (R77). The bucket and record reads of a miss complete, and either find the record or find a new flow. -/
  | cellarLookupComplete (bank entry : Nat)
  /-- STRAINER_PROBE_ISSUE (R132). A queued search is issued to the Strainer probe pipes within the throttle limits. -/
  | strainerProbeIssue (bank : Nat)
  /-- STRAINER_SEARCH_COMPLETE (R127). A search result is decided from probe 0, probe 1 or the default action and applied to the miss entry's headers. -/
  | strainerSearchComplete (bank entry : Nat) (errs : List StrainerErr)
  /-- SKIM_BYPASS (R108). No way frees within bypass_wait_ns, so the record stays in its miss-entry buffer and the flow runs in bypass. -/
  | skimBypass (bank entry : Nat)
  /-- BYPASS_EXIT (R108). A bypass entry with no waiting header and no task in flight moves its record to a way or to the write-back queue. -/
  | bypassExit (bank entry : Nat)
  /-- WRITEBACK (R100). A dirty record in the write-back queue is written to the record region in HBM. -/
  | writeback (bank : Nat)
  /-- HINT_REWRITE (R101). A written-back record's slot word is rewritten with a new age_hint. -/
  | hintRewrite
  /-- HINT_SKIP (R101). An age-hint rewrite that could not be issued within 10 µs is dropped. -/
  | hintSkip
  /-- TASK_DISPATCH (R144). The dispatcher hands ready tasks to clusters by level and free contexts, and the task takes its snapshot. -/
  | taskDispatch (badEntries : List Nat)
  /-- RECORD_WINDOW_COMPLETE (R147). A task's record window has fully arrived, and contexts stalled on it become ready. -/
  | recordWindowComplete (ctx : CtxId)
  /-- NEXT (R168). A microword with NEXT executes its nanoword and continues at address + 1. -/
  | next (ctx : CtxId) (fetch : FetchErr)
  /-- JUMP (R168). A microword with JUMP executes its nanoword and continues at the target. -/
  | jump (ctx : CtxId) (fetch : FetchErr)
  /-- BRANCH (R168). A microword continues at the target if the named flag is 1. -/
  | branch (ctx : CtxId) (fetch : FetchErr)
  /-- BRANCHN (R168). A microword continues at the target if the named flag is 0. -/
  | branchn (ctx : CtxId) (fetch : FetchErr)
  /-- CALL (R168). A microword pushes its return address and continues at the target. -/
  | call (ctx : CtxId) (fetch : FetchErr)
  /-- RET (R168). A microword pops a return address and continues there. -/
  | ret (ctx : CtxId) (fetch : FetchErr)
  /-- DISPATCH (R168). A microword continues at the target plus the low four bits of ALU A's result. -/
  | dispatch (ctx : CtxId) (fetch : FetchErr)
  /-- WAIT (R168). A microword holds its context until the record window is complete and every NAT take has answered. -/
  | wait (ctx : CtxId) (fetch : FetchErr)
  /-- CHECKPOINT (R158). A task commits rows 1–4 mid-routine, saves its state and takes a fresh snapshot. -/
  | checkpoint (ctx : CtxId) (fetch : FetchErr)
  /-- YIELD (R159). After a checkpoint with a preemption request pending, the task leaves its context for the tail of its level. -/
  | yield (ctx : CtxId) (fetch : FetchErr)
  /-- COMMIT (R156). A routine commits its record writes and early effects and continues without record access. -/
  | commit (ctx : CtxId) (fetch : FetchErr)
  /-- ABORT (R156). A routine discards its work since the last checkpoint and punts or drops its frame with a reason. -/
  | abort (ctx : CtxId) (fetch : FetchErr)
  /-- END (R156). A routine commits if not yet committed and ends, optionally removing the record. -/
  | end_ (ctx : CtxId) (fetch : FetchErr)
  /-- STORE_WORD_REWRITE (R161). The management complex rewrites a faulty store word from its bank's bundle, and the engines return to dispatch. -/
  | storeWordRewrite (word : StoreAddr)
  /-- ROUTINE_ISSUE_LIMIT (R156). A routine reaches 4,096 issues without ending and is ended as a routine fault. -/
  | routineIssueLimit (ctx : CtxId)
  /-- CONTEXT_ECC_ERROR (R140). A double-bit error in context state squashes the task for replay, with its squash count unchanged. -/
  | contextEccError (ctx : CtxId)
  /-- NAT_TAKE_ANSWER (R155). A NAT take answers with a reserved port or a failure, which sets RES and F. -/
  | natTakeAnswer (ctx : CtxId)
  /-- TASK_COMMIT (R150). A task whose predecessors are done commits its writes, deltas, hardware fields and effects in one cycle. -/
  | taskCommit (task : Nat)
  /-- TEARDOWN (R84). A removal runs the record's teardown routine, then frees the slot, the record number and the quota unit. -/
  | teardown (task : Nat)
  /-- FRAME_RELEASE (R157). A committed frame is released in order within its order domain and enqueued for egress. -/
  | frameRelease (domain : Nat)
  /-- VAT_WRITE_COMPLETE (R206). A spilled frame's Vat write completes and its buffer reference is released. -/
  | vatWriteComplete (port cls : Nat)
  /-- VAT_READ_ISSUE (R207). A spilling queue issues a read of its next Vat frame into the octet read-ahead. -/
  | vatReadIssue (port cls : Nat)
  /-- VAT_READ_COMPLETE (R207). A Vat frame arrives in the read-ahead, and segments and queue state are updated. -/
  | vatReadComplete (port cls : Nat)
  /-- FRAME_TRANSMIT_START (R212). An idle port chooses an eligible queue by timed launch, strict priority and DWRR, and starts a frame. -/
  | frameTransmitStart (port : Nat)
  /-- FRAME_TRANSMIT_END (R204). A frame's transmission ends and its copy releases one buffer reference. -/
  | frameTransmitEnd (port : Nat)
  /-- PFC_FRAME_SEND (R199). A PFC frame for pausing or resuming priorities is sent once the frame in transmission ends. -/
  | pfcFrameSend (port : Nat)
  /-- PFC_REFRESH (R199). refresh_quanta elapses for a paused priority, and the PFC frame is sent again. -/
  | pfcRefresh (port prio : Nat)
  /-- LAUNCH_DUE (R396). A timed head frame's launch instant arrives and it is served ahead of all groups. -/
  | launchDue (port : Nat)
  /-- GATE_ENTRY_EXPIRE (R219). A gate-list entry's duration ends and the next entry's open_mask applies. -/
  | gateEntryExpire (port : Nat)
  /-- INDIR_WRITE (R226). A write replaces an indirection entry in every slice at once, or is refused. -/
  | indirWrite (req : Requester) (table entry : Nat) (value : Word)
  /-- POOL_CARVE_WRITE (R193). A write assigns granules to pools, or is refused if the counts overflow or a buffer is allocated. -/
  | poolCarveWrite (req : Requester) (value : Word)
  /-- POOL_QUOTA_WRITE (R196). A write sets a requester's buffer limit in a pool. -/
  | poolQuotaWrite (req : Requester) (requester pool : Nat) (value : Word)
  /-- VAT_CFG_WRITE (R3). A write sets the Vat size, or is refused if it exceeds the ordering code or segments are in use. -/
  | vatCfgWrite (req : Requester) (value : Word)
  /-- INJ_BUFFER_RETRY (R198). A waiting host DMA buffer request is retried each cycle until it passes its checks. -/
  | injBufferRetry (set : Nat)
  /-- BUF_ECC_ERROR (R209). An uncorrectable error in frame data, a Vat descriptor or buffer state discards frames or retires buffers. -/
  | bufEccError (err : BufErr)
  /-- HBM_ECC_ERROR (R92). An uncorrectable HBM error discards a record or poisons a bucket. -/
  | hbmEccError (err : HbmErr)
  /-- POISON_BUCKET_REBUILD_DONE (R92). The rebuild of a poisoned bucket ends, clearing the mark and setting poison_event. -/
  | poisonBucketRebuildDone (bucket : Nat)
  /-- SKIM_ECC_ERROR (R117). A double-bit error in a Skim way or write-back entry invalidates it or discards its dirty record. -/
  | skimEccError (err : SkimErr)
  /-- SCRUB_PASS (R131). The scrubber rewrites every Strainer match entry from its shadow every 64 ms. -/
  | scrubPass
  /-- STR_BLOCK_CFG_WRITE (R120). A write sets Strainer block widths, or is refused for mismatched or occupied blocks. -/
  | strBlockCfgWrite (req : Requester) (value : Word)
  /-- STR_LKP_WRITE (R125). A write sets a Strainer lookup profile, or is refused with arg_err. -/
  | strLkpWrite (req : Requester) (profile : Nat) (value : Word)
  /-- PURGE_START (R135). A purge_start write begins a walk that removes every flow learned under one Strainer entry. -/
  | purgeStart (req : Requester) (addr : Nat)
  /-- PURGE_VISIT (R135). A purge task visits a bucket or stash entry and removes the matching records. -/
  | purgeVisit
  /-- SWEEP_NOW (R87). A sweep_now write starts a sweep without incrementing the epoch. -/
  | sweepNow (req : Requester)
  /-- SWEEP_VISIT (R87). A sweep task applies the hint test and removes idle records. -/
  | sweepVisit
  /-- SWEEP_END (R86). A sweep completes, and a pending sweep then begins. -/
  | sweepEnd
  /-- REKEY_START (R90). A rekey_start write draws K_new and begins dual-hash lookup and migration, or is refused. -/
  | rekeyStart (req : Requester)
  /-- REKEY_MIGRATE_VISIT (R90). A migration task moves the records of an old bucket to their H_new places. -/
  | rekeyMigrateVisit
  /-- REKEY_SWITCH (R90). Migration is done, so every slice moves to H_new in one cycle. -/
  | rekeySwitch
  /-- CMD_NOP (R262). A NOP command completes at once. -/
  | cmdNop (set index : Nat)
  /-- FLOW_INSERT (R83). A host command learns a record with supplied fields, or completes EXISTS or refused. -/
  | flowInsert (set index : Nat)
  /-- FLOW_UPDATE (R83). A host command writes the masked record words, optionally checking the version. -/
  | flowUpdate (set index : Nat)
  /-- FLOW_DELETE (R83). A host command removes a flow's record. -/
  | flowDelete (set index : Nat)
  /-- FLOW_READ (R83). A host command returns the authoritative 128-byte record. -/
  | flowRead (set index : Nat)
  /-- STRAINER_WRITE (R123). A host command writes a Strainer entry and its action as a whole. -/
  | strainerWrite (set index : Nat)
  /-- STRAINER_READ (R262). A host command returns a Strainer entry's images and shadow. -/
  | strainerRead (set index : Nat)
  /-- EPOCH_PUBLISH (R264). A host command flips the epoch parity, or is refused with BUSY. -/
  | epochPublish (set index : Nat)
  /-- DRAIN_SET (R262). A host command declares or ends a drain in HIF_STATUS. -/
  | drainSet (set index : Nat)
  /-- DRAIN_COMPLETE (R186). No frame or task of the old parity remains, so the publish completion is written. -/
  | drainComplete
  /-- DRAIN_LIMIT_EXPIRE (R186). drain_limit_us passes after a publish, and level-3 tasks of the old parity that hold no context are cancelled. -/
  | drainLimitExpire
  /-- BANK_MIRROR_COMPLETE (R187). The drained bank has been restaged with the active bundle and becomes Idle. -/
  | bankMirrorComplete
  /-- DOORBELL_WRITE (R257). A doorbell write advances a host-owned ring index, or stops the ring if the value is invalid. -/
  | doorbellWrite (set ring size : Nat) (value : BitVec 32)
  /-- DESCRIPTOR_FETCH (R265). The device fetches CMD or INJ descriptors in groups, reserving CPL slots. -/
  | descriptorFetch (set ring : Nat) (descs : List HostDesc)
  /-- INJ_DIRECT (R269). An INJ descriptor in DIRECT mode enqueues its frame on a named port and class. -/
  | injDirect (set index : Nat)
  /-- INJ_PROCESS (R269). An INJ descriptor in PROCESS mode sends its frame into a slice's recirculation port as pass 1. -/
  | injProcess (set index : Nat)
  /-- PUNT_DELIVER (R268). A punt is copied into the next posted PUNT descriptor of its ring set, or dropped. -/
  | puntDeliver (desc : BitVec 512)
  /-- WHEY_DELIVER (R301). The Whey queue drains a record to its WHEY ring and/or IPFIX exporter. -/
  | wheyDeliver
  /-- STATUS_BLOCK_WRITE (R258). The device writes the set's status block after an index it owns advances. -/
  | statusBlockWrite (set : Nat)
  /-- IRQ_MOD_TIMER (R259). The oldest unsignalled entry has waited mod_time_us, so the ring's MSI-X vector is sent. -/
  | irqModTimer (set ring : Nat)
  /-- EVT_REARM_WRITE (R260). A write to EVT_REARM sends the event vector if any masked cause is set. -/
  | evtRearmWrite (req : Requester) (value : Word)
  /-- RING_ENABLE (R256). A write of en = 1 zeroes the ring's indices, sets phase 1 and starts the ring. -/
  | ringEnable (set ring : Nat) (value : Word)
  /-- RING_DISABLE (R256). A write of en = 0 stops fetching and writing for the ring. -/
  | ringDisable (set ring : Nat) (value : Word)
  /-- RING_QUIESCED (R256). A disabled ring has no outstanding access left and en reads 0. -/
  | ringQuiesced (set ring : Nat)
  /-- RING_DMA_ERROR (R261). A failed device read of host memory stops its ring and reports through AER. -/
  | ringDmaError (set ring : Nat)
  /-- RSET_OWNER_WRITE (R255). A write assigns a ring set to PF0 or a VF, or is refused. -/
  | rsetOwnerWrite (req : Requester) (set : Nat) (value : Word)
  /-- VF_ENABLE_CLEAR (R255). Clearing VF Enable resets every VF-owned ring set as a function-level reset does. -/
  | vfEnableClear
  /-- FUNCTION_LEVEL_RESET (R271). A function-level reset clears one function's sets and config space, or acts as level C for PF0. -/
  | functionLevelReset (fn : Nat)
  /-- HOST_RESET (R271). PERST#, DL_Down or a hot reset applies a level C reset to the host interface only. -/
  | hostReset (cause : HostResetCause)
  /-- PERST_RELEASE (R272). PERST# is released, and the PCIe link trains and accepts configuration. -/
  | perstRelease
  /-- PCIE_ENTER_COMPLIANCE (R367). The PCIe link enters compliance as the PCIe 6.0 specification gives. -/
  | pcieEnterCompliance
  /-- GET_VERSION (R253). An SPDM GET_VERSION request over DOE is answered by the Rind. -/
  | getVersion
  /-- GET_CAPABILITIES (R253). An SPDM GET_CAPABILITIES request is answered by the Rind. -/
  | getCapabilities
  /-- NEGOTIATE_ALGORITHMS (R253). An SPDM NEGOTIATE_ALGORITHMS request selects P-384 or P-256. -/
  | negotiateAlgorithms (offersP384 offersP256 : Bool)
  /-- GET_DIGESTS (R253). An SPDM GET_DIGESTS request is answered by the Rind. -/
  | getDigests
  /-- GET_CERTIFICATE (R253). An SPDM GET_CERTIFICATE request is answered by the Rind. -/
  | getCertificate (slot offset length : Nat)
  /-- CHALLENGE (R253). An SPDM CHALLENGE request is signed and answered by the Rind. -/
  | challenge (slot : Nat) (nonce : List Byte)
  /-- GET_MEASUREMENTS (R253). An SPDM GET_MEASUREMENTS request returns the digests of the running components. -/
  | getMeasurements (index : Nat) (nonce : List Byte)
  /-- GET_STATUS (R318). A mailbox command returns START_STATUS and RESET_CAUSE. -/
  | getStatus (m : MbxReq)
  /-- GET_HISTORY (R318). A mailbox command writes the last 16 completed requests. -/
  | getHistory (m : MbxReq)
  /-- CAUSE_CLEAR (R320). A mailbox command clears the named RESET_CAUSE bits. -/
  | causeClear (m : MbxReq)
  /-- RESET_CHIP (R318). A mailbox command answers OK and schedules a level B reset 1 ms later. -/
  | resetChip (m : MbxReq)
  /-- RESET_CHIP_ASSERT (R318). 1 ms after RESET_CHIP, the host full-reset source asserts level B. -/
  | resetChipAssert
  /-- RESET_DOMAIN (R330). A mailbox command applies a level D reset to one domain's block where allowed. -/
  | resetDomain (m : MbxReq)
  /-- DOMAIN_HOLD (R330). A mailbox command holds or releases a block in level D reset. -/
  | domainHold (m : MbxReq)
  /-- POWER_SET (R331). A mailbox command switches a power domain on or off where allowed. -/
  | powerSet (m : MbxReq)
  /-- DOMAIN_SWITCH_COMPLETE (R331). A paced power-domain switch completes and its PD_STATE bit changes. -/
  | domainSwitchComplete (pd : Nat)
  /-- THROTTLE_SET (R333). A mailbox command sets the throttle point within the fused bounds. -/
  | throttleSet (m : MbxReq)
  /-- KEY_PIN (R318). An owner-signed command pins a K_flow for the next cold or chip start. -/
  | keyPin (m : MbxReq)
  /-- KEY_UNPIN (R318). An owner-signed command clears the K_flow pin. -/
  | keyUnpin (m : MbxReq)
  /-- RECOVERY_COMPLETE (R326). In recovery mode, a mailbox command clears the failed-start count and starts a level B start. -/
  | recoveryComplete (m : MbxReq)
  /-- IMG_CHUNK (R344). An image chunk is offered to the download session for writing into the inactive slot. -/
  | imgChunk (via : ImgPath)
  /-- IMG_BITMAP (R346). A command returns the wanted-chunk bitmap and the download counters. -/
  | imgBitmap (via : ImgPath)
  /-- IMG_ABORT (R346). A command sets the inactive slot EMPTY unless a ticket is pending. -/
  | imgAbort (via : ImgPath)
  /-- IMG_CONFIRM (R353). A command confirms a trial image and fuses its SVN. -/
  | imgConfirm (via : ImgPath)
  /-- TICKET_SUBMIT (R350). An owner-signed activation ticket is judged and, if accepted, armed on a trigger unit. -/
  | ticketSubmit (m : MbxReq)
  /-- TICKET_CANCEL (R346). A command cancels the pending ticket more than 100 µs before its instant. -/
  | ticketCancel (m : MbxReq)
  /-- OWNER_SET (R346). An owner-signed command sets the owner lock and update group. -/
  | ownerSet (m : MbxReq)
  /-- OWNER_ENROLL (R346). A command programs the owner key hashes into OTP once. -/
  | ownerEnroll (m : MbxReq)
  /-- MILK_SET (R348). A command names the Milk Run upstream and downstream ports. -/
  | milkSet (m : MbxReq)
  /-- CHUNK_WRITE_COMPLETE (R344). The Rind has erased, programmed, read back and marked a chunk, and completes or forwards it. -/
  | chunkWriteComplete (readbackOk : Bool)
  /-- SLOT_VERIFY_COMPLETE (R344). Verification of a fully written slot ends as VERIFIED or EMPTY. -/
  | slotVerifyComplete
  /-- SESSION_OWNER_TIMEOUT (R343). 600 s pass without a chunk, and the download session loses its owner. -/
  | sessionOwnerTimeout
  /-- MILK_CHUNK (R348). A Milk Run CHUNK frame from upstream delivers a piece of an image chunk. -/
  | milkChunk (port piece chunk : Nat) (session data : List Byte)
  /-- MILK_NEED (R348). A Milk Run NEED frame from downstream asks for the chunks in its bitmap. -/
  | milkNeed (port : Nat) (session bitmap : List Byte)
  /-- MILK_ACK (R348). A Milk Run ACK frame acknowledges a chunk marked downstream. -/
  | milkAck (port chunk : Nat) (session : List Byte)
  /-- MILK_REFUSE (R348). A Milk Run REFUSE frame stops sending downstream until a NEED arrives. -/
  | milkRefuse (port reason : Nat) (session : List Byte)
  /-- MILK_RESEND_TIMEOUT (R348). A chunk unacknowledged for 2 s is resent, and after five resends chain_stalled is set. -/
  | milkResendTimeout (chunk : Nat)
  /-- MILK_NEED_TIMER (R348). A downloading device that got no chunk for 1 s sends a new NEED. -/
  | milkNeedTimer
  /-- ACTIVATION_CHECK (R352). 100 µs before a ticket's instant, the refusal states and staging are judged. -/
  | activationCheck
  /-- BOOT_RECORD_WRITE_DONE (R341). A boot record copy has been erased, programmed and read back. -/
  | bootRecordWriteDone
  /-- MLADUND_RESTART_DONE (R352). The management complex has restarted from the new slot after an activation. -/
  | mladundRestartDone
  /-- OCTET_RETRAIN_NEXT (R352). A RETRAIN activation moves to the next lane octet when the previous one's ports are up or 1 s has passed. -/
  | octetRetrainNext
  /-- AUTO_CONFIRM (R352). auto_confirm_s after activation or start-complete, Mladund confirms the trial image. -/
  | autoConfirm
  /-- RESEQ_RELEASE (R243). A held frame whose number equals exp is passed, one per stream per cycle. -/
  | reseqRelease (src cls : Nat)
  /-- RESEQ_GAP_TIMEOUT (R244). The gap timeout of a stream expires and the missing numbers below the lowest held frame are declared lost. -/
  | reseqGapTimeout (src cls : Nat)
  /-- PIN_REQUEST (R248). A received pin request pins its stream to one uplink for pin_ms. -/
  | pinRequest (frame : Nat)
  /-- PIN_REQUEST_RESEND (R247). A stream still in PASS sends a further pin request at most every 10 ms. -/
  | pinRequestResend (src cls : Nat)
  /-- PIN_EXPIRE (R248). A stream's pin time ends, and it is sprayed with pinned = 0 again. -/
  | pinExpire (dst cls : Nat)
  /-- TIME_NOW_LATCH (R275). A read of TIME_NOW_LO latches the full device time for its requester. -/
  | timeNowLatch (req : Requester)
  /-- TIME_RATE_WRITE (R277). A write sets rate_adj without a jump in device time. -/
  | timeRateWrite (req : Requester) (value : Word)
  /-- TIME_SLEW_WRITE (R278). A write sets the offset remainder to be slewed out. -/
  | timeSlewWrite (req : Requester) (value : Word)
  /-- SLEW_COMPLETE (R278). The slew remainder reaches 0 and the slew term ends. -/
  | slewComplete
  /-- TIME_STEP (R279). A step_go sets device time to the TIME_STEP target if a step is allowed. -/
  | timeStep (req : Requester) (atPps : Bool)
  /-- REEPOCH (R280). A reepoch write allows one step and marks frames with launch times LATE. -/
  | reepoch (req : Requester)
  /-- REEPOCH_HOLD_EXPIRE (R280). reepoch_hold_us passes with no step, and the re-epoch ends. -/
  | reepochHoldExpire
  /-- REF_SELECT_WRITE (R276). A change of ref_sel switches the time unit's frequency source without a jump. -/
  | refSelectWrite (req : Requester) (value : Word)
  /-- REF_LOST (R276). TS_CLK_IN shows no edge for 1 µs, and the time unit falls back to SYSREF. -/
  | refLost
  /-- PPS_CAPTURE (R282). A selected PPS edge is captured into PPS_CAP, or ignored as a glitch. -/
  | ppsCapture
  /-- PPS_MISSING (R282). No PPS edge arrives within 1.1 s, and pps_missing is set. -/
  | ppsMissing
  /-- TRIGGER_ARM (R284). A TRIG_CTL write arms or disarms a trigger unit, or is refused. -/
  | triggerArm (req : Requester) (unit : Nat) (value : Word)
  /-- TRIGGER_FIRE (R285). An armed unit reaches an instant and its targets act in one core cycle. -/
  | triggerFire (units : List Nat)
  /-- TRIG_OUT_FALL (R287). A TRIG_OUT pulse falls pulse_ns after its instant. -/
  | trigOutFall (pin : Nat)
  /-- WHEY_EPOCH_NOW (R302). A write of epoch_now closes the Whey export epoch. -/
  | wheyEpochNow (req : Requester)
  /-- PERIODIC_VISIT (R302). A periodic-walk task emits FLOW_PERIODIC for the reported records of a bucket. -/
  | periodicVisit
  /-- IPFIX_ENABLE (R303). Enabling an exporter sends its template set. -/
  | ipfixEnable (req : Requester) (exporter : Nat) (value : Word)
  /-- IPFIX_MESSAGE_TIMEOUT (R303). 100 µs after a message's first record, the IPFIX message is sent. -/
  | ipfixMessageTimeout (exporter : Nat)
  /-- IPFIX_TEMPLATE_REFRESH (R303). template_refresh_s elapses, and the template set is sent again. -/
  | ipfixTemplateRefresh (exporter : Nat)
  /-- QWM_WRITE (R298). A QWM write sets a watermark, and writing en = 1 rearms the detector. -/
  | qwmWrite (req : Requester) (port cls : Nat) (value : Word)
  /-- TALLY_SNAP_NOW (R309). A snap_now write requests a counter snapshot. -/
  | tallySnapNow (req : Requester)
  /-- TALLY_WRITEOUT_COMPLETE (R309). A snapshot's write-out completes, and a pending request then starts. -/
  | tallyWriteoutComplete
  /-- TALLY_PROG_WRITE (R307). A programmable-counter write is staged until the next snapshot latch. -/
  | tallyProgWrite (req : Requester) (group counter : Nat) (value : BitVec 128)
  /-- POWER_ON (R383). Rails reach their power-good levels and the power-on source releases. -/
  | powerOn (compatHiz : Bool)
  /-- POWER_RAIL_FALL (R383). A rail falls below its power-good level after the start, which causes a level A reset. -/
  | powerRailFall (rails : List Nat)
  /-- RST_N_ASSERT (R319). RST_N is held low, which asserts a level B reset. -/
  | rstNAssert (widthNs : Nat)
  /-- RESET_SOURCE_RELEASE (R321). A reset source releases, and the sequencer proceeds to the boundary of any source still asserted. -/
  | resetSourceRelease (source : ResetSource)
  /-- BROWNOUT (R335). VDD_CORE falls below 0.620 V for 2 µs, which causes a level A reset. -/
  | brownout (vcoreMv : Nat)
  /-- THERMAL_TRIP (R334). A sensor reaches 115 °C: THERM_TRIP_N goes low, every domain switches off and level A asserts. -/
  | thermalTrip
  /-- THERMAL_TRIP_RELEASE (R334). Every valid sensor reads below 100 °C, and the trip source and THERM_TRIP_N are released. -/
  | thermalTripRelease
  /-- THERMAL_REPORT (R332). Every 100 µs the junction temperature is reported, and sensors and throttle stages are judged. -/
  | thermalReport (readings : List Int)
  /-- RAIL_MARGIN_LOW (R335). The rail is below margin or PWR_MARGIN_N is low, which sets margin_low. -/
  | railMarginLow (byPin : Bool) (vcoreMv : Nat)
  /-- AVS_TARGET_REVISE (R335). At most once per 1 ms, the Rind revises the VDD_CORE target. -/
  | avsTargetRevise (targetMv : Nat) (answered : Bool)
  /-- AVS_RETRY (R335). After an AVS fault, the Rind retries the regulator every 10 ms. -/
  | avsRetry (answered : Bool) (vcoreMv icoreA : Nat)
  /-- WATCHDOG_KICK (R319). Mladund kicks the watchdog, which restarts its timeout. -/
  | watchdogKick
  /-- WATCHDOG_STAGE1 (R319). No kick within wdog_ms, so the management complex gets a level D reset. -/
  | watchdogStage1
  /-- WATCHDOG_STAGE2 (R319). No kick within wdog_ms of the stage-1 restart, so a level B reset follows. -/
  | watchdogStage2
  /-- CRITICAL_STATE_ERROR (R329). A parity or uncorrectable error in critical state causes a level B or level A reset. -/
  | criticalStateError (place : Nat)
  /-- DOMAIN_RELEASE (R322). A start step's prerequisite and gap are met, so its domain clock is enabled. -/
  | domainRelease (step : Nat) (tests : StartTests)
  /-- CLOCK_GOOD (R322). A domain's clock-good arrives, and the domain is released in the next SYSREF cycle. -/
  | clockGood (step : Nat)
  /-- RELEASE_WINDOW_EXPIRE (R325). A clock-good window expires, and the start fails. -/
  | releaseWindowExpire (step : Nat)
  /-- START_WINDOW_EXPIRE (R325). The start window expires before start-complete, and the start fails. -/
  | startWindowExpire
  /-- START_COMPLETE (R323). Mladund reports start-complete, and failed_count and last_fail are cleared. -/
  | startComplete
  /-- SLICE_RESTORE_DONE (R68). Mladund has restored a level-D-reset slice's tables, and the slice is released. -/
  | sliceRestoreDone (slice : Nat)
  /-- SKIM_BANK_FLUSH_DONE (R119). A Skim bank has flushed for its level D reset and resumes empty. -/
  | skimBankFlushDone (bank : Nat)
  /-- STRAINER_BLOCK_RELOAD_DONE (R137). A Strainer block's match array has been reloaded from its shadow after a level D reset. -/
  | strainerBlockReloadDone (block : Nat)
  /-- CLUSTER_RELOAD_DONE (R164). A reset cluster's stores have been reloaded, and the cluster reopens. -/
  | clusterReloadDone (cluster : Nat)
  /-- LANE_TEST_WRITE (R357). A write sets lane pattern fields, or is refused if the lane's port is enabled. -/
  | laneTestWrite (req : Requester) (octet lane : Nat) (value : Word)
  /-- LANE_TEST_LATCH (R359). A latch write copies the live lane checker counts in one cycle. -/
  | laneTestLatch (req : Requester) (octet lane bits errs : Nat)
  /-- LANE_TEST_CLEAR (R359). A clear write zeroes the live lane checker counts. -/
  | laneTestClear (req : Requester) (octet lane : Nat)
  /-- CHECKER_LOCK (R358). After 1,024 matching bits the lane checker declares lock. -/
  | checkerLock (octet lane : Nat)
  /-- CHECKER_LOCK_LOSS (R358). More than 128 of 1,024 bits fail, so the lane checker loses lock. -/
  | checkerLockLoss (octet lane bits errs : Nat)
  /-- CHECKER_SATURATE (R358). The live bit count reaches 2^48 − 1, and both counts stop. -/
  | checkerSaturate (octet lane bits errs : Nat)
  /-- PORT_TEST_WRITE (R364). A write sets the port's loopback and frame generator and checker, within the admin_en rules. -/
  | portTestWrite (req : Requester) (port : Nat) (value : Word)
  /-- GEN_FRAME_SEND (R360). The frame generator sends its next sequenced test frame at the gen_rate interval. -/
  | genFrameSend (port : Nat)
  /-- BYPASS (R368). The TAP BYPASS instruction. -/
  | bypass
  /-- IDCODE (R368). The TAP IDCODE instruction returns the device identity. -/
  | idcode
  /-- SAMPLE_PRELOAD (R368). The TAP SAMPLE/PRELOAD instruction, effective only while RST_N is low. -/
  | samplePreload
  /-- EXTEST (R368). The TAP EXTEST instruction, effective only while RST_N is low. -/
  | extest
  /-- CLAMP (R368). The TAP CLAMP instruction, effective only while RST_N is low. -/
  | clamp
  /-- HIGHZ (R368). The TAP HIGHZ instruction, effective only while RST_N is low. -/
  | highz
  /-- EXTEST_PULSE (R368). The IEEE 1149.6 EXTEST_PULSE instruction on AC-coupled lanes. -/
  | extestPulse
  /-- EXTEST_TRAIN (R368). The IEEE 1149.6 EXTEST_TRAIN instruction on AC-coupled lanes. -/
  | extestTrain
  /-- SETUP_LOCK_WRITE (R373). A write sets SETUP_LOCK, after which RWP changes are refused. -/
  | setupLockWrite (req : Requester) (value : Word)
  /-- REGISTER_WRITE (R8). A BAR0 write to a register with no row of its own is applied under its access code, staging, lock and range rules. -/
  | registerWrite (req : Requester) (bar offset size : Nat) (value : Word)
  /-- RAIL_MARGIN_RESTORE (R335). The core rail returns above its margin and PWR_MARGIN_N is high again, so margin_low clears and blocked downloads and verification may resume. -/
  | railMarginRestore (vcoreMv : Nat)
  /-- BUS_MASTER_ENABLE_CHANGE (R261). A config write changes Bus Master Enable of a function, making its rings wait or resume. -/
  | busMasterEnableChange (fn : Nat) (enable : Bool)
  /-- VF_ENABLE_SET (R255). VF Enable is set in PF0's SR-IOV capability, and the VF-owned ring sets return, disabled, to the VFs that RSET_OWNER names. -/
  | vfEnableSet
  /-- MBX_INVALID_COMMAND (R318). A mailbox request with a reserved cmd value is answered with INVALID_ARG. -/
  | mbxInvalidCommand (m : MbxReq)
  /-- LOG_REGION_WRITE_DONE (R318). A flash or fuse write made for a mailbox command, such as sealing a pinned key or logging a nonce or owner state, completes and the command's response is written within 20 ms. -/
  | logRegionWriteDone
  /-- BUNDLE_STAGING_COMPLETE (R352). Mladund finishes writing a ticket's bundle, or a cancelled ticket's restaged active bundle, into the Idle bank, which leaves Staging. -/
  | bundleStagingComplete
  /-- TAP_RESET (R368). TRST_N is driven low, which resets the IEEE 1149.1 TAP controller to Test-Logic-Reset. -/
  | tapReset
  deriving DecidableEq, Repr

end Sys2Proof
end

