-- ==== Sys2Proof/Machine/Bits.lean ====
section
/-! DEFINITION. Bytes, bit fields and the two arithmetic functions the spec takes from standards: the frame check
sequence of IEEE 802.3 and SipHash-2-4 (R74). -/

namespace Sys2Proof.Machine

/-- The bits [lsb + w - 1 : lsb] of a number. -/
def bits (v lsb w : Nat) : Nat := v / 2 ^ lsb % 2 ^ w

/-- A number with the bits [lsb + w - 1 : lsb] replaced. -/
def setBits (v lsb w x : Nat) : Nat := v - bits v lsb w * 2 ^ lsb + x % 2 ^ w * 2 ^ lsb

/-- A two's complement field of a given width, read as a signed number. -/
def signed (v w : Nat) : Int := if v % 2 ^ w < 2 ^ (w - 1) then (v % 2 ^ w : Nat) else (v % 2 ^ w : Nat) - (2 ^ w : Nat)

/-- Bool as a bit. -/
def bit (b : Bool) : Nat := if b then 1 else 0

/-- The byte at an offset; a byte beyond the end reads 0x00 (R23, R51). -/
def byteAt (b : List Byte) (i : Nat) : Nat := (b.getD i 0#8).toNat

/-- `n` bytes from an offset, 0x00 beyond the end. -/
def slice (b : List Byte) (off n : Nat) : List Byte := (List.range n).map (fun j => b.getD (off + j) 0#8)

/-- A big-endian number (R7: network order). -/
def beNat (b : List Byte) : Nat := b.foldl (fun a x => a * 256 + x.toNat) 0

/-- A little-endian number (R7: host order). -/
def leNat (b : List Byte) : Nat := b.foldr (fun x a => a * 256 + x.toNat) 0

/-- The low `n` bytes of a number, least significant first. -/
def leBytes (n v : Nat) : List Byte := (List.range n).map (fun j => BitVec.ofNat 8 (v / 256 ^ j))

/-- The low `n` bytes of a number, most significant first. -/
def beBytes (n v : Nat) : List Byte := (leBytes n v).reverse

/-- Big-endian field of a byte string. -/
def beAt (b : List Byte) (off n : Nat) : Nat := beNat (slice b off n)

/-- The byte string with bytes written at an offset; bytes beyond its end are not written. -/
def putBytes (b : List Byte) (off : Nat) (new : List Byte) : List Byte :=
  (b.take off) ++ (new.take (b.length - off)) ++ (b.drop (off + new.length))

/-- The byte string without `n` bytes at an offset. -/
def cutBytes (b : List Byte) (off n : Nat) : List Byte := b.take off ++ b.drop (off + n)

/-- The byte string with bytes inserted at an offset. -/
def insBytes (b : List Byte) (off : Nat) (new : List Byte) : List Byte := b.take off ++ new ++ b.drop off

/-- One bit of the reflected CRC-32. PRESUMED from IEEE 802.3, which the spec names; log entry 8. -/
def crcBit (c : Nat) : Nat := if c % 2 = 1 then (c / 2) ^^^ 0xEDB88320 else c / 2

/-- One byte of the CRC. -/
def crcByte (c : Nat) (b : Byte) : Nat :=
  crcBit (crcBit (crcBit (crcBit (crcBit (crcBit (crcBit (crcBit (c ^^^ b.toNat))))))))

/-- The CRC-32 of a byte string. -/
def crc32 (b : List Byte) : Nat := (b.foldl crcByte 0xFFFFFFFF) ^^^ 0xFFFFFFFF

/-- The four FCS bytes of a frame without its FCS, in transmission order. -/
def fcsOf (body : List Byte) : List Byte := leBytes 4 (crc32 body)

/-- The frame without its FCS. -/
def bodyOf (b : List Byte) : List Byte := b.take (b.length - 4)

/-- The frame with its FCS recomputed (R220 step 6). -/
def refcs (b : List Byte) : List Byte := bodyOf b ++ fcsOf (bodyOf b)

/-- The FCS is good. -/
def fcsGood (b : List Byte) : Bool := b.length ≥ 4 && b.drop (b.length - 4) == fcsOf (bodyOf b)

/-- One SipRound on (v0, v1, v2, v3). PRESUMED from the reference definition of SipHash that R74 names; log entry 8. -/
def sipRound (v : Word × Word × Word × Word) : Word × Word × Word × Word :=
  let v0 := v.1 + v.2.1
  let v1 := v.2.1.rotateLeft 13 ^^^ v0
  let v0 := v0.rotateLeft 32
  let v2 := v.2.2.1 + v.2.2.2
  let v3 := v.2.2.2.rotateLeft 16 ^^^ v2
  let v0 := v0 + v3
  let v3 := v3.rotateLeft 21 ^^^ v0
  let v2 := v2 + v1
  let v1 := v1.rotateLeft 17 ^^^ v2
  let v2 := v2.rotateLeft 32
  (v0, v1, v2, v3)

/-- One message word of SipHash-2-4. -/
def sipWord (v : Word × Word × Word × Word) (m : Word) : Word × Word × Word × Word :=
  let r := sipRound (sipRound (v.1, v.2.1, v.2.2.1, v.2.2.2 ^^^ m))
  (r.1 ^^^ m, r.2.1, r.2.2.1, r.2.2.2)

/-- The message words of SipHash: whole words, then the last bytes with the length on top. -/
def sipWords (b : List Byte) : List Word :=
  (List.range (b.length / 8)).map (fun i => BitVec.ofNat 64 (leNat (slice b (8 * i) 8))) ++
    [BitVec.ofNat 64 (leNat (b.drop (b.length / 8 * 8)) + b.length % 256 * 2 ^ 56)]

/-- SipHash-2-4 under the 128-bit key (k0, k1) (R65, R74). -/
def sipHash (k0 k1 : Word) (b : List Byte) : Word :=
  let v : Word × Word × Word × Word :=
    (k0 ^^^ 0x736f6d6570736575#64, k1 ^^^ 0x646f72616e646f6d#64, k0 ^^^ 0x6c7967656e657261#64, k1 ^^^ 0x7465646279746573#64)
  let v := (sipWords b).foldl sipWord v
  let v := (v.1, v.2.1, v.2.2.1 ^^^ 0xff#64, v.2.2.2)
  let v := sipRound (sipRound (sipRound (sipRound v)))
  v.1 ^^^ v.2.1 ^^^ v.2.2.1 ^^^ v.2.2.2

/-- The one's complement sum of 16-bit words after one word changes from `old` to `new` (RFC 1624, the incremental
update of R177, R208 and R223). -/
def csumUpdate (sum old new : Nat) : Nat :=
  let t := (65535 - sum % 65536) + (65535 - old % 65536) + new % 65536
  let t := t % 65536 + t / 65536
  let t := t % 65536 + t / 65536
  65535 - t

/-- The one's complement checksum of a byte string of even length. -/
def csum (b : List Byte) : Nat :=
  let t := ((List.range ((b.length + 1) / 2)).map (fun i => beAt b (2 * i) 2)).foldl (· + ·) 0
  let t := t % 65536 + t / 65536
  let t := t % 65536 + t / 65536
  65535 - t % 65536

/-- The position of the k-th number that is not in a rising list: the k-th free one of numbered items. -/
def kthFree (k : Nat) (taken : List Nat) : Nat := taken.foldl (fun i a => if a ≤ i then i + 1 else i) k

end Sys2Proof.Machine
end

