-- ==== Sys2Proof/Config.lean ====
section
/-! DEFINITION. What an implementation fixes and the spec leaves open: free values with no body, which nothing can
evaluate, and the ordering code of the device (R2). -/

namespace Sys2Proof.Config

/-- A free 64-bit value: what the spec draws from the Rind TRNG, or leaves to the implementation. The argument is the
count of draws so far, a field of State. Log entry 6. -/
opaque freeValue : Nat → BitVec 64

/-- What was fused as the device's unique ID (R397). Log entry 6. -/
opaque uidSeed : Nat

/-- The device's unique ID: never 0, and never all ones (R397). -/
def deviceUid : BitVec 64 := BitVec.ofNat 64 (1 + uidSeed % (2 ^ 64 - 2))

/-- The build number of the golden image, whose Rind firmware serves recovery mode, or 0 where the boot ROM serves it (R342, R397). Log
entry 6. -/
opaque goldenBuild : BitVec 64

/-- Kolropel's JEDEC manufacturer code, which IDCODE holds and the spec does not give (R368). Log entry 6. -/
opaque jedecCode : BitVec 11

/-- The ordering code (R2): 0 is VK5128-H144, 1 is VK5128-H96. A free choice of the part. Log entry 6. -/
opaque isH96 : Bool

/-- Whether this signature (the bytes r and s) over these bytes verifies under this ECDSA P-384 public key (R338). Log
entry 9. -/
opaque ecdsaOk (signed key sig : List (BitVec 8)) : Bool

/-- Whether this ML-DSA-65 signature over these bytes verifies under this public key (R338). Log entry 9. -/
opaque mldsaOk (signed key sig : List (BitVec 8)) : Bool

/-- The SHA-384 digest of a byte string, as a number whose lowest byte is digest byte 0 (R337, R338). Log entry 9. -/
opaque sha384 : List (BitVec 8) → BitVec 384

/-- What the Rind answers to an SPDM request beyond the digests that the spec names: certificates, capability fields and
signatures (R253). The arguments are the request code, its operands as bytes and the digests that run. Log entry 35. -/
opaque spdmAnswer (code : Nat) (operands digests : List (BitVec 8)) : List (BitVec 8)

/-- The Strainer entries of an image's default tables (R337, R352): the images of R122 of each, from the bytes of component 5,
whose layout the spec does not give. Log entry 36. -/
opaque strainerTables : List (BitVec 8) → List (List (BitVec 8))

/-- The block modes of an image's default tables (R350), two bits a block. Log entry 36. -/
opaque tableModes : List (BitVec 8) → Nat

/-- The register words of an image's default contents, as (BAR0 offset, value) pairs in the order in which Mladund writes them (R68,
R137, R191, R211, R234, R315). Log entry 36. -/
opaque defaultContents : List (BitVec 8) → List (Nat × Nat)

/-- Kolropel's PCI-SIG vendor ID, which the spec does not give (R252). Log entry 39. -/
opaque vendorId : BitVec 16

/-- The level of COMPAT_HIZ before the rails have reached their levels, which no row carries (R13, R328). Log entry 48. -/
opaque strapAtReset : Bool

/-- HBM per stack in GiB (R2). -/
def hbmGib : Nat := if isH96 then 24 else 36

/-- The largest Vat in GiB (R2). -/
def vatGibMax : Nat := if isH96 then 76 else 124

end Sys2Proof.Config
end

