-- ==== Sys2Proof/Machine/Tab.lean ====
section
/-! DEFINITION. Sparse tables of plain data, in one canonical form: keys strictly rising in lexicographic
order, no entry equal to what an unlisted key reads as. Every table of the device is one of these. -/

namespace Sys2Proof.Machine

/-- The key of a table entry: which kind or which row, and which instance. -/
abbrev Key := Nat × Nat

/-- A sparse table. -/
abbrev Tab (α : Type) := List (Key × α)

/-- Lexicographic order of keys. -/
def klt (a b : Key) : Bool := a.1 < b.1 || (a.1 == b.1 && a.2 < b.2)

/-- The value at a key; a key that is not listed reads as the default. -/
def tget {α : Type} (d : α) (t : Tab α) (k : Key) : α :=
  match t with
  | [] => d
  | (k', v) :: t' => if k' = k then v else tget d t' k

/-- The table without any entry at a key. -/
def tdel {α : Type} (t : Tab α) (k : Key) : Tab α := t.filter (fun e => e.1 ≠ k)

/-- The table with an entry put at its place in the order. -/
def tput {α : Type} (t : Tab α) (k : Key) (v : α) : Tab α :=
  match t with
  | [] => [(k, v)]
  | (k', v') :: t' =>
    if k' = k then (k, v) :: t'
    else if klt k k' then (k, v) :: (k', v') :: t'
    else (k', v') :: tput t' k v

/-- A write: the default value removes the entry, so that equal tables are equal data. -/
def tset {α : Type} [DecidableEq α] (d : α) (t : Tab α) (k : Key) (v : α) : Tab α :=
  if v = d then tdel t k else tput t k v

/-- Every entry changed; an entry that becomes the default is removed. -/
def tmap {α : Type} [DecidableEq α] (d : α) (f : Key → α → α) (t : Tab α) : Tab α :=
  (t.map (fun e => (e.1, f e.1 e.2))).filter (fun e => e.2 ≠ d)

/-- Keys strictly rising. -/
def trising {α : Type} : Tab α → Bool
  | [] => true
  | [_] => true
  | (k, _) :: (k', v') :: t => klt k k' && trising ((k', v') :: t)

/-- The canonical form, for a table whose default can depend on the key. -/
def Tab.wf {α : Type} [DecidableEq α] (d : Key → α) (t : Tab α) : Bool :=
  trising t && t.all (fun e => e.2 ≠ d e.1)

/-- The number of listed entries that satisfy a test. -/
def tcount {α : Type} (t : Tab α) (p : Key → α → Bool) : Nat :=
  (t.filter (fun e => p e.1 e.2)).length

/-- The first listed entry that satisfies a test, in key order. -/
def tfind {α : Type} (t : Tab α) (p : Key → α → Bool) : Option (Key × α) :=
  t.find? (fun e => p e.1 e.2)

end Sys2Proof.Machine
end

