-- ==== Sys2Proof/Machine/RegMap.lean ====
section
/-! DEFINITION. The setup register map (R370, R375) and the ring-set pages of BAR2 (R256): every register and every
field, with the offset, the bits, the access code and the reset value that its chapter's field table gives. -/

namespace Sys2Proof.Machine

/-- The access codes of R8. -/
inductive Acc where
  | ro | rw | rwp | w1c | w1s | wo | rind
  deriving DecidableEq, Repr

/-- The fields of the setup registers, each named register first. -/
inductive Fld where
  | DEV_ID_part | DEV_ID_stepping | DEV_ID_ordering | DEV_ID_hbm_gib | DEV_ID_hbm_stacks
  | DEV_UID_uid
  | DEV_PEN_pen
  | FW_BUILD_build
  | GLOBAL_STATUS_lock_violation | GLOBAL_STATUS_bad_access | GLOBAL_STATUS_setup_locked | GLOBAL_STATUS_start_complete
  | SETUP_LOCK_lock
  | LOCK_LOG_offset | LOCK_LOG_kind | LOCK_LOG_requester | LOCK_LOG_stamp
  | RIND_STATUS_mode | RIND_STATUS_mbx_busy | RIND_STATUS_key_pinned | RIND_STATUS_wdog_ms | RIND_STATUS_wdog_stage1
  | RESET_CAUSE_por | RESET_CAUSE_brownout | RESET_CAUSE_therm_trip | RESET_CAUSE_crit_a | RESET_CAUSE_rst_pin | RESET_CAUSE_wdog | RESET_CAUSE_host_full | RESET_CAUSE_failed_start | RESET_CAUSE_update_act | RESET_CAUSE_crit_b | RESET_CAUSE_perst | RESET_CAUSE_domain_req | RESET_CAUSE_domain_mck | RESET_CAUSE_wdog_mgmt | RESET_CAUSE_crit_where
  | START_STATUS_step_reached | START_STATUS_failed_count | START_STATUS_fail_threshold | START_STATUS_recovery | START_STATUS_start_complete | START_STATUS_last_fail | START_STATUS_fail_step
  | PD_STATE_on
  | PD_HELD_held
  | THERMAL_tj_q2 | THERMAL_hot_sensor | THERMAL_throttle_point | THERMAL_stage | THERMAL_invalid_sensors
  | RAIL_vcore_mv | RAIL_target_mv | RAIL_icore_a | RAIL_margin_low | RAIL_avs_fault
  | UPD_STATUS_active_slot | UPD_STATUS_trial | UPD_STATUS_trial_starts | UPD_STATUS_inactive_state | UPD_STATUS_owner | UPD_STATUS_chunks_done | UPD_STATUS_chunk_count | UPD_STATUS_fused_svn | UPD_STATUS_refusal | UPD_STATUS_ticket_pending | UPD_STATUS_ticket_scope | UPD_STATUS_owner_lock | UPD_STATUS_update_group | UPD_STATUS_hybrid_required | UPD_STATUS_owner_enrolled | UPD_STATUS_last_event
  | UPD_MILK_up_port | UPD_MILK_up_en | UPD_MILK_down_port | UPD_MILK_down_en | UPD_MILK_class | UPD_MILK_chain_stalled
  | REPAIR_LINKS_d2d_repaired | REPAIR_LINKS_d2d_failed | REPAIR_LINKS_hbm_repaired | REPAIR_LINKS_hbm_failed
  | BIST_STATUS_mem_repaired | BIST_STATUS_mem_failed | BIST_STATUS_first_pd | BIST_STATUS_any_failed
  | HIF_STATUS_arg_err | HIF_STATUS_host_reset | HIF_STATUS_drain_declared
  | HIF_RESET_LOG_stamp | HIF_RESET_LOG_epoch
  | EVT_CAUSE_cause
  | EVT_MASK_mask
  | EVT_REARM_any
  | RIND_EVT_mbx_done | RIND_EVT_throttle_event | RIND_EVT_margin_event | RIND_EVT_pd_event | RIND_EVT_sensor_event | RIND_EVT_avs_event
  | RSET_OWNER_owner | RSET_OWNER_tenant_lock | RSET_OWNER_tenant
  | PUNT_DEST_set | PUNT_DEST_tenant_route
  | SKIM_CFG_bypass_wait_ns
  | SKIM_STATUS_arg_err | SKIM_STATUS_poison_event | SKIM_STATUS_bank_held
  | HBM_SPLIT_hbm_split | HBM_SPLIT_lend_en | HBM_SPLIT_split_active | HBM_SPLIT_thermal_vat_cut | HBM_SPLIT_rekey_reserve | HBM_SPLIT_arg_err
  | MIRROR_SESSION_port | MIRROR_SESSION_class | MIRROR_SESSION_trunc_len | MIRROR_SESSION_edited | MIRROR_SESSION_valid
  | TIME_CFG_ref_sel | TIME_CFG_ts_clk_25 | TIME_CFG_pps_en | TIME_CFG_pps_falling | TIME_CFG_reepoch_hold_us
  | TIME_STATUS_ref_active | TIME_STATUS_step_allowed | TIME_STATUS_reepoch_pending | TIME_STATUS_step_pending | TIME_STATUS_slew_active | TIME_STATUS_rate_clamped | TIME_STATUS_ref_lost | TIME_STATUS_pps_event | TIME_STATUS_pps_missing | TIME_STATUS_arg_err | TIME_STATUS_epoch_event | TIME_STATUS_epoch
  | TIME_NOW_LO_subns | TIME_NOW_LO_ns | TIME_NOW_LO_epoch
  | TIME_NOW_HI_sec
  | TIME_RATE_rate_adj
  | TIME_SLEW_offset_ns | TIME_SLEW_slew_ppm
  | TIME_STEP_LO_subns | TIME_STEP_LO_ns | TIME_STEP_LO_epoch
  | TIME_STEP_HI_sec
  | TIME_CTL_step_go | TIME_CTL_step_at_pps | TIME_CTL_reepoch
  | PPS_CAP_LO_subns | PPS_CAP_LO_ns | PPS_CAP_LO_epoch
  | PPS_CAP_HI_sec
  | EPOCH_LOG_LO_subns | EPOCH_LOG_LO_ns | EPOCH_LOG_LO_epoch
  | EPOCH_LOG_HI_sec
  | TRIG_START_LO_subns | TRIG_START_LO_ns | TRIG_START_LO_epoch
  | TRIG_START_HI_sec
  | TRIG_PERIOD_period_ns
  | TRIG_CTL_targets | TRIG_CTL_out_mask | TRIG_CTL_pulse_ns | TRIG_CTL_arm | TRIG_CTL_fw_owned | TRIG_CTL_fire_late | TRIG_CTL_disarm_event | TRIG_CTL_fired
  | GATE_TRIG_unit | GATE_TRIG_en
  | STR_BLOCK_CFG_mode
  | STR_CTL_purge_addr | STR_CTL_purge_start | STR_CTL_purge_running | STR_CTL_purge_refused
  | STR_STATUS_arg_err | STR_STATUS_throttle_level | STR_STATUS_poison_event | STR_STATUS_poisoned_count
  | STR_LOG_addr | STR_LOG_kind | STR_LOG_stamp
  | STR_LKP_seg_src | STR_LKP_seg_len_m1 | STR_LKP_seg_dst | STR_LKP_seg_probe | STR_LKP_seg_en | STR_LKP_width0 | STR_LKP_width1 | STR_LKP_probe1_en | STR_LKP_search_en | STR_LKP_overload_action | STR_LKP_default_action
  | CHURN_CFG_mck_action
  | MCK_LOG_cluster | MCK_LOG_store | MCK_LOG_bank | MCK_LOG_addr | MCK_LOG_repeat | MCK_LOG_stamp
  | MCK_STATUS_mck_event | MCK_STATUS_fault_event | MCK_STATUS_quarantine_event | MCK_STATUS_reload_pending
  | CLUSTER_QUARANTINE_bits
  | PUBLISH_STATUS_parity | PUBLISH_STATUS_draining | PUBLISH_STATUS_staging | PUBLISH_STATUS_ready | PUBLISH_STATUS_busy_event | PUBLISH_STATUS_drain_cut_event | PUBLISH_STATUS_drain_count | PUBLISH_STATUS_publish_seq
  | PUBLISH_CFG_drain_limit_us
  | NAT_STATUS_arg_err | NAT_STATUS_exhaust_event
  | NAT_POOL_base | NAT_POOL_size | NAT_POOL_en | NAT_POOL_used | NAT_POOL_tag
  | NAT_TQUOTA_limit | NAT_TQUOTA_used
  | CELLAR_CFG_quota_action | CELLAR_CFG_full_action | CELLAR_CFG_stash_action
  | AGE_CTL_age_epoch | AGE_CTL_hint_min | AGE_CTL_sweep_running | AGE_CTL_sweep_pending | AGE_CTL_sweep_now
  | AGE_CLASS_timeout
  | CELLAR_REKEY_rekey_start | CELLAR_REKEY_rekey_running | CELLAR_REKEY_rekey_refused | CELLAR_REKEY_key_pinned | CELLAR_REKEY_rekey_bucket
  | CELLAR_STATUS_stash_used | CELLAR_STATUS_records_used | CELLAR_STATUS_arg_err | CELLAR_STATUS_poison_event
  | TENANT_QUOTA_limit | TENANT_QUOTA_used
  | SCHED_Q_sp_group | SCHED_Q_weight | SCHED_Q_timed | SCHED_Q_shape_en | SCHED_Q_rate_mbps | SCHED_Q_burst
  | SCHED_PORT_shape_en | SCHED_PORT_rate_mbps | SCHED_PORT_burst | SCHED_PORT_guard_en | SCHED_PORT_late_policy
  | LAUNCH_CFG_launch_horizon_us
  | EGR_STATUS_arg_err
  | GATE_LIST_open_mask | GATE_LIST_dur_ns | GATE_LIST_last
  | WHEY_CFG_key_sel
  | WHEY_STATUS_arg_err | WHEY_STATUS_overload_event | WHEY_STATUS_periodic_running | WHEY_STATUS_periodic_pending | WHEY_STATUS_export_epoch | WHEY_STATUS_queue_fill
  | WHEY_CTL_epoch_now
  | WHEY_ROUTE_set | WHEY_ROUTE_ring_en | WHEY_ROUTE_tenant_route | WHEY_ROUTE_ipfix_en | WHEY_ROUTE_exporter
  | IPFIX_CFG_en | IPFIX_CFG_port | IPFIX_CFG_class | IPFIX_CFG_smac_idx | IPFIX_CFG_dscp | IPFIX_CFG_mtu | IPFIX_CFG_template_refresh_s | IPFIX_CFG_dmac | IPFIX_CFG_src_ipv4 | IPFIX_CFG_dst_ipv4 | IPFIX_CFG_src_udp | IPFIX_CFG_dst_udp | IPFIX_CFG_domain_id | IPFIX_CFG_pen
  | DROP_SAMPLE_CFG_one_in
  | WHEY_VIEW_view | WHEY_VIEW_src_off | WHEY_VIEW_dst_off | WHEY_VIEW_proto_off | WHEY_VIEW_sport_off | WHEY_VIEW_dport_off | WHEY_VIEW_nat_lib
  | QWM_wm_kib | QWM_en
  | TALLY_CTL_snap_now | TALLY_CTL_snap_busy | TALLY_CTL_snap_pending | TALLY_CTL_snap_overrun | TALLY_CTL_arg_err | TALLY_CTL_snap_seq
  | TALLY_SETCFG_en | TALLY_SETCFG_user_only
  | TALLY_GROUP_user_read | TALLY_GROUP_n_counters
  | TALLY_PROG_event | TALLY_PROG_tenant | TALLY_PROG_tenant_en | TALLY_PROG_chain | TALLY_PROG_load | TALLY_PROG_load_value
  | OCTET_LAYOUT_start_width | OCTET_LAYOUT_lane_rate | OCTET_LAYOUT_tx_invert | OCTET_LAYOUT_rx_invert
  | OCTET_STATUS_arg_err
  | LANE_TEST_tx_pattern | LANE_TEST_rx_pattern | LANE_TEST_test_rate | LANE_TEST_latch | LANE_TEST_clear | LANE_TEST_lock | LANE_TEST_lock_lost | LANE_TEST_saturated | LANE_TEST_err_cnt | LANE_TEST_bit_cnt | LANE_TEST_lock_loss
  | PORT_CFG_admin_en | PORT_CFG_an_en | PORT_CFG_lt_en | PORT_CFG_fabric_port | PORT_CFG_hold_admit | PORT_CFG_pause_rx_en | PORT_CFG_pfc_rx_en | PORT_CFG_degrade_down | PORT_CFG_max_frame | PORT_CFG_down_debounce_us | PORT_CFG_up_debounce_us
  | PORT_HOLD_port_hold_us
  | PORT_STATUS_link_up | PORT_STATUS_an_done | PORT_STATUS_lt_done | PORT_STATUS_align_lock | PORT_STATUS_local_fault | PORT_STATUS_remote_fault | PORT_STATUS_hold_active | PORT_STATUS_flushing | PORT_STATUS_fec_degraded | PORT_STATUS_down_event | PORT_STATUS_up_event | PORT_STATUS_degrade_event | PORT_STATUS_arg_err
  | FEC_DEGRADE_degrade_thresh | FEC_DEGRADE_degrade_window_us
  | PFC_MAP_class_prio
  | PTP_PORT_rx_adj_ps | PTP_PORT_tx_adj_ps | PTP_PORT_asym_ps | PTP_PORT_tc_en | PTP_PORT_tc_l2 | PTP_PORT_tc_udp
  | PORT_TEST_loopback | PORT_TEST_gen_en | PORT_TEST_chk_en | PORT_TEST_payload | PORT_TEST_fill | PORT_TEST_gen_len | PORT_TEST_gen_rate | PORT_TEST_gen_count
  | PORT_GEN_HDR_dmac | PORT_GEN_HDR_ethertype
  | PORT_CHK_gen_sent | PORT_CHK_chk_ok | PORT_CHK_chk_gap | PORT_CHK_chk_misorder | PORT_CHK_chk_payload_err
  | SEL_OFFSETS_off
  | SEP_STATUS_arg_err | SEP_STATUS_lb_key_pending
  | LB_KEY_key
  | LB_KEY_CTL_apply
  | PUNT_AGG_rate_pps | PUNT_AGG_burst
  | PUNT_POLICER_rate_pps | PUNT_POLICER_burst
  | SEL_ENTRY_sel_data | SEL_ENTRY_sel_care | SEL_ENTRY_profile_id | SEL_ENTRY_inner | SEL_ENTRY_pass_mask | SEL_ENTRY_set_mask | SEL_ENTRY_valid
  | PROFILE_ext_src_off | PROFILE_ext_width_m1 | PROFILE_ext_dst_off | PROFILE_ext_en | PROFILE_probe_en | PROFILE_probe_w | PROFILE_probe_off | PROFILE_probe_adj | PROFILE_l3_off | PROFILE_l3_kind | PROFILE_l4_off | PROFILE_l4_kind | PROFILE_tsrc_mode | PROFILE_tsrc_off | PROFILE_tsrc_shift | PROFILE_tsrc_bits_m1 | PROFILE_tmap_base | PROFILE_chain_en | PROFILE_chain_base | PROFILE_depth_action | PROFILE_decap_start | PROFILE_decap_len | PROFILE_short_action | PROFILE_trail_action | PROFILE_ip_len_check | PROFILE_udp_len_check | PROFILE_lb_mask | PROFILE_lb_table | PROFILE_lb_en | PROFILE_tenant_miss_action | PROFILE_tenant_key | PROFILE_valid
  | SEP_PORT_CFG_assumed_len | SEP_PORT_CFG_port_set
  | TENANT_MAP_tenant | TENANT_MAP_valid
  | POOL_CARVE_p0_granules | POOL_CARVE_p1_granules | POOL_CARVE_p2_granules | POOL_CARVE_p3_granules
  | BUF_STATUS_arg_err | BUF_STATUS_double_free_event | BUF_STATUS_foreign_free_event | BUF_STATUS_vat_full_event | BUF_STATUS_ecc_event | BUF_STATUS_buffers_retired
  | POOL_STATUS_buffers | POOL_STATUS_free | POOL_STATUS_free_min
  | BUF_LOG_index | BUF_LOG_pool | BUF_LOG_requester | BUF_LOG_owner | BUF_LOG_kind | BUF_LOG_stamp
  | VAT_CFG_vat_gib
  | VAT_STATUS_segments | VAT_STATUS_segments_free | VAT_STATUS_free_min
  | POOL_QUOTA_limit | POOL_QUOTA_used
  | ING_CLASS_mode | ING_CLASS_default_class | ING_CLASS_pcp_class
  | PFC_TX_pause_quanta | PFC_TX_refresh_quanta
  | ING_ACCT_xoff | ING_ACCT_xon | ING_ACCT_headroom | ING_ACCT_pfc_gen | ING_ACCT_empty_pfc | ING_ACCT_cut_through
  | EGR_Q_egr_limit | EGR_Q_spill_thresh | EGR_Q_spill_en | EGR_Q_vat_limit | EGR_Q_ecn_min | EGR_Q_ecn_max | EGR_Q_ecn_en
  | FAB_CFG_device_id | FAB_CFG_fabric_en | FAB_CFG_ethertype | FAB_CFG_hops_init | FAB_CFG_late_pass | FAB_CFG_gap_timeout_us | FAB_CFG_pin_ms
  | RESEQ_CFG_stream_hold_max
  | FAB_STATUS_arg_err | FAB_STATUS_overflow_event | FAB_STATUS_pin_event | FAB_STATUS_held
  | FAB_UPLINK_port | FAB_UPLINK_weight | FAB_UPLINK_valid
  | FAB_ROUTE_uplink_mask | FAB_ROUTE_valid | FAB_ROUTE_pinned
  | FAB_GROUP_dest | FAB_GROUP_valid
  | NH_GROUP_member_base | NH_GROUP_count | NH_GROUP_valid | NH_GROUP_skip_down
  | NH_MEMBER_dmac | NH_MEMBER_port | NH_MEMBER_valid | NH_MEMBER_smac_idx | NH_MEMBER_vid | NH_MEMBER_vlan_op | NH_MEMBER_pcp | NH_MEMBER_l2_en
  | SMAC_mac
  | INDIR_entry
  | RING_BASE_addr
  | RING_CTL_log2_size | RING_CTL_en | RING_CTL_vector | RING_CTL_mod_count | RING_CTL_mod_time_us | RING_CTL_irq_en | RING_CTL_stopped
  | SB_ADDR_addr
  | SET_CTL_set_en
  | SET_ERR_db_err | SET_ERR_dma_err | SET_ERR_cfg_err | SET_ERR_last_ring
  deriving DecidableEq, Repr

/-- The setup registers. -/
inductive Reg where
  | DEV_ID | DEV_UID | DEV_PEN | FW_BUILD | GLOBAL_STATUS | SETUP_LOCK | LOCK_LOG | RIND_STATUS
  | RESET_CAUSE | START_STATUS | PD_STATE | PD_HELD | THERMAL | RAIL | UPD_STATUS | UPD_MILK
  | REPAIR_LINKS | BIST_STATUS | HIF_STATUS | HIF_RESET_LOG | EVT_CAUSE | EVT_MASK | EVT_REARM | RIND_EVT
  | RSET_OWNER | PUNT_DEST | SKIM_CFG | SKIM_STATUS | HBM_SPLIT | MIRROR_SESSION | TIME_CFG | TIME_STATUS
  | TIME_NOW_LO | TIME_NOW_HI | TIME_RATE | TIME_SLEW | TIME_STEP_LO | TIME_STEP_HI | TIME_CTL | PPS_CAP_LO
  | PPS_CAP_HI | EPOCH_LOG_LO | EPOCH_LOG_HI | TRIG_START_LO | TRIG_START_HI | TRIG_PERIOD | TRIG_CTL | GATE_TRIG
  | STR_BLOCK_CFG | STR_CTL | STR_STATUS | STR_LOG | STR_LKP | CHURN_CFG | MCK_LOG | MCK_STATUS
  | CLUSTER_QUARANTINE | PUBLISH_STATUS | PUBLISH_CFG | NAT_STATUS | NAT_POOL | NAT_TQUOTA | CELLAR_CFG | AGE_CTL
  | AGE_CLASS | CELLAR_REKEY | CELLAR_STATUS | TENANT_QUOTA | SCHED_Q | SCHED_PORT | LAUNCH_CFG | EGR_STATUS
  | GATE_LIST | WHEY_CFG | WHEY_STATUS | WHEY_CTL | WHEY_ROUTE | IPFIX_CFG | DROP_SAMPLE_CFG | WHEY_VIEW
  | QWM | TALLY_CTL | TALLY_SETCFG | TALLY_GROUP | TALLY_PROG | OCTET_LAYOUT | OCTET_STATUS | LANE_TEST
  | PORT_CFG | PORT_HOLD | PORT_STATUS | FEC_DEGRADE | PFC_MAP | PTP_PORT | PORT_TEST | PORT_GEN_HDR
  | PORT_CHK | SEL_OFFSETS | SEP_STATUS | LB_KEY | LB_KEY_CTL | PUNT_AGG | PUNT_POLICER | SEL_ENTRY
  | PROFILE | SEP_PORT_CFG | TENANT_MAP | POOL_CARVE | BUF_STATUS | POOL_STATUS | BUF_LOG | VAT_CFG
  | VAT_STATUS | POOL_QUOTA | ING_CLASS | PFC_TX | ING_ACCT | EGR_Q | FAB_CFG | RESEQ_CFG
  | FAB_STATUS | FAB_UPLINK | FAB_ROUTE | FAB_GROUP | NH_GROUP | NH_MEMBER | SMAC | INDIR
  | RING_BASE | RING_CTL | SB_ADDR | SET_CTL | SET_ERR
  deriving DecidableEq, Repr

/-- One field of a register: its lowest bit, width, access code and reset value; a field that repeats within its
register has `reps` copies, `stride` bits apart. -/
structure FldInfo where
  lsb : Nat
  width : Nat
  acc : Acc
  reset : Nat
  reps : Nat
  stride : Nat
  deriving DecidableEq, Repr

/-- One register: its byte offset, its size in bits, its two index ranges with their byte strides, its BAR. -/
structure RegInfo where
  base : Nat
  bits : Nat
  n1 : Nat
  s1 : Nat
  n2 : Nat
  s2 : Nat
  bar : Nat
  deriving DecidableEq, Repr

/-- The register a field belongs to. -/
def Fld.reg (f : Fld) : Reg :=
  match f with
  | .DEV_ID_part => .DEV_ID
  | .DEV_ID_stepping => .DEV_ID
  | .DEV_ID_ordering => .DEV_ID
  | .DEV_ID_hbm_gib => .DEV_ID
  | .DEV_ID_hbm_stacks => .DEV_ID
  | .DEV_UID_uid => .DEV_UID
  | .DEV_PEN_pen => .DEV_PEN
  | .FW_BUILD_build => .FW_BUILD
  | .GLOBAL_STATUS_lock_violation => .GLOBAL_STATUS
  | .GLOBAL_STATUS_bad_access => .GLOBAL_STATUS
  | .GLOBAL_STATUS_setup_locked => .GLOBAL_STATUS
  | .GLOBAL_STATUS_start_complete => .GLOBAL_STATUS
  | .SETUP_LOCK_lock => .SETUP_LOCK
  | .LOCK_LOG_offset => .LOCK_LOG
  | .LOCK_LOG_kind => .LOCK_LOG
  | .LOCK_LOG_requester => .LOCK_LOG
  | .LOCK_LOG_stamp => .LOCK_LOG
  | .RIND_STATUS_mode => .RIND_STATUS
  | .RIND_STATUS_mbx_busy => .RIND_STATUS
  | .RIND_STATUS_key_pinned => .RIND_STATUS
  | .RIND_STATUS_wdog_ms => .RIND_STATUS
  | .RIND_STATUS_wdog_stage1 => .RIND_STATUS
  | .RESET_CAUSE_por => .RESET_CAUSE
  | .RESET_CAUSE_brownout => .RESET_CAUSE
  | .RESET_CAUSE_therm_trip => .RESET_CAUSE
  | .RESET_CAUSE_crit_a => .RESET_CAUSE
  | .RESET_CAUSE_rst_pin => .RESET_CAUSE
  | .RESET_CAUSE_wdog => .RESET_CAUSE
  | .RESET_CAUSE_host_full => .RESET_CAUSE
  | .RESET_CAUSE_failed_start => .RESET_CAUSE
  | .RESET_CAUSE_update_act => .RESET_CAUSE
  | .RESET_CAUSE_crit_b => .RESET_CAUSE
  | .RESET_CAUSE_perst => .RESET_CAUSE
  | .RESET_CAUSE_domain_req => .RESET_CAUSE
  | .RESET_CAUSE_domain_mck => .RESET_CAUSE
  | .RESET_CAUSE_wdog_mgmt => .RESET_CAUSE
  | .RESET_CAUSE_crit_where => .RESET_CAUSE
  | .START_STATUS_step_reached => .START_STATUS
  | .START_STATUS_failed_count => .START_STATUS
  | .START_STATUS_fail_threshold => .START_STATUS
  | .START_STATUS_recovery => .START_STATUS
  | .START_STATUS_start_complete => .START_STATUS
  | .START_STATUS_last_fail => .START_STATUS
  | .START_STATUS_fail_step => .START_STATUS
  | .PD_STATE_on => .PD_STATE
  | .PD_HELD_held => .PD_HELD
  | .THERMAL_tj_q2 => .THERMAL
  | .THERMAL_hot_sensor => .THERMAL
  | .THERMAL_throttle_point => .THERMAL
  | .THERMAL_stage => .THERMAL
  | .THERMAL_invalid_sensors => .THERMAL
  | .RAIL_vcore_mv => .RAIL
  | .RAIL_target_mv => .RAIL
  | .RAIL_icore_a => .RAIL
  | .RAIL_margin_low => .RAIL
  | .RAIL_avs_fault => .RAIL
  | .UPD_STATUS_active_slot => .UPD_STATUS
  | .UPD_STATUS_trial => .UPD_STATUS
  | .UPD_STATUS_trial_starts => .UPD_STATUS
  | .UPD_STATUS_inactive_state => .UPD_STATUS
  | .UPD_STATUS_owner => .UPD_STATUS
  | .UPD_STATUS_chunks_done => .UPD_STATUS
  | .UPD_STATUS_chunk_count => .UPD_STATUS
  | .UPD_STATUS_fused_svn => .UPD_STATUS
  | .UPD_STATUS_refusal => .UPD_STATUS
  | .UPD_STATUS_ticket_pending => .UPD_STATUS
  | .UPD_STATUS_ticket_scope => .UPD_STATUS
  | .UPD_STATUS_owner_lock => .UPD_STATUS
  | .UPD_STATUS_update_group => .UPD_STATUS
  | .UPD_STATUS_hybrid_required => .UPD_STATUS
  | .UPD_STATUS_owner_enrolled => .UPD_STATUS
  | .UPD_STATUS_last_event => .UPD_STATUS
  | .UPD_MILK_up_port => .UPD_MILK
  | .UPD_MILK_up_en => .UPD_MILK
  | .UPD_MILK_down_port => .UPD_MILK
  | .UPD_MILK_down_en => .UPD_MILK
  | .UPD_MILK_class => .UPD_MILK
  | .UPD_MILK_chain_stalled => .UPD_MILK
  | .REPAIR_LINKS_d2d_repaired => .REPAIR_LINKS
  | .REPAIR_LINKS_d2d_failed => .REPAIR_LINKS
  | .REPAIR_LINKS_hbm_repaired => .REPAIR_LINKS
  | .REPAIR_LINKS_hbm_failed => .REPAIR_LINKS
  | .BIST_STATUS_mem_repaired => .BIST_STATUS
  | .BIST_STATUS_mem_failed => .BIST_STATUS
  | .BIST_STATUS_first_pd => .BIST_STATUS
  | .BIST_STATUS_any_failed => .BIST_STATUS
  | .HIF_STATUS_arg_err => .HIF_STATUS
  | .HIF_STATUS_host_reset => .HIF_STATUS
  | .HIF_STATUS_drain_declared => .HIF_STATUS
  | .HIF_RESET_LOG_stamp => .HIF_RESET_LOG
  | .HIF_RESET_LOG_epoch => .HIF_RESET_LOG
  | .EVT_CAUSE_cause => .EVT_CAUSE
  | .EVT_MASK_mask => .EVT_MASK
  | .EVT_REARM_any => .EVT_REARM
  | .RIND_EVT_mbx_done => .RIND_EVT
  | .RIND_EVT_throttle_event => .RIND_EVT
  | .RIND_EVT_margin_event => .RIND_EVT
  | .RIND_EVT_pd_event => .RIND_EVT
  | .RIND_EVT_sensor_event => .RIND_EVT
  | .RIND_EVT_avs_event => .RIND_EVT
  | .RSET_OWNER_owner => .RSET_OWNER
  | .RSET_OWNER_tenant_lock => .RSET_OWNER
  | .RSET_OWNER_tenant => .RSET_OWNER
  | .PUNT_DEST_set => .PUNT_DEST
  | .PUNT_DEST_tenant_route => .PUNT_DEST
  | .SKIM_CFG_bypass_wait_ns => .SKIM_CFG
  | .SKIM_STATUS_arg_err => .SKIM_STATUS
  | .SKIM_STATUS_poison_event => .SKIM_STATUS
  | .SKIM_STATUS_bank_held => .SKIM_STATUS
  | .HBM_SPLIT_hbm_split => .HBM_SPLIT
  | .HBM_SPLIT_lend_en => .HBM_SPLIT
  | .HBM_SPLIT_split_active => .HBM_SPLIT
  | .HBM_SPLIT_thermal_vat_cut => .HBM_SPLIT
  | .HBM_SPLIT_rekey_reserve => .HBM_SPLIT
  | .HBM_SPLIT_arg_err => .HBM_SPLIT
  | .MIRROR_SESSION_port => .MIRROR_SESSION
  | .MIRROR_SESSION_class => .MIRROR_SESSION
  | .MIRROR_SESSION_trunc_len => .MIRROR_SESSION
  | .MIRROR_SESSION_edited => .MIRROR_SESSION
  | .MIRROR_SESSION_valid => .MIRROR_SESSION
  | .TIME_CFG_ref_sel => .TIME_CFG
  | .TIME_CFG_ts_clk_25 => .TIME_CFG
  | .TIME_CFG_pps_en => .TIME_CFG
  | .TIME_CFG_pps_falling => .TIME_CFG
  | .TIME_CFG_reepoch_hold_us => .TIME_CFG
  | .TIME_STATUS_ref_active => .TIME_STATUS
  | .TIME_STATUS_step_allowed => .TIME_STATUS
  | .TIME_STATUS_reepoch_pending => .TIME_STATUS
  | .TIME_STATUS_step_pending => .TIME_STATUS
  | .TIME_STATUS_slew_active => .TIME_STATUS
  | .TIME_STATUS_rate_clamped => .TIME_STATUS
  | .TIME_STATUS_ref_lost => .TIME_STATUS
  | .TIME_STATUS_pps_event => .TIME_STATUS
  | .TIME_STATUS_pps_missing => .TIME_STATUS
  | .TIME_STATUS_arg_err => .TIME_STATUS
  | .TIME_STATUS_epoch_event => .TIME_STATUS
  | .TIME_STATUS_epoch => .TIME_STATUS
  | .TIME_NOW_LO_subns => .TIME_NOW_LO
  | .TIME_NOW_LO_ns => .TIME_NOW_LO
  | .TIME_NOW_LO_epoch => .TIME_NOW_LO
  | .TIME_NOW_HI_sec => .TIME_NOW_HI
  | .TIME_RATE_rate_adj => .TIME_RATE
  | .TIME_SLEW_offset_ns => .TIME_SLEW
  | .TIME_SLEW_slew_ppm => .TIME_SLEW
  | .TIME_STEP_LO_subns => .TIME_STEP_LO
  | .TIME_STEP_LO_ns => .TIME_STEP_LO
  | .TIME_STEP_LO_epoch => .TIME_STEP_LO
  | .TIME_STEP_HI_sec => .TIME_STEP_HI
  | .TIME_CTL_step_go => .TIME_CTL
  | .TIME_CTL_step_at_pps => .TIME_CTL
  | .TIME_CTL_reepoch => .TIME_CTL
  | .PPS_CAP_LO_subns => .PPS_CAP_LO
  | .PPS_CAP_LO_ns => .PPS_CAP_LO
  | .PPS_CAP_LO_epoch => .PPS_CAP_LO
  | .PPS_CAP_HI_sec => .PPS_CAP_HI
  | .EPOCH_LOG_LO_subns => .EPOCH_LOG_LO
  | .EPOCH_LOG_LO_ns => .EPOCH_LOG_LO
  | .EPOCH_LOG_LO_epoch => .EPOCH_LOG_LO
  | .EPOCH_LOG_HI_sec => .EPOCH_LOG_HI
  | .TRIG_START_LO_subns => .TRIG_START_LO
  | .TRIG_START_LO_ns => .TRIG_START_LO
  | .TRIG_START_LO_epoch => .TRIG_START_LO
  | .TRIG_START_HI_sec => .TRIG_START_HI
  | .TRIG_PERIOD_period_ns => .TRIG_PERIOD
  | .TRIG_CTL_targets => .TRIG_CTL
  | .TRIG_CTL_out_mask => .TRIG_CTL
  | .TRIG_CTL_pulse_ns => .TRIG_CTL
  | .TRIG_CTL_arm => .TRIG_CTL
  | .TRIG_CTL_fw_owned => .TRIG_CTL
  | .TRIG_CTL_fire_late => .TRIG_CTL
  | .TRIG_CTL_disarm_event => .TRIG_CTL
  | .TRIG_CTL_fired => .TRIG_CTL
  | .GATE_TRIG_unit => .GATE_TRIG
  | .GATE_TRIG_en => .GATE_TRIG
  | .STR_BLOCK_CFG_mode => .STR_BLOCK_CFG
  | .STR_CTL_purge_addr => .STR_CTL
  | .STR_CTL_purge_start => .STR_CTL
  | .STR_CTL_purge_running => .STR_CTL
  | .STR_CTL_purge_refused => .STR_CTL
  | .STR_STATUS_arg_err => .STR_STATUS
  | .STR_STATUS_throttle_level => .STR_STATUS
  | .STR_STATUS_poison_event => .STR_STATUS
  | .STR_STATUS_poisoned_count => .STR_STATUS
  | .STR_LOG_addr => .STR_LOG
  | .STR_LOG_kind => .STR_LOG
  | .STR_LOG_stamp => .STR_LOG
  | .STR_LKP_seg_src => .STR_LKP
  | .STR_LKP_seg_len_m1 => .STR_LKP
  | .STR_LKP_seg_dst => .STR_LKP
  | .STR_LKP_seg_probe => .STR_LKP
  | .STR_LKP_seg_en => .STR_LKP
  | .STR_LKP_width0 => .STR_LKP
  | .STR_LKP_width1 => .STR_LKP
  | .STR_LKP_probe1_en => .STR_LKP
  | .STR_LKP_search_en => .STR_LKP
  | .STR_LKP_overload_action => .STR_LKP
  | .STR_LKP_default_action => .STR_LKP
  | .CHURN_CFG_mck_action => .CHURN_CFG
  | .MCK_LOG_cluster => .MCK_LOG
  | .MCK_LOG_store => .MCK_LOG
  | .MCK_LOG_bank => .MCK_LOG
  | .MCK_LOG_addr => .MCK_LOG
  | .MCK_LOG_repeat => .MCK_LOG
  | .MCK_LOG_stamp => .MCK_LOG
  | .MCK_STATUS_mck_event => .MCK_STATUS
  | .MCK_STATUS_fault_event => .MCK_STATUS
  | .MCK_STATUS_quarantine_event => .MCK_STATUS
  | .MCK_STATUS_reload_pending => .MCK_STATUS
  | .CLUSTER_QUARANTINE_bits => .CLUSTER_QUARANTINE
  | .PUBLISH_STATUS_parity => .PUBLISH_STATUS
  | .PUBLISH_STATUS_draining => .PUBLISH_STATUS
  | .PUBLISH_STATUS_staging => .PUBLISH_STATUS
  | .PUBLISH_STATUS_ready => .PUBLISH_STATUS
  | .PUBLISH_STATUS_busy_event => .PUBLISH_STATUS
  | .PUBLISH_STATUS_drain_cut_event => .PUBLISH_STATUS
  | .PUBLISH_STATUS_drain_count => .PUBLISH_STATUS
  | .PUBLISH_STATUS_publish_seq => .PUBLISH_STATUS
  | .PUBLISH_CFG_drain_limit_us => .PUBLISH_CFG
  | .NAT_STATUS_arg_err => .NAT_STATUS
  | .NAT_STATUS_exhaust_event => .NAT_STATUS
  | .NAT_POOL_base => .NAT_POOL
  | .NAT_POOL_size => .NAT_POOL
  | .NAT_POOL_en => .NAT_POOL
  | .NAT_POOL_used => .NAT_POOL
  | .NAT_POOL_tag => .NAT_POOL
  | .NAT_TQUOTA_limit => .NAT_TQUOTA
  | .NAT_TQUOTA_used => .NAT_TQUOTA
  | .CELLAR_CFG_quota_action => .CELLAR_CFG
  | .CELLAR_CFG_full_action => .CELLAR_CFG
  | .CELLAR_CFG_stash_action => .CELLAR_CFG
  | .AGE_CTL_age_epoch => .AGE_CTL
  | .AGE_CTL_hint_min => .AGE_CTL
  | .AGE_CTL_sweep_running => .AGE_CTL
  | .AGE_CTL_sweep_pending => .AGE_CTL
  | .AGE_CTL_sweep_now => .AGE_CTL
  | .AGE_CLASS_timeout => .AGE_CLASS
  | .CELLAR_REKEY_rekey_start => .CELLAR_REKEY
  | .CELLAR_REKEY_rekey_running => .CELLAR_REKEY
  | .CELLAR_REKEY_rekey_refused => .CELLAR_REKEY
  | .CELLAR_REKEY_key_pinned => .CELLAR_REKEY
  | .CELLAR_REKEY_rekey_bucket => .CELLAR_REKEY
  | .CELLAR_STATUS_stash_used => .CELLAR_STATUS
  | .CELLAR_STATUS_records_used => .CELLAR_STATUS
  | .CELLAR_STATUS_arg_err => .CELLAR_STATUS
  | .CELLAR_STATUS_poison_event => .CELLAR_STATUS
  | .TENANT_QUOTA_limit => .TENANT_QUOTA
  | .TENANT_QUOTA_used => .TENANT_QUOTA
  | .SCHED_Q_sp_group => .SCHED_Q
  | .SCHED_Q_weight => .SCHED_Q
  | .SCHED_Q_timed => .SCHED_Q
  | .SCHED_Q_shape_en => .SCHED_Q
  | .SCHED_Q_rate_mbps => .SCHED_Q
  | .SCHED_Q_burst => .SCHED_Q
  | .SCHED_PORT_shape_en => .SCHED_PORT
  | .SCHED_PORT_rate_mbps => .SCHED_PORT
  | .SCHED_PORT_burst => .SCHED_PORT
  | .SCHED_PORT_guard_en => .SCHED_PORT
  | .SCHED_PORT_late_policy => .SCHED_PORT
  | .LAUNCH_CFG_launch_horizon_us => .LAUNCH_CFG
  | .EGR_STATUS_arg_err => .EGR_STATUS
  | .GATE_LIST_open_mask => .GATE_LIST
  | .GATE_LIST_dur_ns => .GATE_LIST
  | .GATE_LIST_last => .GATE_LIST
  | .WHEY_CFG_key_sel => .WHEY_CFG
  | .WHEY_STATUS_arg_err => .WHEY_STATUS
  | .WHEY_STATUS_overload_event => .WHEY_STATUS
  | .WHEY_STATUS_periodic_running => .WHEY_STATUS
  | .WHEY_STATUS_periodic_pending => .WHEY_STATUS
  | .WHEY_STATUS_export_epoch => .WHEY_STATUS
  | .WHEY_STATUS_queue_fill => .WHEY_STATUS
  | .WHEY_CTL_epoch_now => .WHEY_CTL
  | .WHEY_ROUTE_set => .WHEY_ROUTE
  | .WHEY_ROUTE_ring_en => .WHEY_ROUTE
  | .WHEY_ROUTE_tenant_route => .WHEY_ROUTE
  | .WHEY_ROUTE_ipfix_en => .WHEY_ROUTE
  | .WHEY_ROUTE_exporter => .WHEY_ROUTE
  | .IPFIX_CFG_en => .IPFIX_CFG
  | .IPFIX_CFG_port => .IPFIX_CFG
  | .IPFIX_CFG_class => .IPFIX_CFG
  | .IPFIX_CFG_smac_idx => .IPFIX_CFG
  | .IPFIX_CFG_dscp => .IPFIX_CFG
  | .IPFIX_CFG_mtu => .IPFIX_CFG
  | .IPFIX_CFG_template_refresh_s => .IPFIX_CFG
  | .IPFIX_CFG_dmac => .IPFIX_CFG
  | .IPFIX_CFG_src_ipv4 => .IPFIX_CFG
  | .IPFIX_CFG_dst_ipv4 => .IPFIX_CFG
  | .IPFIX_CFG_src_udp => .IPFIX_CFG
  | .IPFIX_CFG_dst_udp => .IPFIX_CFG
  | .IPFIX_CFG_domain_id => .IPFIX_CFG
  | .IPFIX_CFG_pen => .IPFIX_CFG
  | .DROP_SAMPLE_CFG_one_in => .DROP_SAMPLE_CFG
  | .WHEY_VIEW_view => .WHEY_VIEW
  | .WHEY_VIEW_src_off => .WHEY_VIEW
  | .WHEY_VIEW_dst_off => .WHEY_VIEW
  | .WHEY_VIEW_proto_off => .WHEY_VIEW
  | .WHEY_VIEW_sport_off => .WHEY_VIEW
  | .WHEY_VIEW_dport_off => .WHEY_VIEW
  | .WHEY_VIEW_nat_lib => .WHEY_VIEW
  | .QWM_wm_kib => .QWM
  | .QWM_en => .QWM
  | .TALLY_CTL_snap_now => .TALLY_CTL
  | .TALLY_CTL_snap_busy => .TALLY_CTL
  | .TALLY_CTL_snap_pending => .TALLY_CTL
  | .TALLY_CTL_snap_overrun => .TALLY_CTL
  | .TALLY_CTL_arg_err => .TALLY_CTL
  | .TALLY_CTL_snap_seq => .TALLY_CTL
  | .TALLY_SETCFG_en => .TALLY_SETCFG
  | .TALLY_SETCFG_user_only => .TALLY_SETCFG
  | .TALLY_GROUP_user_read => .TALLY_GROUP
  | .TALLY_GROUP_n_counters => .TALLY_GROUP
  | .TALLY_PROG_event => .TALLY_PROG
  | .TALLY_PROG_tenant => .TALLY_PROG
  | .TALLY_PROG_tenant_en => .TALLY_PROG
  | .TALLY_PROG_chain => .TALLY_PROG
  | .TALLY_PROG_load => .TALLY_PROG
  | .TALLY_PROG_load_value => .TALLY_PROG
  | .OCTET_LAYOUT_start_width => .OCTET_LAYOUT
  | .OCTET_LAYOUT_lane_rate => .OCTET_LAYOUT
  | .OCTET_LAYOUT_tx_invert => .OCTET_LAYOUT
  | .OCTET_LAYOUT_rx_invert => .OCTET_LAYOUT
  | .OCTET_STATUS_arg_err => .OCTET_STATUS
  | .LANE_TEST_tx_pattern => .LANE_TEST
  | .LANE_TEST_rx_pattern => .LANE_TEST
  | .LANE_TEST_test_rate => .LANE_TEST
  | .LANE_TEST_latch => .LANE_TEST
  | .LANE_TEST_clear => .LANE_TEST
  | .LANE_TEST_lock => .LANE_TEST
  | .LANE_TEST_lock_lost => .LANE_TEST
  | .LANE_TEST_saturated => .LANE_TEST
  | .LANE_TEST_err_cnt => .LANE_TEST
  | .LANE_TEST_bit_cnt => .LANE_TEST
  | .LANE_TEST_lock_loss => .LANE_TEST
  | .PORT_CFG_admin_en => .PORT_CFG
  | .PORT_CFG_an_en => .PORT_CFG
  | .PORT_CFG_lt_en => .PORT_CFG
  | .PORT_CFG_fabric_port => .PORT_CFG
  | .PORT_CFG_hold_admit => .PORT_CFG
  | .PORT_CFG_pause_rx_en => .PORT_CFG
  | .PORT_CFG_pfc_rx_en => .PORT_CFG
  | .PORT_CFG_degrade_down => .PORT_CFG
  | .PORT_CFG_max_frame => .PORT_CFG
  | .PORT_CFG_down_debounce_us => .PORT_CFG
  | .PORT_CFG_up_debounce_us => .PORT_CFG
  | .PORT_HOLD_port_hold_us => .PORT_HOLD
  | .PORT_STATUS_link_up => .PORT_STATUS
  | .PORT_STATUS_an_done => .PORT_STATUS
  | .PORT_STATUS_lt_done => .PORT_STATUS
  | .PORT_STATUS_align_lock => .PORT_STATUS
  | .PORT_STATUS_local_fault => .PORT_STATUS
  | .PORT_STATUS_remote_fault => .PORT_STATUS
  | .PORT_STATUS_hold_active => .PORT_STATUS
  | .PORT_STATUS_flushing => .PORT_STATUS
  | .PORT_STATUS_fec_degraded => .PORT_STATUS
  | .PORT_STATUS_down_event => .PORT_STATUS
  | .PORT_STATUS_up_event => .PORT_STATUS
  | .PORT_STATUS_degrade_event => .PORT_STATUS
  | .PORT_STATUS_arg_err => .PORT_STATUS
  | .FEC_DEGRADE_degrade_thresh => .FEC_DEGRADE
  | .FEC_DEGRADE_degrade_window_us => .FEC_DEGRADE
  | .PFC_MAP_class_prio => .PFC_MAP
  | .PTP_PORT_rx_adj_ps => .PTP_PORT
  | .PTP_PORT_tx_adj_ps => .PTP_PORT
  | .PTP_PORT_asym_ps => .PTP_PORT
  | .PTP_PORT_tc_en => .PTP_PORT
  | .PTP_PORT_tc_l2 => .PTP_PORT
  | .PTP_PORT_tc_udp => .PTP_PORT
  | .PORT_TEST_loopback => .PORT_TEST
  | .PORT_TEST_gen_en => .PORT_TEST
  | .PORT_TEST_chk_en => .PORT_TEST
  | .PORT_TEST_payload => .PORT_TEST
  | .PORT_TEST_fill => .PORT_TEST
  | .PORT_TEST_gen_len => .PORT_TEST
  | .PORT_TEST_gen_rate => .PORT_TEST
  | .PORT_TEST_gen_count => .PORT_TEST
  | .PORT_GEN_HDR_dmac => .PORT_GEN_HDR
  | .PORT_GEN_HDR_ethertype => .PORT_GEN_HDR
  | .PORT_CHK_gen_sent => .PORT_CHK
  | .PORT_CHK_chk_ok => .PORT_CHK
  | .PORT_CHK_chk_gap => .PORT_CHK
  | .PORT_CHK_chk_misorder => .PORT_CHK
  | .PORT_CHK_chk_payload_err => .PORT_CHK
  | .SEL_OFFSETS_off => .SEL_OFFSETS
  | .SEP_STATUS_arg_err => .SEP_STATUS
  | .SEP_STATUS_lb_key_pending => .SEP_STATUS
  | .LB_KEY_key => .LB_KEY
  | .LB_KEY_CTL_apply => .LB_KEY_CTL
  | .PUNT_AGG_rate_pps => .PUNT_AGG
  | .PUNT_AGG_burst => .PUNT_AGG
  | .PUNT_POLICER_rate_pps => .PUNT_POLICER
  | .PUNT_POLICER_burst => .PUNT_POLICER
  | .SEL_ENTRY_sel_data => .SEL_ENTRY
  | .SEL_ENTRY_sel_care => .SEL_ENTRY
  | .SEL_ENTRY_profile_id => .SEL_ENTRY
  | .SEL_ENTRY_inner => .SEL_ENTRY
  | .SEL_ENTRY_pass_mask => .SEL_ENTRY
  | .SEL_ENTRY_set_mask => .SEL_ENTRY
  | .SEL_ENTRY_valid => .SEL_ENTRY
  | .PROFILE_ext_src_off => .PROFILE
  | .PROFILE_ext_width_m1 => .PROFILE
  | .PROFILE_ext_dst_off => .PROFILE
  | .PROFILE_ext_en => .PROFILE
  | .PROFILE_probe_en => .PROFILE
  | .PROFILE_probe_w => .PROFILE
  | .PROFILE_probe_off => .PROFILE
  | .PROFILE_probe_adj => .PROFILE
  | .PROFILE_l3_off => .PROFILE
  | .PROFILE_l3_kind => .PROFILE
  | .PROFILE_l4_off => .PROFILE
  | .PROFILE_l4_kind => .PROFILE
  | .PROFILE_tsrc_mode => .PROFILE
  | .PROFILE_tsrc_off => .PROFILE
  | .PROFILE_tsrc_shift => .PROFILE
  | .PROFILE_tsrc_bits_m1 => .PROFILE
  | .PROFILE_tmap_base => .PROFILE
  | .PROFILE_chain_en => .PROFILE
  | .PROFILE_chain_base => .PROFILE
  | .PROFILE_depth_action => .PROFILE
  | .PROFILE_decap_start => .PROFILE
  | .PROFILE_decap_len => .PROFILE
  | .PROFILE_short_action => .PROFILE
  | .PROFILE_trail_action => .PROFILE
  | .PROFILE_ip_len_check => .PROFILE
  | .PROFILE_udp_len_check => .PROFILE
  | .PROFILE_lb_mask => .PROFILE
  | .PROFILE_lb_table => .PROFILE
  | .PROFILE_lb_en => .PROFILE
  | .PROFILE_tenant_miss_action => .PROFILE
  | .PROFILE_tenant_key => .PROFILE
  | .PROFILE_valid => .PROFILE
  | .SEP_PORT_CFG_assumed_len => .SEP_PORT_CFG
  | .SEP_PORT_CFG_port_set => .SEP_PORT_CFG
  | .TENANT_MAP_tenant => .TENANT_MAP
  | .TENANT_MAP_valid => .TENANT_MAP
  | .POOL_CARVE_p0_granules => .POOL_CARVE
  | .POOL_CARVE_p1_granules => .POOL_CARVE
  | .POOL_CARVE_p2_granules => .POOL_CARVE
  | .POOL_CARVE_p3_granules => .POOL_CARVE
  | .BUF_STATUS_arg_err => .BUF_STATUS
  | .BUF_STATUS_double_free_event => .BUF_STATUS
  | .BUF_STATUS_foreign_free_event => .BUF_STATUS
  | .BUF_STATUS_vat_full_event => .BUF_STATUS
  | .BUF_STATUS_ecc_event => .BUF_STATUS
  | .BUF_STATUS_buffers_retired => .BUF_STATUS
  | .POOL_STATUS_buffers => .POOL_STATUS
  | .POOL_STATUS_free => .POOL_STATUS
  | .POOL_STATUS_free_min => .POOL_STATUS
  | .BUF_LOG_index => .BUF_LOG
  | .BUF_LOG_pool => .BUF_LOG
  | .BUF_LOG_requester => .BUF_LOG
  | .BUF_LOG_owner => .BUF_LOG
  | .BUF_LOG_kind => .BUF_LOG
  | .BUF_LOG_stamp => .BUF_LOG
  | .VAT_CFG_vat_gib => .VAT_CFG
  | .VAT_STATUS_segments => .VAT_STATUS
  | .VAT_STATUS_segments_free => .VAT_STATUS
  | .VAT_STATUS_free_min => .VAT_STATUS
  | .POOL_QUOTA_limit => .POOL_QUOTA
  | .POOL_QUOTA_used => .POOL_QUOTA
  | .ING_CLASS_mode => .ING_CLASS
  | .ING_CLASS_default_class => .ING_CLASS
  | .ING_CLASS_pcp_class => .ING_CLASS
  | .PFC_TX_pause_quanta => .PFC_TX
  | .PFC_TX_refresh_quanta => .PFC_TX
  | .ING_ACCT_xoff => .ING_ACCT
  | .ING_ACCT_xon => .ING_ACCT
  | .ING_ACCT_headroom => .ING_ACCT
  | .ING_ACCT_pfc_gen => .ING_ACCT
  | .ING_ACCT_empty_pfc => .ING_ACCT
  | .ING_ACCT_cut_through => .ING_ACCT
  | .EGR_Q_egr_limit => .EGR_Q
  | .EGR_Q_spill_thresh => .EGR_Q
  | .EGR_Q_spill_en => .EGR_Q
  | .EGR_Q_vat_limit => .EGR_Q
  | .EGR_Q_ecn_min => .EGR_Q
  | .EGR_Q_ecn_max => .EGR_Q
  | .EGR_Q_ecn_en => .EGR_Q
  | .FAB_CFG_device_id => .FAB_CFG
  | .FAB_CFG_fabric_en => .FAB_CFG
  | .FAB_CFG_ethertype => .FAB_CFG
  | .FAB_CFG_hops_init => .FAB_CFG
  | .FAB_CFG_late_pass => .FAB_CFG
  | .FAB_CFG_gap_timeout_us => .FAB_CFG
  | .FAB_CFG_pin_ms => .FAB_CFG
  | .RESEQ_CFG_stream_hold_max => .RESEQ_CFG
  | .FAB_STATUS_arg_err => .FAB_STATUS
  | .FAB_STATUS_overflow_event => .FAB_STATUS
  | .FAB_STATUS_pin_event => .FAB_STATUS
  | .FAB_STATUS_held => .FAB_STATUS
  | .FAB_UPLINK_port => .FAB_UPLINK
  | .FAB_UPLINK_weight => .FAB_UPLINK
  | .FAB_UPLINK_valid => .FAB_UPLINK
  | .FAB_ROUTE_uplink_mask => .FAB_ROUTE
  | .FAB_ROUTE_valid => .FAB_ROUTE
  | .FAB_ROUTE_pinned => .FAB_ROUTE
  | .FAB_GROUP_dest => .FAB_GROUP
  | .FAB_GROUP_valid => .FAB_GROUP
  | .NH_GROUP_member_base => .NH_GROUP
  | .NH_GROUP_count => .NH_GROUP
  | .NH_GROUP_valid => .NH_GROUP
  | .NH_GROUP_skip_down => .NH_GROUP
  | .NH_MEMBER_dmac => .NH_MEMBER
  | .NH_MEMBER_port => .NH_MEMBER
  | .NH_MEMBER_valid => .NH_MEMBER
  | .NH_MEMBER_smac_idx => .NH_MEMBER
  | .NH_MEMBER_vid => .NH_MEMBER
  | .NH_MEMBER_vlan_op => .NH_MEMBER
  | .NH_MEMBER_pcp => .NH_MEMBER
  | .NH_MEMBER_l2_en => .NH_MEMBER
  | .SMAC_mac => .SMAC
  | .INDIR_entry => .INDIR
  | .RING_BASE_addr => .RING_BASE
  | .RING_CTL_log2_size => .RING_CTL
  | .RING_CTL_en => .RING_CTL
  | .RING_CTL_vector => .RING_CTL
  | .RING_CTL_mod_count => .RING_CTL
  | .RING_CTL_mod_time_us => .RING_CTL
  | .RING_CTL_irq_en => .RING_CTL
  | .RING_CTL_stopped => .RING_CTL
  | .SB_ADDR_addr => .SB_ADDR
  | .SET_CTL_set_en => .SET_CTL
  | .SET_ERR_db_err => .SET_ERR
  | .SET_ERR_dma_err => .SET_ERR
  | .SET_ERR_cfg_err => .SET_ERR
  | .SET_ERR_last_ring => .SET_ERR

/-- The field tables, lowest bit first. A reset value that differs by instance or by device is given by `fldReset`. -/
def Reg.table (r : Reg) : List (Fld × FldInfo) :=
  match r with
  -- DEV_ID (R397)
  | .DEV_ID => [(.DEV_ID_part, FldInfo.mk 0 16 .ro 20776 1 0),
      (.DEV_ID_stepping, FldInfo.mk 16 4 .ro 1 1 0),
      (.DEV_ID_ordering, FldInfo.mk 20 4 .ro 0 1 0),
      (.DEV_ID_hbm_gib, FldInfo.mk 24 8 .ro 0 1 0),
      (.DEV_ID_hbm_stacks, FldInfo.mk 32 4 .ro 4 1 0)]
  -- DEV_UID (R397)
  | .DEV_UID => [(.DEV_UID_uid, FldInfo.mk 0 64 .ro 0 1 0)]
  -- DEV_PEN (R397)
  | .DEV_PEN => [(.DEV_PEN_pen, FldInfo.mk 0 32 .ro 61859 1 0)]
  -- FW_BUILD (R397)
  | .FW_BUILD => [(.FW_BUILD_build, FldInfo.mk 0 64 .ro 0 1 0)]
  -- GLOBAL_STATUS (R374)
  | .GLOBAL_STATUS => [(.GLOBAL_STATUS_lock_violation, FldInfo.mk 0 1 .w1c 0 1 0),
      (.GLOBAL_STATUS_bad_access, FldInfo.mk 1 1 .w1c 0 1 0),
      (.GLOBAL_STATUS_setup_locked, FldInfo.mk 2 1 .ro 0 1 0),
      (.GLOBAL_STATUS_start_complete, FldInfo.mk 3 1 .ro 0 1 0)]
  -- SETUP_LOCK (R373)
  | .SETUP_LOCK => [(.SETUP_LOCK_lock, FldInfo.mk 0 1 .w1s 0 1 0)]
  -- LOCK_LOG (R374)
  | .LOCK_LOG => [(.LOCK_LOG_offset, FldInfo.mk 0 24 .ro 0 1 0),
      (.LOCK_LOG_kind, FldInfo.mk 24 1 .ro 0 1 0),
      (.LOCK_LOG_requester, FldInfo.mk 25 1 .ro 0 1 0),
      (.LOCK_LOG_stamp, FldInfo.mk 32 32 .ro 0 1 0)]
  -- RIND_STATUS (R316)
  | .RIND_STATUS => [(.RIND_STATUS_mode, FldInfo.mk 0 2 .rind 0 1 0),
      (.RIND_STATUS_mbx_busy, FldInfo.mk 2 1 .rind 0 1 0),
      (.RIND_STATUS_key_pinned, FldInfo.mk 3 1 .rind 0 1 0),
      (.RIND_STATUS_wdog_ms, FldInfo.mk 4 16 .rind 0 1 0),
      (.RIND_STATUS_wdog_stage1, FldInfo.mk 20 1 .rind 0 1 0)]
  -- RESET_CAUSE (R320)
  | .RESET_CAUSE => [(.RESET_CAUSE_por, FldInfo.mk 0 1 .rind 0 1 0),
      (.RESET_CAUSE_brownout, FldInfo.mk 1 1 .rind 0 1 0),
      (.RESET_CAUSE_therm_trip, FldInfo.mk 2 1 .rind 0 1 0),
      (.RESET_CAUSE_crit_a, FldInfo.mk 3 1 .rind 0 1 0),
      (.RESET_CAUSE_rst_pin, FldInfo.mk 4 1 .rind 0 1 0),
      (.RESET_CAUSE_wdog, FldInfo.mk 5 1 .rind 0 1 0),
      (.RESET_CAUSE_host_full, FldInfo.mk 6 1 .rind 0 1 0),
      (.RESET_CAUSE_failed_start, FldInfo.mk 7 1 .rind 0 1 0),
      (.RESET_CAUSE_update_act, FldInfo.mk 8 1 .rind 0 1 0),
      (.RESET_CAUSE_crit_b, FldInfo.mk 9 1 .rind 0 1 0),
      (.RESET_CAUSE_perst, FldInfo.mk 10 1 .rind 0 1 0),
      (.RESET_CAUSE_domain_req, FldInfo.mk 11 1 .rind 0 1 0),
      (.RESET_CAUSE_domain_mck, FldInfo.mk 12 1 .rind 0 1 0),
      (.RESET_CAUSE_wdog_mgmt, FldInfo.mk 13 1 .rind 0 1 0),
      (.RESET_CAUSE_crit_where, FldInfo.mk 16 4 .rind 0 1 0)]
  -- START_STATUS (R322)
  | .START_STATUS => [(.START_STATUS_step_reached, FldInfo.mk 0 4 .rind 0 1 0),
      (.START_STATUS_failed_count, FldInfo.mk 4 3 .rind 0 1 0),
      (.START_STATUS_fail_threshold, FldInfo.mk 7 3 .rind 0 1 0),
      (.START_STATUS_recovery, FldInfo.mk 10 1 .rind 0 1 0),
      (.START_STATUS_start_complete, FldInfo.mk 11 1 .rind 0 1 0),
      (.START_STATUS_last_fail, FldInfo.mk 12 2 .rind 0 1 0),
      (.START_STATUS_fail_step, FldInfo.mk 14 4 .rind 0 1 0)]
  -- PD_STATE (R330)
  | .PD_STATE => [(.PD_STATE_on, FldInfo.mk 0 1 .rind 0 64 1)]
  -- PD_HELD (R330)
  | .PD_HELD => [(.PD_HELD_held, FldInfo.mk 0 1 .rind 0 64 1)]
  -- THERMAL (R333)
  | .THERMAL => [(.THERMAL_tj_q2, FldInfo.mk 0 10 .rind 0 1 0),
      (.THERMAL_hot_sensor, FldInfo.mk 10 6 .rind 0 1 0),
      (.THERMAL_throttle_point, FldInfo.mk 16 7 .rind 0 1 0),
      (.THERMAL_stage, FldInfo.mk 23 3 .rind 0 1 0),
      (.THERMAL_invalid_sensors, FldInfo.mk 26 7 .rind 0 1 0)]
  -- RAIL (R335)
  | .RAIL => [(.RAIL_vcore_mv, FldInfo.mk 0 12 .rind 0 1 0),
      (.RAIL_target_mv, FldInfo.mk 12 12 .rind 0 1 0),
      (.RAIL_icore_a, FldInfo.mk 24 12 .rind 0 1 0),
      (.RAIL_margin_low, FldInfo.mk 36 1 .rind 0 1 0),
      (.RAIL_avs_fault, FldInfo.mk 37 1 .rind 0 1 0)]
  -- UPD_STATUS (R345)
  | .UPD_STATUS => [(.UPD_STATUS_active_slot, FldInfo.mk 0 1 .rind 0 1 0),
      (.UPD_STATUS_trial, FldInfo.mk 1 1 .rind 0 1 0),
      (.UPD_STATUS_trial_starts, FldInfo.mk 2 2 .rind 0 1 0),
      (.UPD_STATUS_inactive_state, FldInfo.mk 4 2 .rind 0 1 0),
      (.UPD_STATUS_owner, FldInfo.mk 6 2 .rind 0 1 0),
      (.UPD_STATUS_chunks_done, FldInfo.mk 8 10 .rind 0 1 0),
      (.UPD_STATUS_chunk_count, FldInfo.mk 18 10 .rind 0 1 0),
      (.UPD_STATUS_fused_svn, FldInfo.mk 28 7 .rind 0 1 0),
      (.UPD_STATUS_refusal, FldInfo.mk 35 3 .rind 0 1 0),
      (.UPD_STATUS_ticket_pending, FldInfo.mk 38 1 .rind 0 1 0),
      (.UPD_STATUS_ticket_scope, FldInfo.mk 39 2 .rind 0 1 0),
      (.UPD_STATUS_owner_lock, FldInfo.mk 41 1 .rind 0 1 0),
      (.UPD_STATUS_update_group, FldInfo.mk 42 6 .rind 0 1 0),
      (.UPD_STATUS_hybrid_required, FldInfo.mk 48 1 .rind 0 1 0),
      (.UPD_STATUS_owner_enrolled, FldInfo.mk 49 1 .rind 0 1 0),
      (.UPD_STATUS_last_event, FldInfo.mk 50 4 .rind 0 1 0)]
  -- UPD_MILK (R348)
  | .UPD_MILK => [(.UPD_MILK_up_port, FldInfo.mk 0 9 .rind 0 1 0),
      (.UPD_MILK_up_en, FldInfo.mk 9 1 .rind 0 1 0),
      (.UPD_MILK_down_port, FldInfo.mk 10 9 .rind 0 1 0),
      (.UPD_MILK_down_en, FldInfo.mk 19 1 .rind 0 1 0),
      (.UPD_MILK_class, FldInfo.mk 20 4 .rind 0 1 0),
      (.UPD_MILK_chain_stalled, FldInfo.mk 24 1 .rind 0 1 0)]
  -- REPAIR_LINKS (R365)
  | .REPAIR_LINKS => [(.REPAIR_LINKS_d2d_repaired, FldInfo.mk 0 16 .rind 0 1 0),
      (.REPAIR_LINKS_d2d_failed, FldInfo.mk 16 8 .rind 0 1 0),
      (.REPAIR_LINKS_hbm_repaired, FldInfo.mk 24 16 .rind 0 1 0),
      (.REPAIR_LINKS_hbm_failed, FldInfo.mk 40 4 .rind 0 1 0)]
  -- BIST_STATUS (R366)
  | .BIST_STATUS => [(.BIST_STATUS_mem_repaired, FldInfo.mk 0 16 .rind 0 1 0),
      (.BIST_STATUS_mem_failed, FldInfo.mk 16 16 .rind 0 1 0),
      (.BIST_STATUS_first_pd, FldInfo.mk 32 8 .rind 0 1 0),
      (.BIST_STATUS_any_failed, FldInfo.mk 40 1 .rind 0 1 0)]
  -- HIF_STATUS (R271)
  | .HIF_STATUS => [(.HIF_STATUS_arg_err, FldInfo.mk 0 1 .w1c 0 1 0),
      (.HIF_STATUS_host_reset, FldInfo.mk 1 1 .w1c 0 1 0),
      (.HIF_STATUS_drain_declared, FldInfo.mk 2 1 .ro 0 1 0)]
  -- HIF_RESET_LOG (R271)
  | .HIF_RESET_LOG => [(.HIF_RESET_LOG_stamp, FldInfo.mk 0 32 .ro 0 1 0),
      (.HIF_RESET_LOG_epoch, FldInfo.mk 32 8 .ro 0 1 0)]
  -- EVT_CAUSE (R260)
  | .EVT_CAUSE => [(.EVT_CAUSE_cause, FldInfo.mk 0 13 .ro 0 1 0)]
  -- EVT_MASK (R260)
  | .EVT_MASK => [(.EVT_MASK_mask, FldInfo.mk 0 13 .rw 0 1 0)]
  -- EVT_REARM (R260)
  | .EVT_REARM => [(.EVT_REARM_any, FldInfo.mk 0 64 .wo 0 1 0)]
  -- RIND_EVT (R316)
  | .RIND_EVT => [(.RIND_EVT_mbx_done, FldInfo.mk 0 1 .w1c 0 1 0),
      (.RIND_EVT_throttle_event, FldInfo.mk 1 1 .w1c 0 1 0),
      (.RIND_EVT_margin_event, FldInfo.mk 2 1 .w1c 0 1 0),
      (.RIND_EVT_pd_event, FldInfo.mk 3 1 .w1c 0 1 0),
      (.RIND_EVT_sensor_event, FldInfo.mk 4 1 .w1c 0 1 0),
      (.RIND_EVT_avs_event, FldInfo.mk 5 1 .w1c 0 1 0)]
  -- RSET_OWNER (R255)
  | .RSET_OWNER => [(.RSET_OWNER_owner, FldInfo.mk 0 6 .rw 0 1 0),
      (.RSET_OWNER_tenant_lock, FldInfo.mk 6 1 .rw 0 1 0),
      (.RSET_OWNER_tenant, FldInfo.mk 7 12 .rw 0 1 0)]
  -- PUNT_DEST (R268)
  | .PUNT_DEST => [(.PUNT_DEST_set, FldInfo.mk 0 6 .rw 0 1 0),
      (.PUNT_DEST_tenant_route, FldInfo.mk 6 1 .rw 0 1 0)]
  -- SKIM_CFG (R109)
  | .SKIM_CFG => [(.SKIM_CFG_bypass_wait_ns, FldInfo.mk 0 12 .rw 1000 1 0)]
  -- SKIM_STATUS (R119)
  | .SKIM_STATUS => [(.SKIM_STATUS_arg_err, FldInfo.mk 0 1 .w1c 0 1 0),
      (.SKIM_STATUS_poison_event, FldInfo.mk 1 1 .w1c 0 1 0),
      (.SKIM_STATUS_bank_held, FldInfo.mk 2 16 .ro 0 1 0)]
  -- HBM_SPLIT (R110)
  | .HBM_SPLIT => [(.HBM_SPLIT_hbm_split, FldInfo.mk 0 4 .rw 10 1 0),
      (.HBM_SPLIT_lend_en, FldInfo.mk 4 1 .rw 1 1 0),
      (.HBM_SPLIT_split_active, FldInfo.mk 8 4 .ro 10 1 0),
      (.HBM_SPLIT_thermal_vat_cut, FldInfo.mk 12 4 .ro 0 1 0),
      (.HBM_SPLIT_rekey_reserve, FldInfo.mk 16 1 .ro 0 1 0),
      (.HBM_SPLIT_arg_err, FldInfo.mk 17 1 .w1c 0 1 0)]
  -- MIRROR_SESSION (R225)
  | .MIRROR_SESSION => [(.MIRROR_SESSION_port, FldInfo.mk 0 9 .rw 0 1 0),
      (.MIRROR_SESSION_class, FldInfo.mk 9 4 .rw 0 1 0),
      (.MIRROR_SESSION_trunc_len, FldInfo.mk 13 14 .rw 0 1 0),
      (.MIRROR_SESSION_edited, FldInfo.mk 27 1 .rw 0 1 0),
      (.MIRROR_SESSION_valid, FldInfo.mk 28 1 .rw 0 1 0)]
  -- TIME_CFG (R276)
  | .TIME_CFG => [(.TIME_CFG_ref_sel, FldInfo.mk 0 1 .rw 0 1 0),
      (.TIME_CFG_ts_clk_25, FldInfo.mk 1 1 .rw 0 1 0),
      (.TIME_CFG_pps_en, FldInfo.mk 2 1 .rw 0 1 0),
      (.TIME_CFG_pps_falling, FldInfo.mk 3 1 .rw 0 1 0),
      (.TIME_CFG_reepoch_hold_us, FldInfo.mk 4 20 .rw 10000 1 0)]
  -- TIME_STATUS (R279)
  | .TIME_STATUS => [(.TIME_STATUS_ref_active, FldInfo.mk 0 1 .ro 0 1 0),
      (.TIME_STATUS_step_allowed, FldInfo.mk 1 1 .ro 1 1 0),
      (.TIME_STATUS_reepoch_pending, FldInfo.mk 2 1 .ro 0 1 0),
      (.TIME_STATUS_step_pending, FldInfo.mk 3 1 .ro 0 1 0),
      (.TIME_STATUS_slew_active, FldInfo.mk 4 1 .ro 0 1 0),
      (.TIME_STATUS_rate_clamped, FldInfo.mk 5 1 .ro 0 1 0),
      (.TIME_STATUS_ref_lost, FldInfo.mk 6 1 .w1c 0 1 0),
      (.TIME_STATUS_pps_event, FldInfo.mk 7 1 .w1c 0 1 0),
      (.TIME_STATUS_pps_missing, FldInfo.mk 8 1 .w1c 0 1 0),
      (.TIME_STATUS_arg_err, FldInfo.mk 9 1 .w1c 0 1 0),
      (.TIME_STATUS_epoch_event, FldInfo.mk 10 1 .w1c 0 1 0),
      (.TIME_STATUS_epoch, FldInfo.mk 11 8 .ro 0 1 0)]
  -- TIME_NOW_LO (R275)
  | .TIME_NOW_LO => [(.TIME_NOW_LO_subns, FldInfo.mk 0 16 .ro 0 1 0),
      (.TIME_NOW_LO_ns, FldInfo.mk 16 32 .ro 0 1 0),
      (.TIME_NOW_LO_epoch, FldInfo.mk 48 8 .ro 0 1 0)]
  -- TIME_NOW_HI (R275)
  | .TIME_NOW_HI => [(.TIME_NOW_HI_sec, FldInfo.mk 0 48 .ro 0 1 0)]
  -- TIME_RATE (R277)
  | .TIME_RATE => [(.TIME_RATE_rate_adj, FldInfo.mk 0 32 .rw 0 1 0)]
  -- TIME_SLEW (R278)
  | .TIME_SLEW => [(.TIME_SLEW_offset_ns, FldInfo.mk 0 40 .rw 0 1 0),
      (.TIME_SLEW_slew_ppm, FldInfo.mk 40 10 .rw 1000 1 0)]
  -- TIME_STEP_LO (R274)
  | .TIME_STEP_LO => [(.TIME_STEP_LO_subns, FldInfo.mk 0 16 .rw 0 1 0),
      (.TIME_STEP_LO_ns, FldInfo.mk 16 32 .rw 0 1 0),
      (.TIME_STEP_LO_epoch, FldInfo.mk 48 8 .rw 0 1 0)]
  -- TIME_STEP_HI (R274)
  | .TIME_STEP_HI => [(.TIME_STEP_HI_sec, FldInfo.mk 0 48 .rw 0 1 0)]
  -- TIME_CTL (R279)
  | .TIME_CTL => [(.TIME_CTL_step_go, FldInfo.mk 0 1 .w1s 0 1 0),
      (.TIME_CTL_step_at_pps, FldInfo.mk 1 1 .rw 0 1 0),
      (.TIME_CTL_reepoch, FldInfo.mk 2 1 .w1s 0 1 0)]
  -- PPS_CAP_LO (R282)
  | .PPS_CAP_LO => [(.PPS_CAP_LO_subns, FldInfo.mk 0 16 .ro 0 1 0),
      (.PPS_CAP_LO_ns, FldInfo.mk 16 32 .ro 0 1 0),
      (.PPS_CAP_LO_epoch, FldInfo.mk 48 8 .ro 0 1 0)]
  -- PPS_CAP_HI (R282)
  | .PPS_CAP_HI => [(.PPS_CAP_HI_sec, FldInfo.mk 0 48 .ro 0 1 0)]
  -- EPOCH_LOG_LO (R280)
  | .EPOCH_LOG_LO => [(.EPOCH_LOG_LO_subns, FldInfo.mk 0 16 .ro 0 1 0),
      (.EPOCH_LOG_LO_ns, FldInfo.mk 16 32 .ro 0 1 0),
      (.EPOCH_LOG_LO_epoch, FldInfo.mk 48 8 .ro 0 1 0)]
  -- EPOCH_LOG_HI (R280)
  | .EPOCH_LOG_HI => [(.EPOCH_LOG_HI_sec, FldInfo.mk 0 48 .ro 0 1 0)]
  -- TRIG_START_LO (R284)
  | .TRIG_START_LO => [(.TRIG_START_LO_subns, FldInfo.mk 0 16 .rw 0 1 0),
      (.TRIG_START_LO_ns, FldInfo.mk 16 32 .rw 0 1 0),
      (.TRIG_START_LO_epoch, FldInfo.mk 48 8 .rw 0 1 0)]
  -- TRIG_START_HI (R284)
  | .TRIG_START_HI => [(.TRIG_START_HI_sec, FldInfo.mk 0 48 .rw 0 1 0)]
  -- TRIG_PERIOD (R284)
  | .TRIG_PERIOD => [(.TRIG_PERIOD_period_ns, FldInfo.mk 0 48 .rw 0 1 0)]
  -- TRIG_CTL (R284)
  | .TRIG_CTL => [(.TRIG_CTL_targets, FldInfo.mk 0 7 .rw 0 1 0),
      (.TRIG_CTL_out_mask, FldInfo.mk 8 4 .rw 0 1 0),
      (.TRIG_CTL_pulse_ns, FldInfo.mk 12 16 .rw 100 1 0),
      (.TRIG_CTL_arm, FldInfo.mk 28 1 .rw 0 1 0),
      (.TRIG_CTL_fw_owned, FldInfo.mk 29 1 .ro 0 1 0),
      (.TRIG_CTL_fire_late, FldInfo.mk 30 1 .w1c 0 1 0),
      (.TRIG_CTL_disarm_event, FldInfo.mk 31 1 .w1c 0 1 0),
      (.TRIG_CTL_fired, FldInfo.mk 32 16 .ro 0 1 0)]
  -- GATE_TRIG (R288)
  | .GATE_TRIG => [(.GATE_TRIG_unit, FldInfo.mk 0 3 .rw 0 1 0),
      (.GATE_TRIG_en, FldInfo.mk 3 1 .rw 0 1 0)]
  -- STR_BLOCK_CFG (R120)
  | .STR_BLOCK_CFG => [(.STR_BLOCK_CFG_mode, FldInfo.mk 0 2 .rw 0 8 2)]
  -- STR_CTL (R135)
  | .STR_CTL => [(.STR_CTL_purge_addr, FldInfo.mk 0 18 .rw 0 1 0),
      (.STR_CTL_purge_start, FldInfo.mk 18 1 .w1s 0 1 0),
      (.STR_CTL_purge_running, FldInfo.mk 19 1 .ro 0 1 0),
      (.STR_CTL_purge_refused, FldInfo.mk 20 1 .w1c 0 1 0)]
  -- STR_STATUS (R134)
  | .STR_STATUS => [(.STR_STATUS_arg_err, FldInfo.mk 0 1 .w1c 0 1 0),
      (.STR_STATUS_throttle_level, FldInfo.mk 1 2 .ro 0 1 0),
      (.STR_STATUS_poison_event, FldInfo.mk 3 1 .w1c 0 1 0),
      (.STR_STATUS_poisoned_count, FldInfo.mk 4 19 .ro 0 1 0)]
  -- STR_LOG (R130)
  | .STR_LOG => [(.STR_LOG_addr, FldInfo.mk 0 18 .ro 0 1 0),
      (.STR_LOG_kind, FldInfo.mk 18 2 .ro 0 1 0),
      (.STR_LOG_stamp, FldInfo.mk 20 32 .ro 0 1 0)]
  -- STR_LKP (R125)
  | .STR_LKP => [(.STR_LKP_seg_src, FldInfo.mk 0 9 .rw 0 8 22),
      (.STR_LKP_seg_len_m1, FldInfo.mk 9 4 .rw 0 8 22),
      (.STR_LKP_seg_dst, FldInfo.mk 13 7 .rw 0 8 22),
      (.STR_LKP_seg_probe, FldInfo.mk 20 1 .rw 0 8 22),
      (.STR_LKP_seg_en, FldInfo.mk 21 1 .rw 0 8 22),
      (.STR_LKP_width0, FldInfo.mk 176 2 .rw 0 1 0),
      (.STR_LKP_width1, FldInfo.mk 178 2 .rw 0 1 0),
      (.STR_LKP_probe1_en, FldInfo.mk 180 1 .rw 0 1 0),
      (.STR_LKP_search_en, FldInfo.mk 181 1 .rw 1 1 0),
      (.STR_LKP_overload_action, FldInfo.mk 182 2 .rw 0 1 0),
      (.STR_LKP_default_action, FldInfo.mk 192 64 .rw 0 1 0)]
  -- CHURN_CFG (R160)
  | .CHURN_CFG => [(.CHURN_CFG_mck_action, FldInfo.mk 0 1 .rw 0 1 0)]
  -- MCK_LOG (R160)
  | .MCK_LOG => [(.MCK_LOG_cluster, FldInfo.mk 0 6 .ro 0 1 0),
      (.MCK_LOG_store, FldInfo.mk 6 2 .ro 0 1 0),
      (.MCK_LOG_bank, FldInfo.mk 8 1 .ro 0 1 0),
      (.MCK_LOG_addr, FldInfo.mk 9 14 .ro 0 1 0),
      (.MCK_LOG_repeat, FldInfo.mk 23 2 .ro 0 1 0),
      (.MCK_LOG_stamp, FldInfo.mk 25 32 .ro 0 1 0)]
  -- MCK_STATUS (R160)
  | .MCK_STATUS => [(.MCK_STATUS_mck_event, FldInfo.mk 0 1 .w1c 0 1 0),
      (.MCK_STATUS_fault_event, FldInfo.mk 1 1 .w1c 0 1 0),
      (.MCK_STATUS_quarantine_event, FldInfo.mk 2 1 .w1c 0 1 0),
      (.MCK_STATUS_reload_pending, FldInfo.mk 3 1 .ro 0 1 0)]
  -- CLUSTER_QUARANTINE (R161)
  | .CLUSTER_QUARANTINE => [(.CLUSTER_QUARANTINE_bits, FldInfo.mk 0 1 .ro 0 64 1)]
  -- PUBLISH_STATUS (R185)
  | .PUBLISH_STATUS => [(.PUBLISH_STATUS_parity, FldInfo.mk 0 1 .ro 0 1 0),
      (.PUBLISH_STATUS_draining, FldInfo.mk 1 1 .ro 0 1 0),
      (.PUBLISH_STATUS_staging, FldInfo.mk 2 1 .ro 0 1 0),
      (.PUBLISH_STATUS_ready, FldInfo.mk 3 1 .ro 1 1 0),
      (.PUBLISH_STATUS_busy_event, FldInfo.mk 4 1 .w1c 0 1 0),
      (.PUBLISH_STATUS_drain_cut_event, FldInfo.mk 5 1 .w1c 0 1 0),
      (.PUBLISH_STATUS_drain_count, FldInfo.mk 6 24 .ro 0 1 0),
      (.PUBLISH_STATUS_publish_seq, FldInfo.mk 30 16 .ro 0 1 0)]
  -- PUBLISH_CFG (R186)
  | .PUBLISH_CFG => [(.PUBLISH_CFG_drain_limit_us, FldInfo.mk 0 20 .rw 100 1 0)]
  -- NAT_STATUS (R179)
  | .NAT_STATUS => [(.NAT_STATUS_arg_err, FldInfo.mk 0 1 .w1c 0 1 0),
      (.NAT_STATUS_exhaust_event, FldInfo.mk 1 1 .w1c 0 1 0)]
  -- NAT_POOL (R178)
  | .NAT_POOL => [(.NAT_POOL_base, FldInfo.mk 0 16 .rw 0 1 0),
      (.NAT_POOL_size, FldInfo.mk 16 17 .rw 0 1 0),
      (.NAT_POOL_en, FldInfo.mk 33 1 .rw 0 1 0),
      (.NAT_POOL_used, FldInfo.mk 34 17 .ro 0 1 0),
      (.NAT_POOL_tag, FldInfo.mk 64 32 .rw 0 1 0)]
  -- NAT_TQUOTA (R178)
  | .NAT_TQUOTA => [(.NAT_TQUOTA_limit, FldInfo.mk 0 25 .rw 16777216 1 0),
      (.NAT_TQUOTA_used, FldInfo.mk 25 25 .ro 0 1 0)]
  -- CELLAR_CFG (R80)
  | .CELLAR_CFG => [(.CELLAR_CFG_quota_action, FldInfo.mk 0 2 .rw 1 1 0),
      (.CELLAR_CFG_full_action, FldInfo.mk 2 2 .rw 1 1 0),
      (.CELLAR_CFG_stash_action, FldInfo.mk 4 2 .rw 1 1 0)]
  -- AGE_CTL (R86)
  | .AGE_CTL => [(.AGE_CTL_age_epoch, FldInfo.mk 0 16 .ro 0 1 0),
      (.AGE_CTL_hint_min, FldInfo.mk 16 8 .rw 0 1 0),
      (.AGE_CTL_sweep_running, FldInfo.mk 24 1 .ro 0 1 0),
      (.AGE_CTL_sweep_pending, FldInfo.mk 25 1 .ro 0 1 0),
      (.AGE_CTL_sweep_now, FldInfo.mk 26 1 .w1s 0 1 0)]
  -- AGE_CLASS (R87)
  | .AGE_CLASS => [(.AGE_CLASS_timeout, FldInfo.mk 0 15 .rw 0 4 16)]
  -- CELLAR_REKEY (R90)
  | .CELLAR_REKEY => [(.CELLAR_REKEY_rekey_start, FldInfo.mk 0 1 .w1s 0 1 0),
      (.CELLAR_REKEY_rekey_running, FldInfo.mk 1 1 .ro 0 1 0),
      (.CELLAR_REKEY_rekey_refused, FldInfo.mk 2 1 .w1c 0 1 0),
      (.CELLAR_REKEY_key_pinned, FldInfo.mk 3 1 .ro 0 1 0),
      (.CELLAR_REKEY_rekey_bucket, FldInfo.mk 32 25 .ro 0 1 0)]
  -- CELLAR_STATUS (R93)
  | .CELLAR_STATUS => [(.CELLAR_STATUS_stash_used, FldInfo.mk 0 13 .ro 0 1 0),
      (.CELLAR_STATUS_records_used, FldInfo.mk 13 28 .ro 0 1 0),
      (.CELLAR_STATUS_arg_err, FldInfo.mk 41 1 .w1c 0 1 0),
      (.CELLAR_STATUS_poison_event, FldInfo.mk 42 1 .w1c 0 1 0)]
  -- TENANT_QUOTA (R82)
  | .TENANT_QUOTA => [(.TENANT_QUOTA_limit, FldInfo.mk 0 28 .rw 134217728 1 0),
      (.TENANT_QUOTA_used, FldInfo.mk 28 28 .ro 0 1 0)]
  -- SCHED_Q (R213)
  | .SCHED_Q => [(.SCHED_Q_sp_group, FldInfo.mk 0 3 .rw 0 1 0),
      (.SCHED_Q_weight, FldInfo.mk 3 8 .rw 4 1 0),
      (.SCHED_Q_timed, FldInfo.mk 11 1 .rw 0 1 0),
      (.SCHED_Q_shape_en, FldInfo.mk 12 1 .rw 0 1 0),
      (.SCHED_Q_rate_mbps, FldInfo.mk 13 21 .rw 0 1 0),
      (.SCHED_Q_burst, FldInfo.mk 34 24 .rw 65536 1 0)]
  -- SCHED_PORT (R214)
  | .SCHED_PORT => [(.SCHED_PORT_shape_en, FldInfo.mk 0 1 .rw 0 1 0),
      (.SCHED_PORT_rate_mbps, FldInfo.mk 1 21 .rw 0 1 0),
      (.SCHED_PORT_burst, FldInfo.mk 22 24 .rw 65536 1 0),
      (.SCHED_PORT_guard_en, FldInfo.mk 46 1 .rw 0 1 0),
      (.SCHED_PORT_late_policy, FldInfo.mk 47 1 .rw 0 1 0)]
  -- LAUNCH_CFG (R217)
  | .LAUNCH_CFG => [(.LAUNCH_CFG_launch_horizon_us, FldInfo.mk 0 22 .rw 1000000 1 0)]
  -- EGR_STATUS (R232)
  | .EGR_STATUS => [(.EGR_STATUS_arg_err, FldInfo.mk 0 1 .w1c 0 1 0)]
  -- GATE_LIST (R219)
  | .GATE_LIST => [(.GATE_LIST_open_mask, FldInfo.mk 0 16 .rw 65535 1 0),
      (.GATE_LIST_dur_ns, FldInfo.mk 16 24 .rw 1000 1 0),
      (.GATE_LIST_last, FldInfo.mk 40 1 .rw 0 1 0)]
  -- WHEY_CFG (R295)
  | .WHEY_CFG => [(.WHEY_CFG_key_sel, FldInfo.mk 0 48 .rw 137438953471 1 0)]
  -- WHEY_STATUS (R301)
  | .WHEY_STATUS => [(.WHEY_STATUS_arg_err, FldInfo.mk 0 1 .w1c 0 1 0),
      (.WHEY_STATUS_overload_event, FldInfo.mk 1 1 .w1c 0 1 0),
      (.WHEY_STATUS_periodic_running, FldInfo.mk 2 1 .ro 0 1 0),
      (.WHEY_STATUS_periodic_pending, FldInfo.mk 3 1 .ro 0 1 0),
      (.WHEY_STATUS_export_epoch, FldInfo.mk 4 16 .ro 0 1 0),
      (.WHEY_STATUS_queue_fill, FldInfo.mk 20 17 .ro 0 1 0)]
  -- WHEY_CTL (R302)
  | .WHEY_CTL => [(.WHEY_CTL_epoch_now, FldInfo.mk 0 1 .w1s 0 1 0)]
  -- WHEY_ROUTE (R300)
  | .WHEY_ROUTE => [(.WHEY_ROUTE_set, FldInfo.mk 0 6 .rw 0 1 0),
      (.WHEY_ROUTE_ring_en, FldInfo.mk 6 1 .rw 1 1 0),
      (.WHEY_ROUTE_tenant_route, FldInfo.mk 7 1 .rw 0 1 0),
      (.WHEY_ROUTE_ipfix_en, FldInfo.mk 8 1 .rw 0 1 0),
      (.WHEY_ROUTE_exporter, FldInfo.mk 9 2 .rw 0 1 0)]
  -- IPFIX_CFG (R303)
  | .IPFIX_CFG => [(.IPFIX_CFG_en, FldInfo.mk 0 1 .rw 0 1 0),
      (.IPFIX_CFG_port, FldInfo.mk 1 9 .rw 0 1 0),
      (.IPFIX_CFG_class, FldInfo.mk 10 4 .rw 0 1 0),
      (.IPFIX_CFG_smac_idx, FldInfo.mk 14 8 .rw 0 1 0),
      (.IPFIX_CFG_dscp, FldInfo.mk 22 6 .rw 0 1 0),
      (.IPFIX_CFG_mtu, FldInfo.mk 32 16 .rw 1500 1 0),
      (.IPFIX_CFG_template_refresh_s, FldInfo.mk 48 16 .rw 60 1 0),
      (.IPFIX_CFG_dmac, FldInfo.mk 64 48 .rw 0 1 0),
      (.IPFIX_CFG_src_ipv4, FldInfo.mk 128 32 .rw 0 1 0),
      (.IPFIX_CFG_dst_ipv4, FldInfo.mk 160 32 .rw 0 1 0),
      (.IPFIX_CFG_src_udp, FldInfo.mk 192 16 .rw 0 1 0),
      (.IPFIX_CFG_dst_udp, FldInfo.mk 208 16 .rw 4739 1 0),
      (.IPFIX_CFG_domain_id, FldInfo.mk 224 32 .rw 0 1 0),
      (.IPFIX_CFG_pen, FldInfo.mk 256 32 .rw 61859 1 0)]
  -- DROP_SAMPLE_CFG (R297)
  | .DROP_SAMPLE_CFG => [(.DROP_SAMPLE_CFG_one_in, FldInfo.mk 0 24 .rw 0 1 0)]
  -- WHEY_VIEW (R303)
  | .WHEY_VIEW => [(.WHEY_VIEW_view, FldInfo.mk 0 2 .rw 0 1 0),
      (.WHEY_VIEW_src_off, FldInfo.mk 2 6 .rw 0 1 0),
      (.WHEY_VIEW_dst_off, FldInfo.mk 8 6 .rw 0 1 0),
      (.WHEY_VIEW_proto_off, FldInfo.mk 14 6 .rw 0 1 0),
      (.WHEY_VIEW_sport_off, FldInfo.mk 20 6 .rw 0 1 0),
      (.WHEY_VIEW_dport_off, FldInfo.mk 26 6 .rw 0 1 0),
      (.WHEY_VIEW_nat_lib, FldInfo.mk 32 1 .rw 0 1 0)]
  -- QWM (R298)
  | .QWM => [(.QWM_wm_kib, FldInfo.mk 0 24 .rw 0 1 0),
      (.QWM_en, FldInfo.mk 24 1 .rw 0 1 0)]
  -- TALLY_CTL (R309)
  | .TALLY_CTL => [(.TALLY_CTL_snap_now, FldInfo.mk 0 1 .w1s 0 1 0),
      (.TALLY_CTL_snap_busy, FldInfo.mk 1 1 .ro 0 1 0),
      (.TALLY_CTL_snap_pending, FldInfo.mk 2 1 .ro 0 1 0),
      (.TALLY_CTL_snap_overrun, FldInfo.mk 3 1 .w1c 0 1 0),
      (.TALLY_CTL_arg_err, FldInfo.mk 4 1 .w1c 0 1 0),
      (.TALLY_CTL_snap_seq, FldInfo.mk 5 16 .ro 0 1 0)]
  -- TALLY_SETCFG (R310)
  | .TALLY_SETCFG => [(.TALLY_SETCFG_en, FldInfo.mk 0 1 .rw 0 1 0),
      (.TALLY_SETCFG_user_only, FldInfo.mk 1 1 .rw 1 1 0)]
  -- TALLY_GROUP (R305)
  | .TALLY_GROUP => [(.TALLY_GROUP_user_read, FldInfo.mk 0 1 .rw 0 1 0),
      (.TALLY_GROUP_n_counters, FldInfo.mk 16 16 .ro 0 1 0)]
  -- TALLY_PROG (R307)
  | .TALLY_PROG => [(.TALLY_PROG_event, FldInfo.mk 0 16 .rw 0 1 0),
      (.TALLY_PROG_tenant, FldInfo.mk 16 12 .rw 0 1 0),
      (.TALLY_PROG_tenant_en, FldInfo.mk 28 1 .rw 0 1 0),
      (.TALLY_PROG_chain, FldInfo.mk 29 1 .rw 0 1 0),
      (.TALLY_PROG_load, FldInfo.mk 30 1 .rw 0 1 0),
      (.TALLY_PROG_load_value, FldInfo.mk 64 48 .rw 0 1 0)]
  -- OCTET_LAYOUT (R30)
  | .OCTET_LAYOUT => [(.OCTET_LAYOUT_start_width, FldInfo.mk 0 3 .rw 0 8 3),
      (.OCTET_LAYOUT_lane_rate, FldInfo.mk 24 2 .rw 0 8 2),
      (.OCTET_LAYOUT_tx_invert, FldInfo.mk 48 1 .rw 0 8 1),
      (.OCTET_LAYOUT_rx_invert, FldInfo.mk 56 1 .rw 0 8 1)]
  -- OCTET_STATUS (R30)
  | .OCTET_STATUS => [(.OCTET_STATUS_arg_err, FldInfo.mk 0 1 .w1c 0 1 0)]
  -- LANE_TEST (R357)
  | .LANE_TEST => [(.LANE_TEST_tx_pattern, FldInfo.mk 0 4 .rw 0 1 0),
      (.LANE_TEST_rx_pattern, FldInfo.mk 4 4 .rw 0 1 0),
      (.LANE_TEST_test_rate, FldInfo.mk 8 2 .rw 0 1 0),
      (.LANE_TEST_latch, FldInfo.mk 10 1 .w1s 0 1 0),
      (.LANE_TEST_clear, FldInfo.mk 11 1 .w1s 0 1 0),
      (.LANE_TEST_lock, FldInfo.mk 12 1 .ro 0 1 0),
      (.LANE_TEST_lock_lost, FldInfo.mk 13 1 .w1c 0 1 0),
      (.LANE_TEST_saturated, FldInfo.mk 14 1 .w1c 0 1 0),
      (.LANE_TEST_err_cnt, FldInfo.mk 64 48 .ro 0 1 0),
      (.LANE_TEST_bit_cnt, FldInfo.mk 128 48 .ro 0 1 0),
      (.LANE_TEST_lock_loss, FldInfo.mk 192 32 .ro 0 1 0)]
  -- PORT_CFG (R35)
  | .PORT_CFG => [(.PORT_CFG_admin_en, FldInfo.mk 0 1 .rw 0 1 0),
      (.PORT_CFG_an_en, FldInfo.mk 1 1 .rw 1 1 0),
      (.PORT_CFG_lt_en, FldInfo.mk 2 1 .rw 1 1 0),
      (.PORT_CFG_fabric_port, FldInfo.mk 3 1 .rw 0 1 0),
      (.PORT_CFG_hold_admit, FldInfo.mk 4 1 .rw 1 1 0),
      (.PORT_CFG_pause_rx_en, FldInfo.mk 5 1 .rw 0 1 0),
      (.PORT_CFG_pfc_rx_en, FldInfo.mk 6 1 .rw 1 1 0),
      (.PORT_CFG_degrade_down, FldInfo.mk 7 1 .rw 0 1 0),
      (.PORT_CFG_max_frame, FldInfo.mk 8 14 .rw 9728 1 0),
      (.PORT_CFG_down_debounce_us, FldInfo.mk 22 10 .rw 10 1 0),
      (.PORT_CFG_up_debounce_us, FldInfo.mk 32 20 .rw 10000 1 0)]
  -- PORT_HOLD (R391)
  | .PORT_HOLD => [(.PORT_HOLD_port_hold_us, FldInfo.mk 0 20 .rw 0 1 0)]
  -- PORT_STATUS (R34)
  | .PORT_STATUS => [(.PORT_STATUS_link_up, FldInfo.mk 0 1 .ro 0 1 0),
      (.PORT_STATUS_an_done, FldInfo.mk 1 1 .ro 0 1 0),
      (.PORT_STATUS_lt_done, FldInfo.mk 2 1 .ro 0 1 0),
      (.PORT_STATUS_align_lock, FldInfo.mk 3 1 .ro 0 1 0),
      (.PORT_STATUS_local_fault, FldInfo.mk 4 1 .ro 0 1 0),
      (.PORT_STATUS_remote_fault, FldInfo.mk 5 1 .ro 0 1 0),
      (.PORT_STATUS_hold_active, FldInfo.mk 6 1 .ro 0 1 0),
      (.PORT_STATUS_flushing, FldInfo.mk 7 1 .ro 0 1 0),
      (.PORT_STATUS_fec_degraded, FldInfo.mk 8 1 .ro 0 1 0),
      (.PORT_STATUS_down_event, FldInfo.mk 16 1 .w1c 0 1 0),
      (.PORT_STATUS_up_event, FldInfo.mk 17 1 .w1c 0 1 0),
      (.PORT_STATUS_degrade_event, FldInfo.mk 18 1 .w1c 0 1 0),
      (.PORT_STATUS_arg_err, FldInfo.mk 19 1 .w1c 0 1 0)]
  -- FEC_DEGRADE (R37)
  | .FEC_DEGRADE => [(.FEC_DEGRADE_degrade_thresh, FldInfo.mk 0 16 .rw 16 1 0),
      (.FEC_DEGRADE_degrade_window_us, FldInfo.mk 16 16 .rw 1000 1 0)]
  -- PFC_MAP (R42)
  | .PFC_MAP => [(.PFC_MAP_class_prio, FldInfo.mk 0 3 .rw 0 16 3)]
  -- PTP_PORT (R224)
  | .PTP_PORT => [(.PTP_PORT_rx_adj_ps, FldInfo.mk 0 16 .rw 0 1 0),
      (.PTP_PORT_tx_adj_ps, FldInfo.mk 16 16 .rw 0 1 0),
      (.PTP_PORT_asym_ps, FldInfo.mk 32 16 .rw 0 1 0),
      (.PTP_PORT_tc_en, FldInfo.mk 48 1 .rw 0 1 0),
      (.PTP_PORT_tc_l2, FldInfo.mk 49 1 .rw 1 1 0),
      (.PTP_PORT_tc_udp, FldInfo.mk 50 1 .rw 1 1 0)]
  -- PORT_TEST (R364)
  | .PORT_TEST => [(.PORT_TEST_loopback, FldInfo.mk 0 2 .rw 0 1 0),
      (.PORT_TEST_gen_en, FldInfo.mk 2 1 .rw 0 1 0),
      (.PORT_TEST_chk_en, FldInfo.mk 3 1 .rw 0 1 0),
      (.PORT_TEST_payload, FldInfo.mk 4 2 .rw 0 1 0),
      (.PORT_TEST_fill, FldInfo.mk 6 8 .rw 0 1 0),
      (.PORT_TEST_gen_len, FldInfo.mk 14 14 .rw 64 1 0),
      (.PORT_TEST_gen_rate, FldInfo.mk 28 10 .rw 1000 1 0),
      (.PORT_TEST_gen_count, FldInfo.mk 38 25 .rw 0 1 0)]
  -- PORT_GEN_HDR (R360)
  | .PORT_GEN_HDR => [(.PORT_GEN_HDR_dmac, FldInfo.mk 0 48 .rw 0 1 0),
      (.PORT_GEN_HDR_ethertype, FldInfo.mk 48 16 .rw 34998 1 0)]
  -- PORT_CHK (R361)
  | .PORT_CHK => [(.PORT_CHK_gen_sent, FldInfo.mk 0 48 .ro 0 1 0),
      (.PORT_CHK_chk_ok, FldInfo.mk 64 48 .ro 0 1 0),
      (.PORT_CHK_chk_gap, FldInfo.mk 128 48 .ro 0 1 0),
      (.PORT_CHK_chk_misorder, FldInfo.mk 192 48 .ro 0 1 0),
      (.PORT_CHK_chk_payload_err, FldInfo.mk 256 48 .ro 0 1 0)]
  -- SEL_OFFSETS (R51)
  | .SEL_OFFSETS => [(.SEL_OFFSETS_off, FldInfo.mk 0 7 .rwp 0 8 8)]
  -- SEP_STATUS (R65)
  | .SEP_STATUS => [(.SEP_STATUS_arg_err, FldInfo.mk 0 1 .w1c 0 1 0),
      (.SEP_STATUS_lb_key_pending, FldInfo.mk 1 1 .ro 0 1 0)]
  -- LB_KEY (R65)
  | .LB_KEY => [(.LB_KEY_key, FldInfo.mk 0 64 .wo 0 1 0)]
  -- LB_KEY_CTL (R65)
  | .LB_KEY_CTL => [(.LB_KEY_CTL_apply, FldInfo.mk 0 1 .w1s 0 1 0)]
  -- PUNT_AGG (R66)
  | .PUNT_AGG => [(.PUNT_AGG_rate_pps, FldInfo.mk 0 32 .rw 50000000 1 0),
      (.PUNT_AGG_burst, FldInfo.mk 32 16 .rw 65535 1 0)]
  -- PUNT_POLICER (R66)
  | .PUNT_POLICER => [(.PUNT_POLICER_rate_pps, FldInfo.mk 0 32 .rw 5000000 1 0),
      (.PUNT_POLICER_burst, FldInfo.mk 32 16 .rw 4096 1 0)]
  -- SEL_ENTRY (R52)
  | .SEL_ENTRY => [(.SEL_ENTRY_sel_data, FldInfo.mk 0 128 .rw 0 1 0),
      (.SEL_ENTRY_sel_care, FldInfo.mk 128 128 .rw 0 1 0),
      (.SEL_ENTRY_profile_id, FldInfo.mk 256 6 .rw 0 1 0),
      (.SEL_ENTRY_inner, FldInfo.mk 262 1 .rw 0 1 0),
      (.SEL_ENTRY_pass_mask, FldInfo.mk 263 3 .rw 0 1 0),
      (.SEL_ENTRY_set_mask, FldInfo.mk 266 16 .rw 0 1 0),
      (.SEL_ENTRY_valid, FldInfo.mk 282 1 .rw 0 1 0)]
  -- PROFILE (R54)
  | .PROFILE => [(.PROFILE_ext_src_off, FldInfo.mk 0 8 .rw 0 16 20),
      (.PROFILE_ext_width_m1, FldInfo.mk 8 4 .rw 0 16 20),
      (.PROFILE_ext_dst_off, FldInfo.mk 12 6 .rw 0 16 20),
      (.PROFILE_ext_en, FldInfo.mk 18 1 .rw 0 16 20),
      (.PROFILE_probe_en, FldInfo.mk 320 1 .rw 0 1 0),
      (.PROFILE_probe_w, FldInfo.mk 321 1 .rw 0 1 0),
      (.PROFILE_probe_off, FldInfo.mk 322 7 .rw 0 1 0),
      (.PROFILE_probe_adj, FldInfo.mk 329 14 .rw 0 1 0),
      (.PROFILE_l3_off, FldInfo.mk 343 8 .rw 0 1 0),
      (.PROFILE_l3_kind, FldInfo.mk 351 2 .rw 0 1 0),
      (.PROFILE_l4_off, FldInfo.mk 353 8 .rw 0 1 0),
      (.PROFILE_l4_kind, FldInfo.mk 361 2 .rw 0 1 0),
      (.PROFILE_tsrc_mode, FldInfo.mk 363 3 .rw 0 1 0),
      (.PROFILE_tsrc_off, FldInfo.mk 366 8 .rw 0 1 0),
      (.PROFILE_tsrc_shift, FldInfo.mk 374 5 .rw 0 1 0),
      (.PROFILE_tsrc_bits_m1, FldInfo.mk 379 4 .rw 0 1 0),
      (.PROFILE_tmap_base, FldInfo.mk 383 16 .rw 0 1 0),
      (.PROFILE_chain_en, FldInfo.mk 399 1 .rw 0 1 0),
      (.PROFILE_chain_base, FldInfo.mk 400 8 .rw 0 1 0),
      (.PROFILE_depth_action, FldInfo.mk 408 2 .rw 0 1 0),
      (.PROFILE_decap_start, FldInfo.mk 410 8 .rw 0 1 0),
      (.PROFILE_decap_len, FldInfo.mk 418 8 .rw 0 1 0),
      (.PROFILE_short_action, FldInfo.mk 426 2 .rw 0 1 0),
      (.PROFILE_trail_action, FldInfo.mk 428 2 .rw 2 1 0),
      (.PROFILE_ip_len_check, FldInfo.mk 430 1 .rw 0 1 0),
      (.PROFILE_udp_len_check, FldInfo.mk 431 1 .rw 0 1 0),
      (.PROFILE_lb_mask, FldInfo.mk 432 48 .rw 0 1 0),
      (.PROFILE_lb_table, FldInfo.mk 480 4 .rw 0 1 0),
      (.PROFILE_lb_en, FldInfo.mk 484 1 .rw 0 1 0),
      (.PROFILE_tenant_miss_action, FldInfo.mk 485 2 .rw 0 1 0),
      (.PROFILE_tenant_key, FldInfo.mk 487 1 .rw 0 1 0),
      (.PROFILE_valid, FldInfo.mk 488 1 .rw 0 1 0)]
  -- SEP_PORT_CFG (R55)
  | .SEP_PORT_CFG => [(.SEP_PORT_CFG_assumed_len, FldInfo.mk 0 14 .rw 9728 1 0),
      (.SEP_PORT_CFG_port_set, FldInfo.mk 14 4 .rw 0 1 0)]
  -- TENANT_MAP (R61)
  | .TENANT_MAP => [(.TENANT_MAP_tenant, FldInfo.mk 0 12 .rw 0 1 0),
      (.TENANT_MAP_valid, FldInfo.mk 12 1 .rw 0 1 0)]
  -- POOL_CARVE (R193)
  | .POOL_CARVE => [(.POOL_CARVE_p0_granules, FldInfo.mk 0 7 .rwp 12 1 0),
      (.POOL_CARVE_p1_granules, FldInfo.mk 8 7 .rwp 20 1 0),
      (.POOL_CARVE_p2_granules, FldInfo.mk 16 7 .rwp 24 1 0),
      (.POOL_CARVE_p3_granules, FldInfo.mk 24 7 .rwp 24 1 0)]
  -- BUF_STATUS (R203)
  | .BUF_STATUS => [(.BUF_STATUS_arg_err, FldInfo.mk 0 1 .w1c 0 1 0),
      (.BUF_STATUS_double_free_event, FldInfo.mk 1 1 .w1c 0 1 0),
      (.BUF_STATUS_foreign_free_event, FldInfo.mk 2 1 .w1c 0 1 0),
      (.BUF_STATUS_vat_full_event, FldInfo.mk 3 1 .w1c 0 1 0),
      (.BUF_STATUS_ecc_event, FldInfo.mk 4 1 .w1c 0 1 0),
      (.BUF_STATUS_buffers_retired, FldInfo.mk 5 20 .ro 0 1 0)]
  -- POOL_STATUS (R193)
  | .POOL_STATUS => [(.POOL_STATUS_buffers, FldInfo.mk 0 20 .ro 0 1 0),
      (.POOL_STATUS_free, FldInfo.mk 20 20 .ro 0 1 0),
      (.POOL_STATUS_free_min, FldInfo.mk 40 20 .ro 0 1 0)]
  -- BUF_LOG (R203)
  | .BUF_LOG => [(.BUF_LOG_index, FldInfo.mk 0 20 .ro 0 1 0),
      (.BUF_LOG_pool, FldInfo.mk 20 2 .ro 0 1 0),
      (.BUF_LOG_requester, FldInfo.mk 22 9 .ro 0 1 0),
      (.BUF_LOG_owner, FldInfo.mk 31 9 .ro 0 1 0),
      (.BUF_LOG_kind, FldInfo.mk 40 1 .ro 0 1 0),
      (.BUF_LOG_stamp, FldInfo.mk 64 32 .ro 0 1 0)]
  -- VAT_CFG (R3)
  | .VAT_CFG => [(.VAT_CFG_vat_gib, FldInfo.mk 0 7 .rwp 0 1 0)]
  -- VAT_STATUS (R207)
  | .VAT_STATUS => [(.VAT_STATUS_segments, FldInfo.mk 0 21 .ro 0 1 0),
      (.VAT_STATUS_segments_free, FldInfo.mk 21 21 .ro 0 1 0),
      (.VAT_STATUS_free_min, FldInfo.mk 42 21 .ro 0 1 0)]
  -- POOL_QUOTA (R196)
  | .POOL_QUOTA => [(.POOL_QUOTA_limit, FldInfo.mk 0 20 .rw 1048575 1 0),
      (.POOL_QUOTA_used, FldInfo.mk 20 20 .ro 0 1 0)]
  -- ING_CLASS (R197)
  | .ING_CLASS => [(.ING_CLASS_mode, FldInfo.mk 0 1 .rw 1 1 0),
      (.ING_CLASS_default_class, FldInfo.mk 1 4 .rw 0 1 0),
      (.ING_CLASS_pcp_class, FldInfo.mk 5 4 .rw 0 8 4)]
  -- PFC_TX (R199)
  | .PFC_TX => [(.PFC_TX_pause_quanta, FldInfo.mk 0 16 .rw 65535 1 0),
      (.PFC_TX_refresh_quanta, FldInfo.mk 16 16 .rw 32768 1 0)]
  -- ING_ACCT (R199)
  | .ING_ACCT => [(.ING_ACCT_xoff, FldInfo.mk 0 20 .rw 2048 1 0),
      (.ING_ACCT_xon, FldInfo.mk 20 20 .rw 1792 1 0),
      (.ING_ACCT_headroom, FldInfo.mk 40 20 .rw 512 1 0),
      (.ING_ACCT_pfc_gen, FldInfo.mk 60 1 .rw 0 1 0),
      (.ING_ACCT_empty_pfc, FldInfo.mk 61 1 .rw 0 1 0),
      (.ING_ACCT_cut_through, FldInfo.mk 62 1 .rw 1 1 0)]
  -- EGR_Q (R205)
  | .EGR_Q => [(.EGR_Q_egr_limit, FldInfo.mk 0 20 .rw 16384 1 0),
      (.EGR_Q_spill_thresh, FldInfo.mk 20 20 .rw 8192 1 0),
      (.EGR_Q_spill_en, FldInfo.mk 40 1 .rw 0 1 0),
      (.EGR_Q_vat_limit, FldInfo.mk 41 21 .rw 0 1 0),
      (.EGR_Q_ecn_min, FldInfo.mk 64 24 .rw 0 1 0),
      (.EGR_Q_ecn_max, FldInfo.mk 88 24 .rw 0 1 0),
      (.EGR_Q_ecn_en, FldInfo.mk 112 1 .rw 0 1 0)]
  -- FAB_CFG (R249)
  | .FAB_CFG => [(.FAB_CFG_device_id, FldInfo.mk 0 12 .rwp 0 1 0),
      (.FAB_CFG_fabric_en, FldInfo.mk 12 1 .rwp 0 1 0),
      (.FAB_CFG_ethertype, FldInfo.mk 16 16 .rwp 34997 1 0),
      (.FAB_CFG_hops_init, FldInfo.mk 32 4 .rw 4 1 0),
      (.FAB_CFG_late_pass, FldInfo.mk 36 1 .rw 0 1 0),
      (.FAB_CFG_gap_timeout_us, FldInfo.mk 37 10 .rw 50 1 0),
      (.FAB_CFG_pin_ms, FldInfo.mk 47 16 .rw 100 1 0)]
  -- RESEQ_CFG (R249)
  | .RESEQ_CFG => [(.RESEQ_CFG_stream_hold_max, FldInfo.mk 0 17 .rw 8192 1 0)]
  -- FAB_STATUS (R249)
  | .FAB_STATUS => [(.FAB_STATUS_arg_err, FldInfo.mk 0 1 .w1c 0 1 0),
      (.FAB_STATUS_overflow_event, FldInfo.mk 1 1 .w1c 0 1 0),
      (.FAB_STATUS_pin_event, FldInfo.mk 2 1 .w1c 0 1 0),
      (.FAB_STATUS_held, FldInfo.mk 3 17 .ro 0 1 0)]
  -- FAB_UPLINK (R237)
  | .FAB_UPLINK => [(.FAB_UPLINK_port, FldInfo.mk 0 9 .rw 0 1 0),
      (.FAB_UPLINK_weight, FldInfo.mk 9 8 .rw 16 1 0),
      (.FAB_UPLINK_valid, FldInfo.mk 17 1 .rw 0 1 0)]
  -- FAB_ROUTE (R238)
  | .FAB_ROUTE => [(.FAB_ROUTE_uplink_mask, FldInfo.mk 0 64 .rw 0 1 0),
      (.FAB_ROUTE_valid, FldInfo.mk 64 1 .rw 0 1 0),
      (.FAB_ROUTE_pinned, FldInfo.mk 65 1 .rw 0 1 0)]
  -- FAB_GROUP (R237)
  | .FAB_GROUP => [(.FAB_GROUP_dest, FldInfo.mk 0 12 .rw 0 1 0),
      (.FAB_GROUP_valid, FldInfo.mk 12 1 .rw 0 1 0)]
  -- NH_GROUP (R229)
  | .NH_GROUP => [(.NH_GROUP_member_base, FldInfo.mk 0 16 .rw 0 1 0),
      (.NH_GROUP_count, FldInfo.mk 16 9 .rw 0 1 0),
      (.NH_GROUP_valid, FldInfo.mk 25 1 .rw 0 1 0),
      (.NH_GROUP_skip_down, FldInfo.mk 26 1 .rw 1 1 0)]
  -- NH_MEMBER (R229)
  | .NH_MEMBER => [(.NH_MEMBER_dmac, FldInfo.mk 0 48 .rw 0 1 0),
      (.NH_MEMBER_port, FldInfo.mk 48 9 .rw 0 1 0),
      (.NH_MEMBER_valid, FldInfo.mk 57 1 .rw 0 1 0),
      (.NH_MEMBER_smac_idx, FldInfo.mk 64 8 .rw 0 1 0),
      (.NH_MEMBER_vid, FldInfo.mk 72 12 .rw 0 1 0),
      (.NH_MEMBER_vlan_op, FldInfo.mk 84 2 .rw 0 1 0),
      (.NH_MEMBER_pcp, FldInfo.mk 86 3 .rw 0 1 0),
      (.NH_MEMBER_l2_en, FldInfo.mk 89 1 .rw 0 1 0)]
  -- SMAC (R229)
  | .SMAC => [(.SMAC_mac, FldInfo.mk 0 48 .rw 0 1 0)]
  -- INDIR (R226)
  | .INDIR => [(.INDIR_entry, FldInfo.mk 0 64 .rw 0 1 0)]
  -- RING_BASE (R256)
  | .RING_BASE => [(.RING_BASE_addr, FldInfo.mk 0 64 .rw 0 1 0)]
  -- RING_CTL (R256)
  | .RING_CTL => [(.RING_CTL_log2_size, FldInfo.mk 0 5 .rw 6 1 0),
      (.RING_CTL_en, FldInfo.mk 5 1 .rw 0 1 0),
      (.RING_CTL_vector, FldInfo.mk 6 5 .rw 0 1 0),
      (.RING_CTL_mod_count, FldInfo.mk 11 10 .rw 1 1 0),
      (.RING_CTL_mod_time_us, FldInfo.mk 21 16 .rw 0 1 0),
      (.RING_CTL_irq_en, FldInfo.mk 37 1 .rw 0 1 0),
      (.RING_CTL_stopped, FldInfo.mk 38 1 .ro 0 1 0)]
  -- SB_ADDR (R256)
  | .SB_ADDR => [(.SB_ADDR_addr, FldInfo.mk 0 64 .rw 0 1 0)]
  -- SET_CTL (R256)
  | .SET_CTL => [(.SET_CTL_set_en, FldInfo.mk 0 1 .rw 0 1 0)]
  -- SET_ERR (R261)
  | .SET_ERR => [(.SET_ERR_db_err, FldInfo.mk 0 1 .w1c 0 1 0),
      (.SET_ERR_dma_err, FldInfo.mk 1 1 .w1c 0 1 0),
      (.SET_ERR_cfg_err, FldInfo.mk 2 1 .w1c 0 1 0),
      (.SET_ERR_last_ring, FldInfo.mk 4 3 .ro 0 1 0)]

/-- The field table row of a field. -/
def Fld.info (f : Fld) : FldInfo :=
  match f.reg.table.find? (fun p => p.1 = f) with
  | some p => p.2
  | none => FldInfo.mk 0 0 .ro 0 0 0


/-- The registers of the map of R375 and of the BAR2 pages of R256. -/
def Reg.info : Reg → RegInfo
  | .DEV_ID => ⟨0x0, 64, 1, 0, 1, 0, 0⟩
  | .DEV_UID => ⟨0x8, 64, 1, 0, 1, 0, 0⟩
  | .DEV_PEN => ⟨0x10, 64, 1, 0, 1, 0, 0⟩
  | .FW_BUILD => ⟨0x18, 64, 1, 0, 1, 0, 0⟩
  | .GLOBAL_STATUS => ⟨0x20, 64, 1, 0, 1, 0, 0⟩
  | .SETUP_LOCK => ⟨0x28, 64, 1, 0, 1, 0, 0⟩
  | .LOCK_LOG => ⟨0x30, 64, 1, 0, 1, 0, 0⟩
  | .RIND_STATUS => ⟨0x1000, 64, 1, 0, 1, 0, 0⟩
  | .RESET_CAUSE => ⟨0x1008, 64, 1, 0, 1, 0, 0⟩
  | .START_STATUS => ⟨0x1010, 64, 1, 0, 1, 0, 0⟩
  | .PD_STATE => ⟨0x1020, 64, 3, 8, 1, 0, 0⟩
  | .PD_HELD => ⟨0x1038, 64, 3, 8, 1, 0, 0⟩
  | .THERMAL => ⟨0x1050, 64, 1, 0, 1, 0, 0⟩
  | .RAIL => ⟨0x1058, 64, 1, 0, 1, 0, 0⟩
  | .UPD_STATUS => ⟨0x1060, 64, 1, 0, 1, 0, 0⟩
  | .UPD_MILK => ⟨0x1068, 64, 1, 0, 1, 0, 0⟩
  | .REPAIR_LINKS => ⟨0x1070, 64, 1, 0, 1, 0, 0⟩
  | .BIST_STATUS => ⟨0x1078, 64, 1, 0, 1, 0, 0⟩
  | .HIF_STATUS => ⟨0x2000, 64, 1, 0, 1, 0, 0⟩
  | .HIF_RESET_LOG => ⟨0x2008, 64, 1, 0, 1, 0, 0⟩
  | .EVT_CAUSE => ⟨0x2010, 64, 1, 0, 1, 0, 0⟩
  | .EVT_MASK => ⟨0x2018, 64, 1, 0, 1, 0, 0⟩
  | .EVT_REARM => ⟨0x2028, 64, 1, 0, 1, 0, 0⟩
  | .RIND_EVT => ⟨0x2030, 64, 1, 0, 1, 0, 0⟩
  | .RSET_OWNER => ⟨0x2100, 64, 64, 8, 1, 0, 0⟩
  | .PUNT_DEST => ⟨0x2800, 64, 256, 8, 1, 0, 0⟩
  | .SKIM_CFG => ⟨0x3000, 64, 1, 0, 1, 0, 0⟩
  | .SKIM_STATUS => ⟨0x3008, 64, 1, 0, 1, 0, 0⟩
  | .HBM_SPLIT => ⟨0x4000, 64, 1, 0, 1, 0, 0⟩
  | .MIRROR_SESSION => ⟨0x5000, 64, 64, 8, 1, 0, 0⟩
  | .TIME_CFG => ⟨0x6000, 64, 1, 0, 1, 0, 0⟩
  | .TIME_STATUS => ⟨0x6008, 64, 1, 0, 1, 0, 0⟩
  | .TIME_NOW_LO => ⟨0x6010, 64, 1, 0, 1, 0, 0⟩
  | .TIME_NOW_HI => ⟨0x6018, 64, 1, 0, 1, 0, 0⟩
  | .TIME_RATE => ⟨0x6020, 64, 1, 0, 1, 0, 0⟩
  | .TIME_SLEW => ⟨0x6028, 64, 1, 0, 1, 0, 0⟩
  | .TIME_STEP_LO => ⟨0x6030, 64, 1, 0, 1, 0, 0⟩
  | .TIME_STEP_HI => ⟨0x6038, 64, 1, 0, 1, 0, 0⟩
  | .TIME_CTL => ⟨0x6040, 64, 1, 0, 1, 0, 0⟩
  | .PPS_CAP_LO => ⟨0x6048, 64, 1, 0, 1, 0, 0⟩
  | .PPS_CAP_HI => ⟨0x6050, 64, 1, 0, 1, 0, 0⟩
  | .EPOCH_LOG_LO => ⟨0x6058, 64, 1, 0, 1, 0, 0⟩
  | .EPOCH_LOG_HI => ⟨0x6060, 64, 1, 0, 1, 0, 0⟩
  | .TRIG_START_LO => ⟨0x6100, 64, 8, 32, 1, 0, 0⟩
  | .TRIG_START_HI => ⟨0x6108, 64, 8, 32, 1, 0, 0⟩
  | .TRIG_PERIOD => ⟨0x6110, 64, 8, 32, 1, 0, 0⟩
  | .TRIG_CTL => ⟨0x6118, 64, 8, 32, 1, 0, 0⟩
  | .GATE_TRIG => ⟨0x7000, 64, 256, 8, 1, 0, 0⟩
  | .STR_BLOCK_CFG => ⟨0x8000, 64, 1, 0, 1, 0, 0⟩
  | .STR_CTL => ⟨0x8008, 64, 1, 0, 1, 0, 0⟩
  | .STR_STATUS => ⟨0x8010, 64, 1, 0, 1, 0, 0⟩
  | .STR_LOG => ⟨0x8018, 64, 1, 0, 1, 0, 0⟩
  | .STR_LKP => ⟨0x9000, 512, 64, 64, 1, 0, 0⟩
  | .CHURN_CFG => ⟨0x10000, 64, 1, 0, 1, 0, 0⟩
  | .MCK_LOG => ⟨0x10008, 64, 1, 0, 1, 0, 0⟩
  | .MCK_STATUS => ⟨0x10010, 64, 1, 0, 1, 0, 0⟩
  | .CLUSTER_QUARANTINE => ⟨0x10018, 64, 1, 0, 1, 0, 0⟩
  | .PUBLISH_STATUS => ⟨0x10020, 64, 1, 0, 1, 0, 0⟩
  | .PUBLISH_CFG => ⟨0x10028, 64, 1, 0, 1, 0, 0⟩
  | .NAT_STATUS => ⟨0x10030, 64, 1, 0, 1, 0, 0⟩
  | .NAT_POOL => ⟨0x11000, 128, 256, 16, 1, 0, 0⟩
  | .NAT_TQUOTA => ⟨0x12000, 64, 4096, 8, 1, 0, 0⟩
  | .CELLAR_CFG => ⟨0x20000, 64, 1, 0, 1, 0, 0⟩
  | .AGE_CTL => ⟨0x20008, 64, 1, 0, 1, 0, 0⟩
  | .AGE_CLASS => ⟨0x20010, 64, 2, 8, 1, 0, 0⟩
  | .CELLAR_REKEY => ⟨0x20020, 64, 1, 0, 1, 0, 0⟩
  | .CELLAR_STATUS => ⟨0x20028, 64, 1, 0, 1, 0, 0⟩
  | .TENANT_QUOTA => ⟨0x30000, 64, 4096, 8, 1, 0, 0⟩
  | .SCHED_Q => ⟨0x40000, 64, 257, 128, 16, 8, 0⟩
  | .SCHED_PORT => ⟨0x49000, 64, 257, 8, 1, 0, 0⟩
  | .LAUNCH_CFG => ⟨0x4A000, 64, 1, 0, 1, 0, 0⟩
  | .EGR_STATUS => ⟨0x4A008, 64, 1, 0, 1, 0, 0⟩
  | .GATE_LIST => ⟨0x50000, 64, 256, 128, 16, 8, 0⟩
  | .WHEY_CFG => ⟨0x60000, 64, 1, 0, 1, 0, 0⟩
  | .WHEY_STATUS => ⟨0x60008, 64, 1, 0, 1, 0, 0⟩
  | .WHEY_CTL => ⟨0x60010, 64, 1, 0, 1, 0, 0⟩
  | .WHEY_ROUTE => ⟨0x60100, 64, 16, 8, 1, 0, 0⟩
  | .IPFIX_CFG => ⟨0x60400, 320, 4, 64, 1, 0, 0⟩
  | .DROP_SAMPLE_CFG => ⟨0x60800, 64, 256, 8, 1, 0, 0⟩
  | .WHEY_VIEW => ⟨0x62000, 64, 256, 8, 1, 0, 0⟩
  | .QWM => ⟨0x70000, 64, 257, 128, 16, 8, 0⟩
  | .TALLY_CTL => ⟨0x80000, 64, 1, 0, 1, 0, 0⟩
  | .TALLY_SETCFG => ⟨0x80100, 64, 64, 8, 1, 0, 0⟩
  | .TALLY_GROUP => ⟨0x80800, 64, 395, 8, 1, 0, 0⟩
  | .TALLY_PROG => ⟨0x90000, 128, 395, 128, 8, 16, 0⟩
  | .OCTET_LAYOUT => ⟨0xA0000, 64, 32, 1024, 1, 0, 0⟩
  | .OCTET_STATUS => ⟨0xA0008, 64, 32, 1024, 1, 0, 0⟩
  | .LANE_TEST => ⟨0xA0100, 256, 32, 1024, 8, 32, 0⟩
  | .PORT_CFG => ⟨0xB0000, 64, 256, 256, 1, 0, 0⟩
  | .PORT_HOLD => ⟨0xB0008, 64, 256, 256, 1, 0, 0⟩
  | .PORT_STATUS => ⟨0xB0010, 64, 256, 256, 1, 0, 0⟩
  | .FEC_DEGRADE => ⟨0xB0018, 64, 256, 256, 1, 0, 0⟩
  | .PFC_MAP => ⟨0xB0020, 64, 256, 256, 1, 0, 0⟩
  | .PTP_PORT => ⟨0xB0028, 64, 256, 256, 1, 0, 0⟩
  | .PORT_TEST => ⟨0xB0030, 64, 256, 256, 1, 0, 0⟩
  | .PORT_GEN_HDR => ⟨0xB0038, 64, 256, 256, 1, 0, 0⟩
  | .PORT_CHK => ⟨0xB0040, 320, 256, 256, 1, 0, 0⟩
  | .SEL_OFFSETS => ⟨0xC0000, 64, 2, 8, 1, 0, 0⟩
  | .SEP_STATUS => ⟨0xC0010, 64, 1, 0, 1, 0, 0⟩
  | .LB_KEY => ⟨0xC0020, 64, 2, 8, 1, 0, 0⟩
  | .LB_KEY_CTL => ⟨0xC0030, 64, 1, 0, 1, 0, 0⟩
  | .PUNT_AGG => ⟨0xC0040, 64, 1, 0, 1, 0, 0⟩
  | .PUNT_POLICER => ⟨0xC0800, 64, 256, 8, 1, 0, 0⟩
  | .SEL_ENTRY => ⟨0xC1000, 512, 64, 64, 1, 0, 0⟩
  | .PROFILE => ⟨0xC2000, 512, 64, 64, 1, 0, 0⟩
  | .SEP_PORT_CFG => ⟨0xC3000, 64, 273, 8, 1, 0, 0⟩
  | .TENANT_MAP => ⟨0xD0000, 16, 65536, 2, 1, 0, 0⟩
  | .POOL_CARVE => ⟨0x100000, 64, 1, 0, 1, 0, 0⟩
  | .BUF_STATUS => ⟨0x100008, 64, 1, 0, 1, 0, 0⟩
  | .POOL_STATUS => ⟨0x100010, 64, 4, 8, 1, 0, 0⟩
  | .BUF_LOG => ⟨0x100030, 128, 1, 0, 1, 0, 0⟩
  | .VAT_CFG => ⟨0x100040, 64, 1, 0, 1, 0, 0⟩
  | .VAT_STATUS => ⟨0x100048, 64, 1, 0, 1, 0, 0⟩
  | .POOL_QUOTA => ⟨0x101000, 64, 274, 32, 4, 8, 0⟩
  | .ING_CLASS => ⟨0x104000, 64, 256, 8, 1, 0, 0⟩
  | .PFC_TX => ⟨0x104800, 64, 256, 8, 1, 0, 0⟩
  | .ING_ACCT => ⟨0x108000, 64, 256, 128, 16, 8, 0⟩
  | .EGR_Q => ⟨0x110000, 128, 257, 256, 16, 16, 0⟩
  | .FAB_CFG => ⟨0x140000, 64, 1, 0, 1, 0, 0⟩
  | .RESEQ_CFG => ⟨0x140008, 64, 1, 0, 1, 0, 0⟩
  | .FAB_STATUS => ⟨0x140010, 64, 1, 0, 1, 0, 0⟩
  | .FAB_UPLINK => ⟨0x140100, 64, 64, 8, 1, 0, 0⟩
  | .FAB_ROUTE => ⟨0x150000, 128, 4096, 16, 1, 0, 0⟩
  | .FAB_GROUP => ⟨0x160000, 64, 4096, 8, 1, 0, 0⟩
  | .NH_GROUP => ⟨0x200000, 64, 4096, 8, 1, 0, 0⟩
  | .NH_MEMBER => ⟨0x208000, 128, 65536, 16, 1, 0, 0⟩
  | .SMAC => ⟨0x308000, 64, 256, 8, 1, 0, 0⟩
  | .INDIR => ⟨0x800000, 64, 16, 524288, 65536, 8, 0⟩
  | .RING_BASE => ⟨0x100, 64, 64, 4096, 8, 16, 2⟩
  | .RING_CTL => ⟨0x108, 64, 64, 4096, 8, 16, 2⟩
  | .SB_ADDR => ⟨0x200, 64, 64, 4096, 1, 0, 2⟩
  | .SET_CTL => ⟨0x208, 64, 64, 4096, 1, 0, 2⟩
  | .SET_ERR => ⟨0x210, 64, 64, 4096, 1, 0, 2⟩

/-- The fields of each register, lowest bit first. -/
def Reg.flds (r : Reg) : List Fld := r.table.map (fun p => p.1)

/-- Registers of the map, part 0. -/
def regPart0 : List Reg :=
  [.DEV_ID, .DEV_UID, .DEV_PEN, .FW_BUILD, .GLOBAL_STATUS, .SETUP_LOCK, .LOCK_LOG, .RIND_STATUS,
   .RESET_CAUSE, .START_STATUS, .PD_STATE, .PD_HELD, .THERMAL, .RAIL, .UPD_STATUS, .UPD_MILK,
   .REPAIR_LINKS, .BIST_STATUS, .HIF_STATUS, .HIF_RESET_LOG, .EVT_CAUSE, .EVT_MASK, .EVT_REARM, .RIND_EVT,
   .RSET_OWNER, .PUNT_DEST, .SKIM_CFG, .SKIM_STATUS, .HBM_SPLIT, .MIRROR_SESSION, .TIME_CFG, .TIME_STATUS,
   .TIME_NOW_LO, .TIME_NOW_HI, .TIME_RATE, .TIME_SLEW, .TIME_STEP_LO, .TIME_STEP_HI, .TIME_CTL, .PPS_CAP_LO]

/-- Registers of the map, part 1. -/
def regPart1 : List Reg :=
  [.PPS_CAP_HI, .EPOCH_LOG_LO, .EPOCH_LOG_HI, .TRIG_START_LO, .TRIG_START_HI, .TRIG_PERIOD, .TRIG_CTL, .GATE_TRIG,
   .STR_BLOCK_CFG, .STR_CTL, .STR_STATUS, .STR_LOG, .STR_LKP, .CHURN_CFG, .MCK_LOG, .MCK_STATUS,
   .CLUSTER_QUARANTINE, .PUBLISH_STATUS, .PUBLISH_CFG, .NAT_STATUS, .NAT_POOL, .NAT_TQUOTA, .CELLAR_CFG, .AGE_CTL,
   .AGE_CLASS, .CELLAR_REKEY, .CELLAR_STATUS, .TENANT_QUOTA, .SCHED_Q, .SCHED_PORT, .LAUNCH_CFG, .EGR_STATUS,
   .GATE_LIST, .WHEY_CFG, .WHEY_STATUS, .WHEY_CTL, .WHEY_ROUTE, .IPFIX_CFG, .DROP_SAMPLE_CFG, .WHEY_VIEW]

/-- Registers of the map, part 2. -/
def regPart2 : List Reg :=
  [.QWM, .TALLY_CTL, .TALLY_SETCFG, .TALLY_GROUP, .TALLY_PROG, .OCTET_LAYOUT, .OCTET_STATUS, .LANE_TEST,
   .PORT_CFG, .PORT_HOLD, .PORT_STATUS, .FEC_DEGRADE, .PFC_MAP, .PTP_PORT, .PORT_TEST, .PORT_GEN_HDR,
   .PORT_CHK, .SEL_OFFSETS, .SEP_STATUS, .LB_KEY, .LB_KEY_CTL, .PUNT_AGG, .PUNT_POLICER, .SEL_ENTRY,
   .PROFILE, .SEP_PORT_CFG, .TENANT_MAP, .POOL_CARVE, .BUF_STATUS, .POOL_STATUS, .BUF_LOG, .VAT_CFG,
   .VAT_STATUS, .POOL_QUOTA, .ING_CLASS, .PFC_TX, .ING_ACCT, .EGR_Q, .FAB_CFG, .RESEQ_CFG]

/-- Registers of the map, part 3. -/
def regPart3 : List Reg :=
  [.FAB_STATUS, .FAB_UPLINK, .FAB_ROUTE, .FAB_GROUP, .NH_GROUP, .NH_MEMBER, .SMAC, .INDIR,
   .RING_BASE, .RING_CTL, .SB_ADDR, .SET_CTL, .SET_ERR]

/-- Every register of the map. -/
def Reg.all : List Reg := regPart0 ++ regPart1 ++ regPart2 ++ regPart3

/-- A register instance answers for a byte offset: the index pair and the 64-bit word within it. -/
def Reg.hit (r : Reg) (bar off : Nat) : Option (Nat × Nat) :=
  let f := r.info
  if bar ≠ f.bar ∨ off < f.base then none
  else
    let d := off - f.base
    let i := if f.s1 = 0 then 0 else d / f.s1
    let d1 := if f.s1 = 0 then d else d % f.s1
    let j := if f.s2 = 0 then 0 else d1 / f.s2
    let d2 := if f.s2 = 0 then d1 else d1 % f.s2
    if i < f.n1 ∧ j < f.n2 ∧ d2 * 8 < f.bits then some (i * f.n2 + j, d2 / 8) else none

/-- The register, the instance and the 64-bit word that a BAR offset names (R370, R375); none: reserved (R254). -/
def regAt (bar off : Nat) : Option (Reg × Nat × Nat) :=
  Reg.all.findSome? (fun r => (r.hit bar off).map (fun p => (r, p.1, p.2)))

end Sys2Proof.Machine
end

