-- ==== Sys2Proof/Machine/Ctr.lean ====
section
/-! DEFINITION. The fixed Tally counters and gauges, by group (R305): every counter of R39, R67, R93, R118, R136, R163,
R210, R233, R250, R273, R290, R312 and R314. A name that begins with g is a gauge. -/

namespace Sys2Proof.Machine

/-- The fixed counters and gauges. -/
inductive Ctr where
  -- groups 0 to 31: lane octets (R39); instance = port or lane number
  | fecBin0 | fecBin1 | fecBin2 | fecBin3 | fecBin4 | fecBin5 | fecBin6 | fecBin7
  | fecBin8 | fecBin9 | fecBin10 | fecBin11 | fecBin12 | fecBin13 | fecBin14 | fecBin15
  | fecUncorrected | fecSymCorrected | rxFecErr | rxStagingOverrun | rxOversize | rxRunt | rxFcsErr | rxPfc
  | rxPause | rxMacCtrlOther | rxForeign | rxOk | txOk | txStomped | txLinkAbort | linkGlitch
  | downDrop | holdFlushFrames | holdFlushBytes
  -- groups 32 to 47: slices (R67, R118, R312); instance = slice
  | selNoProfile | probeFail | probeOverrun | parseDepthPunt | parseDepthDrop | recircDecap | tenantMiss | lenShort
  | lenTrail | lenPuntLost | bankStall | sliceSlotRetired | sliceSlotWasted | sliceSlotFront | sliceSlotBack | gSliceSlotInflight
  -- groups 48 to 111: clusters (R163, R312); instance = cluster
  | dispatchLvl0 | dispatchLvl1 | dispatchLvl2 | dispatchLvl3 | commit | checkpoint | squash | forcedNonspec
  | nonspecFirst | commitFullSquash | cancelInFlight | yieldTaken | preemptRequest | natReserve | natReserveReturned | natTakeFail
  | natBadReturn | effectOverflow | mckEvent | routineFault | ctxEccReplay | slotRetired | slotWasted | slotFront
  | slotBack | gSlotInflight
  -- groups 112 to 127: Skim banks (R118, R136); instance = bank
  | lookup | hit | join | wbHit | missOpen | missNewFlow | missLatencySum | portConflict
  | missEntryFull | waitPoolFull | fill | evictClean | evictDirty | wbUrgent | skimBypass | deleteWbCancel
  | eccCorrected | eccCleanDrop | poisonDirty | newFlowOverload | gWaysValid | gMissEntriesPeak | gWbQueuePeak | gQueuePeak
  -- groups 128 to 128: Strainer (R136)
  | search | probeIssue | probeHit | continueTaken | defaultUsed | falseHit | repeatLimit | sramCorrected
  | poisonHit | throttleSlots | scrubPass | purgeRemoved
  -- groups 129 to 129: Cellar (R93)
  | learnOk | learnStash | restash | quotaExceeded | cellarFull | stashFull | tagCollision | ageRemoved
  | teardownRun | sweepOverrun | rekeyMigrated | rekeyEvict | poisonRecord | poisonBucket | hostInsert | hostUpdate
  | hostDelete | hostRead | hostNotFound
  -- groups 130 to 130: HBM scheduler (R118)
  | cellarBytes | vatBytes | lentToCellar | lentToVat | migrationBytes | hintWrite | hintSkip
  -- groups 131 to 131: buffers, device (R210); instance of the first two = pool
  | poolAlloc | poolFree | injWait | doubleFree | foreignFree | bufEccCorrected | bufEccFrame | vatEccCorrected
  | vatEccFrame | vatEccResync
  -- groups 132 to 388: ports (R210, R233); instance = port, or port * 16 + class
  | ingLimitDrop | quotaDrop | poolEmptyDrop | txPfc | pfcPauseEvents | vatIn | vatSpillStart | vatLimitDrop
  | vatFullDrop | egrLimitDrop | ecnMarked | txFrames | txBytes | lateDrop | lateSent | launchInvalid
  | gateOverrun | guardIdleNs | egrMtuDrop | edSkip | vlanNoop | ptpTcUpdated | ptpOneStep | ptpStampReturned
  | gIngCellsPeak | gOnDiePeak | gVatPeak
  -- groups 389 to 389: egress, device (R233)
  | mirrorSent | mirrorInvalid | noEgressGroup
  -- groups 390 to 390: fabric (R250)
  | sprayTx | pinnedTx | movedIn | fabDelaySum | fabFrames | fabUnreach | reseqLost | reseqLate
  | reseqOverflow | reseqResync | transitTx | fabHopsDrop | shimBad | fabDisabledDrop | pinReqSent | pinReqIgnored
  | gFabDelayMax | gHeldPeak
  -- groups 391 to 391: host interface (R273)
  | cmdFetched | cplWritten | puntDelivered | puntRingFull | injFrames | wheyWritten | tallyWritten | ringFullDrop
  | ringOffDrop | dbErrCount | dbDisabled | puntNoRing | cplLost | injLost | dbPartial
  -- groups 392 to 392: time unit (R290)
  | ppsCount | ppsGlitch | ppsMissingCount | refLostCount | stepCount | reepochCount | trigFired | trigLate
  | trigSkipped
  -- groups 393 to 393: Whey and Tally (R314); instance of the first three = type - 1
  | wheyIn | wheyDrop | wheyUnrouted | wheyResetLost | periodicEmitted | periodicOverrun | ipfixRecords | ipfixMsgs
  | ipfixMsgDrop | ipfixTemplates | snapCount | snapOverrun | tallyRecords | userTruncated | gWheyQueuePeak
  -- groups 394 to 394: device-wide (R67, R163)
  | puntPoliced | puntAggDrop | cancelBeforeDispatch | badOpcode | noEgress
  deriving DecidableEq, Repr

/-- Where a counter lies (R305): its first group, its first index in a group, and its instances per group. -/
def Ctr.base (c : Ctr) : Nat × Nat × Nat :=
  match c with
  | .fecBin0 => (0, 8, 8)
  | .fecBin1 => (0, 16, 8)
  | .fecBin2 => (0, 24, 8)
  | .fecBin3 => (0, 32, 8)
  | .fecBin4 => (0, 40, 8)
  | .fecBin5 => (0, 48, 8)
  | .fecBin6 => (0, 56, 8)
  | .fecBin7 => (0, 64, 8)
  | .fecBin8 => (0, 72, 8)
  | .fecBin9 => (0, 80, 8)
  | .fecBin10 => (0, 88, 8)
  | .fecBin11 => (0, 96, 8)
  | .fecBin12 => (0, 104, 8)
  | .fecBin13 => (0, 112, 8)
  | .fecBin14 => (0, 120, 8)
  | .fecBin15 => (0, 128, 8)
  | .fecUncorrected => (0, 136, 8)
  | .fecSymCorrected => (0, 144, 8)
  | .rxFecErr => (0, 152, 8)
  | .rxStagingOverrun => (0, 160, 8)
  | .rxOversize => (0, 168, 8)
  | .rxRunt => (0, 176, 8)
  | .rxFcsErr => (0, 184, 8)
  | .rxPfc => (0, 192, 8)
  | .rxPause => (0, 200, 8)
  | .rxMacCtrlOther => (0, 208, 8)
  | .rxForeign => (0, 216, 8)
  | .rxOk => (0, 224, 8)
  | .txOk => (0, 232, 8)
  | .txStomped => (0, 240, 8)
  | .txLinkAbort => (0, 248, 8)
  | .linkGlitch => (0, 256, 8)
  | .downDrop => (0, 264, 8)
  | .holdFlushFrames => (0, 272, 8)
  | .holdFlushBytes => (0, 280, 8)
  | .selNoProfile => (32, 8, 1)
  | .probeFail => (32, 9, 1)
  | .probeOverrun => (32, 10, 1)
  | .parseDepthPunt => (32, 11, 1)
  | .parseDepthDrop => (32, 12, 1)
  | .recircDecap => (32, 13, 1)
  | .tenantMiss => (32, 14, 1)
  | .lenShort => (32, 15, 1)
  | .lenTrail => (32, 16, 1)
  | .lenPuntLost => (32, 17, 1)
  | .bankStall => (32, 18, 1)
  | .sliceSlotRetired => (32, 19, 1)
  | .sliceSlotWasted => (32, 20, 1)
  | .sliceSlotFront => (32, 21, 1)
  | .sliceSlotBack => (32, 22, 1)
  | .gSliceSlotInflight => (32, 23, 1)
  | .dispatchLvl0 => (48, 8, 1)
  | .dispatchLvl1 => (48, 9, 1)
  | .dispatchLvl2 => (48, 10, 1)
  | .dispatchLvl3 => (48, 11, 1)
  | .commit => (48, 12, 1)
  | .checkpoint => (48, 13, 1)
  | .squash => (48, 14, 1)
  | .forcedNonspec => (48, 15, 1)
  | .nonspecFirst => (48, 16, 1)
  | .commitFullSquash => (48, 17, 1)
  | .cancelInFlight => (48, 18, 1)
  | .yieldTaken => (48, 19, 1)
  | .preemptRequest => (48, 20, 1)
  | .natReserve => (48, 21, 1)
  | .natReserveReturned => (48, 22, 1)
  | .natTakeFail => (48, 23, 1)
  | .natBadReturn => (48, 24, 1)
  | .effectOverflow => (48, 25, 1)
  | .mckEvent => (48, 26, 1)
  | .routineFault => (48, 27, 1)
  | .ctxEccReplay => (48, 28, 1)
  | .slotRetired => (48, 29, 1)
  | .slotWasted => (48, 30, 1)
  | .slotFront => (48, 31, 1)
  | .slotBack => (48, 32, 1)
  | .gSlotInflight => (48, 33, 1)
  | .lookup => (112, 8, 1)
  | .hit => (112, 9, 1)
  | .join => (112, 10, 1)
  | .wbHit => (112, 11, 1)
  | .missOpen => (112, 12, 1)
  | .missNewFlow => (112, 13, 1)
  | .missLatencySum => (112, 14, 1)
  | .portConflict => (112, 15, 1)
  | .missEntryFull => (112, 16, 1)
  | .waitPoolFull => (112, 17, 1)
  | .fill => (112, 18, 1)
  | .evictClean => (112, 19, 1)
  | .evictDirty => (112, 20, 1)
  | .wbUrgent => (112, 21, 1)
  | .skimBypass => (112, 22, 1)
  | .deleteWbCancel => (112, 23, 1)
  | .eccCorrected => (112, 24, 1)
  | .eccCleanDrop => (112, 25, 1)
  | .poisonDirty => (112, 26, 1)
  | .newFlowOverload => (112, 27, 1)
  | .gWaysValid => (112, 28, 1)
  | .gMissEntriesPeak => (112, 29, 1)
  | .gWbQueuePeak => (112, 30, 1)
  | .gQueuePeak => (112, 31, 1)
  | .search => (128, 8, 1)
  | .probeIssue => (128, 9, 1)
  | .probeHit => (128, 10, 1)
  | .continueTaken => (128, 11, 1)
  | .defaultUsed => (128, 12, 1)
  | .falseHit => (128, 13, 1)
  | .repeatLimit => (128, 14, 1)
  | .sramCorrected => (128, 15, 1)
  | .poisonHit => (128, 16, 1)
  | .throttleSlots => (128, 17, 1)
  | .scrubPass => (128, 18, 1)
  | .purgeRemoved => (128, 19, 1)
  | .learnOk => (129, 8, 1)
  | .learnStash => (129, 9, 1)
  | .restash => (129, 10, 1)
  | .quotaExceeded => (129, 11, 1)
  | .cellarFull => (129, 12, 1)
  | .stashFull => (129, 13, 1)
  | .tagCollision => (129, 14, 1)
  | .ageRemoved => (129, 15, 1)
  | .teardownRun => (129, 16, 1)
  | .sweepOverrun => (129, 17, 1)
  | .rekeyMigrated => (129, 18, 1)
  | .rekeyEvict => (129, 19, 1)
  | .poisonRecord => (129, 20, 1)
  | .poisonBucket => (129, 21, 1)
  | .hostInsert => (129, 22, 1)
  | .hostUpdate => (129, 23, 1)
  | .hostDelete => (129, 24, 1)
  | .hostRead => (129, 25, 1)
  | .hostNotFound => (129, 26, 1)
  | .cellarBytes => (130, 8, 1)
  | .vatBytes => (130, 9, 1)
  | .lentToCellar => (130, 10, 1)
  | .lentToVat => (130, 11, 1)
  | .migrationBytes => (130, 12, 1)
  | .hintWrite => (130, 13, 1)
  | .hintSkip => (130, 14, 1)
  | .poolAlloc => (131, 8, 4)
  | .poolFree => (131, 12, 4)
  | .injWait => (131, 16, 1)
  | .doubleFree => (131, 17, 1)
  | .foreignFree => (131, 18, 1)
  | .bufEccCorrected => (131, 19, 1)
  | .bufEccFrame => (131, 20, 1)
  | .vatEccCorrected => (131, 21, 1)
  | .vatEccFrame => (131, 22, 1)
  | .vatEccResync => (131, 23, 1)
  | .ingLimitDrop => (132, 8, 1)
  | .quotaDrop => (132, 9, 1)
  | .poolEmptyDrop => (132, 10, 1)
  | .txPfc => (132, 11, 1)
  | .pfcPauseEvents => (132, 12, 1)
  | .vatIn => (132, 13, 16)
  | .vatSpillStart => (132, 29, 16)
  | .vatLimitDrop => (132, 45, 16)
  | .vatFullDrop => (132, 61, 16)
  | .egrLimitDrop => (132, 77, 16)
  | .ecnMarked => (132, 93, 16)
  | .txFrames => (132, 109, 16)
  | .txBytes => (132, 125, 16)
  | .lateDrop => (132, 141, 16)
  | .lateSent => (132, 157, 16)
  | .launchInvalid => (132, 173, 16)
  | .gateOverrun => (132, 189, 16)
  | .guardIdleNs => (132, 205, 1)
  | .egrMtuDrop => (132, 206, 1)
  | .edSkip => (132, 207, 1)
  | .vlanNoop => (132, 208, 1)
  | .ptpTcUpdated => (132, 209, 1)
  | .ptpOneStep => (132, 210, 1)
  | .ptpStampReturned => (132, 211, 1)
  | .gIngCellsPeak => (132, 212, 16)
  | .gOnDiePeak => (132, 228, 16)
  | .gVatPeak => (132, 244, 16)
  | .mirrorSent => (389, 8, 64)
  | .mirrorInvalid => (389, 72, 64)
  | .noEgressGroup => (389, 136, 1)
  | .sprayTx => (390, 8, 64)
  | .pinnedTx => (390, 72, 64)
  | .movedIn => (390, 136, 64)
  | .fabDelaySum => (390, 200, 256)
  | .fabFrames => (390, 456, 256)
  | .fabUnreach => (390, 712, 4096)
  | .reseqLost => (390, 4808, 4096)
  | .reseqLate => (390, 8904, 4096)
  | .reseqOverflow => (390, 13000, 4096)
  | .reseqResync => (390, 17096, 4096)
  | .transitTx => (390, 21192, 1)
  | .fabHopsDrop => (390, 21193, 1)
  | .shimBad => (390, 21194, 1)
  | .fabDisabledDrop => (390, 21195, 1)
  | .pinReqSent => (390, 21196, 1)
  | .pinReqIgnored => (390, 21197, 1)
  | .gFabDelayMax => (390, 21198, 256)
  | .gHeldPeak => (390, 21454, 1)
  | .cmdFetched => (391, 8, 64)
  | .cplWritten => (391, 72, 64)
  | .puntDelivered => (391, 136, 64)
  | .puntRingFull => (391, 200, 64)
  | .injFrames => (391, 264, 64)
  | .wheyWritten => (391, 328, 64)
  | .tallyWritten => (391, 392, 64)
  | .ringFullDrop => (391, 456, 64)
  | .ringOffDrop => (391, 520, 64)
  | .dbErrCount => (391, 584, 64)
  | .dbDisabled => (391, 648, 64)
  | .puntNoRing => (391, 712, 1)
  | .cplLost => (391, 713, 1)
  | .injLost => (391, 714, 1)
  | .dbPartial => (391, 715, 1)
  | .ppsCount => (392, 8, 1)
  | .ppsGlitch => (392, 9, 1)
  | .ppsMissingCount => (392, 10, 1)
  | .refLostCount => (392, 11, 1)
  | .stepCount => (392, 12, 1)
  | .reepochCount => (392, 13, 1)
  | .trigFired => (392, 14, 8)
  | .trigLate => (392, 22, 8)
  | .trigSkipped => (392, 30, 8)
  | .wheyIn => (393, 8, 9)
  | .wheyDrop => (393, 17, 9)
  | .wheyUnrouted => (393, 26, 9)
  | .wheyResetLost => (393, 35, 1)
  | .periodicEmitted => (393, 36, 1)
  | .periodicOverrun => (393, 37, 1)
  | .ipfixRecords => (393, 38, 4)
  | .ipfixMsgs => (393, 42, 4)
  | .ipfixMsgDrop => (393, 46, 4)
  | .ipfixTemplates => (393, 50, 4)
  | .snapCount => (393, 54, 1)
  | .snapOverrun => (393, 55, 1)
  | .tallyRecords => (393, 56, 1)
  | .userTruncated => (393, 57, 1)
  | .gWheyQueuePeak => (393, 58, 1)
  | .puntPoliced => (394, 8, 256)
  | .puntAggDrop => (394, 264, 1)
  | .cancelBeforeDispatch => (394, 265, 1)
  | .badOpcode => (394, 266, 1)
  | .noEgress => (394, 267, 1)

/-- The group and the index of a counter's instance (R305). -/
def Ctr.place (c : Ctr) (inst : Nat) : Nat × Nat :=
  let b := c.base
  (b.1 + inst / b.2.2, b.2.1 + inst % b.2.2)

/-- The counters of each block, in the order of R305, with the count of instances in one group. -/
def groupCtrs (g : Nat) : List Ctr :=
  if g < 32 then
    [.fecBin0, .fecBin1, .fecBin2, .fecBin3, .fecBin4, .fecBin5, .fecBin6, .fecBin7,
     .fecBin8, .fecBin9, .fecBin10, .fecBin11, .fecBin12, .fecBin13, .fecBin14, .fecBin15,
     .fecUncorrected, .fecSymCorrected, .rxFecErr, .rxStagingOverrun, .rxOversize, .rxRunt, .rxFcsErr, .rxPfc,
     .rxPause, .rxMacCtrlOther, .rxForeign, .rxOk, .txOk, .txStomped, .txLinkAbort, .linkGlitch,
     .downDrop, .holdFlushFrames, .holdFlushBytes]
  else if g < 48 then
    [.selNoProfile, .probeFail, .probeOverrun, .parseDepthPunt, .parseDepthDrop, .recircDecap, .tenantMiss, .lenShort,
     .lenTrail, .lenPuntLost, .bankStall, .sliceSlotRetired, .sliceSlotWasted, .sliceSlotFront, .sliceSlotBack, .gSliceSlotInflight]
  else if g < 112 then
    [.dispatchLvl0, .dispatchLvl1, .dispatchLvl2, .dispatchLvl3, .commit, .checkpoint, .squash, .forcedNonspec,
     .nonspecFirst, .commitFullSquash, .cancelInFlight, .yieldTaken, .preemptRequest, .natReserve, .natReserveReturned, .natTakeFail,
     .natBadReturn, .effectOverflow, .mckEvent, .routineFault, .ctxEccReplay, .slotRetired, .slotWasted, .slotFront,
     .slotBack, .gSlotInflight]
  else if g < 128 then
    [.lookup, .hit, .join, .wbHit, .missOpen, .missNewFlow, .missLatencySum, .portConflict,
     .missEntryFull, .waitPoolFull, .fill, .evictClean, .evictDirty, .wbUrgent, .skimBypass, .deleteWbCancel,
     .eccCorrected, .eccCleanDrop, .poisonDirty, .newFlowOverload, .gWaysValid, .gMissEntriesPeak, .gWbQueuePeak, .gQueuePeak]
  else if g < 129 then
    [.search, .probeIssue, .probeHit, .continueTaken, .defaultUsed, .falseHit, .repeatLimit, .sramCorrected,
     .poisonHit, .throttleSlots, .scrubPass, .purgeRemoved]
  else if g < 130 then
    [.learnOk, .learnStash, .restash, .quotaExceeded, .cellarFull, .stashFull, .tagCollision, .ageRemoved,
     .teardownRun, .sweepOverrun, .rekeyMigrated, .rekeyEvict, .poisonRecord, .poisonBucket, .hostInsert, .hostUpdate,
     .hostDelete, .hostRead, .hostNotFound]
  else if g < 131 then
    [.cellarBytes, .vatBytes, .lentToCellar, .lentToVat, .migrationBytes, .hintWrite, .hintSkip]
  else if g < 132 then
    [.poolAlloc, .poolFree, .injWait, .doubleFree, .foreignFree, .bufEccCorrected, .bufEccFrame, .vatEccCorrected,
     .vatEccFrame, .vatEccResync]
  else if g < 389 then
    [.ingLimitDrop, .quotaDrop, .poolEmptyDrop, .txPfc, .pfcPauseEvents, .vatIn, .vatSpillStart, .vatLimitDrop,
     .vatFullDrop, .egrLimitDrop, .ecnMarked, .txFrames, .txBytes, .lateDrop, .lateSent, .launchInvalid,
     .gateOverrun, .guardIdleNs, .egrMtuDrop, .edSkip, .vlanNoop, .ptpTcUpdated, .ptpOneStep, .ptpStampReturned,
     .gIngCellsPeak, .gOnDiePeak, .gVatPeak]
  else if g < 390 then
    [.mirrorSent, .mirrorInvalid, .noEgressGroup]
  else if g < 391 then
    [.sprayTx, .pinnedTx, .movedIn, .fabDelaySum, .fabFrames, .fabUnreach, .reseqLost, .reseqLate,
     .reseqOverflow, .reseqResync, .transitTx, .fabHopsDrop, .shimBad, .fabDisabledDrop, .pinReqSent, .pinReqIgnored,
     .gFabDelayMax, .gHeldPeak]
  else if g < 392 then
    [.cmdFetched, .cplWritten, .puntDelivered, .puntRingFull, .injFrames, .wheyWritten, .tallyWritten, .ringFullDrop,
     .ringOffDrop, .dbErrCount, .dbDisabled, .puntNoRing, .cplLost, .injLost, .dbPartial]
  else if g < 393 then
    [.ppsCount, .ppsGlitch, .ppsMissingCount, .refLostCount, .stepCount, .reepochCount, .trigFired, .trigLate,
     .trigSkipped]
  else if g < 394 then
    [.wheyIn, .wheyDrop, .wheyUnrouted, .wheyResetLost, .periodicEmitted, .periodicOverrun, .ipfixRecords, .ipfixMsgs,
     .ipfixMsgDrop, .ipfixTemplates, .snapCount, .snapOverrun, .tallyRecords, .userTruncated, .gWheyQueuePeak]
  else if g < 395 then
    [.puntPoliced, .puntAggDrop, .cancelBeforeDispatch, .badOpcode, .noEgress]
  else []

/-- n_counters of a group (R305): the eight programmable counters, the fixed ones and the gauges. -/
def groupSize (g : Nat) : Nat :=
  if g < 32 then 288 else if g < 48 then 24 else if g < 112 then 34 else if g < 128 then 32 else if g < 129 then 20 else if g < 130 then 27 else if g < 131 then 15 else if g < 132 then 24 else if g < 389 then 260 else if g < 390 then 137 else if g < 391 then 21455 else if g < 392 then 716 else if g < 393 then 38 else if g < 394 then 59 else if g < 395 then 268 else 0

/-- The first gauge index of a group; the group's gauges run from here to its n_counters. -/
def groupGauge (g : Nat) : Nat :=
  if g < 32 then 288 else if g < 48 then 23 else if g < 112 then 33 else if g < 128 then 28 else if g < 129 then 20 else if g < 130 then 27 else if g < 131 then 15 else if g < 132 then 24 else if g < 389 then 212 else if g < 390 then 137 else if g < 391 then 21198 else if g < 392 then 716 else if g < 393 then 38 else if g < 394 then 58 else if g < 395 then 268 else 0

/-- The counter of corrected-symbol bin `k` (R36). -/
def fecBin (k : Nat) : Ctr :=
  match k with
  | 0 => .fecBin0
  | 1 => .fecBin1
  | 2 => .fecBin2
  | 3 => .fecBin3
  | 4 => .fecBin4
  | 5 => .fecBin5
  | 6 => .fecBin6
  | 7 => .fecBin7
  | 8 => .fecBin8
  | 9 => .fecBin9
  | 10 => .fecBin10
  | 11 => .fecBin11
  | 12 => .fecBin12
  | 13 => .fecBin13
  | 14 => .fecBin14
  | _ => .fecBin15

end Sys2Proof.Machine
end

