-- ==== Sys2Proof/Machine/State.lean ====
section
/-! DEFINITION. The state of the VK-5128 as plain data: every register field, counter, table, queue, buffer, timer and
pin that the spec names, the commands that wait, and the state after reset. -/

namespace Sys2Proof.Machine

/-- Why a step stops with a fault: never; no meaning of this model faults. -/
inductive Fault where
  /-- Raised by no meaning. The spec names no access that stops the block; safe. -/
  | none
  deriving DecidableEq, Repr

/-- Why a step is refused. -/
inductive Refusal where
  /-- Raised by the dispatcher for a command whose meaning is not written; safe, since nothing is claimed. -/
  | notModelled (mnemonic : String)
  deriving DecidableEq, Repr

/-- What has left the device, in order (R15): the ends of its paths that this model does not hold. -/
inductive Out where
  /-- A frame on the wire of a port; `stomped` marks an FCS ended invalid (R37, R57). -/
  | wire (port : Nat) (bytes : List Byte) (stomped : Bool)
  /-- A frame returned to the receive MAC of its port inside the I/O tile (R363). -/
  | looped (port : Nat) (bytes : List Byte)
  /-- A posted write to host memory (R258, R262). -/
  | hostWrite (addr : Nat) (data : List Byte)
  /-- An MSI-X message of a function's vector (R259, R260). -/
  | msix (fn vec : Nat)
  /-- An error that a function reports through AER (R261). -/
  | aer (fn : Nat)
  /-- A frame handed to the management complex (R40). -/
  | toMgmt (port : Nat) (bytes : List Byte)
  /-- A register read value, or a value shifted out of the TAP (R275, R368). -/
  | value (v : Nat)
  /-- A mailbox or SPDM response (R253, R317). -/
  | answer (data : List Byte)
  deriving DecidableEq, Repr

/-! ### Frames (01, 03) -/

/-- The Ixpeune shim of R236. -/
structure Shim where
  typ : Nat := 0
  pinned : Bool := false
  cls : Nat := 0
  src : Nat := 0
  hops : Nat := 0
  dst : Nat := 0
  seq : Nat := 0
  epoch : Nat := 0
  sendNs : Nat := 0
  deriving DecidableEq, Repr

/-- Where a routine or a rule sends a frame (R154 rows 5 and 9). -/
inductive Dest where
  | unset
  | port (q c : Nat)
  | group (g c : Nat)
  | punt (reason : Nat)
  | drop (reason : Nat)
  deriving DecidableEq, Repr

/-- A posted header edit (R177): kind 1 SET, 2 SET_CSUM, 3 DEC_TTL; `base` as posted, `off` made absolute. -/
structure Edit where
  kind : Nat
  base : Nat
  off : Nat
  width : Nat
  val : Nat
  deriving DecidableEq, Repr

/-- Where a frame stands on the road of R18. -/
inductive Stage where
  /-- Arriving or waiting in the staging FIFO of its octet (R390). -/
  | staged
  /-- It has its header slot and has passed step 2; its header window is not yet present (R18). -/
  | window
  /-- Held by the resequencer (R243). -/
  | reseq
  /-- Between step 4 and its task's commit: in a request queue, a miss entry, the search queue or a task. -/
  | waiting
  /-- Its task has committed; it waits for release in its order domain (R157). -/
  | committed
  /-- Waiting for its slice's recirculation port (R32, R59). -/
  | recirc
  /-- Released: its copies are in queues, in transmission or punted. -/
  | released
  deriving DecidableEq, Repr

/-- The descriptor of a DIRECT INJ frame (R269): its set, its index and its flags. -/
structure InjRef where
  set : Nat
  index : Nat
  launchEn : Bool
  stampReq : Bool
  oneStep : Bool
  cplReq : Bool
  deriving DecidableEq, Repr

/-- One frame in the device. Offsets are absolute in the frame as stored for its pass. -/
structure Frame where
  /-- Bytes stored for the pass, FCS included, as far as they have arrived. -/
  bytes : List Byte := []
  /-- The last byte has been received. -/
  whole : Bool := false
  /-- The ingress port of pass 1 (R395). -/
  ingPort : Nat := 0
  slice : Nat := 0
  pass : Nat := 1
  errored : Bool := false
  /-- An uncorrectable codeword touched it (R37). -/
  fecBad : Bool := false
  /-- Receive stamp in units of 2^-16 ns of device time (R41), and its time epoch. -/
  stamp : Nat := 0
  stampEpoch : Nat := 0
  /-- asym_ps of its ingress port, in force for that stamp (R223, R224). -/
  asymIn : Nat := 0
  /-- It arrived on a front-panel port. -/
  received : Bool := true
  /-- The length probe succeeded (R55). -/
  probeOk : Bool := false
  /-- The length L of R55. -/
  len : Nat := 0
  /-- The ingress class (R197). -/
  ingClass : Nat := 0
  /-- Its buffer: pool and index (R194). -/
  buf : Option (Nat × Nat) := none
  /-- The requester that owns its buffer and its ingress charge (R194, R203). -/
  owner : Nat := 0
  /-- Ingress cells are charged for it (R199). -/
  charged : Bool := false
  /-- The pass's outer selection found a usable profile (R52), and its words as they stood at the selection (R53). -/
  selected : Bool := false
  entry : Nat := 0
  /-- The profiles whose length checks the pass makes, the inner one first: words and base (R53, R64, R394). -/
  checks : List (Nat × Nat) := []
  /-- Counted in one of len_short, len_trail, len_punt_lost and probe_overrun (R67). -/
  lenCounted : Bool := false
  /-- Bytes to be removed before the frame recirculates: start and count (R59). -/
  decap : Option (Nat × Nat) := none
  /-- Last profile of the pass, and the outer one when a chain was taken (R58, R60). -/
  prof : Nat := 0
  outer : Option Nat := none
  tenant : Nat := 0
  /-- The ingress epoch tag (R63), set at step 3 of pass 1. -/
  epochTag : Nat := 0
  tagged : Bool := false
  key : List Byte := []
  hash : Nat := 0
  lbHash : Nat := 0
  lbEn : Bool := false
  /-- m3, the indirection entry read at step 3 (R227). -/
  indir : Nat := 0
  l3 : Nat × Nat := (0, 0)
  l4 : Nat × Nat := (0, 0)
  outerL3 : Nat × Nat := (0, 0)
  outerL4 : Nat × Nat := (0, 0)
  /-- Arrival place (R19), and the order domain of R74. -/
  place : Option Nat := none
  domain : Nat := 0
  stage : Stage := .staged
  /-- The deciding Strainer action entry and the other probe's (m4, m5 of R175). -/
  m4 : Nat := 0
  m5 : Nat := 0
  /-- The deciding Strainer address when a Strainer action chose (R268). -/
  strAddr : Option Nat := none
  /-- Learn, forward or packet task, and the opcode that the Strainer chose (R165). -/
  kind : Nat := 0
  opcode : Nat := 0
  dest : Dest := .unset
  edits : List Edit := []
  launch : Option (Nat × Nat) := none
  mirror : Option Nat := none
  /-- Next-hop member chosen at release (R229). -/
  member : Option Nat := none
  shim : Option Shim := none
  /-- Send a received shim on unchanged but for hops (R241), or take the one fixed at release (R240). -/
  transit : Bool := false
  inj : Option InjRef := none
  /-- Copies not yet released by transmission, punt, drop, flush or Vat write (R204). -/
  copies : Nat := 0
  /-- Slices of its header slots whose fate is still open (R312). -/
  slots : List Nat := []
  deriving DecidableEq, Repr

/-- A frame in the staging FIFO: its number, its port and the bytes of space it still holds (R390). -/
structure Staged where
  frame : Nat
  port : Nat
  reserved : Nat
  deriving DecidableEq, Repr

/-- A punt that waits for PUNT_DELIVER (R66, R268), with the order keys of R66. -/
structure Punt where
  frame : Nat
  reason : Nat
  since : Nat
  slice : Nat
  place : Option Nat
  /-- For CPU_PORT: the edited bytes to deliver, without FCS; other punts carry the frame as stored (R220). -/
  edited : Option (List Byte)
  deriving DecidableEq, Repr

/-! ### Ports (02, 17) -/

/-- The frame generator and checker of a port beyond its registers (R360, R361). -/
structure TestSt where
  seq : Nat := 0
  sent : Nat := 0
  nextAt : Nat := 0
  expect : Option Nat := none
  deriving DecidableEq, Repr

/-- A front-panel port beyond its registers (R33-R47). Instants are elapsed ns. -/
structure PortSt where
  /-- Since when all up conditions have held; none: they do not. -/
  upFrom : Option Nat := none
  /-- Since when a loss has lasted on a port declared up. -/
  downFrom : Option Nat := none
  /-- The start of the running hold (R45, R391). -/
  holdFrom : Option Nat := none
  /-- an_en, lt_en and max_frame in force while the port is up (R35). -/
  anEn : Bool := true
  ltEn : Bool := true
  maxFrame : Nat := 9728
  /-- Its domain was switched off, and admin_en = 1 has not been written since (R47). -/
  barred : Bool := false
  /-- The frame in reception: its number, or none when its first byte found no staging space (R390). -/
  rx : Option (Option Nat) := none
  /-- Bytes received of it, whether an uncorrectable codeword touched it, and its first bytes, cut at max_frame. -/
  rxLen : Nat := 0
  rxBad : Bool := false
  rxHead : List Byte := []
  /-- Uncorrectable codewords of the running degrade window, and the window's start (R37). -/
  fecCount : Nat := 0
  fecFrom : Nat := 0
  /-- The writes of PTP_PORT that may not yet be in effect, oldest first: their instants and the words before them (R224). -/
  ptpOld : List (Nat × Nat) := []
  test : TestSt := {}
  deriving DecidableEq, Repr

/-! ### Buffers and queues (09, 10) -/

/-- A buffer that is allocated or retired (R203, R209). -/
structure Buf where
  frame : Nat
  owner : Nat
  refs : Nat
  retired : Bool
  deriving DecidableEq, Repr

/-- What a queue entry is: the frame itself, a mirror copy of a session, or a frame the device built. -/
inductive CopyKind where
  | main
  | mirror (session : Nat)
  deriving DecidableEq, Repr

/-- Where a queued frame's bytes are (R205-R207). -/
inductive Loc where
  /-- In its buffer, on-die. -/
  | onDie
  /-- Chosen for the Vat, its write not complete: still in its buffer. -/
  | vatWait
  /-- In the Vat. -/
  | vat
  /-- Its Vat read has been issued. -/
  | reading
  /-- In the octet's read-ahead. -/
  | readAhead
  deriving DecidableEq, Repr

/-- One entry of an egress queue. -/
structure Copy where
  frame : Nat
  kind : CopyKind
  /-- Cells of the buffer it holds (R192); 0 for a frame without a buffer. -/
  cells : Nat
  /-- Stored bytes in the Vat (R206). -/
  stored : Nat
  /-- Marked CE at enqueue (R208). -/
  ce : Bool
  /-- Launch instant in device ns since 0 (R215), and the LATE mark of a re-epoch (R280). -/
  launch : Option Int
  late : Bool
  loc : Loc
  /-- Bytes of the Vat chain behind it that hold no frame any more (R209). -/
  skip : Nat := 0
  deriving DecidableEq, Repr

/-- One egress queue (R205-R207). -/
structure Queue where
  /-- Every frame of the queue, in order of enqueue (R230). -/
  entries : List Copy := []
  spilling : Bool := false
  /-- Bytes of the Vat chain written (or reserved) and read since the queue began to spill (R206). -/
  vatTail : Nat := 0
  vatHead : Nat := 0
  deriving DecidableEq, Repr

/-- A token bucket: its level in the finest unit of its rate, and the instant of that level (R66, R214). -/
structure Bucket where
  level : Int
  since : Nat
  deriving DecidableEq, Repr

/-- A frame in transmission (R212, R220). -/
structure Tx where
  copy : Copy
  cls : Nat
  start : Nat
  /-- Transmit stamp in 2^-16 ns (R41), and the port's PTP_PORT word in force for it (R224). -/
  stamp : Nat
  ptp : Nat
  /-- It must end with a stomped FCS (R37, R57). -/
  stomp : Bool
  /-- The next-hop words and the source MAC that the rewrite uses, read at the start. -/
  nh : Option (Nat × Nat × Nat)
  deriving DecidableEq, Repr

/-- The gate cycle of a port (R219): the list latched at its start, the entry in force, its start and end in device ns, and the
classes that it opened (R218). -/
structure Gates where
  entries : List Nat := []
  pos : Nat := 0
  since : Int := 0
  endsAt : Option Int := none
  mask : Nat := 0xFFFF
  opened : Nat := 0
  deriving DecidableEq, Repr

/-- The egress side: queues, transmissions, shapers, deficits, gates (09, 10). -/
structure Egress where
  /-- Queue of (port, class). -/
  queues : Tab Queue
  /-- DWRR deficit of (port, class), in bytes. -/
  deficit : Tab Nat
  /-- DWRR round of (port, group): class * 2, plus 1 when its quantum has been added. -/
  round : Tab Nat
  /-- Shaper levels of (port, class) and of (port, 16); none: full. -/
  shapers : Tab (Option Bucket)
  tx : Tab (Option Tx)
  gates : Tab Gates
  /-- The SCHED_Q word of (port, class) and the SCHED_PORT word of (port, 16) that stay in force until the port's next frame
  boundary; none: the register's (R232). -/
  schedOld : Tab (Option Nat)
  /-- The watermark detector of (port, class) is disarmed (R298). -/
  wmOff : Tab Bool
  deriving DecidableEq, Repr

/-- An INJ frame that waits for a buffer at the head of its ring (R198). -/
structure InjWait where
  set : Nat
  index : Nat
  deriving DecidableEq, Repr

/-- The buffer side: buffers, ingress counts, PFC (09). -/
structure Buffers where
  /-- Allocated and retired buffers by (pool, index). -/
  bufs : Tab (Option Buf)
  /-- Ingress count in cells of (port, class). -/
  count : Tab Nat
  /-- Priority p of a port is paused (R199). -/
  paused : Tab Bool
  /-- PFC frames owed by a port: instant, priorities paused, priorities resumed (R199). -/
  owed : Tab (List (Nat × Nat × Nat))
  /-- Next refresh of (port, priority), elapsed ns. -/
  refresh : Tab Nat
  /-- No further empty-pool PFC before this instant (R199). -/
  emptyUntil : Tab Nat
  /-- Received pause: its end at this instant of (port, priority), or of (port, 8) for a PAUSE frame; 0: none (R43). -/
  rxPause : Tab Nat
  injWait : List InjWait
  deriving DecidableEq, Repr

/-! ### Fabric (11) -/

inductive StreamMode where
  | unsynced
  | reseq
  | pass
  deriving DecidableEq, Repr

/-- A resequencing stream at the destination (R243-R247). -/
structure Stream where
  mode : StreamMode := .unsynced
  exp : Nat := 0
  epoch : Nat := 0
  /-- Held frames: (sequence number, frame, arrival instant), lowest number first. -/
  held : List (Nat × Nat × Nat) := []
  /-- Late frames in a row (R243). -/
  lateRun : Nat := 0
  /-- When this stream last sent a pin request (R247). -/
  lastPin : Option Nat := none
  deriving DecidableEq, Repr

/-- The fabric (11). -/
structure Fabric where
  /-- Round-robin pointer of a destination (R239). -/
  ptr : Tab Nat
  /-- Sequence numbers assigned so far in the stream of (destination, class); the next is this mod 2^24 (R240). -/
  seq : Tab Nat
  /-- Pin of (destination, class) ends at this instant; 0: none (R248). -/
  pinEnd : Tab Nat
  /-- Streams of (source, class). -/
  streams : Tab Stream
  /-- The stream epoch in force (R245). -/
  epoch : Nat
  deriving DecidableEq, Repr

/-! ### Time (13), Whey and Tally (14), host (12): the parts every block uses -/

/-- The time unit beyond its registers. -/
structure TimeSt where
  /-- Device time in units of 2^-40 ns, seconds and nanoseconds together (R274). -/
  dt : Nat
  /-- The time epoch (R274). -/
  epoch : Nat
  /-- Seconds of the latest latch of the host and of the management complex (R275). -/
  latchHost : Option Nat
  latchMgmt : Option Nat
  /-- The slew remainder in units of 2^-40 ns (R278). -/
  slew : Int
  /-- The end of the running re-epoch's window, elapsed ns (R280). -/
  reepochEnd : Option Nat
  /-- The last accepted PPS edge, elapsed ns, and whether its gap has been reported missing (R282). -/
  ppsAt : Option Nat
  ppsMissed : Bool
  /-- Next instant of each trigger unit in device ns; none: it waits for none (R284). -/
  trigNext : Tab (Option Nat)
  /-- Each TRIG_OUT pin is high until this device time in ns; 0: low (R287). -/
  outEnd : Tab Nat
  deriving DecidableEq, Repr

/-- A record in the Whey queue: its type and its 512 bits without the phase (R292), with what its production found in force (R313):
its WHEY_ROUTE word, its WHEY_VIEW word, and en of the exporter that the route names. -/
structure WheyRec where
  typ : Nat
  val : Nat
  tenant : Nat
  route : Nat
  view : Nat
  exports : Bool
  deriving DecidableEq, Repr

/-- A ring beyond its registers (R256-R259). Ring k of set s is (s, k). -/
structure RingSt where
  /-- The index the host owns: producer of rings 0, 2, 3, 6; consumer of 1, 4, 5, 7 (R257). -/
  hostIdx : Nat := 0
  /-- The index the device owns. -/
  devIdx : Nat := 0
  /-- Entries written since the last message, and the instant of the oldest of them (R259). -/
  since : Nat := 0
  oldest : Option Nat := none
  /-- en was written 0 and a read or write is outstanding (R256). -/
  quiescing : Bool := false
  deriving DecidableEq, Repr

/-- Where a fetched CMD or INJ descriptor stands. -/
inductive WorkStage where
  /-- Fetched, not yet hashed or executed. -/
  | fetched
  /-- Hashed: a flow command with its arrival place (R19), in a Skim lookup. -/
  | placed
  /-- In a miss entry, waiting for its record (R393). -/
  | missing
  /-- A flow command whose record is at hand, or none: it may execute (R83, R393). -/
  | ready
  /-- An INJ frame in the device. -/
  | frame
  /-- Its work goes on in a teardown task or a publish; only its completion is owed. -/
  | owed
  deriving DecidableEq, Repr

/-- A fetched CMD or INJ descriptor (R262, R265, R269). -/
structure Work where
  set : Nat
  ring : Nat
  index : Nat
  desc : Nat
  data : List Byte
  stage : WorkStage
  /-- Its completion is dropped: the set was reset after the fetch (R271). -/
  lost : Bool
  hash : Nat
  place : Nat
  deriving DecidableEq, Repr

/-- A completion that has been produced and not yet written (R261, R265): its set, its entry unless it writes none, and the host
address and bytes of the data that go before it. -/
structure Cpl where
  set : Nat
  entry : Option Nat
  data : Option (Nat × List Byte)
  deriving DecidableEq, Repr

/-- The host interface (12). -/
structure HostSt where
  rings : Tab RingSt
  work : List Work
  /-- Completions that wait for Bus Master Enable or a free slot (R257, R261). -/
  cpls : List Cpl
  /-- The page of an enabled set in its function's BAR2, as its ownership gave it when it was enabled; none: not enabled (R255). -/
  pages : Tab (Option Nat)
  /-- Masked and pending vectors of (function, vector) in the MSI-X tables (R252, R259, R271). -/
  msixMask : Tab Bool
  msixPend : Tab Bool
  /-- write_seq of each set's status block, and whether an index has advanced since (R258). -/
  sbSeq : Tab Nat
  sbDirty : Tab Bool
  /-- Bus Master Enable of each function, and VF Enable (R255, R261). -/
  busMaster : Tab Bool
  vfEnable : Bool
  /-- The link trains and accepts configuration (R252, R272); the link is in compliance (R367). -/
  linkUp : Bool
  compliance : Bool
  /-- Mailbox responses that wait for Bus Master Enable (R261). -/
  rsps : List Nat
  /-- PERST# is asserted (R271, R272). -/
  perst : Bool
  deriving DecidableEq, Repr

/-! ### Flow records and the Cellar (04) -/

/-- The place of a record's slot: a slot of a bucket, or a stash entry (R79). -/
inductive SlotLoc where
  | slot (bucket idx : Nat)
  | stash (n : Nat)
  deriving DecidableEq, Repr

/-- A record number in use: the 16 words in the record region of HBM, and the slot that points to it (R70, R75). Words
0-5 hold the key with key byte 8n at bits [63:56]; word 6 on as R70 lays them out. -/
structure Rec where
  words : List Nat
  loc : SlotLoc
  deriving DecidableEq, Repr

/-- A stash entry (R76): its slot word and the numbers of its buckets. -/
structure StashEntry where
  word : Nat
  bktA : Nat
  bktB : Nat
  deriving DecidableEq, Repr

/-- The four walkers of the Cellar (R86, R90, R135, R302). -/
inductive Walker where
  | sweep
  | purge
  | migrate
  | periodic
  deriving DecidableEq, Repr

/-- An age-hint rewrite that waits for its HBM access (R101). -/
structure HintWait where
  recNo : Nat
  hint : Nat
  since : Nat
  deriving DecidableEq, Repr

/-- The Cellar. -/
structure Cellar where
  /-- Slot words of (bucket, slot); 0: not valid. -/
  slots : Tab Nat
  stash : Tab (Option StashEntry)
  recs : Tab (Option Rec)
  /-- Poisoned buckets (R92). -/
  poisoned : List Nat
  /-- K_flow as k0, k1, and the key of a running rekey (R74, R90). -/
  kFlow : Nat × Nat
  kNew : Option (Nat × Nat)
  /-- Frames with this place or a later one wait until the switch has drained (R90 step 5). -/
  switchPlace : Option Nat
  /-- Next bucket of each walker; 2^25 and up: the stash. None: it does not run. -/
  sweepAt : Option Nat
  purgeAt : Option Nat
  purgeAddr : Nat
  periodicAt : Option Nat
  migrateAt : Option Nat
  hints : List HintWait
  /-- Single-symbol errors corrected in buckets and records (R92). They stand in no Tally group. -/
  corrected : Nat
  deriving DecidableEq, Repr

/-! ### The Skim cache (05) -/

/-- A way that holds a record (R95): its words, dirty, and when it was last used. Its held count is the number of
dispatched tasks of its record (R97). -/
structure Way where
  recNo : Nat
  words : List Nat
  dirty : Bool
  used : Nat
  deriving DecidableEq, Repr

/-- An entry of a write-back queue (R100). -/
structure WbEntry where
  recNo : Nat
  words : List Nat
  deriving DecidableEq, Repr

/-- What waits for a record: a frame, or a host flow command of a set's CMD ring (R107). -/
inductive Waiter where
  | frame (id : Nat)
  | cmd (set index : Nat)
  deriving DecidableEq, Repr

/-- A lookup in a request queue, and whether it has been counted as turned back (R102). -/
structure Request where
  waiter : Waiter
  counted : Bool
  deriving DecidableEq, Repr

/-- Where a miss entry stands (R102 to R108, R393). -/
inductive MissStage where
  /-- Its Cellar lookup runs. -/
  | lookup
  /-- The FLOW_INSERT at its front is to execute (R393). -/
  | insert
  /-- In its bank's search queue. -/
  | queued
  /-- Its search has been issued, at this instant. -/
  | searching (issued : Nat)
  /-- Its record has arrived and waits for a way until this instant, bypass_wait_ns after its arrival (R109). -/
  | fill (due : Nat)
  /-- Its record serves FLOW_READ or FLOW_DELETE and is not installed (R107). -/
  | served
  | bypass
  deriving DecidableEq, Repr

/-- A row of a Strainer block, or an entry with its images joined (R121, R122, R130): widths as modes. Of a wide entry the lowest
block's row holds all but the higher data and care bits, which lie in the rows of the blocks above. -/
structure StrEntry where
  width : Nat
  data : Nat
  care : Nat
  shadowData : Nat
  shadowCare : Nat
  prio : Nat
  epoch : Nat
  action : Nat
  poisoned : Bool
  deriving DecidableEq, Repr

/-- A search made for a miss entry (R105, R127): the searching frame, its lookup profile as it stood when the keys were built (R53,
R125), and the rows as they stood at its issue. -/
structure Search where
  frame : Nat
  prof : Nat
  width0 : Nat
  width1 : Nat
  two : Bool
  dflt : Nat
  parity : Nat
  key0 : Nat
  key1 : Nat
  view : Tab (Option StrEntry)
  deriving DecidableEq, Repr

/-- A miss entry (R102). -/
structure Miss where
  key : List Byte
  stage : MissStage
  opened : Nat
  waiting : List Waiter
  /-- Its record buffer: record number, words, dirty. -/
  buffer : Option (Nat × List Nat × Bool)
  search : Option Search
  deriving DecidableEq, Repr

/-- The Skim cache. -/
structure Skim where
  /-- Way of (bank * 8192 + set, way). -/
  ways : Tab (Option Way)
  uses : Nat
  /-- Write-back queue of a bank, oldest first, and whether the bank's write-backs go ahead of misses. -/
  wb : Tab (List WbEntry)
  urgent : Tab Bool
  /-- Miss entry of (bank, entry). -/
  misses : Tab (Option Miss)
  /-- Search queue of a bank: its miss entries in order (R132). -/
  searches : Tab (List Nat)
  /-- Request queue of (slice, bank); slice 16 is the host command processor (R96, R107). -/
  requests : Tab (List Request)
  deriving DecidableEq, Repr

/-! ### Churn (07, 08) -/

/-- What a task is (R142, R143, R165). A teardown carries its cause, a walker's visit its walker, a machine-check recovery the word
that failed and a rebuild its poisoned bucket. -/
inductive TaskKind where
  | packet
  | learn
  | forward
  | teardown (cause : Nat)
  | command
  | visit (w : Walker)
  | recovery (a : StoreAddr)
  | rebuild (bucket : Nat)
  deriving DecidableEq, Repr

/-- Where a task stands. -/
inductive TaskAt where
  /-- Outside the lists until its predecessors have committed (R151, R152). -/
  | held
  /-- In its level's ready list, at this position (R143). -/
  | ready (since : Nat)
  | running (ctx : CtxId)
  /-- In its cluster's commit buffer, left at this op: 0x0A COMMIT, 0x0C END, 0x1C END with REMOVE (R153). -/
  | buffered (cluster : Nat) (seq : Nat)
  /-- At such an op or a CHECKPOINT (0x08) that waits, in its context (R153). -/
  | waiting (ctx : CtxId) (seq : Nat)
  /-- A teardown whose routine has committed, or that runs none: the removal is due (R84). -/
  | torn
  deriving DecidableEq, Repr

/-- The effects a task has posted and not yet applied (R154). -/
structure Posted where
  takes : List (Nat × Nat) := []
  returns : List (Nat × Nat) := []
  whey : List Nat := []
  egress : Option Dest := none
  edits : List Edit := []
  launch : Option (Nat × Nat) := none
  mirror : Option Nat := none
  verdict : Option Dest := none
  deriving DecidableEq, Repr

/-- The checkpoint store of a context (R158): scratch registers, effects still posted, address after the CHECKPOINT. -/
structure Saved where
  scratch : List Nat
  posted : Posted
  pc : Nat
  deriving DecidableEq, Repr

/-- The answer a NAT_TAKE in a slot waits for: pool, and the port taken or none (R179). -/
structure TakeWait where
  pool : Nat
  port : Option Nat
  answered : Bool
  deriving DecidableEq, Repr

/-- The state of a context (R140, R167, R168). -/
structure Ctx where
  scratch : List Nat := []
  window : List Nat := []
  /-- Sums of the deltas declared for each word. -/
  deltas : List Nat := []
  windowReady : Bool := false
  pc : Nat := 0
  stack : List Nat := []
  z : Bool := false
  n : Bool := false
  t : Bool := false
  f : Bool := false
  res : Nat := 0
  /-- Microwords issued since the dispatch or the last checkpoint (R156, R312). -/
  issues : Nat := 0
  r : Nat := 0
  w : Nat := 0
  d : Nat := 0
  /-- Words that predecessors have changed since the snapshot (R149). -/
  m : Nat := 0
  /-- A NAT_TAKE holds the slot (R168). -/
  take : Option TakeWait := none
  posted : Posted := {}
  /-- NAT returns and Whey emits that a COMMIT has applied since the dispatch or the last checkpoint (R154, R156). -/
  past : Nat × Nat := (0, 0)
  /-- The last op was a CHECKPOINT with no YIELD since (R159). -/
  mayYield : Bool := false
  /-- The ALU results of the nanoword of the held slot: A. -/
  aRes : Nat := 0
  /-- m7 of R175, and the snapshot version. -/
  m7 : Nat := 0
  version : Nat := 0
  deriving DecidableEq, Repr

/-- A task (R140, R142). -/
structure Task where
  kind : TaskKind
  frame : Option Nat
  /-- The host command it runs, or whose removal it is: set and index. -/
  cmd : Option (Nat × Nat)
  recNo : Option Nat
  /-- The key, for a task with no record and for removals. -/
  key : List Byte
  domain : Nat
  place : Nat
  level : Nat
  opcode : Nat
  parity : Nat
  tenant : Nat
  pos : TaskAt
  nonspec : Bool
  squashes : Nat
  /-- The task has passed COMMIT (R156). -/
  committed : Bool
  /-- It left at COMMIT and resumes from its saved context (R153). -/
  resumes : Bool
  saved : Option Saved
  ctx : Ctx
  /-- It has been dispatched (R97, R152). -/
  dispatched : Bool := false
  /-- Its context as COMMIT, or a CHECKPOINT after it, left it: a replay of a task past COMMIT starts there (log entry 20). -/
  atCommit : Option Ctx := none
  deriving DecidableEq, Repr

/-- A NAT pool beyond its registers (R155, R179): ports reserved or taken, and ports returned in the order of return. -/
structure NatPool where
  used : List Nat := []
  returned : List Nat := []
  deriving DecidableEq, Repr

/-- A microcode bundle as the stores hold it, each word with its parity bits (R166, R169, R182, R183). -/
structure Bundle where
  micro : Tab Nat
  nano : Tab Nat
  disp : Tab Nat
  deriving DecidableEq, Repr

/-- The churn side. -/
structure Churn where
  tasks : Tab (Option Task)
  nextTask : Nat
  /-- Positions given in the ready lists so far. -/
  readies : Nat
  /-- The bundle Mladund keeps for bank 0 and bank 1 (R184). -/
  bank0 : Bundle
  bank1 : Bundle
  /-- The bundle being written into the other bank, if Staging. -/
  incoming : Option Bundle
  /-- Faulty words not yet rewritten, with the engines that fetched them (R161). -/
  faulty : List (StoreAddr × List Nat)
  /-- Errors at an address in this start (R161). -/
  repeats : List (StoreAddr × Nat)
  /-- Clusters whose stores are being reloaded (R164). -/
  reloading : List Nat
  /-- A preemption request is pending (R159). -/
  preempt : Bool
  nat : Tab NatPool
  /-- The running drain: its start, and whether the limit has cut it (R186). -/
  drainFrom : Option Nat
  /-- Publish commands whose completion waits for the drain: set and index (R186). -/
  publishers : List (Nat × Nat)
  /-- publish_busy: trigger publishes lost because they would be refused (R185). It stands in no Tally group. -/
  publishBusy : Nat
  deriving DecidableEq, Repr

/-! ### Whey export and Tally (14) -/

/-- An IPFIX exporter beyond its registers (R303): its open message as data records with their templates, the instant of
the first, the data records built so far, the next identification and the last template set's instant. -/
structure Exporter where
  recs : List (Nat × List Byte) := []
  since : Nat := 0
  built : Nat := 0
  ident : Nat := 0
  tmplAt : Nat := 0
  deriving DecidableEq, Repr

/-- A latched snapshot (R308, R309). -/
structure Snap where
  ctr : Tab Nat
  prog : Tab Nat
  seq : Nat
  epoch : Nat
  ns : Nat
  cause : Nat
  deriving DecidableEq, Repr

/-- The user page of BAR4 (R311): its header fields and its counter records. -/
structure UserPage where
  pageSeq : Nat
  snapSeq : Nat
  epoch : Nat
  ns : Nat
  recs : List Nat
  truncated : Bool
  deriving DecidableEq, Repr

/-- Whey export and Tally beyond their registers. -/
structure Telemetry where
  exporters : Tab Exporter
  /-- Staged TALLY_PROG writes of (group, counter) (R307). -/
  staged : Tab (Option Nat)
  /-- The snapshot in write-out, and the cause of a held request. -/
  snap : Option Snap
  heldCause : Nat
  page : UserPage
  /-- The instant of the last close of the export epoch (R302). -/
  closed : Option Nat
  /-- The instant of the last request for a snapshot (R309). -/
  asked : Option Nat
  /-- Slots counted or taken ahead of the core clock, of (group, 0), and stall cycles counted ahead, of (group, 1) (R312). -/
  ahead : Tab Nat
  deriving DecidableEq, Repr

/-! ### The Rind (15) -/

/-- The fuse fields of R324, as programmed; 0: unprogrammed. -/
structure Fuses where
  failThreshold : Nat := 0
  startWindow : Nat := 0
  gapScale : Nat := 0
  winScale : Nat := 0
  wdog : Nat := 0
  thrMin : Nat := 0
  thrMax : Nat := 0
  thrDefault : Nat := 0
  deriving DecidableEq, Repr

/-- A mailbox request in execution whose response waits for an action (R317, R318). -/
inductive MbxWaits where
  /-- A flash or fuse write; the response then carries these. -/
  | logWrite (status r0 r1 : Nat)
  /-- A power-domain switch. -/
  | domain (pd : Nat)
  /-- The flush of a Skim bank under reset. -/
  | flush (bank : Nat)
  /-- An image chunk. -/
  | chunk
  deriving DecidableEq, Repr

/-- The mailbox request in execution. -/
structure MbxRun where
  internal : Bool
  /-- Its ring has been reset: the response is dropped (R271). -/
  lost : Bool
  cmd : Nat
  tag : Nat
  waits : MbxWaits
  deriving DecidableEq, Repr

/-- An SPDM request over DOE (R253). -/
inductive SpdmReq where
  | version
  | capabilities
  | algorithms (p384 p256 : Bool)
  | digests
  | certificate (slot offset length : Nat)
  | challenge (slot : Nat) (nonce : List Byte)
  | measurements (index : Nat) (nonce : List Byte)
  deriving DecidableEq, Repr

/-- A thermal sensor: its last reading, since when it is unchanged, the readings of its neighbours then (R332). -/
structure Sensor where
  code : Int := 0
  since : Nat := 0
  below : Int := 0
  above : Int := 0
  deriving DecidableEq, Repr

/-- The Rind beyond its registers. -/
structure Rind where
  fuses : Fuses
  /-- The OTP bits that the device programs in its life (R339), and the pin map (R327). -/
  otp : Nat
  /-- Reset sources asserted now (R319, R321). -/
  sources : List ResetSource
  /-- COMPAT_HIZ as sampled (R328), and as it stands at its ball; none: the rails have not yet reached their levels. -/
  compatHiz : Bool
  hizBall : Option Bool
  /-- The Rind's pins and the other pins have left their reset states (R327). -/
  ownPins : Bool
  otherPins : Bool
  /-- THERM_TRIP_N is driven low. -/
  tripLow : Bool
  /-- The steps whose clocks are enabled and not yet good, and since when (R322). -/
  clocks : List (Nat × Nat)
  lastRelease : Nat
  /-- The gap of PCIe's step counts from here (R321). -/
  pcieFrom : Nat
  /-- The start window runs from here (R323). -/
  windowFrom : Option Nat
  /-- PCIe has been released in this start (R321). -/
  pcieUp : Bool
  /-- Blocks held by DOMAIN_HOLD, and those of them whose reload has ended meanwhile (R318). -/
  holds : List Nat
  restored : List Nat
  /-- Domains that POWER_SET has switched off before their step of the start (R322). -/
  offs : List Nat
  /-- Power-domain switches asked for, in order, and the last switch's instant (R331). -/
  switching : List (Nat × Bool)
  lastSwitch : Option Nat
  /-- The last kick or restart of Mladund, and whether the first stage has restarted it since the last kick (R319). -/
  kickAt : Nat
  stage1 : Bool
  chipResetAt : Option Nat
  mbx : Option MbxRun
  /-- Completed requests, newest first (R318). -/
  history : List Nat
  sensors : Tab Sensor
  invalid : List Nat
  /-- PWR_MARGIN_N is low; the rail is below margin (R335). -/
  marginPin : Bool
  railLow : Bool
  /-- An unrepairable memory outside the clusters holds step 4 (R366). -/
  memHeld : Bool
  /-- Unanswered AVSBus transactions in a row, and the instant of the last attempt. -/
  avsMissed : Nat
  avsAt : Option Nat
  /-- The key sealed in flash, owner-pinned for the next start (R318). -/
  sealedKey : Option (Nat × Nat)
  /-- SPDM negotiated P-384 (R253). -/
  spdmP384 : Bool
  /-- SPDM requests that wait for the end of a mailbox request (R253). -/
  spdmWait : List SpdmReq
  deriving DecidableEq, Repr

/-! ### Images (16) -/

/-- A boot record (R341). -/
structure BootRec where
  seq : Nat
  active : Nat
  trial : Bool
  trialStarts : Nat
  previous : Nat
  activeDigest : Nat
  previousDigest : Nat
  auto : Nat
  deriving DecidableEq, Repr

/-- Why a boot record is being written (R341, R352, R353). -/
inductive BootWhy where
  | activate
  | confirm
  | start
  | recovery
  deriving DecidableEq, Repr

/-- Who sent a chunk (R344). -/
inductive ChunkSrc where
  | cmd (set index : Nat)
  | mbx
  | milk
  deriving DecidableEq, Repr

/-- A chunk that waits to be written, or is being written (R344). -/
structure ChunkJob where
  chunk : Nat
  data : List Byte
  src : ChunkSrc
  retried : Bool
  deriving DecidableEq, Repr

/-- The pending ticket (R349, R350). -/
structure Ticket where
  digest : Nat
  instant : Nat
  scope : Nat
  tables : Bool
  auto : Nat
  unit : Nat
  /-- It changes the bundle; the bundle has been staged (R352). -/
  bundle : Bool
  staged : Bool
  /-- The check 100 us before the instant has been passed. -/
  checked : Bool
  deriving DecidableEq, Repr

/-- How far an activation has come (R352). -/
inductive ActPhase where
  /-- The boot record of step 3, the drain and the mirror of step 4 are awaited. -/
  | drain
  /-- The management complex restarts from the new slot (step 5). -/
  | restart
  /-- The octets retrain in turn: this one since this instant (step 6). -/
  | octet (n since : Nat)
  deriving DecidableEq, Repr

/-- An activation under way (R352): the new slot and what the ticket said. -/
structure Activation where
  slot : Nat
  scope : Nat
  auto : Nat
  tables : Bool
  recorded : Bool
  phase : ActPhase
  deriving DecidableEq, Repr

/-- The flash, the download session, tickets and the Milk Run. -/
structure Images where
  /-- Bytes of (slot, chunk) as programmed. -/
  chunks : Tab (List Byte)
  /-- Chunk map of a slot: chunks marked, rising. -/
  marks : Tab (List Nat)
  /-- Session digest of a slot's state region; none: erased. -/
  digest : Tab (Option Nat)
  verified : Tab Bool
  boot0 : Option BootRec
  boot1 : Option BootRec
  /-- The slot that the start took, when it is not the record's active one (R342). -/
  runs : Option Nat
  /-- A start of a trial image has failed: the next start reverts (R353). -/
  revert : Bool
  /-- Digests of the components that run, by type (R253, R337). -/
  running : Tab Nat
  jobs : List ChunkJob
  lastChunk : Nat
  ticket : Option Ticket
  /-- The activation under way (R352). -/
  activation : Option Activation
  writing : Option (BootRec × BootWhy)
  confirmAt : Option Nat
  nonces : List Nat
  /-- The eight counters of IMG_BITMAP (R346). -/
  counts : Tab Nat
  /-- Pieces of the chunk being received from upstream (R348), and when a chunk last arrived. -/
  pieceChunk : Nat
  pieces : Tab (List Byte)
  needAt : Option Nat
  /-- Chunks that downstream wants, those sent and not acknowledged (chunk, instant, resends), and a REFUSE in force. -/
  wanted : List Nat
  unacked : List (Nat × Nat × Nat)
  refused : Bool
  deriving DecidableEq, Repr

/-! ### Link test, TAP, setup (17, 18) -/

/-- The live counts of a lane checker (R358). -/
structure Lane where
  bits : Nat := 0
  errs : Nat := 0
  loss : Nat := 0
  deriving DecidableEq, Repr

/-- The instruction last loaded into the TAP (R368). -/
inductive TapInstr where
  | idcode
  | bypass
  | sample
  | extest
  | clamp
  | highz
  | extestPulse
  | extestTrain
  deriving DecidableEq, Repr

/-- Staged writes and what else belongs to BAR0 and the TAP. -/
structure SetupSt where
  /-- Lower halves staged by the host (0) and the management complex (1), by BAR0 offset (R371). -/
  halves : Tab (Option Nat)
  /-- Lower words of multi-word entries staged by each, by BAR0 offset (R53). -/
  words : Tab (Option Nat)
  /-- K_lb in force (R65). -/
  kLb : Nat × Nat
  lanes : Tab Lane
  tap : TapInstr
  /-- RST_N is low. -/
  rstLow : Bool
  deriving DecidableEq, Repr

/-- The whole device. -/
structure State where
  /-- The commands that wait, first in, first out. -/
  pending : List Instr
  /-- Elapsed ns since the first state (log entry 2). -/
  now : Nat
  /-- Draws of free values so far (log entry 6). -/
  draws : Nat
  /-- Register fields by (field, instance). -/
  reg : Tab Nat
  /-- Counters and gauges by (counter, instance). -/
  ctr : Tab Nat
  /-- Programmable counters by (group, n). -/
  prog : Tab Nat
  /-- What has left the device, oldest first. -/
  out : List Out
  frames : Tab Frame
  nextFrame : Nat
  nextPlace : Nat
  ports : Tab PortSt
  /-- Staging FIFO of each octet, in arrival order (R390). -/
  staging : Tab (List Staged)
  /-- Frames waiting for the recirculation port of each slice (R31, R32). -/
  recirc : Tab (List Nat)
  punts : List Punt
  puntBuckets : Tab (Option Bucket)
  buffers : Buffers
  egress : Egress
  fabric : Fabric
  cellar : Cellar
  skim : Skim
  strainer : Tab (Option StrEntry)
  churn : Churn
  time : TimeSt
  host : HostSt
  /-- The Whey queue, oldest first (R301). -/
  whey : List WheyRec
  telem : Telemetry
  rind : Rind
  images : Images
  setup : SetupSt
  /-- (EVT_CAUSE & EVT_MASK) is nonzero (R260). -/
  evtLevel : Bool
  deriving DecidableEq, Repr

/-! ### The state after reset (R15, R319, R383; log entries 1 and 7) -/

/-- The state after reset: the power-on source is asserted, RESET_CAUSE shows it, nothing is listed anywhere, and the flash,
the OTP and the fuses are unprogrammed. Register fields read their reset values from the register map. -/
def State.reset : State :=
  { pending := [], now := 0, draws := 0,
    reg := [((Fld.RIND_STATUS_mode.ctorIdx, 0), 3), ((Fld.RESET_CAUSE_por.ctorIdx, 0), 1)],
    ctr := [], prog := [], out := [], frames := [], nextFrame := 0, nextPlace := 0, ports := [], staging := [], recirc := [],
    punts := [], puntBuckets := [],
    buffers := { bufs := [], count := [], paused := [], owed := [], refresh := [], emptyUntil := [], rxPause := [], injWait := [] },
    egress := { queues := [], deficit := [], round := [], shapers := [], tx := [], gates := [], schedOld := [], wmOff := [] },
    fabric := { ptr := [], seq := [], pinEnd := [], streams := [], epoch := 0 },
    cellar := { slots := [], stash := [], recs := [], poisoned := [], kFlow := (0, 0), kNew := none, switchPlace := none,
                sweepAt := none, purgeAt := none, purgeAddr := 0, periodicAt := none, migrateAt := none, hints := [],
                corrected := 0 },
    skim := { ways := [], uses := 0, wb := [], urgent := [], misses := [], searches := [], requests := [] },
    strainer := [],
    churn := { tasks := [], nextTask := 0, readies := 0, bank0 := ⟨[], [], []⟩, bank1 := ⟨[], [], []⟩, incoming := none, faulty := [],
               repeats := [], reloading := [], preempt := false, nat := [], drainFrom := none, publishers := [], publishBusy := 0 },
    time := { dt := 0, epoch := 0, latchHost := none, latchMgmt := none, slew := 0, reepochEnd := none, ppsAt := none,
              ppsMissed := false, trigNext := [], outEnd := [] },
    host := { rings := [], work := [], cpls := [], pages := [], msixMask := [], msixPend := [], sbSeq := [], sbDirty := [], busMaster := [], vfEnable := false, linkUp := false,
              compliance := false, rsps := [], perst := false },
    whey := [],
    telem := { exporters := [], staged := [], snap := none, heldCause := 0, closed := none, asked := none, ahead := [],
               page := { pageSeq := 0, snapSeq := 0, epoch := 0, ns := 0, recs := [], truncated := false } },
    rind := { fuses := {}, otp := 0, sources := [.powerOn], compatHiz := false, hizBall := none, ownPins := false, otherPins := false,
              tripLow := false, clocks := [], lastRelease := 0, pcieFrom := 0, windowFrom := none, pcieUp := false, holds := [], restored := [], offs := [],
              switching := [], lastSwitch := none, kickAt := 0, stage1 := false, chipResetAt := none, mbx := none, history := [],
              sensors := [], invalid := [], marginPin := false, railLow := false, memHeld := false, avsMissed := 0, avsAt := none, sealedKey := none,
              spdmP384 := false, spdmWait := [] },
    images := { chunks := [], marks := [], digest := [], verified := [], boot0 := none, boot1 := none, runs := none, revert := false,
                running := [], jobs := [], lastChunk := 0, ticket := none, activation := none, writing := none, confirmAt := none,
                nonces := [], counts := [], pieceChunk := 0, pieces := [], needAt := none, wanted := [], unacked := [],
                refused := false },
    setup := { halves := [], words := [], kLb := (0, 0), lanes := [], tap := .idcode, rstLow := false },
    evtLevel := false }

end Sys2Proof.Machine
end

