-- ==== Sys2Proof/Machine/Ops.lean ====
section
/-! DEFINITION. The named operations every block uses: register fields, counters, free values, device time, event bits,
what leaves the device, and the Whey queue. -/

namespace Sys2Proof.Machine

/-! ### Register fields -/

/-- Buffers of each pool for a count of granules (R192). -/
def poolPerGranule (k : Nat) : Nat := [8192, 2048, 819, 215].getD k 0

/-- Buffer size of a pool in bytes (R192). -/
def poolSize (k : Nat) : Nat := [256, 1024, 2560, 9728].getD k 0

/-- Cells of a pool's buffer (R192). -/
def poolCells (k : Nat) : Nat := [1, 4, 10, 38].getD k 0

/-- The field that holds a pool's granule count. -/
def granFld (k : Nat) : Fld :=
  match k with
  | 0 => .POOL_CARVE_p0_granules
  | 1 => .POOL_CARVE_p1_granules
  | 2 => .POOL_CARVE_p2_granules
  | _ => .POOL_CARVE_p3_granules

/-- The reset value of a field's instance: the table's, but where it differs by instance or by device. -/
def fldReset (f : Fld) (i : Nat) : Nat :=
  match f with
  | .PFC_MAP_class_prio => i % 16 / 2
  | .ING_CLASS_pcp_class => 2 * (i % 8)
  | .DEV_ID_ordering => bit Config.isH96
  | .DEV_ID_hbm_gib => Config.hbmGib
  | .DEV_UID_uid => Config.deviceUid.toNat
  | .VAT_CFG_vat_gib => Config.vatGibMax
  | .VAT_STATUS_segments => Config.vatGibMax * 16384
  | .VAT_STATUS_segments_free => Config.vatGibMax * 16384
  | .VAT_STATUS_free_min => Config.vatGibMax * 16384
  | .POOL_STATUS_buffers => poolPerGranule i * (granFld i).info.reset
  | .POOL_STATUS_free => poolPerGranule i * (granFld i).info.reset
  | .POOL_STATUS_free_min => poolPerGranule i * (granFld i).info.reset
  | .STR_LKP_default_action => 2 + 0x10 * 2 ^ 17
  | .RIND_STATUS_wdog_ms => 1000
  | .START_STATUS_fail_threshold => 3
  | .THERMAL_throttle_point => 98
  | .TALLY_GROUP_n_counters => groupSize i
  | f => f.info.reset

/-- The value of a register field's instance. -/
def State.fget (s : State) (f : Fld) (i : Nat) : Nat := tget (fldReset f i) s.reg (f.ctorIdx, i)

/-- Write a register field's instance, cut to its width. -/
def State.fset (s : State) (f : Fld) (i v : Nat) : State :=
  { s with reg := tset (fldReset f i) s.reg (f.ctorIdx, i) (v % 2 ^ f.info.width) }

/-- The value of a register instance as its fields hold it, but for the bits on which only a written 1 acts. -/
def regRaw (s : State) (r : Reg) (i : Nat) : Nat :=
  (r.table.flatMap (fun p => (List.range p.2.reps).map (fun c =>
    if p.2.acc = .w1c ∨ p.2.acc = .w1s then 0 else s.fget p.1 (i * p.2.reps + c) * 2 ^ (p.2.lsb + c * p.2.stride)))).sum

/-- The bits of a field's copy in a register value. -/
def fldIn (v : Nat) (f : Fld) (c : Nat := 0) : Nat := bits v (f.info.lsb + c * f.info.stride) f.info.width

/-- A one-bit field reads 1. -/
def State.fbit (s : State) (f : Fld) (i : Nat) : Bool := s.fget f i == 1

/-! ### Counters -/

/-- The value of a counter's instance. -/
def State.cget (s : State) (c : Ctr) (i : Nat) : Nat := tget 0 s.ctr (c.ctorIdx, i)

/-- Set a gauge's instance. -/
def State.gset (s : State) (c : Ctr) (i v : Nat) : State := { s with ctr := tset 0 s.ctr (c.ctorIdx, i) (v % 2 ^ 48) }

/-- Raise a peak gauge to a level. -/
def State.gmax (s : State) (c : Ctr) (i v : Nat) : State := if s.cget c i < v then s.gset c i v else s

/-- Add to programmable counter `n` of a group, with the carry chain of R306. -/
def progAdd (fuel : Nat) (s : State) (g n k : Nat) : State :=
  match fuel with
  | 0 => s
  | fuel + 1 =>
    let v := tget 0 s.prog (g, n) + k
    let s := { s with prog := tset 0 s.prog (g, n) (v % 2 ^ 48) }
    if 2 ^ 48 ≤ v ∧ n < 7 ∧ s.fbit .TALLY_PROG_chain (g * 8 + n) then progAdd fuel s g (n + 1) (v / 2 ^ 48) else s

/-- A programmable counter takes the event of a fixed counter, under its tenant filter (R305). -/
def progTake (s : State) (g idx k : Nat) (tenant : Option Nat) (n : Nat) : State :=
  let i := g * 8 + n
  if s.fget .TALLY_PROG_event i = idx ∧
      (s.fbit .TALLY_PROG_tenant_en i = false ∨ tenant = some (s.fget .TALLY_PROG_tenant i)) then
    progAdd 8 s g n k
  else s

/-- Add to every programmable counter of a group that is set to an event. -/
def progEvent (s : State) (g idx k : Nat) (tenant : Option Nat) : State :=
  if (s.reg.any (fun e => e.1.1 = Fld.TALLY_PROG_event.ctorIdx)) then
    (List.range 8).foldl (fun s n => progTake s g idx k tenant n) s
  else s

/-- Count an event `k` times: the fixed counter wraps at 48 bits (R306), and programmable counters set to it follow. -/
def State.count (s : State) (c : Ctr) (i : Nat) (k : Nat := 1) (tenant : Option Nat := none) : State :=
  let p := c.place i
  progEvent { s with ctr := tset 0 s.ctr (c.ctorIdx, i) ((s.cget c i + k) % 2 ^ 48) } p.1 p.2 k tenant

/-! ### Free values, device time, outputs -/

/-- The next free value (log entry 6). -/
def State.draw (s : State) : Nat × State := ((Config.freeValue s.draws).toNat, { s with draws := s.draws + 1 })

/-- Device time in ns: sec * 10^9 + ns (R274, R283). -/
def State.devNs (s : State) : Nat := s.time.dt / 2 ^ 40

/-- Device time in units of 2^-16 ns (R41). -/
def State.dev16 (s : State) : Nat := s.time.dt / 2 ^ 24

/-- The 32-bit stamp of R283. -/
def State.stamp32 (s : State) : Nat := s.devNs % 2 ^ 32

/-- Something leaves the device. -/
def State.emit (s : State) (o : Out) : State := { s with out := s.out ++ [o] }

/-! ### Event bits (R260) -/

/-- The bit of EVT_CAUSE that a register's W1C event bits feed (R260). -/
def Reg.evtBit (r : Reg) : Option Nat :=
  match r with
  | .PORT_STATUS | .OCTET_STATUS | .LANE_TEST => some 0
  | .SEP_STATUS => some 1
  | .CELLAR_STATUS | .CELLAR_REKEY => some 2
  | .SKIM_STATUS | .HBM_SPLIT => some 3
  | .STR_CTL | .STR_STATUS => some 4
  | .MCK_STATUS | .PUBLISH_STATUS | .NAT_STATUS => some 5
  | .BUF_STATUS => some 6
  | .EGR_STATUS => some 7
  | .FAB_STATUS => some 8
  | .TIME_STATUS | .TRIG_CTL => some 9
  | .WHEY_STATUS | .TALLY_CTL => some 10
  | .RIND_EVT => some 11
  | .HIF_STATUS | .GLOBAL_STATUS | .SET_ERR => some 12
  | _ => none

/-- The registers that hold event bits. -/
def evtRegs : List Reg :=
  [.PORT_STATUS, .OCTET_STATUS, .LANE_TEST, .SEP_STATUS, .CELLAR_STATUS, .CELLAR_REKEY, .SKIM_STATUS, .HBM_SPLIT,
   .STR_CTL, .STR_STATUS, .MCK_STATUS, .PUBLISH_STATUS, .NAT_STATUS, .BUF_STATUS, .EGR_STATUS, .FAB_STATUS,
   .TIME_STATUS, .TRIG_CTL, .WHEY_STATUS, .TALLY_CTL, .RIND_EVT, .HIF_STATUS, .GLOBAL_STATUS, .SET_ERR]

/-- The numbers of the W1C fields that feed one bit of EVT_CAUSE. -/
def evtFlds (b : Nat) : List Nat :=
  (evtRegs.filter (fun r => r.evtBit = some b)).flatMap
    (fun r => (r.table.filter (fun p => p.2.acc = .w1c)).map (fun p => p.1.ctorIdx))

/-- Bit `b` of EVT_CAUSE: some event bit of its block reads 1. -/
def evtCauseBit (s : State) (b : Nat) : Bool :=
  let l := evtFlds b
  s.reg.any (fun e => e.2 = 1 && l.contains e.1.1)

/-- The value of EVT_CAUSE. -/
def evtCause (s : State) : Nat := ((List.range 13).map (fun b => if evtCauseBit s b then 2 ^ b else 0)).sum

/-! ### Ring sets, status blocks and messages (R254, R255, R258, R259) -/

/-- The state of a ring. -/
def State.ring (s : State) (set k : Nat) : RingSt := tget {} s.host.rings (set, k)

/-- Replace the state of a ring. -/
def State.setRing (s : State) (set k : Nat) (r : RingSt) : State :=
  { s with host := { s.host with rings := tset {} s.host.rings (set, k) r } }

/-- The function that owns a set: 0 is PF0 (R254). -/
def setOwner (s : State) (set : Nat) : Nat := if set = 0 then 0 else s.fget .RSET_OWNER_owner set

/-- The page of a set in its function's BAR2: PF0 numbers the sets as they are, a VF's sets count in ascending order; an enabled set
keeps the page that it had when it was enabled (R254, R255). -/
def setPage (s : State) (set : Nat) : Nat :=
  (tget none s.host.pages (set, 0)).getD
    (if setOwner s set = 0 then set
     else ((List.range set).filter (fun x => x != 0 && s.fget .RSET_OWNER_owner x == setOwner s set)).length)

/-- The device-owned indices of a set in the order of the status block (R258). -/
def sbWords (s : State) (set : Nat) : Nat :=
  ((List.range 8).map (fun k => (s.ring set k).devIdx % 2 ^ 32 * 2 ^ (32 * k))).sum

/-- The device writes the status block of a set (R258). -/
def sbWrite (s : State) (set : Nat) : State :=
  let q := (tget 0 s.host.sbSeq (set, 0) + 1) % 2 ^ 32
  let v := sbWords s set + q * 2 ^ 256 + s.stamp32 * 2 ^ 288 + s.time.epoch * 2 ^ 320
  let s := s.emit (.hostWrite (s.fget .SB_ADDR_addr set) (leBytes 64 v))
  { s with host := { s.host with sbSeq := tset 0 s.host.sbSeq (set, 0) q,
                                 sbDirty := tset false s.host.sbDirty (set, 0) false } }

/-- A device-owned index of a set has advanced: a status block write is due within 1 us (R258). -/
def sbMark (s : State) (set : Nat) : State :=
  { s with host := { s.host with sbDirty := tset false s.host.sbDirty (set, 0) true } }

/-- One of a set's 32 vectors is sent, after the set's status block if an index has advanced; a masked one is pending (R258, R259). -/
def setMessage (s : State) (set v : Nat) : State :=
  let s := if tget false s.host.sbDirty (set, 0) then sbWrite s set else s
  let k : Key := (setOwner s set, 32 * setPage s set + v)
  if tget false s.host.msixMask k then { s with host := { s.host with msixPend := tset false s.host.msixPend k true } }
  else s.emit (.msix k.1 k.2)

/-! ### The event vector (R260) -/

/-- EVT_CAUSE follows the event bits, and a rise of (EVT_CAUSE & EVT_MASK) from zero sends the event vector (R260). -/
def evtUpdate (s : State) : State :=
  let c := evtCause s
  let on := decide (c &&& s.fget .EVT_MASK_mask 0 ≠ 0)
  let s := s.fset .EVT_CAUSE_cause 0 c
  let s := if on && !s.evtLevel then setMessage s 0 31 else s
  { s with evtLevel := on }

/-- Hardware sets an event bit (R9: a set wins over a clear of the same cycle, since each command is whole). -/
def State.event (s : State) (f : Fld) (i : Nat) : State := evtUpdate (s.fset f i 1)

/-! ### Domains -/

/-- An octet of a tile whose die-to-die link failed in this start (R365): the device runs without it. -/
def State.tileFailed (s : State) (pd : Nat) : Bool :=
  decide (pd < 32) && bits (s.fget .REPAIR_LINKS_d2d_failed 0) (pd / 4) 1 == 1

/-- A power domain is on and not held in reset (R330). PD_STATE reads 0 until a start has released the domain. -/
def State.runs (s : State) (pd : Nat) : Bool := s.fbit .PD_STATE_on pd && !s.fbit .PD_HELD_held pd && !s.tileFailed pd

/-- The power domain of an octet, a slice, a cluster, a Skim bank. -/
def pdOctet (n : Nat) : Nat := n
def pdSlice (n : Nat) : Nat := 32 + n
def pdCluster (n : Nat) : Nat := 48 + n
def pdBank (n : Nat) : Nat := 112 + n

/-! ### Whey (R292, R300, R301) -/

/-- The overload priority of a record type (R293). -/
def wheyPrio (t : Nat) : Nat := [0, 2, 1, 3, 1, 0, 0, 3, 2, 0].getD t 3

/-- The fill below which a priority is admitted (R301). -/
def wheyThreshold (p : Nat) : Nat := [65536, 57344, 49152, 32768].getD p 32768

/-- Types that carry a tenant. -/
def wheyTenanted (t : Nat) : Bool := 1 ≤ t && t ≤ 7

/-- The tenant whose events a record's are (R305). -/
def wheyTen (t tenant : Nat) : Option Nat := if wheyTenanted t then some tenant else none

/-- The Whey view of a record: the opcode its flow or NAT body names picks it (R303, R304). -/
def wheyView (t v : Nat) : Nat := if t ≤ 4 then bits v 495 8 else if t ≤ 6 then bits v 500 8 else 0

/-- A record is produced: discarded if its type has no route (R300), admitted under its priority's threshold, or dropped
and counted with overload_event (R301). `body` holds the bits from 64 up; `stamp` word 0's stamp. -/
def wheyEmit (s : State) (t body stamp tenant : Nat) : State :=
  if s.fbit .WHEY_ROUTE_ring_en t = false ∧ s.fbit .WHEY_ROUTE_ipfix_en t = false then s.count .wheyUnrouted (t - 1) 1 (wheyTen t tenant)
  else
    let fill := s.whey.length
    if fill < wheyThreshold (wheyPrio t) then
      let v := t + s.time.epoch * 2 ^ 8 + s.fget .WHEY_STATUS_export_epoch 0 * 2 ^ 16 + stamp % 2 ^ 32 * 2 ^ 32 + body
      let x := s.fget .WHEY_ROUTE_exporter t
      let r : WheyRec := ⟨t, v, tenant, regRaw s .WHEY_ROUTE t, regRaw s .WHEY_VIEW (wheyView t v), s.fbit .IPFIX_CFG_en x⟩
      let s := { s with whey := s.whey ++ [r] }
      let s := s.fset .WHEY_STATUS_queue_fill 0 (fill + 1)
      (s.gmax .gWheyQueuePeak 0 (fill + 1)).count .wheyIn (t - 1) 1 (wheyTen t tenant)
    else ((s.count .wheyIn (t - 1) 1 (wheyTen t tenant)).count .wheyDrop (t - 1) 1 (wheyTen t tenant)).event .WHEY_STATUS_overload_event 0

end Sys2Proof.Machine
end

