-- ==== Sys2Proof/Machine/ImageOps.lean ====
section
/-! DEFINITION. Slots, images and boot records as every block uses them (R337 to R342), the end of a ticket, and the state
of the microcode bank that a publish would make current (R185, R352). -/

namespace Sys2Proof.Machine

/-! ### Boot records (R341) -/

/-- The valid boot record with the highest seq; with none, slot A is active and confirmed, and slot B is previous. -/
def bootNow (s : State) : BootRec :=
  match s.images.boot0, s.images.boot1 with
  | some a, some b => if a.seq < b.seq then b else a
  | some a, none => a
  | none, some b => b
  | none, none => ⟨0, 0, false, 0, 1, 0, 0, 0⟩

/-- The active slot, which is the one that the start took (R342), and the inactive one. -/
def activeSlot (s : State) : Nat := s.images.runs.getD (bootNow s).active
def inactiveSlot (s : State) : Nat := 1 - activeSlot s

/-- The copy that the next record goes to: the one with the lower seq, an invalid copy counting as lowest. -/
def bootCopy (s : State) : Nat :=
  match s.images.boot0, s.images.boot1 with
  | some a, some b => if a.seq ≤ b.seq then 0 else 1
  | some _, none => 1
  | none, _ => 0

/-- A boot record is written with seq one above the highest valid one: the copy is erased first. -/
def bootWrite (s : State) (r : BootRec) (why : BootWhy) : State :=
  let r := { r with seq := ((bootNow s).seq + 1) % 2 ^ 32 }
  { s with images := { s.images with writing := some (r, why) } }

/-- The record that is in force once the one in writing is done takes its place in the copy with the lower seq. -/
def bootPut (s : State) (r : BootRec) : State :=
  let im := { s.images with writing := none }
  if bootCopy s = 0 then { s with images := { im with boot0 := some r } } else { s with images := { im with boot1 := some r } }

/-! ### Images (R337) -/

/-- The bytes of a chunk as programmed. -/
def chunkBytes (s : State) (slot k : Nat) : List Byte := tget [] s.images.chunks (slot, k)

/-- A little-endian field of a byte string. -/
def leAt (b : List Byte) (off n : Nat) : Nat := leNat (slice b off n)

/-- chunk_count of a chunk 0. -/
def imgChunks (b : List Byte) : Nat := leAt b 20 2

/-- svn of a chunk 0's manifest. -/
def imgSvn (b : List Byte) : Nat := leAt b 64 2

/-- A component entry: type, first chunk, chunks, length and digest. -/
structure Comp where
  typ : Nat
  first : Nat
  chunks : Nat
  length : Nat
  digest : Nat
  deriving DecidableEq, Repr

/-- Component entry i of a chunk 0. -/
def compAt (b : List Byte) (i : Nat) : Comp :=
  let o := 128 + 64 * i
  ⟨leAt b o 1, leAt b (o + 2) 2, leAt b (o + 4) 2, leAt b (o + 8) 4, leAt b (o + 16) 48⟩

/-- The five components of a chunk 0. -/
def comps (b : List Byte) : List Comp := (List.range 5).map (compAt b)

/-- The component of a type. -/
def compOf (b : List Byte) (t : Nat) : Option Comp := (comps b).find? (fun c => c.typ == t)

/-- The bytes of a component in a slot. -/
def compBytes (s : State) (slot : Nat) (c : Comp) : List Byte :=
  ((List.range c.chunks).flatMap (fun i => chunkBytes s slot (c.first + i))).take c.length

/-- The bit that makes the number of ones among `w` bits and itself even (R166, R169, R182). -/
def evenBit (v w : Nat) : Nat := ((List.range w).map (fun i => bits v i 1)).sum % 2

/-- A microword as the store holds it: bit 32 is the parity of bits [31:0] (R166). -/
def microStored (v : Nat) : Nat := v % 2 ^ 32 + evenBit v 32 * 2 ^ 32

/-- A nanoword as the store holds it: bit 256 + j is the parity of bits [32j+31:32j] (R169). -/
def nanoStored (v : Nat) : Nat :=
  v % 2 ^ 256 + ((List.range 8).map (fun j => evenBit (bits v (32 * j) 32) 32 * 2 ^ (256 + j))).sum

/-- A dispatch entry as the table holds it: bit 16 is the parity of bits [15:0] (R182). -/
def dispStored (v : Nat) : Nat := v % 2 ^ 16 + evenBit v 16 * 2 ^ 16

/-- A table of little-endian words of a byte string, as a store holds them; words of zero are not listed. -/
def wordTab (b : List Byte) (off n size : Nat) (stored : Nat → Nat) : Tab Nat :=
  ((List.range n).map (fun i => ((i, 0), stored (leAt b (off + size * i) size)))).filter (fun e => e.2 ≠ 0)

/-- The bundle in the bytes of component 4: the loader computes every parity bit (R183). -/
def bundleIn (b : List Byte) : Bundle :=
  ⟨wordTab b 64 16384 4 microStored, wordTab b 65600 2048 32 nanoStored, wordTab b 131136 256 4 dispStored⟩

/-- A bundle passes verification: its format is 1, and its used counts do not exceed the stores (R183). -/
def bundleOk (b : List Byte) : Bool := leAt b 0 4 == 1 && decide (leAt b 4 2 ≤ 16384) && decide (leAt b 6 2 ≤ 2048)

/-- The bundle of a slot's image. -/
def slotBundle (s : State) (slot : Nat) : Bundle :=
  match compOf (chunkBytes s slot 0) 4 with
  | some c => bundleIn (compBytes s slot c)
  | none => ⟨[], [], []⟩

/-- The digests of a slot's components, by type. -/
def slotDigests (s : State) (slot : Nat) : Tab Nat :=
  (List.range 5).foldl (fun t i => match compOf (chunkBytes s slot 0) (i + 1) with
    | some c => tset 0 t (i + 1, 0) c.digest
    | none => t) []

/-- Chunk 0 opens with a well-formed header (R337). -/
def headOk (b : List Byte) : Bool :=
  let n := imgChunks b
  leAt b 0 4 == 0x49564546 && leAt b 4 2 == 1 && leAt b 6 2 == 64 && leAt b 8 4 == 384 + 48 * (n - 1) &&
    leAt b 12 4 == 448 + 48 * (n - 1) && (leAt b 16 4 == 201 || leAt b 16 4 == 5462) && decide (2 ≤ n) && decide (n ≤ 768) &&
    leAt b 22 2 == 0 && leAt b 24 4 == 65536 * n && leAt b 28 36 == 0

/-- A component entry is in range (R337). -/
def compOk (n : Nat) (b : List Byte) (i : Nat) : Bool :=
  let o := 128 + 64 * i
  let c := compAt b i
  leAt b (o + 1) 1 == 0 && leAt b (o + 6) 2 == 0 && leAt b (o + 12) 4 == 0 && decide (1 ≤ c.first) && decide (c.first ≤ 767) &&
    decide (c.first + c.chunks ≤ n) && c.chunks == (c.length + 65535) / 65536

/-- The manifest and the component table are well formed (R337). -/
def manifestOk (b : List Byte) : Bool :=
  let n := imgChunks b
  decide (imgSvn b ≤ 64) && leAt b 66 1 == 5 && leAt b 67 1 == 0 && leAt b 76 52 == 0 &&
    (List.range 5).all (fun i => compOk n b i && (compOf b (i + 1)).isSome) &&
    (List.range (n - 1)).all (fun k => ((comps b).filter (fun c => c.first ≤ k + 1 && k + 1 < c.first + c.chunks)).length == 1)

/-- The digest of chunk k in the manifest. -/
def chunkDigest (b : List Byte) (k : Nat) : Nat := leAt b (448 + 48 * (k - 1)) 48

/-- A byte string has a SHA-384 digest. -/
def digestIs (b : List Byte) (d : Nat) : Bool := (Config.sha384 b).toNat == d

/-! ### Signatures and the update policy (R338, R339) -/

/-- A field of the OTP. -/
def otpAt (s : State) (lsb w : Nat) : Nat := bits s.rind.otp lsb w

/-- The fused SVN: the programmed bits from bit 5,632 on. -/
def fusedSvn (s : State) : Nat := ((List.range 64).filter (fun i => otpAt s (5632 + i) 1 == 1)).length

/-- hybrid_required. -/
def hybridOn (s : State) : Bool := otpAt s 5696 1 == 1

/-- An owner is enrolled. -/
def ownerEnrolled (s : State) : Bool := otpAt s 4864 384 != 0

/-- A signature block verifies over its signed bytes under two key-hash fuses (R338). -/
def sigOk (s : State) (ec ml : Nat) (signed b : List Byte) : Bool :=
  let flags := leAt b 0 4
  let both := flags == 3
  (flags == 1 || both) && leAt b 4 4 == (if both then 5462 else 201) && decide (leAt b 4 4 ≤ b.length) &&
    (both || !hybridOn s) && digestIs (slice b 8 97) ec && Config.ecdsaOk signed (slice b 8 97) (slice b 105 96) &&
    (!both || (digestIs (slice b 201 1952) ml && Config.mldsaOk signed (slice b 201 1952) (slice b 2153 3309)))

/-- A chunk 0's signature block verifies under Kolropel's keys. -/
def imageSigned (s : State) (b : List Byte) : Bool :=
  let o := leAt b 12 4
  sigOk s (otpAt s 4096 384) (otpAt s 4480 384) (b.take o) (slice b o (leAt b 16 4))

/-- A slot authenticates (R339). -/
def slotAuth (s : State) (slot : Nat) : Bool :=
  let b := chunkBytes s slot 0
  headOk b && manifestOk b && imageSigned s b && decide (fusedSvn s ≤ imgSvn b) &&
    (List.range (imgChunks b - 1)).all (fun k => digestIs (chunkBytes s slot (k + 1)) (chunkDigest b (k + 1))) &&
    (comps b).all (fun c => digestIs (compBytes s slot c) c.digest) &&
    ((compOf b 4).map (fun c => bundleOk (compBytes s slot c))).getD false

/-- SVN bits are programmed upward until an image's svn is reached (R353). -/
def fuseSvn (s : State) (n : Nat) : State :=
  let o := (List.range 64).foldl (fun o i =>
    if ((List.range 64).filter (fun j => bits o (5632 + j) 1 == 1)).length < n ∧ bits o (5632 + i) 1 = 0 then o ||| 2 ^ (5632 + i)
    else o) s.rind.otp
  { s with rind := { s.rind with otp := o } }

/-- The image digest: the SHA-384 of bytes 0 to sig_offset - 1 of chunk 0 (R337). -/
def imageDigest (b : List Byte) : Nat := (Config.sha384 (b.take (leAt b 12 4))).toNat

/-! ### Slots and what UPD_STATUS shows (R343, R345) -/

/-- The chunks marked in a slot. -/
def marksOf (s : State) (slot : Nat) : List Nat := tget [] s.images.marks (slot, 0)

/-- The session digest of a slot's state region. -/
def slotDigest (s : State) (slot : Nat) : Option Nat := tget none s.images.digest (slot, 0)

/-- State of a slot: 0 EMPTY, 1 DOWNLOADING, 2 VERIFYING, 3 VERIFIED (R343). -/
def slotState (s : State) (slot : Nat) : Nat :=
  match slotDigest s slot with
  | none => 0
  | some _ =>
    if (marksOf s slot).length < imgChunks (chunkBytes s slot 0) ∨ !(marksOf s slot).contains 0 then 1
    else if tget false s.images.verified (slot, 0) then 3 else 2

/-- The lowest-numbered refusal state that holds; 0: none (R345). Recovery mode refuses the Milk Run only. -/
def refusalOf (s : State) (milk : Bool) : Nat :=
  if s.fbit .UPD_STATUS_owner_lock 0 then 1
  else if s.fbit .RAIL_margin_low 0 then 2
  else if 4 * s.fget .THERMAL_throttle_point 0 ≤ s.fget .THERMAL_tj_q2 0 then 3
  else if s.fbit .HIF_STATUS_drain_declared 0 then 4
  else if milk && s.fget .RIND_STATUS_mode 0 == 2 then 5
  else 0

/-- The build number of the image that runs: an activation's is the new one once it is complete, and recovery mode has its own (R397). -/
def buildNow (s : State) : Nat :=
  let slot := match s.images.activation with
    | some a => 1 - a.slot
    | none => activeSlot s
  if s.fget .RIND_STATUS_mode 0 = 2 then Config.goldenBuild.toNat else leAt (chunkBytes s slot 0) 68 8

/-- UPD_STATUS follows the slots, the records, the fuses and the refusal states, and FW_BUILD the image that runs (R397). -/
def updShow (s : State) : State :=
  let r := bootNow s
  let n := inactiveSlot s
  let s := s.fset .UPD_STATUS_active_slot 0 (activeSlot s)
  let s := s.fset .FW_BUILD_build 0 (buildNow s)
  let s := (s.fset .UPD_STATUS_trial 0 (bit r.trial)).fset .UPD_STATUS_trial_starts 0 r.trialStarts
  let s := (s.fset .UPD_STATUS_inactive_state 0 (slotState s n)).fset .UPD_STATUS_chunks_done 0 (marksOf s n).length
  let s := s.fset .UPD_STATUS_chunk_count 0 (if slotState s n = 0 then 0 else imgChunks (chunkBytes s n 0))
  let s := (s.fset .UPD_STATUS_fused_svn 0 (fusedSvn s)).fset .UPD_STATUS_hybrid_required 0 (bit (hybridOn s))
  (s.fset .UPD_STATUS_owner_enrolled 0 (bit (ownerEnrolled s))).fset .UPD_STATUS_refusal 0 (refusalOf s true)

/-! ### The bank that is not current (R184 to R187, R352) -/

/-- The bundle of a bank. -/
def bankOfParity (s : State) (p : Nat) : Bundle := if p = 0 then s.churn.bank0 else s.churn.bank1

/-- The other bank has become Idle: a pending ticket's bundle is staged in it, and ready reads 0 while a ticket is pending. -/
def bankIdle (s : State) : State :=
  match s.images.ticket with
  | none => (s.fset .PUBLISH_STATUS_staging 0 0).fset .PUBLISH_STATUS_ready 0 1
  | some t =>
    if t.bundle && !t.staged then
      let c := { s.churn with incoming := some (slotBundle s (inactiveSlot s)) }
      ({ s with churn := c }.fset .PUBLISH_STATUS_staging 0 1).fset .PUBLISH_STATUS_ready 0 0
    else (s.fset .PUBLISH_STATUS_staging 0 0).fset .PUBLISH_STATUS_ready 0 0

/-- The other bank holds neither a draining nor a staging bundle. -/
def bankFree (s : State) : Bool := !s.fbit .PUBLISH_STATUS_draining 0 && !s.fbit .PUBLISH_STATUS_staging 0

/-! ### The Strainer entries of an image (R352 step 1, R128) -/

/-- Every entry's epoch_valid is rewritten; one that becomes 0 is a free address that keeps its bits. -/
def mapEpoch (s : State) (f : Nat → Nat) : State :=
  { s with strainer := tmap none (fun _ v => v.map (fun e => { e with epoch := f e.epoch })) s.strainer }

/-- The staged Strainer entries of a ticket are withdrawn: entries of the other parity only go, entries of the current one
only become valid in both (DESIGN CHOICE, log entry 32). -/
def tablesUndo (s : State) : State :=
  let e := 2 ^ s.fget .PUBLISH_STATUS_parity 0
  mapEpoch s (fun x => if x = e then 3 else if x = 3 - e then 0 else x)

/-- Step 4 of R128 for an activation: new entries become valid in both parities, leaving ones go. -/
def tablesDone (s : State) : State :=
  let e := 2 ^ s.fget .PUBLISH_STATUS_parity 0
  mapEpoch s (fun x => if x = e then 3 else if x = 3 - e then 0 else x)

/-! ### Tickets (R350, R352) -/

/-- A trigger unit is disarmed, and given back by a ticket that held it: its firmware activation target ends with the ticket (R284). -/
def trigOff (s : State) (u : Nat) : State :=
  let s := if s.fbit .TRIG_CTL_fw_owned u then s.fset .TRIG_CTL_targets u (setBits (s.fget .TRIG_CTL_targets u) 4 1 0) else s
  let s := (s.fset .TRIG_CTL_arm u 0).fset .TRIG_CTL_fw_owned u 0
  { s with time := { s.time with trigNext := tset none s.time.trigNext (u, 0) none } }

/-- The pending ticket ends without an activation: its unit is disarmed, the Idle bank is restaged with the active bundle
if the ticket's was written there, and the event is shown. -/
def ticketDrop (s : State) (event : Nat) : State :=
  match s.images.ticket with
  | none => s
  | some t =>
    let s := trigOff s t.unit
    let s := { s with images := { s.images with ticket := none } }
    let s := (s.fset .UPD_STATUS_ticket_pending 0 0).fset .UPD_STATUS_ticket_scope 0 0
    let s := if event = 0 then s else s.fset .UPD_STATUS_last_event 0 event
    let s := if t.tables then tablesUndo s else s
    let started := t.staged || s.churn.incoming.isSome
    if t.bundle && started then
      let c := { s.churn with incoming := some (bankOfParity s (s.fget .PUBLISH_STATUS_parity 0)) }
      ({ s with churn := c }.fset .PUBLISH_STATUS_staging 0 1).fset .PUBLISH_STATUS_ready 0 0
    else if bankFree s then s.fset .PUBLISH_STATUS_ready 0 1
    else s

/-- The boot record of an activation is written (R352 step 3): the new slot, in trial. -/
def activationRecord (s : State) (a : Activation) : State :=
  let d (k : Nat) : Nat := imageDigest (chunkBytes s k 0)
  bootWrite s ⟨0, a.slot, true, 0, 1 - a.slot, d a.slot, d (1 - a.slot), a.auto⟩ .activate

/-- What a pending ticket is judged by 100 us before its instant (R352): no refusal state, the bundle staged and the other bank
Idle for a publish, and the management complex running (R355). -/
def ticketOk (s : State) (t : Ticket) : Bool :=
  refusalOf s false == 0 && (!t.bundle || t.staged) && (!(t.bundle || t.tables) || bankFree s) && s.runs 157

/-- The activation of a ticket at its instant (R352 steps 2 and 3): the boot record is written. Of a publish the new bundle
runs from now on. -/
def activate (s : State) : State :=
  match s.images.ticket with
  | none => s
  | some t =>
    let s := trigOff s t.unit
    let s := (s.fset .UPD_STATUS_ticket_pending 0 0).fset .UPD_STATUS_ticket_scope 0 0
    let old := activeSlot s
    let a : Activation := { slot := 1 - old, scope := t.scope, auto := t.auto, tables := t.tables, recorded := false, phase := .drain }
    let run := if t.scope = 2 then s.images.running
      else tset 0 s.images.running (4, 0) (tget 0 (slotDigests s (1 - old)) (4, 0))
    let s := { s with images := { s.images with ticket := none, activation := some a, running := run } }
    let s := if bankFree s then s.fset .PUBLISH_STATUS_ready 0 1 else s
    if s.images.writing.isSome then s else activationRecord s a

end Sys2Proof.Machine
end

