-- ==== Sys2Proof/Machine/Edits.lean ====
section
/-! DEFINITION. The routine edits of a frame as functions on its bytes (R177, R220 step 1), and the checksums they keep. -/

namespace Sys2Proof.Machine

/-- Fold a checksum over the 16-bit words of a region that an edit changed, leaving out the checksum's own word. -/
def csumRegion (old new : List Byte) (off n csumOff sum : Nat) : Nat :=
  ((List.range (n / 2)).map (fun i => off + 2 * i)).foldl
    (fun c o => if o = csumOff ∨ beAt old o 2 = beAt new o 2 then c else csumUpdate c (beAt old o 2) (beAt new o 2)) sum

/-- Update the checksum of an IPv4 header at an offset (R177, R208). -/
def fixIpv4 (old new : List Byte) (off : Nat) : List Byte :=
  let n := byteAt old off % 16 * 4
  putBytes new (off + 10) (beBytes 2 (csumRegion old new off n (off + 10) (beAt new (off + 10) 2)))

/-- Update the TCP or UDP checksum that covers a header and the addresses of its pseudo-header (R177). A UDP checksum of 0
stays 0; a UDP result of 0 is sent as 0xFFFF (PRESUMED, log entry 8). -/
def fixL4 (old new : List Byte) (l3 l4 : Nat × Nat) : List Byte :=
  let co := if l4.2 = 1 then l4.1 + 16 else l4.1 + 6
  let n := if l4.2 = 1 then byteAt old (l4.1 + 12) / 16 * 4 else 8
  let cur := beAt new co 2
  if (l4.2 ≠ 1 ∧ l4.2 ≠ 2) ∨ (l4.2 = 2 ∧ beAt old co 2 = 0) then new
  else
    let c := csumRegion old new l4.1 n co cur
    let c := if l3.2 = 1 then csumRegion old new (l3.1 + 12) 8 co c
             else if l3.2 = 2 then csumRegion old new (l3.1 + 8) 32 co c else c
    putBytes new co (beBytes 2 (if l4.2 = 2 ∧ c = 0 then 0xFFFF else c))

/-- Every checksum that covers changed bytes is updated, under the last profile and, with a chain, the outer one (R60, R177
kind 2). -/
def fixAll (old new : List Byte) (f : Frame) : List Byte :=
  let new := if f.l3.2 = 1 then fixIpv4 old new f.l3.1 else new
  let new := if f.outerL3.2 = 1 ∧ f.outerL3.1 ≠ f.l3.1 then fixIpv4 old new f.outerL3.1 else new
  let new := fixL4 old new f.l3 f.l4
  if f.outerL4.1 ≠ f.l4.1 then fixL4 old new f.outerL3 f.outerL4 else new

/-- The header that a DEC_TTL edit names: its offset and kind (R177). -/
def ttlHeader (f : Frame) (base : Nat) : Nat × Nat := if base = 3 then f.outerL3 else f.l3

/-- One routine edit; none: it has a byte at or beyond the frame's end and is skipped whole (R177, R220). -/
def applyEdit (b : List Byte) (f : Frame) (e : Edit) : Option (List Byte) :=
  let last := b.length - 4
  match e.kind with
  | 1 => if last < e.off + e.width then none else some (putBytes b e.off (beBytes e.width e.val))
  | 2 => if last < e.off + e.width then none else some (fixAll b (putBytes b e.off (beBytes e.width e.val)) f)
  | 3 =>
    let h := ttlHeader f e.base
    let o := if h.2 = 1 then h.1 + 8 else h.1 + 7
    if last < o + 1 then none
    else
      let n := putBytes b o [BitVec.ofNat 8 (byteAt b o + 255)]
      some (if h.2 = 1 then fixIpv4 b n h.1 else n)
  | _ => some b

/-- Step 1 of R220: the routine edits in posting order, with the count of those skipped. -/
def editsOn (b : List Byte) (f : Frame) (l : List Edit) : List Byte × Nat :=
  match l with
  | [] => (b, 0)
  | e :: l =>
    match applyEdit b f e with
    | some b => editsOn b f l
    | none => let r := editsOn b f l; (r.1, r.2 + 1)

end Sys2Proof.Machine
end

