-- ==== Sys2Proof/Machine/HostOps.lean ====
section
/-! DEFINITION. Ring sets, ring entries, status blocks, messages and completions (R255 to R266), as every block uses
them. -/

namespace Sys2Proof.Machine

/-- Size of a ring in entries (R256). -/
def ringSize (s : State) (set k : Nat) : Nat := 2 ^ s.fget .RING_CTL_log2_size (set * 8 + k)

/-- A ring is enabled: en of the ring and set_en of its set, and it is not quiescing (R256). -/
def ringOn (s : State) (set k : Nat) : Bool :=
  s.fbit .SET_CTL_set_en set && s.fbit .RING_CTL_en (set * 8 + k) && !(s.ring set k).quiescing

/-- A ring may fetch and write now: enabled, not stopped, and Bus Master Enable set in its function (R261). -/
def ringRuns (s : State) (set k : Nat) : Bool :=
  ringOn s set k && !s.fbit .RING_CTL_stopped (set * 8 + k) && tget false s.host.busMaster (setOwner s set, 0)

/-- A ring stops with an error bit, and the error is reported through AER (R261). -/
def ringStop (s : State) (set k : Nat) (err : Fld) : State :=
  let s := s.fset .RING_CTL_stopped (set * 8 + k) 1
  ((s.fset .SET_ERR_last_ring set k).emit (.aer (setOwner s set))).event err set

/-- Send a ring's vector: the status block is written first if an index has advanced (R258, R259). -/
def ringMessage (s : State) (set k : Nat) : State :=
  setMessage (s.setRing set k { s.ring set k with since := 0, oldest := none }) set (s.fget .RING_CTL_vector (set * 8 + k))

/-- The phase bit of an index (R258). -/
def phaseOf (i size : Nat) : Nat := 1 - i / size % 2

/-- Write one entry of a device-to-host ring that runs and has a free slot, and count it towards the ring's message
(R258, R259). -/
def ringWrite (s : State) (set k v : Nat) : State :=
  let r := s.ring set k
  let n := ringSize s set k
  let i := r.devIdx
  let s := s.emit (.hostWrite (s.fget .RING_BASE_addr (set * 8 + k) + 64 * (i % n)) (leBytes 64 (setBits v 511 1 (phaseOf i n))))
  let r := { r with devIdx := (i + 1) % 2 ^ 32, since := r.since + 1, oldest := some (r.oldest.getD s.now) }
  let s := sbMark (s.setRing set k r) set
  if s.fbit .RING_CTL_irq_en (set * 8 + k) ∧ max 1 (s.fget .RING_CTL_mod_count (set * 8 + k)) ≤ r.since then
    ringMessage s set k
  else s

/-- A device-to-host ring is full (R257). -/
def ringFull (s : State) (set k : Nat) : Bool :=
  ((s.ring set k).devIdx + 2 ^ 32 - (s.ring set k).hostIdx) % 2 ^ 32 ≥ ringSize s set k

/-- A completion waits. -/
def cplKeep (s : State) (c : Cpl) : State := { s with host := { s.host with cpls := s.host.cpls ++ [c] } }

/-- The data of a completion is written to host memory once its function masters the bus (R261). -/
def cplData (s : State) (c : Cpl) : State × Cpl :=
  match c.data with
  | some (a, b) =>
    if tget false s.host.busMaster (setOwner s c.set, 0) then (s.emit (.hostWrite a b), { c with data := none }) else (s, c)
  | none => (s, c)

/-- A completion's entry is written as far as its ring runs and has a free slot; a disabled ring drops it (R256, R257, R265). -/
def cplOne (s : State) (c : Cpl) : State :=
  let r := cplData s c
  match r.2.entry with
  | none => if r.2.data.isSome then cplKeep r.1 r.2 else r.1
  | some v =>
    if !ringOn r.1 c.set 1 then
      let s := r.1.count .ringOffDrop c.set
      if r.2.data.isSome then cplKeep s { r.2 with entry := none } else s
    else if ringRuns r.1 c.set 1 && !ringFull r.1 c.set 1 then (ringWrite r.1 c.set 1 v).count .cplWritten c.set
    else cplKeep r.1 r.2

/-- Write the completions that wait, oldest first. -/
def cplFlush (s : State) (l : List Cpl) : State := l.foldl cplOne s

/-- Write the mailbox responses that wait, as far as ring 7 of set 0 runs; a disabled ring drops them (R256, R316). -/
def rspFlush (s : State) (l : List Nat) : State :=
  match l with
  | [] => s
  | v :: l =>
    let s :=
      if !ringOn s 0 7 then s.count .ringOffDrop 0
      else if ringRuns s 0 7 && !ringFull s 0 7 then (ringWrite s 0 7 v).event .RIND_EVT_mbx_done 0
      else { s with host := { s.host with rsps := s.host.rsps ++ [v] } }
    rspFlush s l

/-- Whatever waits for rings goes on, or is dropped with them. -/
def hostFlush (s : State) : State :=
  let s := cplFlush { s with host := { s.host with cpls := [] } } s.host.cpls
  rspFlush { s with host := { s.host with rsps := [] } } s.host.rsps

/-- The CPL entry of R265. `extra` holds result0 and what follows it. -/
def cplEntry (index opcode status reason version time extra : Nat) : Nat :=
  index % 2 ^ 32 + opcode * 2 ^ 32 + status * 2 ^ 40 + reason * 2 ^ 48 + version % 2 ^ 16 * 2 ^ 64 +
    time * 2 ^ 96 + extra

/-- Remove a descriptor's work: its reserved CPL slot is used or returned (R265). -/
def workDrop (s : State) (set ring index : Nat) : State :=
  { s with host := { s.host with work := s.host.work.filter (fun w => !(w.set == set && w.ring == ring && w.index == index)) } }

/-- The work of a descriptor. -/
def workOf (s : State) (set ring index : Nat) : Option Work :=
  s.host.work.find? (fun w => w.set == set && w.ring == ring && w.index == index)

/-- Replace the work of a descriptor. -/
def workSet (s : State) (w : Work) : State :=
  let l := s.host.work.map (fun x => if x.set == w.set && x.ring == w.ring && x.index == w.index then w else x)
  { s with host := { s.host with work := l } }

/-- A descriptor completes: an entry unless it is quiet, and its work ends. A completion of a set that has been reset
since the fetch is dropped and counted (R271). -/
def complete (s : State) (w : Work) (opcode status reason version extra : Nat) (quiet : Bool) (data : Option (Nat × List Byte)) : State :=
  let s := workDrop s w.set w.ring w.index
  if w.lost then (if w.ring = 0 then s.count .cplLost 0 else s)
  else
    let entry := if quiet && status == 0 then none else some (cplEntry w.index opcode status reason version s.stamp32 extra)
    if entry.isNone && data.isNone then s
    else cplFlush { s with host := { s.host with cpls := [] } } (s.host.cpls ++ [⟨w.set, entry, data⟩])

/-- A CMD descriptor completes (R262, R265). -/
def cmdComplete (s : State) (w : Work) (status reason version extra : Nat) : State :=
  complete s w (w.desc % 256) status reason version extra (bits w.desc 8 1 == 1) none

/-- A CMD descriptor completes with OK after its data has been written at its data_addr (R265). -/
def cmdData (s : State) (w : Work) (version extra : Nat) (b : List Byte) : State :=
  complete s w (w.desc % 256) 0 0 version extra (bits w.desc 8 1 == 1) (some (bits w.desc 64 64, b))

/-- An INJ descriptor completes; with status OK only if cpl_req or a stamp is asked for (R269, R270). -/
def injComplete (s : State) (w : Work) (status reason extra : Nat) : State :=
  complete s w 0x80 status reason 0 extra (bits w.desc 342 1 == 0) none

/-- The CPL result words of a transmit stamp in 2^-16 ns and its epoch (R265). -/
def stampExtra (t16 epoch : Nat) : Nat :=
  t16 / 65536 / 1000000000 % 2 ^ 48 * 2 ^ 128 + epoch * 2 ^ 176 + t16 / 65536 % 1000000000 * 2 ^ 192 + t16 % 65536 * 2 ^ 224

/-! ### Descriptors that go on when their ring starts anew (R256, R271) -/

/-- A descriptor of a ring that has been reset or enabled again is told from its new descriptors by an index raised by 2^32 (log entry
34). -/
def oldIndex (set : Nat) (x : Nat × Nat) : Nat × Nat := if x.1 = set then (x.1, x.2 + 2 ^ 32) else x

/-- A waiter of such a ring. -/
def oldWaiter (set : Nat) (w : Waiter) : Waiter :=
  match w with
  | .cmd a b => .cmd (oldIndex set (a, b)).1 (oldIndex set (a, b)).2
  | w => w

/-- The work of a set's ring under the raised indices; `lost` where the set has been reset. -/
def workRelabel (s : State) (set k : Nat) (lost : Bool) : State :=
  let f (w : Work) : Work := if w.set = set ∧ w.ring = k then { w with index := w.index + 2 ^ 32, lost := w.lost || lost } else w
  { s with host := { s.host with work := s.host.work.map f } }

/-- Every reference to the descriptors of a set's CMD ring. -/
def cmdRelabel (s : State) (set : Nat) (lost : Bool) : State :=
  let s := workRelabel s set 0 lost
  let f := oldIndex set
  let miss : Option Miss → Option Miss := fun v => v.map (fun m => { m with waiting := m.waiting.map (oldWaiter set) })
  let reqs : List Request → List Request := fun l => l.map (fun r => { r with waiter := oldWaiter set r.waiter })
  let task : Option Task → Option Task := fun v => v.map (fun t => { t with cmd := t.cmd.map f })
  let job : ChunkJob → ChunkJob := fun j =>
    match j.src with
    | .cmd a b => { j with src := .cmd (f (a, b)).1 (f (a, b)).2 }
    | _ => j
  { s with
    skim := { s.skim with misses := tmap none (fun _ v => miss v) s.skim.misses,
                          requests := tmap [] (fun _ v => reqs v) s.skim.requests },
    churn := { s.churn with tasks := tmap none (fun _ v => task v) s.churn.tasks, publishers := s.churn.publishers.map f },
    images := { s.images with jobs := s.images.jobs.map job } }

/-- Every reference to the descriptors of a set's INJ ring. -/
def injRelabel (s : State) (set : Nat) (lost : Bool) : State :=
  let s := workRelabel s set 3 lost
  let frame : Frame → Frame := fun v =>
    { v with inj := v.inj.map (fun r => if r.set = set then { r with index := r.index + 2 ^ 32 } else r) }
  let wait (x : InjWait) : InjWait := if x.set = set then { x with index := x.index + 2 ^ 32 } else x
  { s with frames := s.frames.map (fun e => (e.1, frame e.2)),
           buffers := { s.buffers with injWait := s.buffers.injWait.map wait } }

end Sys2Proof.Machine
end

