-- ==== Sys2Proof/Machine/FrameOps.lean ====
section
/-! DEFINITION. Frames, ports and whole-frame buffers as every block uses them: what a port is, taking and releasing a
buffer, ingress accounting and PFC decisions, drops, drop samples and punts (R29, R194 to R204, R297, R66). -/

namespace Sys2Proof.Machine

/-! ### Frames -/

/-- A frame by its number. -/
def State.frame? (s : State) (id : Nat) : Option Frame :=
  (s.frames.find? (fun e => e.1 == (id, 0))).map (fun e => e.2)

/-- A frame by its number; an absent frame reads as an empty one. -/
def State.frame (s : State) (id : Nat) : Frame := (s.frame? id).getD {}

/-- The frame's tenant, fixed at step 3; none: it has none yet (R18, R305). -/
def Frame.ten (f : Frame) : Option Nat := if f.tagged then some f.tenant else none

/-- Put a frame. -/
def State.setFrame (s : State) (id : Nat) (f : Frame) : State := { s with frames := tput s.frames (id, 0) f }

/-- Change a frame that is in the device. -/
def State.modFrame (s : State) (id : Nat) (g : Frame → Frame) : State :=
  match s.frame? id with
  | some f => s.setFrame id (g f)
  | none => s

/-- Take a new frame number. -/
def State.newFrame (s : State) (f : Frame) : State :=
  { s with frames := tput s.frames (s.nextFrame, 0) f, nextFrame := s.nextFrame + 1 }

/-- The frame has left the device. -/
def State.delFrame (s : State) (id : Nat) : State :=
  { s with frames := tdel s.frames (id, 0), punts := s.punts.filter (fun p => p.frame ≠ id) }

/-! ### Ports (R28, R29, R34) -/

/-- The beyond-register state of a port. -/
def State.port (s : State) (q : Nat) : PortSt := tget {} s.ports (q, 0)

/-- Replace it. -/
def State.setPort (s : State) (q : Nat) (p : PortSt) : State := { s with ports := tset {} s.ports (q, 0) p }

/-- Lanes of the port that starts at a lane; 0: none starts there (OCTET_LAYOUT.start_width). -/
def portWidth (s : State) (q : Nat) : Nat := [0, 1, 2, 4, 8].getD (s.fget .OCTET_LAYOUT_start_width q) 0

/-- MAC rate per lane in Gb/s (R28). -/
def laneGbps (s : State) (q : Nat) : Nat := [200, 100, 50].getD (s.fget .OCTET_LAYOUT_lane_rate q) 0

/-- MAC rate of a port in Gb/s. -/
def portGbps (s : State) (q : Nat) : Nat := portWidth s q * laneGbps s q

/-- A port number is in use (R29, R31). -/
def portExists (s : State) (q : Nat) : Bool := if q < 256 then portWidth s q != 0 else q < 273

/-- A front-panel port is declared up (R34). -/
def portUp (s : State) (q : Nat) : Bool := s.fbit .PORT_STATUS_link_up q

/-- Declared up, with no HOLD and no flush. -/
def portClear (s : State) (q : Nat) : Bool :=
  portUp s q && !s.fbit .PORT_STATUS_hold_active q && !s.fbit .PORT_STATUS_flushing q

/-- port_transmitting of R229 and R238, with R362: port 256 always transmits (R31). -/
def portTransmitting (s : State) (q : Nat) : Bool :=
  if q = 256 then true
  else q < 256 && portExists s q && portClear s q && !s.fbit .PORT_TEST_gen_en q && s.fget .PORT_TEST_loopback q != 2

/-- ns taken by a count of quanta of 512 bit times at a port's MAC rate (R43). -/
def quantaNs (s : State) (q n : Nat) : Nat := n * 512 / portGbps s q

/-! ### PFC decisions (R199, R392) -/

/-- The classes that a port maps to a PFC priority (R42). -/
def prioClasses (s : State) (q p : Nat) : List Nat :=
  (List.range 16).filter (fun c => s.fget .PFC_MAP_class_prio (q * 16 + c) = p)

/-- The ingress count of a port and class, in cells. -/
def ingCount (s : State) (q c : Nat) : Nat := tget 0 s.buffers.count (q, c)

/-- A PFC frame is owed for priorities of a port; different priorities of one cycle share a frame (R199). A port that cannot send
stores none (R392). -/
def pfcOwe (s : State) (q pause resume : Nat) : State :=
  if !portClear s q then s
  else
    let l := tget [] s.buffers.owed (q, 0)
    let l' := match l.getLast? with
      | some e => if e.1 = s.now ∧ (e.2.1 ||| e.2.2) &&& (pause ||| resume) = 0 then l.dropLast ++ [(e.1, e.2.1 ||| pause, e.2.2 ||| resume)] else l ++ [(s.now, pause, resume)]
      | none => [(s.now, pause, resume)]
    { s with buffers := { s.buffers with owed := tset [] s.buffers.owed (q, 0) l' } }

/-- Set the paused mark of a port's priority; no refresh is due from before (R199). -/
def setPaused (s : State) (q p : Nat) (b : Bool) : State :=
  { s with buffers := { s.buffers with paused := tset false s.buffers.paused (q, p) b, refresh := tset 0 s.buffers.refresh (q, p) 0 } }

/-- Priority p of a port is judged against the ingress counts: a crossing pauses or resumes it (R199). -/
def pfcJudge (s : State) (q p : Nat) : State :=
  let cs := (prioClasses s q p).filter (fun c => s.fbit .ING_ACCT_pfc_gen (q * 16 + c))
  let above := cs.any (fun c => s.fget .ING_ACCT_xoff (q * 16 + c) < ingCount s q c)
  let below := cs.all (fun c => ingCount s q c ≤ s.fget .ING_ACCT_xon (q * 16 + c))
  if tget false s.buffers.paused (q, p) then
    if below then pfcOwe (setPaused s q p false) q 0 (2 ^ p) else s
  else if above then pfcOwe ((setPaused s q p true).count .pfcPauseEvents q) q (2 ^ p) 0
  else s

/-- Change an ingress count and judge its priority. -/
def ingAdd (s : State) (q c : Nat) (v : Nat) : State :=
  let s := { s with buffers := { s.buffers with count := tset 0 s.buffers.count (q, c) v } }
  let s := s.gmax .gIngCellsPeak (q * 16 + c) v
  pfcJudge s q (s.fget .PFC_MAP_class_prio (q * 16 + c))

/-- The empty-pool action of a class (R199). -/
def emptyPool (s : State) (q c : Nat) : State :=
  let p := s.fget .PFC_MAP_class_prio (q * 16 + c)
  if s.fbit .ING_ACCT_empty_pfc (q * 16 + c) ∧ portClear s q ∧ tget 0 s.buffers.emptyUntil (q, p) ≤ s.now then
    let t := s.now + quantaNs s q (s.fget .PFC_TX_refresh_quanta q)
    let s := { s with buffers := { s.buffers with emptyUntil := tset 0 s.buffers.emptyUntil (q, p) t } }
    pfcOwe (s.count .pfcPauseEvents q) q (2 ^ p) 0
  else s

/-! ### Buffers (R192 to R204) -/

/-- The buffer at a pool and index, when it is allocated or retired. -/
def State.buf (s : State) (b : Nat × Nat) : Option Buf := tget none s.buffers.bufs b

/-- Replace a buffer's state. -/
def State.setBuf (s : State) (b : Nat × Nat) (v : Option Buf) : State :=
  { s with buffers := { s.buffers with bufs := tset none s.buffers.bufs b v } }

/-- The smallest pool whose buffer holds a length (R194). -/
def poolFor (len : Nat) : Nat := if len ≤ 256 then 0 else if len ≤ 1024 then 1 else if len ≤ 2560 then 2 else 3

/-- Set the count of a pool's free buffers, and its low-water mark (R192). -/
def setPoolFree (s : State) (pool n : Nat) : State :=
  let s := s.fset .POOL_STATUS_free pool n
  if n < s.fget .POOL_STATUS_free_min pool then s.fset .POOL_STATUS_free_min pool n else s

/-- Take a buffer of a pool for a frame. Which free buffer is taken the spec leaves open: a free choice among the free
ones (log entry 6). -/
def bufTake (s : State) (id pool owner : Nat) (charge : Option (Nat × Nat)) : State :=
  let taken := (s.buffers.bufs.filter (fun e => e.1.1 = pool)).map (fun e => e.1.2)
  let (r, s) := s.draw
  let i := kthFree (r % (s.fget .POOL_STATUS_buffers pool - taken.length)) taken
  let s := s.setBuf (pool, i) (some ⟨id, owner, 1, false⟩)
  let s := setPoolFree s pool (s.fget .POOL_STATUS_free pool - 1)
  let s := s.fset .POOL_QUOTA_used (owner * 4 + pool) (s.fget .POOL_QUOTA_used (owner * 4 + pool) + 1)
  let s := (s.modFrame id (fun f => { f with buf := some (pool, i), owner := owner, charged := charge.isSome })).count .poolAlloc pool 1 (s.frame id).ten
  match charge with
  | some (q, c) => ingAdd s q c (ingCount s q c + poolCells pool)
  | none => s

/-- Check 2 and check 3 of R194 for a requester and a pool. -/
def bufQuotaOk (s : State) (owner pool : Nat) : Bool :=
  decide (s.fget .POOL_QUOTA_used (owner * 4 + pool) < s.fget .POOL_QUOTA_limit (owner * 4 + pool))

/-- The charges of a buffer are released: the quota, and the ingress cells of its frame (R196, R199). -/
def bufUncharge (s : State) (b : Nat × Nat) (v : Buf) : State :=
  let s := s.fset .POOL_QUOTA_used (v.owner * 4 + b.1) (s.fget .POOL_QUOTA_used (v.owner * 4 + b.1) - 1)
  let f := s.frame v.frame
  if f.charged then
    ingAdd (s.modFrame v.frame (fun f => { f with charged := false })) v.owner f.ingClass
      (ingCount s v.owner f.ingClass - poolCells b.1)
  else s

/-- Log a refused free (R203, BUF_LOG). -/
def bufLog (s : State) (b : Nat × Nat) (requester owner kind : Nat) : State :=
  let s := s.fset .BUF_LOG_index 0 b.2
  let s := s.fset .BUF_LOG_pool 0 b.1
  let s := s.fset .BUF_LOG_requester 0 requester
  let s := s.fset .BUF_LOG_owner 0 owner
  let s := s.fset .BUF_LOG_kind 0 kind
  s.fset .BUF_LOG_stamp 0 s.stamp32

/-- No frame names a freed buffer any more. -/
def bufForget (s : State) (b : Nat × Nat) : State :=
  { s with frames := s.frames.map (fun e => if e.2.buf = some b then (e.1, { e.2 with buf := none }) else e) }

/-- A free or release names a buffer and the owner the freeing block holds (R203). -/
def bufRelease (s : State) (b : Nat × Nat) (requester : Nat) : State :=
  match s.buf b with
  | none => (bufLog (s.count .doubleFree 0) b requester 0 0).event .BUF_STATUS_double_free_event 0
  | some v =>
    if v.retired then s
    else if v.refs = 0 then (bufLog (s.count .doubleFree 0) b requester v.owner 0).event .BUF_STATUS_double_free_event 0
    else if v.owner ≠ requester then
      (bufLog (s.count .foreignFree 0) b requester v.owner 1).event .BUF_STATUS_foreign_free_event 0
    else if v.refs ≤ 1 then
      let s := bufForget (bufUncharge (s.setBuf b none) b v) b
      (s.fset .POOL_STATUS_free b.1 (s.fget .POOL_STATUS_free b.1 + 1)).count .poolFree b.1 1 (s.frame v.frame).ten
    else s.setBuf b (some { v with refs := v.refs - 1 })

/-- A frame leaves while a mirror copy of an earlier pass still holds its buffer: the copy's frame record carries the
charge from then on (R204). -/
def bufHeir (s : State) (id : Nat) (f : Frame) : State :=
  match f.buf with
  | none => s
  | some b =>
    match s.buf b, s.frames.find? (fun e => e.2.buf == some b && e.1.1 != id) with
    | some v, some e =>
      if v.frame = id then
        (s.setBuf b (some { v with frame := e.1.1 })).setFrame e.1.1 { e.2 with charged := f.charged, ingClass := f.ingClass }
      else s
    | _, _ => s

/-- One holder of a frame's buffer lets it go (R204); the frame leaves the device with its last holder. -/
def frameRelease1 (s : State) (id : Nat) : State :=
  let f := s.frame id
  let s := match f.buf with
    | some b => bufRelease s b f.owner
    | none => s
  if f.copies ≤ 1 then bufHeir (s.delFrame id) id f else s.modFrame id (fun f => { f with copies := f.copies - 1 })

/-! ### Drops, samples and punts -/

/-- The body of a DROP_SAMPLE record (R297). -/
def dropBody (f : Frame) (reason outPort cls fromRoutine weight : Nat) : Nat :=
  reason * 2 ^ 64 + f.ingPort * 2 ^ 72 + outPort * 2 ^ 81 + cls * 2 ^ 90 + f.tenant * 2 ^ 94 +
    f.bytes.length * 2 ^ 106 + f.pass * 2 ^ 120 + fromRoutine * 2 ^ 122 + weight * 2 ^ 128 +
    leNat (slice f.bytes 0 40) * 2 ^ 176

/-- A frame dropped with a reason is sampled with probability 1 / one_in (R297). `out` is its egress port and class. -/
def dropSample (s : State) (f : Frame) (reason : Nat) (out : Option (Nat × Nat)) : State :=
  let n := s.fget .DROP_SAMPLE_CFG_one_in reason
  if n = 0 ∨ reason = 0 then s
  else
    let (r, s) := s.draw
    if r % n = 0 then
      wheyEmit s 7 (dropBody f reason ((out.map (fun p => p.1)).getD 0x1FF) ((out.map (fun p => p.2)).getD f.ingClass) 0 n)
        s.stamp32 f.tenant
    else s

/-- A DIRECT INJ frame that egress drops completes with REFUSED and the reason (R270). -/
def injEnd (s : State) (f : Frame) (status reason extra : Nat) : State :=
  match f.inj with
  | none => s
  | some r =>
    match workOf s r.set 3 r.index with
    | some w => injComplete s w status reason extra
    | none => s

/-- A frame is dropped with a reason: sampled, an INJ completion written, its buffer reference released. A place it held
becomes a hole (R20). -/
def dropFrame (s : State) (id reason : Nat) (out : Option (Nat × Nat)) : State :=
  let f := s.frame id
  frameRelease1 (injEnd (dropSample s f reason out) f 7 reason 0) id

/-- Where a new punt stands among those of its cycle: by slice, then by arrival place, then the rest (R66). -/
def puntBefore (a b : Punt) : Bool :=
  a.since == b.since &&
    (a.slice < b.slice || (a.slice == b.slice &&
      match a.place, b.place with
      | some x, some y => x < y
      | some _, none => true
      | none, _ => false))

/-- Insert a punt in the order of R66. -/
def puntInsert (l : List Punt) (p : Punt) : List Punt :=
  match l with
  | [] => [p]
  | q :: l => if puntBefore p q then p :: q :: l else q :: puntInsert l p

/-- A punt is raised with a reason (R66): it waits for delivery, and its frame takes no further step. -/
def raisePunt (s : State) (id reason : Nat) (edited : Option (List Byte)) : State :=
  let f := s.frame id
  let p : Punt := { frame := id, reason := reason, since := s.now, slice := f.slice, place := f.place, edited := edited }
  let s := { s with punts := puntInsert s.punts p }
  s.modFrame id (fun f => { f with stage := .released, copies := max 1 f.copies })

/-! ### Bytes a frame is made of -/

/-- The EtherType position of a frame: 16 behind one tag, else 12. -/
def etherOff (b : List Byte) : Nat :=
  let t := beAt b 12 2
  if t = 0x8100 ∨ t = 0x88A8 then 16 else 12

end Sys2Proof.Machine
end

