-- ==== Sys2Proof/Machine/QueueOps.lean ====
section
/-! DEFINITION. Egress queues: depth, Vat segments, the placement rules of R205, ECN marking (R208), watermarks (R298),
launch times (R215, R217), flushes (R45) and moves (R48). -/

namespace Sys2Proof.Machine

/-- The queue of a port and class. -/
def State.queue (s : State) (q c : Nat) : Queue := tget {} s.egress.queues (q, c)

/-- Replace it. -/
def State.setQueue (s : State) (q c : Nat) (v : Queue) : State :=
  { s with egress := { s.egress with queues := tset {} s.egress.queues (q, c) v } }

/-- The entry's frame is in its buffer. -/
def Copy.inBuf (e : Copy) : Bool := e.loc == .onDie || e.loc == .vatWait

/-- The entry belongs to the Vat part. -/
def Copy.inVat (e : Copy) : Bool := e.loc == .vatWait || e.loc == .vat || e.loc == .reading

/-- On-die occupancy O in cells, frames awaiting their Vat write included (R205). -/
def Queue.cells (v : Queue) : Nat := ((v.entries.filter Copy.inBuf).map (fun e => e.cells)).sum

/-- Stored bytes of the Vat part (R208). -/
def Queue.vatBytes (v : Queue) : Nat :=
  ((v.entries.filter (fun e => e.loc == .vat || e.loc == .reading)).map (fun e => e.stored)).sum

/-- Usable bytes of a Vat segment behind its 16-byte header (R206). -/
def segBytes : Nat := 65520

/-- Segments that a chain holds from its read position to its tail, the partly filled tail included (R206). -/
def segsOf (head tail : Nat) : Nat := (tail + segBytes - 1) / segBytes - head / segBytes

/-- Segments the queue holds. -/
def Queue.segs (v : Queue) : Nat := segsOf v.vatHead v.vatTail

/-- A spilling queue with nothing left in the Vat is ON_DIE again (R207). -/
def Queue.trim (v : Queue) : Queue :=
  if v.spilling && !v.entries.any Copy.inVat then { v with spilling := false, vatHead := 0, vatTail := 0 } else v

/-- Queue depth D in KiB (R208). -/
def Queue.depth (v : Queue) : Nat := (v.cells * 256 + v.vatBytes) / 1024

/-- Segments free in the Vat. -/
def vatFree (s : State) : Nat := s.fget .VAT_STATUS_segments_free 0

/-- Set the count of free segments, and its low-water mark (VAT_STATUS). -/
def setVatFree (s : State) (n : Nat) : State :=
  let s := s.fset .VAT_STATUS_segments_free 0 n
  if n < s.fget .VAT_STATUS_free_min 0 then s.fset .VAT_STATUS_free_min 0 n else s

/-- Stored size of a frame in the Vat (R206). -/
def storedSize (len : Nat) : Nat := (len + 3) / 4 * 4 + 16

/-- Leave `n` bytes of the chain without a frame behind the last entry of the Vat part that stays before them. -/
def addSkip (l : List Copy) (n : Nat) : List Copy × Nat :=
  match l.reverse with
  | [] => (l, n)
  | e :: r => if e.inVat then (r.reverse ++ [{ e with skip := e.skip + n }], 0) else (l, n)

/-- One entry of a queue that is taken over, or left out: the bytes of a frame that awaits its Vat write are never written, those of
one in the Vat stay in the chain behind the entry before it, or are passed over at its head (R206, R207). -/
def Queue.pass (p : Copy → Bool) (v : Queue) (e : Copy) : Queue :=
  if !p e then { v with entries := v.entries ++ [e] }
  else if e.inVat then
    let dead := if e.loc = .vatWait then e.skip else e.stored + e.skip
    let r := addSkip v.entries dead
    { v with entries := r.1, vatHead := v.vatHead + r.2, vatTail := if e.loc = .vatWait then v.vatTail - e.stored else v.vatTail }
  else v

/-- The queue without the entries that a test names. -/
def Queue.without (v : Queue) (p : Copy → Bool) : Queue :=
  Queue.trim (v.entries.foldl (Queue.pass p) { v with entries := [] })

/-- A queue's DWRR deficit is 0 (R213). -/
def deficitClear (s : State) (q c : Nat) : State :=
  { s with egress := { s.egress with deficit := tset 0 s.egress.deficit (q, c) 0 } }

/-- Put a queue, with its Vat segments accounted and its peaks kept. A queue that empties loses its deficit (R213). -/
def putQueue (s : State) (q c : Nat) (v : Queue) : State :=
  let old := (s.queue q c).segs
  let s := s.setQueue q c v
  let s := if v.entries.isEmpty then deficitClear s q c else s
  let s := if v.segs = old then s else setVatFree s (vatFree s + old - v.segs)
  let s := s.gmax .gOnDiePeak (q * 16 + c) v.cells
  let s := s.gmax .gVatPeak (q * 16 + c) v.segs
  if tget false s.egress.wmOff (q, c) ∧ v.depth < s.fget .QWM_wm_kib (q * 16 + c) / 2 then
    { s with egress := { s.egress with wmOff := tset false s.egress.wmOff (q, c) false } }
  else s

/-- The watermark detector judges the depth at an enqueue (R298). -/
def wmJudge (s : State) (q c : Nat) : State :=
  let v := s.queue q c
  let i := q * 16 + c
  if s.fbit .QWM_en i ∧ tget false s.egress.wmOff (q, c) = false ∧ s.fget .QWM_wm_kib i ≤ v.depth then
    let s := { s with egress := { s.egress with wmOff := tset false s.egress.wmOff (q, c) true } }
    wheyEmit s 8 (q * 2 ^ 64 + c * 2 ^ 73 + bit v.spilling * 2 ^ 77 + v.depth * 2 ^ 80 + s.fget .QWM_wm_kib i * 2 ^ 104)
      s.stamp32 0
  else s

/-- The ECN field of a frame under its last profile: none when it has no IP header (R208). -/
def ecnOf (f : Frame) : Option Nat :=
  match f.l3.2 with
  | 1 => some (byteAt f.bytes (f.l3.1 + 1) % 4)
  | 2 => some (byteAt f.bytes (f.l3.1 + 1) / 16 % 4)
  | _ => none

/-- A frame is judged for ECN at enqueue: the draw is a free value (R208; log entry 6). -/
def ecnJudge (s : State) (f : Frame) (q c : Nat) : Bool × State :=
  let i := q * 16 + c
  let d := (s.queue q c).depth
  let lo := s.fget .EGR_Q_ecn_min i
  let hi := s.fget .EGR_Q_ecn_max i
  if s.fbit .EGR_Q_ecn_en i ∧ (ecnOf f = some 1 ∨ ecnOf f = some 2) then
    if hi ≤ d then (true, s.count .ecnMarked i 1 f.ten)
    else if d < lo then (false, s)
    else
      let (r, s) := s.draw
      if r % (hi - lo) < d - lo then (true, s.count .ecnMarked i 1 f.ten) else (false, s)
  else (false, s)

/-- The launch instant in device ns that has the given low seconds within 2^31 s of device time (R215). -/
def launchInstant (s : State) (sec ns : Nat) : Int :=
  let cur : Int := (s.devNs / 1000000000 : Nat)
  let base := cur - cur % (2 ^ 32 : Int) + sec
  let t := if cur + (2 ^ 31 : Int) ≤ base then base - (2 ^ 32 : Int) else if base + (2 ^ 31 : Int) < cur then base + (2 ^ 32 : Int) else base
  t * 1000000000 + ns

/-- A copy is dropped at its queue: a frame's own copy with its reason; a mirror copy releases its reference. -/
def dropCopy (s : State) (e : Copy) (q c reason : Nat) : State :=
  match e.kind with
  | .main => dropFrame s e.frame reason (some (q, c))
  | .mirror _ => frameRelease1 (dropSample s (s.frame e.frame) reason (some (q, c))) e.frame

/-- A copy's holder lets go: a copy in the Vat holds no buffer any more (R204, R206). -/
def copyEnd (s : State) (e : Copy) : State :=
  if e.inBuf then frameRelease1 s e.frame
  else if (s.frame e.frame).copies ≤ 1 then s.delFrame e.frame
  else s.modFrame e.frame (fun f => { f with copies := f.copies - 1 })

/-- A field of a class's SCHED_Q word, or of the port's SCHED_PORT word as class 16, in force: a write acts from the port's next
frame boundary (R232). -/
def schedFld (s : State) (q c : Nat) (f : Fld) : Nat :=
  match tget none s.egress.schedOld (q, c) with
  | some w => fldIn w f
  | none => s.fget f (if c = 16 then q else q * 16 + c)

/-- One bit of them. -/
def schedBit (s : State) (q c : Nat) (f : Fld) : Bool := schedFld s q c f == 1

/-- Place a copy in its queue under the rows of R205. -/
def place (s : State) (e : Copy) (q c : Nat) : State :=
  let v := s.queue q c
  let i := q * 16 + c
  let o := v.cells + e.cells
  let tn := (s.frame e.frame).ten
  let segs := segsOf v.vatHead (v.vatTail + e.stored)
  let need := segs - v.segs
  let lim := decide (o ≤ s.fget .EGR_Q_egr_limit i)
  let vlim := decide (segs ≤ s.fget .EGR_Q_vat_limit i)
  let vfree := decide (need ≤ vatFree s)
  let toVat : Queue := { v with entries := v.entries ++ [{ e with loc := .vatWait }], spilling := true, vatTail := v.vatTail + e.stored }
  let onDie : Queue := { v with entries := v.entries ++ [{ e with loc := .onDie }] }
  if v.spilling then
    if lim && vlim && vfree then putQueue (s.count .vatIn i 1 tn) q c toVat
    else if !lim then dropCopy (s.count .egrLimitDrop i 1 tn) e q c 0x33
    else if !vlim then dropCopy (s.count .vatLimitDrop i 1 tn) e q c 0x34
    else dropCopy ((s.count .vatFullDrop i 1 tn).event .BUF_STATUS_vat_full_event 0) e q c 0x35
  else if o ≤ s.fget .EGR_Q_spill_thresh i then putQueue s q c onDie
  else if s.fbit .EGR_Q_spill_en i && lim && vlim && vfree && s.fget .VAT_CFG_vat_gib 0 != 0 then
    putQueue (s.count .vatSpillStart i 1 tn) q c toVat
  else if lim then putQueue s q c onDie
  else dropCopy (s.count .egrLimitDrop i 1 tn) e q c 0x33

/-- A port with admin_en = 1 that is not up admits arrivals under hold_admit; one with admin_en = 0 admits none, nor does one
whose domain has been switched off until admin_en = 1 is written again (R47, R391). -/
def portAdmits (s : State) (q : Nat) : Bool :=
  q == 256 || (s.fbit .PORT_CFG_admin_en q && !(s.port q).barred && (portUp s q || s.fbit .PORT_CFG_hold_admit q))

/-- Length change of the next-hop VLAN operation on a frame, after its routine edits, and of the shim (R220, R221). -/
def lenDelta (s : State) (f : Frame) : Int :=
  let vlan : Int := match f.member with
    | none => 0
    | some m =>
      let tagged := etherOff (editsOn f.bytes f f.edits).1 == 16
      match s.fget .NH_MEMBER_vlan_op m with
      | 2 => 4
      | 3 => if tagged then -4 else 0
      | _ => 0
  vlan + (if f.shim.isSome then 16 else 0)

/-- The length a copy has on the wire, FCS included (R221, R225). -/
def copyLen (s : State) (f : Frame) (k : CopyKind) : Nat :=
  let n := if f.whole then f.bytes.length else f.len
  match k with
  | .main => ((n : Int) + lenDelta s f).toNat
  | .mirror m =>
    let t := s.fget .MIRROR_SESSION_trunc_len m
    let f := { f with shim := none }
    let n := if s.fbit .MIRROR_SESSION_edited m then ((n : Int) + lenDelta s f).toNat else n
    if t ≠ 0 ∧ t < n then t else n

/-- max_frame of an egress port. -/
def egressMax (s : State) (q : Nat) : Nat := if q < 256 then (s.port q).maxFrame else 9728

/-- Enqueue one copy of a frame on a port and class (R205, R208, R217, R221, R298, R391). -/
def enqueue (s : State) (id : Nat) (k : CopyKind) (q c : Nat) (launch : Option (Nat × Nat)) : State :=
  let f := s.frame id
  let cells := match f.buf with | some b => poolCells b.1 | none => 0
  let len := copyLen s f k
  let e : Copy := { frame := id, kind := k, cells := cells, stored := storedSize (if f.whole then f.bytes.length else f.len),
                    ce := false, launch := none, late := false, loc := .onDie }
  if !portExists s q || 256 < q then
    match k with
    | .main => dropCopy s e q c 0x23
    | .mirror _ => frameRelease1 s id
  else if !portAdmits s q then dropCopy (s.count .downDrop q 1 f.ten) e q c 0x3A
  else if egressMax s q < len then dropCopy (s.count .egrMtuDrop q 1 f.ten) e q c 0x36
  else
    let timed := schedBit s q c .SCHED_Q_timed
    let t : Option Int := match launch with
      | some p => if timed then some (launchInstant s p.1 p.2) else none
      | none => none
    let bad := match launch with
      | some p => timed && (1000000000 ≤ p.2 || decide (((s.devNs + 1000 * s.fget .LAUNCH_CFG_launch_horizon_us 0 : Nat) : Int) < t.getD 0))
      | none => false
    if bad then dropCopy (s.count .launchInvalid (q * 16 + c) 1 f.ten) e q c 0x38
    else
      let s := wmJudge s q c
      let plain := match k with | .main => false | .mirror m => !s.fbit .MIRROR_SESSION_edited m
      let (ce, s) := if plain then (false, s) else ecnJudge s f q c
      place s { e with launch := t, ce := ce, late := t.isSome && s.fbit .TIME_STATUS_reepoch_pending 0 } q c

/-- A device-built frame enters a queue: it holds no buffer. The spec gives it no ingress port: a free value. -/
def enqueueBuilt (s : State) (bytes : List Byte) (q c : Nat) : State :=
  let (r, s) := s.draw
  let id := s.nextFrame
  let f : Frame := { bytes := refcs bytes, whole := true, received := false, stage := .released, copies := 1,
                     len := bytes.length, ingPort := r % 512 }
  enqueue (s.newFrame f) id .main q c none

/-- Discard the entries of a queue, oldest first, counted as a hold flush (R45 step 3b). -/
def flushEntries (s : State) (l : List Copy) (q c : Nat) : State :=
  match l with
  | [] => s
  | e :: l =>
    let f := s.frame e.frame
    let s := (s.count .holdFlushFrames q 1 f.ten).count .holdFlushBytes q f.bytes.length f.ten
    let s := dropSample s f 0x39 (some (q, c))
    let s := match e.kind with
      | .main => injEnd s f 7 0x39 0
      | .mirror _ => s
    flushEntries (copyEnd s e) l q c

/-- Flush one queue: its Vat segments are freed and it is ON_DIE. -/
def flushQueue (s : State) (q c : Nat) : State :=
  let l := (s.queue q c).entries
  flushEntries (putQueue s q c {}) l q c

/-- Flush every queue of a port. -/
def flushPort (s : State) (q : Nat) : State := (List.range 16).foldl (fun s c => flushQueue s q c) s

/-- A class of a port is paused by a received PFC or PAUSE frame (R43). -/
def classPaused (s : State) (q c : Nat) : Bool :=
  q < 256 && (s.now < tget 0 s.buffers.rxPause (q, s.fget .PFC_MAP_class_prio (q * 16 + c)) ||
    s.now < tget 0 s.buffers.rxPause (q, 8))

/-- The gate of a class is open (R219). -/
def gateOpen (s : State) (q c : Nat) : Bool :=
  q ≥ 256 || bits (tget {} s.egress.gates (q, 0)).mask c 1 == 1

end Sys2Proof.Machine
end

