-- ==== Sys2Proof/Machine/Editor.lean ====
section
/-! DEFINITION. The header editor: routine edits, next-hop rewrite, ECN, PTP, the shim and the FCS, in the order of R220. -/

namespace Sys2Proof.Machine

/-- Step 1 of R220: the routine edits in posting order, skips counted. -/
def applyEdits (s : State) (q : Nat) (f : Frame) (b : List Byte) (l : List Edit) : List Byte × State :=
  let r := editsOn b f l
  (r.1, if r.2 = 0 then s else s.count .edSkip q r.2 f.ten)

/-- The next-hop words of a member as its transmission starts: word 0, word 8 and the source MAC (R229). -/
def nhWords (s : State) (m : Nat) : Nat × Nat × Nat :=
  (s.fget .NH_MEMBER_dmac m,
   s.fget .NH_MEMBER_vid m + s.fget .NH_MEMBER_vlan_op m * 2 ^ 12 + s.fget .NH_MEMBER_pcp m * 2 ^ 14 + s.fget .NH_MEMBER_l2_en m * 2 ^ 17,
   s.fget .SMAC_mac (s.fget .NH_MEMBER_smac_idx m))

/-- Step 2 of R220: MAC addresses and the VLAN operation; the move of the offsets, and whether it was a noop. -/
def nextHop (b : List Byte) (nh : Nat × Nat × Nat) : List Byte × Int × Bool :=
  let b := if bits nh.2.1 17 1 = 1 then putBytes (putBytes b 0 (beBytes 6 nh.1)) 6 (beBytes 6 nh.2.2) else b
  let t := beAt b 12 2
  let tagged := t = 0x8100 ∨ t = 0x88A8
  let vid := nh.2.1 % 4096
  match bits nh.2.1 12 2 with
  | 1 => if tagged then (putBytes b 14 (beBytes 2 (beAt b 14 2 / 4096 * 4096 + vid)), 0, false) else (b, 0, true)
  | 2 => (insBytes b 12 (beBytes 2 0x8100 ++ beBytes 2 (bits nh.2.1 14 3 * 8192 + vid)), 4, false)
  | 3 => if tagged then (cutBytes b 12 4, -4, false) else (b, 0, true)
  | _ => (b, 0, false)

/-- An offset moved by what step 2 inserted or removed (R220). -/
def moved (d : Int) (o : Nat × Nat) : Nat × Nat := (((o.1 : Int) + d).toNat, o.2)

/-- Step 3 of R220: CE is set, with the IPv4 header checksum (R208). -/
def markCe (b : List Byte) (l3 : Nat × Nat) : List Byte :=
  match l3.2 with
  | 1 => fixIpv4 b (putBytes b (l3.1 + 1) [BitVec.ofNat 8 (byteAt b (l3.1 + 1) ||| 3)]) l3.1
  | 2 => putBytes b (l3.1 + 1) [BitVec.ofNat 8 (byteAt b (l3.1 + 1) ||| 0x30)]
  | _ => b

/-- Where the PTP header of an event message starts under a PTP_PORT word, and whether it lies behind UDP (R222). -/
def ptpHeader (w : Nat) (b : List Byte) (l4 : Nat × Nat) : Option (Nat × Bool) :=
  let eo := etherOff b
  let l2 := fldIn w .PTP_PORT_tc_l2 == 1 && beAt b eo 2 == 0x88F7
  let udp := fldIn w .PTP_PORT_tc_udp == 1 && l4.2 == 2 && beAt b (l4.1 + 2) 2 == 319
  if l2 && byteAt b (eo + 2) % 16 < 4 then some (eo + 2, false)
  else if udp && byteAt b (l4.1 + 8) % 16 < 4 then some (l4.1 + 8, true)
  else none

/-- Picoseconds in units of 2^-16 ns, rounded down (DESIGN CHOICE, log entry 10). -/
def psTo16 (ps : Int) : Int := Int.fdiv (ps * 65536) 1000

/-- Write a field of a PTP header, with the UDP checksum updated (R223). -/
def ptpPut (b : List Byte) (udp : Bool) (l4 : Nat × Nat) (off : Nat) (v : List Byte) : List Byte :=
  let n := putBytes b off v
  if udp && beAt b (l4.1 + 6) 2 != 0 then
    let c := csumRegion b n (off - (off - l4.1) % 2) (v.length + 2) (l4.1 + 6) (beAt n (l4.1 + 6) 2)
    putBytes n (l4.1 + 6) (beBytes 2 (if c = 0 then 0xFFFF else c))
  else n

/-- The transparent-clock addend of R223 under the egress port's PTP_PORT word, in 2^-16 ns. -/
def tcAddend (w : Nat) (f : Frame) (stamp typ : Nat) : Int :=
  let res : Int := (((stamp : Int) - f.stamp) % (2 ^ 48 : Int))
  let asymIn := psTo16 (signed f.asymIn 16)
  let asymOut := psTo16 (signed (fldIn w .PTP_PORT_asym_ps) 16)
  if typ = 0 ∨ typ = 3 then res - asymIn else res + asymOut

/-- Step 4 of R220 under a PTP_PORT word: correctionField by the transparent clock, or originTimestamp for a one-step INJ frame
(R223). -/
def ptpEdit (s : State) (q w : Nat) (f : Frame) (b : List Byte) (l4 : Nat × Nat) (stamp : Nat) : List Byte × State :=
  match ptpHeader w b l4 with
  | none => (b, s)
  | some (h, udp) =>
    let oneStep := match f.inj with | some r => r.oneStep | none => false
    if oneStep then
      let ns := stamp / 65536
      (ptpPut b udp l4 (h + 34) (beBytes 6 (ns / 1000000000) ++ beBytes 4 (ns % 1000000000)), s.count .ptpOneStep q 1 f.ten)
    else if fldIn w .PTP_PORT_tc_en == 1 && f.received then
      let c : Int := beAt b (h + 8) 8
      let v := ((c + tcAddend w f stamp (byteAt b h % 16)) % (2 ^ 64 : Int)).toNat
      (ptpPut b udp l4 (h + 8) (beBytes 8 v), s.count .ptpTcUpdated q 1 f.ten)
    else (b, s)

/-- The sixteen shim bytes (R236). -/
def shimBytes (m : Shim) (nextType : Nat) : List Byte :=
  [BitVec.ofNat 8 (16 + m.typ), BitVec.ofNat 8 (bit m.pinned * 128)] ++ beBytes 2 (m.cls * 4096 + m.src) ++
    beBytes 2 (m.hops * 4096 + m.dst) ++ beBytes 3 m.seq ++ beBytes 1 m.epoch ++ beBytes 4 m.sendNs ++ beBytes 2 nextType

/-- Step 5 of R220: the shim goes in at byte 12 (R236). -/
def putShim (s : State) (b : List Byte) (m : Shim) : List Byte :=
  insBytes (putBytes b 12 (beBytes 2 (s.fget .FAB_CFG_ethertype 0))) 14 (shimBytes m (beAt b 12 2))

/-- Every change of R220 to a frame that leaves by a port at a transmit stamp, under a PTP_PORT word. -/
def editMain (s : State) (q w : Nat) (f : Frame) (ce : Bool) (nh : Option (Nat × Nat × Nat)) (stamp : Nat) : List Byte × State :=
  let (b, s) := applyEdits s q f f.bytes f.edits
  let (b, d, noop) := match nh with
    | some w => nextHop b w
    | none => (b, 0, false)
  let s := if noop then s.count .vlanNoop q 1 f.ten else s
  let l3 := moved d f.l3
  let l4 := moved d f.l4
  let b := if ce then markCe b l3 else b
  let (b, s) := if q < 256 then ptpEdit s q w f b l4 stamp else (b, s)
  let b := match f.shim with
    | some m => putShim s b (if f.transit then m else { m with sendNs := stamp / 65536 % 2 ^ 32 })
    | none => b
  (refcs b, s)

/-- A mirror copy: as stored, or with steps 1 to 3, cut to its session's length with a new FCS (R225). -/
def editMirror (s : State) (q : Nat) (f : Frame) (m : Nat) (ce : Bool) (nh : Option (Nat × Nat × Nat)) : List Byte × State :=
  let (b, s) :=
    if s.fbit .MIRROR_SESSION_edited m then
      let (b, s) := applyEdits s q f f.bytes f.edits
      let (b, d, _) := match nh with
        | some w => nextHop b w
        | none => (b, 0, false)
      (refcs (if ce then markCe b (moved d f.l3) else b), s)
    else (f.bytes, s)
  let t := s.fget .MIRROR_SESSION_trunc_len m
  if t ≠ 0 ∧ t < b.length then (b.take (t - 4) ++ fcsOf (b.take (t - 4)), s) else (b, s)

end Sys2Proof.Machine
end

