-- ==== Sys2Proof/Machine/Release.lean ====
section
/-! DEFINITION. Release of a frame to egress: its copies and reference count (R204, R225), the next-hop choice (R229), the
fabric uplink and sequence number (R237 to R240, R248), and the ends of frames before release. -/

namespace Sys2Proof.Machine

/-! ### Next-hop groups (R229) -/

/-- A member is usable when its port is transmitting (R229). -/
def memberUsable (s : State) (m : Nat) : Bool :=
  s.fbit .NH_MEMBER_valid m && portTransmitting s (s.fget .NH_MEMBER_port m)

/-- The member that R229 chooses for a group and a hash, or none. -/
def chooseMember (s : State) (g sel : Nat) : Option Nat :=
  let count := s.fget .NH_GROUP_count g
  let base := s.fget .NH_GROUP_member_base g
  let idx := sel * count / 65536
  if s.fbit .NH_GROUP_valid g = false then none
  else if s.fbit .NH_GROUP_skip_down g then
    ((List.range count).map (fun k => base + (idx + k) % count)).find? (memberUsable s)
  else if s.fbit .NH_MEMBER_valid (base + idx) then some (base + idx) else none

/-- The hash bits that choose a member (R229). -/
def memberSel (f : Frame) : Nat := if f.lbEn then bits f.lbHash 32 16 else bits f.hash 48 16

/-! ### Fabric uplinks (R238, R239, R248) -/

/-- An uplink is eligible for a destination (R237, R238). -/
def uplinkEligible (s : State) (d u : Nat) : Bool :=
  let q := s.fget .FAB_UPLINK_port u
  s.fbit .FAB_UPLINK_valid u && bits (s.fget .FAB_ROUTE_uplink_mask d) u 1 == 1 && s.fbit .FAB_ROUTE_valid d &&
    q < 256 && s.fbit .PORT_CFG_fabric_port q && portTransmitting s q

/-- The eligible uplinks of a destination in uplink number order. -/
def eligible (s : State) (d : Nat) : List Nat := (List.range 64).filter (uplinkEligible s d)

/-- The load of an uplink for a class (R239). -/
def uplinkLoad (s : State) (u c : Nat) : Nat :=
  let v := s.queue (s.fget .FAB_UPLINK_port u) c
  (v.cells * 256 + v.vatBytes) * 256 / s.fget .FAB_UPLINK_weight u

/-- The sprayed uplink: lowest load, the first at or after the destination's pointer among equals (R239). -/
def spray (s : State) (d c : Nat) : Option (Nat × State) :=
  let l := eligible s d
  match (l.map (fun u => uplinkLoad s u c)).min? with
  | none => none
  | some m =>
    let best := l.filter (fun u => uplinkLoad s u c == m)
    let p := tget 0 s.fabric.ptr (d, 0)
    match (best.find? (fun u => p ≤ u)).or best.head? with
    | none => none
    | some u => some (u, { s with fabric := { s.fabric with ptr := tset 0 s.fabric.ptr (d, 0) ((u + 1) % 64) } })

/-- The hash bits that choose a pinned uplink (R248). -/
def pinSel (f : Frame) : Nat := if f.lbEn then bits f.lbHash 16 16 else bits f.hash 32 16

/-- The uplink of a pinned frame (R248). -/
def pinnedUplink (s : State) (d sel : Nat) : Option Nat :=
  let l := eligible s d
  l[sel * l.length / 65536]?

/-- A stream of this source is pinned: for a time after a pin request, or for its destination for good (R248). -/
def streamPinned (s : State) (d c : Nat) : Bool :=
  s.fbit .FAB_ROUTE_pinned d || s.now < tget 0 s.fabric.pinEnd (d, c)

/-! ### Release -/

/-- The frame's reference count is set to its copies, and it counts as released (R157, R204). -/
def setCopies (s : State) (id n : Nat) : State :=
  let s := s.modFrame id (fun f => { f with copies := n, stage := .released })
  match (s.frame id).buf with
  | some b =>
    match s.buf b with
    | some v => s.setBuf b (some { v with refs := v.refs - 1 + n })
    | none => s
  | none => s

/-- The mirror copy of a release (R225). -/
def releaseMirror (s : State) (id : Nat) (f : Frame) : State :=
  match f.mirror with
  | none => s
  | some m =>
    let q := s.fget .MIRROR_SESSION_port m
    if s.fbit .MIRROR_SESSION_valid m = false ∨ portExists s q = false ∨ 256 < q then
      frameRelease1 (s.count .mirrorInvalid m 1 f.ten) id
    else enqueue s id (.mirror m) q (s.fget .MIRROR_SESSION_class m) none

/-- A source frame takes its uplink, its number and its shim, in this order (R240). -/
def fabricSend (s : State) (id d c : Nat) : State :=
  let f := s.frame id
  let pinned := streamPinned s d c
  let choice : Option (Nat × State) :=
    if pinned then (pinnedUplink s d (pinSel f)).map (fun u => (u, s)) else spray s d c
  if d = s.fget .FAB_CFG_device_id 0 then dropFrame (s.count .fabUnreach d 1 f.ten) id 0x40 none
  else
    match choice with
    | none => dropFrame (s.count .fabUnreach d 1 f.ten) id 0x40 none
    | some (u, s) =>
      let n := tget 0 s.fabric.seq (d, c)
      let s := { s with fabric := { s.fabric with seq := tset 0 s.fabric.seq (d, c) (n + 1) } }
      let m : Shim := { typ := 0, pinned := pinned, cls := c, src := s.fget .FAB_CFG_device_id 0,
                        hops := s.fget .FAB_CFG_hops_init 0, dst := d, seq := n % 2 ^ 24, epoch := s.fabric.epoch, sendNs := 0 }
      let s := s.modFrame id (fun f => { f with shim := some m })
      let s := s.count (if pinned then .pinnedTx else .sprayTx) u 1 f.ten
      enqueue s id .main (s.fget .FAB_UPLINK_port u) c f.launch

/-- The frame goes to its egress (R154 row 5, R176). -/
def releaseMain (s : State) (id : Nat) (f : Frame) : State :=
  match f.dest with
  | .port q c =>
    if 257 ≤ q ∧ q < 273 then
      if f.pass < 3 then s.modFrame id (fun f => { f with stage := .recirc, slice := q - 257 })
      else dropFrame s id 0x23 (some (q, c))
    else enqueue s id .main q c f.launch
  | .group g c =>
    if s.fbit .FAB_CFG_fabric_en 0 ∧ g < 4096 ∧ s.fbit .FAB_GROUP_valid g then
      fabricSend s id (s.fget .FAB_GROUP_dest g) c
    else
      match (if g < 4096 then chooseMember s g (memberSel f) else none) with
      | none => dropFrame (s.count .noEgressGroup 0 1 f.ten) id 0x23 none
      | some m =>
        enqueue (s.modFrame id (fun f => { f with member := some m })) id .main (s.fget .NH_MEMBER_port m) c f.launch
  | .punt r => raisePunt s id r none
  | .drop r => dropFrame s id r none
  | .unset => dropFrame (s.count .noEgress 0 1 f.ten) id 0x23 none

/-- Release of a frame: its copies are set, the frame goes to its egress and its mirror copy to its session (R157, R204,
R225). -/
def releaseFrame (s : State) (id : Nat) : State :=
  let f := s.frame id
  let n := 1 + bit f.mirror.isSome
  releaseMirror (releaseMain (setCopies s id n) id f) id f

/-! ### Frames that are no more (R20, R37, R57, R64) -/

/-- Some copy of a frame is in transmission. -/
def inTx (s : State) (id : Nat) (main : Bool) : Bool :=
  s.egress.tx.any (fun e => match e.2 with
    | some t => t.copy.frame == id && (t.copy.kind == .main) == main
    | none => false)

/-- The copies of a frame that are in transmission are to end with a stomped FCS (R37). -/
def stompTx (s : State) (id : Nat) : State :=
  let mark : Option Tx → Option Tx := fun v => v.map (fun t => if t.copy.frame == id then { t with stomp := true } else t)
  { s with egress := { s.egress with tx := tmap none (fun _ v => mark v) s.egress.tx } }

/-- Take the queued copies of a frame out of one queue: a mirror copy lets the frame go, and so does the frame's own copy
unless it keeps its hold. -/
def pullQueue (s : State) (id : Nat) (keep : Bool) (k : Key) : State :=
  let v := s.queue k.1 k.2
  let gone := v.entries.filter (fun e => e.frame == id)
  if gone.isEmpty then s
  else
    let s := putQueue s k.1 k.2 (v.without (fun e => e.frame == id))
    (gone.filter (fun e => !keep || e.kind != .main)).foldl copyEnd s

/-- Frames held in the device (FAB_STATUS). -/
def heldAll (s : State) : Nat := (s.fabric.streams.map (fun e => e.2.held.length)).sum

/-- FAB_STATUS.held follows the streams. -/
def heldShow (s : State) : State := (s.fset .FAB_STATUS_held 0 (heldAll s)).gmax .gHeldPeak 0 (heldAll s)

/-- Take a frame out of the resequencer. -/
def unhold (s : State) (id : Nat) : State :=
  let f : Key → Stream → Stream := fun _ v => { v with held := v.held.filter (fun h => h.2.1 ≠ id) }
  heldShow { s with fabric := { s.fabric with streams := tmap {} f s.fabric.streams } }

/-- Whatever of a frame has not begun transmission is taken back: its queued copies, a waiting punt, its place at a
recirculation port or in the resequencer. With `keep`, the frame's own hold is left. -/
def takeBack (s : State) (id : Nat) (keep : Bool) : State :=
  let s := (s.egress.queues.map (fun e => e.1)).foldl (fun s k => pullQueue s id keep k) s
  let s := { s with recirc := tmap [] (fun _ l => l.filter (fun i => i ≠ id)) s.recirc }
  let s := if (s.frame id).stage = .reseq then unhold s id else s
  { s with punts := s.punts.filter (fun p => p.frame ≠ id) }

end Sys2Proof.Machine
end

