-- ==== Sys2Proof/Machine/Egress.lean ====
section
/-! DEFINITION. Egress scheduling and transmission: shapers, DWRR, timed launches, guards, gates, the transmission of a
frame, PFC frames and Vat accesses (R43, R199, R206, R207, R212 to R223, R396). -/

namespace Sys2Proof.Machine

/-! ### Shapers (R214). Levels are in millionths of a byte. -/

/-- Whether a shaper is on, its rate in Mbit/s and its burst: class 16 is the port's own (R214). -/
def shaperCfg (s : State) (q c : Nat) : Bool × Nat × Nat :=
  if c = 16 then (schedBit s q 16 .SCHED_PORT_shape_en, schedFld s q 16 .SCHED_PORT_rate_mbps, schedFld s q 16 .SCHED_PORT_burst)
  else (schedBit s q c .SCHED_Q_shape_en, schedFld s q c .SCHED_Q_rate_mbps, schedFld s q c .SCHED_Q_burst)

/-- The level of a shaper now. -/
def shaperLevel (s : State) (q c : Nat) : Int :=
  let g := shaperCfg s q c
  let top : Int := g.2.2 * 1000000
  match tget none s.egress.shapers (q, c) with
  | none => top
  | some b => min top (b.level + (g.2.1 * 125 * (s.now - b.since) : Nat))

/-- A frame may start under a shaper (R214). -/
def shaperOk (s : State) (q c : Nat) : Bool :=
  let g := shaperCfg s q c
  !g.1 || (g.2.1 != 0 && decide (0 ≤ shaperLevel s q c))

/-- A frame is charged to a shaper (R214). -/
def shaperCharge (s : State) (q c len : Nat) : State :=
  if (shaperCfg s q c).1 then
    let b : Bucket := ⟨shaperLevel s q c - len * 1000000, s.now⟩
    { s with egress := { s.egress with shapers := tset none s.egress.shapers (q, c) (some b) } }
  else s

/-- A shaper keeps its level under new settings, and is full when shape_en rises (R214). `s0` holds the old ones. -/
def shaperSettle (s0 s : State) (q c : Nat) : State :=
  let b : Option Bucket := if (shaperCfg s0 q c).1 then some ⟨shaperLevel s0 q c, s.now⟩ else none
  { s with egress := { s.egress with shapers := tset none s.egress.shapers (q, c) b } }

/-- A scheduler word written while a frame is in transmission takes effect (R232). -/
def schedApply (s : State) (q c : Nat) : State :=
  if (tget none s.egress.schedOld (q, c)).isNone then s
  else shaperSettle s { s with egress := { s.egress with schedOld := tset none s.egress.schedOld (q, c) none } } q c

/-- A frame boundary of a port: no frame is in transmission any more, and the scheduler words written since take effect (R232). -/
def txClear (s : State) (q : Nat) : State :=
  (List.range 17).foldl (fun s c => schedApply s q c)
    { s with egress := { s.egress with tx := tset none s.egress.tx (q, 0) none } }

/-! ### Heads, gates and the guard -/

/-- A frame still arriving may start at a port: cut-through (R202), unless it has outgrown its buffer (R57). -/
def cutOk (s : State) (q c : Nat) (f : Frame) : Bool :=
  f.probeOk && !f.errored && f.received && f.pass == 1 && decide (f.ingPort < 256) && decide (q < 256) &&
    s.fbit .ING_ACCT_cut_through (f.ingPort * 16 + f.ingClass) && decide (portGbps s q ≤ portGbps s f.ingPort) &&
    !(s.queue q c).spilling

/-- The head of a queue when the scheduler can reach it: on-die or in the read-ahead, and whole unless it is cut through
(R22, R202, R207, R212). -/
def headOf (s : State) (q c : Nat) : Option Copy :=
  match (s.queue q c).entries.head? with
  | some e =>
    let f := s.frame e.frame
    if (e.loc = .onDie ∨ e.loc = .readAhead) ∧ (f.whole ∨ cutOk s q c f) then some e else none
  | none => none

/-- Scheduled length of a queue entry (R213). -/
def schedLen (s : State) (q : Nat) (e : Copy) : Nat := copyLen s (s.frame e.frame) e.kind + (if q = 256 then 0 else 20)

/-- The PTP_PORT word of a port that is in force for a frame stamped now: a write acts on frames stamped more than 1 us after it
(R224). Port 256 has none. -/
def ptpWord (s : State) (q : Nat) : Nat :=
  if q ≥ 256 then 0
  else match (s.port q).ptpOld.find? (fun e => s.now ≤ e.1 + 1000) with
    | some e => e.2
    | none => regRaw s .PTP_PORT q

/-- tx_adj_ps in force at a port, in ps (R224). -/
def txAdj (s : State) (q : Nat) : Int := signed (fldIn (ptpWord s q) .PTP_PORT_tx_adj_ps) 16

/-- rx_adj_ps in force at a port, in ps (R224). -/
def rxAdj (s : State) (q : Nat) : Int := signed (fldIn (ptpWord s q) .PTP_PORT_rx_adj_ps) 16

/-- The stamp of a frame on a port. Under MAC loopback it is not compensated (R363), and the spec states no value for it:
it is free (log entry 6). -/
def portStamp (s : State) (q stamp : Nat) : Nat × State := if s.fget .PORT_TEST_loopback q = 3 then s.draw else (stamp, s)

/-- The launch instant of an entry at its port in device ns, started earlier by tx_adj_ps (R215, R224). -/
def startInstant (s : State) (q : Nat) (e : Copy) : Option Int :=
  e.launch.map (fun t => t - Int.fdiv (txAdj s q) 1000)

/-- The launch instant has arrived. -/
def launchArrived (s : State) (q : Nat) (e : Copy) : Bool :=
  match startInstant s q e with
  | some t => decide (t ≤ (s.devNs : Int))
  | none => false

/-- The port can transmit from its queues now, but for its queues' own conditions (R212, R362). -/
def portReady (s : State) (q : Nat) : Bool :=
  portTransmitting s q && (tget none s.egress.tx (q, 0)).isNone && shaperOk s q 16

/-- A class may start a frame: not paused, gate open, shaper not negative (R212). -/
def classReady (s : State) (q c : Nat) : Bool := !classPaused s q c && gateOpen s q c && shaperOk s q c

/-- An entry of a gate list: open_mask, dur_ns, last. -/
def gateEntry (e : Nat) : Nat × Nat × Bool := (bits e 0 16, bits e 16 24, bits e 40 1 == 1)

/-- The entries of a gate cycle up to its final one (R219). -/
def gateRun (l : List Nat) : List Nat :=
  match l with
  | [] => []
  | e :: l => if (gateEntry e).2.2 then [e] else e :: gateRun l

/-- The instant at which a class's open gate closes in the entries that run from an instant on, before the next trigger; none: it
does not (R218, R219). -/
def closingFrom (t : Int) (trig : Option Int) (c : Nat) (l : List Nat) : Option Int :=
  match l with
  | [] => none
  | e :: l =>
    if (trig.map (fun x => decide (x ≤ t))).getD false then none
    else if bits (gateEntry e).1 c 1 = 0 then some t
    else if l.isEmpty then none
    else closingFrom (t + (gateEntry e).2.1) trig c l

/-- The gate list of a port as it stands (R219). -/
def gateList (s : State) (q : Nat) : List Nat :=
  (List.range 16).map (fun n =>
    s.fget .GATE_LIST_open_mask (q * 16 + n) + s.fget .GATE_LIST_dur_ns (q * 16 + n) * 2 ^ 16 + s.fget .GATE_LIST_last (q * 16 + n) * 2 ^ 40)

/-- The next instant of the armed trigger unit that a port's gates follow, and the unit's period (R219, R284). -/
def gateTrigger (s : State) (q : Nat) : Option (Int × Nat) :=
  let u := s.fget .GATE_TRIG_unit q
  if s.fbit .GATE_TRIG_en q && s.fbit .TRIG_CTL_arm u && bits (s.fget .TRIG_CTL_targets u) 6 1 == 1 then
    (tget none s.time.trigNext (u, 0)).map (fun t => ((t : Int), s.fget .TRIG_PERIOD_period_ns u))
  else none

/-- The next closing of a class's own gate at a port: in the running cycle, or in the one that its next trigger starts on the list
as it stands (R218, R219). -/
def nextClosing (s : State) (q c : Nat) : Option Int :=
  let g := tget {} s.egress.gates (q, 0)
  let trig := gateTrigger s q
  let here := match g.endsAt with
    | none => none
    | some t => closingFrom t (trig.map (fun x => x.1)) c ((gateRun g.entries).drop (g.pos + 1))
  match here, trig with
  | some t, _ => some t
  | none, none => none
  | none, some (t, p) => closingFrom t (if p = 0 then none else some (t + p)) c (gateRun (gateList s q))

/-- The longest open window of a class in a gate list, in ns. -/
def longestOpen (c : Nat) (l : List Nat) : Nat × Nat → Nat × Nat := fun acc =>
  l.foldl (fun a e => if bits (gateEntry e).1 c 1 = 1 then (a.1 + (gateEntry e).2.1, max a.2 (a.1 + (gateEntry e).2.1)) else (0, a.2)) acc

/-- A frame's wire time fits before an instant: now + len * 8 / rate <= t. -/
def fitsBefore (s : State) (q len : Nat) (t : Int) : Bool :=
  decide ((s.devNs * portGbps s q + len * 8 : Nat) ≤ t * (portGbps s q : Int))

/-- A class of a port is timed (R215). -/
def isTimed (s : State) (q c : Nat) : Bool := schedBit s q c .SCHED_Q_timed

/-- The earliest launch instant still to come among the heads of the port's timed queues (R218 test 1). -/
def nextLaunch (s : State) (q : Nat) : Option Int :=
  ((List.range 16).filterMap (fun c =>
    match (s.queue q c).entries.head? with
    | some e => if !isTimed s q c then none else match startInstant s q e with
      | some t => if (s.devNs : Int) < t then some t else none
      | none => none
    | none => none)).min?

/-- The frame is longer than every open window of its class, and is excepted from test 2 (R218). -/
def overWindow (s : State) (q c len : Nat) : Bool :=
  let g := tget {} s.egress.gates (q, 0)
  decide ((longestOpen c (gateRun g.entries) (0, 0)).2 * portGbps s q < len * 8)

/-- A window of the class has just opened: its entry opened the gate, within the 8 ns of a gate's accuracy (R218, R219; DEDUCED,
log entry 51). -/
def justOpened (s : State) (q c : Nat) : Bool :=
  let g := tget {} s.egress.gates (q, 0)
  bits g.opened c 1 == 1 && decide ((s.devNs : Int) ≤ g.since + 8)

/-- The guard lets a frame of a class start (R218). -/
def guardOk (s : State) (q c len : Nat) : Bool :=
  q ≥ 256 || !schedBit s q 16 .SCHED_PORT_guard_en ||
    ((match nextLaunch s q with | some t => fitsBefore s q len t | none => true) &&
     (match nextClosing s q c with
      | some t => fitsBefore s q len t || (overWindow s q c len && justOpened s q c)
      | none => true))

/-- A queue may send its head under R213, but for the guard. -/
def eligibleQ (s : State) (q c : Nat) : Bool :=
  match headOf s q c with
  | none => false
  | some e => classReady s q c && (e.launch.isNone || !isTimed s q c)

/-- A queue may send its head under R213 and R218. -/
def sendable (s : State) (q c : Nat) : Bool :=
  eligibleQ s q c && match headOf s q c with
    | some e => guardOk s q c (schedLen s q e)
    | none => false

/-! ### Starting a frame -/

/-- Take the head out of a queue. -/
def takeHead (s : State) (q c : Nat) : State :=
  let v := s.queue q c
  putQueue s q c { v with entries := v.entries.drop 1 }

/-- A frame starts: it leaves its queue, is charged to both shapers, and its transmit stamp is fixed (R212, R214, R223). -/
def startFrame (s : State) (q c : Nat) (e : Copy) : State :=
  let f := s.frame e.frame
  let len := schedLen s q e
  let overrun := q < 256 && schedBit s q 16 .SCHED_PORT_guard_en && overWindow s q c len &&
    (match nextClosing s q c with | some t => !fitsBefore s q len t | none => false)
  let s := if overrun then s.count .gateOverrun (q * 16 + c) 1 f.ten else s
  let s := shaperCharge (shaperCharge (takeHead s q c) q c len) q 16 len
  let (stamp, s) := portStamp s q ((s.dev16 : Int) + psTo16 (txAdj s q)).toNat
  let t : Tx := { copy := e, cls := c, start := s.now, stamp := stamp, ptp := ptpWord s q, stomp := false, nh := f.member.map (nhWords s) }
  { s with egress := { s.egress with tx := tset none s.egress.tx (q, 0) (some t) } }

/-- A LATE frame at the head of a queue is discarded (R216). -/
def lateDrop (s : State) (q c : Nat) (e : Copy) : State :=
  let s := (takeHead s q c).count .lateDrop (q * 16 + c) 1 (s.frame e.frame).ten
  let f := s.frame e.frame
  let s := injEnd (dropSample s f 0x37 (some (q, c))) f 7 0x37 0
  copyEnd s e

/-- The frame cannot start by its launch instant plus 8 ns (R216). -/
def isLate (s : State) (q : Nat) (e : Copy) : Bool :=
  e.late || match startInstant s q e with
    | some t => decide (t + 8 < (s.devNs : Int))
    | none => false

/-- A re-epoch stalls every launch (R280 step 1). -/
def stalled (s : State) : Bool := s.fbit .TIME_STATUS_reepoch_pending 0

/-- Discard the LATE heads of a queue that could start now, one after another, under late_policy 0 (R216). -/
def lateJudge (fuel : Nat) (s : State) (q c : Nat) : State :=
  match fuel with
  | 0 => s
  | fuel + 1 =>
    match headOf s q c with
    | some e =>
      if !stalled s && isTimed s q c && launchArrived s q e && classReady s q c && isLate s q e && !schedBit s q 16 .SCHED_PORT_late_policy then
        lateJudge fuel (lateDrop s q c e) q c
      else s
    | none => s

/-- The due timed heads of a port: instant and class (R396). -/
def dueHeads (s : State) (q : Nat) : List (Int × Nat) :=
  (List.range 16).filterMap (fun c =>
    match headOf s q c with
    | some e => if !stalled s && isTimed s q c && launchArrived s q e && classReady s q c then (startInstant s q e).map (fun t => (t, c)) else none
    | none => none)

/-- The earliest of the due heads, the lower class among equal instants (R396). -/
def firstDue (l : List (Int × Nat)) : Option (Int × Nat) :=
  l.foldl (fun a x => match a with
    | none => some x
    | some y => if x.1 < y.1 then some x else some y) none

/-- Serve the timed queues of an idle port: LATE heads are judged, and the earliest due head starts (R216, R396). -/
def serveDue (s : State) (q : Nat) : Option State :=
  match firstDue (dueHeads s q) with
  | none => none
  | some (_, c) =>
    match headOf s q c with
    | none => none
    | some e =>
      let s := if isLate s q e then s.count .lateSent (q * 16 + c) 1 (s.frame e.frame).ten else s
      some (startFrame s q c e)

/-- One turn of the DWRR round of a group: the class it stands at and whether its quantum has been added (R213). -/
def dwrrLoop (fuel : Nat) (s : State) (q g : Nat) (cs : List Nat) : Option (Nat × State) :=
  match fuel with
  | 0 => none
  | fuel + 1 =>
    let r := tget 0 s.egress.round (q, g)
    let c := r / 2
    let setRound (s : State) (v : Nat) : State := { s with egress := { s.egress with round := tset 0 s.egress.round (q, g) v } }
    let next := (c + 1) % 16 * 2
    if !cs.contains c then dwrrLoop fuel (setRound s next) q g cs
    else
      let d := tget 0 s.egress.deficit (q, c) + (if r % 2 = 0 then 256 * schedFld s q c .SCHED_Q_weight else 0)
      let s := setRound { s with egress := { s.egress with deficit := tset 0 s.egress.deficit (q, c) d } } (c * 2 + 1)
      match headOf s q c with
      | none => dwrrLoop fuel (setRound s next) q g cs
      | some e =>
        let len := schedLen s q e
        if len ≤ d then
          some (c, { s with egress := { s.egress with deficit := tset 0 s.egress.deficit (q, c) (d - len) } })
        else dwrrLoop fuel (setRound s next) q g cs

/-- The choice of R213: the lowest group with a sendable queue, then DWRR within it. -/
def serveDwrr (s : State) (q : Nat) : Option State :=
  let ok := (List.range 16).filter (sendable s q)
  match (ok.map (fun c => schedFld s q c .SCHED_Q_sp_group)).min? with
  | none => none
  | some g =>
    match dwrrLoop 1024 s q g (ok.filter (fun c => schedFld s q c .SCHED_Q_sp_group = g)) with
    | none => none
    | some (c, s) =>
      match headOf s q c with
      | some e => some (startFrame (if e.late && isTimed s q c then s.count .lateSent (q * 16 + c) 1 (s.frame e.frame).ten else s) q c e)
      | none => none

/-- In this cycle the port sends nothing because of the guard: some queue could send but for it (R218). -/
def guardIdle (s : State) (q : Nat) : State :=
  if portReady s q && (dueHeads s q).isEmpty && (List.range 16).any (eligibleQ s q) && !(List.range 16).any (sendable s q) then
    s.count .guardIdleNs q
  else s

/-- The ports whose guard is on. -/
def guarded (s : State) : List Nat :=
  (s.reg.filter (fun e => e.1.1 == Fld.SCHED_PORT_guard_en.ctorIdx && e.1.2 < 256 && schedBit s e.1.2 16 .SCHED_PORT_guard_en)).map (fun e => e.1.2)

/-- Every port's guard idling of one cycle. -/
def guardTick (s : State) : State := (guarded s).foldl guardIdle s

/-- LATE heads of every class of an idle port are judged (R216). -/
def lateAll (s : State) (q : Nat) : State :=
  (List.range 16).foldl (fun s c => lateJudge ((s.queue q c).entries.length + 1) s q c) s

/-- FRAME_TRANSMIT_START (R212, R213, R216, R218, R396). -/
def execFrameTransmitStart (port : Nat) (s : State) : Host.Outcome State Fault Refusal :=
  .next (
    if portReady s port then
      let s := lateAll s port
      match serveDue s port with
      | some s => s
      | none => (serveDwrr s port).getD s
    else s)

/-- LAUNCH_DUE (R396): a due launch is served ahead of every group, as soon as no frame is being transmitted. -/
def execLaunchDue (port : Nat) (s : State) : Host.Outcome State Fault Refusal :=
  .next (
    if portReady s port then
      let s := lateAll s port
      (serveDue s port).getD s
    else s)

/-! ### Ending a frame -/

/-- The bytes a copy leaves with (R220, R225). -/
def copyBytes (s : State) (q : Nat) (t : Tx) : List Byte × State :=
  let f := s.frame t.copy.frame
  match t.copy.kind with
  | .main => editMain s q t.ptp f t.copy.ce t.nh t.stamp
  | .mirror m => editMirror s q f m t.copy.ce t.nh

/-- The FCS of a frame ended invalid: the inverse of the good one (DESIGN CHOICE, log entry 11). -/
def stompFcs (b : List Byte) : List Byte := bodyOf b ++ (fcsOf (bodyOf b)).map (fun x => x ^^^ 0xFF#8)

/-- A frame leaves a front-panel port (R37, R204, R223, R363). -/
def sendWire (s : State) (q : Nat) (t : Tx) : State :=
  let f := s.frame t.copy.frame
  let bad := t.stomp || f.errored
  let (b, s) := copyBytes s q t
  let b := if bad then stompFcs b else b
  let s := if s.fget .PORT_TEST_loopback q = 3 then s.emit (.looped q b) else s.emit (.wire q b bad)
  let s := s.count (if bad then .txStomped else .txOk) q 1 f.ten
  let s := (s.count .txFrames (q * 16 + t.cls) 1 f.ten).count .txBytes (q * 16 + t.cls) b.length f.ten
  let s := match t.copy.kind with
    | .mirror m => s.count .mirrorSent m 1 f.ten
    | .main =>
      match f.inj with
      | none => s
      | some r =>
        let s := if r.stampReq then s.count .ptpStampReturned q 1 f.ten else s
        injEnd s f 0 0 (if r.stampReq then stampExtra t.stamp s.time.epoch else 0)
  copyEnd s t.copy

/-- A frame leaves port 256: it goes to its PUNT ring with reason CPU_PORT, edited (R31, R220, R268). -/
def sendCpu (s : State) (t : Tx) : State :=
  let f := s.frame t.copy.frame
  let (b, s) := copyBytes s 256 t
  let s := (s.count .txFrames (256 * 16 + t.cls) 1 f.ten).count .txBytes (256 * 16 + t.cls) b.length f.ten
  let s := match t.copy.kind with
    | .mirror m => s.count .mirrorSent m 1 f.ten
    | .main => s
  let p : Punt := { frame := t.copy.frame, reason := 0x50, since := s.now, slice := f.slice, place := f.place, edited := some (bodyOf b) }
  { s with punts := puntInsert s.punts p }

/-- FRAME_TRANSMIT_END (R204, R212): the frame in transmission ends once its last byte has been received. -/
def execFrameTransmitEnd (port : Nat) (s : State) : Host.Outcome State Fault Refusal :=
  .next (
    match tget none s.egress.tx (port, 0) with
    | none => s
    | some t =>
      if (s.frame t.copy.frame).whole = false then s
      else
        let s := txClear s port
        if port = 256 then sendCpu s t else sendWire s port t)

/-- GATE_ENTRY_EXPIRE (R219): the next entry of the latched list applies; the final entry's mask holds. -/
def execGateEntryExpire (port : Nat) (s : State) : Host.Outcome State Fault Refusal :=
  .next (
    let g := tget {} s.egress.gates (port, 0)
    match g.endsAt with
    | none => s
    | some t =>
      if (s.devNs : Int) < t then s
      else
        let run := gateRun g.entries
        let n := g.pos + 1
        let e := gateEntry (run.getD n 0xFFFF)
        let g := { g with pos := n, since := t, mask := e.1, opened := e.1 &&& (g.mask ^^^ 0xFFFF),
                          endsAt := if n + 1 < run.length then some (t + e.2.1) else none }
        { s with egress := { s.egress with gates := tset {} s.egress.gates (port, 0) g } })

/-- A gate cycle of a port starts at entry 0 at an instant, on the list as it stands (R219). -/
def gateStart (s : State) (q t : Nat) : State :=
  let l := gateList s q
  let run := gateRun l
  let e := gateEntry (run.getD 0 0xFFFF)
  let old := (tget {} s.egress.gates (q, 0)).mask
  let g : Gates := { entries := l, pos := 0, since := t, mask := e.1, opened := e.1 &&& (old ^^^ 0xFFFF),
                     endsAt := if 1 < run.length then some ((t : Int) + e.2.1) else none }
  { s with egress := { s.egress with gates := tset {} s.egress.gates (q, 0) g } }

/-! ### PFC frames (R199, R392) -/

/-- The 64-byte PFC frame of a port for priorities that pause and resume (R199). -/
def pfcBytes (s : State) (q pause resume : Nat) : List Byte :=
  let head := beBytes 6 0x0180C2000001 ++ beBytes 6 (s.fget .SMAC_mac 0) ++ beBytes 2 0x8808 ++ beBytes 2 0x0101 ++ beBytes 2 (pause ||| resume)
  let timers := (List.range 8).flatMap (fun p => beBytes 2 (if bits pause p 1 = 1 then s.fget .PFC_TX_pause_quanta q else 0))
  let b := head ++ timers ++ List.replicate (60 - head.length - timers.length) 0#8
  b ++ fcsOf b

/-- A PFC frame goes out; the refresh of each paused priority runs from it (R199). -/
def pfcSend (s : State) (q pause resume : Nat) : State :=
  let s := (s.emit (.wire q (pfcBytes s q pause resume) false)).count .txPfc q
  let t := s.now + quantaNs s q (s.fget .PFC_TX_refresh_quanta q)
  let r := (List.range 8).foldl (fun r p => if bits pause p 1 = 1 ∧ tget false s.buffers.paused (q, p) then tset 0 r (q, p) t else r) s.buffers.refresh
  { s with buffers := { s.buffers with refresh := r } }

/-- PFC_FRAME_SEND (R199): the oldest owed PFC frame goes once no frame is being transmitted. -/
def execPfcFrameSend (port : Nat) (s : State) : Host.Outcome State Fault Refusal :=
  .next (
    match tget [] s.buffers.owed (port, 0) with
    | [] => s
    | e :: l =>
      if portClear s port && (tget none s.egress.tx (port, 0)).isNone then
        pfcSend { s with buffers := { s.buffers with owed := tset [] s.buffers.owed (port, 0) l } } port e.2.1 e.2.2
      else s)

/-- PFC_REFRESH (R199): a priority still paused is sent again after refresh_quanta. -/
def execPfcRefresh (port prio : Nat) (s : State) : Host.Outcome State Fault Refusal :=
  .next (
    let t := tget 0 s.buffers.refresh (port, prio)
    if tget false s.buffers.paused (port, prio) && t != 0 && t ≤ s.now && portClear s port then
      if (tget none s.egress.tx (port, 0)).isNone then pfcSend s port (2 ^ prio) 0
      else pfcOwe { s with buffers := { s.buffers with refresh := tset 0 s.buffers.refresh (port, prio) 0 } } port (2 ^ prio) 0
    else s)

/-! ### Vat accesses (R206, R207) -/

/-- The first entry of a list that satisfies a test is changed. -/
def updFirst (p : Copy → Bool) (g : Copy → Copy) (l : List Copy) : List Copy :=
  match l with
  | [] => []
  | e :: l => if p e then g e :: l else e :: updFirst p g l

/-- Copies of a frame that hold no buffer any more: their Vat write is done (R206). -/
def offDie (s : State) (id : Nat) : Nat :=
  (s.egress.queues.map (fun e => e.2.entries.countP (fun x => x.frame == id && !x.inBuf))).sum +
    tcount s.egress.tx (fun _ t => match t with | some t => t.copy.frame == id && !t.copy.inBuf | none => false)

/-- A frame of which no copy holds its buffer any more: another frame that holds it carries the charge (R204). -/
def bufLeave (s : State) (id : Nat) : State :=
  let f := s.frame id
  if f.buf.isSome && f.copies ≤ offDie s id then
    bufHeir (s.setFrame id { f with buf := none, charged := false }) id f
  else s

/-- VAT_WRITE_COMPLETE (R206): the oldest frame awaiting its write is in the Vat, and its buffer reference is released. -/
def execVatWriteComplete (port cls : Nat) (s : State) : Host.Outcome State Fault Refusal :=
  .next (
    let v := s.queue port cls
    match v.entries.find? (fun e => e.loc == .vatWait) with
    | none => s
    | some e =>
      let f := s.frame e.frame
      if f.whole = false then s
      else
        let n := storedSize f.bytes.length
        let l := updFirst (fun e => e.loc == .vatWait) (fun e => { e with loc := .vat, stored := n, cells := 0 }) v.entries
        let s := putQueue s port cls { v with entries := l, vatTail := v.vatTail + n - e.stored }
        let s := s.count .vatBytes 0 n f.ten
        match f.buf with
        | some b => bufLeave (bufRelease s b f.owner) e.frame
        | none => s)

/-- Bytes of an octet's read-ahead taken by its queues, reads in flight included. -/
def raUsed (s : State) (octet : Nat) : Nat :=
  (s.egress.queues.map (fun e => if e.1.1 < 256 ∧ e.1.1 / 8 = octet then
    ((e.2.entries.filter (fun x => x.loc == .reading || x.loc == .readAhead)).map (fun x => x.stored - 16)).sum else 0)).sum

/-- The first two conditions of R207 for a spilling queue. -/
def raWants (s : State) (q c : Nat) : Bool :=
  (s.queue q c).spilling && portTransmitting s q && !classPaused s q c && gateOpen s q c

/-- VAT_READ_ISSUE (R207): the next Vat frame of a spilling queue is read into the octet's read-ahead. -/
def execVatReadIssue (port cls : Nat) (s : State) : Host.Outcome State Fault Refusal :=
  .next (
    let v := s.queue port cls
    match v.entries.find? (fun e => e.loc == .vatWait || e.loc == .vat) with
    | none => s
    | some e =>
      let own := ((v.entries.filter (fun x => x.loc == .reading || x.loc == .readAhead)).map (fun x => x.stored - 16)).sum
      let n := (s.egress.queues.filter (fun k => k.1.1 < 256 && k.1.1 / 8 == port / 8 && raWants s k.1.1 k.1.2)).length
      let size := e.stored - 16
      if e.loc = .vat ∧ raWants s port cls ∧ raUsed s (port / 8) + size ≤ 131072 ∧ (own = 0 ∨ own + size ≤ 131072 / n) then
        let l := updFirst (fun e => e.loc == .vat) (fun e => { e with loc := .reading }) v.entries
        putQueue s port cls { v with entries := l }
      else s)

/-- VAT_READ_COMPLETE (R207): the frame is in the read-ahead, its segments are freed as their last byte has been read, and a
queue whose last Vat byte is read returns to ON_DIE. -/
def execVatReadComplete (port cls : Nat) (s : State) : Host.Outcome State Fault Refusal :=
  .next (
    let v := s.queue port cls
    match v.entries.find? (fun e => e.loc == .reading) with
    | none => s
    | some e =>
      let l := updFirst (fun e => e.loc == .reading) (fun e => { e with loc := .readAhead }) v.entries
      let s := s.count .vatBytes 0 e.stored (s.frame e.frame).ten
      if l.any Copy.inVat then putQueue s port cls { v with entries := l, vatHead := v.vatHead + e.stored + e.skip }
      else putQueue s port cls { v with entries := l, spilling := false, vatHead := 0, vatTail := 0 })

end Sys2Proof.Machine
end

