-- ==== Sys2Proof/Machine/PortOps.lean ====
section
/-! DEFINITION. What the ports do by themselves: judging the link, declaring a port up or down, the hold, the flush and
the move of fabric frames (R34, R45 to R48, R391, R392). -/

namespace Sys2Proof.Machine

/-- Every condition of R34 for a port to be declared up. With near-end or MAC loopback auto-negotiation and training are
ignored (R363). -/
def upConditions (s : State) (q : Nat) : Bool :=
  let p := s.port q
  let lb := s.fget .PORT_TEST_loopback q
  let free := lb == 1 || lb == 3
  portExists s q && s.fbit .PORT_CFG_admin_en q && s.runs (pdOctet (q / 8)) &&
    (free || !p.anEn || s.fbit .PORT_STATUS_an_done q) && (free || !p.ltEn || s.fbit .PORT_STATUS_lt_done q) &&
    s.fbit .PORT_STATUS_align_lock q && !s.fbit .PORT_STATUS_local_fault q && !s.fbit .PORT_STATUS_remote_fault q

/-- Lock lost or a fault present (R34). -/
def lossPresent (s : State) (q : Nat) : Bool :=
  !s.fbit .PORT_STATUS_align_lock q || s.fbit .PORT_STATUS_local_fault q || s.fbit .PORT_STATUS_remote_fault q

/-- The debounce timers of a port start or restart as its conditions stand (R34). A break shorter than the down debounce
is counted in link_glitch. -/
def linkJudge (s : State) (q : Nat) : State :=
  let p := s.port q
  if portUp s q then
    if lossPresent s q then
      if p.downFrom.isNone then s.setPort q { p with downFrom := some s.now } else s
    else if p.downFrom.isSome then (s.setPort q { p with downFrom := none }).count .linkGlitch q
    else s
  else if upConditions s q then
    if p.upFrom.isNone then s.setPort q { p with upFrom := some s.now } else s
  else s.setPort q { p with upFrom := none }

/-- After a stop, a port that may send again owes one PFC frame for every paused priority (R392). -/
def pfcAgain (s : State) (q : Nat) : State :=
  let m := ((List.range 8).map (fun p => if tget false s.buffers.paused (q, p) then 2 ^ p else 0)).sum
  if m = 0 then s else pfcOwe s q m 0

/-- A frame in transmission is cut at link-down (R45 step 1, R270). -/
def abortTx (s : State) (q : Nat) : State :=
  match tget none s.egress.tx (q, 0) with
  | none => s
  | some t =>
    let f := s.frame t.copy.frame
    let s := (txClear s q).count .txLinkAbort q 1 f.ten
    let s := dropSample s f 0x3A (some (q, t.cls))
    let s := match t.copy.kind with
      | .main => injEnd s f 7 0x3A 0
      | .mirror _ => s
    copyEnd s t.copy

/-- A moved frame finds no place in the Vat part of its new queue: it is discarded with a reason (R205). -/
def dropMoved (s : State) (e : Copy) (q c reason : Nat) : State :=
  let f := s.frame e.frame
  let s := dropSample s f reason (some (q, c))
  let s := match e.kind with
    | .main => injEnd s f 7 reason 0
    | .mirror _ => s
  copyEnd s e

/-- A queued fabric frame moves to an uplink's queue: one that stands in the Vat goes to the Vat part there (R48). -/
def moveCopy (s : State) (e : Copy) (q c : Nat) : State :=
  if e.inBuf then place s { e with loc := .onDie } q c
  else
    let v := s.queue q c
    let segs := segsOf v.vatHead (v.vatTail + e.stored)
    let tn := (s.frame e.frame).ten
    if s.fget .EGR_Q_vat_limit (q * 16 + c) < segs then dropMoved (s.count .vatLimitDrop (q * 16 + c) 1 tn) e q c 0x34
    else if vatFree s < segs - v.segs then
      dropMoved ((s.count .vatFullDrop (q * 16 + c) 1 tn).event .BUF_STATUS_vat_full_event 0) e q c 0x35
    else
      putQueue s q c { v with entries := v.entries ++ [{ e with loc := .vat, skip := 0 }], spilling := true, vatTail := v.vatTail + e.stored }

/-- One frame queued on a fabric port that went down is moved to a surviving uplink, or kept (R48). -/
def failoverCopy (s : State) (q c : Nat) (e : Copy) : State :=
  let f := s.frame e.frame
  let back (s : State) : State :=
    let v := s.queue q c
    putQueue s q c { v with entries := v.entries ++ [{ e with skip := 0 }], vatTail := if e.inVat then v.vatTail + e.stored else v.vatTail,
                            spilling := v.spilling || e.inVat }
  match f.shim, e.kind with
  | some m, .main =>
    let choice : Option (Nat × State) :=
      if m.pinned then (pinnedUplink s m.dst (pinSel f)).map (fun u => (u, s)) else spray s m.dst c
    match choice with
    | some (u, s) => moveCopy (s.count .movedIn u 1 f.ten) e (s.fget .FAB_UPLINK_port u) c
    | none => back s
  | _, _ => back s

/-- The frames queued on a fabric port at link-down, moved in queue order (R48). -/
def failover (s : State) (q : Nat) : State :=
  (List.range 16).foldl (fun s c =>
    let l := (s.queue q c).entries
    if l.isEmpty then s else l.foldl (fun s e => failoverCopy s q c e) (putQueue s q c {})) s

/-- A flush of a port begins: flushing rises and a hold's timer ends (R45 step 3b). -/
def flushMark (s : State) (q : Nat) : State :=
  let s := s.fset .PORT_STATUS_flushing q 1
  s.setPort q { s.port q with holdFrom := none }

/-- Step 3b of R45: flushing rises and every queued and spilled frame is discarded. -/
def flushStart (s : State) (q : Nat) : State := flushPort (flushMark s q) q

/-- The settings that apply from the next link-up take effect (R35). -/
def latchCfg (s : State) (q : Nat) : State :=
  s.setPort q { s.port q with anEn := s.fbit .PORT_CFG_an_en q, ltEn := s.fbit .PORT_CFG_lt_en q, maxFrame := s.fget .PORT_CFG_max_frame q }

/-- The settings of the link-up conditions take effect with the link-down before the next link-up (R35). -/
def latchUpCfg (s : State) (q : Nat) : State :=
  s.setPort q { s.port q with anEn := s.fbit .PORT_CFG_an_en q, ltEn := s.fbit .PORT_CFG_lt_en q }

/-- A port is declared down (R34, R45 steps 1 and 2); a disable flushes at once instead of a hold (R47). an_done and lt_done
keep their values, and the hold covers a fabric port whose every frame was moved (DESIGN CHOICE, log entry 49). -/
def declareDown (s : State) (q : Nat) (admin : Bool) : State :=
  let s := (s.fset .PORT_STATUS_link_up q 0).event .PORT_STATUS_down_event q
  let s := abortTx s q
  let pz := (List.range 9).foldl (fun t p => tset 0 t (q, p) 0) s.buffers.rxPause
  let rf := (List.range 8).foldl (fun t p => tset 0 t (q, p) 0) s.buffers.refresh
  let s := { s with buffers := { s.buffers with rxPause := pz, owed := tset [] s.buffers.owed (q, 0) [], refresh := rf } }
  let s := latchUpCfg (s.setPort q { s.port q with downFrom := none, upFrom := none }) q
  let s := if s.fbit .PORT_CFG_fabric_port q && !admin then failover s q else s
  if admin then flushStart s q
  else
    let s := s.fset .PORT_STATUS_hold_active q 1
    let s := s.setPort q { s.port q with holdFrom := some s.now }
    if s.fget .PORT_HOLD_port_hold_us q = 0 then flushStart s q else s

/-- A port is declared up: a hold ends, and transmission goes on unless a flush runs (R34, R45 step 3a, R46). -/
def declareUp (s : State) (q : Nat) : State :=
  let s := (s.fset .PORT_STATUS_link_up q 1).event .PORT_STATUS_up_event q
  let s := latchCfg (s.setPort q { s.port q with upFrom := none, downFrom := none, holdFrom := none }) q
  if s.fbit .PORT_STATUS_flushing q then s else pfcAgain (s.fset .PORT_STATUS_hold_active q 0) q

/-- admin_en has been written 0, or the port's domain switched off: down and flushed at once (R47). -/
def adminOff (s : State) (q : Nat) : State :=
  let s := (s.fset .PORT_STATUS_an_done q 0).fset .PORT_STATUS_lt_done q 0
  let s := s.setPort q { s.port q with upFrom := none }
  if portUp s q then declareDown s q true else flushStart s q

/-- The instant of a hold's expiry (R45, R391). -/
def holdEnd (s : State) (q : Nat) : Option Nat :=
  (s.port q).holdFrom.map (fun t => t + 1000 * s.fget .PORT_HOLD_port_hold_us q)

end Sys2Proof.Machine
end

