-- ==== Sys2Proof/Machine/Separator.lean ====
section
/-! DEFINITION. The Separator's reading of a frame: selection (R51, R52), the length probe (R55), extraction and chains
(R58, R59), the tenant (R61, R62), the load-spreading hash (R65, R227) and the length checks (R64). -/

namespace Sys2Proof.Machine

/-- A byte of the header window: beyond byte 255 or the frame's end it reads 0x00 (R51). -/
def winByte (f : Frame) (i : Nat) : Byte := if i < 256 then f.bytes.getD i 0#8 else 0#8

/-- The selector at a base: 0 for an outer selection, chain_base for an inner one (R51). Byte i is at bits [8i+7:8i]. -/
def selector (s : State) (f : Frame) (base : Nat) : Nat :=
  leNat ((List.range 16).map (fun i => winByte f (base + s.fget .SEL_OFFSETS_off i)))

/-- A selection entry matches (R52). -/
def selMatches (s : State) (f : Frame) (inner : Bool) (sel n : Nat) : Bool :=
  s.fbit .SEL_ENTRY_valid n && s.fget .SEL_ENTRY_inner n == bit inner &&
    bits (s.fget .SEL_ENTRY_pass_mask n) (f.pass - 1) 1 == 1 &&
    bits (s.fget .SEL_ENTRY_set_mask n) (s.fget .SEP_PORT_CFG_port_set f.ingPort) 1 == 1 &&
    (sel ^^^ s.fget .SEL_ENTRY_sel_data n) &&& s.fget .SEL_ENTRY_sel_care n == 0

/-- The profile of the lowest-numbered entry that matches; none: no entry, or a profile that is not usable (R52). -/
def selectProfile (s : State) (f : Frame) (inner : Bool) (base : Nat) : Option Nat :=
  match (List.range 64).find? (selMatches s f inner (selector s f base)) with
  | none => none
  | some n =>
    let p := s.fget .SEL_ENTRY_profile_id n
    if s.fbit .PROFILE_valid p then some p else none

/-- The length L of R55 for a frame that has begun to be received: the length and whether the probe succeeded. -/
def lengthProbe (s : State) (f : Frame) (prof : Option Nat) : Nat × Bool :=
  if f.whole ∧ f.bytes.length < 128 then (f.bytes.length, true)
  else
    let assumed := s.fget .SEP_PORT_CFG_assumed_len f.ingPort
    match prof with
    | none => (assumed, false)
    | some p =>
      let w := 1 + s.fget .PROFILE_probe_w p
      let v : Int := beAt f.bytes (s.fget .PROFILE_probe_off p) w + signed (s.fget .PROFILE_probe_adj p) 14
      let top : Int := if f.ingPort < 256 then (s.port f.ingPort).maxFrame else 9728
      if s.fbit .PROFILE_probe_en p ∧ v ≤ top then (max 64 v.toNat, true) else (assumed, false)

/-! A profile is read from the words that stood when it was selected (R53): `w` below, with `base` 0 for an outer profile. -/

/-- A one-bit field of a profile's words reads 1. -/
def fbitIn (w : Nat) (f : Fld) (c : Nat := 0) : Bool := fldIn w f c == 1

/-- One extract of a profile (R58). -/
def extract (f : Frame) (w base : Nat) (key : List Byte) (i : Nat) : List Byte :=
  if fbitIn w .PROFILE_ext_en i then
    putBytes key (fldIn w .PROFILE_ext_dst_off i)
      ((List.range (fldIn w .PROFILE_ext_width_m1 i + 1)).map (fun j => winByte f (base + fldIn w .PROFILE_ext_src_off i + j)))
  else key

/-- The extracts of a profile in index order (R58). -/
def extractAll (f : Frame) (w base : Nat) (key : List Byte) : List Byte :=
  (List.range 16).foldl (extract f w base) key

/-- An inner profile finds its stack too deep: it chains again, or a field it uses lands beyond byte 255 (R59). -/
def tooDeep (w base : Nat) : Bool :=
  fbitIn w .PROFILE_chain_en ||
  (List.range 16).any (fun i => fbitIn w .PROFILE_ext_en i &&
    255 < base + fldIn w .PROFILE_ext_src_off i + fldIn w .PROFILE_ext_width_m1 i) ||
  (fldIn w .PROFILE_l3_kind != 0 && 255 < base + fldIn w .PROFILE_l3_off) ||
  (fldIn w .PROFILE_l4_kind != 0 && 255 < base + fldIn w .PROFILE_l4_off) ||
  (fldIn w .PROFILE_tsrc_mode == 2 && 255 < base + fldIn w .PROFILE_tsrc_off + 2) ||
  (fldIn w .PROFILE_depth_action == 1 && 255 < base + fldIn w .PROFILE_decap_start + fldIn w .PROFILE_decap_len - 1)

/-- The tenant that a profile gives a frame: the tenant, or none for a map miss (R61, R62). -/
def tenantOf (s : State) (f : Frame) (w base : Nat) : Option Nat :=
  let m := fldIn w .PROFILE_tmap_base
  let look (i : Nat) : Option Nat := if s.fbit .TENANT_MAP_valid i then some (s.fget .TENANT_MAP_tenant i) else none
  match fldIn w .PROFILE_tsrc_mode with
  | 1 => look ((m + f.ingPort) % 65536)
  | 2 =>
    let v := beNat ((List.range 3).map (fun j => winByte f (base + fldIn w .PROFILE_tsrc_off + j)))
    look ((m + v / 2 ^ fldIn w .PROFILE_tsrc_shift % 2 ^ (fldIn w .PROFILE_tsrc_bits_m1 + 1)) % 65536)
  | _ => some (m % 4096)

/-- The key with every byte whose mask bit is 0 replaced by 0x00 (R65). -/
def maskKey (key : List Byte) (mask : Nat) : List Byte :=
  (List.range 48).map (fun j => if bits mask j 1 = 1 then key.getD j 0#8 else 0#8)

/-- How a pass ends at step 3. -/
inductive ParseEnd where
  /-- The frame goes on to step 4. -/
  | flow
  | noProfile
  | depthPunt
  | depthDrop
  /-- Recirculate with these bytes removed (R59). -/
  | decap (start len : Nat)
  | tenantDrop
  | tenantPunt
  deriving DecidableEq, Repr

/-- What step 3 makes of a frame: the frame with its fields of the pass, how the pass ends, and whether the tenant map
missed. -/
structure Parsed where
  frame : Frame
  fin : ParseEnd
  miss : Bool
  deriving DecidableEq, Repr

/-- The depth action of a profile on a frame of a pass (R59, R394). -/
def depthEnd (f : Frame) (w base : Nat) : ParseEnd :=
  match fldIn w .PROFILE_depth_action with
  | 1 => if f.pass < 3 then .decap (base + fldIn w .PROFILE_decap_start) (fldIn w .PROFILE_decap_len) else .depthPunt
  | 2 => .depthDrop
  | _ => .depthPunt

/-- The tenant of a pass decided by one profile alone, where the depth action governs the frame (R394). -/
def deepTenant (s : State) (f : Frame) (w : Nat) : Nat × Bool :=
  if fldIn w .PROFILE_tsrc_mode = 0 then (if f.pass = 1 then 0 else f.tenant, false)
  else
    match tenantOf s f w 0 with
    | some t => (t, false)
    | none => (0, true)

/-- The offsets and kinds of a profile, made absolute (R60). -/
def absL3 (w base : Nat) : Nat × Nat := (base + fldIn w .PROFILE_l3_off, fldIn w .PROFILE_l3_kind)
def absL4 (w base : Nat) : Nat × Nat := (base + fldIn w .PROFILE_l4_off, fldIn w .PROFILE_l4_kind)

/-- What a frame carries on from its profiles: the last profile `p` with its words and base, the outer one `o` where a chain was
taken, and the offsets of both (R60). `ow` are the words of the outer selection. -/
def profiled (f : Frame) (p w base : Nat) (o : Option Nat) (ow : Nat) : Frame :=
  { f with prof := p, outer := o, l3 := absL3 w base, l4 := absL4 w base, outerL3 := absL3 ow 0, outerL4 := absL4 ow 0 }

/-- The key, tenant, offsets and load-spreading hash of a frame whose profiles fit it (R58 to R65). `inner` is the inner
profile with its words and base. -/
def parseFit (s : State) (lbk : Word × Word) (f : Frame) (p w : Nat) (inner : Option (Nat × Nat × Nat)) : Parsed :=
  let key := extractAll f w 0 (List.replicate 48 0#8)
  let key := match inner with | some (_, v, b) => extractAll f v b key | none => key
  let last := (inner.map (fun x => x.1)).getD p
  let lw := (inner.map (fun x => x.2.1)).getD w
  let base := (inner.map (fun x => x.2.2)).getD 0
  let src : Option (Nat × Nat) :=
    if inner.isSome ∧ fldIn lw .PROFILE_tsrc_mode ≠ 0 then some (lw, base)
    else if fldIn w .PROFILE_tsrc_mode ≠ 0 then some (w, 0) else none
  let ten : Option Nat := match src with
    | none => some (if f.pass = 1 then 0 else f.tenant)
    | some (q, b) => tenantOf s f q b
  let act := match src with | some (q, _) => fldIn q .PROFILE_tenant_miss_action | none => 2
  let tenant := ten.getD 0
  let keyed := fbitIn w .PROFILE_tenant_key || (inner.isSome && fbitIn lw .PROFILE_tenant_key)
  let key := if keyed then putBytes key 46 (beBytes 2 tenant) else key
  let lp := if inner.isSome && fbitIn lw .PROFILE_lb_en then lw else w
  let en := fbitIn lp .PROFILE_lb_en
  let h := if en then (sipHash lbk.1 lbk.2 (maskKey key (fldIn lp .PROFILE_lb_mask))).toNat else 0
  let ind := if en then s.fget .INDIR_entry (fldIn lp .PROFILE_lb_table * 65536 + h % 65536) else 0
  let f := { profiled f last lw base (inner.map (fun _ => p)) w with
             checks := (inner.map (fun x => (x.2.1, x.2.2))).toList ++ [(w, 0)],
             tenant := tenant, key := key, lbHash := h, lbEn := en, indir := ind }
  let fin := if ten.isSome then ParseEnd.flow else match act with
    | 0 => .tenantDrop
    | 1 => .tenantPunt
    | _ => .flow
  ⟨f, fin, ten.isNone⟩

/-- Step 3 of a pass on the profile of its outer selection (R58, R59, R394). -/
def parse (s : State) (lbk : Word × Word) (f : Frame) : Parsed :=
  let p := f.prof
  let w := f.entry
  let f := { f with checks := [(w, 0)] }
  if fbitIn w .PROFILE_chain_en then
    let b := fldIn w .PROFILE_chain_base
    match selectProfile s f true b with
    | none => ⟨profiled f p w 0 none w, .noProfile, false⟩
    | some q =>
      let v := regRaw s .PROFILE q
      if tooDeep v b then
        let t := deepTenant s f w
        ⟨{ profiled f q w 0 (some p) w with tenant := t.1 }, depthEnd f v b, t.2⟩
      else parseFit s lbk f p w (some (q, v, b))
  else if fldIn w .PROFILE_depth_action = 1 then
    let t := deepTenant s f w
    ⟨{ profiled f p w 0 none w with tenant := t.1 }, depthEnd f w 0, t.2⟩
  else parseFit s lbk f p w none

/-! ### Contradicting lengths (R64) -/

/-- The verdict one profile raises on a whole frame: 1 LENGTH_SHORT, 2 LENGTH_TRAIL, 0 none. -/
def profileVerdict (f : Frame) (w base : Nat) : Nat :=
  let l : Int := f.bytes.length
  let a := base + fldIn w .PROFILE_l3_off
  let lip : Option Int := match fldIn w .PROFILE_l3_kind with
    | 1 => some (a + beAt f.bytes (a + 2) 2 + 4 : Nat)
    | 2 => if beAt f.bytes (a + 4) 2 = 0 then none else some (a + 40 + beAt f.bytes (a + 4) 2 + 4 : Nat)
    | _ => none
  match lip with
  | none => 0
  | some lip =>
    let ip := fbitIn w .PROFILE_ip_len_check
    let b := base + fldIn w .PROFILE_l4_off
    let udp := fbitIn w .PROFILE_udp_len_check && fldIn w .PROFILE_l4_kind == 2
    let u : Int := beAt f.bytes (b + 4) 2
    let room : Int := lip - 4 - b
    if (ip ∧ l < lip) ∨ (udp ∧ (room < u ∨ u < 8)) then 1
    else if (ip ∧ max lip 64 < l) ∨ (udp ∧ u < room) then 2
    else 0

/-- The verdict of a pass and its action, under the profiles as they stood at its selections (R53); the inner profile's action
where both raise it (R64). Action 0 DROP, 1 PUNT, 2 FORWARD. A too-deep inner profile makes no check (R394). -/
def lengthVerdict (f : Frame) : Option (Nat × Nat) :=
  match f.checks.find? (fun x => profileVerdict f x.1 x.2 = 1) with
  | some x => some (1, fldIn x.1 .PROFILE_short_action)
  | none =>
    match f.checks.find? (fun x => profileVerdict f x.1 x.2 = 2) with
    | some x => some (2, fldIn x.1 .PROFILE_trail_action)
    | none => none

/-- The ingress class of a received frame (R197). -/
def ingressClass (s : State) (q : Nat) (b : List Byte) : Nat :=
  let t := beAt b 12 2
  if s.fbit .ING_CLASS_mode q ∧ (t = 0x8100 ∨ t = 0x88A8) then s.fget .ING_CLASS_pcp_class (q * 8 + byteAt b 14 / 32)
  else s.fget .ING_CLASS_default_class q

end Sys2Proof.Machine
end

