-- ==== Sys2Proof/Machine/Flow.lean ====
section
/-! DEFINITION. Flow keys, the flow hash, the Cellar's index, stash and records, tenant quotas, the placement of a slot and
the removal of a record (R69 to R92). -/

namespace Sys2Proof.Machine

/-! ### The flow hash (R74, R90) -/

/-- H of a key under a K_flow (R74). -/
def flowHash (k : Nat × Nat) (key : List Byte) : Nat := (sipHash (BitVec.ofNat 64 k.1) (BitVec.ofNat 64 k.2) key).toNat

/-- H_old: the hash under the key in force; order domains follow it (R90). -/
def hOld (s : State) (key : List Byte) : Nat := flowHash s.cellar.kFlow key

/-- H_new: the hash under which records are placed now (R90). -/
def hNew (s : State) (key : List Byte) : Nat := flowHash (s.cellar.kNew.getD s.cellar.kFlow) key

/-- The hashes a lookup uses, in its order: H_new, then H_old while a rekey runs (R90 step 2). -/
def hashesOf (s : State) (key : List Byte) : List Nat :=
  match s.cellar.kNew with
  | some k => [flowHash k key, hOld s key]
  | none => [hOld s key]

/-- The fields of H (R74). -/
def bankOf (h : Nat) : Nat := h % 16
def setOf (h : Nat) : Nat := bits h 4 13
def domainOf (h : Nat) : Nat := h % 65536
def bktA (h : Nat) : Nat := h % 2 ^ 25
def bktB (h : Nat) : Nat := bits h 25 25
def tagOf (h : Nat) : Nat := bits h 44 20

/-- The row of the table of ways that a bank and a set name. -/
def skimRow (h : Nat) : Nat := bankOf h * 8192 + setOf h

/-! ### Record words (R70) -/

/-- Words 0-5 of a key: key byte 8n at bits [63:56]. -/
def keyWords (key : List Byte) : List Nat := (List.range 6).map (fun n => beAt key (8 * n) 8)

/-- The 48 key bytes of a record. -/
def recKey (w : List Nat) : List Byte := (List.range 6).flatMap (fun n => beBytes 8 (w.getD n 0))

/-- A word of a record. -/
def word (w : List Nat) (n : Nat) : Nat := w.getD n 0

/-- A record with one field of one word replaced. -/
def setField (w : List Nat) (n lsb width v : Nat) : List Nat := w.set n (setBits (word w n) lsb width v)

/-- Fields of the record words. -/
def recVersion (w : List Nat) : Nat := bits (word w 6) 0 16
def recAgeClass (w : List Nat) : Nat := bits (word w 6) 16 3
def recNoAge (w : List Nat) : Bool := bits (word w 6) 19 1 == 1
def recReportEnd (w : List Nat) : Bool := bits (word w 6) 21 1 == 1
def recReportPeriodic (w : List Nat) : Bool := bits (word w 6) 22 1 == 1
def recOpcode (w : List Nat) : Nat := bits (word w 6) 24 8
def recTenant (w : List Nat) : Nat := bits (word w 6) 32 12
def recAgeEpoch (w : List Nat) : Nat := bits (word w 8) 48 16
def recLastSeen (w : List Nat) : Nat := bits (word w 9) 32 32

/-- The version after a change that R70 counts. -/
def bumpVersion (w : List Nat) : List Nat := setField w 6 0 16 (recVersion w + 1)

/-- The 128 bytes of a record as FLOW_READ returns them (R70). -/
def recBytes (w : List Nat) : List Byte :=
  (List.range 16).flatMap (fun n => if n < 6 then beBytes 8 (word w n) else leBytes 8 (word w n))

/-- The words of a 128-byte record image (R262). -/
def imageWords (b : List Byte) : List Nat :=
  (List.range 16).map (fun n => if n < 6 then beAt b (8 * n) 8 else leNat (slice b (8 * n) 8))

/-! ### The Cellar (R75 to R79) -/

/-- The slot word of R75. -/
def slotWord (tag recNo hint : Nat) : Nat := tag % 2 ^ 20 + recNo % 2 ^ 27 * 2 ^ 20 + 2 ^ 47 + hint % 256 * 2 ^ 48

/-- The record number a slot word points to. -/
def slotRec (w : Nat) : Nat := bits w 20 27

/-- The record of a number in use. -/
def State.record (s : State) (n : Nat) : Option Rec := tget none s.cellar.recs (n, 0)

/-- Replace it. -/
def State.setRecord (s : State) (n : Nat) (r : Option Rec) : State :=
  { s with cellar := { s.cellar with recs := tset none s.cellar.recs (n, 0) r } }

/-- The slot word of a bucket's slot; 0: not valid. -/
def slotAt (s : State) (b i : Nat) : Nat := tget 0 s.cellar.slots (b, i)

/-- Write a slot word. -/
def setSlot (s : State) (b i w : Nat) : State := { s with cellar := { s.cellar with slots := tset 0 s.cellar.slots (b, i) w } }

/-- Write a stash entry, and count those in use. -/
def setStash (s : State) (n : Nat) (e : Option StashEntry) : State :=
  let t := tset none s.cellar.stash (n, 0) e
  ({ s with cellar := { s.cellar with stash := t } }).fset .CELLAR_STATUS_stash_used 0 t.length

/-- The buckets that a key's hashes name, in the order of a lookup, each once (R77, R90). -/
def bucketsOf (hs : List Nat) : List (Nat × Nat) :=
  (hs.flatMap (fun h => [(bktA h, tagOf h), (bktB h, tagOf h)])).eraseDups

/-- The record numbers whose slots match a key's tags, in the order of R77. -/
def tagMatches (s : State) (hs : List Nat) : List Nat :=
  let b := (bucketsOf hs).flatMap (fun x => (List.range 8).filterMap (fun i =>
    let w := slotAt s x.1 i
    if w ≠ 0 ∧ w % 2 ^ 20 = x.2 then some (slotRec w) else none))
  let t := s.cellar.stash.filterMap (fun e => match e.2 with
    | some x => if hs.any (fun h => x.bktA == bktA h && x.word % 2 ^ 20 == tagOf h) then some (slotRec x.word) else none
    | none => none)
  b ++ t

/-- The first record of a list whose key is the given one, and the records read for others (R77). -/
def firstKey (s : State) (kw : List Nat) (l : List Nat) (misses : Nat) : Option Nat × Nat :=
  match l with
  | [] => (none, misses)
  | n :: l =>
    match s.record n with
    | some r => if r.words.take 6 = kw then (some n, misses) else firstKey s kw l (misses + 1)
    | none => firstKey s kw l (misses + 1)

/-- A Cellar lookup (R77): the record number, and the state with its reads and collisions counted. -/
def cellarLookup (s : State) (key : List Byte) (tn : Option Nat := none) : Option Nat × State :=
  let hs := hashesOf s key
  let r := firstKey s (keyWords key) (tagMatches s hs) 0
  let s := if r.2 = 0 then s else s.count .tagCollision 0 r.2 tn
  let reads := ((bucketsOf hs).map (fun x => x.1)).eraseDups.length
  (r.1, s.count .cellarBytes 0 (64 * reads + 128 * (r.2 + bit r.1.isSome)) tn)

/-- Bucket A or B of a key is poisoned (R92). -/
def keyPoisoned (s : State) (key : List Byte) : Bool :=
  (bucketsOf (hashesOf s key)).any (fun x => s.cellar.poisoned.contains x.1)

/-- Valid slots of a bucket. -/
def bucketFill (s : State) (b : Nat) : Nat := ((List.range 8).filter (fun i => slotAt s b i != 0)).length

/-- The same as placement counts it: a poisoned bucket has no room (R92). -/
def bucketUse (s : State) (b : Nat) : Nat := if s.cellar.poisoned.contains b then 8 else bucketFill s b

/-- The place that R79 gives a new slot: the emptier bucket with A on a tie, its lowest free slot; else the stash. Which
free stash entry is taken the spec leaves open: the lowest-numbered (DESIGN CHOICE, log entry 12). -/
def choosePlace (s : State) (h : Nat) : Option SlotLoc :=
  let a := bucketUse s (bktA h)
  let b := bucketUse s (bktB h)
  if 8 ≤ a ∧ 8 ≤ b then
    ((List.range 4096).find? (fun n => (tget none s.cellar.stash (n, 0)).isNone)).map SlotLoc.stash
  else
    let x := if a ≤ b then bktA h else bktB h
    ((List.range 8).find? (fun i => slotAt s x i == 0)).map (SlotLoc.slot x)

/-- Write a record's slot at a place. -/
def putPlace (s : State) (h recNo hint : Nat) (l : SlotLoc) : State :=
  match l with
  | .slot b i => setSlot s b i (slotWord (tagOf h) recNo hint)
  | .stash n => setStash s n (some ⟨slotWord (tagOf h) recNo hint, bktA h, bktB h⟩)

/-- A record's slot word stands at the place that a hash names. -/
def atNew (h w : Nat) (l : SlotLoc) (e : Option StashEntry) : Bool :=
  w % 2 ^ 20 == tagOf h && match l with
    | .slot b _ => b == bktA h || b == bktB h
    | .stash _ => match e with | some x => x.bktA == bktA h && x.bktB == bktB h | none => false

/-- A stash entry may move into a freed slot of a bucket: the bucket is one of its own (R79). Where the migration of a rekey has
passed the bucket, only an entry placed under H_new may, or its record would stay behind (R90; DEDUCED, log entry 50). -/
def restashOk (s : State) (b : Nat) (x : StashEntry) : Bool :=
  (x.bktA == b || x.bktB == b) &&
    match s.cellar.migrateAt with
    | none => true
    | some p => !(decide (b < p)) || match s.record (slotRec x.word) with
      | some r => atNew (hNew s (recKey r.words)) x.word (.stash 0) (some x)
      | none => false

/-- A stash entry moves into a freed slot of its bucket (R79). A poisoned bucket takes none (R92). -/
def restash (s : State) (b i : Nat) : State :=
  if s.cellar.poisoned.contains b then s
  else
    match tfind s.cellar.stash (fun _ e => match e with | some x => restashOk s b x | none => false) with
    | some (k, some x) =>
      let s := setStash (setSlot s b i x.word) k.1 none
      let n := slotRec x.word
      let s := match s.record n with
        | some r => s.setRecord n (some { r with loc := .slot b i })
        | none => s
      s.count .restash 0 1 ((s.record n).map (fun r => recTenant r.words))
    | _ => s

/-- Invalidate the slot or stash entry of a record, and move a stash entry into the room (R79, R84). -/
def clearPlace (s : State) (l : SlotLoc) : State :=
  match l with
  | .slot b i => restash (setSlot s b i 0) b i
  | .stash n => setStash s n none

/-! ### Quotas (R82) -/

/-- Charge or free one record of a tenant, and count the records in use. -/
def quotaUp (s : State) (t : Nat) : State :=
  let s := s.fset .TENANT_QUOTA_used t (s.fget .TENANT_QUOTA_used t + 1)
  s.fset .CELLAR_STATUS_records_used 0 (s.fget .CELLAR_STATUS_records_used 0 + 1)
def quotaDown (s : State) (t : Nat) : State :=
  let s := s.fset .TENANT_QUOTA_used t (s.fget .TENANT_QUOTA_used t - 1)
  s.fset .CELLAR_STATUS_records_used 0 (s.fget .CELLAR_STATUS_records_used 0 - 1)

/-- A tenant may have one more record. -/
def quotaRoom (s : State) (t : Nat) : Bool := decide (s.fget .TENANT_QUOTA_used t < s.fget .TENANT_QUOTA_limit t)

/-! ### One authoritative copy (R99) -/

/-- The way that holds a record. -/
def findWay (s : State) (n : Nat) : Option (Key × Way) :=
  s.skim.ways.findSome? (fun e => match e.2 with | some w => if w.recNo = n then some (e.1, w) else none | none => none)

/-- The miss entry whose record buffer holds a record. -/
def findBuffer (s : State) (n : Nat) : Option (Key × Miss) :=
  s.skim.misses.findSome? (fun e => match e.2 with
    | some m => match m.buffer with
      | some b => if b.1 = n then some (e.1, m) else none
      | none => none
    | none => none)

/-- The write-back entry that holds a record. -/
def findWb (s : State) (n : Nat) : Option WbEntry := s.skim.wb.findSome? (fun e => e.2.find? (fun x => x.recNo == n))

/-- The authoritative copy of a record: a way, a record buffer, a write-back entry, the Cellar (R99). -/
def authCopy (s : State) (n : Nat) : Option (List Nat) :=
  match findWay s n with
  | some (_, w) => some w.words
  | none =>
    match findBuffer s n with
    | some (_, m) => m.buffer.map (fun b => b.2.1)
    | none =>
      match findWb s n with
      | some e => some e.words
      | none => (s.record n).map (fun r => r.words)

/-- Write a way. -/
def setWay (s : State) (k : Key) (w : Option Way) : State :=
  { s with skim := { s.skim with ways := tset none s.skim.ways k w } }

/-- Write a miss entry. -/
def setMiss (s : State) (k : Key) (m : Option Miss) : State :=
  { s with skim := { s.skim with misses := tset none s.skim.misses k m } }

/-- A write-back queue. -/
def wbQueue (s : State) (bank : Nat) : List WbEntry := tget [] s.skim.wb (bank, 0)

/-- Replace a write-back queue. -/
def setWb (s : State) (bank : Nat) (l : List WbEntry) : State :=
  { s with skim := { s.skim with wb := tset [] s.skim.wb (bank, 0) l } }

/-- Change the authoritative copy of a record where it stands; a way or buffer becomes dirty (R99, R100). -/
def authWrite (s : State) (n : Nat) (w : List Nat) : State :=
  match findWay s n with
  | some (k, x) => setWay s k (some { x with words := w, dirty := true })
  | none =>
    match findBuffer s n with
    | some (k, m) => setMiss s k (some { m with buffer := some (n, w, true) })
    | none =>
      if (findWb s n).isSome then
        let t := tmap [] (fun _ l => l.map (fun e => if e.recNo = n then { e with words := w } else e)) s.skim.wb
        { s with skim := { s.skim with wb := t } }
      else
        match s.record n with
        | some r => s.setRecord n (some { r with words := w })
        | none => s

/-! ### Whey records of flows (R294 to R296) -/

/-- The 37-byte key field (R295). -/
def keyField (s : State) (key : List Byte) : List Byte :=
  let m := s.fget .WHEY_CFG_key_sel 0
  let l := ((List.range 48).filter (fun j => bits m j 1 == 1)).map (fun j => key.getD j 0#8)
  slice l 0 37

/-- The body of a flow type (R294). -/
def flowBody (s : State) (w : List Nat) (cause : Nat) : Nat :=
  leNat (keyField s (recKey w)) * 2 ^ 64 + bits (word w 7) 0 40 * 2 ^ 360 + bits (word w 8) 0 48 * 2 ^ 400 +
    bits (word w 9) 0 32 * 2 ^ 448 + recTenant w * 2 ^ 480 + cause * 2 ^ 492 + recOpcode w * 2 ^ 495 + recAgeClass w * 2 ^ 503

/-- The body of NAT_BIND and NAT_UNBIND (R296). -/
def natBody (s : State) (w : List Nat) : Nat :=
  leNat (keyField s (recKey w)) * 2 ^ 64 + word w 10 * 2 ^ 360 + word w 11 * 2 ^ 424 + recTenant w * 2 ^ 488 + recOpcode w * 2 ^ 500

/-- FLOW_END or FLOW_EVICT of a removal (R84, R293); the tenant filters the programmable counters. -/
def wheyRemoval (s : State) (w : List Nat) (cause : Nat) : State :=
  if recReportEnd w then
    wheyEmit s (if cause = 1 ∨ cause = 3 then 4 else 2) (flowBody s w cause) (recLastSeen w) (recTenant w)
  else s

/-- FLOW_EVICT of a poison discard: the key and the cause only (R92, R294). -/
def wheyPoison (s : State) (key : List Byte) (cause : Nat) : State :=
  wheyEmit s 4 (leNat (keyField s key) * 2 ^ 64 + cause * 2 ^ 492) 0 0

/-! ### Removal (R84) -/

/-- Every on-die copy of a record goes: ways, record buffers and write-back entries. -/
def dropCopies (s : State) (n : Nat) : State :=
  let ways := tmap none (fun _ w => match w with | some x => if x.recNo = n then none else w | none => none) s.skim.ways
  let wb := tmap [] (fun _ l => l.filter (fun e => e.recNo ≠ n)) s.skim.wb
  { s with skim := { s.skim with ways := ways, wb := wb }, cellar := { s.cellar with hints := s.cellar.hints.filter (fun h => h.recNo ≠ n) } }

/-- The slot is invalidated, the record number freed and the quota unit returned (R84, R92). The room takes a stash entry whatever
freed it, a discard after an error included (DESIGN CHOICE, log entry 50). -/
def freeRecord (s : State) (n : Nat) : State :=
  match s.record n with
  | none => s
  | some r =>
    let t := recTenant ((authCopy s n).getD r.words)
    quotaDown ((dropCopies (clearPlace s r.loc) n).setRecord n none) t

/-- A learned or inserted record's refusals in the order of R80: 0x13, 0x14, 0x15; or the place it takes. -/
def learnCheck (s : State) (tenant h : Nat) : Nat × Option SlotLoc :=
  if !quotaRoom s tenant then (0x13, none)
  else if 134217728 ≤ s.fget .CELLAR_STATUS_records_used 0 then (0x14, none)
  else match choosePlace s h with
    | none => (0x15, none)
    | some l => (0, some l)

/-- Count a refusal of R80. -/
def countRefusal (s : State) (reason : Nat) (tn : Option Nat := none) : State :=
  s.count (if reason = 0x13 then .quotaExceeded else if reason = 0x14 then .cellarFull else .stashFull) 0 1 tn

/-- Create a record at its place (R78 steps 1 to 4): its number is a free choice among the free ones (log entry 6). -/
def createRecord (s : State) (words : List Nat) (h : Nat) (l : SlotLoc) : Nat × State :=
  let used := s.cellar.recs.map (fun e => e.1.1)
  let (r, s) := s.draw
  let n := kthFree (r % (134217728 - used.length)) used
  let s := putPlace (quotaUp s (recTenant words)) h n (s.fget .AGE_CTL_age_epoch 0 / 256) l
  let s := match l with
    | .stash _ => s.count .learnStash 0 1 (some (recTenant words))
    | .slot _ _ => s
  (n, s.setRecord n (some ⟨words, l⟩))

end Sys2Proof.Machine
end

