-- ==== Sys2Proof/Machine/TaskOps.lean ====
section
/-! DEFINITION. Tasks and their order: predecessors of a record, ready lists, squash and replay, cancellation, NAT
reservations, slot accounting and the request queues (R96, R142 to R156, R179, R312). -/

namespace Sys2Proof.Machine

/-! ### Slot accounting (R312) -/

/-- Programmable counters of a group that are set to a slot event (R305). -/
def slotEvent (s : State) (g code n : Nat) (tenant : Option Nat) : State := progEvent s g code n tenant

/-- A slot is taken, or a stall cycle counted, before the core clock has counted it (R312). -/
def slotAhead (s : State) (g j : Nat) : State :=
  { s with telem := { s.telem with ahead := tset 0 s.telem.ahead (g, j) (tget 0 s.telem.ahead (g, j) + 1) } }

/-- The open header slots of a frame are counted as retired or wasted (R312). -/
def slotSettle (s : State) (id : Nat) (wasted : Bool) : State :=
  let f := s.frame id
  let s := f.slots.foldl (fun s i =>
    let s := s.count (if wasted then .sliceSlotWasted else .sliceSlotRetired) i 1 f.ten
    let s := slotEvent s (32 + i) (if wasted then 0xF001 else 0xF000) 1 f.ten
    s.gset .gSliceSlotInflight i (s.cget .gSliceSlotInflight i - 1)) s
  if f.slots.isEmpty then s else s.modFrame id (fun f => { f with slots := [] })

/-- The issue slots of a segment are counted as retired or wasted (R312). -/
def engineSettle (s : State) (c n : Nat) (wasted : Bool) (tenant : Option Nat) : State :=
  if n = 0 then s
  else
    let s := s.count (if wasted then .slotWasted else .slotRetired) c n tenant
    let s := slotEvent s (48 + c) (if wasted then 0xF001 else 0xF000) n tenant
    s.gset .gSlotInflight c (s.cget .gSlotInflight c - n)

/-! ### Tasks -/

/-- A task by its number. -/
def State.task? (s : State) (id : Nat) : Option Task := tget none s.churn.tasks (id, 0)

/-- Replace a task. -/
def State.setTask (s : State) (id : Nat) (t : Option Task) : State :=
  { s with churn := { s.churn with tasks := tset none s.churn.tasks (id, 0) t } }

/-- The tasks of the device with their numbers. -/
def taskList (s : State) : List (Nat × Task) := s.churn.tasks.filterMap (fun e => e.2.map (fun t => (e.1.1, t)))

/-- The tenant whose events a task's are; machine-check recovery and the rebuild of a bucket have none (R305). -/
def Task.ten (t : Task) : Option Nat :=
  match t.kind with
  | .recovery _ | .rebuild _ => none
  | _ => some t.tenant

/-- The tenant that a locked set acts for (R263, R305). -/
def setTen (s : State) (set : Nat) : Option Nat :=
  if s.fbit .RSET_OWNER_tenant_lock set then some (s.fget .RSET_OWNER_tenant set) else none

/-- The tenant whose event a lookup is (R305). -/
def waiterTen (s : State) (w : Waiter) : Option Nat :=
  match w with
  | .frame id => (s.frame id).ten
  | .cmd set _ => setTen s set

/-- The tenant of the first of what waits in a miss entry. -/
def entryTen (s : State) (m : Miss) : Option Nat := (m.waiting.head?).bind (waiterTen s)

/-- The task that runs in a context, or waits there to commit. -/
def taskAt (s : State) (c : CtxId) : Option (Nat × Task) :=
  (taskList s).find? (fun e => e.2.pos == .running c || (match e.2.pos with | .waiting d _ => d == c | _ => false))

/-- The task of a frame. -/
def taskOfFrame (s : State) (f : Nat) : Option (Nat × Task) := (taskList s).find? (fun e => e.2.frame == some f)

/-- The cluster a task occupies. -/
def TaskAt.cluster (p : TaskAt) : Option Nat :=
  match p with
  | .running c => some c.cluster
  | .waiting c _ => some c.cluster
  | .buffered c _ => some c
  | _ => none

/-- A task whose steps are built into the engines: it fetches nothing (R165; log entry 24). -/
def TaskKind.fixed (k : TaskKind) : Bool :=
  match k with
  | .command | .visit _ | .recovery _ | .rebuild _ => true
  | _ => false

/-- A task that has been dispatched and has neither committed nor ended holds its record's way, while it waits for its replay too
(R97, R147). -/
def Task.holds (t : Task) : Bool := t.dispatched && !t.committed && t.pos != .torn

/-- A task comes before another in arrival order. -/
def taskBefore (a : Nat × Task) (b : Nat × Task) : Bool :=
  a.2.place < b.2.place || (a.2.place == b.2.place && a.1 < b.1)

/-- The key of a host command (CMD descriptor). -/
def cmdKey (desc : Nat) : List Byte := leBytes 48 (desc / 2 ^ 128)

/-- A flow command that has its place and has not executed. -/
def workWaits (w : Work) : Bool := w.ring == 0 && (w.stage == .placed || w.stage == .missing || w.stage == .ready)

/-- An earlier frame or command of a key waits before it has a task (R142, R150). -/
def keyWaits (s : State) (key : List Byte) (place : Nat) : Bool :=
  s.frames.any (fun e => e.2.stage == .waiting && e.2.key == key &&
    (match e.2.place with | some p => p < place | none => false) && (taskOfFrame s e.1.1).isNone) ||
  s.host.work.any (fun w => workWaits w && w.place < place && cmdKey w.desc == key &&
    !(taskList s).any (fun e => e.2.cmd == some (w.set, w.index)))

/-- Every predecessor of a task's record has made its final commit, passed COMMIT or become a hole (R150). -/
def predsDone (s : State) (id : Nat) (t : Task) : Bool :=
  t.recNo.isNone ||
    (!(taskList s).any (fun e => e.2.recNo.isSome && e.2.key == t.key && !e.2.committed && taskBefore e (id, t)) &&
      !keyWaits s t.key t.place)

/-- A task enters the ready list of its level (R143). -/
def readyTask (s : State) (id : Nat) (t : Task) : State :=
  let s := s.setTask id (some { t with pos := .ready s.churn.readies })
  { s with churn := { s.churn with readies := s.churn.readies + 1 } }

/-- A task's next run must be non-speculative (R151, R152). -/
def Task.alone (t : Task) : Bool := t.recNo.isSome && (t.nonspec || decide (4 ≤ t.squashes))

/-- A task becomes ready, or is held until its predecessors allow it (R143, R151). -/
def placeTask (s : State) (id : Nat) (t : Task) : State :=
  if t.alone && !predsDone s id t then s.setTask id (some { t with pos := .held }) else readyTask s id t

/-- A new task. -/
def newTask (s : State) (t : Task) : State :=
  let id := s.churn.nextTask
  placeTask { s with churn := { s.churn with nextTask := id + 1 } } id t

/-- Held tasks whose predecessors are done become ready, in arrival order (R151). -/
def wake (s : State) : State :=
  let l := (taskList s).filter (fun e => e.2.pos == .held && predsDone s e.1 e.2)
  l.foldl (fun s e => readyTask s e.1 e.2) s

/-- The level of a replay (R143). -/
def replayLevel (n : Nat) : Nat := if n = 2 then 1 else n

/-! ### NAT reservations (R155, R179) -/

/-- The NAT state of a pool. -/
def natPool (s : State) (p : Nat) : NatPool := tget {} s.churn.nat (p, 0)

/-- Replace it. -/
def setNat (s : State) (p : Nat) (v : NatPool) : State := { s with churn := { s.churn with nat := tset {} s.churn.nat (p, 0) v } }

/-- Insert into a rising list of numbers. -/
def insNum (n : Nat) (l : List Nat) : List Nat :=
  match l with
  | [] => [n]
  | x :: l => if n < x then n :: x :: l else if n = x then x :: l else x :: insNum n l

/-- Change the used counts of a pool and a tenant. -/
def natCount (s : State) (p tenant : Nat) (up : Bool) : State :=
  let a := s.fget .NAT_POOL_used p
  let b := s.fget .NAT_TQUOTA_used tenant
  if up then (s.fset .NAT_POOL_used p (a + 1)).fset .NAT_TQUOTA_used tenant (b + 1)
  else (s.fset .NAT_POOL_used p (a - 1)).fset .NAT_TQUOTA_used tenant (b - 1)

/-- Reserve a port of a pool for a tenant: ports come in an order permuted at the start by the Rind TRNG, so the next one is
a free choice among those never returned, then the returned ones in their order (R179; log entry 6). -/
def natReserve (s : State) (p tenant : Nat) : Option Nat × State :=
  let v := natPool s p
  let size := s.fget .NAT_POOL_size p
  let fresh := size - v.used.length - v.returned.length
  if s.fbit .NAT_POOL_en p = false ∨ size ≤ v.used.length ∨ s.fget .NAT_TQUOTA_limit tenant ≤ s.fget .NAT_TQUOTA_used tenant then
    (none, s.event .NAT_STATUS_exhaust_event 0)
  else if 0 < fresh then
    let (r, s) := s.draw
    let n := kthFree (r % fresh) (v.returned.foldl (fun l x => insNum x l) v.used)
    (some (s.fget .NAT_POOL_base p + n), natCount (setNat s p { v with used := insNum n v.used }) p tenant true)
  else
    match v.returned with
    | n :: l => (some (s.fget .NAT_POOL_base p + n), natCount (setNat s p ⟨insNum n v.used, l⟩) p tenant true)
    | [] => (none, s.event .NAT_STATUS_exhaust_event 0)

/-- A port goes back to the end of its pool's order (R179). -/
def natFree (s : State) (p port tenant : Nat) : State :=
  let v := natPool s p
  let n := port - s.fget .NAT_POOL_base p
  natCount (setNat s p ⟨v.used.filter (fun x => x ≠ n), v.returned ++ [n]⟩) p tenant false

/-- A NAT_RETURN effect: a port outside the pool, or already free, is ignored and counted (R179). -/
def natReturn (s : State) (c p port tenant : Nat) : State :=
  let base := s.fget .NAT_POOL_base p
  if port < base ∨ base + s.fget .NAT_POOL_size p ≤ port ∨ (natPool s p).used.contains (port - base) = false then
    s.count .natBadReturn c 1 (some tenant)
  else natFree s p port tenant

/-- Every reservation of a task is returned in the cycle of its squash (R155). -/
def natUndo (s : State) (t : Task) (c : Nat) : State :=
  let held := t.ctx.posted.takes ++ (match t.ctx.take with
    | some w => match w.port with | some p => [(w.pool, p)] | none => []
    | none => [])
  held.foldl (fun s x => (natFree s x.1 x.2 t.tenant).count .natReserveReturned c 1 t.ten) s

/-! ### Squash, replay, cancel -/

/-- A context at the start of a run: empty, what the last checkpoint saved, or what COMMIT left (R151, R156, R158). After a
checkpoint the next YIELD follows it (R159). -/
def freshCtx (t : Task) : Ctx :=
  match t.atCommit, t.saved with
  | some x, _ => x
  | none, some v => { scratch := v.scratch, posted := v.posted, pc := v.pc, mayYield := true }
  | none, none => { scratch := List.replicate 16 0 }

/-- A task loses its segment: reservations returned, its issue slots wasted (R151, R312). -/
def loseSegment (s : State) (t : Task) : State :=
  let c := t.pos.cluster.getD 0
  engineSettle (natUndo s t c) c t.ctx.issues true t.ten

/-- A task is squashed for replay (R140, R151, R153, R161); `raise` tells whether its squash count rises. A task past COMMIT has no
predecessor to wait for and starts again behind its COMMIT. -/
def squashTask (s : State) (id : Nat) (t : Task) (raise : Bool) : State :=
  let s := loseSegment s t
  let s := s.count .squash (t.pos.cluster.getD 0) 1 t.ten
  let u := { t with level := replayLevel t.level, squashes := t.squashes + bit raise, ctx := freshCtx t, resumes := t.atCommit.isSome }
  if t.committed then readyTask s id u else placeTask s id u

/-- The request queue of a source and a bank (R96). -/
def requestQueue (s : State) (src bank : Nat) : List Request := tget [] s.skim.requests (src, bank)

/-- Replace it. -/
def setRequests (s : State) (src bank : Nat) (l : List Request) : State :=
  { s with skim := { s.skim with requests := tset [] s.skim.requests (src, bank) l } }

/-- The arrival place of what waits. -/
def waiterPlace (s : State) (w : Waiter) : Nat :=
  match w with
  | .frame id => ((s.frame id).place).getD 0
  | .cmd set i => ((workOf s set 0 i).map (fun w => w.place)).getD 0

/-- The key of what waits. -/
def waiterKey (s : State) (w : Waiter) : List Byte :=
  match w with
  | .frame id => (s.frame id).key
  | .cmd set i => cmdKey (((workOf s set 0 i).map (fun w => w.desc)).getD 0)

/-- A header or a command goes to the Skim lookup: its request queue is that of its slice, or of the command processor,
and of its bank (R96, R107). -/
def toLookup (s : State) (w : Waiter) : State :=
  let bank := bankOf (hNew s (waiterKey s w))
  let src := match w with | .frame id => (s.frame id).slice | .cmd _ _ => 16
  setRequests s src bank (requestQueue s src bank ++ [⟨w, false⟩])

/-- A task whose record is gone: nothing of it commits, and its frame or command returns to the Skim lookup with its place
kept (R85, R180). -/
def returnTask (s : State) (id : Nat) (t : Task) : State :=
  let s := if t.pos.cluster.isSome then (loseSegment s t).count .squash (t.pos.cluster.getD 0) 1 t.ten else s
  let s := s.setTask id none
  match t.frame, t.cmd with
  | some f, _ => toLookup s (.frame f)
  | none, some (set, i) =>
    match workOf s set 0 i with
    | some w => toLookup (workSet s { w with stage := .placed }) (.cmd set i)
    | none => s
  | none, none => s

/-- The record of a task is gone: one past COMMIT goes on without it, any other returns (R85, R156). -/
def loseTask (s : State) (id : Nat) (t : Task) : State :=
  if t.committed then s.setTask id (some { t with recNo := none }) else returnTask s id t

/-- Take a frame out of the request queues, the miss entries and the search records it waits in. -/
def unwait (s : State) (id : Nat) : State :=
  let req := tmap [] (fun _ l => l.filter (fun r => r.waiter ≠ .frame id)) s.skim.requests
  let miss := tmap none (fun _ m => m.map (fun m => { m with waiting := m.waiting.filter (fun w => w ≠ .frame id) })) s.skim.misses
  { s with skim := { s.skim with requests := req, misses := miss } }

/-- The task of a frame that ends its road before release is cancelled (R146). -/
def cancelTask (s : State) (fid : Nat) : State :=
  let s := slotSettle s fid true
  match taskOfFrame s fid with
  | some (id, t) =>
    let s :=
      if t.committed then s
      else match t.pos.cluster with
        | some c => (loseSegment s t).count .cancelInFlight c 1 t.ten
        | none => s.count .cancelBeforeDispatch 0 1 t.ten
    s.setTask id none
  | none =>
    if (s.frame fid).stage = .waiting then (unwait s fid).count .cancelBeforeDispatch 0 1 (s.frame fid).ten else s

/-- A frame ends its road with a drop, its task cancelled (R20, R146). -/
def killDrop (s : State) (fid reason : Nat) : State := dropFrame (cancelTask s fid) fid reason none

/-- A frame ends its road with a punt, its task cancelled. -/
def killPunt (s : State) (fid reason : Nat) : State := raisePunt (cancelTask s fid) fid reason none

/-- Predecessors' changes reach the successors of a record (R149): a task that has read a changed word is squashed. -/
def spreadChange (s : State) (id : Nat) (t : Task) (m : Nat) : State :=
  let l := (taskList s).filter (fun e => e.2.recNo == t.recNo && e.2.recNo.isSome && e.1 != id && !e.2.committed &&
    taskBefore (id, t) e && e.2.pos.cluster.isSome)
  l.foldl (fun s e =>
    let m' := e.2.ctx.m ||| m
    let u := { e.2 with ctx := { e.2.ctx with m := m' } }
    if m' &&& e.2.ctx.r = 0 then s.setTask e.1 (some u) else squashTask s e.1 u true) s

end Sys2Proof.Machine
end

