-- ==== Sys2Proof/Machine/SkimOps.lean ====
section
/-! DEFINITION. The Skim cache: ways and victims, the write-back queue, miss entries, and how a header or a command becomes
a task on its record (R95 to R108, R152, R182). -/

namespace Sys2Proof.Machine

/-! ### Ways -/

/-- A record is held: a dispatched task of it has neither committed nor ended (R97). -/
def held (s : State) (n : Nat) : Bool := (taskList s).any (fun e => e.2.recNo == some n && e.2.holds)

/-- A record has a task that has not ended. -/
def inTask (s : State) (n : Nat) : Bool := (taskList s).any (fun e => e.2.recNo == some n)

/-- A way becomes the most recent of its set (R97). -/
def touchWay (s : State) (k : Key) (w : Way) : State :=
  let n := s.skim.uses + 1
  setWay { s with skim := { s.skim with uses := n } } k (some { w with used := n })

/-- The way of a set that a fill takes: an invalid one, else the least recent that is not held (R97). -/
def victim (s : State) (row : Nat) : Option Nat :=
  match (List.range 8).find? (fun i => (tget none s.skim.ways (row, i)).isNone) with
  | some i => some i
  | none =>
    let free := (List.range 8).filterMap (fun i => match tget none s.skim.ways (row, i) with
      | some w => if held s w.recNo then none else some (w.used, i)
      | none => none)
    match (free.map (fun x => x.1)).min? with
    | some u => (free.find? (fun x => x.1 == u)).map (fun x => x.2)
    | none => none

/-- A record enters a bank's write-back queue (R100). -/
def wbPush (s : State) (bank : Nat) (e : WbEntry) : State :=
  let l := wbQueue s bank ++ [e]
  let s := (setWb s bank l).gmax .gWbQueuePeak bank l.length
  if 224 ≤ l.length ∧ tget false s.skim.urgent (bank, 0) = false then
    { s with skim := { s.skim with urgent := tset false s.skim.urgent (bank, 0) true } }.count .wbUrgent bank
  else s

/-- A write-back queue has shrunk: its bank's write-backs are ahead of misses until it falls to 192 (R100). -/
def wbEase (s : State) (bank : Nat) : State :=
  if (wbQueue s bank).length ≤ 192 then
    { s with skim := { s.skim with urgent := tset false s.skim.urgent (bank, 0) false } }
  else s

/-- A way gives up its record: clean ones are discarded, dirty ones go to the write-back queue (R100). -/
def evict (s : State) (k : Key) (w : Way) : State :=
  let bank := k.1 / 8192
  if w.dirty then wbPush ((setWay s k none).count .evictDirty bank 1 (some (recTenant w.words))) bank ⟨w.recNo, w.words⟩
  else (setWay s k none).count .evictClean bank 1 (some (recTenant w.words))

/-- Fill a record into a way of its set; none: no way can be freed, or a dirty victim finds the queue full (R97, R100). -/
def fillWay (s : State) (n : Nat) (words : List Nat) (dirty : Bool) : Option State :=
  let row := skimRow (hNew s (recKey words))
  let bank := row / 8192
  match victim s row with
  | none => none
  | some i =>
    let put (s : State) : State := (touchWay s (row, i) ⟨n, words, dirty, 0⟩).count .fill bank 1 (some (recTenant words))
    match tget none s.skim.ways (row, i) with
    | none => some (put s)
    | some w => if w.dirty ∧ 256 ≤ (wbQueue s bank).length then none else some (put (evict s (row, i) w))

/-! ### Tasks on a record -/

/-- A bundle by parity (R184). -/
def bundleOf (s : State) (parity : Nat) : Bundle := if parity = 0 then s.churn.bank0 else s.churn.bank1

/-- A dispatch entry: address at [13:0], valid at [14], spec_ok at [15] (R182). -/
def dispEntry (s : State) (parity opcode : Nat) : Nat := tget 0 (bundleOf s parity).disp (opcode, 0)

/-- The current epoch parity. -/
def parityNow (s : State) : Nat := s.fget .PUBLISH_STATUS_parity 0

/-- A task with the fields every task has. -/
def taskOf (kind : TaskKind) (frame : Option Nat) (cmd : Option (Nat × Nat)) (recNo : Option Nat) (key : List Byte)
    (domain place level opcode parity tenant : Nat) (nonspec : Bool) : Task :=
  { kind := kind, frame := frame, cmd := cmd, recNo := recNo, key := key, domain := domain, place := place, level := level,
    opcode := opcode, parity := parity, tenant := tenant, pos := .held, nonspec := nonspec, squashes := 0,
    committed := false, resumes := false, saved := none, ctx := { scratch := List.replicate 16 0 } }

/-- What waited becomes a task on a record: a packet task at the record's opcode, or a command task, which runs
non-speculatively (R143, R152, R165). The frame that learned the record becomes a learn task. -/
def startTask (s : State) (w : Waiter) (n : Nat) : State :=
  let words := (authCopy s n).getD []
  let op := recOpcode words
  match w with
  | .frame id =>
    let f := s.frame id
    let spec := bits (dispEntry s f.epochTag op) 15 1 == 1
    let kind : TaskKind := if f.kind = 1 then .learn else .packet
    let s := s.modFrame id (fun f => { f with kind := 0 })
    newTask s (taskOf kind (some id) none (some n) f.key f.domain (f.place.getD 0) 2 op f.epochTag f.tenant (!spec))
  | .cmd set i =>
    match workOf s set 0 i with
    | none => s
    | some v =>
      let key := cmdKey v.desc
      let s := workSet s { v with stage := .ready }
      newTask s (taskOf .command none (some (set, i)) (some n) key (domainOf v.hash) v.place 2 op (parityNow s) (recTenant words) true)

/-- A frame runs a routine with no record (R124). -/
def startForward (s : State) (id opcode : Nat) : State :=
  let f := s.frame id
  newTask s (taskOf .forward (some id) none none f.key f.domain (f.place.getD 0) 2 opcode f.epochTag f.tenant false)

/-- The task of a kind that has its context, for the kinds whose steps are built into the engines (R165; log entry 24). -/
def runningTask (s : State) (k : TaskKind) : Option (Nat × Task) :=
  (taskList s).find? (fun e => e.2.kind == k && (match e.2.pos with | .running _ => true | _ => false))

/-- Such a task ends with its commit: its context is free, and its commit is counted (R163, R165). -/
def endFixed (s : State) (id : Nat) (t : Task) : State := (s.count .commit (t.pos.cluster.getD 0) 1 t.ten).setTask id none

/-- A record is being removed, or a migration visit of it is open. -/
def inTeardown (s : State) (n : Nat) : Bool :=
  (taskList s).any (fun e => e.2.recNo == some n && (match e.2.kind with | .teardown _ => true | .visit .migrate => true | _ => false))

/-- A list of waiters on a record is handed to the dispatcher in arrival order (R104). -/
def startAll (s : State) (l : List Waiter) (n : Nat) : State := l.foldl (fun s w => startTask s w n) s

/-! ### Miss entries -/

/-- A miss entry. -/
def State.miss (s : State) (k : Key) : Option Miss := tget none s.skim.misses k

/-- Waiting-header entries of a bank in use (R102). -/
def waitersUsed (s : State) (bank : Nat) : Nat :=
  (s.skim.misses.map (fun e => if e.1.1 = bank then (match e.2 with | some m => m.waiting.length | none => 0) else 0)).sum

/-- Miss entries of a bank in use. -/
def missesUsed (s : State) (bank : Nat) : Nat := (s.skim.misses.filter (fun e => e.1.1 == bank)).length

/-- The free miss entry that a lookup takes: the lowest-numbered. -/
def freeMiss (s : State) (bank : Nat) : Option Nat := (List.range 512).find? (fun i => (s.miss (bank, i)).isNone)

/-- The open miss entry of a key. -/
def findMiss (s : State) (key : List Byte) : Option (Key × Miss) :=
  s.skim.misses.findSome? (fun e => match e.2 with | some m => if m.key = key then some (e.1, m) else none | none => none)

/-- Insert what waits at its place in arrival order (R102). -/
def insWaiter (s : State) (w : Waiter) (l : List Waiter) : List Waiter :=
  match l with
  | [] => [w]
  | x :: l => if waiterPlace s w < waiterPlace s x then w :: x :: l else x :: insWaiter s w l

/-- A miss entry is freed, and leaves its bank's search queue. -/
def freeEntry (s : State) (k : Key) : State :=
  let s := setMiss s k none
  { s with skim := { s.skim with searches := tset [] s.skim.searches (k.1, 0) ((tget [] s.skim.searches (k.1, 0)).filter (fun e => e ≠ k.2)) } }

/-- Every waiter is a FLOW_READ or FLOW_DELETE: the record is served from the buffer and not installed (R107). -/
def servesOnly (s : State) (l : List Waiter) : Bool :=
  !l.isEmpty && l.all (fun w => match w with
    | .frame _ => false
    | .cmd set i => match workOf s set 0 i with
      | some v => v.desc % 256 == 3 || v.desc % 256 == 4
      | none => false)

/-- A record in a miss entry's buffer is filled into a way if one can be freed: its waiters dispatch and the entry is freed
(R104). The buffer must leave the entry before the way takes the record, so that one copy is authoritative. -/
def tryFill (s : State) (k : Key) (m : Miss) : Option State :=
  match m.buffer with
  | none => none
  | some (n, words, dirty) =>
    (fillWay s n words dirty).map (fun s => startAll (freeEntry s k) m.waiting n)

/-- The record of a miss entry is at hand (R104, R107): it serves reads and deletes from the buffer, or is filled, or waits
for a way. The bypass_wait_ns of its arrival holds for it (R109). FLOW_READ and FLOW_DELETE are served so where the record comes
from the write-back queue too (DESIGN CHOICE, log entry 22). -/
def recordArrives (s : State) (k : Key) (m : Miss) (n : Nat) (words : List Nat) (dirty : Bool) : State :=
  let m := { m with buffer := some (n, words, dirty), search := none }
  if servesOnly s m.waiting then
    startAll (setMiss s k (some { m with stage := .served, waiting := [] })) m.waiting n
  else
    match tryFill s k m with
    | some s => s
    | none => setMiss s k (some { m with stage := .fill (s.now + s.fget .SKIM_CFG_bypass_wait_ns 0) })

/-- A miss entry whose record waits for a way, or whose reads and deletes are done, is judged again (R104, R107). -/
def retryEntry (s : State) (k : Key) : State :=
  match s.miss k with
  | none => s
  | some m =>
    match m.stage, m.buffer with
    | .fill _, some _ => (tryFill s k m).getD s
    | .served, some (n, words, dirty) =>
      if inTask s n then s
      else if m.waiting.isEmpty then
        if dirty then
          if 256 ≤ (wbQueue s k.1).length then s else wbPush (freeEntry s k) k.1 ⟨n, words⟩
        else freeEntry s k
      else (tryFill s k m).getD (setMiss s k (some { m with stage := .fill (s.now + s.fget .SKIM_CFG_bypass_wait_ns 0) }))
    | _, _ => s

/-- After any change among tasks, ways or records: held tasks are woken and waiting fills are tried (R104, R151). -/
def settle (s : State) : State :=
  let s := (s.skim.misses.map (fun e => e.1)).foldl retryEntry s
  wake s

/-- The record of a miss entry is gone: its waiters return to the lookup and the entry is freed (R85). -/
def orphan (s : State) (n : Nat) : State :=
  match findBuffer s n with
  | none => s
  | some (k, m) => m.waiting.foldl toLookup (freeEntry s k)

/-! ### Removal of a record (R84, R85) -/

/-- A teardown's removal: the Whey record, the record's end, and the return of every later task of it to the lookup. -/
def removeRecord (s : State) (id : Nat) (t : Task) (n cause : Nat) : State :=
  let words := (authCopy s n).getD []
  let s := wheyRemoval s words cause
  let s := if cause = 1 then s.count .ageRemoved 0 1 (some (recTenant words)) else if cause = 3 then s.count .rekeyEvict 0 1 (some (recTenant words))
    else if cause = 4 then s.count .purgeRemoved 0 1 (some (recTenant words)) else s
  let bank := bankOf (hNew s t.key)
  let s := if cause = 0 ∧ (findWb s n).isSome then s.count .deleteWbCancel bank 1 (some (recTenant words)) else s
  let s := (orphan (freeRecord s n) n).setTask id none
  let l := (taskList s).filter (fun e => e.2.recNo == some n)
  settle (l.foldl (fun s e => loseTask s e.1 e.2) s)

/-- A record lost to an uncorrectable error: slot, number and quota go, its key is reported, and the frames of its tasks in
flight are punted (R92, R117). -/
def discardRecord (s : State) (n reason cause : Nat) : State :=
  match s.record n with
  | none => s
  | some r =>
    let s := wheyPoison s (recKey r.words) cause
    let s := orphan (freeRecord s n) n
    let l := (taskList s).filter (fun e => e.2.recNo == some n)
    settle (l.foldl (fun s e =>
      if e.2.committed then loseTask s e.1 e.2 else
      match e.2.frame, e.2.cmd with
      | some f, _ => killPunt s f reason
      | none, some (set, i) =>
        let s := (loseSegment s e.2).setTask e.1 none
        match workOf s set 0 i with
        | some w => cmdComplete s w 7 reason 0 0
        | none => s
      | none, none => (loseSegment s e.2).setTask e.1 none) s)

end Sys2Proof.Machine
end

