-- ==== Sys2Proof/Machine/StrainerOps.lean ====
section
/-! DEFINITION. The Strainer: search keys (R125), matching (R126, R127), the shadow check (R130), and the outcome of a search
for the headers and commands of a miss entry (R78, R80, R105, R133, R393). -/

namespace Sys2Proof.Machine

/-! ### Search keys (R125) -/

/-- The 320-byte source space of a probe of a frame. -/
def sourceSpace (s : State) (f : Frame) (probe : Nat) : List Byte :=
  slice f.key 0 48 ++ slice f.bytes 0 256 ++ beBytes 2 f.ingPort ++ beBytes 2 f.tenant ++
    [BitVec.ofNat 8 (f.outer.getD f.prof), BitVec.ofNat 8 (if f.outer.isSome then f.prof else 0xFF), BitVec.ofNat 8 f.pass,
     BitVec.ofNat 8 (s.fget .SEP_PORT_CFG_port_set f.ingPort), BitVec.ofNat 8 probe] ++ List.replicate 7 0#8

/-- Bytes of a probe width. -/
def widthBytes (w : Nat) : Nat := [20, 40, 80].getD w 0

/-- The key of a probe as a number: key byte j at bits [8j+7:8j] (R122, R125). -/
def probeKey (s : State) (f : Frame) (p probe w : Nat) : Nat :=
  let src := sourceSpace s f probe
  leNat ((List.range 8).foldl (fun k i =>
    let j := p * 8 + i
    if s.fbit .STR_LKP_seg_en j ∧ s.fget .STR_LKP_seg_probe j = probe then
      putBytes k (s.fget .STR_LKP_seg_dst j) (slice src (s.fget .STR_LKP_seg_src j) (s.fget .STR_LKP_seg_len_m1 j + 1))
    else k) (List.replicate (widthBytes w) 0#8))

/-! ### Entries -/

/-- The row at an address. -/
def State.strEntry (s : State) (a : Nat) : Option StrEntry := tget none s.strainer (a, 0)

/-- Write a row. -/
def setRow (s : State) (a : Nat) (e : Option StrEntry) : State := { s with strainer := tset none s.strainer (a, 0) e }

/-- The address of the row in the block `i` places above an entry's lowest block (R121). -/
def rowAddr (a i : Nat) : Nat := a + 32768 * i

/-- A row that holds nothing. -/
def blankRow : StrEntry :=
  { width := 0, data := 0, care := 0, shadowData := 0, shadowCare := 0, prio := 0, epoch := 0, action := 0, poisoned := false }

/-- The row of an entry's image `i` (R121, R122): bits [160i+159:160i] of data and care, and in image 0 the rest. -/
def entryRow (e : StrEntry) (i : Nat) : StrEntry :=
  { (if i = 0 then e else blankRow) with
    data := bits e.data (160 * i) 160, care := bits e.care (160 * i) 160,
    shadowData := bits e.shadowData (160 * i) 160, shadowCare := bits e.shadowCare (160 * i) 160 }

/-- Write an entry as a whole, in every block of its group (R121, R123). -/
def setEntry (s : State) (a : Nat) (e : StrEntry) : State :=
  (List.range (2 ^ e.width)).foldl (fun s i => setRow s (rowAddr a i) (some (entryRow e i))) s

/-- The entry at the lowest block's address for a mode: its rows joined (R121). -/
def entryAt (t : Tab (Option StrEntry)) (a m : Nat) : Option StrEntry :=
  let rows := (List.range (2 ^ m)).map (fun i => (i, tget none t (rowAddr a i, 0)))
  let join (f : StrEntry → Nat) : Nat := (rows.map (fun r => ((r.2.map f).getD 0) * 2 ^ (160 * r.1))).sum
  if rows.all (fun r => r.2.isNone) then none
  else some { (tget none t (a, 0)).getD blankRow with
    data := join (fun x => x.data), care := join (fun x => x.care),
    shadowData := join (fun x => x.shadowData), shadowCare := join (fun x => x.shadowCare) }

/-- The most recent event of the Strainer (STR_LOG). -/
def strLog (s : State) (a kind : Nat) : State :=
  ((s.fset .STR_LOG_addr 0 a).fset .STR_LOG_kind 0 kind).fset .STR_LOG_stamp 0 s.stamp32

/-- Poisoned entries now (STR_STATUS). -/
def poisonCount (s : State) : State :=
  s.fset .STR_STATUS_poisoned_count 0 (tcount s.strainer (fun _ e => match e with | some x => x.poisoned | none => false))

/-- A row belongs to a poisoned entry: its own, or that of a lower block's row which reaches so far. -/
def rowPoisoned (t : Tab (Option StrEntry)) (a : Nat) : Bool :=
  (List.range 4).any (fun i => rowAddr 0 i ≤ a && match tget none t (a - rowAddr 0 i, 0) with
    | some x => x.poisoned && decide (i < 2 ^ x.width)
    | none => false)

/-- A row's match array is rewritten from its shadow; a poisoned entry's never is (R130, R131). -/
def scrubRow (t : Tab (Option StrEntry)) (a : Nat) (e : Option StrEntry) : Option StrEntry :=
  if rowPoisoned t a then e else e.map (fun x => { x with data := x.shadowData, care := x.shadowCare })

/-- The match arrays of an entry of a width are rewritten. -/
def scrubEntry (s : State) (a w : Nat) : State :=
  (List.range (2 ^ w)).foldl (fun s i => setRow s (rowAddr a i) (scrubRow s.strainer (rowAddr a i) (s.strEntry (rowAddr a i)))) s

/-- Ones of a number below a width. -/
def ones (v w : Nat) : Nat := ((List.range w).filter (fun i => v.testBit i)).length

/-- An entry matches a key in its match array. -/
def arrayMatch (e : StrEntry) (key : Nat) : Bool := (key ^^^ e.data) &&& e.care == 0

/-- A key matches an entry's shadow (R130). -/
def shadowMatch (e : StrEntry) (key : Nat) : Bool := (key ^^^ e.shadowData) &&& e.shadowCare == 0

/-- An entry answers a probe: its width, its validity in the frame's parity, its match (R126). -/
def answers (e : StrEntry) (w parity key : Nat) : Bool :=
  e.width == w && bits e.epoch parity 1 == 1 && arrayMatch e key

/-- One entry beats another: priority, then cared bits, then the lower address; entries are met in rising order (R126). -/
def beats (w : Nat) (e b : StrEntry) : Bool :=
  b.prio < e.prio || (b.prio == e.prio && ones b.care (widthBytes w * 8) < ones e.care (widthBytes w * 8))

/-- The entry a probe returns, with one address masked (R126, R130). -/
def probeBest (t : Tab (Option StrEntry)) (w parity key : Nat) (masked : Option Nat) : Option (Nat × StrEntry) :=
  t.foldl (fun best x => match x.2 with
    | none => best
    | some r =>
      let e := (entryAt t x.1.1 r.width).getD r
      if masked = some x.1.1 ∨ answers e w parity key = false then best
      else match best with
        | none => some (x.1.1, e)
        | some b => if beats w e b.2 then some (x.1.1, e) else best) none

/-- PUNT with reason STRAINER_POISON as an action entry (R130). -/
def poisonAction : Nat := 2 + 0x18 * 2 ^ 17

/-- A probe's winner meets its checks (R130): its action entry, or the poison verdict. `bad` lists the addresses whose SRAM
shows an uncorrectable error. None: a false hit. -/
def checkWinner (s : State) (bad : List Nat) (key : Nat) (a : Nat) (e : StrEntry)
    (tn : Option Nat := none) : Option (Nat × State) :=
  if e.poisoned ∨ ((s.strEntry a).map (fun x => x.poisoned)).getD false then some (poisonAction, s.count .poisonHit 0 1 tn)
  else if bad.contains a then
    let s := match s.strEntry a with
      | some x => setRow s a (some { x with poisoned := true })
      | none => s
    some (poisonAction, ((strLog (poisonCount s) a 2).event .STR_STATUS_poison_event 0).count .poisonHit 0 1 tn)
  else if shadowMatch e key then some (e.action, s)
  else none

/-- A false hit is counted and logged, and the scrubber rewrites the entry (R130). -/
def falseHit (s : State) (a w kind : Nat) (tn : Option Nat := none) : State :=
  (strLog (scrubEntry s a w) a kind).count .falseHit 0 1 tn

/-- One probe with its repeat (R126, R130): address and action entry of the match, or none. -/
def runProbe (s : State) (t : Tab (Option StrEntry)) (bad : List Nat) (w parity key : Nat)
    (tn : Option Nat := none) : Option (Nat × Nat) × State :=
  match probeBest t w parity key none with
  | none => (none, s)
  | some (a, e) =>
    match checkWinner s bad key a e tn with
    | some (act, s) => (some (a, act), s.count .probeHit 0 1 tn)
    | none =>
      let s := (falseHit s a w 0 tn).count .probeIssue 0 1 tn
      match probeBest t w parity key (some a) with
      | none => (none, s)
      | some (a, e) =>
        match checkWinner s bad key a e tn with
        | some (act, s) => (some (a, act), s.count .probeHit 0 1 tn)
        | none => (some (a, poisonAction), (falseHit s a w 3 tn).count .repeatLimit 0 1 tn)

/-- What a search decides (R127): the deciding entry, its address if a probe decided, the second entry. -/
structure Decision where
  entry : Nat
  addr : Option Nat
  second : Nat
  deriving DecidableEq, Repr

/-- The action of an entry: 0 LEARN, 1 FORWARD, 2 PUNT, 3 DROP, 4 CONTINUE. -/
def actOf (e : Nat) : Nat := e % 8

/-- A search is decided from its probes (R127); `d` is the default_action of its lookup profile. -/
def decideSearch (s : State) (d : Nat) (r0 r1 : Option (Nat × Nat)) (tn : Option Nat := none) : Decision × State :=
  let e0 := (r0.map (fun x => x.2)).getD 0
  let e1 := (r1.map (fun x => x.2)).getD 0
  let cont := match r0 with | some x => actOf x.2 == 4 | none => false
  let s := if cont then s.count .continueTaken 0 1 tn else s
  match r0 with
  | some x => if !cont then (⟨x.2, some x.1, e1⟩, s) else
      match r1 with
      | some y => if actOf y.2 ≠ 4 then (⟨y.2, some y.1, e0⟩, s)
          else (⟨d, none, e0⟩, (s.count .continueTaken 0 1 tn).count .defaultUsed 0 1 tn)
      | none => (⟨d, none, e0⟩, s.count .defaultUsed 0 1 tn)
  | none =>
      match r1 with
      | some y => if actOf y.2 ≠ 4 then (⟨y.2, some y.1, 0⟩, s)
          else (⟨d, none, e1⟩, (s.count .continueTaken 0 1 tn).count .defaultUsed 0 1 tn)
      | none => (⟨d, none, 0⟩, s.count .defaultUsed 0 1 tn)

/-- The match array of an entry of a width shows other bits. -/
def arrayBits (t : Tab (Option StrEntry)) (a w d c : Nat) : Tab (Option StrEntry) :=
  (List.range (2 ^ w)).foldl (fun t i => tset none t (rowAddr a i, 0) ((tget none t (rowAddr a i, 0)).map (fun x =>
    { x with data := bits d (160 * i) 160, care := bits c (160 * i) 160 }))) t

/-- A soft error shows in the tables a search reads (R130). -/
def applyErr (s : State) (t : Tab (Option StrEntry)) (e : StrainerErr) : Tab (Option StrEntry) × State :=
  match e with
  | .matchArray a d c =>
    let w := ((s.strEntry a).map (fun x => x.width)).getD 0
    (arrayBits t a w d.toNat c.toNat, { s with strainer := arrayBits s.strainer a w d.toNat c.toNat })
  | .corrected a => (t, (strLog s a 1).count .sramCorrected 0)
  | .uncorrectable _ => (t, s)

/-! ### Ends of headers -/

/-- A frame that has no task, or whose task ends by rule, is dropped: its header slots are retired. -/
def endDrop (s : State) (id reason : Nat) : State := dropFrame (slotSettle s id false) id reason none

/-- The same with a punt. -/
def endPunt (s : State) (id reason : Nat) : State := raisePunt (slotSettle s id false) id reason none

/-- What waits ends at a poisoned bucket (R92). -/
def poisonEnd (s : State) (w : Waiter) : State :=
  match w with
  | .frame id => endPunt s id 0x16
  | .cmd set i => match workOf s set 0 i with
    | some v => cmdComplete s v 7 0x16 0 0
    | none => s

/-- A flow command finds no record: its completion is due (R393). -/
def noRecord (s : State) (set i : Nat) : State :=
  match workOf s set 0 i with
  | some w => workSet s { w with stage := .ready }
  | none => s

/-- What happens to a waiting header (R105). -/
inductive HeaderAct where
  | forward (entry second : Nat) (addr : Option Nat)
  | punt (reason : Nat) (addr : Option Nat)
  | drop (reason : Nat)
  deriving DecidableEq, Repr

/-- A header takes an outcome (R105, R124). -/
def headerAct (s : State) (id : Nat) (a : HeaderAct) : State :=
  match a with
  | .forward e second _ =>
    startForward (s.modFrame id (fun f => { f with m4 := e, m5 := second, strAddr := none })) id (bits e 3 8)
  | .punt r addr => endPunt (s.modFrame id (fun f => { f with strAddr := addr })) id r
  | .drop r => endDrop s id r

/-- What waits is a FLOW_INSERT. -/
def isInsert (s : State) (w : Waiter) : Bool :=
  match w with
  | .frame _ => false
  | .cmd set i => match workOf s set 0 i with | some v => v.desc % 256 == 1 | none => false

/-- The outcome of a search applies to what waits ahead of the first FLOW_INSERT; from there the entry waits for the insert
(R393). `c` is counted once for each header. -/
def afterOutcome (s : State) (k : Key) (m : Miss) (a : HeaderAct) (c : State → State) : State :=
  let ahead := m.waiting.takeWhile (fun w => !isInsert s w)
  let rest := m.waiting.dropWhile (fun w => !isInsert s w)
  let s := if rest.isEmpty then freeEntry s k
    else setMiss (freeEntry s k) k (some { m with stage := .insert, waiting := rest, search := none })
  ahead.foldl (fun s w => match w with
    | .frame id => headerAct (c s) id a
    | .cmd set i => noRecord s set i) s

/-- The words of a learned record (R70). -/
def learnWords (s : State) (f : Frame) (d : Decision) : List Nat :=
  let ns := f.stamp / 65536 % 2 ^ 32
  let e := d.entry
  keyWords f.key ++
    [bits e 11 3 * 2 ^ 16 + bits e 14 1 * 2 ^ 19 + bits e 15 1 * 2 ^ 21 + bits e 16 1 * 2 ^ 22 + bits e 3 8 * 2 ^ 24 +
       f.tenant * 2 ^ 32 + f.domain * 2 ^ 44,
     d.addr.getD 0 * 2 ^ 40 + bit d.addr.isSome * 2 ^ 58,
     s.fget .AGE_CTL_age_epoch 0 * 2 ^ 48,
     ns + ns * 2 ^ 32] ++ List.replicate 6 0

/-- The refusal action of a reason (R80). -/
def refusalAct (s : State) (reason : Nat) (d : Decision) : HeaderAct :=
  let a := if reason = 0x13 then s.fget .CELLAR_CFG_quota_action 0 else if reason = 0x14 then s.fget .CELLAR_CFG_full_action 0
    else s.fget .CELLAR_CFG_stash_action 0
  if a = 0 then .drop reason else if a = 2 then .forward d.entry d.second d.addr else .punt reason none

/-- The first waiting frame. -/
def firstFrame (l : List Waiter) : Option Nat := l.findSome? (fun w => match w with | .frame id => some id | .cmd _ _ => none)

/-- A decision is applied to the headers of a miss entry (R78, R80, R105). Nothing is learned for a key with a poisoned bucket
(R92). -/
def applyDecision (s : State) (k : Key) (m : Miss) (d : Decision) : State :=
  match actOf d.entry, firstFrame m.waiting with
  | 0, some id =>
    let f := s.frame id
    let h := hNew s f.key
    if keyPoisoned s f.key then m.waiting.foldl poisonEnd (freeEntry s k) else
    match learnCheck s f.tenant h with
    | (_, some l) =>
      let words := learnWords s f d
      let (n, s) := createRecord s words h l
      let s := s.count .learnOk 0 1 f.ten
      let s := s.modFrame id (fun f => { f with kind := 1, m4 := d.entry, m5 := d.second, strAddr := none })
      recordArrives s k m n words true
    | (r, none) => afterOutcome s k m (refusalAct s r d) (fun s => countRefusal s r f.ten)
  | 1, _ => afterOutcome s k m (.forward d.entry d.second d.addr) id
  | 2, _ => afterOutcome s k m (.punt (bits d.entry 17 8) d.addr) id
  | 3, _ => afterOutcome s k m (.drop (bits d.entry 17 8)) id
  | _, _ => afterOutcome s k m (.drop 0x10) id

/-- The overload action of a lookup profile (R133). -/
def overloadAct (s : State) (p : Nat) : HeaderAct :=
  match s.fget .STR_LKP_overload_action p with
  | 0 => .punt 0x12 none
  | 1 => .drop 0x12
  | _ => .forward (s.fget .STR_LKP_default_action p) 0 none

/-- A miss entry makes its search on a frame (R105, R125, R133). With search_en = 0 the search issues no probe, and
default_action decides it at once (R105, R136). -/
def startSearch (s : State) (k : Key) (m : Miss) (id : Nat) : State :=
  let f := s.frame id
  let p := f.prof
  let q := tget [] s.skim.searches (k.1, 0)
  if s.fbit .STR_LKP_search_en p = false then applyDecision ((s.count .search 0 1 f.ten).count .defaultUsed 0 1 f.ten) k m ⟨s.fget .STR_LKP_default_action p, none, 0⟩
  else if 256 ≤ q.length then afterOutcome s k m (overloadAct s p) (fun s => s.count .newFlowOverload k.1 1 f.ten)
  else
    let v : Search := { frame := id, prof := p, width0 := s.fget .STR_LKP_width0 p, width1 := s.fget .STR_LKP_width1 p,
                        two := s.fbit .STR_LKP_probe1_en p, dflt := s.fget .STR_LKP_default_action p, parity := f.epochTag,
                        key0 := probeKey s f p 0 (s.fget .STR_LKP_width0 p), key1 := probeKey s f p 1 (s.fget .STR_LKP_width1 p),
                        view := [] }
    let s := setMiss s k (some { m with stage := .queued, search := some v })
    let s := { s with skim := { s.skim with searches := tset [] s.skim.searches (k.1, 0) (q ++ [k.2]) } }
    s.gmax .gQueuePeak k.1 (q.length + 1)

/-- No record exists for a miss entry's key: what waits is served in arrival order (R393). -/
def serveNew (fuel : Nat) (s : State) (k : Key) (m : Miss) : State :=
  match fuel with
  | 0 => s
  | fuel + 1 =>
    match m.waiting with
    | [] => freeEntry s k
    | .frame id :: _ => startSearch s k m id
    | .cmd set i :: l =>
      if isInsert s (.cmd set i) then setMiss s k (some { m with stage := .insert })
      else serveNew fuel (noRecord s set i) k { m with waiting := l }

end Sys2Proof.Machine
end

