-- ==== Sys2Proof/Machine/SkimRows.lean ====
section
/-! DEFINITION. The meanings of the rows of the Skim cache, the Strainer and the Cellar's walkers: lookups, misses, searches,
bypass, write-back, errors, sweeps, purges and the rekey (R77 to R137, R302). -/

namespace Sys2Proof.Machine

/-! ### Lookups (R96 to R108) -/

/-- The slot word of a record, where it stands. -/
def placeWord (s : State) (l : SlotLoc) : Nat :=
  match l with
  | .slot b i => slotAt s b i
  | .stash n => match tget none s.cellar.stash (n, 0) with | some e => e.word | none => 0

/-- The stash entry of a place, when it is one. -/
def stashAt (s : State) (l : SlotLoc) : Option StashEntry :=
  match l with
  | .stash i => tget none s.cellar.stash (i, 0)
  | .slot _ _ => none

/-- A record stands at its H_new place. -/
def slotNew (s : State) (r : Rec) : Bool := atNew (hNew s (recKey r.words)) (placeWord s r.loc) r.loc (stashAt s r.loc)

/-- A record's slot is moved to its H_new place and its old one freed (R90 steps 2 and 3). A stashed record whose new buckets are full
keeps its stash entry, under the new hash. None: there is no room. -/
def movePlace (s : State) (n : Nat) (r : Rec) : Option State :=
  let h := hNew s (recKey r.words)
  let hint := bits (placeWord s r.loc) 48 8
  let full := decide (8 ≤ bucketUse s (bktA h)) && decide (8 ≤ bucketUse s (bktB h))
  match full, r.loc, choosePlace s h with
  | true, .stash i, _ => some ((setStash s i (some ⟨slotWord (tagOf h) n hint, bktA h, bktB h⟩)).count .rekeyMigrated 0 1 (some (recTenant r.words)))
  | _, _, some l => some ((clearPlace (putPlace (s.setRecord n (some { r with loc := l })) h n hint l) r.loc).count .rekeyMigrated 0 1 (some (recTenant r.words)))
  | _, _, none => none

/-- A record that a Cellar lookup found at its H_old place is moved to its H_new place (R90 step 2). One that has no room there is left
to the migration, which removes it (R91). -/
def moveSlot (s : State) (n : Nat) : State :=
  if s.cellar.kNew.isNone then s
  else
    match s.record n with
    | some r => if slotNew s r then s else (movePlace s n r).getD s
    | none => s

/-- The way that holds a key, at the H_new location or at the H_old one (R90). -/
def findHit (s : State) (key : List Byte) : Option (Key × Way) :=
  let kw := keyWords key
  (hashesOf s key).findSome? (fun h => (List.range 8).findSome? (fun i =>
    match tget none s.skim.ways (skimRow h, i) with
    | some w => if w.words.take 6 = kw then some ((skimRow h, i), w) else none
    | none => none))

/-- A way stands in the set that H_new gives its record. -/
def wayNew (s : State) (k : Key) (w : Way) : Bool := k.1 == skimRow (hNew s (recKey w.words))

/-- A record leaves a way of its old set for its new set; with no way to give there it is written back (R90 step 2, R116). None:
the write-back queue is full, and the move waits (R100). -/
def moveWay (s : State) (k : Key) (w : Way) : Option State :=
  let s := setWay s k none
  let bank := k.1 / 8192
  match fillWay s w.recNo w.words w.dirty with
  | some s => some s
  | none =>
    if !w.dirty then some s
    else if 256 ≤ (wbQueue s bank).length then none
    else some (wbPush s bank ⟨w.recNo, w.words⟩)

/-- The command of a lookup that waits in a miss entry. -/
def markMissing (s : State) (w : Waiter) : State :=
  match w with
  | .frame _ => s
  | .cmd set i => match workOf s set 0 i with
    | some v => workSet s { v with stage := .missing }
    | none => s

/-- A lookup that cannot go on is counted once and stays at the head of its queue (R102). -/
def turnBack (s : State) (src bank : Nat) (r : Request) (l : List Request) (c : Ctr) : State :=
  if r.counted then s else setRequests (s.count c bank 1 (waiterTen s r.waiter)) src bank ({ r with counted := true } :: l)

/-- A lookup joins the open miss entry of its key (R102, R107, R108). -/
def joinMiss (s : State) (bank : Nat) (w : Waiter) (k : Key) (m : Miss) : State :=
  let tn := waiterTen s w
  let s := (s.count .lookup bank 1 tn).count .join bank 1 tn
  match m.stage, m.buffer with
  | .bypass, some b => startTask s w b.1
  | .served, some b =>
    if m.waiting.isEmpty && servesOnly s [w] then startTask s w b.1
    else setMiss (markMissing s w) k (some { m with waiting := insWaiter s w m.waiting })
  | _, _ => setMiss (markMissing s w) k (some { m with waiting := insWaiter s w m.waiting })

/-- A lookup opens a miss entry (R100, R102). -/
def openMiss (s : State) (bank n : Nat) (w : Waiter) : State :=
  let key := waiterKey s w
  let kw := keyWords key
  let m : Miss := { key := key, stage := .lookup, opened := s.now, waiting := [w], buffer := none, search := none }
  let tn := waiterTen s w
  let s := markMissing s w
  match s.skim.wb.findSome? (fun e => (e.2.find? (fun x => x.words.take 6 == kw)).map (fun x => (e.1.1, x))) with
  | some (b, x) =>
    if keyPoisoned s key then poisonEnd ((s.count .lookup bank 1 tn).count .wbHit bank 1 tn) w else
    let s := wbEase (setWb s b ((wbQueue s b).filter (fun e => e.recNo ≠ x.recNo))) b
    let s := ((s.count .lookup bank 1 tn).count .wbHit bank 1 tn).gmax .gMissEntriesPeak bank (missesUsed s bank + 1)
    recordArrives (setMiss s (bank, n) (some m)) (bank, n) m x.recNo x.words true
  | none =>
    let s := setMiss ((s.count .lookup bank 1 tn).count .missOpen bank 1 tn) (bank, n) (some m)
    s.gmax .gMissEntriesPeak bank (missesUsed s bank)

/-- A lookup that finds no way joins the miss entry of its key or opens one (R102). Every lookup counts where it ends, at a poisoned
bucket too, which a new miss finds with its Cellar lookup (R92, R118). -/
def lookupMiss (s : State) (src bank : Nat) (r : Request) (l : List Request) : State :=
  let key := waiterKey s r.waiter
  let s' := setRequests s src bank l
  let tn := waiterTen s r.waiter
  match findMiss s key with
  | some (k, m) =>
    if keyPoisoned s key then poisonEnd ((s'.count .lookup bank 1 tn).count .join bank 1 tn) r.waiter
    else if m.stage ≠ .bypass ∧ 4096 ≤ waitersUsed s k.1 then turnBack s src bank r l .waitPoolFull
    else joinMiss s' bank r.waiter k m
  | none =>
    match freeMiss s bank with
    | none => turnBack s src bank r l .missEntryFull
    | some n => if 4096 ≤ waitersUsed s bank then turnBack s src bank r l .waitPoolFull else openMiss s' bank n r.waiter

/-- One lookup (R90, R96, R99, R102, R107). -/
def lookupOne (s : State) (src bank : Nat) (r : Request) (l : List Request) : State :=
  let key := waiterKey s r.waiter
  let s' := setRequests s src bank l
  match findHit s key with
  | none => lookupMiss s src bank r l
  | some (k, w) =>
    let tn := waiterTen s r.waiter
    let hit (s : State) : State := (s.count .lookup bank 1 tn).count .hit bank 1 tn
    if keyPoisoned s key then poisonEnd (hit s') r.waiter
    else if wayNew s k w then startTask (touchWay (hit s') k w) r.waiter w.recNo
    else
      match moveWay s k w with
      | none => s
      | some m =>
        if (findWay m w.recNo).isSome then startTask (hit (setRequests m src bank l)) r.waiter w.recNo else lookupMiss m src bank r l

/-- A bank takes lookups: its domain runs and it is not being flushed (R119). -/
def bankOpen (s : State) (bank : Nat) : Bool :=
  bank < 16 && s.runs (pdBank bank) && bits (s.fget .SKIM_STATUS_bank_held 0) bank 1 == 0

/-- SKIM_LOOKUP (R96). -/
def execSkimLookup (source bank : Nat) (s : State) : Host.Outcome State Fault Refusal :=
  .next (
    match requestQueue s source bank with
    | [] => s
    | r :: l => if bankOpen s bank then settle (lookupOne s source bank r l) else s)

/-- CELLAR_LOOKUP_COMPLETE (R77, R104, R393). -/
def execCellarLookupComplete (bank entry : Nat) (s : State) : Host.Outcome State Fault Refusal :=
  .next (
    match s.miss (bank, entry) with
    | none => s
    | some m =>
      if m.stage ≠ .lookup then s
      else if keyPoisoned s m.key then
        settle (m.waiting.foldl poisonEnd (freeEntry (s.count .missLatencySum bank (s.now - m.opened) (entryTen s m)) (bank, entry)))
      else
        let tn := entryTen s m
        let (r, s) := cellarLookup s m.key tn
        let s := s.count .missLatencySum bank (s.now - m.opened) tn
        match r with
        | some n =>
          let s := moveSlot s n
          settle (recordArrives s (bank, entry) m n (((s.record n).map (fun r => r.words)).getD []) false)
        | none => settle (serveNew (m.waiting.length + 1) (s.count .missNewFlow bank 1 tn) (bank, entry) m))

/-! ### Searches (R127, R132) -/

/-- The blocks that serve a probe width have reloaded after a reset (R137). -/
def widthReady (s : State) (w : Nat) : Bool :=
  (List.range 8).all (fun b => s.fget .STR_BLOCK_CFG_mode b != w || s.runs (128 + b))

/-- STRAINER_PROBE_ISSUE (R132): the head of a bank's search queue is issued. -/
def execStrainerProbeIssue (bank : Nat) (s : State) : Host.Outcome State Fault Refusal :=
  .next (
    match tget [] s.skim.searches (bank, 0) with
    | [] => s
    | e :: l =>
      match s.miss (bank, e) with
      | some m =>
        match m.search with
        | some v =>
          if widthReady s v.width0 && (!v.two || widthReady s v.width1) then
            let s := { s with skim := { s.skim with searches := tset [] s.skim.searches (bank, 0) l } }
            let s := setMiss s (bank, e) (some { m with stage := .searching s.now, search := some { v with view := s.strainer } })
            (s.count .search 0 1 (s.frame v.frame).ten).count .probeIssue 0 (1 + bit v.two) (s.frame v.frame).ten
          else s
        | none => s
      | none => { s with skim := { s.skim with searches := tset [] s.skim.searches (bank, 0) l } })

/-- STRAINER_SEARCH_COMPLETE (R127, R130): the probes are matched on the entries as they stood at the issue. -/
def execStrainerSearchComplete (bank entry : Nat) (errs : List StrainerErr) (s : State) : Host.Outcome State Fault Refusal :=
  .next (
    match s.miss (bank, entry) with
    | some m =>
      match m.stage, m.search with
      | .searching _, some v =>
        let (t, s) := errs.foldl (fun x e => applyErr x.2 x.1 e) (v.view, s)
        let bad := errs.filterMap (fun e => match e with | .uncorrectable a => some a | _ => none)
        let tn := (s.frame v.frame).ten
        let (r0, s) := runProbe s t bad v.width0 v.parity v.key0 tn
        let (r1, s) := if v.two then runProbe s t bad v.width1 v.parity v.key1 tn else (none, s)
        let (d, s) := decideSearch s v.dflt r0 r1 tn
        settle (applyDecision s (bank, entry) m d)
      | _, _ => s
    | none => s)

/-- SCRUB_PASS (R131). -/
def execScrubPass (s : State) : Host.Outcome State Fault Refusal :=
  .next ({ s with strainer := tmap none (fun k e => scrubRow s.strainer k.1 e) s.strainer }.count .scrubPass 0)

/-! ### Bypass and write-back (R100, R101, R108) -/

/-- SKIM_BYPASS (R108): no way could be freed within bypass_wait_ns. -/
def execSkimBypass (bank entry : Nat) (s : State) : Host.Outcome State Fault Refusal :=
  .next (
    match s.miss (bank, entry) with
    | some m =>
      match m.stage, m.buffer with
      | .fill due, some b =>
        if s.now < due then s
        else
          match tryFill s (bank, entry) m with
          | some s => settle s
          | none =>
            let s := setMiss (s.count .skimBypass bank 1 (entryTen s m)) (bank, entry) (some { m with stage := .bypass, waiting := [] })
            settle (startAll s m.waiting b.1)
      | _, _ => s
    | none => s)

/-- BYPASS_EXIT (R108). -/
def execBypassExit (bank entry : Nat) (s : State) : Host.Outcome State Fault Refusal :=
  .next (
    match s.miss (bank, entry) with
    | some m =>
      match m.stage, m.buffer with
      | .bypass, some (n, words, dirty) =>
        if inTask s n ∨ m.waiting ≠ [] then s
        else
          match tryFill s (bank, entry) m with
          | some s => settle s
          | none =>
            if dirty then
              if 256 ≤ (wbQueue s bank).length then s else wbPush (freeEntry s (bank, entry)) bank ⟨n, words⟩
            else freeEntry s (bank, entry)
      | _, _ => s
    | none => s)

/-- Rewrite the age hint of a slot word. -/
def putHint (s : State) (l : SlotLoc) (hint : Nat) : State :=
  let w := setBits (placeWord s l) 48 8 hint
  match l with
  | .slot b i => setSlot s b i w
  | .stash n => match tget none s.cellar.stash (n, 0) with
    | some e => setStash s n (some { e with word := w })
    | none => s

/-- A record is written to its place in the record region, and its hint rewrite is asked for if it changes (R100, R101). -/
def writeRecord (s : State) (e : WbEntry) : State :=
  match s.record e.recNo with
  | none => s
  | some r =>
    let s := (s.setRecord e.recNo (some { r with words := e.words })).count .cellarBytes 0 128 (some (recTenant e.words))
    let hint := recAgeEpoch e.words / 256
    if bits (placeWord s r.loc) 48 8 = hint then s
    else { s with cellar := { s.cellar with hints := s.cellar.hints ++ [⟨e.recNo, hint, s.now⟩] } }

/-- WRITEBACK (R100): the oldest record of a bank's write-back queue is written. -/
def execWriteback (bank : Nat) (s : State) : Host.Outcome State Fault Refusal :=
  .next (
    match wbQueue s bank with
    | [] => s
    | e :: l => settle (writeRecord (wbEase (setWb s bank l) bank) e))

/-- The tenant of a record by its number (R305). -/
def recTen (s : State) (n : Nat) : Option Nat := (s.record n).map (fun r => recTenant r.words)

/-- HINT_REWRITE (R101): one that is more than 10 us old is dropped. -/
def execHintRewrite (s : State) : Host.Outcome State Fault Refusal :=
  .next (
    match s.cellar.hints with
    | [] => s
    | h :: l =>
      let s := { s with cellar := { s.cellar with hints := l } }
      if h.since + 10000 < s.now then s.count .hintSkip 0 1 (recTen s h.recNo) else
      match s.record h.recNo with
      | some r => ((putHint s r.loc h.hint).count .hintWrite 0 1 (some (recTenant r.words))).count .cellarBytes 0 64 (some (recTenant r.words))
      | none => s)

/-- HINT_SKIP (R101): a rewrite that could not be issued within 10 us is dropped. -/
def execHintSkip (s : State) : Host.Outcome State Fault Refusal :=
  .next (
    match s.cellar.hints with
    | [] => s
    | h :: l => if h.since + 10000 ≤ s.now then { s with cellar := { s.cellar with hints := l } }.count .hintSkip 0 1 (recTen s h.recNo) else s)

/-! ### Errors (R92, R117) -/

/-- HBM_ECC_ERROR (R92). The rebuild of a poisoned bucket is a level-3 task (R143). -/
def execHbmEccError (err : HbmErr) (s : State) : Host.Outcome State Fault Refusal :=
  .next (
    match err with
    | .corrected => { s with cellar := { s.cellar with corrected := s.cellar.corrected + 1 } }
    | .bucket b =>
      if s.cellar.poisoned.contains b ∨ 33554432 ≤ b then s
      else
        let s := { s with cellar := { s.cellar with poisoned := insNum b s.cellar.poisoned } }.count .poisonBucket 0
        newTask s (taskOf (.rebuild b) none none none [] 0 0 3 0 (parityNow s) 0 true)
    | .record n =>
      match s.record n with
      | none => s
      | some r =>
        if (findWay s n).isSome ∨ (findBuffer s n).isSome ∨ (findWb s n).isSome then s
        else
          let key := recKey r.words
          let s := (discardRecord s n 0x16 5).count .poisonRecord 0 1 (recTen s n)
          match findMiss s key with
          | some (k, m) =>
            if m.stage ≠ .lookup then s
            else
              match m.waiting with
              | [] => s
              | w :: l => settle (serveNew (l.length + 1) (poisonEnd s w) k { m with waiting := l })
          | none => s)

/-- POISON_BUCKET_REBUILD_DONE (R92): the rebuild that runs for a bucket ends, and its mark is cleared. -/
def execPoisonBucketRebuildDone (bucket : Nat) (s : State) : Host.Outcome State Fault Refusal :=
  .next (
    match runningTask s (.rebuild bucket) with
    | some (id, t) =>
      let s := endFixed s id t
      { s with cellar := { s.cellar with poisoned := s.cellar.poisoned.filter (fun b => b ≠ bucket) } }.event .CELLAR_STATUS_poison_event 0
    | none => s)

/-- A dirty record is lost in a bank (R117). -/
def skimPoison (s : State) (bank n : Nat) : State :=
  (((discardRecord s n 0x17 6).count .poisonDirty bank 1 (recTen s n))).event .SKIM_STATUS_poison_event 0

/-- SKIM_ECC_ERROR (R117). -/
def execSkimEccError (err : SkimErr) (s : State) : Host.Outcome State Fault Refusal :=
  .next (
    match err with
    | .corrected bank => if bank < 16 ∧ s.runs (pdBank bank) then s.count .eccCorrected bank else s
    | .way bank set way =>
      match tget none s.skim.ways (bank * 8192 + set, way) with
      | none => s
      | some w => if w.dirty then skimPoison s bank w.recNo
          else settle ((setWay s (bank * 8192 + set, way) none).count .eccCleanDrop bank 1 (some (recTenant w.words)))
    | .writeBack bank i =>
      match (wbQueue s bank)[i]? with
      | none => s
      | some e => skimPoison s bank e.recNo)

/-! ### Walkers (R84 to R91, R135, R302) -/

/-- A removal that no frame asked for takes a place of its own and runs the record's teardown entry at level 3 (R84, R143). -/
def startTeardown (s : State) (n cause place level : Nat) (cmd : Option (Nat × Nat)) : State :=
  let words := (authCopy s n).getD []
  let key := recKey words
  newTask s (taskOf (.teardown cause) none cmd (some n) key (domainOf (hOld s key)) place level (recOpcode words) (parityNow s)
    (recTenant words) true)

/-- The next arrival place is taken. -/
def takePlace (s : State) : Nat × State := (s.nextPlace, { s with nextPlace := s.nextPlace + 1 })

/-- The records that a walker meets at a position: the valid slots of a bucket, or one stash entry. -/
def recordsAt (s : State) (p : Nat) : List Nat :=
  if p < 33554432 then
    (List.range 8).filterMap (fun i => if slotAt s p i = 0 then none else some (slotRec (slotAt s p i)))
  else match tget none s.cellar.stash (p - 33554432, 0) with
    | some e => [slotRec e.word]
    | none => []

/-- A walker has positions left: 2^25 buckets, then 4,096 stash entries. -/
def walkEnd : Nat := 33554432 + 4096

/-- A walker's visit of a record: a level-3 task that runs in its place in the record's order and never speculatively (R142,
R143, R152). Its steps are built into the engines, like those of a host command (R165; DEDUCED, log entry 24). -/
def startVisit (s : State) (w : Walker) (n : Nat) : State :=
  let (p, s) := takePlace s
  let words := (authCopy s n).getD []
  let key := recKey words
  newTask s (taskOf (.visit w) none none (some n) key (domainOf (hOld s key)) p 3 (recOpcode words) (parityNow s) (recTenant words) true)

/-- Visits of a walker that have not ended. -/
def visitsOpen (s : State) (w : Walker) : Bool := (taskList s).any (fun e => e.2.kind == .visit w)

/-- A walker goes one step on: a visit that has its context and sees its earlier tasks done acts on its record and ends; with no
visit open, `move` takes the walker on. -/
def walkStep (s : State) (w : Walker) (act : State → Task → Nat → Option State) (move : State → State) : State :=
  match runningTask s (.visit w) with
  | some (id, t) =>
    match t.recNo with
    | some n => match act (endFixed s id t) t n with
      | some s => settle s
      | none => s
    | none => settle (endFixed s id t)
  | none => if visitsOpen s w then s else settle (move s)

/-- A visit removes its record when a test picks it, by a teardown at level 3 in the visit's own place, so that no later task of the
record comes between the judgement and the removal (R84, R85, R88). -/
def removeDue (s : State) (t : Task) (n cause : Nat) (due : List Nat → Bool) : State :=
  match authCopy s n with
  | some w => if due w then startTeardown s n cause t.place 3 none else s
  | none => s

/-- The timeout of an age class. -/
def ageTimeout (s : State) (c : Nat) : Nat := s.fget .AGE_CLASS_timeout c

/-- A record is due for removal by age (R87). -/
def ageDue (s : State) (w : List Nat) : Bool :=
  let t := ageTimeout s (recAgeClass w)
  !recNoAge w && t != 0 && decide (t ≤ (s.fget .AGE_CTL_age_epoch 0 + 65536 - recAgeEpoch w) % 65536)

/-- A slot passes the hint test (R87). -/
def hintDue (s : State) (w : Nat) : Bool :=
  decide (s.fget .AGE_CTL_hint_min 0 ≤ (s.fget .AGE_CTL_age_epoch 0 / 256 + 256 - bits w 48 8) % 256)

/-- The records of a position whose slots pass the hint test. -/
def hintedAt (s : State) (p : Nat) : List Nat :=
  (recordsAt s p).filter (fun n => match s.record n with | some r => hintDue s (placeWord s r.loc) | none => false)

/-- A sweep is asked for (R86): `inc` raises the age epoch. -/
def sweepStart (s : State) (inc : Bool) : State :=
  let s := if inc then s.fset .AGE_CTL_age_epoch 0 (s.fget .AGE_CTL_age_epoch 0 + 1) else s
  if s.cellar.sweepAt.isNone then
    ({ s with cellar := { s.cellar with sweepAt := some 0 } }.fset .AGE_CTL_sweep_running 0 1).fset .AGE_CTL_sweep_now 0 0
  else if s.fbit .AGE_CTL_sweep_pending 0 then s.count .sweepOverrun 0
  else s.fset .AGE_CTL_sweep_pending 0 1

/-- SWEEP_VISIT (R87). -/
def execSweepVisit (s : State) : Host.Outcome State Fault Refusal :=
  .next (
    match s.cellar.sweepAt with
    | none => s
    | some p =>
      walkStep s .sweep (fun s t n => some (removeDue s t n 1 (ageDue s)))
        (fun s => if p < walkEnd then
            (hintedAt s p).foldl (fun s n => startVisit s .sweep n) { s with cellar := { s.cellar with sweepAt := some (p + 1) } }
          else s))

/-- SWEEP_END (R86): a pending sweep begins. -/
def execSweepEnd (s : State) : Host.Outcome State Fault Refusal :=
  .next (
    match s.cellar.sweepAt with
    | none => s
    | some p =>
      if p < walkEnd || visitsOpen s .sweep then s
      else
        let s := { s with cellar := { s.cellar with sweepAt := none } }.fset .AGE_CTL_sweep_running 0 0
        if s.fbit .AGE_CTL_sweep_pending 0 then sweepStart (s.fset .AGE_CTL_sweep_pending 0 0) false else s)

/-- A record was learned under the purged address (R135). -/
def purgeDue (addr : Nat) (w : List Nat) : Bool := bits (word w 7) 58 1 == 1 && bits (word w 7) 40 18 == addr

/-- PURGE_VISIT (R135): after the last visit of the last stash entry the purge ends. -/
def execPurgeVisit (s : State) : Host.Outcome State Fault Refusal :=
  .next (
    match s.cellar.purgeAt with
    | none => s
    | some p =>
      walkStep s .purge (fun s t n => some (removeDue s t n 4 (purgeDue s.cellar.purgeAddr)))
        (fun s => if p < walkEnd then
            (recordsAt s p).foldl (fun s n => startVisit s .purge n) { s with cellar := { s.cellar with purgeAt := some (p + 1) } }
          else { s with cellar := { s.cellar with purgeAt := none } }.fset .STR_CTL_purge_running 0 0))

/-- The walk has ended: a pending one begins (R302). -/
def periodicEnd (s : State) : State :=
  let again := s.fbit .WHEY_STATUS_periodic_pending 0
  let s := { s with cellar := { s.cellar with periodicAt := if again then some 0 else none } }
  (s.fset .WHEY_STATUS_periodic_pending 0 0).fset .WHEY_STATUS_periodic_running 0 (bit again)

/-- PERIODIC_VISIT (R302): a visit emits FLOW_PERIODIC for its record; it waits while the queue holds 32,768 records, so that none
is dropped (R301). -/
def execPeriodicVisit (s : State) : Host.Outcome State Fault Refusal :=
  .next (
    match s.cellar.periodicAt with
    | none => s
    | some p =>
      walkStep s .periodic
        (fun s _ n => if 32768 ≤ s.whey.length then none else some (match authCopy s n with
          | some w => if recReportPeriodic w then
              (wheyEmit s 3 (flowBody s w 7) (recLastSeen w) (recTenant w)).count .periodicEmitted 0 1 (some (recTenant w)) else s
          | none => s))
        (fun s => if p < walkEnd then
            (recordsAt s p).foldl (fun s n => startVisit s .periodic n) { s with cellar := { s.cellar with periodicAt := some (p + 1) } }
          else periodicEnd s))

/-! ### Rekey (R90, R91, R116) -/

/-- A rekey start is judged and made (R90). -/
def rekeyBegin (s : State) : State :=
  if s.fbit .CELLAR_REKEY_rekey_running 0 ∨ s.fbit .CELLAR_REKEY_key_pinned 0 then s.event .CELLAR_REKEY_rekey_refused 0
  else
    let (a, s) := s.draw
    let (b, s) := s.draw
    let s := { s with cellar := { s.cellar with kNew := some (a, b), migrateAt := some 0 } }
    ((s.fset .CELLAR_REKEY_rekey_running 0 1).fset .CELLAR_REKEY_rekey_bucket 0 0).fset .HBM_SPLIT_rekey_reserve 0 1

/-- A record has left its old places: its slot and, if it is cached, its way are where H_new puts them (R90, R116). -/
def recMoved (s : State) (n : Nat) : Bool :=
  (match s.record n with | some r => slotNew s r | none => true) &&
    match findWay s n with | some (k, w) => wayNew s k w | none => true

/-- The visit of a rekey: the record's slot moves, or without room the record is removed (R91); its way moves with it (R116). None:
the way can only be written back, and the queue is full. -/
def migrateVisit (s : State) (t : Task) (n : Nat) : Option State :=
  match s.record n with
  | none => some s
  | some r =>
    let s1 : Option State := if slotNew s r then some s else movePlace (s.count .migrationBytes 0 384 (some (recTenant r.words))) n r
    match s1 with
    | none => some (startTeardown s n 3 t.place 3 none)
    | some s => match findWay s n with
      | some (k, w) => if wayNew s k w then some s else moveWay s k w
      | none => some s

/-- The records of a position that the migration has still to move, and that are not being removed. -/
def unmoved (s : State) (p : Nat) : List Nat := (recordsAt s p).filter (fun n => !recMoved s n)

/-- REKEY_MIGRATE_VISIT (R90 step 3): the walk leaves a position when every record there stands where H_new puts it. rekey_bucket
stays at the last bucket once that is done (DESIGN CHOICE, log entry 50). -/
def execRekeyMigrateVisit (s : State) : Host.Outcome State Fault Refusal :=
  .next (
    match s.cellar.migrateAt with
    | none => s
    | some p =>
      walkStep s .migrate migrateVisit
        (fun s =>
          if walkEnd ≤ p then s
          else
            let l := unmoved s p
            if l.isEmpty then
              let s := { s with cellar := { s.cellar with migrateAt := some (p + 1) } }
              (s.count .migrationBytes 0 64).fset .CELLAR_REKEY_rekey_bucket 0 (min (p + 1) 33554431)
            else
              (l.filter (fun n => !inTeardown s n)).foldl (fun s n => startVisit s .migrate n) s))

/-- Step 5 of R90: the rekey ends when no frame of before the switch remains. -/
def rekeySettle (s : State) : State :=
  match s.cellar.switchPlace with
  | none => s
  | some p =>
    if s.frames.any (fun e => (e.2.stage == .waiting || e.2.stage == .committed) &&
        match e.2.place with | some q => q < p | none => false) then s
    else
      ({ s with cellar := { s.cellar with switchPlace := none } }.fset .CELLAR_REKEY_rekey_running 0 0).fset .HBM_SPLIT_rekey_reserve 0 0

/-- REKEY_SWITCH (R90 step 4): every slice moves to H_new once the migration is done. -/
def execRekeySwitch (s : State) : Host.Outcome State Fault Refusal :=
  .next (
    match s.cellar.migrateAt, s.cellar.kNew with
    | some p, some k =>
      if p < walkEnd || visitsOpen s .migrate then s
      else
        rekeySettle { s with cellar := { s.cellar with kFlow := k, kNew := none, migrateAt := none, switchPlace := some s.nextPlace } }
    | _, _ => s)

end Sys2Proof.Machine
end

