-- ==== Sys2Proof/Machine/Commit.lean ====
section
/-! DEFINITION. Ordered commit: record writes and deltas, deferred effects, checkpoints, the end of a task, removals, machine
checks and routine faults (R70 to R73, R150 to R162, R180, R181). -/

namespace Sys2Proof.Machine

/-! ### The record (R71, R72, R73, R150) -/

/-- A bit of a mask. -/
def hasBit (m n : Nat) : Bool := bits m n 1 == 1

/-- The write of one word under W: RO fields of words 6 to 9 keep their values (R71). -/
def writeWord (w : List Nat) (n v : Nat) : List Nat :=
  match n with
  | 6 =>
    let w := setField w 6 16 4 (bits v 16 4)
    let w := setField w 6 21 3 (bits v 21 3)
    setField w 6 24 8 (bits v 24 8)
  | 7 => setField w 7 0 40 (bits v 0 40)
  | 8 => setField w 8 0 48 (bits v 0 48)
  | n => if 10 ≤ n ∧ n < 16 then w.set n (v % 2 ^ 64) else w

/-- The delta of one word under D (R72): words 7 and 8 are confined to their counts; words 6 and 9 take none (R71). -/
def deltaWord (w : List Nat) (n v : Nat) : List Nat :=
  match n with
  | 7 => setField w 7 0 40 (bits (word w 7) 0 40 + v)
  | 8 => setField w 8 0 48 (bits (word w 8) 0 48 + v)
  | n => if 10 ≤ n ∧ n < 16 then w.set n ((word w n + v) % 2 ^ 64) else w

/-- Words of a commit: writes, then deltas of words that are not written, then the version (R148, R150). -/
def commitWords (w : List Nat) (window deltas : List Nat) (wm dm domain : Nat) : List Nat :=
  let w := (List.range 16).foldl (fun w n => if hasBit wm n then writeWord w n (word window n) else w) w
  let w := (List.range 16).foldl (fun w n => if hasBit dm n && !hasBit wm n then deltaWord w n (word deltas n) else w) w
  let w := setField w 6 44 16 domain
  if wm &&& 0xFDC0 = 0 then w else bumpVersion w

/-- The hardware fields of a packet commit (R73). -/
def packetFields (w : List Nat) (epoch ns : Nat) : List Nat := setField (setField w 8 48 16 epoch) 9 32 32 ns

/-- The change mask that a commit spreads to successors (R149). -/
def changeMask (w d : Nat) : Nat := (w &&& 0xFDC0) ||| (d &&& 0xFD80)

/-- The record part of a task's commit or checkpoint; `final` applies the hardware fields of a packet task (R73, R150). -/
def commitRecord (s : State) (id : Nat) (t : Task) (final : Bool) : State :=
  match t.recNo with
  | none => s
  | some n =>
    match authCopy s n with
    | none => s
    | some w =>
      let w := commitWords w t.ctx.window t.ctx.deltas t.ctx.w t.ctx.d t.domain
      let w := match t.frame with
        | some f => if final then packetFields w (s.fget .AGE_CTL_age_epoch 0) ((s.frame f).stamp / 65536 % 2 ^ 32) else w
        | none => w
      spreadChange (authWrite s n w) id t (changeMask t.ctx.w t.ctx.d)

/-! ### Deferred effects (R154) -/

/-- The record as a task stands to it: as its COMMIT left it, the authoritative copy before, or the key and zeros for a task
with no record, whose writes go nowhere (R124, R140, R156). -/
def taskWords (s : State) (t : Task) : List Nat :=
  if t.committed then t.ctx.window
  else match t.recNo with
    | some n => (authCopy s n).getD t.ctx.window
    | none => keyWords t.key ++ List.replicate 10 0

/-- One posted Whey record (R176, R293 to R297). -/
def emitPosted (s : State) (t : Task) (typ : Nat) : State :=
  let w := taskWords s t
  match typ with
  | 1 => wheyEmit s 1 (flowBody s w 7) (recLastSeen w) (recTenant w)
  | 7 =>
    let f := match t.frame with | some i => s.frame i | none => {}
    let reason := match t.ctx.posted.verdict with | some (.punt r) => r | some (.drop r) => r | _ => 0
    let out := match t.ctx.posted.egress with | some (.port q c) => (q, c) | some (.group _ c) => (0x1FF, c) | _ => (0x1FF, f.ingClass)
    wheyEmit s 7 (dropBody f reason out.1 out.2 1 0) s.stamp32 f.tenant
  | n => wheyEmit s n (natBody s w) s.stamp32 (recTenant w)

/-- Rows 2 to 4 of R154: takes stand, returns and Whey records are applied. -/
def applyRows (s : State) (t : Task) : State :=
  let c := t.pos.cluster.getD 0
  let s := t.ctx.posted.returns.foldl (fun s x => natReturn s c x.2 x.1 t.tenant) s
  t.ctx.posted.whey.foldl (fun s n => emitPosted s t n) s

/-- Rows 5 to 9: the frame is handed to release. A punt, a drop or a missing egress ends its road here unless a mirror copy
is to be released with it (R154). -/
def handFrame (s : State) (fid : Nat) (p : Posted) : State :=
  let s := slotSettle s fid false
  let (d, s) : Dest × State := match p.verdict, p.egress with
    | some v, _ => (v, s)
    | none, some e => (e, s)
    | none, none => (Dest.drop 0x23, s.count .noEgress 0 1 (s.frame fid).ten)
  let s := s.modFrame fid (fun f => { f with dest := d, edits := p.edits, launch := p.launch, mirror := p.mirror, stage := .committed })
  match d, p.mirror with
  | .punt r, none => raisePunt s fid r none
  | .drop r, none => dropFrame s fid r none
  | _, _ => s

/-- The effects that stay posted after rows 2 to 4 have been applied (R154, R156, R158). -/
def keepFrameRows (p : Posted) : Posted := { p with takes := [], returns := [], whey := [] }

/-! ### Commit, checkpoint, end -/

/-- A task passes COMMIT: rows 1 to 4 are applied and it goes on without record access (R156). -/
def passCommit (s : State) (id : Nat) (t : Task) : State × Task :=
  let s := applyRows (commitRecord s id t true) t
  let x := { t.ctx with
    posted := keepFrameRows t.ctx.posted, window := taskWords s t, m := 0,
    past := (t.ctx.past.1 + t.ctx.posted.returns.length, t.ctx.past.2 + t.ctx.posted.whey.length) }
  let t' := { t with committed := true, ctx := x, atCommit := some { x with issues := 0 } }
  ((s.count .commit (t.pos.cluster.getD 0) 1 t.ten).setTask id (some t'), t')

/-- A removal begins at END with REMOVE: the teardown takes the next place of the order domain, and the tasks that follow the
remover return to the lookup (R180). One past COMMIT ends without them (R156). -/
def beginRemoval (s : State) (id : Nat) (t : Task) (n : Nat) : State :=
  let l := (taskList s).filter (fun e => e.2.recNo == some n && taskBefore (id, t) e)
  let s := startTeardown s n 2 t.place 2 none
  l.foldl (fun s e => if e.2.committed then s else returnTask s e.1 e.2) s

/-- A task ends with its commit (R150, R156, R180). A teardown is then due its removal (R84). -/
def endTask (s : State) (id : Nat) (t : Task) (remove : Bool) : State :=
  let c := t.pos.cluster.getD 0
  let s := if t.committed then applyRows s t else (applyRows (commitRecord s id t true) t).count .commit c 1 t.ten
  let s := engineSettle s c t.ctx.issues false t.ten
  match t.kind with
  | .teardown _ => settle ((s.setTask id (some { t with pos := .torn, ctx := {} })).count .teardownRun 0 1 t.ten)
  | _ =>
    let s := s.setTask id none
    let s := match t.frame with | some f => handFrame s f t.ctx.posted | none => s
    let s := match t.recNo, t.kind with
      | some n, .packet => if remove then beginRemoval s id t n else s
      | some n, .learn => if remove then beginRemoval s id t n else s
      | _, _ => s
    settle s

/-- A checkpoint (R158): rows 1 to 4, the checkpoint store, a fresh snapshot. -/
def checkpointTask (s : State) (id : Nat) (t : Task) : State :=
  let c := t.pos.cluster.getD 0
  let s := applyRows (if t.committed then s else commitRecord s id t false) t
  let s := (engineSettle s c t.ctx.issues false t.ten).count .checkpoint c 1 t.ten
  let w := taskWords s t
  let p := keepFrameRows t.ctx.posted
  let x := { t.ctx with r := 0, w := 0, d := 0, m := 0, window := w, deltas := [], posted := p, issues := 0, mayYield := true,
                        past := (0, 0),
                        version := recVersion w }
  let again := if t.committed then some { x with stack := [], z := false, n := false, t := false, f := false, res := 0 } else none
  settle (s.setTask id (some { t with squashes := 0, saved := some ⟨t.ctx.scratch, p, t.ctx.pc⟩, ctx := x, atCommit := again }))

/-- Entries of a cluster's commit buffer in use. -/
def bufferUsed (s : State) (c : Nat) : Nat :=
  ((taskList s).filter (fun e => match e.2.pos with | .buffered d _ => d == c | _ => false)).length

/-- A task at COMMIT, END or CHECKPOINT whose predecessors are not done: it leaves for the commit buffer, is squashed when
the buffer is full, or waits in its context (R153). -/
def awaitCommit (s : State) (id : Nat) (t : Task) (c : CtxId) (seq : Nat) : State :=
  if t.level < 2 ∨ seq = 0x08 then s.setTask id (some { t with pos := .waiting c seq })
  else if 256 ≤ bufferUsed s c.cluster then settle (squashTask (s.count .commitFullSquash c.cluster 1 t.ten) id t true)
  else s.setTask id (some { t with pos := .buffered c.cluster seq })

/-- The commit that a task asked for, now that it may be made (R150, R153, R158). -/
def finishCommit (s : State) (id : Nat) (t : Task) (seq : Nat) : State :=
  match seq with
  | 0x08 => checkpointTask s id (match t.pos with | .waiting c _ => { t with pos := .running c } | _ => t)
  | 0x0A =>
    let (s, t) := passCommit s id t
    match t.pos with
    | .buffered c _ =>
      let s := engineSettle s c t.ctx.issues false t.ten
      settle (readyTask s id { t with level := replayLevel t.level, resumes := true, ctx := { t.ctx with issues := 0 } })
    | .waiting c _ => settle (s.setTask id (some { t with pos := .running c }))
    | _ => settle s
  | n => endTask s id t (n == 0x1C)

/-- A task asks for a commit: at once if its predecessors are done, else under R153. -/
def askCommit (s : State) (id : Nat) (t : Task) (c : CtxId) (seq : Nat) : State :=
  if t.committed || predsDone s id t then finishCommit (s.setTask id (some t)) id t seq else awaitCommit s id t c seq

/-- TASK_COMMIT (R150): a task that waited commits. -/
def execTaskCommit (task : Nat) (s : State) : Host.Outcome State Fault Refusal :=
  .next (
    match s.task? task with
    | none => s
    | some t =>
      if predsDone s task t = false then s
      else
        match t.pos with
        | .buffered _ seq => finishCommit s task t seq
        | .waiting _ seq => finishCommit s task t seq
        | _ => s)

/-- TEARDOWN (R84): the removal of a record whose teardown routine has committed, or that has none. -/
def execTeardown (task : Nat) (s : State) : Host.Outcome State Fault Refusal :=
  .next (
    match s.task? task with
    | none => s
    | some t =>
      match t.kind, t.pos, t.recNo with
      | .teardown cause, .torn, some n =>
        let v := recVersion ((authCopy s n).getD [])
        let s := removeRecord s task t n cause
        match t.cmd with
        | some (set, i) => match workOf s set 0 i with
          | some w => cmdComplete (s.count .hostDelete 0 1 t.ten) w 0 0 v 0
          | none => s
        | none => s
      | _, _, _ => s)

/-! ### Machine checks and routine faults (R160 to R162, R181) -/

/-- A punt or drop reason that the shared space assigns (R267). -/
def reasonOk (r : Nat) : Bool :=
  (1 ≤ r && r ≤ 5) || (0x10 ≤ r && r ≤ 0x18) || (0x20 ≤ r && r ≤ 0x25) || (0x30 ≤ r && r ≤ 0x3A) || (0x40 ≤ r && r ≤ 0x43) ||
    r == 0x50 || r == 0x51 || (0xC0 ≤ r && r ≤ 0xFF)

/-- MCK_LOG and the MCK_EVENT record (R299): kind 0 machine check, 1 routine fault, 2 quarantine. -/
def mckLog (s : State) (cluster store bank addr rep kind : Nat) : State :=
  let s := (((((s.fset .MCK_LOG_cluster 0 cluster).fset .MCK_LOG_store 0 store).fset .MCK_LOG_bank 0 bank).fset .MCK_LOG_addr 0 addr).fset
    .MCK_LOG_repeat 0 rep).fset .MCK_LOG_stamp 0 s.stamp32
  wheyEmit s 9 (cluster * 2 ^ 64 + store * 2 ^ 70 + bank * 2 ^ 72 + addr * 2 ^ 73 + rep * 2 ^ 87 + kind * 2 ^ 89) s.stamp32 0

/-- A task ended by an error (R160): nothing since its last checkpoint commits; its frame is punted or dropped, its removal is
not made. -/
def endBad (s : State) (id : Nat) (t : Task) (reason : Nat) : State :=
  let s := (loseSegment s t).setTask id none
  let s := match t.frame with
    | some f =>
      let s := slotSettle s f (reason == 0x20)
      if s.fbit .CHURN_CFG_mck_action 0 then dropFrame s f reason none else raisePunt s f reason none
    | none => s
  let s := match t.cmd with
    | some (set, i) => match workOf s set 0 i with
      | some w => cmdComplete s w 7 reason 0 0
      | none => s
    | none => s
  settle s

/-- Every task of a cluster is squashed and queued again, with its squash count raised (R151, R161, R164). -/
def emptyCluster (s : State) (c : Nat) : State :=
  let l := (taskList s).filter (fun e => e.2.pos.cluster == some c)
  settle (l.foldl (fun s e => squashTask s e.1 e.2 true) s)

/-- A cluster is quarantined (R161): the dispatcher skips it from now until the next level A or B reset, and the Rind switches its domain
off at its pace, in place of a switch that was asked for (R331). -/
def quarantine (s : State) (c : Nat) (bank store addr : Nat) : State :=
  let s := emptyCluster s c
  let s := s.fset .CLUSTER_QUARANTINE_bits c 1
  let s := (s.event .MCK_STATUS_quarantine_event 0).fset .RESET_CAUSE_domain_mck 0 1
  let l := s.rind.switching.filter (fun x => x.1 ≠ pdCluster c) ++ [(pdCluster c, false)]
  let s := { s with rind := { s.rind with switching := l } }
  mckLog s c store bank addr 3 2

/-- A word's error count in this start. -/
def errorsOf (s : State) (a : StoreAddr) : Nat := ((s.churn.repeats.find? (fun x => x.1 == a)).map (fun x => x.2)).getD 0

/-- The recovery of a faulty word: a level-0 task with no place (R142, R143). It holds a context until the word is rewritten (log entry
24). -/
def startRecovery (s : State) (a : StoreAddr) : State :=
  newTask s (taskOf (.recovery a) none none none [] 0 0 0 0 (parityNow s) 0 false)

/-- A task fetches a faulty word (R160, R161): the first fetch before a rewrite is the error; others take their own check. -/
def machineCheck (s : State) (id : Nat) (t : Task) (a : StoreAddr) (engine : Nat) : State :=
  let s := (endBad s id t 0x20).count .mckEvent a.cluster 1 t.ten
  let s := s.event .MCK_STATUS_mck_event 0
  if s.churn.faulty.any (fun x => x.1 == a) then
    let l := s.churn.faulty.map (fun x => if x.1 == a then (x.1, insNum engine x.2) else x)
    { s with churn := { s.churn with faulty := l } }
  else
    let n := errorsOf s a + 1
    let r := (a, n) :: s.churn.repeats.filter (fun x => x.1 != a)
    let s := { s with churn := { s.churn with faulty := s.churn.faulty ++ [(a, [engine])], repeats := r } }
    let s := mckLog (startRecovery (s.fset .MCK_STATUS_reload_pending 0 1) a) a.cluster a.store a.bank a.addr n 0
    if 3 ≤ n then quarantine s a.cluster a.bank a.store a.addr else s

/-- A routine fault (R181). -/
def routineFault (s : State) (id : Nat) (t : Task) : State :=
  let c := t.pos.cluster.getD 0
  let s := ((endBad s id t 0x21).count .routineFault c 1 t.ten).event .MCK_STATUS_fault_event 0
  mckLog s c 3 t.parity t.ctx.pc 0 1

/-- STORE_WORD_REWRITE (R161): the word is good again, the engines return to dispatch, and its recovery ends. -/
def execStoreWordRewrite (w : StoreAddr) (s : State) : Host.Outcome State Fault Refusal :=
  .next (
    let l := s.churn.faulty.filter (fun x => x.1 != w)
    let s := match runningTask s (.recovery w) with | some (id, t) => endFixed s id t | none => s
    ({ s with churn := { s.churn with faulty := l } }).fset .MCK_STATUS_reload_pending 0 (bit (!l.isEmpty)))

/-- CONTEXT_ECC_ERROR (R140): the task is replayed with its squash count unchanged. -/
def execContextEccError (c : CtxId) (s : State) : Host.Outcome State Fault Refusal :=
  .next (
    match taskAt s c with
    | none => s
    | some (id, t) => settle (squashTask (s.count .ctxEccReplay c.cluster 1 t.ten) id t false))

end Sys2Proof.Machine
end

