-- ==== Sys2Proof/Machine/Micro.lean ====
section
/-! DEFINITION. Churn microcode: the microword, the nanoword, operands, the two ALUs, deferred effects and edits, the
sequencing ops and the dispatcher (R138 to R182). Log entry 20 gives the readings of this file. -/

namespace Sys2Proof.Machine

/-! ### Words of the stores (R166, R169) -/

/-- A nanoword by its fields. -/
structure Nano where
  readSet : Nat
  writeSet : Nat
  deltaSet : Nat
  aOp : Nat
  aDst : Nat
  aSrc1 : Nat
  aSrc2 : Nat
  aPos : Nat
  aLen : Nat
  bOp : Nat
  bDst : Nat
  bSrc1 : Nat
  bSrc2 : Nat
  bPos : Nat
  bLen : Nat
  imm : Nat
  hdrBase : Nat
  hdrWidth : Nat
  hdrOff : Nat
  fxOp : Nat
  fxVal : Nat
  fxArg : Nat
  edKind : Nat
  edBase : Nat
  edWidth : Nat
  edOff : Nat
  edVal : Nat
  deriving DecidableEq, Repr

/-- The fields of a nanoword (R169). -/
def nanoOf (w : Nat) : Nano :=
  { readSet := bits w 0 16, writeSet := bits w 16 16, deltaSet := bits w 32 16,
    aOp := bits w 48 8, aDst := bits w 56 8, aSrc1 := bits w 64 8, aSrc2 := bits w 72 8, aPos := bits w 80 6,
    aLen := bits w 88 6 + 1,
    bOp := bits w 96 8, bDst := bits w 104 8, bSrc1 := bits w 112 8, bSrc2 := bits w 120 8, bPos := bits w 128 6,
    bLen := bits w 136 6 + 1,
    imm := bits w 144 32, hdrBase := bits w 176 2, hdrWidth := bits w 178 2, hdrOff := bits w 184 8,
    fxOp := bits w 192 8, fxVal := bits w 200 8, fxArg := bits w 208 8,
    edKind := bits w 216 4, edBase := bits w 220 2, edWidth := bits w 222 2, edOff := bits w 224 8, edVal := bits w 232 8 }

/-- The microword at an address of a bank (R166). -/
def microAt (s : State) (parity pc : Nat) : Nat := tget 0 (bundleOf s parity).micro (pc, 0)

/-- The nanoword at an address of a bank. -/
def nanoAt (s : State) (parity n : Nat) : Nano := nanoOf (tget 0 (bundleOf s parity).nano (n, 0))

/-- Fields of a microword (R166). -/
def seqOf (w : Nat) : Nat := bits w 27 5
def targetOf (w : Nat) : Nat := bits w 2 14
def condOf (w : Nat) : Nat := bits w 0 2

/-- A word waits to be rewritten (R161). -/
def isFaulty (s : State) (a : StoreAddr) : Bool := s.churn.faulty.any (fun x => x.1 == a)

/-! ### Checks on a nanoword (R170 to R177, R181) -/

/-- The operands that an ALU op uses. -/
def aluUses (op s1 s2 : Nat) : List Nat := if op = 0 then [] else if op = 1 ∨ op = 0x0B then [s1] else [s1, s2]

/-- The operand that the effect uses. -/
def fxUses (n : Nano) : List Nat := if (1 ≤ n.fxOp ∧ n.fxOp ≤ 4) ∨ n.fxOp = 9 then [n.fxVal] else []

/-- The operand that the edit uses. -/
def edUses (n : Nano) : List Nat := if n.edKind = 1 ∨ n.edKind = 2 then [n.edVal] else []

/-- Every operand in use. -/
def allUses (n : Nano) : List Nat :=
  aluUses n.aOp n.aSrc1 n.aSrc2 ++ aluUses n.bOp n.bSrc1 n.bSrc2 ++ fxUses n ++ edUses n

/-- An operand code of R170, with SA and SB where they may stand. -/
def operandOk (sa sb : Bool) (c : Nat) : Bool :=
  c ≤ 0x25 || (0x28 ≤ c && c ≤ 0x34) || c == 0x37 || (sa && c == 0x35) || (sb && c == 0x36)

/-- A destination code of R172. -/
def dstOk (op d : Nat) : Bool := op == 0 || d ≤ 0x0F || (0x16 ≤ d && d ≤ 0x1F) || d == 0xFF

/-- A record word that an operand or destination names: words 6 to 15. -/
def recWord (c : Nat) : Bool := 0x16 ≤ c && c ≤ 0x1F

/-- R171: record words named are declared. -/
def declared (n : Nano) : Bool :=
  (allUses n).all (fun c => !recWord c || hasBit n.readSet (c - 0x10)) &&
    (n.aOp == 0 || !recWord n.aDst || hasBit (n.writeSet ||| n.deltaSet) (n.aDst - 0x10)) &&
    (n.bOp == 0 || !recWord n.bDst || hasBit (n.writeSet ||| n.deltaSet) (n.bDst - 0x10))

/-- The codes of a nanoword are ones that the spec assigns (R170 to R177, R181). -/
def nanoOk (n : Nano) : Bool :=
  n.aOp ≤ 0x0C && n.bOp ≤ 0x0C && n.fxOp ≤ 9 && n.edKind ≤ 3 &&
    (aluUses n.aOp n.aSrc1 n.aSrc2).all (operandOk false false) &&
    (aluUses n.bOp n.bSrc1 n.bSrc2).all (operandOk true false) &&
    (fxUses n ++ edUses n).all (operandOk true true) &&
    dstOk n.aOp n.aDst && dstOk n.bOp n.bDst && declared n &&
    (n.fxOp != 5 || n.fxArg == 1 || n.fxArg == 5 || n.fxArg == 6 || n.fxArg == 7) &&
    ((n.fxOp != 6 && n.fxOp != 7) || reasonOk n.fxArg) &&
    (n.edKind != 3 || n.edBase == 1 || n.edBase == 3)

/-- A window word is read (R147). -/
def readsWindow (n : Nano) : Bool := (allUses n).any (fun c => 0x10 ≤ c && c ≤ 0x1F)

/-! ### Operands (R170, R174, R175) -/

/-- The absolute offset of a header base (R174, R175). -/
def hdrOffset (f : Frame) (base : Nat) : Nat :=
  if base = 0 then 0 else if base = 1 then f.l3.1 else if base = 2 then f.l4.1 else f.outerL3.1

/-- Bytes of a width code. -/
def widthOf (w : Nat) : Nat := 2 ^ w

/-- The HDR operand (R174): bytes beyond window byte 255 or the frame's end read 0. -/
def hdrRead (f : Option Frame) (n : Nano) : Nat :=
  match f with
  | none => 0
  | some f => beAt (f.bytes.take 256) (hdrOffset f n.hdrBase + n.hdrOff) (widthOf n.hdrWidth)

/-- The kind code of m0 (R165). -/
def kindCode (k : TaskKind) : Nat :=
  match k with
  | .packet => 0
  | .learn => 1
  | .forward => 2
  | .teardown _ => 3
  | _ => 0

/-- The cause of m0. -/
def causeOf (k : TaskKind) : Nat := match k with | .teardown c => c | _ => 0

/-- F of a frame (R175): its length as stored for the pass. -/
def frameLen (f : Frame) : Nat := if f.whole then f.bytes.length else f.len

/-- m0 (R175). -/
def meta0 (t : Task) (f : Option Frame) : Nat :=
  let g := f.getD { pass := 0 }
  kindCode t.kind + t.parity * 2 ^ 4 + g.pass * 2 ^ 5 + g.ingPort * 2 ^ 7 + t.tenant * 2 ^ 16 + g.prof * 2 ^ 28 +
    frameLen g % 2 ^ 14 * 2 ^ 34 + causeOf t.kind * 2 ^ 48

/-- m1 (R175). -/
def meta1 (f : Option Frame) : Nat :=
  let g := f.getD {}
  g.stamp / 65536 % 2 ^ 32 + g.l3.1 % 256 * 2 ^ 32 + g.l3.2 * 2 ^ 40 + g.l4.1 % 256 * 2 ^ 42 + g.l4.2 * 2 ^ 50 +
    g.outerL3.1 % 256 * 2 ^ 52 + g.outerL3.2 * 2 ^ 60

/-- Egress posted: port and class. A group posts no port: an open value (log entry 6). -/
def egressBits (e : Option Dest) (free : Nat) : Nat :=
  match e with
  | some (.port q c) => q + c * 2 ^ 9 + 2 ^ 13
  | some (.group _ c) => free % 512 + c * 2 ^ 9 + 2 ^ 13
  | _ => 0

/-- m6 (R175): what is posted and not yet applied. -/
def meta6 (x : Ctx) (free : Nat) : Nat :=
  let p := x.posted
  egressBits p.egress free + p.edits.length * 2 ^ 14 + p.takes.length * 2 ^ 17 + p.returns.length * 2 ^ 19 +
    p.whey.length * 2 ^ 21 + bit p.launch.isSome * 2 ^ 23 + bit p.mirror.isSome * 2 ^ 24 + bit p.verdict.isSome * 2 ^ 25

/-- The metadata word (R175). -/
def metaWord (t : Task) (f : Option Frame) (free i : Nat) : Nat :=
  let search := t.kind == .learn || t.kind == .forward
  match i with
  | 0 => meta0 t f
  | 1 => meta1 f
  | 2 => match f with | some g => if g.lbEn then g.lbHash else 0 | none => 0
  | 3 => match f with | some g => if g.lbEn then g.indir else 0 | none => 0
  | 4 => if search then (f.getD {}).m4 else 0
  | 5 => if search then (f.getD {}).m5 else 0
  | 6 => meta6 t.ctx free
  | _ => t.ctx.m7

/-- An operand (R170). `sa` and `sb` are the results of this nanoword's ALUs; `free` an open value. -/
def operand (t : Task) (f : Option Frame) (n : Nano) (uimm sa sb free c : Nat) : Nat :=
  if c < 0x10 then word t.ctx.scratch c
  else if c < 0x20 then word t.ctx.window (c - 0x10)
  else if c < 0x26 then beAt t.key (8 * (c - 0x20)) 8
  else if 0x28 ≤ c ∧ c < 0x30 then metaWord t f free (c - 0x28)
  else if c = 0x30 then hdrRead f n
  else if c = 0x31 then n.imm
  else if c = 0x32 then uimm
  else if c = 0x34 then t.ctx.res
  else if c = 0x35 then sa
  else if c = 0x36 then sb
  else if c = 0x37 then (if n.imm < 2 ^ 31 then n.imm else n.imm + 2 ^ 64 - 2 ^ 32)
  else 0

/-! ### The ALUs (R173) -/

/-- The result of an op; NOP has none. -/
def alu (op x y pos len : Nat) : Nat :=
  match op with
  | 0x01 => x
  | 0x02 => (x + y) % 2 ^ 64
  | 0x03 => (x + 2 ^ 64 - y) % 2 ^ 64
  | 0x04 => x &&& y
  | 0x05 => x ||| y
  | 0x06 => x ^^^ y
  | 0x07 => x * 2 ^ (y % 64) % 2 ^ 64
  | 0x08 => x / 2 ^ (y % 64)
  | 0x09 => bit (x == y)
  | 0x0A => bit (x < y)
  | 0x0B => bits x pos len
  | 0x0C => setBits x pos len y % 2 ^ 64
  | _ => 0

/-! ### Destinations (R156, R172) -/

/-- The list of the sums of deltas, one for each record word. -/
def deltaList (x : Ctx) : List Nat := if x.deltas.length = 16 then x.deltas else List.replicate 16 0

/-- Write a destination. After COMMIT, record words take nothing (R156). -/
def writeDst (x : Ctx) (n : Nano) (committed : Bool) (op d v : Nat) : Ctx :=
  if op = 0 ∨ d = 0xFF then x
  else if d < 0x10 then { x with scratch := x.scratch.set d v }
  else if committed then x
  else
    let k := d - 0x10
    if hasBit n.writeSet k then { x with window := x.window.set k v }
    else
      let l := deltaList x
      let w := if k = 7 ∨ k = 8 then deltaWord x.window k v else x.window.set k ((word x.window k + v) % 2 ^ 64)
      { x with deltas := l.set k ((word l k + v) % 2 ^ 64), window := w }

/-! ### Effects and edits (R154, R176, R177) -/

/-- What posting gives: the posted effects, a fault, or one past its limit (R154, R181). -/
inductive Post where
  | ok (p : Posted)
  | overflow
  | fault
  deriving DecidableEq, Repr

/-- Post an effect other than a NAT take. -/
def postFx (x : Ctx) (frame : Bool) (n : Nano) (v : Nat) : Post :=
  let p := x.posted
  match n.fxOp with
  | 1 => .ok (if frame then { p with egress := some (.port (bits v 0 9) (bits v 9 4)) } else p)
  | 2 => .ok (if frame then { p with egress := some (.group (bits v 0 16) (bits v 24 4)) } else p)
  | 4 => if 2 ≤ x.past.1 + p.returns.length then .overflow
         else .ok { p with returns := p.returns ++ [(bits v 0 16, bits v 16 8)] }
  | 5 => if 2 ≤ x.past.2 + p.whey.length then .overflow else .ok { p with whey := p.whey ++ [n.fxArg] }
  | 6 => if !frame then .ok p else if p.verdict.isSome then .overflow else .ok { p with verdict := some (.punt n.fxArg) }
  | 7 => if !frame then .ok p else if p.verdict.isSome then .overflow else .ok { p with verdict := some (.drop n.fxArg) }
  | 8 => if !frame then .ok p else if p.mirror.isSome then .overflow else .ok { p with mirror := some n.fxArg }
  | 9 => .ok (if frame then { p with launch := some (bits v 32 32, bits v 0 32) } else p)
  | _ => .ok p

/-- A DEC_TTL edit posts nothing (R177): TTL or hop limit at 1 or 0, or neither IPv4 nor IPv6. -/
def ttlFails (f : Option Frame) (base : Nat) : Bool :=
  match f with
  | none => true
  | some f =>
    let h := ttlHeader f base
    if h.2 = 1 then byteAt (f.bytes.take 256) (h.1 + 8) ≤ 1
    else if h.2 = 2 then byteAt (f.bytes.take 256) (h.1 + 7) ≤ 1
    else true

/-- Post an edit. -/
def postEdit (p : Posted) (f : Option Frame) (n : Nano) (v : Nat) : Post :=
  match f, n.edKind with
  | some f, 3 =>
    if ttlFails (some f) n.edBase then .ok p
    else if 4 ≤ p.edits.length then .overflow
    else .ok { p with edits := p.edits ++ [Edit.mk 3 n.edBase (ttlHeader f n.edBase).1 1 0] }
  | some f, k =>
    if k = 1 ∨ k = 2 then
      let o := hdrOffset f n.edBase + n.edOff
      if 256 < o + widthOf n.edWidth then .fault
      else if 4 ≤ p.edits.length then .overflow
      else .ok { p with edits := p.edits ++ [Edit.mk k n.edBase o (widthOf n.edWidth) v] }
    else .ok p
  | none, _ => .ok p

/-! ### Ends -/

/-- A task ended by ABORT (R156): reservations returned, the frame punted or dropped. A teardown's removal is still due. -/
def abortTask (s : State) (id : Nat) (t : Task) (reason : Nat) (drop : Bool) : State :=
  let c := t.pos.cluster.getD 0
  let s := engineSettle (natUndo s t c) c t.ctx.issues false t.ten
  match t.kind with
  | .teardown _ => settle ((s.setTask id (some { t with pos := .torn, ctx := {} })).count .teardownRun 0 1 t.ten)
  | _ =>
    let s := s.setTask id none
    let s := match t.frame with
      | some f => if drop then endDrop s f reason else endPunt s f reason
      | none => s
    settle s

/-- An effect past its limit (R154). -/
def overflowTask (s : State) (id : Nat) (t : Task) : State :=
  routineFault (s.count .effectOverflow (t.pos.cluster.getD 0) 1 t.ten) id t

/-- A task leaves its context at a YIELD for the tail of its level; its work since the checkpoint is repeated (R159). -/
def yieldTask (s : State) (id : Nat) (t : Task) : State :=
  let s := (loseSegment s t).count .yieldTaken (t.pos.cluster.getD 0) 1 t.ten
  readyTask s id { t with ctx := { freshCtx t with mayYield := false }, resumes := t.atCommit.isSome }

/-! ### Sequencing (R168, R181) -/

/-- Continue at an address; none lies past 16,383. -/
def goto (s : State) (id : Nat) (t : Task) (pc : Nat) : State :=
  if 16383 < pc then routineFault s id t else s.setTask id (some { t with ctx := { t.ctx with pc := pc, take := none } })

/-- The flag that cond names. -/
def flagOf (x : Ctx) (c : Nat) : Bool := if c = 0 then x.z else if c = 1 then x.n else if c = 2 then x.t else x.f

/-- A commit op asks for its commit and, once it is made, continues at the next address. -/
def commitOp (s : State) (id : Nat) (t : Task) (c : CtxId) (seq : Nat) : State :=
  if 16383 ≤ t.ctx.pc then routineFault s id t
  else askCommit s id { t with ctx := { t.ctx with pc := t.ctx.pc + 1, take := none } } c seq

/-- The sequencing op of a microword, after its nanoword. -/
def sequence (s : State) (id : Nat) (t : Task) (c : CtxId) (w : Nat) : State :=
  let x := t.ctx
  let next := x.pc + 1
  let a := targetOf w
  match seqOf w with
  | 0x00 => goto s id t next
  | 0x01 => goto s id t a
  | 0x02 => goto s id t (if flagOf x (condOf w) then a else next)
  | 0x03 => goto s id t (if flagOf x (condOf w) then next else a)
  | 0x04 => if 4 ≤ x.stack.length then routineFault s id t else goto s id { t with ctx := { x with stack := next :: x.stack } } a
  | 0x05 => match x.stack with
    | [] => routineFault s id t
    | p :: l => goto s id { t with ctx := { x with stack := l } } p
  | 0x06 => goto s id t (a + x.aRes % 16)
  | 0x07 => goto s id t next
  | 0x08 => if x.stack ≠ [] then routineFault s id t else commitOp s id t c 0x08
  | 0x09 =>
    if x.stack ≠ [] then routineFault s id t
    else if x.mayYield && s.churn.preempt && t.level == 3 then yieldTask s id t
    else goto s id { t with ctx := { x with mayYield := false } } next
  | 0x0A => if t.committed then goto s id t next else commitOp s id t c 0x0A
  | 0x0B =>
    if a / 512 ≠ 0 ∨ reasonOk (a % 256) = false then routineFault s id t else abortTask s id t (a % 256) (bits a 8 1 == 1)
  | 0x0C =>
    if a / 2 ≠ 0 then routineFault s id t
    else askCommit s id { t with ctx := { x with take := none } } c (if a % 2 = 1 then 0x1C else 0x0C)
  | _ => routineFault s id t

/-! ### One issue slot (R165) -/

/-- The context after the ALUs, the flags and the masks of a nanoword. -/
def aluPart (t : Task) (n : Nano) (a b : Nat) (f : Bool) : Ctx :=
  let x := t.ctx
  let x := if n.aOp = 0 then x else { x with z := a == 0, n := bits a 63 1 == 1 }
  let x := if n.bOp = 0 then x else { x with t := b != 0 }
  let x := if n.edKind = 3 then { x with f := f } else x
  let x := if t.committed then x
    else { x with r := x.r ||| n.readSet, w := x.w ||| (n.writeSet &&& 0xFFC0), d := x.d ||| (n.deltaSet &&& 0xFFC0) }
  let x := writeDst (writeDst x n t.committed n.aOp n.aDst a) n t.committed n.bOp n.bDst b
  { x with aRes := a }

/-- A NAT_TAKE is executed (R155, R179): a port is reserved, or the take fails; the slot waits for the answer. -/
def takePort (s : State) (id : Nat) (t : Task) (pool : Nat) : State :=
  let c := t.pos.cluster.getD 0
  match natReserve s pool t.tenant with
  | (some p, s') =>
    if 2 ≤ t.ctx.posted.takes.length then overflowTask s id t
    else (s'.setTask id (some { t with ctx := { t.ctx with take := some ⟨pool, some p, false⟩ } })).count .natReserve c 1 t.ten
  | (none, s') => (s'.setTask id (some { t with ctx := { t.ctx with take := some ⟨pool, none, false⟩ } })).count .natTakeFail c 1 t.ten

/-- A nanoword executes, and then the microword's sequencing op (R165, R168). -/
def runNano (s : State) (id : Nat) (t : Task) (c : CtxId) (w : Nat) (n : Nano) : State :=
  let f : Option Frame := t.frame.bind (fun i => s.frame? i)
  let (ra, s) := s.draw
  let (rb, s) := s.draw
  let (rm, s) := s.draw
  let op (sa sb c : Nat) : Nat := operand t f n (targetOf w) sa sb rm c
  let a := if n.aOp = 0 then ra else alu n.aOp (op 0 0 n.aSrc1) (op 0 0 n.aSrc2) n.aPos n.aLen
  let b := if n.bOp = 0 then rb else alu n.bOp (op a 0 n.bSrc1) (op a 0 n.bSrc2) n.bPos n.bLen
  let x := aluPart t n a b (ttlFails f n.edBase)
  match postFx t.ctx f.isSome n (op a b n.fxVal) with
  | .overflow => overflowTask s id t
  | .fault => routineFault s id t
  | .ok p =>
    match postEdit p f n (op a b n.edVal) with
    | .overflow => overflowTask s id t
    | .fault => routineFault s id t
    | .ok p =>
      let u := { t with ctx := { x with posted := p } }
      if n.fxOp = 3 ∧ t.committed then routineFault s id t
      else if x.m &&& x.r ≠ 0 then settle (squashTask s id u true)
      else if n.fxOp = 3 then takePort s id u (op a b n.fxVal % 256)
      else sequence s id u c w

/-- One issue slot of a context, for the row of one sequencing op. A reserved op shows under NEXT and faults; a word whose
parity is bad is a machine check before it takes effect (R160, R165, R181). -/
def microStep (seq : Nat) (c : CtxId) (fetch : FetchErr) (s : State) : State :=
  match taskAt s c with
  | none => s
  | some (id, t) =>
    if t.pos ≠ .running c ∨ t.kind.fixed ∨ s.runs (pdCluster c.cluster) = false then s
    else
      let w := microAt s t.parity t.ctx.pc
      match t.ctx.take with
      | some k => if k.answered && seqOf w == seq then sequence s id t c w else s
      | none =>
        let ma : StoreAddr := ⟨c.cluster, 0, t.parity, t.ctx.pc⟩
        let na : StoreAddr := ⟨c.cluster, 1, t.parity, bits w 16 11⟩
        let n := nanoAt s t.parity (bits w 16 11)
        if 4096 ≤ t.ctx.issues then s
        else if fetch = .micro ∨ isFaulty s ma then machineCheck s id t ma c.engine
        else if (if seqOf w ≤ 0x0C then seqOf w else 0) ≠ seq then s
        else if fetch = .nano ∨ isFaulty s na then machineCheck s id t na c.engine
        else if !t.ctx.windowReady && (readsWindow n || seq == 0x07) then s
        else
          let s := (slotAhead s (48 + c.cluster) 0).gset .gSlotInflight c.cluster (s.cget .gSlotInflight c.cluster + 1)
          let t := { t with ctx := { t.ctx with issues := t.ctx.issues + 1 } }
          if 0x0C < seqOf w ∨ nanoOk n = false then routineFault s id t else runNano s id t c w n

/-! ### The rows of the microcode -/

/-- NEXT (R168). -/
def execNext (c : CtxId) (fetch : FetchErr) (s : State) : Host.Outcome State Fault Refusal := .next (microStep 0x00 c fetch s)

/-- JUMP (R168). -/
def execJump (c : CtxId) (fetch : FetchErr) (s : State) : Host.Outcome State Fault Refusal := .next (microStep 0x01 c fetch s)

/-- BRANCH (R168). -/
def execBranch (c : CtxId) (fetch : FetchErr) (s : State) : Host.Outcome State Fault Refusal := .next (microStep 0x02 c fetch s)

/-- BRANCHN (R168). -/
def execBranchn (c : CtxId) (fetch : FetchErr) (s : State) : Host.Outcome State Fault Refusal := .next (microStep 0x03 c fetch s)

/-- CALL (R168). -/
def execCall (c : CtxId) (fetch : FetchErr) (s : State) : Host.Outcome State Fault Refusal := .next (microStep 0x04 c fetch s)

/-- RET (R168). -/
def execRet (c : CtxId) (fetch : FetchErr) (s : State) : Host.Outcome State Fault Refusal := .next (microStep 0x05 c fetch s)

/-- DISPATCH (R168). -/
def execDispatch (c : CtxId) (fetch : FetchErr) (s : State) : Host.Outcome State Fault Refusal := .next (microStep 0x06 c fetch s)

/-- WAIT (R168). -/
def execWait (c : CtxId) (fetch : FetchErr) (s : State) : Host.Outcome State Fault Refusal := .next (microStep 0x07 c fetch s)

/-- CHECKPOINT (R158, R168). -/
def execCheckpoint (c : CtxId) (fetch : FetchErr) (s : State) : Host.Outcome State Fault Refusal :=
  .next (microStep 0x08 c fetch s)

/-- YIELD (R159, R168). -/
def execYield (c : CtxId) (fetch : FetchErr) (s : State) : Host.Outcome State Fault Refusal := .next (microStep 0x09 c fetch s)

/-- COMMIT (R156, R168). -/
def execCommit (c : CtxId) (fetch : FetchErr) (s : State) : Host.Outcome State Fault Refusal := .next (microStep 0x0A c fetch s)

/-- ABORT (R156, R168). -/
def execAbort (c : CtxId) (fetch : FetchErr) (s : State) : Host.Outcome State Fault Refusal := .next (microStep 0x0B c fetch s)

/-- END (R156, R168, R180). -/
def execEnd (c : CtxId) (fetch : FetchErr) (s : State) : Host.Outcome State Fault Refusal := .next (microStep 0x0C c fetch s)

/-- ROUTINE_ISSUE_LIMIT (R156). -/
def execRoutineIssueLimit (c : CtxId) (s : State) : Host.Outcome State Fault Refusal :=
  .next (
    match taskAt s c with
    | none => s
    | some (id, t) => if t.pos = .running c ∧ 4096 ≤ t.ctx.issues then routineFault s id t else s)

/-- RECORD_WINDOW_COMPLETE (R147). -/
def execRecordWindowComplete (c : CtxId) (s : State) : Host.Outcome State Fault Refusal :=
  .next (
    match taskAt s c with
    | none => s
    | some (id, t) => s.setTask id (some { t with ctx := { t.ctx with windowReady := true } }))

/-- NAT_TAKE_ANSWER (R155, R168, R179): RES and F are set, and a reserved port is posted. -/
def execNatTakeAnswer (c : CtxId) (s : State) : Host.Outcome State Fault Refusal :=
  .next (
    match taskAt s c with
    | none => s
    | some (id, t) =>
      match t.ctx.take with
      | none => s
      | some k =>
        if k.answered then s
        else
          let x := t.ctx
          let ttl := (nanoAt s t.parity (bits (microAt s t.parity x.pc) 16 11)).edKind == 3
          let y := match k.port with
            | some p => { x with res := s.fget .NAT_POOL_tag k.pool * 2 ^ 16 + p, f := ttl && x.f,
                                 posted := { x.posted with takes := x.posted.takes ++ [(k.pool, p)] } }
            | none => { x with res := 0, f := true }
          s.setTask id (some { t with ctx := { y with take := some ⟨k.pool, none, true⟩ } }))

/-! ### The dispatcher (R141 to R147, R162) -/

/-- The contexts of an engine that a level may use (R141). -/
def levelCtxs (lvl : Nat) : List Nat := List.range (if lvl < 2 then 8 else 7)

/-- The contexts that hold tasks. -/
def busyCtxs (s : State) : List CtxId :=
  (taskList s).filterMap (fun e => match e.2.pos with | .running c => some c | .waiting c _ => some c | _ => none)

/-- An engine takes new tasks: it waits for no rewrite (R161). -/
def engineOpen (s : State) (c e : Nat) : Bool := !s.churn.faulty.any (fun x => x.1.cluster == c && x.2.contains e)

/-- A cluster is open to a level (R144, R164). -/
def clusterOpen (s : State) (c lvl : Nat) : Bool :=
  s.runs (pdCluster c) && !s.fbit .CLUSTER_QUARANTINE_bits c && !s.churn.reloading.contains c &&
    (lvl < 2 || bufferUsed s c ≤ 240)

/-- The free contexts of an engine for a level. -/
def engineFree (s : State) (busy : List CtxId) (c e lvl : Nat) : List Nat :=
  if engineOpen s c e then (levelCtxs lvl).filter (fun x => !busy.contains ⟨c, e, x⟩) else []

/-- The free contexts of a cluster for a level. -/
def clusterFree (s : State) (busy : List CtxId) (c lvl : Nat) : Nat :=
  if clusterOpen s c lvl then ((List.range 16).map (fun e => (engineFree s busy c e lvl).length)).sum else 0

/-- The lowest number with the greatest value, if that is above 0. -/
def argMax (f : Nat → Nat) (n : Nat) : Option Nat :=
  match ((List.range n).map f).max? with
  | some m => if m = 0 then none else (List.range n).find? (fun i => f i == m)
  | none => none

/-- The context that R144 gives a task. -/
def chooseCtx (s : State) (busy : List CtxId) (used : List Nat) (lvl : Nat) : Option CtxId :=
  match argMax (fun c => if used.contains c then 0 else clusterFree s busy c lvl) 64 with
  | none => none
  | some c =>
    match argMax (fun e => (engineFree s busy c e lvl).length) 16 with
    | none => none
    | some e => ((engineFree s busy c e lvl).head?).map (fun x => ⟨c, e, x⟩)

/-- When a task became ready. -/
def readySince (t : Task) : Option Nat := match t.pos with | .ready n => some n | _ => none

/-- The task at the head of the lowest-numbered list that is not empty (R144). -/
def readyHead (s : State) : Option (Nat × Task) :=
  (taskList s).foldl (fun best e => match readySince e.2 with
    | none => best
    | some n => match best with
      | none => some e
      | some b => if e.2.level < b.2.level || (e.2.level == b.2.level && n < (readySince b.2).getD 0) then some e else best) none

/-- The dispatch counters (R163). -/
def countDispatch (s : State) (t : Task) (c : Nat) : State :=
  let s := s.count (match t.level with | 0 => .dispatchLvl0 | 1 => .dispatchLvl1 | 2 => .dispatchLvl2 | _ => .dispatchLvl3) c 1 t.ten
  if t.resumes || t.recNo.isNone then s
  else if 4 ≤ t.squashes then s.count .forcedNonspec c 1 t.ten
  else if t.nonspec && !t.dispatched then s.count .nonspecFirst c 1 t.ten
  else s

/-- A task meets a dispatch entry that is not valid: it ends at once, and a removal skips its teardown (R162). -/
def badOpcode (s : State) (id : Nat) (t : Task) : State :=
  match t.kind with
  | .teardown _ => settle (s.setTask id (some { t with pos := .torn, ctx := {} }))
  | _ =>
    let s := (s.count .badOpcode 0 1 t.ten).setTask id none
    settle (match t.frame with | some f => endPunt s f 0x22 | none => s)

/-- A task whose steps are built in has its context (R165): a recovery whose word is good again ends at once, and a visit whose
dispatch meets a bad word takes the machine check and is abandoned (R160; log entry 24). -/
def giveFixed (s : State) (id : Nat) (t : Task) (c : CtxId) (bad : Bool) : State :=
  match t.kind with
  | .recovery a => if isFaulty s a then s.setTask id (some t) else endFixed s id t
  | .visit _ =>
    let a : StoreAddr := ⟨c.cluster, 2, t.parity, t.opcode⟩
    if bad ∨ isFaulty s a then machineCheck s id t a c.engine else s.setTask id (some t)
  | _ => s.setTask id (some t)

/-- A task is given a context, and its snapshot of the record (R140, R144, R147, R162). -/
def giveCtx (s : State) (id : Nat) (t : Task) (c : CtxId) (bad : Bool) : State :=
  let s := countDispatch s t c.cluster
  let s := if t.level = 0 then { s with churn := { s.churn with preempt := false } } else s
  let m7 := s.devNs % 2 ^ 32 + s.time.epoch * 2 ^ 32
  if t.resumes then s.setTask id (some { t with pos := .running c, ctx := { t.ctx with m7 := m7, issues := 0 } })
  else
    let w := taskWords s t
    let x := { t.ctx with window := w, windowReady := t.recNo.isNone, version := recVersion w, m7 := m7 }
    let u := { t with pos := .running c, ctx := x, dispatched := true }
    if t.kind.fixed then giveFixed s id u c bad
    else if t.saved.isSome then s.setTask id (some u)
    else
      let a : StoreAddr := ⟨c.cluster, 2, t.parity, t.opcode⟩
      let e := dispEntry s t.parity t.opcode
      if bad ∨ isFaulty s a then machineCheck s id u a c.engine
      else if bits e 14 1 = 0 then badOpcode s id u
      else s.setTask id (some { u with ctx := { x with pc := e % 16384 } })

/-- A level-0 task that finds no context asks every context of a level-3 task to yield (R159). -/
def askPreempt (s : State) : State :=
  if s.churn.preempt then s
  else
    let l := (taskList s).filterMap (fun e => if e.2.level = 3 then (match e.2.pos with | .running c => some c.cluster | _ => none) else none)
    l.eraseDups.foldl (fun s c => s.count .preemptRequest c) { s with churn := { s.churn with preempt := true } }

/-- One task goes to a context: the state, and the clusters used if there may be more (R144). -/
def dispatchOne (s : State) (used bad : List Nat) : Option (List Nat) × State :=
  match readyHead s with
  | none => (none, s)
  | some (id, t) =>
    match chooseCtx s (busyCtxs s) used t.level with
    | none => (none, if t.level = 0 then askPreempt s else s)
    | some c => (some (c.cluster :: used), giveCtx s id t c (bad.contains c.cluster))

/-- Tasks go to contexts in order until one finds none (R144). -/
def dispatchLoop (fuel : Nat) (s : State) (used bad : List Nat) : State :=
  match fuel with
  | 0 => s
  | fuel + 1 =>
    match dispatchOne s used bad with
    | (none, s) => s
    | (some used, s) => dispatchLoop fuel s used bad

/-- TASK_DISPATCH (R144). `badEntries` are the clusters whose dispatch entry fails its parity at the fetch (R160). -/
def execTaskDispatch (badEntries : List Nat) (s : State) : Host.Outcome State Fault Refusal :=
  .next (dispatchLoop 64 s [] badEntries)

end Sys2Proof.Machine
end

