-- ==== Sys2Proof/Machine/FlowCmd.lean ====
section
/-! DEFINITION. Host commands of the CMD rings: flow commands, Strainer writes and reads, the epoch publish and its drain,
the declared drain (R83, R121 to R123, R184 to R187, R262 to R266, R393). -/

namespace Sys2Proof.Machine

/-! ### Descriptors (R262) -/

/-- The opcode of a CMD descriptor. -/
def cmdOp (d : Nat) : Nat := d % 256

/-- The work of a CMD descriptor at a stage, with an opcode. -/
def cmdWork (s : State) (set index op : Nat) (st : WorkStage) : Option Work :=
  match workOf s set 0 index with
  | some w => if cmdOp w.desc = op ∧ w.stage = st then some w else none
  | none => none

/-- A set may not issue the commands marked PF0 (R262). -/
def setLimited (s : State) (set : Nat) : Bool := setOwner s set != 0 || s.fbit .RSET_OWNER_tenant_lock set

/-- The tenant that a locked set acts for differs from a record's (R263). -/
def tenantHidden (s : State) (set : Nat) (w : List Nat) : Bool :=
  s.fbit .RSET_OWNER_tenant_lock set && s.fget .RSET_OWNER_tenant set != recTenant w

/-- A command completes with NOT_FOUND. -/
def notFound (s : State) (w : Work) : State := cmdComplete (s.count .hostNotFound 0 1 (setTen s w.set)) w 3 0 0 0

/-! ### Flow commands (R83, R107, R393) -/

/-- The word mask of a FLOW_UPDATE. -/
def updMask (d : Nat) : Nat := bits d 16 16

/-- A FLOW_UPDATE is refused (R83): it names words 0-5 or 9, or sets a reserved field of word 6 or 7. -/
def updBad (w : Work) : Bool :=
  let m := updMask w.desc
  let img := imageWords w.data
  m &&& 0x023F != 0 || (hasBit m 6 && bits (word img 6) 60 4 != 0) || (hasBit m 7 && bits (word img 7) 59 5 != 0)

/-- A command is the next of its ring to be hashed: commands of one ring are hashed in ring order (R83). -/
def nextToHash (s : State) (w : Work) : Bool :=
  match s.host.work.find? (fun x => x.set == w.set && x.ring == 0 && x.stage == .fetched && 1 ≤ cmdOp x.desc && cmdOp x.desc ≤ 4) with
  | some x => x.index == w.index
  | none => false

/-- A fetched flow command is hashed, takes its arrival place and goes to the lookup (R19, R83, R96). -/
def hashCmd (s : State) (w : Work) : State :=
  if nextToHash s w = false then s
  else if cmdOp w.desc = 2 ∧ updBad w then cmdComplete s w 1 0 0 0
  else
    let (p, s) := takePlace s
    toLookup (workSet s { w with stage := .placed, hash := hOld s (cmdKey w.desc), place := p }) (.cmd w.set w.index)

/-- The words of a record that FLOW_INSERT makes (R70, R83). -/
def insertWords (s : State) (w : Work) (tenant : Nat) : List Nat :=
  let img := imageWords w.data
  let v := word img 6
  keyWords (cmdKey w.desc) ++
    [bits v 16 4 * 2 ^ 16 + 2 ^ 20 + bits v 21 3 * 2 ^ 21 + bits v 24 8 * 2 ^ 24 + tenant * 2 ^ 32 + domainOf w.hash * 2 ^ 44,
     0, s.fget .AGE_CTL_age_epoch 0 * 2 ^ 48, s.stamp32 + s.stamp32 * 2 ^ 32] ++
    (List.range 6).map (fun i => word img (10 + i))

/-- The tenant of a FLOW_INSERT (R263). -/
def insertTenant (s : State) (w : Work) : Nat :=
  if s.fbit .RSET_OWNER_tenant_lock w.set then s.fget .RSET_OWNER_tenant w.set else bits w.desc 48 12

/-- FLOW_INSERT at the front of a miss entry with no record: it learns, or is refused under R80 (R83, R393). -/
def insertNew (s : State) (w : Work) (k : Key) (m : Miss) (rest : List Waiter) : State :=
  let h := hNew s (cmdKey w.desc)
  let t := insertTenant s w
  if keyPoisoned s (cmdKey w.desc) then m.waiting.foldl poisonEnd (freeEntry s k) else
  match learnCheck s t h with
  | (_, some l) =>
    let words := insertWords s w t
    let (n, s) := createRecord s words h l
    let s := cmdComplete (s.count .hostInsert 0 1 (some t)) w 0 0 0 0
    recordArrives s k { m with waiting := rest } n words true
  | (r, none) =>
    let s := cmdComplete (countRefusal s r (some t)) w 7 r 0 0
    serveNew (rest.length + 1) s k { m with waiting := rest }

/-- The miss entry that waits for a FLOW_INSERT at its front. -/
def insertEntry (s : State) (set index : Nat) : Option (Key × Miss × List Waiter) :=
  s.skim.misses.findSome? (fun e => match e.2 with
    | some m => match m.stage, m.waiting with
      | .insert, x :: l => if x = .cmd set index then some (e.1, m, l) else none
      | _, _ => none
    | none => none)

/-- The words of a record after a FLOW_UPDATE (R83). -/
def updWords (w : List Nat) (d : Work) : List Nat :=
  let img := imageWords d.data
  bumpVersion ((List.range 16).foldl (fun w n => if hasBit (updMask d.desc) n then writeWord w n (word img n) else w) w)

/-- A flow command executes on its record, in its task (R83, R263). -/
def runCmd (s : State) (w : Work) (id : Nat) (t : Task) (n : Nat) : State :=
  let rec0 := (authCopy s n).getD []
  let hidden := tenantHidden s w.set rec0
  let v := recVersion rec0
  match cmdOp w.desc with
  | 1 => settle (cmdComplete (endFixed s id t) w 2 0 (if hidden then 0 else v) 0)
  | 2 =>
    if hidden then settle (notFound (endFixed s id t) w)
    else if bits w.desc 9 1 = 1 ∧ bits w.desc 32 16 ≠ v then settle (cmdComplete (endFixed s id t) w 4 0 v 0)
    else
      let new := updWords rec0 w
      let s := spreadChange (authWrite s n new) id t (changeMask (updMask w.desc) 0)
      let s := (endFixed s id t).count .hostUpdate 0 1 (some (recTenant new))
      settle (cmdComplete s w 0 0 (recVersion new) 0)
  | 3 =>
    if hidden then settle (notFound (endFixed s id t) w)
    else settle (startTeardown (workSet (endFixed s id t) { w with stage := .owed }) n 0 t.place 2 (some (w.set, w.index)))
  | _ =>
    if hidden then settle (notFound (endFixed s id t) w)
    else
      let s := (endFixed s id t).count .hostRead 0 1 (some (recTenant rec0))
      settle (cmdData s w v 0 (recBytes rec0))

/-- A flow command goes one step on: it is hashed, inserts a new record, finds none, or executes in its task. -/
def flowCmd (s : State) (set index op : Nat) : State :=
  match workOf s set 0 index with
  | none => s
  | some w =>
    if cmdOp w.desc ≠ op then s
    else
      match w.stage with
      | .fetched => hashCmd s w
      | .missing =>
        if op = 1 then
          match insertEntry s set index with
          | some (k, m, l) => settle (insertNew s w k m l)
          | none => s
        else s
      | .ready =>
        match (taskList s).find? (fun e => e.2.cmd == some (set, index) && e.2.kind == .command) with
        | none => settle (notFound s w)
        | some (id, t) =>
          match t.pos, t.recNo with
          | .running _, some n => runCmd s w id t n
          | _, _ => s
      | _ => s

/-- CMD_NOP (R262). -/
def execCmdNop (set index : Nat) (s : State) : Host.Outcome State Fault Refusal :=
  .next (match cmdWork s set index 0x00 .fetched with | some w => cmdComplete s w 0 0 0 0 | none => s)

/-- FLOW_INSERT (R83). -/
def execFlowInsert (set index : Nat) (s : State) : Host.Outcome State Fault Refusal := .next (flowCmd s set index 1)

/-- FLOW_UPDATE (R83). -/
def execFlowUpdate (set index : Nat) (s : State) : Host.Outcome State Fault Refusal := .next (flowCmd s set index 2)

/-- FLOW_DELETE (R83, R84). -/
def execFlowDelete (set index : Nat) (s : State) : Host.Outcome State Fault Refusal := .next (flowCmd s set index 3)

/-- FLOW_READ (R83). -/
def execFlowRead (set index : Nat) (s : State) : Host.Outcome State Fault Refusal := .next (flowCmd s set index 4)

/-! ### Strainer commands (R121, R122, R123, R262) -/

/-- The entry address of a Strainer command. -/
def strCmdAddr (d : Nat) : Nat := bits d 16 18

/-- The mode of the block of an address, if the address names an entry (R121). -/
def strMode (s : State) (a : Nat) : Option Nat :=
  let b := a / 32768
  let m := s.fget .STR_BLOCK_CFG_mode b
  if m = 3 ∨ (m = 1 ∧ b % 2 ≠ 0) ∨ (m = 2 ∧ b % 4 ≠ 0) then none else some m

/-- An image of an entry, as a number. -/
def strImage (d : List Byte) (i : Nat) : Nat := leNat (slice d (64 * i) 64)

/-- An action RAM entry holds values that the spec assigns (R122, R267). -/
def actionOk (a : Nat) : Bool := actOf a ≤ 4 && ((actOf a != 2 && actOf a != 3) || reasonOk (bits a 17 8))

/-- The data or care bits of all images, joined. -/
def joinImages (d : List Byte) (n lsb : Nat) : Nat :=
  ((List.range n).map (fun i => bits (strImage d i) lsb 160 * 2 ^ (160 * i))).sum

/-- A STRAINER_WRITE is acceptable for a mode (R122). -/
def strWriteOk (d : List Byte) (m : Nat) : Bool :=
  let n := 2 ^ m
  let i0 := strImage d 0
  d.length == 64 * n && bits i0 338 2 == m && bits i0 340 44 == 0 && bits i0 448 64 == 0 &&
    ((List.range n).drop 1).all (fun i => bits (strImage d i) 320 192 == 0) &&
    joinImages d n 0 &&& joinImages d n 160 == joinImages d n 0 && actionOk (bits i0 384 64)

/-- The entry that the images describe. -/
def strEntryOf (d : List Byte) (m : Nat) : StrEntry :=
  let i0 := strImage d 0
  let data := joinImages d (2 ^ m) 0
  let care := joinImages d (2 ^ m) 160
  { width := m, data := data, care := care, shadowData := data, shadowCare := care, prio := bits i0 320 16,
    epoch := bits i0 336 2, action := bits i0 384 64, poisoned := false }

/-- The images of an entry with its shadow, as STRAINER_READ writes them. -/
def strImages (e : Option StrEntry) (m : Nat) : List Byte :=
  match e with
  | none => List.replicate (64 * 2 ^ m) 0#8
  | some e => (List.range (2 ^ m)).flatMap (fun i =>
      let v := bits e.shadowData (160 * i) 160 + bits e.shadowCare (160 * i) 160 * 2 ^ 160
      leBytes 64 (if i = 0 then v + e.prio * 2 ^ 320 + e.epoch * 2 ^ 336 + e.width * 2 ^ 338 + e.action * 2 ^ 384 else v))

/-- STRAINER_WRITE (R122, R123). -/
def execStrainerWrite (set index : Nat) (s : State) : Host.Outcome State Fault Refusal :=
  .next (
    match cmdWork s set index 0x10 .fetched with
    | none => s
    | some w =>
      if setLimited s set then cmdComplete s w 6 0 0 0
      else
        let a := strCmdAddr w.desc
        match strMode s a with
        | none => cmdComplete s w 1 0 0 0
        | some m =>
          if strWriteOk w.data m then cmdComplete (poisonCount (setEntry s a (strEntryOf w.data m))) w 0 0 0 0
          else cmdComplete s w 1 0 0 0)

/-- STRAINER_READ (R121, R262). -/
def execStrainerRead (set index : Nat) (s : State) : Host.Outcome State Fault Refusal :=
  .next (
    match cmdWork s set index 0x11 .fetched with
    | none => s
    | some w =>
      let a := strCmdAddr w.desc
      if setLimited s set then cmdComplete s w 6 0 0 (a * 2 ^ 128)
      else
        match strMode s a with
        | none => cmdComplete s w 1 0 0 (a * 2 ^ 128)
        | some m =>
          cmdData s w 0 (a * 2 ^ 128) (strImages (entryAt s.strainer a m) m))

/-! ### Epoch publishes and drains (R184 to R187, R264) -/

/-- Frames and tasks that carry the other parity than the current one (R186). -/
def drainCount (s : State) : Nat :=
  let p := parityNow s
  tcount s.frames (fun _ f => f.tagged && f.epochTag != p && f.stage != .released) +
    ((taskList s).filter (fun e => e.2.frame.isNone && e.2.parity != p)).length

/-- PUBLISH_STATUS.drain_count follows the drain. -/
def drainRefresh (s : State) : State :=
  if s.fbit .PUBLISH_STATUS_draining 0 then s.fset .PUBLISH_STATUS_drain_count 0 (drainCount s) else s

/-- A publish is accepted: the parity flips and the old one drains (R185). -/
def publishNow (s : State) : State :=
  let s := s.fset .PUBLISH_STATUS_parity 0 (1 - parityNow s)
  let s := (s.fset .PUBLISH_STATUS_draining 0 1).fset .PUBLISH_STATUS_ready 0 0
  let s := s.fset .PUBLISH_STATUS_publish_seq 0 (s.fget .PUBLISH_STATUS_publish_seq 0 + 1)
  drainRefresh { s with churn := { s.churn with drainFrom := some s.now } }

/-- EPOCH_PUBLISH (R185, R264). -/
def execEpochPublish (set index : Nat) (s : State) : Host.Outcome State Fault Refusal :=
  .next (
    match cmdWork s set index 0x18 .fetched with
    | none => s
    | some w =>
      if setLimited s set then cmdComplete s w 6 0 0 0
      else if s.fbit .PUBLISH_STATUS_ready 0 = false then
        cmdComplete (s.event .PUBLISH_STATUS_busy_event 0) w 5 0 0 0
      else
        let s := publishNow (workSet s { w with stage := .owed })
        { s with churn := { s.churn with publishers := s.churn.publishers ++ [(set, index)] } })

/-- DRAIN_SET (R262). -/
def execDrainSet (set index : Nat) (s : State) : Host.Outcome State Fault Refusal :=
  .next (
    match cmdWork s set index 0x20 .fetched with
    | none => s
    | some w =>
      if setLimited s set then cmdComplete s w 6 0 0 0
      else cmdComplete (updShow (s.fset .HIF_STATUS_drain_declared 0 (bits w.desc 32 1))) w 0 0 0 0)

/-- The publish commands whose drain has completed are completed (R186, R265). -/
def completePublishers (s : State) (l : List (Nat × Nat)) : State :=
  l.foldl (fun s x => match workOf s x.1 0 x.2 with
    | some w => cmdComplete s w 0 0 0 (s.fget .PUBLISH_STATUS_publish_seq 0 * 2 ^ 128 + parityNow s * 2 ^ 144)
    | none => s) s

/-- A drain completes: its publish commands complete, and the drained bank is Idle if it holds the Active bundle, else
Staging (R186, R187). -/
def drainDone (s : State) : State :=
  let s := (s.fset .PUBLISH_STATUS_draining 0 0).fset .PUBLISH_STATUS_drain_count 0 0
  let l := s.churn.publishers
  let s := completePublishers { s with churn := { s.churn with publishers := [], drainFrom := none } } l
  if s.churn.bank0 = s.churn.bank1 then bankIdle s else s.fset .PUBLISH_STATUS_staging 0 1

/-- A walker issues a cancelled task again under the new parity (R186): a visit, a removal that is still due, a rebuild. -/
def reissue (s : State) (t : Task) : State :=
  match t.kind, t.recNo with
  | .teardown cause, some n =>
    let w := (authCopy s n).getD []
    let due := if cause = 1 then ageDue s w else if cause = 4 then purgeDue s.cellar.purgeAddr w else true
    if due then
      let (p, s) := takePlace s
      startTeardown s n cause p 3 none
    else s
  | .visit w, some n => startVisit s w n
  | .rebuild b, _ => newTask s (taskOf (.rebuild b) none none none [] 0 0 3 0 (parityNow s) 0 true)
  | _, _ => s

/-- DRAIN_LIMIT_EXPIRE (R186): level-3 tasks of the old parity that hold no context are cancelled, and their walkers issue
them again under the new one. A cancelled task counts as one that a frame's end cancels (R146, R163; log entry 21). -/
def execDrainLimitExpire (s : State) : Host.Outcome State Fault Refusal :=
  .next (
    match s.churn.drainFrom with
    | none => s
    | some t0 =>
      if s.now < t0 + 1000 * s.fget .PUBLISH_CFG_drain_limit_us 0 then s
      else
        let p := parityNow s
        let l := (taskList s).filter (fun e => e.2.level == 3 && e.2.parity != p && e.2.frame.isNone &&
          (match e.2.pos with | .held => true | .ready _ => true | .buffered _ _ => true | _ => false))
        let s := { s with churn := { s.churn with drainFrom := none } }
        let s := if l.isEmpty then s else s.event .PUBLISH_STATUS_drain_cut_event 0
        let s := l.foldl (fun s e => (match e.2.pos.cluster with
          | some c => (loseSegment s e.2).count .cancelInFlight c 1 e.2.ten
          | none => s.count .cancelBeforeDispatch 0 1 e.2.ten).setTask e.1 none) s
        settle (l.foldl (fun s e => reissue s e.2) (drainRefresh s)))

/-- The drained bank holds the Active bundle and is Idle (R187). -/
def mirrorDone (s : State) : State :=
  let c := s.churn
  let c := if parityNow s = 0 then { c with bank1 := c.bank0 } else { c with bank0 := c.bank1 }
  bankIdle { s with churn := c }

/-- A publish due from a trigger: one that would be refused is lost and counted (R185). -/
def publishTrigger (s : State) : State :=
  if s.fbit .PUBLISH_STATUS_ready 0 then publishNow s
  else
    let s := s.event .PUBLISH_STATUS_busy_event 0
    { s with churn := { s.churn with publishBusy := (s.churn.publishBusy + 1) % 2 ^ 48 } }

end Sys2Proof.Machine
end

