-- ==== Sys2Proof/Machine/TelemOps.lean ====
section
/-! DEFINITION. Whey delivery, device-built IPFIX messages, export epochs, counter snapshots and the user page (R292 to
R315). -/

namespace Sys2Proof.Machine

/-! ### Where records and punts go (R268, R300) -/

/-- The ring set of a punt or a record: with tenant_route the lowest enabled set locked to the tenant, else the set named. -/
def routeSet (s : State) (set : Nat) (byTenant : Bool) (tenant : Nat) : Nat :=
  if byTenant then
    ((List.range 64).find? (fun x => s.fbit .SET_CTL_set_en x && s.fbit .RSET_OWNER_tenant_lock x &&
      s.fget .RSET_OWNER_tenant x == tenant)).getD set
  else set

/-- A device-to-host ring drops what it is given: it is disabled or stopped. -/
def ringDead (s : State) (set k : Nat) : Bool := !ringOn s set k || s.fbit .RING_CTL_stopped (set * 8 + k)

/-- A live ring waits for Bus Master Enable (R261). -/
def ringWaits (s : State) (set k : Nat) : Bool := !ringDead s set k && !ringRuns s set k

/-- One entry for a WHEY or TALLY ring: written, or dropped and counted (R268, R300). -/
def ringPut (s : State) (set k v : Nat) (c : Ctr) (tn : Option Nat := none) : State :=
  if ringDead s set k then s.count .ringOffDrop set 1 tn
  else if ringFull s set k then s.count .ringFullDrop set 1 tn
  else (ringWrite s set k v).count c set 1 tn

/-! ### IPFIX templates and data records (R303, R304) -/

/-- An information element of a template: its number, its length, and whether it is a Kolropel element. -/
structure Elem where
  ie : Nat
  len : Nat
  own : Bool
  deriving DecidableEq, Repr

/-- A Kolropel element. -/
def elemE (n len : Nat) : Elem := ⟨n, len, true⟩

/-- An IANA element. -/
def elemI (n len : Nat) : Elem := ⟨n, len, false⟩

/-- The tail that the flow templates share. -/
def flowTail : List Elem :=
  [elemI 234 4, elemI 86 8, elemI 85 8, elemI 136 1, elemE 4 4, elemE 3 4, elemE 5 1, elemE 7 1]

/-- The eight templates (R304). -/
def templates : List (Nat × List Elem) :=
  [(256, [elemE 1 1, elemI 8 4, elemI 12 4, elemI 4 1, elemI 7 2, elemI 11 2] ++ flowTail),
   (257, [elemE 1 1, elemI 27 16, elemI 28 16, elemI 4 1, elemI 7 2, elemI 11 2] ++ flowTail),
   (258, [elemE 1 1, elemE 2 37] ++ flowTail),
   (259, [elemE 1 1, elemI 8 4, elemI 12 4, elemI 4 1, elemI 7 2, elemI 11 2, elemI 225 4, elemI 227 2, elemI 230 1, elemI 234 4,
          elemE 3 4, elemE 5 1]),
   (260, [elemE 1 1, elemE 2 37, elemE 8 8, elemE 9 8, elemI 234 4, elemE 3 4, elemE 5 1]),
   (261, [elemE 1 1, elemE 10 1, elemI 10 4, elemI 14 4, elemE 11 1, elemI 234 4, elemE 15 2, elemI 305 4, elemE 3 4, elemE 5 1,
          elemI 315 40]),
   (262, [elemE 1 1, elemI 14 4, elemE 11 1, elemE 12 4, elemE 13 4, elemE 16 1, elemE 3 4, elemE 5 1]),
   (263, [elemE 1 1, elemE 14 4, elemE 3 4, elemE 5 1])]

/-- The bytes of one field specifier (RFC 7011, which R303 names). -/
def elemBytes (pen : Nat) (e : Elem) : List Byte :=
  if e.own then beBytes 2 (e.ie + 0x8000) ++ beBytes 2 e.len ++ beBytes 4 pen else beBytes 2 e.ie ++ beBytes 2 e.len

/-- The template set: set 2 with all eight templates. -/
def templateSet (pen : Nat) : List Byte :=
  let body := templates.flatMap (fun t => beBytes 2 t.1 ++ beBytes 2 t.2.length ++ t.2.flatMap (elemBytes pen))
  beBytes 2 2 ++ beBytes 2 (body.length + 4) ++ body

/-- Element 136 (R304). -/
def endReason (t cause : Nat) : Nat :=
  if t = 3 then 2 else if t = 1 then 0
  else match cause with
    | 1 => 1
    | 2 => 3
    | 0 => 4
    | 4 => 4
    | _ => 5

/-- The stamp, epoch and type bytes of a record. -/
def recStamp (v : Nat) : List Byte := beBytes 4 (bits v 32 32) ++ beBytes 1 (bits v 8 8)

/-- The addresses, protocol and ports that a view finds in the key field. -/
def viewBytes (w : Nat) (kf : List Byte) (alen : Nat) : List Byte :=
  slice kf (fldIn w .WHEY_VIEW_src_off) alen ++ slice kf (fldIn w .WHEY_VIEW_dst_off) alen ++
    slice kf (fldIn w .WHEY_VIEW_proto_off) 1 ++ slice kf (fldIn w .WHEY_VIEW_sport_off) 2 ++
    slice kf (fldIn w .WHEY_VIEW_dport_off) 2

/-- The template and the data record of a Whey record under its view word `w` (R304). -/
def dataRecord (w v : Nat) : Nat × List Byte :=
  let t := v % 16
  let typ := beBytes 1 t
  let kf := leBytes 37 (bits v 64 296)
  if t ≤ 4 then
    let o := bits v 495 8
    let tail := beBytes 4 (bits v 480 12) ++ beBytes 8 (bits v 360 40) ++ beBytes 8 (bits v 400 48) ++
      beBytes 1 (endReason t (bits v 492 3)) ++ beBytes 4 (bits v 448 32) ++ recStamp v ++ beBytes 1 o
    match fldIn w .WHEY_VIEW_view with
    | 1 => (256, typ ++ viewBytes w kf 4 ++ tail)
    | 2 => (257, typ ++ viewBytes w kf 16 ++ tail)
    | _ => (258, typ ++ kf ++ tail)
  else if t ≤ 6 then
    let act0 := bits v 360 64
    let ten := beBytes 4 (bits v 488 12)
    if fldIn w .WHEY_VIEW_view = 1 ∧ fldIn w .WHEY_VIEW_nat_lib = 1 then
      (259, typ ++ viewBytes w kf 4 ++ beBytes 4 (bits act0 16 32) ++ beBytes 2 (bits act0 0 16) ++ beBytes 1 (t - 1) ++ ten ++ recStamp v)
    else (260, typ ++ kf ++ beBytes 8 act0 ++ beBytes 8 (bits v 424 64) ++ ten ++ recStamp v)
  else if t = 7 then
    (261, typ ++ beBytes 1 (bits v 64 8) ++ beBytes 4 (bits v 72 9) ++ beBytes 4 (bits v 81 9) ++ beBytes 1 (bits v 90 4) ++
      beBytes 4 (bits v 94 12) ++ beBytes 2 (bits v 106 14) ++ beBytes 4 (bits v 128 24) ++ recStamp v ++ leBytes 40 (bits v 176 320))
  else if t = 8 then
    (262, typ ++ beBytes 4 (bits v 64 9) ++ beBytes 1 (bits v 73 4) ++ beBytes 4 (bits v 80 24) ++ beBytes 4 (bits v 104 24) ++
      beBytes 1 (bits v 77 1) ++ recStamp v)
  else (263, typ ++ beBytes 4 (bits v 64 27) ++ recStamp v)

/-- The data sets of a message: one set per run of records that share a template (R303). -/
def dataSets (fuel : Nat) (l : List (Nat × List Byte)) : List Byte :=
  match fuel, l with
  | fuel + 1, (t, r) :: l =>
    let run := l.takeWhile (fun x => x.1 == t)
    let body := r ++ run.flatMap (fun x => x.2)
    beBytes 2 t ++ beBytes 2 (body.length + 4) ++ body ++ dataSets fuel (l.dropWhile (fun x => x.1 == t))
  | _, _ => []

/-- The IPv4 packet length of a message whose sets have a length. -/
def packetLen (sets : Nat) : Nat := 20 + 8 + 16 + sets

/-- The sets of a list of records. -/
def setsOf (l : List (Nat × List Byte)) : List Byte := dataSets l.length l

/-- The Ethernet frame of a message, without FCS (R303). -/
def messageBytes (s : State) (x ident seq : Nat) (sets : List Byte) : List Byte :=
  let n := packetLen sets.length
  let ip := beBytes 1 0x45 ++ beBytes 1 (s.fget .IPFIX_CFG_dscp x * 4) ++ beBytes 2 n ++ beBytes 2 ident ++ beBytes 2 0x4000 ++
    beBytes 1 64 ++ beBytes 1 17 ++ beBytes 2 0 ++ beBytes 4 (s.fget .IPFIX_CFG_src_ipv4 x) ++ beBytes 4 (s.fget .IPFIX_CFG_dst_ipv4 x)
  let ip := putBytes ip 10 (beBytes 2 (csum ip))
  beBytes 6 (s.fget .IPFIX_CFG_dmac x) ++ beBytes 6 (s.fget .SMAC_mac (s.fget .IPFIX_CFG_smac_idx x)) ++ beBytes 2 0x0800 ++ ip ++
    beBytes 2 (s.fget .IPFIX_CFG_src_udp x) ++ beBytes 2 (s.fget .IPFIX_CFG_dst_udp x) ++ beBytes 2 (n - 20) ++ beBytes 2 0 ++
    beBytes 2 10 ++ beBytes 2 (n - 28) ++ beBytes 4 (s.devNs / 1000000000) ++ beBytes 4 seq ++
    beBytes 4 (s.fget .IPFIX_CFG_domain_id x) ++ sets

/-- An exporter. -/
def State.exporter (s : State) (x : Nat) : Exporter := tget {} s.telem.exporters (x, 0)

/-- Replace it. -/
def State.setExporter (s : State) (x : Nat) (e : Exporter) : State :=
  { s with telem := { s.telem with exporters := tset {} s.telem.exporters (x, 0) e } }

/-- A message is enqueued; a drop there is counted (R303). -/
def sendMessage (s : State) (x seq : Nat) (sets : List Byte) : State :=
  let e := s.exporter x
  let id := s.nextFrame
  let b := messageBytes s x e.ident seq sets
  let s := s.setExporter x { e with ident := (e.ident + 1) % 65536 }
  let s := enqueueBuilt s (b ++ List.replicate 4 0#8) (s.fget .IPFIX_CFG_port x) (s.fget .IPFIX_CFG_class x)
  if (s.frame? id).isNone then s.count .ipfixMsgDrop x else s

/-- The open message of an exporter is sent. -/
def flushExporter (s : State) (x : Nat) : State :=
  let e := s.exporter x
  if e.recs.isEmpty then s
  else
    let s := s.setExporter x { e with recs := [] }
    sendMessage (s.count .ipfixMsgs x) x (e.built - e.recs.length) (setsOf e.recs)

/-- The template set is sent (R303). -/
def sendTemplates (s : State) (x : Nat) : State :=
  let e := s.exporter x
  let s := s.setExporter x { e with tmplAt := s.now }
  sendMessage (s.count .ipfixTemplates x) x (e.built - e.recs.length) (templateSet (s.fget .IPFIX_CFG_pen x))

/-- A record is added to an exporter's message; one that would take it above mtu goes to the next (R303). -/
def exportRecord (s : State) (x w v : Nat) (tn : Option Nat := none) : State :=
  let d := dataRecord w v
  let tooBig := decide (s.fget .IPFIX_CFG_mtu x < packetLen (setsOf ((s.exporter x).recs ++ [d])).length)
  let s := if tooBig then flushExporter s x else s
  let e := s.exporter x
  let since := if e.recs.isEmpty then s.now else e.since
  (s.setExporter x { e with recs := e.recs ++ [d], since := since, built := e.built + 1 }).count .ipfixRecords x 1 tn

/-- Every running exporter whose port this is sends its templates: the port has come up (R303). -/
def portUpTemplates (s : State) (q : Nat) : State :=
  (List.range 4).foldl (fun s x => if s.fbit .IPFIX_CFG_en x ∧ s.fget .IPFIX_CFG_port x = q then sendTemplates s x else s) s

/-! ### Delivery (R300, R301) -/

/-- The telemetry and Tally domain. -/
def pdTelem : Nat := 159

/-- WHEY_DELIVER (R300, R301): the oldest record goes to its ring and its exporter, as it was routed when it was produced (R313). -/
def execWheyDeliver (s : State) : Host.Outcome State Fault Refusal :=
  .next (
    match s.whey with
    | [] => s
    | r :: l =>
      let w := r.route
      let ring := fldIn w .WHEY_ROUTE_ring_en == 1
      let set := routeSet s (fldIn w .WHEY_ROUTE_set) (fldIn w .WHEY_ROUTE_tenant_route == 1 && wheyTenanted r.typ) r.tenant
      let ipfix := fldIn w .WHEY_ROUTE_ipfix_en == 1 && r.exports
      if s.runs pdTelem = false ∨ (ring && ringWaits s set 4) then s
      else
        let s := { s with whey := l }.fset .WHEY_STATUS_queue_fill 0 l.length
        let tn := wheyTen r.typ r.tenant
        let s := if ring then ringPut s set 4 r.val .wheyWritten tn else s
        let s := if ipfix then exportRecord s (fldIn w .WHEY_ROUTE_exporter) r.view r.val tn else s
        if !ring && !ipfix then s.count .wheyDrop (r.typ - 1) 1 tn else s)

/-! ### Export epochs (R302) -/

/-- A close of the export epoch (R302). Requests of one instant make one close (log entry 4). -/
def wheyClose (s : State) : State :=
  if s.telem.closed = some s.now then s else
  let s := { s with telem := { s.telem with closed := some s.now } }
  let s := s.fset .WHEY_STATUS_export_epoch 0 (s.fget .WHEY_STATUS_export_epoch 0 + 1)
  let s := (List.range 4).foldl flushExporter s
  if s.fbit .WHEY_STATUS_periodic_running 0 = false then
    { s with cellar := { s.cellar with periodicAt := some 0 } }.fset .WHEY_STATUS_periodic_running 0 1
  else if s.fbit .WHEY_STATUS_periodic_pending 0 then s.count .periodicOverrun 0
  else s.fset .WHEY_STATUS_periodic_pending 0 1

/-- IPFIX_MESSAGE_TIMEOUT (R303). -/
def execIpfixMessageTimeout (x : Nat) (s : State) : Host.Outcome State Fault Refusal :=
  .next (
    let e := s.exporter x
    if e.recs ≠ [] ∧ e.since + 100000 ≤ s.now then flushExporter s x else s)

/-- IPFIX_TEMPLATE_REFRESH (R303). -/
def execIpfixTemplateRefresh (x : Nat) (s : State) : Host.Outcome State Fault Refusal :=
  .next (
    if x < 4 ∧ s.fbit .IPFIX_CFG_en x ∧ (s.exporter x).tmplAt + 1000000000 * s.fget .IPFIX_CFG_template_refresh_s x ≤ s.now then
      sendTemplates s x
    else s)

/-! ### Snapshots (R307 to R311) -/

/-- Ways that hold a record in each bank: the gauge ways_valid (R118). -/
def gaugeWays (s : State) : State :=
  (List.range 16).foldl (fun s b => s.gset .gWaysValid b (tcount s.skim.ways (fun k _ => k.1 / 8192 == b))) s

/-- Staged settings of a programmable counter take effect; its load replaces it (R305, R307). -/
def progApply (s : State) (k : Key) (v : Nat) : State :=
  let i := k.1 * 8 + k.2
  let s := (s.fset .TALLY_PROG_event i (bits v 0 16)).fset .TALLY_PROG_tenant i (bits v 16 12)
  let s := (s.fset .TALLY_PROG_tenant_en i (bits v 28 1)).fset .TALLY_PROG_chain i (bits v 29 1)
  let s := s.fset .TALLY_PROG_load_value i (bits v 64 48)
  let s := s.fset .TALLY_PROG_load i 0
  if bits v 30 1 = 1 then { s with prog := tset 0 s.prog k (bits v 64 48) } else s

/-- Counters of some kinds restart at 0. -/
def ctrsClear (s : State) (cs : List Nat) : State := { s with ctr := s.ctr.filter (fun e => !cs.contains e.1.1) }

/-- Peaks and low-water marks that restart at each snapshot (R118, R210). -/
def restartPeaks (s : State) : State :=
  let s := ctrsClear s
    [Ctr.gMissEntriesPeak.ctorIdx, Ctr.gWbQueuePeak.ctorIdx, Ctr.gIngCellsPeak.ctorIdx, Ctr.gOnDiePeak.ctorIdx, Ctr.gVatPeak.ctorIdx]
  let s := (List.range 16).foldl (fun s b => (s.gset .gMissEntriesPeak b (missesUsed s b)).gset .gWbQueuePeak b (wbQueue s b).length) s
  let s := s.buffers.count.foldl (fun s e => s.gset .gIngCellsPeak (e.1.1 * 16 + e.1.2) e.2) s
  let s := s.egress.queues.foldl (fun s e =>
    (s.gset .gOnDiePeak (e.1.1 * 16 + e.1.2) e.2.cells).gset .gVatPeak (e.1.1 * 16 + e.1.2) e.2.segs) s
  let s := (List.range 4).foldl (fun s k => s.fset .POOL_STATUS_free_min k (s.fget .POOL_STATUS_free k)) s
  s.fset .VAT_STATUS_free_min 0 (s.fget .VAT_STATUS_segments_free 0)

/-- A snapshot's pulse: every group latches, staged settings apply, the page goes odd (R307 to R311). -/
def snapPulse (s : State) (cause : Nat) : State :=
  let s := gaugeWays (s.count .snapCount 0)
  let q := (s.fget .TALLY_CTL_snap_seq 0 + 1) % 65536
  let s := ((s.fset .TALLY_CTL_snap_seq 0 q).fset .TALLY_CTL_snap_busy 0 1).fset .TALLY_CTL_snap_now 0 0
  let v : Snap := ⟨s.ctr, s.prog, q, s.time.epoch, s.devNs, cause⟩
  let p := { s.telem.page with pageSeq := (s.telem.page.pageSeq + 1) % 2 ^ 32 }
  let l := s.telem.staged
  let s := { s with telem := { s.telem with snap := some v, page := p, staged := [] } }
  let s := l.foldl (fun s e => match e.2 with | some v => progApply s e.1 v | none => s) s
  restartPeaks s

/-- A snapshot has been requested at this instant: a further request of the instant is the same one (R309, log entry 4). -/
def snapMerges (s : State) : Bool :=
  s.fbit .TALLY_CTL_snap_busy 0 && s.telem.asked == some s.now

/-- A snapshot is requested: cause 0 a trigger, 1 snap_now (R309). -/
def snapRequest (s0 : State) (cause : Nat) : State :=
  let s := { s0 with telem := { s0.telem with asked := some s0.now } }
  if snapMerges s0 then (if s.fbit .TALLY_CTL_snap_pending 0 then s else s.fset .TALLY_CTL_snap_now 0 0)
  else if s.fbit .TALLY_CTL_snap_busy 0 = false then snapPulse s cause
  else if s.fbit .TALLY_CTL_snap_pending 0 = false then
    { s with telem := { s.telem with heldCause := cause } }.fset .TALLY_CTL_snap_pending 0 1
  else (s.count .snapOverrun 0).event .TALLY_CTL_snap_overrun 0

/-- The value of a counter of a group in a snapshot (R305). -/
def snapValue (v : Snap) (g i : Nat) : Nat :=
  if i < 8 then tget 0 v.prog (g, i)
  else
    match (groupCtrs g).find? (fun c => c.base.2.1 ≤ i && i < c.base.2.1 + c.base.2.2) with
    | some c => tget 0 v.ctr (c.ctorIdx, (g - c.base.1) * c.base.2.2 + (i - c.base.2.1))
    | none => 0

/-- Fields that every record of a snapshot carries (R310). -/
def snapHead (v : Snap) (kind : Nat) : Nat := kind + v.epoch * 2 ^ 4 + v.seq * 2 ^ 12

/-- The counter records of a group: nine counters each (R310). -/
def groupRecords (v : Snap) (g : Nat) : List Nat :=
  (List.range ((groupSize g + 8) / 9)).map (fun j =>
    let n := min 9 (groupSize g - 9 * j)
    snapHead v 2 + g * 2 ^ 28 + 9 * j * 2 ^ 38 + n * 2 ^ 54 +
      ((List.range n).map (fun i => snapValue v g (9 * j + i) * 2 ^ (64 + 48 * i))).sum)

/-- The begin record (R310). -/
def beginRecord (v : Snap) : Nat :=
  snapHead v 1 + v.ns % 2 ^ 32 * 2 ^ 64 + v.ns / 1000000000 % 2 ^ 48 * 2 ^ 96 + v.cause * 2 ^ 144

/-- A set receives only the groups shown to user code (R310). -/
def setUserOnly (s : State) (set : Nat) : Bool := s.fbit .TALLY_SETCFG_user_only set || setOwner s set != 0

/-- The counter records of the groups that a test picks. -/
def snapRecords (s : State) (v : Snap) (user : Bool) : List Nat :=
  (List.range 395).flatMap (fun g => if user && !s.fbit .TALLY_GROUP_user_read g then [] else groupRecords v g)

/-- A snapshot is written to a set's TALLY ring (R310). -/
def snapToSet (s : State) (v : Snap) (set : Nat) : State :=
  let l := snapRecords s v (setUserOnly s set)
  let fin := snapHead v 3 + l.length % 2 ^ 32 * 2 ^ 64
  (beginRecord v :: (l ++ [fin])).foldl (fun s x => ringPut s set 5 x .tallyWritten) s

/-- The records of the user page: those of the groups shown to user code, in order, a group that does not fit left out (R311). -/
def pageRecords (s : State) (v : Snap) : List Nat :=
  ((List.range 395).filter (fun g => s.fbit .TALLY_GROUP_user_read g)).foldl (fun l g =>
    let r := groupRecords v g
    if l.length + r.length ≤ 1023 then l ++ r else l) []

/-- The user page shows a snapshot (R311). -/
def snapToPage (s : State) (v : Snap) : State :=
  let l := pageRecords s v
  let cut := decide (l.length < (snapRecords s v true).length)
  let p : UserPage := ⟨(s.telem.page.pageSeq + 1) % 2 ^ 32, v.seq, v.epoch, v.ns, l, cut⟩
  let s := { s with telem := { s.telem with page := p } }
  if cut then s.count .userTruncated 0 else s

/-- The sets that receive snapshots. -/
def tallySets (s : State) : List Nat := (List.range 64).filter (fun x => s.fbit .TALLY_SETCFG_en x)

/-- TALLY_WRITEOUT_COMPLETE (R309 to R311): the records reach their rings and the page; a held request then starts. -/
def execTallyWriteoutComplete (s : State) : Host.Outcome State Fault Refusal :=
  .next (
    match s.telem.snap with
    | none => s
    | some v =>
      if s.runs pdTelem = false ∨ (tallySets s).any (fun x => ringWaits s x 5) then s
      else
        let s := (tallySets s).foldl (fun s x => snapToSet s v x) s
        let s := s.count .tallyRecords 0 (snapRecords s v false).length
        let s := snapToPage s v
        let s := { s with telem := { s.telem with snap := none } }.fset .TALLY_CTL_snap_busy 0 0
        if s.fbit .TALLY_CTL_snap_pending 0 then snapPulse (s.fset .TALLY_CTL_snap_pending 0 0) s.telem.heldCause else s)

/-- The page header of BAR4 slot 0 (R311). -/
def pageHeader (s : State) : Nat :=
  let p := s.telem.page
  p.pageSeq + p.snapSeq * 2 ^ 32 + p.epoch * 2 ^ 48 + p.ns % 2 ^ 32 * 2 ^ 64 + p.ns / 1000000000 % 2 ^ 48 * 2 ^ 96 +
    p.recs.length * 2 ^ 144 + bit p.truncated * 2 ^ 154

/-- A TALLY_PROG write is acceptable (R305, R313). -/
def progOk (g n v : Nat) : Bool :=
  let e := bits v 0 16
  g < 395 && n < 8 &&
    (e == 0 || (8 ≤ e && e < groupGauge g) || (0xF000 ≤ e && e ≤ 0xF006 && 32 ≤ g && g < 112))

/-- TALLY_PROG_WRITE (R307): staged until the next snapshot latch. -/
def execTallyProgWrite (_req : Requester) (g n : Nat) (value : BitVec 128) (s : State) : Host.Outcome State Fault Refusal :=
  .next (
    if progOk g n value.toNat then
      { s with telem := { s.telem with staged := tset none s.telem.staged (g, n) (some value.toNat) } }
    else s.event .TALLY_CTL_arg_err 0)

end Sys2Proof.Machine
end

