-- ==== Sys2Proof/Machine/Receive.lean ====
section
/-! DEFINITION. A frame's arrival: reception and the receive counters (R38, R390), the tile's own frames (R40, R43, R361),
the fate of a frame found bad at its end (R37, R57, R64), and steps 2 to 4 of the road (R52 to R65, R194). -/

namespace Sys2Proof.Machine

/-! ### Frames that end while or after they arrive -/

/-- Copies of a frame in transmission. -/
def txCount (s : State) (id : Nat) : Nat :=
  tcount s.egress.tx (fun _ t => match t with | some t => t.copy.frame == id | none => false)

/-- The frame itself still holds its buffer: not transmitted, dropped or in transmission (R204). -/
def ownHold (s : State) (id : Nat) : Bool :=
  match s.frame? id with
  | none => false
  | some f => f.copies == 0 || txCount s id < f.copies

/-- A frame is found bad or takes a verdict that ends it: its task is cancelled (R146), copies in transmission are to end
with a stomped FCS, and copies queued are taken back (R37, R57, R64). -/
def callBack (s : State) (id : Nat) (keep : Bool) : State :=
  let s := if (s.frame id).stage = .waiting ∨ (s.frame id).stage = .committed then cancelTask s id else s
  let s := takeBack (stompTx s id) id keep
  if 0 < txCount s id then s.modFrame id (fun f => { f with errored := true }) else s

/-- A frame is discarded without a reason. What is in transmission ends with what has been received (R37). -/
def discard (s : State) (id : Nat) : State :=
  let s := injEnd s (s.frame id) 7 0 0
  let s := callBack s id false
  if ownHold s id then frameRelease1 (slotSettle s id false) id else s.modFrame id (fun f => { f with whole := true })

/-- A frame counts in one of len_short, len_trail and len_punt_lost once, on whatever pass its verdict falls (R67). -/
def lenCount (s : State) (id : Nat) (c : Ctr) : State :=
  let f := s.frame id
  if f.lenCounted then s else (s.modFrame id (fun f => { f with lenCounted := true })).count c f.slice 1 f.ten

/-- The length verdict of a frame's pass is applied (R64). True: the frame has ended. -/
def applyVerdict (s : State) (id : Nat) : Bool × State :=
  let f := s.frame id
  match lengthVerdict f with
  | none => (false, s)
  | some (v, act) =>
    let c : Ctr := if v = 1 then .lenShort else .lenTrail
    let reason := if v = 1 then 0x03 else 0x04
    match act with
    | 0 =>
      let s := callBack (lenCount s id c) id true
      (true, if ownHold s id then endDrop s id reason else s)
    | 1 =>
      if inTx s id true then (true, callBack (lenCount s id .lenPuntLost) id true)
      else
        let s := callBack (lenCount s id c) id true
        (true, if ownHold s id then endPunt s id reason else s)
    | _ => (false, lenCount s id c)

/-- A frame proves longer than its buffer (R57). -/
def overruns (f : Frame) (n : Nat) : Bool :=
  match f.buf with
  | some b => decide (poolSize b.1 < n)
  | none => false

/-! ### The tile (R38, R40, R43, R361, R390) -/

/-- A frame carries an EtherType at bytes 12 and 13. -/
def hasType (b : List Byte) (t : Nat) : Bool := decide (14 ≤ b.length) && beAt b 12 2 == t

/-- The frame is an Ixpeune frame (R40). -/
def isIxpeune (s : State) (b : List Byte) : Bool := hasType b (s.fget .FAB_CFG_ethertype 0)

/-- The tile keeps the frame from its slice: it waits for its last byte and holds nothing back (R390). A frame that the
port's checker takes waits for its last byte too (R361). -/
def tileKeeps (s : State) (q : Nat) (b : List Byte) : Bool :=
  hasType b 0x8808 ||
    (isIxpeune s b && (!s.fbit .PORT_CFG_fabric_port q || !s.fbit .FAB_CFG_fabric_en 0 || byteAt b 14 % 16 == 1)) ||
    (s.fbit .PORT_TEST_chk_en q && hasType b (s.fget .PORT_GEN_HDR_ethertype q))

/-- Staging FIFO of an octet. -/
def stagingOf (s : State) (o : Nat) : List Staged := tget [] s.staging (o, 0)

/-- Replace it. -/
def setStaging (s : State) (o : Nat) (l : List Staged) : State := { s with staging := tset [] s.staging (o, 0) l }

/-- Free bytes of an octet's staging FIFO (R390). -/
def stagingFree (s : State) (o : Nat) : Nat := 131072 - ((stagingOf s o).map (fun e => e.reserved)).sum

/-- The frame has left, or is leaving, the FIFO for its slice. -/
def hasLeft (s : State) (id : Nat) : Bool :=
  match s.frame? id with
  | some f => f.stage != .staged
  | none => true

/-- The space of a frame in the FIFO: what waits, and what is reserved for what is still to come (R390). -/
def stagingSize (s : State) (id limit got : Nat) (whole : Bool) : Nat :=
  if whole then (if hasLeft s id then 0 else min got limit)
  else if hasLeft s id then limit - min got limit else limit

/-- Renew the space of a frame in its octet's FIFO; an entry that takes none is gone once the frame is whole. -/
def stagingRenew (s : State) (q id limit got : Nat) (whole : Bool) : State :=
  let n := stagingSize s id limit got whole
  let o := q / 8
  let l := stagingOf s o
  if whole ∧ n = 0 then setStaging s o (l.filter (fun e => e.frame ≠ id))
  else setStaging s o (l.map (fun e => if e.frame = id then { e with reserved := n } else e))

/-- A pause timer of a port is set (R43): index 8 is the one timer of a PAUSE frame. -/
def setPause (s : State) (q p quanta : Nat) : State :=
  let t := if quanta = 0 then 0 else s.now + quantaNs s q quanta
  { s with buffers := { s.buffers with rxPause := tset 0 s.buffers.rxPause (q, p) t } }

/-- A good PFC frame is obeyed: the priorities of its enable vector take its timers (R42, R43). -/
def obeyPfc (s : State) (q : Nat) (b : List Byte) : State :=
  if s.fbit .PORT_CFG_pfc_rx_en q && portUp s q then
    (List.range 8).foldl (fun s p => if bits (beAt b 16 2) p 1 = 1 then setPause s q p (beAt b (18 + 2 * p) 2) else s) s
  else s

/-- A good PAUSE frame is obeyed under pause_rx_en (R42). -/
def obeyPause (s : State) (q : Nat) (b : List Byte) : State :=
  if s.fbit .PORT_CFG_pause_rx_en q && portUp s q then setPause s q 8 (beAt b 16 2) else s

/-- One step of the PRBS31 generator, x^31 + x^28 + 1 (R360; PRESUMED from IEEE 802.3, log entry 13). -/
def prbsBit (v : Nat) : Nat := (v * 2 + (v / 2 ^ 30 + v / 2 ^ 27) % 2) % 2 ^ 31

/-- The next eight bits of the sequence, earlier bits more significant, and the state after them. -/
def prbsByte (v : Nat) : Byte × Nat :=
  let w := prbsBit (prbsBit (prbsBit (prbsBit (prbsBit (prbsBit (prbsBit (prbsBit v)))))))
  (BitVec.ofNat 8 w, w)

/-- `n` bytes of the sequence. -/
def prbsBytes (n v : Nat) : List Byte :=
  match n with
  | 0 => []
  | n + 1 => let r := prbsByte v; r.1 :: prbsBytes n r.2

/-- The payload of a test frame of a sequence number (R360). -/
def testPayload (s : State) (q seq n : Nat) : List Byte :=
  match s.fget .PORT_TEST_payload q with
  | 1 => (List.range n).map (fun k => BitVec.ofNat 8 (seq + k))
  | 2 => prbsBytes n (2 ^ 31 - 1)
  | _ => List.replicate n (BitVec.ofNat 8 (s.fget .PORT_TEST_fill q))

/-- Add to one of the words of PORT_CHK. -/
def chkAdd (s : State) (f : Fld) (q n : Nat) : State := s.fset f q (s.fget f q + n)

/-- The checker takes a good frame (R361). -/
def checkFrame (s : State) (q : Nat) (b : List Byte) : State :=
  let t := (s.port q).test
  let seq := beAt b 14 4
  let want := t.expect.getD seq
  if seq < want then chkAdd s .PORT_CHK_chk_misorder q 1
  else
    let s := chkAdd s .PORT_CHK_chk_gap q (seq - want)
    let good := b.length == s.fget .PORT_TEST_gen_len q && slice b 18 (b.length - 22) == testPayload s q seq (b.length - 22)
    let s := chkAdd s (if good then .PORT_CHK_chk_ok else .PORT_CHK_chk_payload_err) q 1
    s.setPort q { s.port q with test := { t with expect := some (seq + 1) } }

/-- The shim of an Ixpeune frame (R236). -/
def readShim (b : List Byte) : Shim :=
  { typ := byteAt b 14 % 16, pinned := byteAt b 15 / 128 == 1, cls := beAt b 16 2 / 4096, src := beAt b 16 2 % 4096,
    hops := beAt b 18 2 / 4096, dst := beAt b 18 2 % 4096, seq := beAt b 20 3, epoch := byteAt b 23, sendNs := beAt b 24 4 }

/-- The frame without its shim: next_type back at bytes 12 and 13 (R236). -/
def liftShim (b : List Byte) : List Byte := refcs (putBytes (cutBytes b 14 16) 12 (slice b 28 2))

/-- A frame that never leaves its tile is gone (R390). -/
def tileDrop (s : State) (id : Nat) : State := if hasLeft s id then discard s id else s.delFrame id

/-- A good Ixpeune frame on a fabric port (R40, R236, R250). -/
def tileFabric (s : State) (q id : Nat) (b : List Byte) : State :=
  let m := readShim b
  let version := byteAt b 14 / 16
  if version ≠ 1 ∨ 2 < m.typ then (tileDrop s id).count .shimBad 0
  else if m.typ = 1 then (tileDrop s id).emit (.toMgmt q b)
  else if s.fbit .FAB_CFG_fabric_en 0 = false then (tileDrop s id).count .fabDisabledDrop 0
  else
    let f := s.frame id
    let d := (f.stamp / 65536 + 2 ^ 32 - m.sendNs) % 2 ^ 32
    let s := if m.typ = 0 then ((s.count .fabDelaySum q d).count .fabFrames q).gmax .gFabDelayMax q d else s
    s.setFrame id { f with bytes := liftShim b, whole := true, shim := some m,
                           transit := m.dst != s.fget .FAB_CFG_device_id 0 }

/-! ### Step 2 (R52, R55, R194, R197) -/

/-- A frame takes a header slot of a slice: its fate is open (R312). -/
def slotTake (s : State) (id sl : Nat) : State :=
  let s := slotAhead (s.modFrame id (fun f => { f with slots := f.slots ++ [sl] })) (32 + sl) 0
  s.gset .gSliceSlotInflight sl (s.cget .gSliceSlotInflight sl + 1)

/-- The buffer of a received frame (R194): taken, or the frame is dropped under the first check that fails. -/
def takeBuffer (s : State) (id : Nat) : Bool × State :=
  let f := s.frame id
  let q := f.ingPort
  let c := f.ingClass
  let k := poolFor f.len
  let i := q * 16 + c
  if s.fget .ING_ACCT_xoff i + s.fget .ING_ACCT_headroom i < ingCount s q c + poolCells k then
    (false, endDrop (s.count .ingLimitDrop q) id 0x30)
  else if !bufQuotaOk s q k then (false, emptyPool (endDrop (s.count .quotaDrop q) id 0x31) q c)
  else if s.fget .POOL_STATUS_free k = 0 then (false, emptyPool (endDrop (s.count .poolEmptyDrop q) id 0x32) q c)
  else
    let s := bufTake s id k q (some (q, c))
    (true, s.modFrame id (fun f => { f with bytes := f.bytes.take (poolSize k), errored := decide (poolSize k < f.bytes.length) }))

/-- Step 2 of pass 1: profile, length probe and buffer (R52, R55, R194). A transit frame and a fabric control frame have no use
for a profile (R241, R248). True: the frame goes on to step 3. -/
def stepTwo (s : State) (id : Nat) : Bool × State :=
  let f := s.frame id
  let n := f.bytes.length
  let aside := f.transit || (f.shim.map (fun m => m.typ == 2)).getD false
  let p := selectProfile s f false 0
  let l := lengthProbe s f p
  let cls := if f.received then ingressClass s f.ingPort f.bytes else f.ingClass
  let s := s.setFrame id { f with len := l.1, probeOk := l.2, ingClass := cls, selected := p.isSome, prof := p.getD 0,
                                  entry := (p.map (regRaw s .PROFILE)).getD 0 }
  let s := if aside then s
    else if p.isNone then s.count .selNoProfile f.slice 1 f.ten
    else if l.2 then s else s.count .probeFail f.slice
  let r := if f.buf.isSome then (true, s) else takeBuffer s id
  if r.1 = false then r
  else if f.whole && overruns (r.2.frame id) n then (false, discard (r.2.count .probeOverrun f.slice) id)
  else if p.isNone && !aside then (false, endPunt r.2 id 0x01)
  else r

/-! ### Steps 3 and 4 (R58 to R65, R74, R19) -/

/-- Step 4: the flow hash gives the frame its order domain and its place, and it goes to the Skim lookup. -/
def stepFour (s : State) (id : Nat) : State :=
  let h := hOld s (s.frame id).key
  let (n, s) := takePlace s
  let s := s.modFrame id (fun f => { f with hash := h, domain := domainOf h, place := some n, stage := .waiting })
  toLookup s (.frame id)

/-- Step 3 of a pass whose outer selection has chosen a profile. The length verdict of a whole frame is decided with it. -/
def stepThree (s : State) (id : Nat) : State :=
  if (s.frame? id).isNone then s else
  let f0 := s.frame id
  let f := if f0.pass = 1 then { f0 with epochTag := parityNow s, tagged := true } else f0
  let r := parse s (BitVec.ofNat 64 s.setup.kLb.1, BitVec.ofNat 64 s.setup.kLb.2) f
  let s := s.setFrame id r.frame
  let s := if r.miss then s.count .tenantMiss f.slice 1 r.frame.ten else s
  let v : Bool × State := if r.frame.whole then applyVerdict s id else (false, s)
  if v.1 then v.2
  else
    let s := v.2
    match r.fin with
    | .flow => stepFour s id
    | .noProfile => endPunt (s.count .selNoProfile f.slice 1 f.ten) id 0x01
    | .depthPunt => endPunt (s.count .parseDepthPunt f.slice 1 r.frame.ten) id 0x02
    | .depthDrop => endDrop (s.count .parseDepthDrop f.slice 1 r.frame.ten) id 0x02
    | .decap a n => s.modFrame id (fun f => { f with stage := .recirc, decap := some (a, n) })
    | .tenantDrop => endDrop s id 0x05
    | .tenantPunt => endPunt s id 0x05

/-! ### Reception (R38, R390) -/

/-- The end of a frame that has passed R38 and step 2: probe_overrun, then the length verdict of pass 1 (R57, R64). A frame that
ends before its header window is present takes step 3 now (R23). -/
def judgeEnd (s : State) (id n : Nat) : State :=
  let f := s.frame id
  if overruns f n then discard (s.count .probeOverrun f.slice 1 f.ten) id
  else if f.stage = .window then stepThree s id
  else if f.selected && !f.transit && f.pass == 1 then (applyVerdict s id).2
  else s

/-- The last byte of a frame has been received: it is counted in exactly one receive counter, and a frame not counted in
rx_ok goes no further (R38, R40, R361). -/
def rxEnd (s : State) (q : Nat) : State :=
  let p := s.port q
  let b := p.rxHead
  let n := p.rxLen
  let s := s.setPort q { p with rx := none, rxLen := 0, rxBad := false, rxHead := [] }
  match p.rx with
  | none => s
  | some none => s.count (if p.rxBad then .rxFecErr else .rxStagingOverrun) q
  | some (some id) =>
    let bad (s : State) (c : Ctr) : State := let s := s.count c q; if hasLeft s id then discard s id else s.delFrame id
    let s :=
      if p.rxBad then bad s .rxFecErr
      else if p.maxFrame < n then bad s .rxOversize
      else if n < 64 then bad s .rxRunt
      else if !fcsGood b then bad s .rxFcsErr
      else if hasType b 0x8808 then
        if beAt b 14 2 = 0x0101 then obeyPfc (tileDrop (s.count .rxPfc q) id) q b
        else if beAt b 14 2 = 0x0001 then obeyPause (tileDrop (s.count .rxPause q) id) q b
        else tileDrop (s.count .rxMacCtrlOther q) id
      else if isIxpeune s b && !s.fbit .PORT_CFG_fabric_port q then tileDrop (s.count .rxForeign q) id
      else
        let s := s.count .rxOk q
        if s.fbit .PORT_TEST_chk_en q && hasType b (s.fget .PORT_GEN_HDR_ethertype q) && !hasLeft s id then
          checkFrame (s.delFrame id) q b
        else if isIxpeune s b && !hasLeft s id then tileFabric s q id b
        else
          let s := s.modFrame id (fun f => { f with whole := true })
          if hasLeft s id then judgeEnd s id n else s
    stagingRenew s q id p.maxFrame n true

/-- The first byte of a frame arrives on a port that is up: it is admitted to the staging FIFO, or not (R38, R390, R41, R363). -/
def rxBegin (s : State) (q : Nat) : State :=
  let p := s.port q
  let o := q / 8
  let p0 : PortSt := { p with rxLen := 0, rxBad := false, rxHead := [] }
  if stagingFree s o < p.maxFrame then s.setPort q { p0 with rx := some none }
  else
    let id := s.nextFrame
    let (stamp, s) := portStamp s q ((s.dev16 : Int) - psTo16 (rxAdj s q)).toNat
    let f : Frame := { ingPort := q, slice := q / 16, stamp := stamp, stampEpoch := s.time.epoch,
                       asymIn := fldIn (ptpWord s q) .PTP_PORT_asym_ps }
    let s := setStaging (s.newFrame f) o (stagingOf s o ++ [⟨id, q, p.maxFrame⟩])
    s.setPort q { p0 with rx := some (some id) }

/-- Bytes of the frame in reception arrive: what lies beyond its buffer is cut off and marks it errored (R57). -/
def rxBytes (s : State) (q : Nat) (bytes : List Byte) (bad : Bool) : State :=
  let p := s.port q
  let head := (p.rxHead ++ bytes).take p.maxFrame
  let got := p.rxLen + bytes.length
  let s := s.setPort q { p with rxHead := head, rxLen := got, rxBad := p.rxBad || bad }
  match p.rx with
  | some (some id) =>
    let cut (f : Frame) : List Byte := match f.buf with | some b => head.take (poolSize b.1) | none => head
    stagingRenew (s.modFrame id (fun f => { f with bytes := cut f, errored := f.errored || overruns f got })) q id p.maxFrame got false
  | _ => s

/-- The header window of a frame in reception has become present: step 3 follows (R18). -/
def windowStep (s : State) (q : Nat) : State :=
  match (s.port q).rx with
  | some (some id) =>
    if (s.frame id).stage = .window ∧ 256 ≤ (s.frame id).bytes.length then stepThree s id else s
  | _ => s

/-- FRAME_RECEIVE (R38): the next bytes of a frame on a port. `first` marks its first byte, `last` its last one, and
`fecBad` an uncorrectable codeword that touches these bytes. -/
def execFrameReceive (port : Nat) (first last : Bool) (bytes : List Byte) (fecBad : Bool) (s : State) :
    Host.Outcome State Fault Refusal :=
  .next (
    if port < 256 ∧ portExists s port ∧ s.runs (pdOctet (port / 8)) ∧ (if first then portUp s port && (s.port port).rx.isNone else (s.port port).rx.isSome) then
      let s := windowStep (rxBytes (if first then rxBegin s port else s) port bytes fecBad) port
      if last then rxEnd s port else s
    else s)

end Sys2Proof.Machine
end

