-- ==== Sys2Proof/Machine/Fabric.lean ====
section
/-! DEFINITION. The fabric's receiving side (R241 to R248), the header slots, recirculation and the release of frames (R32,
R59, R157), with their rows. -/

namespace Sys2Proof.Machine

/-! ### Sending frames the device makes for the fabric -/

/-- An uplink for a frame to a device, with the number of it counted as sprayed or pinned (R239, R248). -/
def uplinkFor (s : State) (d c sel : Nat) (pinned : Bool) : Option (Nat × State) :=
  if pinned then (pinnedUplink s d sel).map (fun u => (u, s.count .pinnedTx u))
  else (spray s d c).map (fun x => (x.1, x.2.count .sprayTx x.1))

/-- The uplink of a pin request: none to the device itself, whose frame would not be routed (R238). -/
def pinUplink (s : State) (d c : Nat) (pinned : Bool) : Option (Nat × State) :=
  if d = s.fget .FAB_CFG_device_id 0 then none else uplinkFor s d c 0 pinned

/-- The 48 bytes of a pin request without its shim (R247): the bytes that stand for next_type are a free value. -/
def pinBytes (s : State) (next cls epoch : Nat) : List Byte :=
  let b := List.replicate 6 0xFF#8 ++ beBytes 6 (s.fget .SMAC_mac 0) ++ beBytes 2 next ++ beBytes 2 1 ++ beBytes 1 cls ++ beBytes 1 epoch
  let b := b ++ List.replicate (44 - b.length) 0#8
  b ++ fcsOf b

/-- A pin request goes to the source of a stream, routed as a data frame is (R238, R247). -/
def sendPin (s : State) (src cls epoch : Nat) : State :=
  let (r, s) := s.draw
  let s := s.count .pinReqSent 0
  let pinned := streamPinned s src cls
  let b := pinBytes s (r % 65536) cls epoch
  let m : Shim := { typ := 2, pinned := pinned, cls := cls, src := s.fget .FAB_CFG_device_id 0, hops := s.fget .FAB_CFG_hops_init 0,
                    dst := src, seq := 0, epoch := s.fabric.epoch, sendNs := 0 }
  let f : Frame := { bytes := b, whole := true, received := false, stage := .released, copies := 1, len := b.length,
                     ingPort := 256, shim := some m }
  let id := s.nextFrame
  let s := s.newFrame f
  match pinUplink s src cls pinned with
  | none => dropFrame (s.count .fabUnreach src) id 0x40 none
  | some (u, s) => enqueue s id .main (s.fget .FAB_UPLINK_port u) cls none

/-! ### The resequencer (R243 to R248) -/

/-- The stream of a source and a class. -/
def State.stream (s : State) (src cls : Nat) : Stream := tget {} s.fabric.streams (src, cls)

/-- Replace it. -/
def State.setStream (s : State) (src cls : Nat) (v : Stream) : State :=
  { s with fabric := { s.fabric with streams := tset {} s.fabric.streams (src, cls) v } }

/-- Distance of a number above another, mod 2^24. -/
def ahead (n e : Nat) : Nat := (n + 2 ^ 24 - e % 2 ^ 24) % 2 ^ 24

/-- Held frames are passed in sequence order, with the gaps below each counted in reseq_lost; the number after the last one
is left in exp (R245, R247). -/
def flushHeld (s : State) (src cls : Nat) (l : List (Nat × Nat × Nat)) : State :=
  match l with
  | [] => s
  | h :: l =>
    let v := s.stream src cls
    let s := s.count .reseqLost src (ahead h.1 v.exp)
    let s := s.setStream src cls { v with exp := (h.1 + 1) % 2 ^ 24 }
    flushHeld (stepThree s h.2.1) src cls l

/-- Every held frame of a stream is passed so. -/
def passHeld (s : State) (src cls : Nat) : State :=
  let v := s.stream src cls
  heldShow (flushHeld (s.setStream src cls { v with held := [] }) src cls v.held)

/-- Insert a held frame in sequence order from exp. -/
def insHeld (e : Nat) (x : Nat × Nat × Nat) (l : List (Nat × Nat × Nat)) : List (Nat × Nat × Nat) :=
  match l with
  | [] => [x]
  | h :: l => if ahead x.1 e < ahead h.1 e then x :: h :: l else h :: insHeld e x l

/-- A frame that is to be held overflows its stream (R247). -/
def overflow (s : State) (id : Nat) (m : Shim) : State :=
  let s := passHeld s m.src m.cls
  let v := s.stream m.src m.cls
  let d := ahead m.seq v.exp
  let s := if d < 2 ^ 23 then s.count .reseqLost m.src d else s
  let s := stepThree s id
  let v := { v with exp := if d < 2 ^ 23 then (m.seq + 1) % 2 ^ 24 else v.exp, mode := .pass, lateRun := 0, lastPin := some s.now }
  let s := (s.setStream m.src m.cls v).count .reseqOverflow m.src
  sendPin (s.event .FAB_STATUS_overflow_event 0) m.src m.cls v.epoch

/-- A late frame (R245, R246). -/
def lateFrame (s : State) (id : Nat) (m : Shim) : State :=
  let v := s.stream m.src m.cls
  let s := s.count .reseqLate m.src
  let s :=
    if 64 ≤ v.lateRun + 1 then
      let s := (passHeld s m.src m.cls).count .reseqResync m.src
      s.setStream m.src m.cls { s.stream m.src m.cls with mode := .unsynced, lateRun := 0 }
    else s.setStream m.src m.cls { v with lateRun := v.lateRun + 1 }
  if s.fbit .FAB_CFG_late_pass 0 then stepThree s id else endDrop s id 0x42

/-- A stream synchronises to a frame where R245 says so. At a new epoch only the gaps between the held frames are counted. -/
def syncStream (s : State) (m : Shim) : State :=
  let v := s.stream m.src m.cls
  if v.mode = .unsynced then s.setStream m.src m.cls { v with mode := .reseq, exp := m.seq, epoch := m.epoch, lateRun := 0 }
  else if v.epoch ≠ m.epoch then
    let low := match v.held with | [] => v.exp | h :: _ => h.1
    let s := passHeld (s.setStream m.src m.cls { v with exp := low }) m.src m.cls
    s.setStream m.src m.cls { s.stream m.src m.cls with mode := .reseq, exp := 0, epoch := m.epoch, lateRun := 0 }
  else s

/-- A pinned frame is passed on arrival; a number at or ahead of exp moves exp past it, and the held frames below the new
exp are passed with it (R248). -/
def pinnedFrame (s : State) (id : Nat) (m : Shim) : State :=
  let s := stepThree s id
  let v := s.stream m.src m.cls
  let v := { v with mode := .reseq, lateRun := 0 }
  if ahead m.seq v.exp < 2 ^ 23 then
    let e := (m.seq + 1) % 2 ^ 24
    let gone := v.held.filter (fun h => ahead h.1 v.exp < ahead e v.exp)
    let s := s.setStream m.src m.cls { v with exp := e, held := v.held.filter (fun h => !(ahead h.1 v.exp < ahead e v.exp)) }
    heldShow (gone.foldl (fun s h => stepThree s h.2.1) s)
  else s.setStream m.src m.cls v

/-- A data frame for this device is judged (R243 to R248). -/
def judgeData (s : State) (id : Nat) (m : Shim) : State :=
  let s := syncStream s m
  let v := s.stream m.src m.cls
  if m.pinned then pinnedFrame s id m
  else if v.mode = .pass then stepThree s id
  else
    let d := ahead m.seq v.exp
    if d = 0 then stepThree (s.setStream m.src m.cls { v with exp := (m.seq + 1) % 2 ^ 24, lateRun := 0 }) id
    else if d < 2 ^ 23 then
      if 65536 ≤ heldAll s ∨ s.fget .RESEQ_CFG_stream_hold_max 0 ≤ v.held.length then overflow s id m
      else heldShow (s.setStream m.src m.cls { v with held := insHeld v.exp (m.seq, id, s.now) v.held, lateRun := 0 })
    else lateFrame s id m

/-- A transit frame that has its buffer is released at once (R241, R242). -/
def transitSend (s : State) (id : Nat) (m : Shim) : State :=
  if m.hops = 0 then endDrop (s.count .fabHopsDrop 0) id 0x41
  else
    let f := s.frame id
    match uplinkFor s m.dst m.cls (pinSel f) m.pinned with
    | none => endDrop (s.count .fabUnreach m.dst) id 0x40
    | some (u, s) =>
      let s := slotSettle (s.count .transitTx 0) id false
      let s := s.modFrame id (fun f => { f with shim := some { m with hops := m.hops - 1 } })
      enqueue (setCopies s id 1) id .main (s.fget .FAB_UPLINK_port u) m.cls none

/-- A fabric frame that has completed step 2 (R235): one for this device goes on as an ordinary frame, without its shim. A control frame with op 1 for this device waits for PIN_REQUEST; one
with another op is punted (R248). -/
def fabricArrive (s : State) (id : Nat) (m : Shim) : State :=
  if (s.frame id).transit then transitSend s id m
  else if m.typ = 0 then judgeData (s.modFrame id (fun f => { f with shim := none })) id m
  else if beAt (s.frame id).bytes 14 2 = 1 then s
  else endPunt s id 0x43

/-- RESEQ_RELEASE (R243): the lowest held frame is passed when its number is exp. -/
def execReseqRelease (src cls : Nat) (s : State) : Host.Outcome State Fault Refusal :=
  .next (
    let v := s.stream src cls
    match v.held with
    | [] => s
    | h :: l =>
      if h.1 = v.exp then heldShow (stepThree (s.setStream src cls { v with held := l, exp := (v.exp + 1) % 2 ^ 24 }) h.2.1) else s)

/-- RESEQ_GAP_TIMEOUT (R244). -/
def execReseqGapTimeout (src cls : Nat) (s : State) : Host.Outcome State Fault Refusal :=
  .next (
    let v := s.stream src cls
    match v.held, (v.held.map (fun h => h.2.2)).min? with
    | h :: _, some t =>
      if h.1 ≠ v.exp ∧ t + 1000 * s.fget .FAB_CFG_gap_timeout_us 0 ≤ s.now then
        (s.count .reseqLost src (ahead h.1 v.exp)).setStream src cls { v with exp := h.1 }
      else s
    | _, _ => s)

/-- PIN_REQUEST (R248): the pin request that a control frame carries is obeyed, or ignored, and the frame ends. -/
def execPinRequest (frame : Nat) (s : State) : Host.Outcome State Fault Refusal :=
  .next (
    match s.frame? frame with
    | none => s
    | some f =>
      match f.shim with
      | none => s
      | some m =>
        if f.stage = .reseq ∧ m.typ = 2 ∧ f.transit = false then
          let c := byteAt f.bytes 16 % 16
          let s := frameRelease1 (slotSettle s frame false) frame
          if tget 0 s.fabric.seq (m.src, c) = 0 then s.count .pinReqIgnored 0
          else if byteAt f.bytes 17 ≠ s.fabric.epoch then s
          else
            let t := s.now + 1000000 * s.fget .FAB_CFG_pin_ms 0
            { s with fabric := { s.fabric with pinEnd := tset 0 s.fabric.pinEnd (m.src, c) t } }.event .FAB_STATUS_pin_event 0
        else s)

/-- PIN_REQUEST_RESEND (R247). -/
def execPinRequestResend (src cls : Nat) (s : State) : Host.Outcome State Fault Refusal :=
  .next (
    let v := s.stream src cls
    match v.mode, v.lastPin with
    | .pass, some t =>
      if t + 10000000 ≤ s.now then sendPin (s.setStream src cls { v with lastPin := some s.now }) src cls v.epoch else s
    | _, _ => s)

/-- PIN_EXPIRE (R248). -/
def execPinExpire (dst cls : Nat) (s : State) : Host.Outcome State Fault Refusal :=
  .next (
    if tget 0 s.fabric.pinEnd (dst, cls) ≤ s.now then
      { s with fabric := { s.fabric with pinEnd := tset 0 s.fabric.pinEnd (dst, cls) 0 } }
    else s)

/-! ### Header slots (R32) -/

/-- A slice takes no new header: one of its request queues is full (R96). -/
def sliceStalled (s : State) (sl : Nat) : Bool := (List.range 16).any (fun b => 32 ≤ (requestQueue s sl b).length)

/-- The head of an octet's FIFO among the frames that go to its slice (R390). -/
def stagingHead (s : State) (o : Nat) : Option Staged :=
  (stagingOf s o).find? (fun e => !hasLeft s e.frame && !tileKeeps s e.port (s.frame e.frame).bytes)

/-- The frame is ready for its slot: its first 128 bytes are present, or it is whole (R18, R23); a fabric frame is whole once the
tile has lifted its shim after the FCS check (R236). -/
def slotReady (s : State) (id : Nat) : Bool :=
  let f := s.frame id
  f.whole || (decide (128 ≤ f.bytes.length) && !isIxpeune s f.bytes)

/-- A frame from an octet's FIFO takes a slot and passes step 2, and steps 3 and 4 or the fabric's part once its header
window is present (R18, R32, R390). -/
def grantFront (s : State) (sl : Nat) (e : Staged) : State :=
  let id := e.frame
  let p := s.port e.port
  let f := s.frame id
  let got := if p.rx = some (some id) then p.rxLen else f.bytes.length
  let s := slotTake (s.modFrame id (fun f => { f with stage := .reseq })) id sl
  let s := stagingRenew s e.port id p.maxFrame got f.whole
  let r := stepTwo s id
  if r.1 then
    match f.shim with
    | some m => fabricArrive r.2 id m
    | none =>
      if f.whole ∨ 256 ≤ f.bytes.length then stepThree r.2 id else r.2.modFrame id (fun f => { f with stage := .window })
  else r.2

/-- A frame from the recirculation port takes a slot: an injected one as pass 1, another with its pass's selection (R52, R56,
R269). -/
def grantRecirc (s : State) (sl id : Nat) : State :=
  let s := slotTake (s.modFrame id (fun f => { f with stage := .reseq })) id sl
  if (s.frame id).pass = 1 then
    let r := stepTwo s id
    if r.1 then stepThree r.2 id else r.2
  else
    match selectProfile s (s.frame id) false 0 with
    | none => endPunt (s.count .selNoProfile sl 1 (s.frame id).ten) id 0x01
    | some p => stepThree (s.modFrame id (fun f => { f with selected := true, prof := p, entry := regRaw s .PROFILE p, outer := none })) id

/-- A header waits, but its slice is stalled (R96, R312). -/
def slotStall (s : State) (sl : Nat) : State :=
  let s := slotAhead (slotAhead s (32 + sl) 0) (32 + sl) 1
  slotEvent ((s.count .bankStall sl).count .sliceSlotBack sl) (32 + sl) 0xF003 1 none

/-- HEADER_SLOT_GRANT (R32): to the head of one of the slice's octets (source 0 or 1), or of its recirculation port. -/
def execHeaderSlotGrant (slice source : Nat) (s : State) : Host.Outcome State Fault Refusal :=
  .next (
    if slice < 16 ∧ s.runs (pdSlice slice) then
      if source < 2 then
        match stagingHead s (2 * slice + source) with
        | none => s
        | some e =>
          if !slotReady s e.frame then s
          else if sliceStalled s slice then slotStall s slice
          else grantFront s slice e
      else
        match tget [] s.recirc (slice, 0) with
        | [] => s
        | id :: l =>
          if sliceStalled s slice then slotStall s slice
          else grantRecirc { s with recirc := tset [] s.recirc (slice, 0) l } slice id
    else s)

/-! ### Recirculation (R59, R394) -/

/-- The copies of a pass that are still queued or in transmission become a frame of their own: the frame as it stood for
that pass (R225). -/
def splitCopies (s : State) (id : Nat) : State :=
  let f := s.frame id
  if f.copies ≤ 1 then s
  else
    let n := s.nextFrame
    let s := s.newFrame { f with copies := f.copies - 1, stage := .released, place := none, slots := [], inj := none, charged := false }
    let swap (e : Copy) : Copy := if e.frame = id then { e with frame := n } else e
    let qs := tmap {} (fun _ (v : Queue) => { v with entries := v.entries.map swap }) s.egress.queues
    let tx := tmap none (fun _ (v : Option Tx) => v.map (fun t => { t with copy := swap t.copy })) s.egress.tx
    let ps := s.punts.map (fun p => if p.frame = id then { p with frame := n } else p)
    { s with egress := { s.egress with queues := qs, tx := tx }, punts := ps }

/-- The bytes of the next pass: decapsulated for a depth action, or with the routine's edits made, with a new FCS. -/
def nextPassBytes (s : State) (f : Frame) : List Byte :=
  match f.decap with
  | some (a, n) => let b := cutBytes (bodyOf f.bytes) a n; b ++ fcsOf b
  | none => refcs (applyEdits s 256 f f.bytes f.edits).1

/-- RECIRCULATE (R59, R394): a whole frame goes to its slice's recirculation port as its next pass, with its tag, tenant and
buffer kept (R21, R56). -/
def execRecirculate (frame : Nat) (s : State) : Host.Outcome State Fault Refusal :=
  .next (
    match s.frame? frame with
    | none => s
    | some f =>
      if f.stage = .recirc ∧ f.whole ∧ s.recirc.all (fun e => !e.2.contains frame) then
        let b := nextPassBytes s f
        let s := if f.decap.isSome then s.count .recircDecap f.slice 1 f.ten else s
        let s := splitCopies s frame
        let s := s.setFrame frame
          { f with bytes := b, pass := f.pass + 1, copies := 0, probeOk := false, selected := false, decap := none, place := none, prof := 0, outer := none,
                   key := [], m4 := 0, m5 := 0, strAddr := none, kind := 0, opcode := 0, dest := .unset, edits := [],
                   launch := none, mirror := none, member := none }
        { s with recirc := tset [] s.recirc (f.slice, 0) (tget [] s.recirc (f.slice, 0) ++ [frame]) }
      else s)

/-! ### Release (R157, R90) -/

/-- The frames of a domain that have a place and are not yet released. -/
def domainFrames (s : State) (d : Nat) : List (Nat × Nat) :=
  s.frames.filterMap (fun e =>
    if e.2.domain = d ∧ (e.2.stage = .waiting ∨ e.2.stage = .committed) then e.2.place.map (fun p => (p, e.1.1)) else none)

/-- Step 5 of R90: a frame of after the switch waits for every frame of before it. -/
def switchHolds (s : State) (p : Nat) : Bool :=
  match s.cellar.switchPlace with
  | none => false
  | some q => q ≤ p && s.frames.any (fun e => (e.2.stage == .waiting || e.2.stage == .committed) &&
      match e.2.place with | some x => x < q | none => false)

/-- FRAME_RELEASE (R157): the earliest frame of an order domain, once it has committed. -/
def execFrameRelease (domain : Nat) (s : State) : Host.Outcome State Fault Refusal :=
  .next (
    let l := domainFrames s domain
    match (l.map (fun x => x.1)).min? with
    | none => s
    | some p =>
      match l.find? (fun x => x.1 == p) with
      | none => s
      | some (_, id) =>
        if (s.frame id).stage = .committed ∧ switchHolds s p = false then drainRefresh (rekeySettle (releaseFrame s id)) else s)

end Sys2Proof.Machine
end

