-- ==== Sys2Proof/Machine/BufErrors.lean ====
section
/-! DEFINITION. Errors of the packet buffer and the Vat (R209). -/

namespace Sys2Proof.Machine

/-- The frames of a queue's Vat part with the position in the chain at which each starts (R206). -/
def vatStarts (at0 : Nat) (l : List Copy) : List (Nat × Copy) :=
  match l with
  | [] => []
  | e :: l => if e.inVat then (at0, e) :: vatStarts (at0 + e.stored + e.skip) l else vatStarts at0 l

/-- The segment in which a position of the chain lies. -/
def segAt (p : Nat) : Nat := p / segBytes

/-- The frames of a queue's Vat part from one position of the chain up to another are discarded; the segments that lie
between are freed (R209). -/
def vatCut (s : State) (q c lo hi : Nat) : State :=
  let v := s.queue q c
  let st := vatStarts v.vatHead v.entries
  let gone := (st.filter (fun x => lo ≤ x.1 && x.1 < hi)).map (fun x => x.2)
  if gone.isEmpty then s
  else
    let bytes := (gone.map (fun e => e.stored + e.skip)).sum
    let whole := (segAt hi - segAt (lo + segBytes - 1)) * segBytes
    let rest := bytes - whole
    let before := v.entries.takeWhile (fun e => !gone.contains e)
    let after := (v.entries.drop before.length).filter (fun e => !gone.contains e)
    let r := addSkip before rest
    let v := { v with entries := r.1 ++ after, vatHead := v.vatHead + r.2, vatTail := v.vatTail - (bytes - rest) }
    let s := putQueue s q c (Queue.trim v)
    gone.foldl (fun s e =>
      let s := match e.kind with
        | .main => injEnd s (s.frame e.frame) 7 0 0
        | .mirror _ => s
      copyEnd s e) s

/-- The frame start recorded in the first segment header behind a position: the first frame that starts in a later segment. -/
def nextRecorded (st : List (Nat × Copy)) (p top : Nat) : Nat :=
  match st.find? (fun x => segAt p < segAt x.1) with
  | some x => x.1
  | none => top

/-- A buffer is retired (R209): it is never allocated again, and the charges of an allocated one are released. -/
def retire (s : State) (b : Nat × Nat) : State :=
  let s := match s.buf b with
    | some v => (bufUncharge s b v).setBuf b (some { v with retired := true })
    | none => (setPoolFree s b.1 (s.fget .POOL_STATUS_free b.1 - 1)).setBuf b (some ⟨0, 0, 0, true⟩)
  s.fset .BUF_STATUS_buffers_retired 0 (s.fget .BUF_STATUS_buffers_retired 0 + 1)

/-- The frames that a buffer holds. -/
def bufFrames (s : State) (b : Nat × Nat) : List Nat := (s.frames.filter (fun e => e.2.buf == some b)).map (fun e => e.1.1)

/-- BUF_ECC_ERROR (R209). Positions count the frames, or the segments, of the queue's Vat part from its head. -/
def execBufEccError (err : BufErr) (s : State) : Host.Outcome State Fault Refusal :=
  .next (
    match err with
    | .bufCorrected => s.count .bufEccCorrected 0
    | .vatCorrected => s.count .vatEccCorrected 0
    | .frameData id inVat =>
      if (s.frame? id).isNone then s
      else (discard (s.count (if inVat then .vatEccFrame else .bufEccFrame) 0 1 (s.frame id).ten) id).event .BUF_STATUS_ecc_event 0
    | .vatDescriptor q c n =>
      let v := s.queue q c
      let st := vatStarts v.vatHead v.entries
      match st[n]? with
      | none => s
      | some x => ((vatCut s q c x.1 (nextRecorded st x.1 v.vatTail)).count .vatEccResync 0).event .BUF_STATUS_ecc_event 0
    | .segmentHeader q c n =>
      let v := s.queue q c
      let g := segAt v.vatHead + n
      if v.segs ≤ n then s
      else (vatCut s q c (g * segBytes) ((g + 1) * segBytes)).event .BUF_STATUS_ecc_event 0
    | .bufferState pool i =>
      let b := (pool, i)
      if 4 ≤ pool ∨ s.fget .POOL_STATUS_buffers pool ≤ i ∨ ((s.buf b).map (fun v => v.retired)).getD false then s
      else ((bufFrames s b).foldl discard (retire s b)).event .BUF_STATUS_ecc_event 0)

end Sys2Proof.Machine
end

