-- ==== Sys2Proof/Machine/TimeOps.lean ====
section
/-! DEFINITION. Device time, its rate and slew, steps and re-epochs, the PPS input, trigger units and TRIG_OUT pins
(R274 to R291), and what one idle cycle does. -/

namespace Sys2Proof.Machine

/-- The time unit's domain. -/
def pdTime : Nat := 158

/-! ### Rate and slew (R274, R277, R278) -/

/-- The limit of the rate, 1,000 ppm in units of 2^-40. -/
def rateLimit : Int := 1099511627

/-- rate_adj. -/
def rateAdj (s : State) : Int := signed (s.fget .TIME_RATE_rate_adj 0) 32

/-- The slew term: slew_ppm in units of 2^-40, rounded down, in the direction of the remainder, never beyond it. -/
def slewTerm (s : State) : Int :=
  let m : Int := min (s.fget .TIME_SLEW_slew_ppm 0 * 2 ^ 40 / 1000000 : Nat) s.time.slew.natAbs
  if s.time.slew < 0 then -m else m

/-- The effective rate a. -/
def rateNow (s : State) : Int := max (-rateLimit) (min rateLimit (rateAdj s + slewTerm s))

/-- rate_clamped follows the limit. -/
def rateShow (s : State) : State :=
  s.fset .TIME_STATUS_rate_clamped 0 (bit (rateNow s != rateAdj s + slewTerm s))

/-- The slew remainder changes; TIME_SLEW reads its whole nanoseconds. -/
def setSlew (s : State) (r : Int) : State :=
  { s with time := { s.time with slew := r } }.fset .TIME_SLEW_offset_ns 0 (Int.tdiv r (2 ^ 40) % 2 ^ 40).toNat

/-- One cycle of the time unit: time advances by (1 + a * 2^-40) ns, and the remainder falls by what the slew term did. -/
def timeTick (s : State) : State :=
  if s.runs pdTime then
    let a := rateNow s
    let s := { s with time := { s.time with dt := s.time.dt + (2 ^ 40 + a).toNat } }
    if s.time.slew = 0 then s else rateShow (setSlew s (s.time.slew - (a - rateAdj s)))
  else s

/-- Probe slots that the throttle withholds in one cycle (R136): 8, 16 or 24 of every 80 at its levels 1 to 3, spread evenly (DESIGN
CHOICE, log entry 51). -/
def throttleTick (s : State) : State :=
  let x := 8 * s.fget .STR_STATUS_throttle_level 0
  let n := s.now * x / 10 - (s.now - 1) * x / 10
  if n = 0 then s else s.count .throttleSlots 0 n

/-! ### Launches that a step makes LATE (R280, R281) -/

/-- Every frame held with a launch time is marked LATE. -/
def markLate (s : State) : State :=
  let mark (v : Queue) : Queue := { v with entries := v.entries.map (fun e => if e.launch.isSome then { e with late := true } else e) }
  { s with egress := { s.egress with queues := tmap {} (fun _ v => mark v) s.egress.queues } }

/-- The marked frames of a queue are judged at once, wherever they stand. -/
def judgeQueue (s : State) (q c : Nat) : State :=
  let v := s.queue q c
  let hit (e : Copy) : Bool := e.late && e.launch.isSome && isTimed s q c
  if schedBit s q 16 .SCHED_PORT_late_policy then
    putQueue s q c { v with entries := v.entries.map (fun e => if hit e then { e with launch := none } else e) }
  else
    let s := putQueue s q c (v.without hit)
    (v.entries.filter hit).foldl (fun s e =>
      let f := s.frame e.frame
      let s := dropSample (s.count .lateDrop (q * 16 + c) 1 f.ten) f 0x37 (some (q, c))
      let s := match e.kind with
        | .main => injEnd s f 7 0x37 0
        | .mirror _ => s
      copyEnd s e) s

/-- Step 4 of R280 for every queue. -/
def judgeLate (s : State) : State := (s.egress.queues.map (fun e => e.1)).foldl (fun s k => judgeQueue s k.1 k.2) s

/-! ### Trigger units (R284 to R287) -/

/-- The start of a unit in device ns, and its period. -/
def trigStart (s : State) (u : Nat) : Nat := s.fget .TRIG_START_HI_sec u * 1000000000 + s.fget .TRIG_START_LO_ns u
def trigPeriod (s : State) (u : Nat) : Nat := s.fget .TRIG_PERIOD_period_ns u

/-- The next instant of a unit. -/
def trigNext (s : State) (u : Nat) : Option Nat := tget none s.time.trigNext (u, 0)

/-- Set it. -/
def setTrigNext (s : State) (u : Nat) (t : Option Nat) : State :=
  { s with time := { s.time with trigNext := tset none s.time.trigNext (u, 0) t } }

/-- Target bit of a unit. -/
def trigBit (s : State) (u b : Nat) : Bool := bits (s.fget .TRIG_CTL_targets u) b 1 == 1

/-- The first instant start + k * period at or after now, from a given one; the count of instants passed (R284). -/
def trigSkip (s : State) (t p : Nat) : Nat :=
  if s.time.dt ≤ t * 2 ^ 40 then 0 else (s.time.dt - t * 2 ^ 40 + p * 2 ^ 40 - 1) / (p * 2 ^ 40)

/-- The first instant start + k * period after now, from one that has passed (R286). -/
def trigAfter (s : State) (t p : Nat) : Nat := t + ((s.time.dt - t * 2 ^ 40) / (p * 2 ^ 40) + 1) * p

/-- A TRIG_OUT pulse of a unit: the pins are high until the instant plus pulse_ns; pulses are ORed (R287). -/
def trigPulse (s : State) (u t : Nat) : State :=
  if trigBit s u 5 then
    (List.range 4).foldl (fun s p =>
      if bits (s.fget .TRIG_CTL_out_mask u) p 1 = 1 then
        let e := max (tget 0 s.time.outEnd (p, 0)) (t + s.fget .TRIG_CTL_pulse_ns u)
        { s with time := { s.time with outEnd := tset 0 s.time.outEnd (p, 0) e } }
      else s) s
  else s

/-- Gate cycles of the ports that follow a unit start at the instant (R219, R288). -/
def trigGates (s : State) (u t : Nat) : State :=
  if trigBit s u 6 then
    (List.range 256).foldl (fun s q => if s.fbit .GATE_TRIG_en q ∧ s.fget .GATE_TRIG_unit q = u then gateStart s q t else s) s
  else s

/-- The counts, pins and next instant of one unit that fires: a one-shot disarms itself. -/
def fireUnit (s : State) (late : Bool) (u : Nat) : State :=
  let t := (trigNext s u).getD 0
  let inst := if late then s.devNs else t
  let s := (s.fset .TRIG_CTL_fired u (s.fget .TRIG_CTL_fired u + 1)).count .trigFired u
  let s := if late then (s.count .trigLate u).event .TRIG_CTL_fire_late u else s
  let s := trigGates (trigPulse s u inst) u inst
  let p := trigPeriod s u
  if p = 0 then setTrigNext (s.fset .TRIG_CTL_arm u 0) u none
  else setTrigNext s u (some (if late then trigAfter s t p else t + p))

/-- The pending ticket's unit is among those that fire (R352). -/
def ticketFires (s : State) (us : List Nat) : Bool :=
  match s.images.ticket with
  | some t => us.contains t.unit && trigBit s t.unit 4
  | none => false

/-- The pending ticket activates at its instant: it was judged, or is now, and the management complex runs (R352, R355). -/
def ticketGoes (s : State) : Bool :=
  match s.images.ticket with
  | some t => (t.checked || ticketOk s t) && s.runs 157
  | none => false

/-- Units fire together: a target that several of them name acts once (R285). A ticket that may not activate is dropped, and
its unit does not fire. -/
def fireUnits (s : State) (us : List Nat) (late : Bool) : State :=
  let mine := ticketFires s us
  let act := mine && ticketGoes s
  let own := act && (match s.images.ticket with | some t => trigBit s t.unit 3 | none => false)
  let us := if mine && !act then us.filter (fun u => some u ≠ s.images.ticket.map (fun t => t.unit)) else us
  let s := if mine && !act then ticketDrop s 4 else s
  let hit (b : Nat) : Bool := us.any (fun u => trigBit s u b)
  let snap := hit 0
  let sweep := hit 1
  let whey := hit 2
  let pub := hit 3
  let s := us.foldl (fun s u => fireUnit s late u) s
  let s := if snap then snapRequest s 0 else s
  let s := if sweep then sweepStart s true else s
  let s := if whey then wheyClose s else s
  let s := if pub then (if own then publishNow s else publishTrigger s) else s
  if act then activate s else s

/-- TRIGGER_FIRE (R284, R285): the named units that are armed and whose instant has come fire in one cycle. -/
def execTriggerFire (units : List Nat) (s : State) : Host.Outcome State Fault Refusal :=
  .next (
    let due (u : Nat) : Bool := units.contains u && s.fbit .TRIG_CTL_arm u &&
      (match trigNext s u with | some t => decide (t ≤ s.devNs) | none => false)
    let us := (List.range 8).filter due
    if s.runs pdTime ∧ us ≠ [] then fireUnits s us false else s)

/-- TRIG_OUT_FALL (R287): the pin falls at the end of its last pulse. -/
def execTrigOutFall (pin : Nat) (s : State) : Host.Outcome State Fault Refusal :=
  .next (
    let t := tget 0 s.time.outEnd (pin, 0)
    if t ≠ 0 ∧ t ≤ s.devNs then { s with time := { s.time with outEnd := tset 0 s.time.outEnd (pin, 0) 0 } } else s)

/-- A unit is armed (R284): instants before arming are skipped; a one-shot whose start has passed fires late. -/
def trigArm (s : State) (u : Nat) : State :=
  let t := trigStart s u
  let p := trigPeriod s u
  let s := s.fset .TRIG_CTL_arm u 1
  if p = 0 then
    let s := setTrigNext s u (some t)
    if t * 2 ^ 40 < s.time.dt then fireUnits s [u] true else s
  else
    let k := trigSkip s t p
    let s := if k = 0 then s else s.count .trigSkipped u k
    setTrigNext s u (some (t + k * p))

/-- An armed unit is disarmed by a re-epoch or a reset. -/
def trigDisarm (s : State) (u : Nat) : State :=
  let owned := match s.images.ticket with
    | some t => t.unit == u
    | none => false
  if s.fbit .TRIG_CTL_arm u then
    (if owned then ticketDrop s 5 else trigOff s u).event .TRIG_CTL_disarm_event u
  else s

/-- A TRIG_CTL write (R284). -/
def trigCtlWrite (s : State) (req : Requester) (u v : Nat) : State :=
  let armed := s.fbit .TRIG_CTL_arm u
  let arm := bits v 28 1 == 1
  let same := bits v 0 7 == s.fget .TRIG_CTL_targets u && bits v 8 4 == s.fget .TRIG_CTL_out_mask u &&
    bits v 12 16 == s.fget .TRIG_CTL_pulse_ns u
  if s.fbit .TRIG_CTL_fw_owned u || bits v 12 16 < 8 || (req == .host && bits v 4 1 == 1 && !trigBit s u 4) || (armed && arm && !same) then
    s.event .TIME_STATUS_arg_err 0
  else
    let s := if bits v 30 1 = 1 then s.fset .TRIG_CTL_fire_late u 0 else s
    let s := if bits v 31 1 = 1 then s.fset .TRIG_CTL_disarm_event u 0 else s
    let s := ((s.fset .TRIG_CTL_targets u (bits v 0 7)).fset .TRIG_CTL_out_mask u (bits v 8 4)).fset .TRIG_CTL_pulse_ns u (bits v 12 16)
    let s := evtUpdate s
    if armed && !arm then trigOff s u else if arm && !armed then trigArm s u else s

/-! ### Steps and re-epochs (R279 to R281, R286) -/

/-- The target of a step in units of 2^-40 ns. -/
def stepTarget (s : State) : Nat :=
  (s.fget .TIME_STEP_HI_sec 0 * 1000000000 + s.fget .TIME_STEP_LO_ns 0) * 2 ^ 40 + s.fget .TIME_STEP_LO_subns 0 * 2 ^ 24

/-- A step_go is accepted (R279). -/
def stepOk (s : State) (atPps : Bool) : Bool :=
  s.fbit .TIME_STATUS_step_allowed 0 && decide (s.fget .TIME_STEP_LO_ns 0 < 1000000000) && s.fget .TIME_STEP_LO_epoch 0 == 0 &&
    (!atPps || s.fbit .TIME_CFG_pps_en 0) && (stalled s || decide (s.time.dt ≤ stepTarget s))

/-- No step is asked for any more. -/
def stepClear (s : State) : State := (s.fset .TIME_CTL_step_go 0 0).fset .TIME_STATUS_step_pending 0 0

/-- Step 3 of R280: the epoch ends. `old` is the time just before. -/
def epochEnd (s : State) (old : Nat) : State :=
  let n := old / 2 ^ 40
  let s := (s.fset .EPOCH_LOG_LO_subns 0 (old / 2 ^ 24)).fset .EPOCH_LOG_LO_ns 0 (n % 1000000000)
  let s := (s.fset .EPOCH_LOG_LO_epoch 0 s.time.epoch).fset .EPOCH_LOG_HI_sec 0 (n / 1000000000)
  let e := (s.time.epoch + 1) % 256
  let s := { s with time := { s.time with epoch := e, reepochEnd := none } }.fset .TIME_STATUS_epoch 0 e
  let s := (List.range 8).foldl trigDisarm s
  let s := stepClear ((s.fset .TIME_STATUS_reepoch_pending 0 0).fset .TIME_CTL_reepoch 0 0)
  judgeLate ((s.count .reepochCount 0).event .TIME_STATUS_epoch_event 0)

/-- A cold-start step that passes over the next instants of armed units fires them once, late and together (R285, R286). -/
def passOver (s : State) : State :=
  let us := (List.range 8).filter (fun u => s.fbit .TRIG_CTL_arm u && (match trigNext s u with
    | some t => decide (t * 2 ^ 40 < s.time.dt)
    | none => false))
  if us.isEmpty then s else fireUnits s us true

/-- Device time jumps: the entries of the running gate cycles go on for their time (R219, R286). -/
def timeJump (s : State) (dt : Nat) : State :=
  let d : Int := (dt / 2 ^ 40 : Nat) - (s.devNs : Int)
  let move (g : Gates) : Gates := { g with since := g.since + d, endsAt := g.endsAt.map (fun t => t + d) }
  { s with time := { s.time with dt := dt }, egress := { s.egress with gates := tmap {} (fun _ g => move g) s.egress.gates } }

/-- A step takes effect. -/
def takeStep (s : State) : State :=
  let old := s.time.dt
  let s := timeJump s (stepTarget s)
  let s := stepClear ((s.fset .TIME_STATUS_step_allowed 0 0).count .stepCount 0)
  if stalled s then epochEnd s old
  else passOver (judgeLate (markLate s))

/-- step_go is written (R279): at once, or at the next captured PPS edge. -/
def stepGo (s : State) (atPps : Bool) : State :=
  if s.fbit .TIME_CTL_step_go 0 then s
  else if !stepOk s atPps then s.event .TIME_STATUS_arg_err 0
  else if atPps then (s.fset .TIME_CTL_step_go 0 1).fset .TIME_STATUS_step_pending 0 1
  else takeStep s

/-- reepoch is written (R280 step 1). -/
def reepochGo (s : State) : State :=
  if stalled s then s.event .TIME_STATUS_arg_err 0
  else
    let s := ((s.fset .TIME_STATUS_reepoch_pending 0 1).fset .TIME_CTL_reepoch 0 1).fset .TIME_STATUS_step_allowed 0 1
    markLate { s with time := { s.time with reepochEnd := some (s.now + 1000 * s.fget .TIME_CFG_reepoch_hold_us 0) } }

/-- A TIME_CTL write. A re-epoch and a step of one write: the re-epoch begins first (DESIGN CHOICE, log entry 30). -/
def timeCtlWrite (s : State) (v : Nat) : State :=
  let s := s.fset .TIME_CTL_step_at_pps 0 (bits v 1 1)
  let s := if bits v 2 1 = 1 then reepochGo s else s
  if bits v 0 1 = 1 then stepGo s (bits v 1 1 == 1) else s

/-- REEPOCH_HOLD_EXPIRE (R280 step 3): the window ends with no step. -/
def execReepochHoldExpire (s : State) : Host.Outcome State Fault Refusal :=
  .next (
    match s.time.reepochEnd with
    | none => s
    | some t => if s.now < t then s else epochEnd (s.fset .TIME_STATUS_step_allowed 0 0) s.time.dt)

/-- SLEW_COMPLETE (R278): the remainder has reached 0 and the term ends. -/
def execSlewComplete (s : State) : Host.Outcome State Fault Refusal :=
  .next (if s.fbit .TIME_STATUS_slew_active 0 ∧ s.time.slew = 0 then rateShow (s.fset .TIME_STATUS_slew_active 0 0) else s)

/-! ### References, PPS and reads (R275, R276, R282) -/

/-- REF_LOST (R276): TS_CLK_IN has shown no edge for 1 us while it is the source. -/
def execRefLost (s : State) : Host.Outcome State Fault Refusal :=
  .next (
    if s.fbit .TIME_STATUS_ref_active 0 then
      ((s.fset .TIME_STATUS_ref_active 0 0).count .refLostCount 0).event .TIME_STATUS_ref_lost 0
    else s)

/-- PPS_CAPTURE (R279, R282): a selected edge. -/
def execPpsCapture (s : State) : Host.Outcome State Fault Refusal :=
  .next (
    if s.fbit .TIME_CFG_pps_en 0 = false ∨ s.runs pdTime = false then s
    else
      let glitch := match s.time.ppsAt with
        | some t => decide (s.now < t + 500000000)
        | none => false
      if glitch then s.count .ppsGlitch 0
      else
        let s := { s with time := { s.time with ppsAt := some s.now, ppsMissed := false } }
        let s := if s.fbit .TIME_STATUS_step_pending 0 then
            (if stalled s || decide (s.time.dt ≤ stepTarget s) then takeStep s else (stepClear s).event .TIME_STATUS_arg_err 0)
          else s
        let s := (s.fset .PPS_CAP_LO_subns 0 (s.time.dt / 2 ^ 24)).fset .PPS_CAP_LO_ns 0 (s.devNs % 1000000000)
        let s := (s.fset .PPS_CAP_LO_epoch 0 s.time.epoch).fset .PPS_CAP_HI_sec 0 (s.devNs / 1000000000)
        (s.count .ppsCount 0).event .TIME_STATUS_pps_event 0)

/-- PPS_MISSING (R282): no edge within 1.1 s of the previous one, once for each gap. -/
def execPpsMissing (s : State) : Host.Outcome State Fault Refusal :=
  .next (
    match s.time.ppsAt with
    | some t =>
      if s.fbit .TIME_CFG_pps_en 0 ∧ s.time.ppsMissed = false ∧ t + 1100000000 ≤ s.now then
        ({ s with time := { s.time with ppsMissed := true } }.count .ppsMissingCount 0).event .TIME_STATUS_pps_missing 0
      else s
    | none => s)

/-- TIME_NOW_LO as a read returns it. -/
def timeNowLo (s : State) : Nat := s.time.dt / 2 ^ 24 % 2 ^ 16 + s.devNs % 1000000000 * 2 ^ 16 + s.time.epoch * 2 ^ 48

/-- A read of TIME_NOW_LO latches the seconds for its requester (R275). -/
def timeLatch (s : State) (req : Requester) : State :=
  let sec := s.devNs / 1000000000
  { s with time := match req with
      | .host => { s.time with latchHost := some sec }
      | .mgmt => { s.time with latchMgmt := some sec } }

/-- TIME_NOW_LATCH (R275): a read of TIME_NOW_LO. -/
def execTimeNowLatch (req : Requester) (s : State) : Host.Outcome State Fault Refusal :=
  .next ((timeLatch s req).emit (.value (timeNowLo s)))

/-- The fields of a register whose value a level D reset of the time unit keeps (R291). -/
def timeKept : List Nat :=
  (Reg.TIME_CFG.flds ++ Reg.TIME_RATE.flds ++ Reg.GATE_TRIG.flds).map (fun f => f.ctorIdx)

/-- The registers of the time unit page. -/
def timeRegs : List Reg :=
  [.TIME_CFG, .TIME_STATUS, .TIME_NOW_LO, .TIME_NOW_HI, .TIME_RATE, .TIME_SLEW, .TIME_STEP_LO, .TIME_STEP_HI, .TIME_CTL, .PPS_CAP_LO,
   .PPS_CAP_HI, .EPOCH_LOG_LO, .EPOCH_LOG_HI, .TRIG_START_LO, .TRIG_START_HI, .TRIG_PERIOD, .TRIG_CTL, .GATE_TRIG]

/-- The field numbers of some registers. -/
def fieldsOf (l : List Reg) : List Nat := l.flatMap (fun r => r.flds.map (fun f => f.ctorIdx))

/-- Registers take their reset values, but for the fields kept. -/
def regsReset (s : State) (l : List Reg) (keep : List Nat) : State :=
  let fs := fieldsOf l
  { s with reg := s.reg.filter (fun e => !(fs.contains e.1.1) || keep.contains e.1.1) }

/-- A level D reset of the time unit (R291). The source stays: TS_CLK_IN, once lost, returns only with a write of ref_sel (R276). -/
def timeReset (s : State) : State :=
  let armed := (List.range 8).filter (fun u => s.fbit .TRIG_CTL_arm u)
  let s := match s.images.ticket with
    | some _ => ticketDrop s 4
    | none => s
  let ref := s.fget .TIME_STATUS_ref_active 0
  let s := regsReset s timeRegs timeKept
  let e := (s.time.epoch + 1) % 256
  let t : TimeSt := { dt := 0, epoch := e, latchHost := none, latchMgmt := none, slew := 0, reepochEnd := none,
                      ppsAt := none, ppsMissed := false, trigNext := [], outEnd := [] }
  let s := { timeJump s 0 with time := t }.fset .TIME_STATUS_epoch 0 e
  let s := s.fset .TIME_STATUS_ref_active 0 ref
  let s := armed.foldl (fun s u => s.event .TRIG_CTL_disarm_event u) s
  evtUpdate (judgeLate (markLate (rateShow s)))

end Sys2Proof.Machine
end

