-- ==== Sys2Proof/Machine/RegCheck.lean ====
section
/-! DEFINITION. What a register write is judged against: the value a write leaves, the ranges and rules of every chapter,
and the bit that reports a refusal (R30, R35, R54, R82, R109, R110, R120, R125, R178, R193, R199, R205, R226, R229, R232,
R237, R249, R255, R256, R284, R289, R303, R313, R357, R364). -/

namespace Sys2Proof.Machine

/-! ### Register values -/

/-- The bits that a write supplies: `word` 64-bit words of them, from a word on. -/
def wordMask (word n : Nat) : Nat := (2 ^ (64 * n) - 1) * 2 ^ (64 * word)

/-- The register value that a write of `v` under a mask of supplied bits leaves in its readable and writable bits. -/
def merged (old v mask : Nat) : Nat := (old &&& (2 ^ 1024 - 1 - mask)) ||| (v &&& mask)

/-- The byte offset in its BAR of an instance's word. -/
def regOffset (r : Reg) (i word : Nat) : Nat :=
  r.info.base + r.info.s1 * (i / r.info.n2) + r.info.s2 * (i % r.info.n2) + 8 * word

/-! ### Rules of the chapters: true when a write of register value `v` is refused -/

/-- A port layout is valid (R30). -/
def layoutOk (v : Nat) : Bool :=
  (List.range 8).all (fun i =>
    let w := fldIn v .OCTET_LAYOUT_start_width i
    let n := [0, 1, 2, 4, 8].getD w 0
    w ≤ 4 && fldIn v .OCTET_LAYOUT_lane_rate i != 3 &&
      (n == 0 || (i % n == 0 && (List.range 8).all (fun j => !(i < j && j < i + n) || fldIn v .OCTET_LAYOUT_start_width j == 0))))

/-- Every port of an octet, under both layouts, has admin_en = 0 (R30). -/
def layoutIdle (s : State) (n v : Nat) : Bool :=
  (List.range 8).all (fun i =>
    (portWidth s (8 * n + i) == 0 && fldIn v .OCTET_LAYOUT_start_width i == 0) || !s.fbit .PORT_CFG_admin_en (8 * n + i))

/-- The port that a lane belongs to (R29). -/
def laneOwner (s : State) (lane : Nat) : Option Nat :=
  (List.range (lane % 8 + 1)).findSome? (fun d =>
    let q := lane - d
    if d < portWidth s q then some q else none)

/-- Some lane of a port has a pattern field other than 0 (R357). -/
def lanePatterns (s : State) (q : Nat) : Bool :=
  (List.range (portWidth s q)).any (fun d => s.fget .LANE_TEST_tx_pattern (q + d) != 0 || s.fget .LANE_TEST_rx_pattern (q + d) != 0)

/-- Refusals of the lane octet and port pages (R30, R35, R37, R357, R364). -/
def badPort (s : State) (r : Reg) (i v : Nat) : Bool :=
  match r with
  | .OCTET_LAYOUT => !layoutOk v || !layoutIdle s i v
  | .LANE_TEST =>
    let t := fldIn v .LANE_TEST_tx_pattern
    let x := fldIn v .LANE_TEST_rx_pattern
    let busy := match laneOwner s i with
      | some q => s.fbit .PORT_CFG_admin_en q
      | none => false
    10 < t || 10 < x || fldIn v .LANE_TEST_test_rate == 3 || ((t != 0 || x != 0) && busy)
  | .PORT_CFG =>
    let m := fldIn v .PORT_CFG_max_frame
    m < 64 || 9728 < m || 1000 < fldIn v .PORT_CFG_down_debounce_us || 1000000 < fldIn v .PORT_CFG_up_debounce_us ||
      (fldIn v .PORT_CFG_admin_en == 1 && lanePatterns s i)
  | .PORT_HOLD => 1000000 < fldIn v .PORT_HOLD_port_hold_us
  | .FEC_DEGRADE => fldIn v .FEC_DEGRADE_degrade_thresh == 0 || fldIn v .FEC_DEGRADE_degrade_window_us == 0
  | .PORT_TEST =>
    let n := fldIn v .PORT_TEST_gen_len
    let g := fldIn v .PORT_TEST_gen_rate
    fldIn v .PORT_TEST_payload == 3 || n < 64 || s.fget .PORT_CFG_max_frame i < n || g < 1 || 1000 < g ||
      (fldIn v .PORT_TEST_loopback != s.fget .PORT_TEST_loopback i && s.fbit .PORT_CFG_admin_en i)
  | _ => false

/-- A profile breaks R54. -/
def badProfile (v : Nat) : Bool :=
  (List.range 16).any (fun e => fldIn v .PROFILE_ext_en e == 1 &&
    (256 < fldIn v .PROFILE_ext_src_off e + fldIn v .PROFILE_ext_width_m1 e + 1 ||
     48 < fldIn v .PROFILE_ext_dst_off e + fldIn v .PROFILE_ext_width_m1 e + 1)) ||
  (fldIn v .PROFILE_probe_en == 1 && 128 < fldIn v .PROFILE_probe_off + fldIn v .PROFILE_probe_w + 1) ||
  fldIn v .PROFILE_l3_kind == 3 || 3 < fldIn v .PROFILE_tsrc_mode || 23 < fldIn v .PROFILE_tsrc_shift ||
  fldIn v .PROFILE_depth_action == 3 || fldIn v .PROFILE_short_action == 3 || fldIn v .PROFILE_trail_action == 3 ||
  fldIn v .PROFILE_tenant_miss_action == 3 ||
  (fldIn v .PROFILE_chain_en == 1 && fldIn v .PROFILE_chain_base == 0) ||
  (fldIn v .PROFILE_depth_action == 1 &&
    (fldIn v .PROFILE_decap_len == 0 || 256 < fldIn v .PROFILE_decap_start + fldIn v .PROFILE_decap_len)) ||
  (fldIn v .PROFILE_tsrc_mode == 3 && fldIn v .PROFILE_tmap_base / 4096 != 0)

/-- Refusals of the Separator page (R54, R55, R65, R66). -/
def badSep (s : State) (r : Reg) (v : Nat) : Bool :=
  match r with
  | .PROFILE => badProfile v
  | .SEP_PORT_CFG => fldIn v .SEP_PORT_CFG_assumed_len < 64 || 9728 < fldIn v .SEP_PORT_CFG_assumed_len
  | .PUNT_AGG => 50000000 < fldIn v .PUNT_AGG_rate_pps || fldIn v .PUNT_AGG_burst == 0
  | .PUNT_POLICER => 50000000 < fldIn v .PUNT_POLICER_rate_pps || fldIn v .PUNT_POLICER_burst == 0
  | .LB_KEY => s.fbit .SEP_STATUS_lb_key_pending 0
  | .LB_KEY_CTL => s.fbit .SEP_STATUS_lb_key_pending 0
  | _ => false

/-- A buffer is allocated (R193). -/
def anyBuffer (s : State) : Bool :=
  s.buffers.bufs.any (fun e => match e.2 with
    | some b => !b.retired
    | none => false)

/-- The sum of the granule counts of a carve. -/
def carveSum (v : Nat) : Nat :=
  fldIn v .POOL_CARVE_p0_granules + fldIn v .POOL_CARVE_p1_granules + fldIn v .POOL_CARVE_p2_granules + fldIn v .POOL_CARVE_p3_granules

/-- Refusals of the buffer page (R3, R193, R199, R205). -/
def badBuf (s : State) (r : Reg) (i v : Nat) : Bool :=
  match r with
  | .POOL_CARVE => 80 < carveSum v || anyBuffer s
  | .VAT_CFG => Config.vatGibMax < fldIn v .VAT_CFG_vat_gib || s.fget .VAT_STATUS_segments_free 0 != s.fget .VAT_STATUS_segments 0
  | .PFC_TX =>
    fldIn v .PFC_TX_pause_quanta == 0 || fldIn v .PFC_TX_refresh_quanta == 0 ||
      fldIn v .PFC_TX_pause_quanta ≤ fldIn v .PFC_TX_refresh_quanta
  | .ING_ACCT => fldIn v .ING_ACCT_xoff < fldIn v .ING_ACCT_xon
  | .EGR_Q =>
    fldIn v .EGR_Q_egr_limit < fldIn v .EGR_Q_spill_thresh || fldIn v .EGR_Q_ecn_max < fldIn v .EGR_Q_ecn_min ||
      2031616 < fldIn v .EGR_Q_vat_limit || (i / 16 == 256 && fldIn v .EGR_Q_spill_en == 1)
  | _ => false

/-- An INDIR entry breaks R226. -/
def badIndir (s : State) (v : Nat) : Bool :=
  match bits v 60 4 with
  | 0 => bits v 0 60 != 0
  | 1 => bits v 13 47 != 0 || 256 < bits v 0 9 || !portExists s (bits v 0 9)
  | 2 => bits v 16 8 != 0 || bits v 28 32 != 0 || 4095 < bits v 0 16
  | 3 => bits v 4 56 != 0
  | 4 => 4095 < bits v 48 12
  | 5 => false
  | _ => true

/-- Refusals of the egress, header editor, next-hop and indirection pages (R226, R229, R232). -/
def badEgr (s : State) (r : Reg) (i v : Nat) : Bool :=
  match r with
  | .SCHED_Q =>
    fldIn v .SCHED_Q_weight == 0 || 1600000 < fldIn v .SCHED_Q_rate_mbps || fldIn v .SCHED_Q_burst < 64 ||
      (i / 16 == 256 && fldIn v .SCHED_Q_timed == 1)
  | .SCHED_PORT => 1600000 < fldIn v .SCHED_PORT_rate_mbps || fldIn v .SCHED_PORT_burst < 64
  | .LAUNCH_CFG => fldIn v .LAUNCH_CFG_launch_horizon_us == 0 || 4000000 < fldIn v .LAUNCH_CFG_launch_horizon_us
  | .GATE_LIST => fldIn v .GATE_LIST_dur_ns == 0
  | .MIRROR_SESSION =>
    let q := fldIn v .MIRROR_SESSION_port
    let t := fldIn v .MIRROR_SESSION_trunc_len
    256 < q || !portExists s q || (t != 0 && (t < 64 || 9728 < t))
  | .INDIR => badIndir s v
  | .NH_GROUP =>
    let n := fldIn v .NH_GROUP_count
    256 < n || (n == 0 && fldIn v .NH_GROUP_valid == 1) || 65536 < fldIn v .NH_GROUP_member_base + n
  | .NH_MEMBER =>
    let q := fldIn v .NH_MEMBER_port
    fldIn v .NH_MEMBER_valid == 1 && (255 < q || !portExists s q)
  | _ => false

/-- Refusals of the fabric page (R237, R249). -/
def badFab (s : State) (r : Reg) (i v : Nat) : Bool :=
  match r with
  | .FAB_CFG =>
    let e := fldIn v .FAB_CFG_ethertype
    let g := fldIn v .FAB_CFG_gap_timeout_us
    e < 0x0600 || e == 0x8100 || e == 0x88A8 || e == 0x0800 || e == 0x86DD || fldIn v .FAB_CFG_hops_init == 0 ||
      g == 0 || 1000 < g || fldIn v .FAB_CFG_pin_ms == 0
  | .RESEQ_CFG => fldIn v .RESEQ_CFG_stream_hold_max == 0 || 65536 < fldIn v .RESEQ_CFG_stream_hold_max
  | .FAB_UPLINK =>
    let q := fldIn v .FAB_UPLINK_port
    fldIn v .FAB_UPLINK_weight == 0 ||
      (fldIn v .FAB_UPLINK_valid == 1 && (255 < q || !portExists s q || !s.fbit .PORT_CFG_fabric_port q ||
        (List.range 64).any (fun u => u != i && s.fbit .FAB_UPLINK_valid u && s.fget .FAB_UPLINK_port u == q)))
  | _ => false

/-- Two blocks may not lie in different modes where either is the group's mode (R120). -/
def modesOk (v : Nat) : Bool :=
  let m (b : Nat) : Nat := fldIn v .STR_BLOCK_CFG_mode b
  (List.range 4).all (fun k => !(m (2 * k) == 1 || m (2 * k + 1) == 1) || m (2 * k) == m (2 * k + 1)) &&
    (List.range 2).all (fun k => !((List.range 4).any (fun j => m (4 * k + j) == 2)) || (List.range 4).all (fun j => m (4 * k + j) == m (4 * k)))

/-- A block holds an entry: entries of a pair or quad lie in every block of it (R121). -/
def blockUsed (s : State) (b : Nat) : Bool :=
  s.strainer.any (fun e => match e.2 with
    | some x =>
      let first := e.1.1 / 32768
      x.epoch != 0 && first ≤ b && b < first + 2 ^ x.width
    | none => false)

/-- A lookup profile breaks R125. -/
def badLkp (v : Nat) : Bool :=
  let w (p : Nat) : Nat := if p = 0 then fldIn v .STR_LKP_width0 else fldIn v .STR_LKP_width1
  let d := fldIn v .STR_LKP_default_action
  (List.range 8).any (fun e => fldIn v .STR_LKP_seg_en e == 1 &&
    (320 < fldIn v .STR_LKP_seg_src e + fldIn v .STR_LKP_seg_len_m1 e + 1 ||
     widthBytes (w (fldIn v .STR_LKP_seg_probe e)) < fldIn v .STR_LKP_seg_dst e + fldIn v .STR_LKP_seg_len_m1 e + 1)) ||
  w 0 == 3 || w 1 == 3 || fldIn v .STR_LKP_overload_action == 3 || actOf d == 4 || !actionOk d

/-- Refusals of the Strainer page (R120, R125). -/
def badStr (s : State) (r : Reg) (v : Nat) : Bool :=
  match r with
  | .STR_BLOCK_CFG =>
    !modesOk v || (List.range 8).any (fun b => fldIn v .STR_BLOCK_CFG_mode b != s.fget .STR_BLOCK_CFG_mode b && blockUsed s b)
  | .STR_LKP => badLkp v
  | _ => false

/-- Refusals of the churn, Cellar, Skim and HBM pages (R80, R82, R109, R110, R178, R186). -/
def badFlow (s : State) (r : Reg) (i v : Nat) : Bool :=
  match r with
  | .NAT_POOL =>
    65536 < fldIn v .NAT_POOL_base + fldIn v .NAT_POOL_size ||
      (s.fget .NAT_POOL_used i != 0 && (fldIn v .NAT_POOL_base != s.fget .NAT_POOL_base i ||
        fldIn v .NAT_POOL_size != s.fget .NAT_POOL_size i || fldIn v .NAT_POOL_tag != s.fget .NAT_POOL_tag i))
  | .NAT_TQUOTA => 16777216 < fldIn v .NAT_TQUOTA_limit
  | .PUBLISH_CFG => fldIn v .PUBLISH_CFG_drain_limit_us == 0 || 1000000 < fldIn v .PUBLISH_CFG_drain_limit_us
  | .CELLAR_CFG => fldIn v .CELLAR_CFG_quota_action == 3 || fldIn v .CELLAR_CFG_full_action == 3 || fldIn v .CELLAR_CFG_stash_action == 3
  | .TENANT_QUOTA => 134217728 < fldIn v .TENANT_QUOTA_limit
  | .SKIM_CFG => fldIn v .SKIM_CFG_bypass_wait_ns < 64
  | .HBM_SPLIT => fldIn v .HBM_SPLIT_hbm_split < 4 || 14 < fldIn v .HBM_SPLIT_hbm_split
  | _ => false

/-- Refusals of the time unit page, but for TIME_CTL and TRIG_CTL (R277, R278, R284, R289). -/
def badTime (s : State) (r : Reg) (i v : Nat) : Bool :=
  let held := s.fbit .TRIG_CTL_arm i || s.fbit .TRIG_CTL_fw_owned i
  match r with
  | .TIME_CFG => fldIn v .TIME_CFG_reepoch_hold_us == 0 || 1000000 < fldIn v .TIME_CFG_reepoch_hold_us
  | .TIME_RATE => decide ((signed (fldIn v .TIME_RATE_rate_adj) 32).natAbs > 1099511627)
  | .TIME_SLEW => fldIn v .TIME_SLEW_slew_ppm == 0 || 1000 < fldIn v .TIME_SLEW_slew_ppm
  | .TRIG_START_LO =>
    held || fldIn v .TRIG_START_LO_epoch != 0 || fldIn v .TRIG_START_LO_subns != 0 || 999999999 < fldIn v .TRIG_START_LO_ns
  | .TRIG_START_HI => held
  | .TIME_STEP_LO => fldIn v .TIME_STEP_LO_epoch != 0 || 999999999 < fldIn v .TIME_STEP_LO_ns
  | .TRIG_PERIOD => held || (fldIn v .TRIG_PERIOD_period_ns != 0 && fldIn v .TRIG_PERIOD_period_ns < 1000)
  | _ => false

/-- The number of bits set in a number below 2^48. -/
def ones48 (v : Nat) : Nat := ((List.range 48).map (fun i => bits v i 1)).sum

/-- A view with a field past key-field byte 36 (R304). -/
def badView (v : Nat) : Bool :=
  let a := if fldIn v .WHEY_VIEW_view = 1 then 4 else 16
  match fldIn v .WHEY_VIEW_view with
  | 0 => false
  | 3 => true
  | _ => 37 < fldIn v .WHEY_VIEW_src_off + a || 37 < fldIn v .WHEY_VIEW_dst_off + a || 37 < fldIn v .WHEY_VIEW_proto_off + 1 ||
      37 < fldIn v .WHEY_VIEW_sport_off + 2 || 37 < fldIn v .WHEY_VIEW_dport_off + 2

/-- Some field of IPFIX_CFG other than en changes (R303). -/
def ipfixChanges (s : State) (i v : Nat) : Bool :=
  Reg.IPFIX_CFG.flds.any (fun f => f != .IPFIX_CFG_en && fldIn v f != s.fget f i)

/-- Refusals of the Whey page (R295, R298, R303, R313); `m` masks the bits that the write supplies. -/
def badWhey (s : State) (r : Reg) (i v m : Nat) : Bool :=
  match r with
  | .WHEY_CFG => 37 < ones48 (fldIn v .WHEY_CFG_key_sel)
  | .QWM => fldIn v .QWM_en == 1 && fldIn v .QWM_wm_kib == 0
  | .IPFIX_CFG =>
    let q := fldIn v .IPFIX_CFG_port
    let names := fldIn m .IPFIX_CFG_port != 0
    let mtu := fldIn v .IPFIX_CFG_mtu
    let t := fldIn v .IPFIX_CFG_template_refresh_s
    (s.fbit .IPFIX_CFG_en i && ipfixChanges s i v) || (names && (255 < q || !portExists s q)) || mtu < 576 || 9000 < mtu || t < 1 || 3600 < t
  | .WHEY_VIEW => badView v
  | _ => false

/-- The number of sets a VF owns, a set left out. -/
def setsOwned (s : State) (vf but : Nat) : Nat :=
  ((List.range 64).filter (fun x => x != 0 && x != but && s.fget .RSET_OWNER_owner x == vf)).length

/-- Ring k of set s keeps its RING_CTL fields other than en under a write (R256). -/
def ringSame (s : State) (i v : Nat) : Bool :=
  fldIn v .RING_CTL_log2_size == s.fget .RING_CTL_log2_size i && fldIn v .RING_CTL_vector == s.fget .RING_CTL_vector i &&
    fldIn v .RING_CTL_mod_count == s.fget .RING_CTL_mod_count i && fldIn v .RING_CTL_mod_time_us == s.fget .RING_CTL_mod_time_us i &&
    fldIn v .RING_CTL_irq_en == s.fget .RING_CTL_irq_en i

/-- Refusals of the host interface page and the ring-set pages (R255, R256, R326). -/
def badHost (s : State) (r : Reg) (i v : Nat) : Bool :=
  match r with
  | .RSET_OWNER =>
    let o := fldIn v .RSET_OWNER_owner
    s.fbit .SET_CTL_set_en i || (i == 0 && o != 0) || (o != 0 && 16 ≤ setsOwned s o i)
  | .RING_BASE => s.fbit .RING_CTL_en i || fldIn v .RING_BASE_addr % 64 != 0
  | .SB_ADDR => (List.range 8).any (fun k => s.fbit .RING_CTL_en (i * 8 + k)) || fldIn v .SB_ADDR_addr % 64 != 0
  | .RING_CTL =>
    let n := fldIn v .RING_CTL_log2_size
    let en := fldIn v .RING_CTL_en == 1
    let mbx := i == 6 || i == 7
    (s.fbit .RING_CTL_en i && !ringSame s i v) || n < 6 || 16 < n || (en && 6 ≤ i % 8 && !mbx) ||
      (en && s.fbit .START_STATUS_recovery 0 && !mbx)
  | _ => false

/-- A write of register value `v`, of which it supplies the bits of `m`, is refused by a rule of its chapter. -/
def regRefused (s : State) (r : Reg) (i v m : Nat) : Bool :=
  badPort s r i v || badSep s r v || badBuf s r i v || badEgr s r i v || badFab s r i v || badStr s r v || badFlow s r i v ||
    badTime s r i v || badWhey s r i v m || badHost s r i v

/-- The event bit and its instance that a refused write sets. -/
def regErrBit (r : Reg) (i : Nat) : Option (Fld × Nat) :=
  match r with
  | .OCTET_LAYOUT => some (.OCTET_STATUS_arg_err, i)
  | .LANE_TEST => some (.OCTET_STATUS_arg_err, i / 8)
  | .PORT_CFG | .PORT_HOLD | .FEC_DEGRADE | .PORT_TEST => some (.PORT_STATUS_arg_err, i)
  | .PROFILE | .SEP_PORT_CFG | .PUNT_AGG | .PUNT_POLICER | .LB_KEY | .LB_KEY_CTL => some (.SEP_STATUS_arg_err, 0)
  | .POOL_CARVE | .VAT_CFG | .PFC_TX | .ING_ACCT | .EGR_Q => some (.BUF_STATUS_arg_err, 0)
  | .SCHED_Q | .SCHED_PORT | .LAUNCH_CFG | .GATE_LIST | .MIRROR_SESSION | .INDIR | .NH_GROUP | .NH_MEMBER => some (.EGR_STATUS_arg_err, 0)
  | .FAB_CFG | .RESEQ_CFG | .FAB_UPLINK => some (.FAB_STATUS_arg_err, 0)
  | .STR_BLOCK_CFG | .STR_LKP => some (.STR_STATUS_arg_err, 0)
  | .NAT_POOL | .NAT_TQUOTA | .PUBLISH_CFG => some (.NAT_STATUS_arg_err, 0)
  | .CELLAR_CFG | .TENANT_QUOTA => some (.CELLAR_STATUS_arg_err, 0)
  | .SKIM_CFG => some (.SKIM_STATUS_arg_err, 0)
  | .HBM_SPLIT => some (.HBM_SPLIT_arg_err, 0)
  | .TIME_CFG | .TIME_RATE | .TIME_SLEW | .TIME_STEP_LO | .TRIG_START_LO | .TRIG_START_HI | .TRIG_PERIOD => some (.TIME_STATUS_arg_err, 0)
  | .WHEY_CFG | .QWM | .IPFIX_CFG | .WHEY_VIEW => some (.WHEY_STATUS_arg_err, 0)
  | .RSET_OWNER => some (.HIF_STATUS_arg_err, 0)
  | .RING_BASE | .RING_CTL => some (.SET_ERR_cfg_err, i / 8)
  | .SB_ADDR => some (.SET_ERR_cfg_err, i)
  | _ => none

/-- A refused write changes nothing but its event bit; a ring register also names its ring. -/
def refuseWrite (s : State) (r : Reg) (i : Nat) : State :=
  match regErrBit r i with
  | none => s
  | some (f, n) =>
    let s := match r with
      | .RING_BASE | .RING_CTL => s.fset .SET_ERR_last_ring n (i % 8)
      | _ => s
    s.event f n

end Sys2Proof.Machine
end

