-- ==== Sys2Proof/Machine/Setup.lean ====
section
/-! DEFINITION. Register writes: how an access reaches a register, staging, SETUP_LOCK, and what an accepted write does
(R8, R53, R370 to R374), with the rows that are writes of one register. -/

namespace Sys2Proof.Machine

/-! ### Values in force -/

/-- The register value that a write leaves, and the bits on which a written 1 acts. -/
structure RegWrite where
  r : Reg
  i : Nat
  /-- Fields that software writes: the values after the write. -/
  v : Nat
  /-- The bits the write itself supplies. -/
  act : Nat
  deriving DecidableEq, Repr

/-- A written bit of a field acts. -/
def RegWrite.hit (w : RegWrite) (f : Fld) : Bool := fldIn w.act f == 1

/-- Write one field, with all its copies, as its access code says. -/
def applyField (s : State) (w : RegWrite) (p : Fld × FldInfo) : State :=
  (List.range p.2.reps).foldl (fun s c =>
    let k := w.i * p.2.reps + c
    match p.2.acc with
    | .rw | .rwp => s.fset p.1 k (fldIn w.v p.1 c)
    | .wo => if w.r = .LB_KEY then s.fset p.1 k (fldIn w.v p.1 c) else s
    | .w1c => if fldIn w.act p.1 c = 1 then s.fset p.1 k 0 else s
    | .ro | .w1s | .rind => s) s

/-- Write every field of a register. -/
def applyFields (s : State) (w : RegWrite) : State := w.r.table.foldl (fun s p => applyField s w p) s

/-- A write that would change an RWP field (R373). -/
def changesRwp (s : State) (w : RegWrite) : Bool :=
  w.r.table.any (fun p => p.2.acc = .rwp && (List.range p.2.reps).any (fun c => fldIn w.v p.1 c != s.fget p.1 (w.i * p.2.reps + c)))

/-- Log a refused access (LOCK_LOG). -/
def lockLog (s : State) (req : Requester) (off kind : Nat) : State :=
  let s := (s.fset .LOCK_LOG_offset 0 off).fset .LOCK_LOG_kind 0 kind
  (s.fset .LOCK_LOG_requester 0 (bit (req == .mgmt))).fset .LOCK_LOG_stamp 0 s.stamp32

/-! ### What an accepted write does beyond its fields -/

/-- The level of a punt bucket now, in billionths of a packet: key (reason, 0), or (256, 0) for the aggregate (R66). -/
def puntLevel (s : State) (k : Nat) : Int :=
  let rate := if k = 256 then s.fget .PUNT_AGG_rate_pps 0 else s.fget .PUNT_POLICER_rate_pps k
  let top : Int := (if k = 256 then s.fget .PUNT_AGG_burst 0 else s.fget .PUNT_POLICER_burst k) * 1000000000
  match tget none s.puntBuckets (k, 0) with
  | none => top
  | some b => min top (b.level + (rate * (s.now - b.since) : Nat))

/-- Set a punt bucket's level as of now. -/
def setPunt (s : State) (k : Nat) (l : Int) : State :=
  { s with puntBuckets := tset none s.puntBuckets (k, 0) (some ⟨l, s.now⟩) }

/-- A scheduler word is written: at once on a port between frames, else from its next frame boundary (R232). `s0` is the state
before; class 16 stands for the port. -/
def schedWrite (s0 s : State) (q c : Nat) (r : Reg) (i : Nat) : State :=
  if (tget none s.egress.tx (q, 0)).isNone then shaperSettle s0 s q c
  else if (tget none s.egress.schedOld (q, c)).isSome then s
  else { s with egress := { s.egress with schedOld := tset none s.egress.schedOld (q, c) (some (regRaw s0 r i)) } }

/-- The live counts of a lane checker are latched (R359). -/
def laneLatch (s : State) (n : Nat) : State :=
  let l := tget {} s.setup.lanes (n, 0)
  ((s.fset .LANE_TEST_err_cnt n l.errs).fset .LANE_TEST_bit_cnt n l.bits).fset .LANE_TEST_lock_loss n l.loss

/-- They are cleared. -/
def laneClear (s : State) (n : Nat) : State := { s with setup := { s.setup with lanes := tset {} s.setup.lanes (n, 0) {} } }

/-- Bits compared and errors found since the last row of a lane: counted while locked, up to 2^48 - 1 bits (R358). -/
def laneAdd (s : State) (n b e : Nat) : State :=
  let l := tget {} s.setup.lanes (n, 0)
  if s.fbit .LANE_TEST_lock n && decide (l.bits < 2 ^ 48 - 1) then
    { s with setup := { s.setup with lanes := tset {} s.setup.lanes (n, 0) { l with bits := min (l.bits + b) (2 ^ 48 - 1), errs := l.errs + e } } }
  else s

/-- The effects of the lane octet and port pages (R35, R42, R47, R199, R224, R357 to R364, R391). -/
def afterPort (s0 s : State) (w : RegWrite) : State :=
  let q := w.i
  match w.r with
  | .PORT_CFG =>
    let s := if s0.fbit .PORT_CFG_admin_en q && !s.fbit .PORT_CFG_admin_en q then adminOff s q else s
    let s := if s.fbit .PORT_CFG_admin_en q then s.setPort q { s.port q with barred := false } else s
    let degraded := !s0.fbit .PORT_CFG_degrade_down q && s.fbit .PORT_CFG_degrade_down q && s.fbit .PORT_STATUS_fec_degraded q
    let s := if degraded && portUp s q then declareDown s q false else s
    linkJudge (if portUp s q then s else latchCfg s q) q
  | .PORT_HOLD =>
    match holdEnd s q with
    | some t => if t ≤ s.now then flushStart s q else s
    | none => s
  | .PFC_MAP => (List.range 8).foldl (fun s p => pfcJudge s q p) s
  | .ING_ACCT => (List.range 8).foldl (fun s p => pfcJudge s (q / 16) p) s
  | .PTP_PORT =>
    let p := s.port q
    s.setPort q { p with ptpOld := p.ptpOld.filter (fun e => s.now ≤ e.1 + 1000) ++ [(s.now, regRaw s0 .PTP_PORT q)] }
  | .PORT_TEST =>
    let t := (s.port q).test
    let gen := !s0.fbit .PORT_TEST_gen_en q && s.fbit .PORT_TEST_gen_en q
    let chk := !s0.fbit .PORT_TEST_chk_en q && s.fbit .PORT_TEST_chk_en q
    let s := if gen then s.fset .PORT_CHK_gen_sent q 0 else s
    let s := if chk then
        ((s.fset .PORT_CHK_chk_ok q 0).fset .PORT_CHK_chk_gap q 0).fset .PORT_CHK_chk_misorder q 0 |>.fset .PORT_CHK_chk_payload_err q 0
      else s
    let t := if gen then { t with seq := 0, sent := 0, nextAt := s.now } else t
    let t := if chk then { t with expect := none } else t
    linkJudge (s.setPort q { s.port q with test := t }) q
  | .LANE_TEST =>
    let s := if w.hit .LANE_TEST_latch then laneLatch s q else s
    let s := if w.hit .LANE_TEST_clear then laneClear s q else s
    if s0.fget .LANE_TEST_rx_pattern q != s.fget .LANE_TEST_rx_pattern q then s.fset .LANE_TEST_lock q 0 else s
  | _ => s

/-- The effects of the Separator page (R65, R66). -/
def afterSep (s0 s : State) (w : RegWrite) : State :=
  match w.r with
  | .PUNT_POLICER => setPunt s w.i (puntLevel s0 w.i)
  | .PUNT_AGG => setPunt s 256 (puntLevel s0 256)
  | .LB_KEY_CTL => if w.hit .LB_KEY_CTL_apply then s.fset .SEP_STATUS_lb_key_pending 0 1 else s
  | _ => s

/-- A pool of a new carve. -/
def carvePool (s : State) (k : Nat) : State :=
  let n := poolPerGranule k * s.fget (granFld k) 0
  let gone := (s.buffers.bufs.filter (fun e => e.1.1 == k && e.1.2 < n)).length
  ((s.fset .POOL_STATUS_buffers k n).fset .POOL_STATUS_free k (n - gone)).fset .POOL_STATUS_free_min k (n - gone)

/-- The effects of the buffer and egress pages (R3, R193, R214). -/
def afterBuf (s0 s : State) (w : RegWrite) : State :=
  match w.r with
  | .POOL_CARVE => (List.range 4).foldl carvePool s
  | .VAT_CFG =>
    let n := s.fget .VAT_CFG_vat_gib 0 * 16384
    ((s.fset .VAT_STATUS_segments 0 n).fset .VAT_STATUS_segments_free 0 n).fset .VAT_STATUS_free_min 0 n
  | .SCHED_Q => schedWrite s0 s (w.i / 16) (w.i % 16) .SCHED_Q w.i
  | .SCHED_PORT => schedWrite s0 s w.i 16 .SCHED_PORT w.i
  | _ => s

/-- An address is the lowest block's of its pair or quad (R121). -/
def addrLowest (s : State) (a : Nat) : Bool :=
  match s.fget .STR_BLOCK_CFG_mode (a / 32768) with
  | 1 => a / 32768 % 2 == 0
  | 2 => a / 32768 % 4 == 0
  | _ => true

/-- purge_start is written (R135); an address that names another block of a pair or quad than the lowest is refused in every
command (R121), shown in purge_refused (DESIGN CHOICE, log entry 33). -/
def purgeGo (s : State) : State :=
  let a := s.fget .STR_CTL_purge_addr 0
  if s.fbit .STR_CTL_purge_running 0 || !addrLowest s a then s.event .STR_CTL_purge_refused 0
  else { s with cellar := { s.cellar with purgeAt := some 0, purgeAddr := a } }.fset .STR_CTL_purge_running 0 1

/-- The Vat cut of the throttle stage, never above 16 - split_active (R333). -/
def vatCutShow (s : State) : State :=
  s.fset .HBM_SPLIT_thermal_vat_cut 0 (min ([0, 0, 0, 0, 2, 4].getD (s.fget .THERMAL_stage 0) 0) (16 - s.fget .HBM_SPLIT_split_active 0))

/-- The effects of the Strainer, churn, Cellar and HBM pages (R87, R90, R110, R135, R178). -/
def afterFlow (s0 s : State) (w : RegWrite) : State :=
  match w.r with
  | .NAT_POOL =>
    if s0.fget .NAT_POOL_base w.i != s.fget .NAT_POOL_base w.i || s0.fget .NAT_POOL_size w.i != s.fget .NAT_POOL_size w.i then
      setNat s w.i {}
    else s
  | .HBM_SPLIT => vatCutShow (s.fset .HBM_SPLIT_split_active 0 (s.fget .HBM_SPLIT_hbm_split 0))
  | .AGE_CTL =>
    if w.hit .AGE_CTL_sweep_now && !s.fbit .AGE_CTL_sweep_now 0 then sweepStart (s.fset .AGE_CTL_sweep_now 0 1) false else s
  | .STR_CTL => if w.hit .STR_CTL_purge_start then purgeGo s else s
  | .CELLAR_REKEY => if w.hit .CELLAR_REKEY_rekey_start then rekeyBegin s else s
  | _ => s

/-- The effects of the time unit page (R276 to R279). -/
def afterTime (s : State) (w : RegWrite) : State :=
  match w.r with
  | .TIME_CFG =>
    let s := s.fset .TIME_STATUS_ref_active 0 (s.fget .TIME_CFG_ref_sel 0)
    if s.fbit .TIME_CFG_pps_en 0 then s else { s with time := { s.time with ppsAt := none, ppsMissed := false } }
  | .TIME_RATE => rateShow s
  | .TIME_SLEW =>
    let r := signed (fldIn w.v .TIME_SLEW_offset_ns) 40 * 2 ^ 40
    rateShow ((setSlew s r).fset .TIME_STATUS_slew_active 0 (bit (r != 0)))
  | _ => s

/-- The effects of the Whey and Tally pages (R298, R302, R303, R309). -/
def afterWhey (s0 s : State) (w : RegWrite) : State :=
  match w.r with
  | .WHEY_CTL => if w.hit .WHEY_CTL_epoch_now then wheyClose s else s
  | .IPFIX_CFG => if !s0.fbit .IPFIX_CFG_en w.i && s.fbit .IPFIX_CFG_en w.i then sendTemplates s w.i else s
  | .QWM =>
    if s.fbit .QWM_en w.i then
      { s with egress := { s.egress with wmOff := tset false s.egress.wmOff (w.i / 16, w.i % 16) false } }
    else s
  | .TALLY_CTL =>
    if w.hit .TALLY_CTL_snap_now then snapRequest (s.fset .TALLY_CTL_snap_now 0 1) 1 else s
  | _ => s

/-- A ring is enabled: its indices are 0, its phase 1, and it starts; descriptors fetched before still run (R256). -/
def ringStart (s : State) (set k : Nat) : State :=
  let s := if k = 0 then cmdRelabel s set false else if k = 3 then injRelabel s set false else s
  (s.setRing set k {}).fset .RING_CTL_stopped (set * 8 + k) 0

/-- SET_CTL is written: a set that is enabled keeps its page until it is disabled (R255). -/
def setSwitch (s0 s : State) (set : Nat) : State :=
  let page (v : Option Nat) : State := { s with host := { s.host with pages := tset none s.host.pages (set, 0) v } }
  hostFlush (if s.fbit .SET_CTL_set_en set then page (some (setPage s0 set)) else page none)

/-- A ring is disabled: en reads 1 until it has quiesced, and completions not yet written are dropped (R256). -/
def ringEnd (s : State) (set k : Nat) : State :=
  let s := (s.fset .RING_CTL_en (set * 8 + k) 1).setRing set k { s.ring set k with quiescing := true }
  hostFlush s

/-- The effects of the global, host interface and ring-set pages (R256, R260, R373). -/
def afterHost (s0 s : State) (w : RegWrite) : State :=
  match w.r with
  | .SETUP_LOCK => if w.hit .SETUP_LOCK_lock then (s.fset .SETUP_LOCK_lock 0 1).fset .GLOBAL_STATUS_setup_locked 0 1 else s
  | .EVT_REARM => if evtCause s &&& s.fget .EVT_MASK_mask 0 ≠ 0 then setMessage s 0 31 else s
  | .RING_CTL =>
    let was := s0.fbit .RING_CTL_en w.i
    let en := s.fbit .RING_CTL_en w.i
    if en && !was then ringStart s (w.i / 8) (w.i % 8) else if was && !en then ringEnd s (w.i / 8) (w.i % 8) else s
  | .SET_CTL => setSwitch s0 s w.i
  | _ => s

/-- Everything an accepted write does. -/
def acceptWrite (s0 : State) (w : RegWrite) : State :=
  let s := applyFields s0 w
  evtUpdate (afterHost s0 (afterWhey s0 (afterTime (afterFlow s0 (afterBuf s0 (afterSep s0 (afterPort s0 s w) w) w) w) w) w) w)

/-- A TALLY_PROG word is staged with what is staged of its counter, or else with the settings in force (R307). -/
def tallyStage (s : State) (i v mask : Nat) : State :=
  let cur := (tget none s.telem.staged (i / 8, i % 8)).getD (regRaw s .TALLY_PROG i)
  let n := merged cur v mask
  if progOk (i / 8) (i % 8) n then
    { s with telem := { s.telem with staged := tset none s.telem.staged (i / 8, i % 8) (some n) } }
  else s.event .TALLY_CTL_arg_err 0

/-- A write reaches a register whole: SETUP_LOCK first, then the rules of its chapter (R373). -/
def regStore (s : State) (req : Requester) (r : Reg) (i off v mask : Nat) : State :=
  let w : RegWrite := ⟨r, i, merged (regRaw s r i) v mask, v &&& mask⟩
  if s.fbit .SETUP_LOCK_lock 0 && changesRwp s w then (lockLog s req off 0).event .GLOBAL_STATUS_lock_violation 0
  else match r with
    | .TIME_CTL => evtUpdate (timeCtlWrite s w.v)
    | .TRIG_CTL => trigCtlWrite s req i w.v
    | .TALLY_PROG => tallyStage s i v mask
    | _ => if regRefused s r i w.v mask then refuseWrite s r i else acceptWrite s w

/-! ### Accesses (R53, R370, R371) -/

/-- The key of what a requester has staged at a byte offset of a BAR. -/
def stageKey (req : Requester) (bar off : Nat) : Nat × Nat := (2 * bar + bit (req == .mgmt), off)

/-- The registers of an entry that takes effect with its highest word (R53, R125, R229). -/
def Reg.whole (r : Reg) : Bool := r == .SEL_ENTRY || r == .PROFILE || r == .STR_LKP || r == .NH_MEMBER

/-- The words of a register below its highest one, as a requester has staged them, else as they stand; they are consumed. -/
def gather (s : State) (req : Requester) (r : Reg) (i last : Nat) : Nat × State :=
  let bar := r.info.bar
  let cur := regRaw s r i
  let v := ((List.range last).map (fun k =>
    (tget none s.setup.words (stageKey req bar (regOffset r i k))).getD (bits cur (64 * k) 64) * 2 ^ (64 * k))).sum
  let t := (List.range last).foldl (fun t k => tset none t (stageKey req bar (regOffset r i k)) none) s.setup.words
  (v, { s with setup := { s.setup with words := t } })

/-- A write of one 64-bit word of a register, under a mask of the word's bits that it supplies. -/
def wordWrite (s : State) (req : Requester) (r : Reg) (i word off v mask : Nat) : State :=
  let last := r.info.bits / 64 - 1
  if r.whole then
    let key := stageKey req r.info.bar off
    let cur := (tget none s.setup.words key).getD (bits (regRaw s r i) (64 * word) 64)
    let n := merged cur v mask
    if word < last then { s with setup := { s.setup with words := tset none s.setup.words key (some n) } }
    else
      let (lo, s) := gather s req r i last
      regStore s req r i off (lo + n * 2 ^ (64 * last)) (2 ^ (64 * (last + 1)) - 1)
  else regStore s req r i off (v * 2 ^ (64 * word)) (mask * 2 ^ (64 * word))

/-- The page of a port whose number is unused under R29 ignores writes (R370). -/
def offPage (s : State) (r : Reg) (i : Nat) : Bool :=
  let b := r.info.base
  0xB0000 ≤ b && b < 0xC0000 && r.info.bar == 0 && !portExists s i

/-- A whole word of a register instance is written with one 8-byte access. -/
def reg8 (s : State) (req : Requester) (r : Reg) (i word v : Nat) : State :=
  let f := r.info
  if f.n1 * f.n2 ≤ i ∨ f.bits ≤ 64 * word ∨ offPage s r i then s
  else wordWrite s req r i word (regOffset r i word) v (2 ^ 64 - 1)

/-- An access of a size or an alignment that BAR0 does not take (R371). -/
def badAccess (s : State) (req : Requester) (off : Nat) : State := (lockLog s req off 1).event .GLOBAL_STATUS_bad_access 0

/-- Two, four or eight bytes of TENANT_MAP: each entry on its own (R61, R371). -/
def tenantWrite (s : State) (req : Requester) (off n v : Nat) : State :=
  (List.range n).foldl (fun s k => regStore s req .TENANT_MAP ((off - 0xD0000) / 2 + k) (off + 2 * k) (bits v (16 * k) 16) 0xFFFF) s

/-- A 4- or 8-byte write at an offset of BAR 0 or of BAR 2 as PF0 numbers its pages. -/
def busWrite (s : State) (req : Requester) (bar off size v : Nat) : State :=
  let base := off - off % 8
  match regAt bar base with
  | none => s
  | some (r, i, word) =>
    if offPage s r i || r.info.bits < 64 then s
    else if size = 8 then wordWrite s req r i word off v (2 ^ 64 - 1)
    else
      let key := stageKey req bar base
      if off % 8 = 0 then { s with setup := { s.setup with halves := tset none s.setup.halves key (some (v % 2 ^ 32)) } }
      else
        let lo := tget none s.setup.halves key
        let s := { s with setup := { s.setup with halves := tset none s.setup.halves key none } }
        match lo with
        | some l => wordWrite s req r i word base (l + v % 2 ^ 32 * 2 ^ 32) (2 ^ 64 - 1)
        | none => wordWrite s req r i word base (v % 2 ^ 32 * 2 ^ 32) (2 ^ 64 - 2 ^ 32)

/-! ### Doorbells (R257) -/

/-- A doorbell write. -/
def doorbell (s : State) (set k size v : Nat) : State :=
  if 64 ≤ set ∨ 8 ≤ k then s
  else if size ≠ 4 then s.count .dbPartial 0
  else if s.fbit .SET_CTL_set_en set = false ∨ s.fbit .RING_CTL_en (set * 8 + k) = false then s.count .dbDisabled set
  else
    let r := s.ring set k
    let n := ringSize s set k
    let producer := k == 0 || k == 2 || k == 3 || k == 6
    let step := (v + 2 ^ 32 - r.hostIdx) % 2 ^ 32
    let span := if producer then (v + 2 ^ 32 - r.devIdx) % 2 ^ 32 else (r.devIdx + 2 ^ 32 - v) % 2 ^ 32
    if step ≤ n ∧ span ≤ n then
      let s := s.setRing set k { r with hostIdx := v }
      if k = 1 ∨ k = 7 then hostFlush s else s
    else ringStop (s.count .dbErrCount set) set k .SET_ERR_db_err

/-- The set that a page of a function's BAR2 shows (R254, R255); where an enabled set has kept the page that another one would now
take, it is the enabled one (DESIGN CHOICE, log entry 52). -/
def pageSet (s : State) (fn page : Nat) : Option Nat :=
  if fn = 0 then (if page < 64 ∧ setOwner s page = 0 then some page else none)
  else
    let l := (List.range 64).filter (fun x => setOwner s x == fn && setPage s x == page)
    (l.find? (fun x => (tget none s.host.pages (x, 0)).isSome)).or l.head?

/-- A write to a ring-set page of BAR2. -/
def bar2Write (s : State) (fn off size v : Nat) : State :=
  match pageSet s fn (off / 4096) with
  | none => s
  | some set =>
    let o := off % 4096
    if o < 64 then
      if 4 ≤ o % 8 ∧ o % 8 + size ≤ 8 then s
      else doorbell s set (o / 8) (if o % 8 = 0 then size else 0) (v % 2 ^ 32)
    else if (size = 4 ∨ size = 8) ∧ o % size = 0 then busWrite s .host 2 (set * 4096 + o) size v
    else s

/-- A BAR0 access (R370, R371). A request larger than 8 bytes reaches the device as consecutive 8-byte accesses. -/
def bar0Write (s : State) (req : Requester) (off size v : Nat) : State :=
  let n := if 8 < size ∧ size % 8 = 0 then 8 else size
  let tenant := 0xD0000 ≤ off && off < 0xF0000
  if !(n == 8 || n == 4 || (n == 2 && tenant)) || off % n != 0 then badAccess s req off
  else if tenant then tenantWrite s req off (n / 2) v
  else busWrite s req 0 off n v

/-- REGISTER_WRITE (R8, R254, R370, R371). `bar` is 8 * function + BAR. -/
def execRegisterWrite (req : Requester) (bar offset size : Nat) (value : Word) (s : State) : Host.Outcome State Fault Refusal :=
  .next (
    if bar = 0 then (if offset < 2 ^ 24 then bar0Write s req offset size value.toNat else s)
    else if req = .host ∧ bar % 8 = 2 then bar2Write s (bar / 8) offset size value.toNat
    else s)

/-! ### Rows that are writes of one register -/

/-- OCTET_LAYOUT_WRITE (R30). -/
def execOctetLayoutWrite (req : Requester) (octet : Nat) (value : Word) (s : State) : Host.Outcome State Fault Refusal :=
  .next (reg8 s req .OCTET_LAYOUT octet 0 value.toNat)

/-- PORT_CFG_WRITE (R35, R47, R357). -/
def execPortCfgWrite (req : Requester) (port : Nat) (value : Word) (s : State) : Host.Outcome State Fault Refusal :=
  .next (reg8 s req .PORT_CFG port 0 value.toNat)

/-- PORT_ADMIN_DISABLE (R47): PORT_CFG is written with admin_en = 0 and its other fields as they stand. -/
def execPortAdminDisable (req : Requester) (port : Nat) (s : State) : Host.Outcome State Fault Refusal :=
  .next (reg8 s req .PORT_CFG port 0 (setBits (regRaw s .PORT_CFG port) 0 1 0))

/-- PORT_HOLD_WRITE (R391). -/
def execPortHoldWrite (req : Requester) (port : Nat) (value : Word) (s : State) : Host.Outcome State Fault Refusal :=
  .next (reg8 s req .PORT_HOLD port 0 value.toNat)

/-- SEL_ENTRY_WRITE (R53): the highest word. -/
def execSelEntryWrite (req : Requester) (entry : Nat) (value : Word) (s : State) : Host.Outcome State Fault Refusal :=
  .next (reg8 s req .SEL_ENTRY entry 7 value.toNat)

/-- PROFILE_WRITE (R53, R54): the highest word. -/
def execProfileWrite (req : Requester) (profile : Nat) (value : Word) (s : State) : Host.Outcome State Fault Refusal :=
  .next (reg8 s req .PROFILE profile 7 value.toNat)

/-- LB_KEY_APPLY (R65). -/
def execLbKeyApply (req : Requester) (s : State) : Host.Outcome State Fault Refusal :=
  .next (reg8 s req .LB_KEY_CTL 0 0 1)

/-- LB_KEY_SWITCH (R65): every slice switches to the staged key. -/
def execLbKeySwitch (s : State) : Host.Outcome State Fault Refusal :=
  .next (
    if s.fbit .SEP_STATUS_lb_key_pending 0 then
      { s with setup := { s.setup with kLb := (s.fget .LB_KEY_key 0, s.fget .LB_KEY_key 1) } }.fset .SEP_STATUS_lb_key_pending 0 0
    else s)

/-- INDIR_WRITE (R226). -/
def execIndirWrite (req : Requester) (table entry : Nat) (value : Word) (s : State) : Host.Outcome State Fault Refusal :=
  .next (if entry < 65536 then reg8 s req .INDIR (table * 65536 + entry) 0 value.toNat else s)

/-- POOL_CARVE_WRITE (R193). -/
def execPoolCarveWrite (req : Requester) (value : Word) (s : State) : Host.Outcome State Fault Refusal :=
  .next (reg8 s req .POOL_CARVE 0 0 value.toNat)

/-- POOL_QUOTA_WRITE (R196). -/
def execPoolQuotaWrite (req : Requester) (requester pool : Nat) (value : Word) (s : State) : Host.Outcome State Fault Refusal :=
  .next (if pool < 4 then reg8 s req .POOL_QUOTA (requester * 4 + pool) 0 value.toNat else s)

/-- VAT_CFG_WRITE (R3). -/
def execVatCfgWrite (req : Requester) (value : Word) (s : State) : Host.Outcome State Fault Refusal :=
  .next (reg8 s req .VAT_CFG 0 0 value.toNat)

/-- STR_BLOCK_CFG_WRITE (R120). -/
def execStrBlockCfgWrite (req : Requester) (value : Word) (s : State) : Host.Outcome State Fault Refusal :=
  .next (reg8 s req .STR_BLOCK_CFG 0 0 value.toNat)

/-- STR_LKP_WRITE (R53, R125): the highest word. -/
def execStrLkpWrite (req : Requester) (profile : Nat) (value : Word) (s : State) : Host.Outcome State Fault Refusal :=
  .next (reg8 s req .STR_LKP profile 7 value.toNat)

/-- PURGE_START (R135): purge_addr and purge_start are written. -/
def execPurgeStart (req : Requester) (addr : Nat) (s : State) : Host.Outcome State Fault Refusal :=
  .next (reg8 s req .STR_CTL 0 0 (addr % 2 ^ 18 + 2 ^ 18))

/-- SWEEP_NOW (R87): sweep_now is written, with hint_min as it stands. -/
def execSweepNow (req : Requester) (s : State) : Host.Outcome State Fault Refusal :=
  .next (reg8 s req .AGE_CTL 0 0 (s.fget .AGE_CTL_hint_min 0 * 2 ^ 16 + 2 ^ 26))

/-- REKEY_START (R90). -/
def execRekeyStart (req : Requester) (s : State) : Host.Outcome State Fault Refusal :=
  .next (reg8 s req .CELLAR_REKEY 0 0 1)

/-- DOORBELL_WRITE (R257). -/
def execDoorbellWrite (set ring size : Nat) (value : BitVec 32) (s : State) : Host.Outcome State Fault Refusal :=
  .next (doorbell s set ring size value.toNat)

/-- EVT_REARM_WRITE (R260). -/
def execEvtRearmWrite (req : Requester) (value : Word) (s : State) : Host.Outcome State Fault Refusal :=
  .next (reg8 s req .EVT_REARM 0 0 value.toNat)

/-- RING_ENABLE (R256): RING_CTL is written with en = 1. -/
def execRingEnable (set ring : Nat) (value : Word) (s : State) : Host.Outcome State Fault Refusal :=
  .next (if ring < 8 then reg8 s .host .RING_CTL (set * 8 + ring) 0 (setBits value.toNat 5 1 1) else s)

/-- RING_DISABLE (R256): RING_CTL is written with en = 0. -/
def execRingDisable (set ring : Nat) (value : Word) (s : State) : Host.Outcome State Fault Refusal :=
  .next (if ring < 8 then reg8 s .host .RING_CTL (set * 8 + ring) 0 (setBits value.toNat 5 1 0) else s)

/-- RSET_OWNER_WRITE (R255). -/
def execRsetOwnerWrite (req : Requester) (set : Nat) (value : Word) (s : State) : Host.Outcome State Fault Refusal :=
  .next (reg8 s req .RSET_OWNER set 0 value.toNat)

/-- TIME_RATE_WRITE (R277). -/
def execTimeRateWrite (req : Requester) (value : Word) (s : State) : Host.Outcome State Fault Refusal :=
  .next (reg8 s req .TIME_RATE 0 0 value.toNat)

/-- TIME_SLEW_WRITE (R278). -/
def execTimeSlewWrite (req : Requester) (value : Word) (s : State) : Host.Outcome State Fault Refusal :=
  .next (reg8 s req .TIME_SLEW 0 0 value.toNat)

/-- TIME_STEP (R279): step_go is written with step_at_pps. -/
def execTimeStep (req : Requester) (atPps : Bool) (s : State) : Host.Outcome State Fault Refusal :=
  .next (reg8 s req .TIME_CTL 0 0 (1 + 2 * bit atPps))

/-- REEPOCH (R280): reepoch is written, with step_at_pps as it stands. -/
def execReepoch (req : Requester) (s : State) : Host.Outcome State Fault Refusal :=
  .next (reg8 s req .TIME_CTL 0 0 (4 + 2 * s.fget .TIME_CTL_step_at_pps 0))

/-- REF_SELECT_WRITE (R276): a TIME_CFG write. -/
def execRefSelectWrite (req : Requester) (value : Word) (s : State) : Host.Outcome State Fault Refusal :=
  .next (reg8 s req .TIME_CFG 0 0 value.toNat)

/-- TRIGGER_ARM (R284): a TRIG_CTL write. -/
def execTriggerArm (req : Requester) (unit : Nat) (value : Word) (s : State) : Host.Outcome State Fault Refusal :=
  .next (reg8 s req .TRIG_CTL unit 0 value.toNat)

/-- WHEY_EPOCH_NOW (R302). -/
def execWheyEpochNow (req : Requester) (s : State) : Host.Outcome State Fault Refusal :=
  .next (reg8 s req .WHEY_CTL 0 0 1)

/-- IPFIX_ENABLE (R303): the first word of IPFIX_CFG. -/
def execIpfixEnable (req : Requester) (exporter : Nat) (value : Word) (s : State) : Host.Outcome State Fault Refusal :=
  .next (reg8 s req .IPFIX_CFG exporter 0 value.toNat)

/-- QWM_WRITE (R298). -/
def execQwmWrite (req : Requester) (port cls : Nat) (value : Word) (s : State) : Host.Outcome State Fault Refusal :=
  .next (if cls < 16 then reg8 s req .QWM (port * 16 + cls) 0 value.toNat else s)

/-- TALLY_SNAP_NOW (R309). -/
def execTallySnapNow (req : Requester) (s : State) : Host.Outcome State Fault Refusal :=
  .next (reg8 s req .TALLY_CTL 0 0 1)

/-- LANE_TEST_WRITE (R357): the first word of LANE_TEST. -/
def execLaneTestWrite (req : Requester) (octet lane : Nat) (value : Word) (s : State) : Host.Outcome State Fault Refusal :=
  .next (if lane < 8 then reg8 s req .LANE_TEST (octet * 8 + lane) 0 value.toNat else s)

/-- The first word of LANE_TEST with one more bit set. -/
def laneWord (s : State) (n b : Nat) : Nat := bits (regRaw s .LANE_TEST n) 0 10 + 2 ^ b

/-- LANE_TEST_LATCH (R359): the live counts, with what the checker has counted since the last row, are latched. -/
def execLaneTestLatch (req : Requester) (octet lane nbits errs : Nat) (s : State) : Host.Outcome State Fault Refusal :=
  .next (
    let n := octet * 8 + lane
    if lane < 8 ∧ octet < 32 then let s := laneAdd s n nbits errs; reg8 s req .LANE_TEST n 0 (laneWord s n 10) else s)

/-- LANE_TEST_CLEAR (R359). -/
def execLaneTestClear (req : Requester) (octet lane : Nat) (s : State) : Host.Outcome State Fault Refusal :=
  .next (
    let n := octet * 8 + lane
    if lane < 8 ∧ octet < 32 then reg8 s req .LANE_TEST n 0 (laneWord s n 11) else s)

/-- PORT_TEST_WRITE (R364). -/
def execPortTestWrite (req : Requester) (port : Nat) (value : Word) (s : State) : Host.Outcome State Fault Refusal :=
  .next (reg8 s req .PORT_TEST port 0 value.toNat)

/-- SETUP_LOCK_WRITE (R373). -/
def execSetupLockWrite (req : Requester) (value : Word) (s : State) : Host.Outcome State Fault Refusal :=
  .next (reg8 s req .SETUP_LOCK 0 0 value.toNat)

end Sys2Proof.Machine
end

