-- ==== Sys2Proof/Machine/HostRows.lean ====
section
/-! DEFINITION. The host interface's rows: fetching descriptors, injection, punts, status blocks, ring ends, Bus Master
Enable, SR-IOV, and the level C and function-level resets (R253 to R273, R367). -/

namespace Sys2Proof.Machine

/-! ### Fetching (R261, R265, R270) -/

/-- CPL slots of a set that are reserved: for work in the device, and for completions that wait (R265). -/
def cplReserved (s : State) (set : Nat) : Nat :=
  (s.host.work.filter (fun w => w.set == set && !w.lost)).length + (s.host.cpls.filter (fun c => c.set == set && c.entry.isSome)).length

/-- CPL slots free for reservation; a CPL ring that is off has none (R265). -/
def cplFree (s : State) (set : Nat) : Nat :=
  if ringOn s set 1 then
    ringSize s set 1 - ((s.ring set 1).devIdx + 2 ^ 32 - (s.ring set 1).hostIdx) % 2 ^ 32 - cplReserved s set
  else 0

/-- Descriptors that one group may fetch now (R265). -/
def fetchRoom (s : State) (set k : Nat) : Nat :=
  min 16 (min (((s.ring set k).hostIdx + 2 ^ 32 - (s.ring set k).devIdx) % 2 ^ 32) (cplFree s set))

/-- A host-to-device ring has read one descriptor: its index advances (R257, R258). -/
def ringRead (s : State) (set k : Nat) : State :=
  let r := s.ring set k
  sbMark (s.setRing set k { r with devIdx := (r.devIdx + 1) % 2 ^ 32 }) set

/-- The opcodes of R262. -/
def cmdListed (op : Nat) : Bool :=
  op ≤ 4 || op == 0x10 || op == 0x11 || op == 0x18 || op == 0x20 || (0x30 ≤ op && op ≤ 0x33)

/-- The commands marked PF0 (R262). -/
def cmdPf0 (op : Nat) : Bool := 0x10 ≤ op

/-- The commands whose data the device reads. -/
def cmdReads (op : Nat) : Bool := op == 1 || op == 2 || op == 0x10 || op == 0x30

/-- One CMD descriptor is fetched (R262, R265). A failed read of its data completes it with DMA_ERROR and stops the ring. -/
def fetchCmd (s : State) (set : Nat) (d : HostDesc) : State :=
  let i := (s.ring set 0).devIdx
  let v := d.desc.toNat
  let s := (ringRead s set 0).count .cmdFetched set
  let w : Work := { set := set, ring := 0, index := i, desc := v, data := d.data, stage := .fetched, lost := false, hash := 0, place := 0 }
  if !cmdListed (cmdOp v) || bits v 10 6 != 0 || bits v 60 4 != 0 then cmdComplete s w 1 0 0 0
  else if cmdReads (cmdOp v) && d.dataFailed && !(cmdPf0 (cmdOp v) && setLimited s set) then
    ringStop (cmdComplete s w 8 0 0 0) set 0 .SET_ERR_dma_err
  else { s with host := { s.host with work := s.host.work ++ [w] } }

/-- The fields of an INJ descriptor. -/
def injMode (v : Nat) : Nat := bits v 320 2
def injPort (v : Nat) : Nat := bits v 322 9
def injClass (v : Nat) : Nat := bits v 331 4
def injSlice (v : Nat) : Nat := bits v 335 4

/-- The fragment lengths of a descriptor, up to the first unused one. -/
def fragLens (v : Nat) : List Nat := ((List.range 4).map (fun f => bits v (256 + 16 * f) 16)).takeWhile (fun n => n != 0)

/-- The status with which an INJ descriptor is refused, or 0 (R270). -/
def injRefusal (s : State) (set v : Nat) : Nat :=
  let n := (fragLens v).sum
  let direct := injMode v == 0
  if 2 ≤ injMode v || bits v 343 41 != 0 || bits v 448 64 != 0 || n == 0 || n < 60 || 9724 < n ||
      (direct && (256 ≤ injPort v || !portExists s (injPort v))) then 1
  else if direct && s.fbit .RSET_OWNER_tenant_lock set then 6
  else 0

/-- The frame of an INJ descriptor as it is stored: its FCS appended (R270). It has no receive stamp, and a DIRECT frame no
ingress port: free values (log entry 6). -/
def injFrame (s : State) (v : Nat) (data : List Byte) : Frame × State :=
  let (r, s) := s.draw
  let (q, s) := s.draw
  let (e, s) := s.draw
  let bytes := data ++ fcsOf data
  ({ bytes := bytes, whole := true, received := false, len := bytes.length, ingClass := injClass v, slice := injSlice v,
     ingPort := if injMode v = 1 then 257 + injSlice v else q % 512, stamp := r, stampEpoch := e % 256 }, s)

/-- One INJ descriptor is fetched, with its fragments (R270): refused, or counted in inj_frames. -/
def fetchInj (s : State) (set : Nat) (d : HostDesc) : State :=
  let i := (s.ring set 3).devIdx
  let v := d.desc.toNat
  let w : Work := { set := set, ring := 3, index := i, desc := v, data := d.data, stage := .fetched, lost := false, hash := 0, place := 0 }
  let r := injRefusal s set v
  if r != 0 then
    let (f, s) := injFrame (ringRead s set 3) v d.data
    injComplete (dropSample s f 0x51 none) w r 0 0
  else if d.dataFailed then ringStop s set 3 .SET_ERR_dma_err
  else
    let s := (ringRead s set 3).count .injFrames set
    { s with host := { s.host with work := s.host.work ++ [w] } }

/-- The descriptors of a group, in ring order, until one stops the ring (R261). -/
def fetchAll (s : State) (set k : Nat) (l : List HostDesc) : State :=
  match l with
  | [] => s
  | d :: l =>
    if ringRuns s set k = false then s
    else if d.failed then ringStop s set k .SET_ERR_dma_err
    else fetchAll (if k = 0 then fetchCmd s set d else fetchInj s set d) set k l

/-- DESCRIPTOR_FETCH (R265): a group of CMD or INJ descriptors, as many as the ring and its reserved CPL slots allow. -/
def execDescriptorFetch (set ring : Nat) (descs : List HostDesc) (s : State) : Host.Outcome State Fault Refusal :=
  .next (
    if set < 64 ∧ (ring = 0 ∨ ring = 3) then fetchAll s set ring (descs.take (fetchRoom s set ring)) else s)

/-! ### Injection (R198, R269, R270) -/

/-- The INJ descriptor of a ring that goes next: injection follows ring order. -/
def injNext (s : State) (set : Nat) : Option Work :=
  s.host.work.find? (fun w => w.set == set && w.ring == 3 && w.stage == .fetched)

/-- An INJ frame passes checks 2 and 3 of R194 (R198). -/
def injRoom (s : State) (w : Work) : Bool :=
  let k := poolFor (w.data.length + 4)
  bufQuotaOk s 273 k && s.fget .POOL_STATUS_free k != 0

/-- An INJ frame takes its buffer as requester 273 and enters its queue or its recirculation port (R269). -/
def injEnter (s : State) (w : Work) : State :=
  let v := w.desc
  let s := { s with buffers := { s.buffers with injWait := s.buffers.injWait.filter (fun x => x.set != w.set) } }
  let (f, s) := injFrame s v w.data
  let id := s.nextFrame
  let k := poolFor (w.data.length + 4)
  if injMode v = 0 then
    let r : InjRef := { set := w.set, index := w.index, launchEn := bits v 339 1 == 1, stampReq := bits v 340 1 == 1,
                        oneStep := bits v 341 1 == 1, cplReq := bits v 342 1 == 1 }
    let launch := if bits v 339 1 = 1 then some (bits v 416 32, bits v 384 32) else none
    let s := s.newFrame { f with inj := some r, stage := .released, copies := 1, launch := launch }
    enqueue (bufTake (workSet s { w with stage := .frame }) id k 273 none) id .main (injPort v) (injClass v) launch
  else
    let s := bufTake (s.newFrame { f with stage := .recirc }) id k 273 none
    let l := tget [] s.recirc (f.slice, 0)
    injComplete { s with recirc := tset [] s.recirc (f.slice, 0) (l ++ [id]) } w 0 0 0

/-- An INJ descriptor of a mode at the head of its ring goes on, or waits for a buffer, counted once (R198). -/
def injGo (s : State) (set index mode : Nat) : State :=
  match injNext s set with
  | none => s
  | some w =>
    if w.index ≠ index ∨ injMode w.desc ≠ mode then s
    else if injRoom s w then injEnter s w
    else if s.buffers.injWait.any (fun x => x.set == set) then s
    else
      let s := s.count .injWait 0
      { s with buffers := { s.buffers with injWait := s.buffers.injWait ++ [⟨set, index⟩] } }

/-- INJ_DIRECT (R269). -/
def execInjDirect (set index : Nat) (s : State) : Host.Outcome State Fault Refusal := .next (injGo s set index 0)

/-- INJ_PROCESS (R269). -/
def execInjProcess (set index : Nat) (s : State) : Host.Outcome State Fault Refusal := .next (injGo s set index 1)

/-- INJ_BUFFER_RETRY (R198): the waiting descriptor at the head of a ring is tried again. -/
def execInjBufferRetry (set : Nat) (s : State) : Host.Outcome State Fault Refusal :=
  .next (
    match s.buffers.injWait.find? (fun x => x.set == set), injNext s set with
    | some x, some w => if w.index = x.index ∧ injRoom s w then injEnter s w else s
    | _, _ => s)

/-! ### Punts (R66, R268) -/

/-- The set of a punt (R268). -/
def puntSet (s : State) (p : Punt) : Nat :=
  routeSet s (s.fget .PUNT_DEST_set p.reason) (s.fbit .PUNT_DEST_tenant_route p.reason) (s.frame p.frame).tenant

/-- The first punt that can go on: its frame is whole, and its ring does not wait for Bus Master Enable (R261). -/
def puntNext (s : State) : Option Punt :=
  s.punts.find? (fun p => (s.frame p.frame).whole && !ringWaits s (puntSet s p) 2)

/-- The two policers of R66 in turn. -/
def puntPolice (s : State) (p : Punt) : Bool × State :=
  let one : Int := 1000000000
  if s.fget .PUNT_POLICER_rate_pps p.reason = 0 ∨ puntLevel s p.reason < one then (false, s.count .puntPoliced p.reason 1 (s.frame p.frame).ten)
  else
    let s := setPunt s p.reason (puntLevel s p.reason - one)
    if s.fget .PUNT_AGG_rate_pps 0 = 0 ∨ puntLevel s 256 < one then (false, s.count .puntAggDrop 0 1 (s.frame p.frame).ten)
    else (true, setPunt s 256 (puntLevel s 256 - one))

/-- The bytes of a punt: the frame as stored, or as edited for CPU_PORT, without its FCS. -/
def puntBytes (f : Frame) (p : Punt) : List Byte := p.edited.getD (bodyOf f.bytes)

/-- The fragments that a body fills: address and bytes of each. -/
def fragFill (addrs lens : List Nat) (b : List Byte) : List (Nat × List Byte) :=
  match addrs, lens with
  | a :: addrs, n :: lens => if b.isEmpty then [] else (a, b.take n) :: fragFill addrs lens (b.drop n)
  | _, _ => []

/-- The profile that a punt reports: the last one of the frame's pass. A pass that has selected none has no value in the
spec: a free one (R268, log entry 6). -/
def puntProf (s : State) (f : Frame) : Nat × State :=
  if f.selected then (f.prof, s) else ((s.draw).1 % 64, (s.draw).2)

/-- The descriptor that the device writes for a punt (R268). -/
def puntDesc (f : Frame) (p : Punt) (prof orig written frags : Nat) : Nat :=
  let str := match f.strAddr with | some a => a * 2 ^ 128 + 2 ^ 146 | none => 0
  written % 2 ^ 14 + (frags - 1) * 2 ^ 14 + p.reason * 2 ^ 16 + f.ingPort * 2 ^ 24 + f.tenant * 2 ^ 33 + f.pass * 2 ^ 45 +
    prof * 2 ^ 47 + f.ingClass * 2 ^ 53 + bit f.errored * 2 ^ 57 + bit (decide (written < orig)) * 2 ^ 58 +
    f.epochTag * 2 ^ 59 + f.stamp / 65536 % 2 ^ 32 * 2 ^ 64 + f.stampEpoch * 2 ^ 96 + orig % 2 ^ 14 * 2 ^ 104 + str

/-- A punt is written into a posted descriptor (R268). -/
def puntWrite (s : State) (set : Nat) (p : Punt) (d : Nat) : State :=
  let f := s.frame p.frame
  let b := puntBytes f p
  let l := fragFill ((List.range 4).map (fun i => bits d (64 * i) 64)) (fragLens d) b
  let n := (l.map (fun x => x.2.length)).sum
  let s := l.foldl (fun s x => s.emit (.hostWrite x.1 x.2)) s
  let (prof, s) := puntProf s f
  (ringWrite s set 2 (puntDesc f p prof b.length n (max 1 l.length))).count .puntDelivered set 1 f.ten

/-- PUNT_DELIVER (R66, R268): a punt is policed, then copied into the next posted descriptor of its ring set, here `desc`, or
dropped; its buffer reference is released. -/
def execPuntDeliver (desc : BitVec 512) (s : State) : Host.Outcome State Fault Refusal :=
  .next (
    match puntNext s with
    | none => s
    | some p =>
      let set := puntSet s p
      let s := { s with punts := s.punts.filter (fun x => !(x == p)) }
      let (ok, s) := if p.reason = 0x50 then (true, s) else puntPolice s p
      let sample (s : State) : State := dropSample s (s.frame p.frame) p.reason none
      let s :=
        if !ok then sample s
        else if ringDead s set 2 then sample (s.count .puntNoRing 0 1 (s.frame p.frame).ten)
        else if (s.ring set 2).hostIdx = (s.ring set 2).devIdx then sample (s.count .puntRingFull set 1 (s.frame p.frame).ten)
        else if (fragLens desc.toNat).isEmpty then
          ringStop (sample (s.count .puntRingFull set 1 (s.frame p.frame).ten)) set 2 .SET_ERR_dma_err
        else puntWrite s set p desc.toNat
      frameRelease1 s p.frame)

/-! ### Status blocks, messages and ring ends (R256, R258, R259, R261) -/

/-- STATUS_BLOCK_WRITE (R258): within 1 us of an index's advance. -/
def execStatusBlockWrite (set : Nat) (s : State) : Host.Outcome State Fault Refusal :=
  .next (
    if tget false s.host.sbDirty (set, 0) && s.fbit .SET_CTL_set_en set && tget false s.host.busMaster (setOwner s set, 0) then
      sbWrite s set
    else s)

/-- A ring that the device writes entries into. -/
def ringToHost (k : Nat) : Bool := k == 1 || k == 2 || k == 4 || k == 5 || k == 7

/-- IRQ_MOD_TIMER (R259). -/
def execIrqModTimer (set ring : Nat) (s : State) : Host.Outcome State Fault Refusal :=
  .next (
    match (s.ring set ring).oldest with
    | none => s
    | some t =>
      if ringToHost ring ∧ ringRuns s set ring ∧ s.fbit .RING_CTL_irq_en (set * 8 + ring) ∧
          t + 1000 * s.fget .RING_CTL_mod_time_us (set * 8 + ring) ≤ s.now then ringMessage s set ring
      else s)

/-- RING_QUIESCED (R256): en of a disabled ring reads 0. -/
def execRingQuiesced (set ring : Nat) (s : State) : Host.Outcome State Fault Refusal :=
  .next (
    if (s.ring set ring).quiescing then
      (s.setRing set ring { s.ring set ring with quiescing := false }).fset .RING_CTL_en (set * 8 + ring) 0
    else s)

/-- RING_DMA_ERROR (R261): a device read of host memory fails, and its ring stops. -/
def execRingDmaError (set ring : Nat) (s : State) : Host.Outcome State Fault Refusal :=
  .next (
    if (ring = 0 ∨ ring = 2 ∨ ring = 3 ∨ ring = 6) ∧ ringRuns s set ring then ringStop s set ring .SET_ERR_dma_err else s)

/-! ### Resets of the host interface (R255, R271, R272) -/

/-- A register instance returns to its reset value. -/
def regReset (s : State) (r : Reg) (i : Nat) : State :=
  r.table.foldl (fun s p => (List.range p.2.reps).foldl (fun s c =>
    s.fset p.1 (i * p.2.reps + c) (fldReset p.1 (i * p.2.reps + c))) s) s

/-- What becomes of a descriptor's work when its set is reset (R211, R271): a command not yet hashed is discarded, and an INJ
descriptor that waits for a buffer is lost with its ring. -/
def workGone (s : State) (w : Work) : Bool :=
  if w.ring = 0 then w.stage == .fetched else s.buffers.injWait.any (fun x => x.set == w.set && x.index == w.index)

/-- The work of a set when the set is reset (R271): what goes on loses its completion. -/
def workReset (s : State) (set : Nat) : State :=
  let mine := s.host.work.filter (fun w => w.set == set && workGone s w)
  let s := s.count .injLost 0 (mine.filter (fun w => w.ring == 3)).length
  let l := s.host.work.filter (fun w => !(w.set == set && workGone s w))
  let s := { s with host := { s.host with work := l },
                    buffers := { s.buffers with injWait := s.buffers.injWait.filter (fun x => x.set != set) } }
  injRelabel (cmdRelabel s set true) set true

/-- A lower half staged by the host on a set's page. -/
def setHalf (set : Nat) (k : Key) : Bool := k.1 == 4 && set * 4096 ≤ k.2 && k.2 < (set + 1) * 4096

/-- A ring set returns to its reset state (R255, R271). -/
def setReset (s : State) (set : Nat) : State :=
  let s := workReset s set
  let off := s.host.cpls.filter (fun c => c.set == set && c.entry.isSome)
  let s := s.count .ringOffDrop set off.length
  let s := { s with host := { s.host with cpls := s.host.cpls.filter (fun c => c.set != set), pages := tset none s.host.pages (set, 0) none } }
  let s := (List.range 8).foldl (fun s k =>
    (regReset (regReset s .RING_BASE (set * 8 + k)) .RING_CTL (set * 8 + k)).setRing set k {}) s
  let s := regReset (regReset (regReset s .SB_ADDR set) .SET_CTL set) .SET_ERR set
  let s := { s with host := { s.host with sbDirty := tset false s.host.sbDirty (set, 0) false },
                    setup := { s.setup with halves := s.setup.halves.filter (fun e => !setHalf set e.1) } }
  let s := match s.rind.mbx with
    | some m => if set = 0 ∧ m.internal = false then { s with rind := { s.rind with mbx := some { m with lost := true } } } else s
    | none => s
  evtUpdate (if set = 0 then { s with host := { s.host with rsps := [] } }.count .ringOffDrop 0 s.host.rsps.length else s)

/-- The sets that a function owns, set 0 being PF0's. -/
def fnSets (s : State) (fn : Nat) : List Nat := (List.range 64).filter (fun x => setOwner s x == fn)

/-- A VF's sets, its config space and its MSI-X table are reset (R271). -/
def vfReset (s : State) (fn : Nat) : State :=
  let s := (fnSets s fn).foldl setReset s
  { s with host := { s.host with busMaster := tset false s.host.busMaster (fn, 0) false,
                                 msixMask := s.host.msixMask.filter (fun e => e.1.1 ≠ fn),
                                 msixPend := s.host.msixPend.filter (fun e => e.1.1 ≠ fn) } }

/-- A level C reset (R271): config space, every ring set page, every MSI-X table, the DOE mailbox with what SPDM negotiated over it,
and what the host has staged in BAR0. -/
def levelC (s : State) : State :=
  let s := (List.range 64).foldl setReset s
  let mine : Key × Option Nat → Bool := fun e => e.1.1 % 2 == 1
  let s := { s with host := { s.host with busMaster := [], vfEnable := false, compliance := false, msixMask := [], msixPend := [] },
                    rind := { s.rind with spdmWait := [], spdmP384 := false },
                    setup := { s.setup with halves := s.setup.halves.filter mine, words := s.setup.words.filter mine } }
  let s := (s.fset .HIF_RESET_LOG_stamp 0 s.stamp32).fset .HIF_RESET_LOG_epoch 0 s.time.epoch
  s.event .HIF_STATUS_host_reset 0

/-- HOST_RESET (R271): PERST#, the loss of the link, or a hot reset. PERST# and DL_Down leave the link down. While a source of
wider reach is asserted, that reach applies (R321). -/
def execHostReset (cause : HostResetCause) (s : State) : Host.Outcome State Fault Refusal :=
  .next (
    let s := (if s.rind.sources.isEmpty then levelC s else s).fset .RESET_CAUSE_perst 0 1
    match cause with
    | .perst => { s with host := { s.host with perst := true, linkUp := false },
                         rind := { s.rind with clocks := s.rind.clocks.filter (fun c => c.1 ≠ 7) } }
    | .dlDown => { s with host := { s.host with linkUp := false } }
    | .hotReset => s)

/-- FUNCTION_LEVEL_RESET (R271). -/
def execFunctionLevelReset (fn : Nat) (s : State) : Host.Outcome State Fault Refusal :=
  .next (if fn = 0 then levelC s else if fn < 64 ∧ s.host.vfEnable then vfReset s fn else s)

/-- VF_ENABLE_CLEAR (R255): every VF-owned set is reset as by a function-level reset of its VF. -/
def execVfEnableClear (s : State) : Host.Outcome State Fault Refusal :=
  .next (
    if s.host.vfEnable then
      let s := ((List.range 64).filter (fun f => f != 0)).foldl vfReset s
      { s with host := { s.host with vfEnable := false } }
    else s)

/-- The device is in recovery mode (R326). -/
def inRecovery (s : State) : Bool := s.fget .RIND_STATUS_mode 0 == 2

/-- VF_ENABLE_SET (R255): the VF-owned sets return, disabled, to the VFs that RSET_OWNER names. In recovery mode PF0 alone is
present (R252). -/
def execVfEnableSet (s : State) : Host.Outcome State Fault Refusal :=
  .next (if inRecovery s then s else { s with host := { s.host with vfEnable := true } })

/-- PCIe is released and PERST# is not asserted: the link can train (R272, R321). -/
def pcieReady (s : State) : Bool := s.rind.pcieUp && !s.host.perst

/-- PERST_RELEASE (R272): the link trains and config space is accepted, once the Rind has released PCIe. -/
def execPerstRelease (s : State) : Host.Outcome State Fault Refusal :=
  .next (
    if s.host.perst then
      { s with host := { s.host with perst := false, linkUp := s.rind.pcieUp, compliance := false },
               rind := { s.rind with pcieFrom := s.now } }
    else s)

/-- PCIE_ENTER_COMPLIANCE (R367): no effect outside the host interface. -/
def execPcieEnterCompliance (s : State) : Host.Outcome State Fault Refusal :=
  .next (if pcieReady s then { s with host := { s.host with compliance := true, linkUp := false } } else s)

/-- BUS_MASTER_ENABLE_CHANGE (R261): a config write, which shows that the link is up. Completions that waited are written. -/
def execBusMasterEnableChange (fn : Nat) (enable : Bool) (s : State) : Host.Outcome State Fault Refusal :=
  .next (
    if pcieReady s ∧ fn < 64 ∧ (fn = 0 ∨ s.host.vfEnable) then
      let h := { s.host with busMaster := tset false s.host.busMaster (fn, 0) enable, linkUp := true, compliance := false }
      hostFlush { s with host := h }
    else s)

end Sys2Proof.Machine
end

