-- ==== Sys2Proof/Machine/Defaults.lean ====
section
/-! DEFINITION. The default tables of the active image, which Mladund writes at every start (R68, R137, R191, R211, R234, R315). -/

namespace Sys2Proof.Machine

/-- The bytes of the default tables of a slot's image. -/
def tableBytes (s : State) (slot : Nat) : List Byte :=
  match compOf (chunkBytes s slot 0) 5 with
  | some c => compBytes s slot c
  | none => []

/-- The mode of a block that an entry of so many image bytes needs (R122). -/
def modeOfImages (b : List Byte) : Nat := if b.length ≤ 64 then 0 else if b.length ≤ 128 then 1 else 2

/-- Addresses of a mode that hold no valid entry. -/
def freeAddrs (s : State) (mode : Nat) : List Nat :=
  ((List.range 8).filter (fun b => strMode s (32768 * b) == some mode)).flatMap (fun b =>
    ((List.range 32768).map (fun r => 32768 * b + r)).filter (fun a => match s.strEntry a with
      | some e => e.epoch == 0
      | none => true))

/-- The block modes, two bits a block. -/
def blockModes (s : State) : Nat := ((List.range 8).map (fun b => s.fget .STR_BLOCK_CFG_mode b * 4 ^ b)).sum

/-- The image's tables can be applied (R350 row 9): its block modes are the device's, and each mode has free addresses enough. -/
def tablesFit (s : State) (b : List Byte) : Bool :=
  let l := Config.strainerTables b
  Config.tableModes b == blockModes s &&
    (List.range 3).all (fun m => (l.filter (fun e => modeOfImages e == m)).length ≤ (freeAddrs s m).length)

/-- Entries of an image enter at free addresses of their modes, which the spec does not name: a free choice (log entry 36). -/
def tablesEnter (s : State) (l : List (List Byte)) (epoch : Nat) : State :=
  match l with
  | [] => s
  | e :: l =>
    let m := modeOfImages e
    let a := freeAddrs s m
    let (r, s) := s.draw
    let s := match a[r % a.length]? with
      | some x => setEntry s x { strEntryOf e m with epoch := epoch }
      | none => s
    tablesEnter s l epoch

/-- The block modes of an image's tables, which are written while nothing is searched. -/
def modesLoad (s : State) (modes : Nat) : State :=
  (List.range 8).foldl (fun s b => s.fset .STR_BLOCK_CFG_mode b (bits modes (2 * b) 2)) s

/-- The register words of an image's default contents, of the BAR0 offsets that a test picks, as Mladund writes them. -/
def wordsLoad (s : State) (b : List Byte) (pick : Nat → Bool) : State :=
  ((Config.defaultContents b).filter (fun e => pick e.1)).foldl (fun s e => bar0Write s .mgmt e.1 8 e.2) s

/-- At a start, before the slices and the lane octets are released, Mladund writes the default contents of the active image: the
Strainer's modes, entries and actions, and the words of every other table and register that the chapters name (R68, R137, R191,
R211, R234, R315). What the image holds is free (log entry 36). -/
def loadDefaults (s : State) : State :=
  let b := tableBytes s (activeSlot s)
  tablesEnter (wordsLoad (modesLoad s (Config.tableModes b)) b (fun _ => true)) (Config.strainerTables b) 3

/-- A BAR0 offset lies on the Whey page or the Tally page (R375). -/
def onTelemPage (off : Nat) : Bool := decide (0x60000 ≤ off ∧ off < 0xA0000)

/-- The telemetry domain comes on: Mladund reloads the settings it lost (R315, R331). -/
def reloadTelem (s : State) : State := wordsLoad s (tableBytes s (activeSlot s)) onTelemPage

end Sys2Proof.Machine
end

