-- ==== Sys2Proof/Machine/Rind.lean ====
section
/-! DEFINITION. Resets and power domains: the four reset levels, what each clears, the level D reset and the power-off of
every domain (R49, R68, R94, R119, R137, R164, R211, R291, R315, R319 to R336, R369). -/

namespace Sys2Proof.Machine

/-! ### Fuses (R324) -/

/-- A fuse field, or its default when it is unprogrammed. -/
def fuseOr (v d : Nat) : Nat := if v = 0 then d else v

/-- The throttle bounds and the default throttle point in degrees. -/
def thrMin (s : State) : Nat := min 103 (90 + s.rind.fuses.thrMin)
def thrMax (s : State) : Nat := if s.rind.fuses.thrMax = 0 then 103 else min 103 (90 + s.rind.fuses.thrMax)
def thrDefault (s : State) : Nat :=
  max (thrMin s) (min (thrMax s) (if s.rind.fuses.thrDefault = 0 then 98 else min 103 (90 + s.rind.fuses.thrDefault)))

/-- The start window in ns. -/
def startWindowNs (s : State) : Nat := if s.rind.fuses.startWindow = 0 then 4000000000 else s.rind.fuses.startWindow * 500000000

/-- The fuse fields are sensed (R324). -/
def fuseSense (s : State) : State :=
  let s := s.fset .START_STATUS_fail_threshold 0 (fuseOr s.rind.fuses.failThreshold 3)
  let s := s.fset .RIND_STATUS_wdog_ms 0 (250 * fuseOr s.rind.fuses.wdog 4)
  s.fset .THERMAL_throttle_point 0 (thrDefault s)

/-! ### Levels A and B (R319 to R321, R336, R354, R355) -/

/-- A boot record write that a reset cuts leaves the old record or the new one in force (R341, R354): a free choice. -/
def bootCut (s : State) : State :=
  match s.images.writing with
  | none => s
  | some (r, _) =>
    let (d, s) := s.draw
    if d % 2 = 0 then bootPut s r
    else if bootCopy s = 0 then { s with images := { s.images with boot0 := none } }
    else { s with images := { s.images with boot1 := none } }

/-- What the flash keeps across every reset: marked chunks, slot states, boot records and the nonce log (R340, R355). -/
def flashKept (s : State) : Images :=
  let im := State.reset.images
  { im with chunks := s.images.chunks.filter (fun e => (marksOf s e.1.1).contains e.1.2), marks := s.images.marks,
            digest := s.images.digest, verified := s.images.verified, boot0 := s.images.boot0, boot1 := s.images.boot1,
            nonces := s.images.nonces }

/-- The fields that the flash's owner state gives back (R340, R355). -/
def ownerFlds : List Nat := [Fld.UPD_STATUS_owner_lock.ctorIdx, Fld.UPD_STATUS_update_group.ctorIdx]

/-- The fields that a level B reset keeps (R319). -/
def stickyFlds : List Nat :=
  Reg.RESET_CAUSE.flds.map (fun f => f.ctorIdx) ++
    [Fld.START_STATUS_failed_count.ctorIdx, Fld.START_STATUS_recovery.ctorIdx, Fld.START_STATUS_last_fail.ctorIdx,
     Fld.START_STATUS_fail_step.ctorIdx, Fld.RIND_STATUS_wdog_stage1.ctorIdx]

/-- The reset state with what no reset clears: elapsed time, waiting commands, draws, what has left, the flash, the fuses and
the levels at the pins, the TAP's instruction among them. `keep` names the register fields that stay. -/
def resetKeep (s0 : State) (keep : List Nat) : State :=
  let s := bootCut s0
  let z := State.reset
  let r := { z.rind with fuses := s.rind.fuses, otp := s.rind.otp, sources := [], hizBall := s.rind.hizBall, tripLow := s.rind.tripLow,
                         marginPin := s.rind.marginPin, railLow := s.rind.railLow, sealedKey := s.rind.sealedKey }
  let n := { z with
    pending := s.pending, now := s.now, draws := s.draws, out := s.out,
    reg := s.reg.filter (fun e => keep.contains e.1.1 || ownerFlds.contains e.1.1),
    fabric := { z.fabric with epoch := s.fabric.epoch },
    host := { z.host with perst := s.host.perst },
    rind := r, images := flashKept s, setup := { z.setup with rstLow := s.setup.rstLow, tap := s.setup.tap } }
  let m := if n.rind.marginPin || n.rind.railLow then n.fset .RAIL_margin_low 0 1 else n
  updShow (fuseSense (m.fset .RIND_STATUS_mode 0 3))

/-- A level A reset: everything but fuses, OTP and flash (R319). -/
def resetA (s : State) : State := resetKeep s []

/-- A level B reset: the Rind's sticky state stays as well (R319), and so does the TAP, which has its own reset (R368). -/
def resetB (s : State) : State :=
  let n := resetKeep s stickyFlds
  { n with rind := { n.rind with history := s.rind.history, compatHiz := s.rind.compatHiz },
           images := { n.images with revert := s.images.revert },
           setup := { n.setup with tap := s.setup.tap } }

/-- The sources of level A. -/
def srcCold (r : ResetSource) : Bool := r == .powerOn || r == .brownout || r == .thermTrip || r == .critA

/-- The cause bit of a source (R319, R320). -/
def srcCause (r : ResetSource) : Fld :=
  match r with
  | .powerOn => .RESET_CAUSE_por
  | .brownout => .RESET_CAUSE_brownout
  | .thermTrip => .RESET_CAUSE_therm_trip
  | .critA => .RESET_CAUSE_crit_a
  | .rstN => .RESET_CAUSE_rst_pin
  | .watchdog => .RESET_CAUSE_wdog
  | .hostFull => .RESET_CAUSE_host_full
  | .failedStart => .RESET_CAUSE_failed_start
  | .updateAct => .RESET_CAUSE_update_act
  | .critB => .RESET_CAUSE_crit_b
  | .perst => .RESET_CAUSE_perst

/-- A level A or B source asserts (R319 to R321): the widest reach applies, every asserted source's cause bit is set, and the
sequencer holds. -/
def assertSource (s : State) (r : ResetSource) : State :=
  let l := if s.rind.sources.contains r then s.rind.sources else s.rind.sources ++ [r]
  let n := if srcCold r then resetA s else resetB s
  let n := { n with rind := { n.rind with sources := l } }
  let n := l.foldl (fun n x => n.fset (srcCause x) 0 1) n
  if n.host.perst then n.fset .RESET_CAUSE_perst 0 1 else n

/-! ### Counters of a block (R315) -/

/-- No slot of a group is counted ahead. -/
def aheadClear (s : State) (g : Nat) : State :=
  { s with telem := { s.telem with ahead := s.telem.ahead.filter (fun e => e.1.1 ≠ g) } }

/-- The counters of a group restart at 0. -/
def groupClear (s : State) (g : Nat) : State :=
  let cs := groupCtrs g
  aheadClear { s with ctr := s.ctr.filter (fun e => !cs.any (fun c => c.ctorIdx == e.1.1 && (c.place e.1.2).1 == g)),
                      prog := s.prog.filter (fun e => e.1.1 ≠ g) } g

/-! ### Lane octets (R49, R369) -/

/-- The status fields of a port that read 0 after its octet's reset; the hold that then runs still shows (log entry 37). -/
def portCleared : List Fld :=
  [.PORT_STATUS_an_done, .PORT_STATUS_lt_done, .PORT_STATUS_align_lock, .PORT_STATUS_local_fault, .PORT_STATUS_remote_fault,
   .PORT_STATUS_fec_degraded, .PORT_STATUS_down_event, .PORT_STATUS_up_event, .PORT_STATUS_degrade_event, .PORT_STATUS_arg_err,
   .PORT_CHK_gen_sent, .PORT_CHK_chk_ok, .PORT_CHK_chk_gap, .PORT_CHK_chk_misorder, .PORT_CHK_chk_payload_err]

/-- A port of an octet under reset: declared down with its hold running, or flushed at once when its domain goes off. -/
def portReset (s : State) (off : Bool) (q : Nat) : State :=
  let s := if off then adminOff s q else if portUp s q then declareDown s q false else s
  let s := portCleared.foldl (fun s f => s.fset f q 0) s
  let p := s.port q
  s.setPort q { p with upFrom := none, downFrom := none, barred := p.barred || off, rx := none, rxLen := 0, rxBad := false, rxHead := [], fecCount := 0,
                       fecFrom := s.now, test := { nextAt := s.now } }

/-- A frame in the staging FIFO of an octet under reset: one that has not left for its slice is lost, one in reception that
has is discarded. -/
def stagedLost (s : State) (e : Staged) : State :=
  if !hasLeft s e.frame then s.delFrame e.frame
  else if (s.frame? e.frame).isSome ∧ (s.frame e.frame).whole = false then discard s e.frame
  else s

/-- The egress side of a port after its octet's reset: full buckets, no deficits, and a gate cycle that waits for its next trigger
(R234). -/
def egressReset (s : State) (q : Nat) : State :=
  let mine (e : Key) : Bool := e.1 == q
  { s with egress := { s.egress with shapers := s.egress.shapers.filter (fun e => !mine e.1),
                                     deficit := s.egress.deficit.filter (fun e => !mine e.1),
                                     gates := s.egress.gates.filter (fun e => !mine e.1) } }

/-- The reset of a lane octet. -/
def octetReset (s : State) (off : Bool) (o : Nat) : State :=
  let lost := stagingOf s o
  let s := ((List.range 8).map (fun i => 8 * o + i)).foldl (fun s q => if portExists s q then egressReset (portReset s off q) q else s) s
  let s := s.fset .OCTET_STATUS_arg_err o 0
  let s := lost.foldl stagedLost (setStaging s o [])
  let s := ((List.range 8).map (fun i => 8 * o + i)).foldl (fun s n =>
    laneClear ((((s.fset .LANE_TEST_lock n 0).fset .LANE_TEST_err_cnt n 0).fset .LANE_TEST_bit_cnt n 0).fset .LANE_TEST_lock_loss n 0) n) s
  evtUpdate (groupClear s o)

/-! ### Slices, clusters, Skim banks, Strainer blocks (R68, R119, R137, R164) -/

/-- The reset of a slice: its counters restart, and no open slot of it is left. -/
def sliceReset (s : State) (i : Nat) : State :=
  let s := groupClear s (32 + i)
  { s with frames := s.frames.map (fun e => (e.1, { e.2 with slots := e.2.slots.filter (fun x => x ≠ i) })) }

/-- The reset of a cluster: its tasks go to their replay levels and its stores are reloaded. -/
def clusterReset (s : State) (c : Nat) : State :=
  let s := groupClear (emptyCluster s c) (48 + c)
  { s with churn := { s.churn with reloading := c :: s.churn.reloading.filter (fun x => x ≠ c) } }

/-- A Skim bank stops taking lookups, to be flushed (R119). -/
def bankHold (s : State) (b : Nat) : State :=
  s.fset .SKIM_STATUS_bank_held 0 (s.fget .SKIM_STATUS_bank_held 0 ||| 2 ^ b)

/-- A Skim bank's ways, bypass entries and write-back queue are written back, and it is empty (R119). -/
def bankFlush (s : State) (b : Nat) : State :=
  let ways := s.skim.ways.filterMap (fun e => if e.1.1 / 8192 = b then e.2 else none)
  let bypass := s.skim.misses.filterMap (fun e => if e.1.1 = b then e.2.bind (fun m => m.buffer) else none)
  let s := (wbQueue s b).foldl writeRecord s
  let s := ways.foldl (fun s w => if w.dirty then writeRecord s ⟨w.recNo, w.words⟩ else s) s
  let s := bypass.foldl (fun s x => if x.2.2 then writeRecord s ⟨x.1, x.2.1⟩ else s) s
  let k := { s.skim with ways := s.skim.ways.filter (fun e => e.1.1 / 8192 ≠ b), wb := tset [] s.skim.wb (b, 0) [],
                         urgent := tset false s.skim.urgent (b, 0) false, misses := s.skim.misses.filter (fun e => e.1.1 ≠ b),
                         searches := tset [] s.skim.searches (b, 0) [] }
  groupClear { s with skim := k } (112 + b)

/-- A bank's domain goes off after the same flush (R119). -/
def bankOff (s : State) (b : Nat) : State :=
  let s := bankFlush s b
  s.fset .SKIM_STATUS_bank_held 0 (setBits (s.fget .SKIM_STATUS_bank_held 0) b 1 0)

/-- A bank can be flushed: no lookup waits in it but those that run in bypass. -/
def bankIdleNow (s : State) (b : Nat) : Bool :=
  s.skim.misses.all (fun e => e.1.1 != b || (match e.2 with
    | some m => m.stage == .bypass && m.waiting.isEmpty
    | none => true))

/-- The match array of a Strainer block is reloaded from its shadows (R137). -/
def blockReload (s : State) (b : Nat) : State :=
  let f : Key → Option StrEntry → Option StrEntry := fun k v =>
    if k.1 / 32768 = b then v.map (fun e => { e with data := e.shadowData, care := e.shadowCare }) else v
  { s with strainer := tmap none f s.strainer }

/-- A Strainer block loses its entries and shadows (R137). -/
def blockLose (s : State) (b : Nat) : State := poisonCount { s with strainer := s.strainer.filter (fun e => e.1.1 / 32768 ≠ b) }

/-! ### HBM controllers and the packet buffer (R94, R211) -/

/-- A task as the records go: a removal and the rebuild of a bucket are over, one past COMMIT goes on without its record, any other
returns to the lookup (R94, R85). -/
def loseRecordOf (s : State) (e : Nat × Task) : State :=
  match e.2.kind with
  | .teardown _ => returnTask s e.1 e.2
  | .rebuild _ => s.setTask e.1 none
  | _ => if e.2.recNo.isSome then loseTask s e.1 e.2 else s

/-- Every instance of a register field takes its reset value. -/
def fldClear (s : State) (f : Fld) : State := { s with reg := s.reg.filter (fun e => e.1.1 ≠ f.ctorIdx) }

/-- The whole Cellar is emptied (R94): no slot, record or mark is left, nor a bucket to rebuild. -/
def cellarEmpty (s : State) : State :=
  let ns := s.cellar.recs.map (fun e => e.1.1)
  let s := { s with cellar := { s.cellar with slots := [], stash := [], recs := [], poisoned := [], hints := [] } }
  let s := fldClear (fldClear s .AGE_CTL_age_epoch) .CELLAR_STATUS_stash_used
  let s := fldClear (fldClear s .CELLAR_STATUS_records_used) .TENANT_QUOTA_used
  settle ((taskList s).foldl loseRecordOf (ns.foldl (fun s n => orphan (dropCopies s n) n) s))

/-- A queue's Vat part is discarded under steps 3b and 4 of R45 (R211). -/
def vatLose (s : State) (k : Key) : State :=
  let v := s.queue k.1 k.2
  let gone := v.entries.filter Copy.inVat
  if gone.isEmpty then s
  else flushEntries (putQueue (if k.1 < 256 then flushMark s k.1 else s) k.1 k.2 (v.without Copy.inVat)) gone k.1 k.2

/-- The Vat is empty. -/
def vatEmpty (s : State) : State := (s.egress.queues.map (fun e => e.1)).foldl vatLose s

/-- Every buffer is freed under its frames: which frames these are, and no frame names a buffer any more (R211). -/
def buffersGone (s : State) : List Nat × State :=
  ((s.frames.filter (fun e => e.2.buf.isSome)).map (fun e => e.1.1),
   { s with frames := s.frames.map (fun e => (e.1, { e.2 with buf := none, charged := false })),
            buffers := { s.buffers with bufs := s.buffers.bufs.filter (fun e => (e.2.map (fun b => b.retired)).getD false), count := [] } })

/-- A frame whose buffer has gone is discarded. -/
def bufferLost (s : State) (id : Nat) : State := if (s.frame? id).isSome then discard s id else s

/-- A stream loses the frames it held, and is UNSYNCED (R251). -/
def streamLost (s : State) (k : Key) : State :=
  let n := (tget {} s.fabric.streams k).held.length
  let s := if n = 0 then s else s.count .reseqLost k.1 n
  let lose : Key → Stream → Stream := fun i v => if i = k then { v with mode := .unsynced, held := [], lateRun := 0 } else v
  { s with fabric := { s.fabric with streams := tmap {} lose s.fabric.streams } }

/-- Every stream loses its frames. -/
def streamsLost (s : State) : State := heldShow ((s.fabric.streams.map (fun e => e.1)).foldl streamLost s)

/-- Every queue is flushed under steps 3b and 4 of R45 (R211). -/
def queuesFlush (s : State) : State :=
  flushPort ((List.range 256).foldl (fun s q => if portExists s q then flushStart s q else s) s) 256

/-- Every buffer is freed, every queue flushed, every ingress count cleared; paused priorities are resumed with timer-0 PFC frames,
which go out once the flush is over (R211, R392). Retired buffers stay retired, and the streams lose what they held (R251). -/
def buffersEmpty (s : State) : State :=
  let r := buffersGone s
  let s := (s.buffers.paused.map (fun e => e.1)).foldl (fun s k => pfcOwe (setPaused s k.1 k.2 false) k.1 0 (2 ^ k.2)) r.2
  let s := r.1.foldl bufferLost (queuesFlush (streamsLost s))
  let s := (List.range 4).foldl (fun s k =>
    s.fset .POOL_STATUS_free k (s.fget .POOL_STATUS_buffers k - (s.buffers.bufs.filter (fun e => e.1.1 == k)).length)) s
  fldClear s .POOL_QUOTA_used

/-! ### Telemetry and the management complex (R315, R355) -/

/-- The reset of the telemetry and Tally domain. -/
def telemReset (s : State) : State :=
  let s := s.count .wheyResetLost 0 s.whey.length
  let page := if s.telem.snap.isSome then { s.telem.page with pageSeq := (s.telem.page.pageSeq + 1) % 2 ^ 32 } else s.telem.page
  let ex := s.telem.exporters.map (fun e => (e.1, { e.2 with recs := [] }))
  let s := { s with whey := [], telem := { s.telem with snap := none, closed := none, asked := none, page := page, exporters := ex } }
  ((s.fset .WHEY_STATUS_queue_fill 0 0).fset .TALLY_CTL_snap_busy 0 0).fset .TALLY_CTL_snap_pending 0 0

/-- The registers of the Whey and Tally pages. -/
def telemRegs : List Reg :=
  [.WHEY_CFG, .WHEY_STATUS, .WHEY_CTL, .WHEY_ROUTE, .IPFIX_CFG, .DROP_SAMPLE_CFG, .WHEY_VIEW, .QWM, .TALLY_CTL, .TALLY_GROUP,
   .TALLY_SETCFG, .TALLY_PROG]

/-- Every programmable counter is lost. -/
def progLose (s : State) : State := { s with prog := [] }

/-- The telemetry and Tally domain is switched off: its registers, its queue and its counters are lost (R331). -/
def telemLose (s : State) : State :=
  let z := State.reset.telem
  let t := progLose (regsReset s telemRegs [])
  groupClear { t with whey := [], telem := { z with ahead := s.telem.ahead } } 393

/-- The reset of the management complex: what it has staged is discarded, and its watchdog runs anew. -/
def mgmtReset (s : State) : State :=
  let mine : Key × Option Nat → Bool := fun e => e.1.1 % 2 == 0
  { s with setup := { s.setup with halves := s.setup.halves.filter mine, words := s.setup.words.filter mine },
           rind := { s.rind with kickAt := s.now } }

/-! ### Level D (R330, R331) -/

/-- A domain's bit of PD_HELD. -/
def setHeld (s : State) (pd : Nat) (b : Bool) : State := s.fset .PD_HELD_held pd (bit b)

/-- A domain that opens again only with a row of its own: slices, clusters, Strainer blocks and the management complex. -/
def pdWaits (pd : Nat) : Bool := (32 ≤ pd && pd < 112) || (128 ≤ pd && pd < 136) || pd == 157

/-- What a level D reset does to a domain's block, whose counters restart (R315), or a switch-off. The time unit behaves as after a
level D reset when it is switched on again (R291). -/
def blockReset (s : State) (off : Bool) (pd : Nat) : State :=
  if pd < 32 then octetReset s off pd
  else if pd < 48 then sliceReset s (pd - 32)
  else if pd < 112 then clusterReset s (pd - 48)
  else if pd < 128 then (if off then bankOff s (pd - 112) else bankHold s (pd - 112))
  else if pd < 136 then groupClear (if off then blockLose s (pd - 128) else s) 128
  else if pd < 140 then groupClear (vatEmpty (cellarEmpty s)) 130
  else if pd < 156 then groupClear (buffersEmpty s) 131
  else if pd = 157 then mgmtReset s
  else if pd = 158 then (if off then s else groupClear (timeReset s) 392)
  else if pd = 159 then (if off then telemLose s else telemReset s)
  else s

/-- A level D reset: the block is held until its own row opens it again, or opens at once (R330). -/
def domainReset (s : State) (pd : Nat) : State :=
  let s := { s with rind := { s.rind with restored := s.rind.restored.filter (fun x => x ≠ pd) } }
  blockReset (setHeld s pd (pdWaits pd || s.rind.holds.contains pd)) false pd

/-- A row that ends a domain's reset opens it, unless DOMAIN_HOLD holds it, whose release then does (R318). -/
def domainOpen (s : State) (pd : Nat) : State :=
  if s.rind.holds.contains pd then { s with rind := { s.rind with restored := pd :: s.rind.restored.filter (fun x => x ≠ pd) } }
  else setHeld s pd false

/-- A domain is switched off (R331): its block's state is lost. A domain under DOMAIN_HOLD stays held (R330). -/
def domainOff (s : State) (pd : Nat) : State :=
  (setHeld (blockReset (s.fset .PD_STATE_on pd 0) true pd) pd (s.rind.holds.contains pd)).event .RIND_EVT_pd_event 0

/-- A domain is switched on, which applies a level D reset to its block (R331). -/
def domainOn (s : State) (pd : Nat) : State :=
  let s := domainReset (s.fset .PD_STATE_on pd 1) pd
  (if pd = 159 then reloadTelem s else s).event .RIND_EVT_pd_event 0

/-- Every slice is held in reset or off. -/
def slicesDown (s : State) : Bool := (List.range 16).all (fun i => !s.runs (pdSlice i))

/-- RESET_DOMAIN and DOMAIN_HOLD are accepted for a domain (R330). -/
def resetAllowed (s : State) (pd : Nat) : Bool := if 136 ≤ pd ∧ pd < 156 then slicesDown s else pd != 156

/-- The step of the release order that brings a domain on (R322, R330; log entry 38). -/
def pdStep (pd : Nat) : Nat :=
  if pd < 32 then 10 else if pd < 48 then 8 else if pd < 112 then 9 else if pd < 136 then 6 else if pd < 140 then 5
  else if pd < 156 then 6 else if pd = 156 then 7 else if pd = 157 then 3 else 6

/-- A domain has not had its step in this start. -/
def awaitsStep (s : State) (pd : Nat) : Bool :=
  if pd = 156 then !s.rind.pcieUp else decide (s.fget .START_STATUS_step_reached 0 < pdStep pd)

/-- A domain is off, and no step of this start brings it on. -/
def staysOff (s : State) (pd : Nat) : Bool := !s.fbit .PD_STATE_on pd && (!awaitsStep s pd || s.rind.offs.contains pd)

/-- POWER_SET off is accepted for a domain (R330). -/
def offAllowed (s : State) (pd : Nat) : Bool :=
  if pd < 32 then true
  else if pd < 48 then staysOff s (2 * (pd - 32)) && staysOff s (2 * (pd - 32) + 1)
  else if pd < 112 then ((List.range 64).filter (fun c => c + 48 != pd && !staysOff s (c + 48))).length != 0
  else if pd < 128 then slicesDown s
  else if pd < 136 then s.fget .STR_BLOCK_CFG_mode (pd - 128) == 3
  else if pd < 156 then slicesDown s
  else if pd = 158 then (List.range 256).all (fun q => !s.fbit .PORT_CFG_admin_en q)
  else if pd = 159 then slicesDown s
  else false

/-! ### Pins (R327, R328, R378, R379) -/

/-- The pins that the Rind owns: the flash interface, AVSBus, PMBus and THERM_TRIP_N. -/
def rindPin (i : Nat) : Bool := i == 3 || decide (11 ≤ i ∧ i ≤ 28)

/-- Pins that can only be inputs. -/
def inputPin (i : Nat) : Bool := [0, 1, 2, 4, 5, 6, 13, 25, 28, 29, 30, 31, 33, 35].contains i

/-- Pins to which only states 0 and 1 apply: THERM_TRIP_N, PMBus and the module-management pins. -/
def drainPin (i : Nat) : Bool := [3, 26, 27].contains i || decide (100 ≤ i)

/-- Pins without an owner: fixed inputs and the TAP's, which nothing configures (R378). -/
def loosePin (i : Nat) : Bool := decide (i ≤ 6 ∧ i ≠ 3) || decide (29 ≤ i ∧ i ≤ 33)

/-- COMPAT_HIZ holds the pins in state 0: as sampled, or, while a level A source is asserted, as it stands at its ball (R13, R328); its
level before the rails are up is an input that no row carries (log entry 48). -/
def hizNow (s : State) : Bool :=
  if s.rind.sources.any srcCold then s.rind.hizBall.getD Config.strapAtReset else s.rind.compatHiz

/-- The reset state that a digital pin holds (R327): 0 high-impedance, 1 and 2 weak pulls, 3 and 4 driven, 5 keeper; none where
its owner has configured the pin, or the index names none. -/
def pinState (s : State) (i : Nat) : Option Nat :=
  let e := otpAt s (8192 + 3 * i) 3
  if 116 ≤ i ∨ (!loosePin i && (if rindPin i then s.rind.ownPins else s.rind.otherPins)) then none
  else if hizNow s ∨ 6 ≤ e ∨ (inputPin i ∧ (e = 3 ∨ e = 4)) ∨ (drainPin i ∧ 2 ≤ e) then some 0
  else some e

/-! ### Quarantine -/

/-- A cluster's domain, quarantined in this start. -/
def pdQuarantined (s : State) (pd : Nat) : Bool := 48 ≤ pd && pd < 112 && s.fbit .CLUSTER_QUARANTINE_bits (pd - 48)

end Sys2Proof.Machine
end

