-- ==== Sys2Proof/Machine/Mailbox.lean ====
section
/-! DEFINITION. The mailbox and SPDM: how a request is taken and answered, owner envelopes, and the rows of R253 and R318
that no image or ticket needs (R253, R316 to R318, R349). -/

namespace Sys2Proof.Machine

/-! ### SPDM over DOE (R253) -/

/-- The code of a request (DSP0274, which R253 names; PRESUMED, log entry 35) and its operands as bytes. -/
def spdmCode (q : SpdmReq) : Nat × List Byte :=
  match q with
  | .version => (0x84, [])
  | .capabilities => (0xE1, [])
  | .algorithms a b => (0xE3, [BitVec.ofNat 8 (bit a + 2 * bit b)])
  | .digests => (0x81, [])
  | .certificate x o n => (0x82, leBytes 1 x ++ leBytes 2 o ++ leBytes 2 n)
  | .challenge x l => (0x83, leBytes 1 x ++ l)
  | .measurements i l => (0xE0, leBytes 1 i ++ l)

/-- The digests of the components that run, type 1 first (R337). -/
def runningBytes (s : State) : List Byte := (List.range 5).flatMap (fun i => leBytes 48 (tget 0 s.images.running (i + 1, 0)))

/-- A request is answered. NEGOTIATE_ALGORITHMS chooses P-384 if it is offered, else P-256; the choice goes into every later
answer. -/
def spdmReply (s : State) (q : SpdmReq) : State :=
  let s := match q with
    | .algorithms a _ => { s with rind := { s.rind with spdmP384 := a } }
    | _ => s
  let c := spdmCode q
  let meas := match q with
    | .measurements _ _ => runningBytes s
    | _ => []
  s.emit (.answer (Config.spdmAnswer c.1 (BitVec.ofNat 8 (bit s.rind.spdmP384) :: c.2) (runningBytes s) ++ meas))

/-- The Rind runs: released in this start, and no level A or B source asserted. -/
def rindRuns (s : State) : Bool := s.rind.sources.isEmpty && s.fget .START_STATUS_step_reached 0 != 0

/-- A request is answered, after the mailbox request in execution if there is one. -/
def spdmTake (s : State) (q : SpdmReq) : State :=
  if rindRuns s = false ∨ pcieReady s = false then s
  else if s.rind.mbx.isSome then { s with rind := { s.rind with spdmWait := s.rind.spdmWait ++ [q] } }
  else spdmReply s q

/-- GET_VERSION (R253). -/
def execGetVersion (s : State) : Host.Outcome State Fault Refusal := .next (spdmTake s .version)

/-- GET_CAPABILITIES (R253). -/
def execGetCapabilities (s : State) : Host.Outcome State Fault Refusal := .next (spdmTake s .capabilities)

/-- NEGOTIATE_ALGORITHMS (R253). -/
def execNegotiateAlgorithms (offersP384 offersP256 : Bool) (s : State) : Host.Outcome State Fault Refusal :=
  .next (spdmTake s (.algorithms offersP384 offersP256))

/-- GET_DIGESTS (R253). -/
def execGetDigests (s : State) : Host.Outcome State Fault Refusal := .next (spdmTake s .digests)

/-- GET_CERTIFICATE (R253). -/
def execGetCertificate (slot offset length : Nat) (s : State) : Host.Outcome State Fault Refusal :=
  .next (spdmTake s (.certificate slot offset length))

/-- CHALLENGE (R253). -/
def execChallenge (slot : Nat) (nonce : List Byte) (s : State) : Host.Outcome State Fault Refusal :=
  .next (spdmTake s (.challenge slot nonce))

/-- GET_MEASUREMENTS (R253): the digests of the components running. -/
def execGetMeasurements (index : Nat) (nonce : List Byte) (s : State) : Host.Outcome State Fault Refusal :=
  .next (spdmTake s (.measurements index nonce))

/-! ### Requests and responses (R316 to R318) -/

/-- The fields of an MBX_REQ descriptor (R317). -/
def mbxCmd (m : MbxReq) : Nat := m.desc.toNat % 256
def mbxTag (m : MbxReq) : Nat := bits m.desc.toNat 16 16
def mbxArg0 (m : MbxReq) : Nat := bits m.desc.toNat 32 32
def mbxArg1 (m : MbxReq) : Nat := bits m.desc.toNat 64 64
def mbxAddr (m : MbxReq) : Nat := bits m.desc.toNat 128 64
def mbxLen (m : MbxReq) : Nat := bits m.desc.toNat 192 16

/-- A reserved bit of a descriptor is set. -/
def mbxReserved (m : MbxReq) : Bool := bits m.desc.toNat 8 8 != 0 || bits m.desc.toNat 208 304 != 0

/-- The commands accepted in recovery mode (R318). -/
def mbxRecovery (c : Nat) : Bool := (1 ≤ c && c ≤ 3) || c == 0x10 || c == 0x50 || (0x70 ≤ c && c ≤ 0x78)

/-- Whether the Rind can take this request now: one at a time, in ring order, with a free MBX_RSP slot (R270, R318). -/
def mbxReady (s : State) (m : MbxReq) : Bool :=
  rindRuns s && s.rind.mbx.isNone &&
    (m.internal || (ringRuns s 0 6 && (s.ring 0 6).hostIdx != (s.ring 0 6).devIdx && s.host.rsps.isEmpty &&
      (!ringOn s 0 7 || !ringFull s 0 7)))

/-- A request ends: it enters the history, its response is written on MBX_RSP or answered on Mladund's channel (R316, R317), and SPDM
requests that waited are answered. -/
def mbxEnd (s : State) (internal lost : Bool) (cmd tag status r0 r1 : Nat) : State :=
  let h := ((cmd + status * 2 ^ 8 + tag * 2 ^ 16) :: s.rind.history).take 16
  let l := s.rind.spdmWait
  let s := { s with rind := { s.rind with mbx := none, history := h, spdmWait := [] } }.fset .RIND_STATUS_mbx_busy 0 0
  let v := cmd + status * 2 ^ 8 + tag * 2 ^ 16 + r0 % 2 ^ 32 * 2 ^ 32 + r1 % 2 ^ 64 * 2 ^ 64
  let s := if internal then s.emit (.answer (leBytes 64 v)) else if lost then s else rspFlush { s with host := { s.host with rsps := [] } } (s.host.rsps ++ [v])
  l.foldl spdmReply s

/-- A request is answered at once. -/
def mbxDone (s : State) (m : MbxReq) (status r0 r1 : Nat) : State :=
  mbxEnd s m.internal false (mbxCmd m) (mbxTag m) status r0 r1

/-- A request stays in execution until something completes. -/
def mbxWait (s : State) (m : MbxReq) (w : MbxWaits) : State :=
  { s with rind := { s.rind with mbx := some { internal := m.internal, lost := false, cmd := mbxCmd m, tag := mbxTag m, waits := w } } }.fset
    .RIND_STATUS_mbx_busy 0 1

/-- The request in execution is answered. -/
def mbxFinish (s : State) (status r0 r1 : Nat) : State :=
  match s.rind.mbx with
  | some r => mbxEnd s r.internal r.lost r.cmd r.tag status r0 r1
  | none => s

/-- A request of a command is taken: refused in recovery mode unless it is served there, and for a reserved bit (R317, R318). R11 and R318
both apply to a request that recovery mode refuses and that sets a reserved bit; NOT_PERMITTED comes first (DESIGN CHOICE, log entry 40). -/
def mbxRow (code : Nat) (m : MbxReq) (f : State → State) (s : State) : State :=
  if mbxReady s m && mbxCmd m == code then
    let s := if m.internal then s else ringRead s 0 6
    if inRecovery s && !mbxRecovery code then mbxDone s m 6 0 0
    else if mbxReserved m then mbxDone s m 1 0 0
    else f s
  else s

/-- Data written to the requester's data_addr: in host memory, or on Mladund's channel. -/
def mbxData (s : State) (m : MbxReq) (b : List Byte) : State :=
  s.emit (if m.internal then .answer b else .hostWrite (mbxAddr m) b)

/-! ### Owner envelopes (R349) -/

/-- The body length of an envelope's kind. -/
def envLen (kind : Nat) : Nat := [0, 128, 8, 16, 0].getD kind 0

/-- The body of an envelope. -/
def envBody (b : List Byte) (kind : Nat) : List Byte := slice b 64 (envLen kind)

/-- The body of an envelope has a reserved bit or value: a ticket of scope 3 or of a nanosecond field past its range, an owner
state beyond its two fields (R349). -/
def envBodyBad (b : List Byte) (kind : Nat) : Bool :=
  let v := envBody b kind
  if kind = 1 then
    leAt v 68 1 % 4 == 3 || 999999999 < leAt v 54 4 || leAt v 58 2 != 0 || leAt v 68 1 / 8 != 0 ||
      leAt v 69 1 != 0 || leAt v 72 56 != 0
  else if kind = 2 then leAt v 0 8 / 128 != 0
  else false

/-- The nonce of an envelope. -/
def envNonce (b : List Byte) : Nat := leAt b 16 16

/-- The status with which an envelope is refused, or 0: its data, an owner, its form and target, its signature, its nonce
(R349, R350 rows 1 to 4). -/
def envCheck (s : State) (m : MbxReq) (kind : Nat) : Nat :=
  let b := m.data
  let n := 64 + envLen kind
  let blk := b.drop n
  if m.dataFailed then 8
  else if !ownerEnrolled s then 6
  else if b.length < n + 8 || leAt b 0 4 != 0x454F5646 || leAt b 4 2 != kind || leAt b 6 2 != envLen kind || leAt b 32 32 != 0 ||
      envBodyBad b kind || blk.length != leAt blk 4 4 || (leAt b 8 8 != 0 && leAt b 8 8 != Config.deviceUid.toNat) then 1
  else if !sigOk s (otpAt s 4864 384) (otpAt s 5248 384) (b.take n) blk then 9
  else if s.images.nonces.contains (envNonce b) then 10
  else 0

/-- An envelope is accepted: its nonce is logged (R349). -/
def envAccept (s : State) (m : MbxReq) : State :=
  { s with images := { s.images with nonces := (envNonce m.data :: s.images.nonces).take 256 } }

/-! ### Status, causes, chip reset (R318 to R320) -/

/-- START_STATUS with the report of reserved pin states in bit 31 (R327); entries that name no pin are ignored (R378). -/
def startStatus (s : State) : Nat :=
  regRaw s .START_STATUS 0 + bit ((List.range 116).any (fun i => 6 ≤ otpAt s (8192 + 3 * i) 3)) * 2 ^ 31

/-- GET_STATUS (R318). -/
def execGetStatus (m : MbxReq) (s : State) : Host.Outcome State Fault Refusal :=
  .next (mbxRow 0x01 m (fun s => mbxDone s m 0 (startStatus s) (regRaw s .RESET_CAUSE 0)) s)

/-- GET_HISTORY (R318): the last 16 completed requests, newest first. -/
def execGetHistory (m : MbxReq) (s : State) : Host.Outcome State Fault Refusal :=
  .next (mbxRow 0x02 m (fun s =>
    if mbxLen m < 128 then mbxDone s m 1 0 0
    else if m.dataFailed then mbxDone s m 8 0 0
    else mbxDone (mbxData s m ((List.range 16).flatMap (fun i => leBytes 8 (s.rind.history.getD i 0)))) m 0 0 0) s)

/-- The cause bits in the order of RESET_CAUSE. -/
def causeFlds : List Fld :=
  [.RESET_CAUSE_por, .RESET_CAUSE_brownout, .RESET_CAUSE_therm_trip, .RESET_CAUSE_crit_a, .RESET_CAUSE_rst_pin, .RESET_CAUSE_wdog,
   .RESET_CAUSE_host_full, .RESET_CAUSE_failed_start, .RESET_CAUSE_update_act, .RESET_CAUSE_crit_b, .RESET_CAUSE_perst,
   .RESET_CAUSE_domain_req, .RESET_CAUSE_domain_mck, .RESET_CAUSE_wdog_mgmt]

/-- CAUSE_CLEAR (R318, R320). -/
def execCauseClear (m : MbxReq) (s : State) : Host.Outcome State Fault Refusal :=
  .next (mbxRow 0x03 m (fun s =>
    if 2 ^ 14 ≤ mbxArg0 m then mbxDone s m 1 0 0
    else
      let s := causeFlds.zipIdx.foldl (fun s p => if hasBit (mbxArg0 m) p.2 then s.fset p.1 0 0 else s) s
      mbxDone s m 0 0 0) s)

/-- RESET_CHIP (R318): OK now, the source 1 ms later; a second one does not put the first off. -/
def execResetChip (m : MbxReq) (s : State) : Host.Outcome State Fault Refusal :=
  .next (mbxRow 0x10 m (fun s => mbxDone { s with rind := { s.rind with chipResetAt := some (s.rind.chipResetAt.getD (s.now + 1000000)) } } m 0 0 0) s)

/-- RESET_CHIP_ASSERT (R318, R319). -/
def execResetChipAssert (s : State) : Host.Outcome State Fault Refusal :=
  .next (
    match s.rind.chipResetAt with
    | some t => if t ≤ s.now then assertSource s .hostFull else s
    | none => s)

/-- MBX_INVALID_COMMAND (R318): every value with no command. -/
def execMbxInvalidCommand (m : MbxReq) (s : State) : Host.Outcome State Fault Refusal :=
  .next (
    let c := mbxCmd m
    let listed := (1 ≤ c && c ≤ 3) || (0x10 ≤ c && c ≤ 0x12) || c == 0x20 || c == 0x30 || c == 0x40 || c == 0x41 || c == 0x50 ||
      (0x70 ≤ c && c ≤ 0x78)
    if mbxReady s m && !listed then mbxDone (if m.internal then s else ringRead s 0 6) m 1 0 0 else s)

/-! ### Domains (R330, R331) -/

/-- A Skim bank's power domain. -/
def isBank (pd : Nat) : Bool := decide (112 ≤ pd ∧ pd < 128)

/-- RESET_DOMAIN (R330). A block whose domain is off has no state to reset; a Skim bank's answer waits for its flush (R119, R318). -/
def execResetDomain (m : MbxReq) (s : State) : Host.Outcome State Fault Refusal :=
  .next (mbxRow 0x11 m (fun s =>
    let pd := mbxArg0 m
    if 160 ≤ pd then mbxDone s m 1 0 0
    else if pdQuarantined s pd then mbxDone s m 6 0 0
    else if !resetAllowed s pd then mbxDone s m 10 0 0
    else
      let s := s.fset .RESET_CAUSE_domain_req 0 1
      if s.fbit .PD_STATE_on pd = false then mbxDone s m 0 0 0
      else if isBank pd then mbxWait (domainReset s pd) m (.flush (pd - 112))
      else mbxDone (domainReset s pd) m 0 0 0) s)

/-- A held block may run once DOMAIN_HOLD is released: nothing is to reload it, or its reload has ended (R318). -/
def holdOver (s : State) (pd : Nat) : Bool :=
  !pdWaits pd || !s.fbit .PD_STATE_on pd || s.rind.restored.contains pd ||
    (decide (48 ≤ pd ∧ pd < 112) && !s.churn.reloading.contains (pd - 48))

/-- DOMAIN_HOLD (R330): the block is held in level D reset until released. -/
def execDomainHold (m : MbxReq) (s : State) : Host.Outcome State Fault Refusal :=
  .next (mbxRow 0x12 m (fun s =>
    let pd := mbxArg0 m
    if 160 ≤ pd ∨ 2 ≤ mbxArg1 m then mbxDone s m 1 0 0
    else if pdQuarantined s pd then mbxDone s m 6 0 0
    else if !resetAllowed s pd then mbxDone s m 10 0 0
    else if mbxArg1 m = 1 then
      let s := { s with rind := { s.rind with holds := pd :: s.rind.holds.filter (fun x => x ≠ pd) } }.fset .RESET_CAUSE_domain_req 0 1
      mbxDone (if s.fbit .PD_STATE_on pd then domainReset s pd else setHeld s pd true) m 0 0 0
    else
      let held := s.rind.holds.contains pd
      let s := { s with rind := { s.rind with holds := s.rind.holds.filter (fun x => x ≠ pd) } }
      let s := if held && holdOver s pd then setHeld s pd false else s
      mbxDone s m 0 0 0) s)

/-- A domain is asked off or on before its step of the start: the step skips it, or brings it on (R322). -/
def stepAsk (s : State) (pd : Nat) (on : Bool) : State :=
  let l := s.rind.offs.filter (fun x => x ≠ pd)
  if awaitsStep s pd && (on || offAllowed s pd) then { s with rind := { s.rind with offs := if on then l else pd :: l } } else s

/-- A Skim bank that is to go off stops taking lookups, to be flushed first (R119). -/
def offHold (s : State) (pd : Nat) (on : Bool) : State := if isBank pd && !on then bankHold s (pd - 112) else s

/-- POWER_SET (R330, R331): answered when the switch is complete, or at once when nothing changes or a step of the start is to do it. -/
def execPowerSet (m : MbxReq) (s : State) : Host.Outcome State Fault Refusal :=
  .next (mbxRow 0x20 m (fun s =>
    let pd := mbxArg0 m
    let on := mbxArg1 m == 1
    if 160 ≤ pd ∨ 2 ≤ mbxArg1 m then mbxDone s m 1 0 0
    else if pdQuarantined s pd then mbxDone s m 6 0 0
    else if s.fbit .PD_STATE_on pd == on ∨ (on && awaitsStep s pd) then mbxDone (stepAsk s pd on) m 0 0 0
    else if !on && !offAllowed s pd then mbxDone s m 10 0 0
    else
      let s := offHold s pd on
      mbxWait { s with rind := { s.rind with switching := s.rind.switching ++ [(pd, on)] } } m (.domain pd)) s)

/-- The POWER_SET that waits for a domain's switch is answered; a quarantine that came first wins (R331). -/
def switchAnswer (s : State) (pd : Nat) : State :=
  if (s.rind.mbx.map (fun r => r.waits)) = some (.domain pd) then mbxFinish s (if pdQuarantined s pd then 6 else 0) 0 0 else s

/-- DOMAIN_SWITCH_COMPLETE (R331): at most one domain every 10 us. A Skim bank goes off once nothing waits in it but bypass (R119). -/
def execDomainSwitchComplete (pd : Nat) (s : State) : Host.Outcome State Fault Refusal :=
  .next (
    match s.rind.switching with
    | [] => s
    | (d, on) :: l =>
      let paced := match s.rind.lastSwitch with | some t => decide (t + 10000 ≤ s.now) | none => true
      if d ≠ pd ∨ paced = false ∨ (isBank pd && !on && !bankIdleNow s (pd - 112)) then s
      else
        let s := { s with rind := { s.rind with switching := l, lastSwitch := some s.now } }
        switchAnswer (if on then domainOn s pd else domainOff s pd) pd)

/-! ### Throttle point and keys (R318, R333) -/

/-- THROTTLE_SET (R333). -/
def execThrottleSet (m : MbxReq) (s : State) : Host.Outcome State Fault Refusal :=
  .next (mbxRow 0x30 m (fun s =>
    if thrMin s ≤ mbxArg0 m ∧ mbxArg0 m ≤ thrMax s then mbxDone (updShow (s.fset .THERMAL_throttle_point 0 (mbxArg0 m))) m 0 0 0
    else mbxDone s m 1 0 0) s)

/-- key_pinned, in both registers that show it (R89, R316). -/
def pinShow (s : State) (b : Bool) : State := (s.fset .RIND_STATUS_key_pinned 0 (bit b)).fset .CELLAR_REKEY_key_pinned 0 (bit b)

/-- KEY_PIN (R318): pinned at once, and sealed for the next start. -/
def execKeyPin (m : MbxReq) (s : State) : Host.Outcome State Fault Refusal :=
  .next (mbxRow 0x40 m (fun s =>
    let c := envCheck s m 3
    if c != 0 then mbxDone s m c 0 0
    else
      let b := envBody m.data 3
      let s := envAccept { s with rind := { s.rind with sealedKey := some (leAt b 0 8, leAt b 8 8) } } m
      mbxWait (pinShow s true) m (.logWrite 0 0 0)) s)

/-- KEY_UNPIN (R318). -/
def execKeyUnpin (m : MbxReq) (s : State) : Host.Outcome State Fault Refusal :=
  .next (mbxRow 0x41 m (fun s =>
    let c := envCheck s m 4
    if c != 0 then mbxDone s m c 0 0
    else mbxWait (pinShow (envAccept { s with rind := { s.rind with sealedKey := none } } m) false) m (.logWrite 0 0 0)) s)

/-- LOG_REGION_WRITE_DONE (R318): the response of a command that wrote flash or fuses. -/
def execLogRegionWriteDone (s : State) : Host.Outcome State Fault Refusal :=
  .next (
    match s.rind.mbx with
    | some r => match r.waits with
      | .logWrite st r0 r1 => mbxFinish s st r0 r1
      | _ => s
    | none => s)

/-- RECOVERY_COMPLETE (R318, R326): only in recovery mode, and only if a slot now authenticates. -/
def execRecoveryComplete (m : MbxReq) (s : State) : Host.Outcome State Fault Refusal :=
  .next (mbxRow 0x50 m (fun s =>
    if !inRecovery s then mbxDone s m 6 0 0
    else if !(slotAuth s 0 || slotAuth s 1) then mbxDone s m 10 0 0
    else
      let s := mbxDone s m 0 0 0
      let s := (s.fset .START_STATUS_failed_count 0 0).fset .START_STATUS_recovery 0 0
      (resetB s).fset .RIND_STATUS_mode 0 0) s)

end Sys2Proof.Machine
end

