-- ==== Sys2Proof/Machine/MilkOps.lean ====
section
/-! DEFINITION. The Milk Run as the image rows use it: its frames, NEED, and what is sent downstream (R347, R348). -/

namespace Sys2Proof.Machine

/-- The management complex, whose Mladund sends and receives the Milk Run's frames. -/
def pdMgmt : Nat := 157

/-- One of the eight counters of IMG_BITMAP rises (R346): 0 digest_fail, 1 readback_fail, 2 milk_rx_chunks, 3 milk_tx_chunks,
4 milk_retry, 5 milk_foreign, 6 milk_refused_rx, 7 milk_refused_tx. -/
def imgCount (s : State) (i : Nat) : State :=
  { s with images := { s.images with counts := tset 0 s.images.counts (i, 0) ((tget 0 s.images.counts (i, 0) + 1) % 2 ^ 32) } }

/-- The chunks of the open session that are wanted: those not marked (R346). Until chunk 0 is marked no other is known. -/
def chunkWanted (s : State) (k : Nat) : Bool :=
  let n := inactiveSlot s
  (slotDigest s n).isSome && decide (k < max 1 (imgChunks (chunkBytes s n 0))) && !(marksOf s n).contains k

/-- The bitmap of IMG_BITMAP and NEED: 96 bytes in which bit k set means chunk k is wanted. -/
def wantedMap (s : State) : List Byte :=
  (List.range 96).map (fun i => BitVec.ofNat 8 ((List.range 8).map (fun j => bit (chunkWanted s (8 * i + j)) * 2 ^ j)).sum)

/-- The session field of a frame: bytes 0 to 7 of the image digest (R347). -/
def milkSession (s : State) : List Byte := leBytes 8 ((slotDigest s (inactiveSlot s)).getD 0 % 2 ^ 64)

/-- A Milk Run frame leaves by a port (R236, R347). -/
def milkFrame (s : State) (q op piece chunk reason : Nat) (session data : List Byte) : State :=
  let (r, s) := s.draw
  let cls := s.fget .UPD_MILK_class 0
  let head := beBytes 1 op ++ beBytes 1 piece ++ beBytes 2 chunk ++ beBytes 2 data.length ++ beBytes 2 reason ++ session ++
    List.replicate 16 0#8
  let body := List.replicate 6 255#8 ++ beBytes 6 (s.fget .SMAC_mac 0) ++ [0#8, 0#8] ++ head ++ data
  let m : Shim := { typ := 1, pinned := false, cls := cls, src := s.fget .FAB_CFG_device_id 0, hops := s.fget .FAB_CFG_hops_init 0,
                    dst := 0, seq := 0, epoch := s.fabric.epoch, sendNs := 0 }
  let f : Frame := { bytes := body ++ fcsOf body, whole := true, received := false, stage := .released, copies := 1,
                     len := body.length + 4, ingPort := r % 512, shim := some m }
  enqueue (s.newFrame f) s.nextFrame .main q cls none

/-- Frames go upstream, and downstream, while the management complex runs and the direction is enabled. -/
def milkUp (s : State) : Bool := s.runs pdMgmt && s.fbit .UPD_MILK_up_en 0
def milkDown (s : State) : Bool := s.runs pdMgmt && s.fbit .UPD_MILK_down_en 0

/-- A NEED is sent upstream. -/
def needFrame (s : State) : State :=
  if milkUp s then
    let s := milkFrame s (s.fget .UPD_MILK_up_port 0) 2 0 0 0 (milkSession s) (wantedMap s)
    { s with images := { s.images with needAt := some s.now } }
  else s

/-- A NEED is sent while the slot is DOWNLOADING (R348). -/
def sendNeed (s : State) : State := if slotState s (inactiveSlot s) == 1 then needFrame s else s

/-- A chunk is acknowledged upstream. -/
def sendAck (s : State) (k : Nat) : State :=
  if milkUp s then milkFrame s (s.fget .UPD_MILK_up_port 0) 3 0 k 0 (milkSession s) [] else s

/-- A REFUSE is sent upstream for a session. -/
def sendRefuse (s : State) (reason : Nat) (session : List Byte) : State :=
  if milkUp s then milkFrame s (s.fget .UPD_MILK_up_port 0) 4 0 0 reason session [] else s

/-- The eight CHUNK frames of a marked chunk go downstream. -/
def sendChunk (s : State) (k : Nat) : State :=
  let b := chunkBytes s (inactiveSlot s) k
  (List.range 8).foldl (fun s p =>
    milkFrame s (s.fget .UPD_MILK_down_port 0) 1 p k 0 (milkSession s) (slice b (8192 * p) 8192)) s

/-- Marked chunks that downstream wants are sent in ascending order, with at most 8 unacknowledged (R348). A REFUSE and a
stalled chain stop sending. -/
def milkPump (n : Nat) (s : State) : State :=
  match n with
  | 0 => s
  | n + 1 =>
    let im := s.images
    if milkDown s && !im.refused && !s.fbit .UPD_MILK_chain_stalled 0 && decide (im.unacked.length < 8) then
      match im.wanted.find? (fun k => (marksOf s (inactiveSlot s)).contains k) with
      | none => s
      | some k =>
        let s := imgCount (sendChunk s k) 3
        milkPump n { s with images := { s.images with wanted := s.images.wanted.filter (fun x => x ≠ k),
                                                      unacked := s.images.unacked ++ [(k, s.now, 0)] } }
    else s

/-- Chunk 0 is offered downstream once it is marked. -/
def milkOffer (s : State) : State :=
  if (marksOf s (inactiveSlot s)).contains 0 ∧ milkDown s then
    milkPump 8 { s with images := { s.images with wanted := 0 :: s.images.wanted.filter (fun x => x ≠ 0) } }
  else s

end Sys2Proof.Machine
end

