-- ==== Sys2Proof/Machine/Images.lean ====
section
/-! DEFINITION. Download sessions and the image commands: chunks, their checks and writes, verification, IMG_BITMAP,
IMG_ABORT, IMG_CONFIRM, owner state and MILK_SET (R343 to R346, R353). -/

namespace Sys2Proof.Machine

/-! ### Paths and answers (R346) -/

/-- An image command of either path goes on to its effect: over a CMD ring only for PF0, and not in recovery mode. -/
def imgRow (op code : Nat) (via : ImgPath) (f : State → State) (s : State) : State :=
  match via with
  | .cmd set index =>
    match cmdWork s set index op .fetched with
    | none => s
    | some w => if setLimited s set || inRecovery s then cmdComplete s w 6 0 0 0 else f (workSet s { w with stage := .owed })
  | .mbx m => mbxRow code m (fun s => f (mbxWait s m .chunk)) s

/-- An image command in execution is answered. -/
def imgAnswer (s : State) (src : ChunkSrc) (cmd mbx r0 : Nat) : State :=
  match src with
  | .cmd set index =>
    match workOf s set 0 index with
    | some w => cmdComplete s w cmd 0 0 (r0 * 2 ^ 128)
    | none => s
  | .mbx => mbxFinish s mbx r0 0
  | .milk => s

/-- The source that a path stands for. -/
def pathSrc (via : ImgPath) : ChunkSrc :=
  match via with
  | .cmd set index => .cmd set index
  | .mbx _ => .mbx

/-- The same status on both paths. -/
def imgEnd (s : State) (via : ImgPath) (status : Nat) : State := imgAnswer s (pathSrc via) status status 0

/-! ### Sessions (R343) -/

/-- Bit of the owner field for a sender: 1 host, 2 Milk Run. -/
def srcOwner (src : ChunkSrc) : Nat := if src = .milk then 2 else 1

/-- A ticket is pending, or an activation is under way. -/
def updBusy (s : State) : Bool := s.images.ticket.isSome || s.images.activation.isSome

/-- The row of R343 that a chunk 0 fails first; 0: it passes. -/
def openCheck (s : State) (milk : Bool) (b : List Byte) : Nat :=
  let n := inactiveSlot s
  let open1 := slotState s n == 1 || slotState s n == 2
  if refusalOf s milk != 0 then 1
  else if !(headOk b && manifestOk b) then 2
  else if !imageSigned s b then 3
  else if imgSvn b < fusedSvn s then 4
  else if updBusy s || (open1 && slotDigest s n != some (imageDigest b) && s.fget .UPD_STATUS_owner 0 != 0) then 5
  else 0

/-- A slot's state region and chunks are erased. -/
def slotErase (s : State) (n : Nat) : State :=
  { s with images := { s.images with chunks := s.images.chunks.filter (fun e => e.1.1 ≠ n), marks := tset [] s.images.marks (n, 0) [],
                                     digest := tset none s.images.digest (n, 0) none,
                                     verified := tset false s.images.verified (n, 0) false, wanted := [], unacked := [] } }

/-- A slot is set EMPTY. -/
def slotEmpty (s : State) (n : Nat) : State := (slotErase s n).fset .UPD_STATUS_owner 0 0

/-- A session opens in the inactive slot: the state is erased, the digest written, the sender owns it. -/
def sessionOpen (s : State) (b : List Byte) (owner : Nat) : State :=
  let n := inactiveSlot s
  let s := slotErase s n
  let im := { s.images with digest := tset none s.images.digest (n, 0) (some (imageDigest b)),
                            chunks := tset [] s.images.chunks (n, 0) b, lastChunk := s.now }
  { s with images := im }.fset .UPD_STATUS_owner 0 owner

/-- The chunks marked in the inactive slot. -/
def marked (s : State) : Nat := (marksOf s (inactiveSlot s)).length

/-- A chunk is refused under a row of R343; a refusal state refuses any chunk so (R345). -/
def chunkRefuse (s : State) (src : ChunkSrc) (row : Nat) (session : List Byte) : State :=
  if src = .milk then sendRefuse (imgCount s 6) ([0, 3, 2, 2, 4, 1].getD row 0) session
  else imgAnswer s src ([0, 6, 1, 1, 1, 5].getD row 0) ([0, 10, 1, 9, 10, 5].getD row 0) (marked s)

/-- A chunk k >= 1 that finds no session (R344). -/
def chunkHomeless (s : State) (src : ChunkSrc) (session : List Byte) : State :=
  if src = .milk then sendRefuse (imgCount s 6) 5 session else imgAnswer s src 6 10 0

/-- A chunk is done: the command completes, or the chunk is acknowledged. -/
def chunkDone (s : State) (src : ChunkSrc) (k : Nat) : State :=
  if src = .milk then sendAck s k else imgAnswer s src 0 0 (marked s)

/-- A chunk that does not belong to the session's image: its bytes do not match its digest, or there is no such chunk (R344). -/
def chunkBad (s : State) (src : ChunkSrc) : State := imgAnswer s src 1 1 (marked s)

/-- A chunk waits for its write; what arrives also puts off the next NEED (R348). -/
def chunkQueue (s : State) (src : ChunkSrc) (k : Nat) (b : List Byte) : State :=
  { s with images := { s.images with jobs := s.images.jobs ++ [⟨k, b, src, false⟩] } }

/-- The sender takes an ownerless session, and its 600 s start (R343; log entry 42). -/
def takeSession (s : State) (owner : Nat) : State :=
  if s.fget .UPD_STATUS_owner 0 = 0 then { s with images := { s.images with lastChunk := s.now } }.fset .UPD_STATUS_owner 0 owner
  else s

/-- A chunk arrives with its session field on the Milk Run (R343, R344). -/
def chunkIn (s : State) (src : ChunkSrc) (k : Nat) (b session : List Byte) : State :=
  let n := inactiveSlot s
  let milk := decide (src = .milk)
  let s := { s with images := { s.images with needAt := some s.now } }
  if k = 0 then
    let c := openCheck s milk b
    if c != 0 then chunkRefuse s src c session
    else
      let s :=
        if slotDigest s n = some (imageDigest b) then takeSession s (srcOwner src)
        else sessionOpen s b (srcOwner src)
      let s := if (marksOf s n).contains 0 then s
        else { s with images := { s.images with chunks := tset [] s.images.chunks (n, 0) b } }
      let s := if milk then needFrame s else s
      updShow (if (marksOf s n).contains 0 then milkOffer (chunkDone s src 0) else chunkQueue s src 0 b)
  else if slotState s n = 0 then chunkHomeless s src session
  else if (marksOf s n).contains k then chunkDone s src k
  else if imgChunks (chunkBytes s n 0) ≤ k then chunkBad s src
  else if !digestIs b (chunkDigest (chunkBytes s n 0) k) then chunkBad (imgCount s 0) src
  else if refusalOf s milk != 0 then chunkRefuse s src 1 session
  else
    let s := if milk then takeSession s 2 else s
    chunkQueue s src k b

/-- IMG_CHUNK (R344, R346). -/
def execImgChunk (via : ImgPath) (s : State) : Host.Outcome State Fault Refusal :=
  .next (match via with
    | .cmd set index =>
      imgRow 0x30 0x70 via (fun s => match workOf s set 0 index with
        | some w => chunkIn s (.cmd set index) (bits w.desc 32 16) (w.data.take 65536) []
        | none => s) s
    | .mbx m =>
      imgRow 0x30 0x70 via (fun s =>
        if m.dataFailed then imgEnd s via 8 else chunkIn s .mbx (mbxArg0 m) (m.data.take 65536) []) s)

/-- A waiting chunk still belongs to the open session. -/
def jobFits (s : State) (j : ChunkJob) : Bool :=
  let n := inactiveSlot s
  if j.chunk = 0 then slotDigest s n == some (imageDigest j.data)
  else decide (j.chunk < imgChunks (chunkBytes s n 0)) && digestIs j.data (chunkDigest (chunkBytes s n 0) j.chunk)

/-- A chunk is marked. -/
def chunkMark (s : State) (j : ChunkJob) : State :=
  let n := inactiveSlot s
  let l := marksOf s n
  let l := l.filter (fun x => x < j.chunk) ++ [j.chunk] ++ l.filter (fun x => j.chunk < x)
  { s with images := { s.images with chunks := tset [] s.images.chunks (n, j.chunk) j.data, marks := tset [] s.images.marks (n, 0) l,
                                     lastChunk := s.now } }

/-- A marked chunk completes, and goes on downstream. -/
def chunkForward (s : State) (j : ChunkJob) : State :=
  let s := chunkDone s j.src j.chunk
  if j.chunk = 0 then milkOffer s else milkPump 8 s

/-- The next waiting chunk's write begins; chunks whose turn comes in a refusal state are refused (R344, R345). -/
def jobsStart (s : State) (l : List ChunkJob) : State :=
  match l with
  | [] => { s with images := { s.images with jobs := [] } }
  | j :: rest =>
    if refusalOf s (decide (j.src = .milk)) != 0 then jobsStart (chunkRefuse s j.src 1 (milkSession s)) rest
    else { s with images := { s.images with jobs := j :: rest } }

/-- CHUNK_WRITE_COMPLETE (R344, R345): the oldest chunk has been read back, correctly or not; a failed one is written once
more. When it is done the next one's turn comes. -/
def execChunkWriteComplete (readbackOk : Bool) (s : State) : Host.Outcome State Fault Refusal :=
  .next (
    match s.images.jobs with
    | [] => s
    | j :: l =>
      updShow (
        if slotState s (inactiveSlot s) = 0 then jobsStart (chunkHomeless s j.src (milkSession s)) l
        else if jobFits s j = false then jobsStart (chunkBad s j.src) l
        else if (marksOf s (inactiveSlot s)).contains j.chunk then jobsStart (chunkForward s j) l
        else if readbackOk then jobsStart (chunkForward (chunkMark s j) j) l
        else
          let s := imgCount s 1
          if j.retried then jobsStart (imgAnswer s j.src 8 8 (marked s)) l
          else { s with images := { s.images with jobs := { j with retried := true } :: l } }))

/-- In recovery mode a verified slot becomes active and confirmed (R346). -/
def recoveryRecord (s : State) (n : Nat) : State :=
  let d (k : Nat) : Nat := imageDigest (chunkBytes s k 0)
  if inRecovery s && s.images.writing.isNone then bootWrite s ⟨0, n, false, 0, 1 - n, d n, d (1 - n), 0⟩ .recovery else s

/-- SLOT_VERIFY_COMPLETE (R344, R345, R354): the whole slot is authenticated, unless a refusal state holds. After a start it
waits for start-complete. -/
def execSlotVerifyComplete (s : State) : Host.Outcome State Fault Refusal :=
  .next (
    let n := inactiveSlot s
    if slotState s n ≠ 2 ∨ refusalOf s false ≠ 0 ∨ !(s.fbit .START_STATUS_start_complete 0 || inRecovery s) then s
    else if slotAuth s n then
      updShow (recoveryRecord { s with images := { s.images with verified := tset false s.images.verified (n, 0) true } } n)
    else updShow ((slotEmpty s n).fset .UPD_STATUS_last_event 0 6))

/-- SESSION_OWNER_TIMEOUT (R343): 600 s with no chunk written. -/
def execSessionOwnerTimeout (s : State) : Host.Outcome State Fault Refusal :=
  .next (
    if s.fget .UPD_STATUS_owner 0 ≠ 0 ∧ s.images.lastChunk + 600000000000 ≤ s.now then s.fset .UPD_STATUS_owner 0 0 else s)

/-- IMG_BITMAP (R346): 128 bytes to data_addr. -/
def execImgBitmap (via : ImgPath) (s : State) : Host.Outcome State Fault Refusal :=
  .next (imgRow 0x31 0x71 via (fun s =>
    let b := wantedMap s ++ (List.range 8).flatMap (fun i => leBytes 4 (tget 0 s.images.counts (i, 0)))
    match via with
    | .cmd set index =>
      match workOf s set 0 index with
      | some w => imgEnd (if w.lost then s else s.emit (.hostWrite (bits w.desc 64 64) b)) via 0
      | none => s
    | .mbx m => if m.dataFailed then imgEnd s via 8 else imgEnd (mbxData s m b) via 0) s)

/-- IMG_ABORT (R346). -/
def execImgAbort (via : ImgPath) (s : State) : Host.Outcome State Fault Refusal :=
  .next (imgRow 0x32 0x72 via (fun s =>
    if updBusy s then imgEnd s via 5 else imgEnd (updShow (slotEmpty s (inactiveSlot s))) via 0) s)

/-- The confirmation of the active image (R353): a record with trial 0 is written, and the status of the command. A record
already being written answers BUSY. -/
def imgConfirm (s : State) : State × Nat :=
  let r := bootNow s
  if r.trial = false ∨ s.fbit .START_STATUS_start_complete 0 = false then (s, 6)
  else if s.images.writing.isSome then (s, 5)
  else (bootWrite { s with images := { s.images with confirmAt := none } } { r with trial := false, trialStarts := 0 } .confirm, 0)

/-- IMG_CONFIRM (R346, R353). -/
def execImgConfirm (via : ImgPath) (s : State) : Host.Outcome State Fault Refusal :=
  .next (imgRow 0x33 0x73 via (fun s => imgEnd (imgConfirm s).1 via (imgConfirm s).2) s)

/-- AUTO_CONFIRM (R352 step 7): Mladund makes IMG_CONFIRM at its instant. -/
def execAutoConfirm (s : State) : Host.Outcome State Fault Refusal :=
  .next (
    match s.images.confirmAt with
    | none => s
    | some t =>
      if s.now < t ∨ s.runs pdMgmt = false ∨ (imgConfirm s).2 = 5 then s
      else
        let s := (imgConfirm s).1
        { s with images := { s.images with confirmAt := none } })

/-! ### Owner state, enrolment, the chain (R346, R348, R349) -/

/-- OWNER_SET (R346, R349). -/
def execOwnerSet (m : MbxReq) (s : State) : Host.Outcome State Fault Refusal :=
  .next (mbxRow 0x76 m (fun s =>
    let c := envCheck s m 2
    if c != 0 then mbxDone s m c 0 0
    else
      let v := leAt (envBody m.data 2) 0 8
      let s := (s.fset .UPD_STATUS_owner_lock 0 (bits v 0 1)).fset .UPD_STATUS_update_group 0 (bits v 1 6)
      mbxWait (updShow (envAccept s m)) m (.logWrite 0 0 0)) s)

/-- Bits of the OTP are programmed; none is cleared (R339). -/
def otpProgram (s : State) (lsb w v : Nat) : State :=
  { s with rind := { s.rind with otp := s.rind.otp ||| v % 2 ^ w * 2 ^ lsb } }

/-- OWNER_ENROLL (R346): the hashes of one key or of both. -/
def execOwnerEnroll (m : MbxReq) (s : State) : Host.Outcome State Fault Refusal :=
  .next (mbxRow 0x77 m (fun s =>
    if ownerEnrolled s then mbxDone s m 6 0 0
    else if m.dataFailed then mbxDone s m 8 0 0
    else if m.data.length ≠ 97 ∧ m.data.length ≠ 2049 then mbxDone s m 1 0 0
    else
      let s := otpProgram s 4864 384 (Config.sha384 (m.data.take 97)).toNat
      let s := if m.data.length = 2049 then otpProgram s 5248 384 (Config.sha384 (m.data.drop 97)).toNat else s
      mbxWait (updShow s) m (.logWrite 0 0 0)) s)

/-- A port can carry the chain: a front-panel port with fabric_port 1. A direction that is not enabled uses none. -/
def milkPort (s : State) (en q : Nat) : Bool := en == 0 || (decide (q < 256) && portExists s q && s.fbit .PORT_CFG_fabric_port q)

/-- MILK_SET (R348). A number that is no port's is out of range whether or not its direction is enabled (R6). -/
def execMilkSet (m : MbxReq) (s : State) : Host.Outcome State Fault Refusal :=
  .next (mbxRow 0x78 m (fun s =>
    let v := mbxArg0 m
    if 2 ^ 24 ≤ v ∨ 273 ≤ bits v 0 9 ∨ 273 ≤ bits v 10 9 then mbxDone s m 1 0 0
    else if !(milkPort s (bits v 9 1) (bits v 0 9) && milkPort s (bits v 19 1) (bits v 10 9)) then mbxDone s m 10 0 0
    else
      let s := (s.fset .UPD_MILK_up_port 0 (bits v 0 9)).fset .UPD_MILK_up_en 0 (bits v 9 1)
      let s := (s.fset .UPD_MILK_down_port 0 (bits v 10 9)).fset .UPD_MILK_down_en 0 (bits v 19 1)
      mbxDone (s.fset .UPD_MILK_class 0 (bits v 20 4)) m 0 0 0) s)

end Sys2Proof.Machine
end

