-- ==== Sys2Proof/Machine/LinkTest.lean ====
section
/-! DEFINITION. The lane checkers, the frame generator and the TAP (R358, R360, R368). -/

namespace Sys2Proof.Machine

/-! ### Lane checkers (R358) -/

/-- A lane's checker runs: its octet runs and a pattern is expected. -/
def checkerOn (s : State) (octet lane : Nat) : Bool :=
  decide (octet < 32) && decide (lane < 8) && s.runs (pdOctet octet) && s.fget .LANE_TEST_rx_pattern (octet * 8 + lane) != 0

/-- CHECKER_LOCK (R358): 1,024 consecutive bits have matched. -/
def execCheckerLock (octet lane : Nat) (s : State) : Host.Outcome State Fault Refusal :=
  .next (if checkerOn s octet lane then s.fset .LANE_TEST_lock (octet * 8 + lane) 1 else s)

/-- CHECKER_LOCK_LOSS (R358): the loss is counted and shown, with the bits and errors counted since the lane's last row. -/
def execCheckerLockLoss (octet lane bits errs : Nat) (s : State) : Host.Outcome State Fault Refusal :=
  .next (
    let n := octet * 8 + lane
    if checkerOn s octet lane && s.fbit .LANE_TEST_lock n then
      let s := laneAdd s n bits errs
      let l := tget {} s.setup.lanes (n, 0)
      let l := { l with loss := (l.loss + 1) % 2 ^ 32 }
      ({ s with setup := { s.setup with lanes := tset {} s.setup.lanes (n, 0) l } }.fset .LANE_TEST_lock n 0).event .LANE_TEST_lock_lost n
    else s)

/-- CHECKER_SATURATE (R358): the live bit count has reached 2^48 - 1; both counts stop there. -/
def execCheckerSaturate (octet lane bits errs : Nat) (s : State) : Host.Outcome State Fault Refusal :=
  .next (
    let n := octet * 8 + lane
    if checkerOn s octet lane && s.fbit .LANE_TEST_lock n then
      let s := laneAdd s n bits errs
      if (tget {} s.setup.lanes (n, 0)).bits = 2 ^ 48 - 1 then s.event .LANE_TEST_saturated n else s
    else s)

/-! ### The frame generator (R360, R362) -/

/-- A generated frame (R360). -/
def genFrame (s : State) (q seq : Nat) : List Byte :=
  let body := beBytes 6 (s.fget .PORT_GEN_HDR_dmac q) ++ beBytes 6 (s.fget .SMAC_mac 0) ++ beBytes 2 (s.fget .PORT_GEN_HDR_ethertype q) ++
    beBytes 4 seq ++ testPayload s q seq (s.fget .PORT_TEST_gen_len q - 22)
  body ++ fcsOf body

/-- The next frame's instant has come: the frames sent so far have taken their share of the MAC rate, preamble and gap counted. -/
def genDue (s : State) (q : Nat) : Bool :=
  let t := (s.port q).test
  decide (t.nextAt ≤ s.now) &&
    decide (t.sent * ((s.fget .PORT_TEST_gen_len q + 20) * 8000) ≤ (s.now - t.nextAt) * (portGbps s q * s.fget .PORT_TEST_gen_rate q))

/-- GEN_FRAME_SEND (R360, R362, R363): under far-end PMA loopback the wire carries the partner's own bits. -/
def execGenFrameSend (port : Nat) (s : State) : Host.Outcome State Fault Refusal :=
  .next (
    if decide (port < 256) && s.runs (pdOctet (port / 8)) && portUp s port && s.fbit .PORT_TEST_gen_en port &&
        (tget none s.egress.tx (port, 0)).isNone && genDue s port then
      let t := (s.port port).test
      let b := genFrame s port t.seq
      let s := match s.fget .PORT_TEST_loopback port with
        | 3 => s.emit (.looped port b)
        | 2 => s
        | _ => s.emit (.wire port b false)
      let s := (s.count .txOk port).fset .PORT_CHK_gen_sent port (s.fget .PORT_CHK_gen_sent port + 1)
      let s := s.setPort port { s.port port with test := { t with seq := (t.seq + 1) % 2 ^ 32, sent := t.sent + 1 } }
      if s.fget .PORT_TEST_gen_count port = t.sent + 1 then s.fset .PORT_TEST_gen_en port 0 else s
    else s)

/-! ### The TAP (R368) -/

/-- An instruction is loaded. -/
def tapLoad (s : State) (i : TapInstr) : State := { s with setup := { s.setup with tap := i } }

/-- What the TAP does: every instruction other than BYPASS and IDCODE acts as BYPASS unless RST_N is low. -/
def tapActs (s : State) : TapInstr :=
  match s.setup.tap with
  | .idcode => .idcode
  | i => if s.setup.rstLow then i else .bypass

/-- The identity: stepping B0, the part number, the manufacturer code and 1. -/
def tapId : Nat := 0x15128001 + Config.jedecCode.toNat * 2

/-- BYPASS (R368). -/
def execBypass (s : State) : Host.Outcome State Fault Refusal := .next (tapLoad s .bypass)

/-- IDCODE (R368): the identity is shifted out. -/
def execIdcode (s : State) : Host.Outcome State Fault Refusal := .next ((tapLoad s .idcode).emit (.value tapId))

/-- SAMPLE_PRELOAD (R368). -/
def execSamplePreload (s : State) : Host.Outcome State Fault Refusal := .next (tapLoad s .sample)

/-- EXTEST (R368). -/
def execExtest (s : State) : Host.Outcome State Fault Refusal := .next (tapLoad s .extest)

/-- CLAMP (R368). -/
def execClamp (s : State) : Host.Outcome State Fault Refusal := .next (tapLoad s .clamp)

/-- HIGHZ (R368). -/
def execHighz (s : State) : Host.Outcome State Fault Refusal := .next (tapLoad s .highz)

/-- EXTEST_PULSE (R368). -/
def execExtestPulse (s : State) : Host.Outcome State Fault Refusal := .next (tapLoad s .extestPulse)

/-- EXTEST_TRAIN (R368). -/
def execExtestTrain (s : State) : Host.Outcome State Fault Refusal := .next (tapLoad s .extestTrain)

/-- TAP_RESET (R368): Test-Logic-Reset, where IEEE 1149.1 selects IDCODE. -/
def execTapReset (s : State) : Host.Outcome State Fault Refusal := .next (tapLoad s .idcode)

end Sys2Proof.Machine
end

