-- ==== Sys2Proof/Machine/Links.lean ====
section
/-! DEFINITION. The rows of a link: its conditions, its debounces, auto-negotiation and training, FEC codewords and the
degrade window, pause timers, the hold and the flush (R33 to R37, R43, R45, R46). -/

namespace Sys2Proof.Machine

/-- LINK_CONDITION_CHANGE (R34): lock and faults of a port as the PCS reports them. -/
def execLinkConditionChange (port : Nat) (lock localFault remoteFault : Bool) (s : State) : Host.Outcome State Fault Refusal :=
  .next (
    if port < 256 ∧ portExists s port ∧ s.runs (pdOctet (port / 8)) then
      let s := s.fset .PORT_STATUS_align_lock port (bit lock)
      let s := s.fset .PORT_STATUS_local_fault port (bit localFault)
      linkJudge (s.fset .PORT_STATUS_remote_fault port (bit remoteFault)) port
    else s)

/-- PORT_UP_DEBOUNCE_EXPIRE (R34, R45 step 3a, R46). -/
def execPortUpDebounceExpire (port : Nat) (s : State) : Host.Outcome State Fault Refusal :=
  .next (
    match (s.port port).upFrom with
    | none => s
    | some t =>
      if !portUp s port && upConditions s port && decide (t + 1000 * s.fget .PORT_CFG_up_debounce_us port ≤ s.now) then
        portUpTemplates (declareUp s port) port
      else s)

/-- PORT_DOWN_DEBOUNCE_EXPIRE (R34, R45 steps 1 and 2). -/
def execPortDownDebounceExpire (port : Nat) (s : State) : Host.Outcome State Fault Refusal :=
  .next (
    match (s.port port).downFrom with
    | none => s
    | some t =>
      if portUp s port && decide (t + 1000 * s.fget .PORT_CFG_down_debounce_us port ≤ s.now) then declareDown s port false else s)

/-- AUTONEG_COMPLETE (R33). -/
def execAutonegComplete (port : Nat) (s : State) : Host.Outcome State Fault Refusal :=
  .next (
    if port < 256 ∧ portExists s port ∧ s.fbit .PORT_CFG_admin_en port ∧ (s.port port).anEn ∧ s.runs (pdOctet (port / 8)) then
      linkJudge (s.fset .PORT_STATUS_an_done port 1) port
    else s)

/-- LINK_TRAINING_COMPLETE (R33). -/
def execLinkTrainingComplete (port : Nat) (s : State) : Host.Outcome State Fault Refusal :=
  .next (
    if port < 256 ∧ portExists s port ∧ s.fbit .PORT_CFG_admin_en port ∧ (s.port port).ltEn ∧ s.runs (pdOctet (port / 8)) then
      linkJudge (s.fset .PORT_STATUS_lt_done port 1) port
    else s)

/-- Corrected symbols counted lane by lane (R36). -/
def symCount (s : State) (lane : Nat) (l : List Nat) : State :=
  match l with
  | [] => s
  | k :: l => symCount (s.count .fecSymCorrected lane k) (lane + 1) l

/-- FEC_CODEWORD_DECODE (R36, R37). `corrected` holds the corrected symbols of each lane of the port, lowest lane first; more
than 15 symbol errors in all make the codeword uncorrectable, and then nothing is corrected. It counts while the PCS holds
alignment lock (R38) and touches the frame in reception. -/
def execFecCodewordDecode (port : Nat) (corrected : List Nat) (uncorrectable : Bool) (s : State) : Host.Outcome State Fault Refusal :=
  .next (
    if port < 256 ∧ portExists s port ∧ s.fbit .PORT_STATUS_align_lock port ∧ s.runs (pdOctet (port / 8)) then
      let l := corrected.take (portWidth s port)
      if uncorrectable || decide (15 < l.sum) then
        let p := s.port port
        (s.setPort port { p with fecCount := p.fecCount + 1, rxBad := p.rxBad || p.rx.isSome }).count .fecUncorrected port
      else symCount (s.count (fecBin l.sum) port) port l
    else s)

/-- FEC_DEGRADE_WINDOW_END (R34, R37): a degrade is declared when the window holds at least degrade_thresh uncorrectable
codewords, and cleared when it holds fewer; the next window begins. With degrade_down = 1 the port goes down as the degrade is
declared; one that already stands does not keep it from being declared up again (DESIGN CHOICE, log entry 49). -/
def execFecDegradeWindowEnd (port : Nat) (s : State) : Host.Outcome State Fault Refusal :=
  .next (
    let p := s.port port
    if port < 256 ∧ portExists s port ∧ s.runs (pdOctet (port / 8)) ∧ p.fecFrom + 1000 * s.fget .FEC_DEGRADE_degrade_window_us port ≤ s.now then
      let high := decide (s.fget .FEC_DEGRADE_degrade_thresh port ≤ p.fecCount)
      let was := s.fbit .PORT_STATUS_fec_degraded port
      let s := (s.setPort port { p with fecCount := 0, fecFrom := s.now }).fset .PORT_STATUS_fec_degraded port (bit high)
      if high && !was then
        let s := s.event .PORT_STATUS_degrade_event port
        if s.fbit .PORT_CFG_degrade_down port && portUp s port then declareDown s port false else s
      else s
    else s)

/-- PAUSE_TIMER_EXPIRE (R43): the classes of a priority resume; priority 8 stands for a PAUSE frame's one timer. -/
def execPauseTimerExpire (port prio : Nat) (s : State) : Host.Outcome State Fault Refusal :=
  .next (
    if tget 0 s.buffers.rxPause (port, prio) ≤ s.now then
      { s with buffers := { s.buffers with rxPause := tset 0 s.buffers.rxPause (port, prio) 0 } }
    else s)

/-- HOLD_EXPIRE (R45 step 3b, R391). -/
def execHoldExpire (port : Nat) (s : State) : Host.Outcome State Fault Refusal :=
  .next (
    match holdEnd s port with
    | none => s
    | some t => if t ≤ s.now then flushStart s port else s)

/-- FLUSH_COMPLETE (R45 step 4, R46, R392). -/
def execFlushComplete (port : Nat) (s : State) : Host.Outcome State Fault Refusal :=
  .next (
    if s.fbit .PORT_STATUS_flushing port then
      let s := (s.fset .PORT_STATUS_flushing port 0).fset .PORT_STATUS_hold_active port 0
      if portUp s port then pfcAgain s port else s
    else s)

end Sys2Proof.Machine
end

