-- ==== Sys2Proof/Machine/Milk.lean ====
section
/-! DEFINITION. The rows of the Milk Run: its frames as the management complex receives them, and its timers (R347, R348).
A frame on another port than its direction's is discarded and counted. -/

namespace Sys2Proof.Machine

/-- The pieces of a chunk that have arrived, with a new one; a piece of another chunk starts anew. -/
def piecePut (s : State) (chunk piece : Nat) (data : List Byte) : State :=
  let im := s.images
  let old := if im.pieceChunk = chunk then im.pieces else []
  { s with images := { im with pieceChunk := chunk, pieces := tset [] old (piece, 0) data } }

/-- All eight pieces are there. -/
def piecesFull (s : State) : Bool := (List.range 8).all (fun p => tget [] s.images.pieces (p, 0) != [])

/-- MILK_CHUNK (R344, R347, R348): a chunk is taken when its last piece has arrived. -/
def execMilkChunk (port piece chunk : Nat) (session data : List Byte) (s : State) : Host.Outcome State Fault Refusal :=
  .next (
    if s.runs pdMgmt = false then s
    else if !(s.fbit .UPD_MILK_up_en 0 && s.fget .UPD_MILK_up_port 0 == port) then imgCount s 5
    else if 8 ≤ piece ∨ 768 ≤ chunk ∨ data.length ≠ 8192 then s
    else
      let s := piecePut s chunk piece data
      if piecesFull s = false then s
      else
        let b := (List.range 8).flatMap (fun p => tget [] s.images.pieces (p, 0))
        let s := imgCount { s with images := { s.images with pieces := [] } } 2
        if chunk ≠ 0 ∧ session ≠ milkSession s then chunkHomeless s .milk session else chunkIn s .milk chunk b session)

/-- A frame from downstream is accepted. -/
def fromDown (s : State) (port : Nat) : Bool := s.fbit .UPD_MILK_down_en 0 && s.fget .UPD_MILK_down_port 0 == port

/-- The chunks that a bitmap asks for, rising. -/
def bitmapChunks (b : List Byte) : List Nat := (List.range 768).filter (fun k => bits (byteAt b (k / 8)) (k % 8) 1 == 1)

/-- MILK_NEED (R348): the chunks wanted; it ends a REFUSE and a stall. A NEED for another session asks for nothing here. -/
def execMilkNeed (port : Nat) (session bitmap : List Byte) (s : State) : Host.Outcome State Fault Refusal :=
  .next (
    if s.runs pdMgmt = false then s
    else if fromDown s port = false then imgCount s 5
    else
      let mine := decide (session = milkSession s) && (slotDigest s (inactiveSlot s)).isSome
      let want := if mine then (bitmapChunks bitmap).filter (fun k => !s.images.unacked.any (fun u => u.1 == k)) else []
      let s := { s with images := { s.images with wanted := want, refused := false } }
      milkPump 8 (s.fset .UPD_MILK_chain_stalled 0 0))

/-- MILK_ACK (R348). -/
def execMilkAck (port chunk : Nat) (session : List Byte) (s : State) : Host.Outcome State Fault Refusal :=
  .next (
    if s.runs pdMgmt = false then s
    else if fromDown s port = false then imgCount s 5
    else if session ≠ milkSession s then s
    else milkPump 8 { s with images := { s.images with unacked := s.images.unacked.filter (fun u => u.1 ≠ chunk) } })

/-- MILK_REFUSE (R348): sending stops until a NEED arrives. -/
def execMilkRefuse (port _reason : Nat) (_session : List Byte) (s : State) : Host.Outcome State Fault Refusal :=
  .next (
    if s.runs pdMgmt = false then s
    else if fromDown s port = false then imgCount s 5
    else imgCount { s with images := { s.images with refused := true, unacked := [] } } 7)

/-- MILK_RESEND_TIMEOUT (R348): 2 s without an ACK; after 5 resends the chain is stalled and sending stops. -/
def execMilkResendTimeout (chunk : Nat) (s : State) : Host.Outcome State Fault Refusal :=
  .next (
    match s.images.unacked.find? (fun u => u.1 == chunk) with
    | none => s
    | some (_, t, n) =>
      if milkDown s = false ∨ s.now < t + 2000000000 then s
      else if n < 5 then
        let s := imgCount (sendChunk s chunk) 4
        let l := s.images.unacked.map (fun u => if u.1 = chunk then (chunk, s.now, n + 1) else u)
        { s with images := { s.images with unacked := l } }
      else { s with images := { s.images with unacked := [] } }.fset .UPD_MILK_chain_stalled 0 1)

/-- MILK_NEED_TIMER (R348): a second without a chunk. -/
def execMilkNeedTimer (s : State) : Host.Outcome State Fault Refusal :=
  .next (
    match s.images.needAt with
    | some t => if t + 1000000000 ≤ s.now then sendNeed s else s
    | none => sendNeed s)

end Sys2Proof.Machine
end

