-- ==== Sys2Proof/Machine/RindRows.lean ====
section
/-! DEFINITION. The Rind's own rows: reset sources, the release order, failed starts, the watchdog, critical state, the thermal
guard, the core rail, and the rows that end a block's reset (R319 to R335, R383). -/

namespace Sys2Proof.Machine

/-! ### Sources (R319 to R321, R334, R383) -/

/-- The strap is sampled (R328, R380): at its level that POWER_ON carries, or, at another release, at a level that no row carries, a
free one (log entry 48). -/
def strapSample (s : State) (known : Bool) : State :=
  if known then { s with rind := { s.rind with compatHiz := s.rind.hizBall.getD Config.strapAtReset } }
  else
    let (d, s) := s.draw
    { s with rind := { s.rind with compatHiz := d % 2 == 1, hizBall := some (d % 2 == 1) } }

/-- Sources have been released: the strap is sampled when no level A source is left, and with none left at all the device is
starting (R321, R328). -/
def sourcesLeft (s : State) (l : List ResetSource) (known : Bool) : State :=
  let wasCold := s.rind.sources.any srcCold
  let s := { s with rind := { s.rind with sources := l } }
  let s := if wasCold && !l.any srcCold then strapSample s known else s
  if l.isEmpty then s.fset .RIND_STATUS_mode 0 0 else s

/-- A source is released. -/
def releaseSource (s : State) (r : ResetSource) : State :=
  if s.rind.sources.contains r then sourcesLeft s (s.rind.sources.filter (fun x => x ≠ r)) (r == .powerOn) else s

/-- POWER_ON (R328, R383): the rails have reached their levels. The TAP powers up in Test-Logic-Reset (IEEE 1149.1, R368). -/
def execPowerOn (compatHiz : Bool) (s : State) : Host.Outcome State Fault Refusal :=
  .next (
    if s.rind.sources.contains .powerOn then
      releaseSource { s with rind := { s.rind with hizBall := some compatHiz }, setup := { s.setup with tap := .idcode } } .powerOn
    else s)

/-- POWER_RAIL_FALL (R383): a rail other than VDD_CORE, which is rail 0 of R382, falls below its power-good level. -/
def execPowerRailFall (rails : List Nat) (s : State) : Host.Outcome State Fault Refusal :=
  .next (if rails.any (fun r => 1 ≤ r && r < 14) then assertSource s .powerOn else s)

/-- RST_N_ASSERT (R319): a pulse shorter than 100 ns is ignored and one of at least 1,000 ns is taken; between them the spec
says neither (R380): a free choice. -/
def execRstNAssert (widthNs : Nat) (s : State) : Host.Outcome State Fault Refusal :=
  .next (
    let go (s : State) : State := assertSource { s with setup := { s.setup with rstLow := true } } .rstN
    if widthNs < 100 then s
    else if 1000 ≤ widthNs then go s
    else
      let (d, s) := s.draw
      if d % 2 = 0 then go s else s)

/-- RESET_SOURCE_RELEASE (R321). Power-on and the thermal trip have rows of their own; a level C source's release lets PCIe
go on. -/
def execResetSourceRelease (source : ResetSource) (s : State) : Host.Outcome State Fault Refusal :=
  match source with
  | .perst => execPerstRelease s
  | .powerOn => .next s
  | .thermTrip => .next s
  | .rstN => .next (releaseSource { s with setup := { s.setup with rstLow := false } } .rstN)
  | r => .next (releaseSource s r)

/-- BROWNOUT (R335): VDD_CORE below 0.620 V for 2 us. -/
def execBrownout (vcoreMv : Nat) (s : State) : Host.Outcome State Fault Refusal :=
  .next (if vcoreMv < 620 then assertSource s .brownout else s)

/-- THERMAL_TRIP (R334): THERM_TRIP_N is driven low, every domain goes off together, and level A asserts. -/
def execThermalTrip (s : State) : Host.Outcome State Fault Refusal :=
  .next (assertSource { s with rind := { s.rind with tripLow := true } } .thermTrip)

/-- THERMAL_TRIP_RELEASE (R334): every valid sensor reads below 100 degrees. -/
def execThermalTripRelease (s : State) : Host.Outcome State Fault Refusal :=
  .next (
    if s.rind.sources.contains .thermTrip then releaseSource { s with rind := { s.rind with tripLow := false } } .thermTrip else s)

/-- CRITICAL_STATE_ERROR (R329): places 1 to 6 are outside the Rind, 7 and 8 in it. -/
def execCriticalStateError (place : Nat) (s : State) : Host.Outcome State Fault Refusal :=
  .next (
    if place = 0 ∨ 8 < place then s
    else (assertSource s (if place ≤ 6 then .critB else .critA)).fset .RESET_CAUSE_crit_where 0 place)

/-! ### The release order (R322 to R326) -/

/-- Recovery is latched (R325). -/
def recoveryLatched (s : State) : Bool := s.fbit .START_STATUS_recovery 0

/-- The last step released. -/
def stepReached (s : State) : Nat := s.fget .START_STATUS_step_reached 0

/-- The next step of the order: PCIe is skipped while PERST# is asserted (R321), and recovery mode runs the Rind, the clocks and
PCIe only (R326). -/
def nextStep (s : State) : Nat :=
  let n := stepReached s
  if recoveryLatched s then (if n < 2 then n + 1 else if n < 7 ∧ s.host.perst = false then 7 else 11)
  else if n + 1 = 7 ∧ s.host.perst then 8
  else n + 1

/-- The gap of a step in ns (R322). -/
def gapNs (s : State) (n : Nat) : Nat :=
  (if n = 1 then 0 else if n = 2 then 250 else 25) * 40 * 2 ^ s.rind.fuses.gapScale

/-- The clock-good window of a step in ns (R322). -/
def windowNs (s : State) (n : Nat) : Nat :=
  [0, 50000, 5000, 2500, 25000, 2500, 2500, 5000, 2500, 2500, 12500].getD n 0 * 40 * 2 ^ s.rind.fuses.winScale

/-- A step is PCIe's, left out in the order and due now that its source is released (R321). -/
def latePcie (s : State) (n : Nat) : Bool := n == 7 && decide (7 ≤ stepReached s) && !s.rind.pcieUp && !s.host.perst

/-- A step's clock may be enabled: every source released, its place in the order reached, its gap over (R322). -/
def stepDue (s : State) (n : Nat) : Bool :=
  s.rind.sources.isEmpty && decide (1 ≤ n) && decide (n ≤ 10) && !s.rind.clocks.any (fun c => c.1 == n) &&
    ((latePcie s n && decide (s.rind.pcieFrom + gapNs s n ≤ s.now)) ||
      (n == nextStep s && s.rind.clocks.all (fun c => c.1 == 7) && decide (s.rind.lastRelease + gapNs s n ≤ s.now)))

/-- The domains of a step (R322, R330; those the table does not place go with the core mesh, log entry 38). -/
def stepDomains (n : Nat) : List Nat :=
  match n with
  | 3 => [157]
  | 5 => [136, 137, 138, 139]
  | 6 => (List.range 24).map (fun i => 112 + i) ++ (List.range 16).map (fun i => 140 + i) ++ [158, 159]
  | 7 => [156]
  | 8 => (List.range 16).map (fun i => 32 + i)
  | 9 => (List.range 64).map (fun i => 48 + i)
  | 10 => List.range 32
  | _ => []

/-- A start fails (R325): counted unless the image is in trial; at the threshold recovery is latched. `kind` is last_fail. -/
def startFail (s : State) (kind step : Nat) : State :=
  let trial := (bootNow s).trial && !recoveryLatched s
  let n := if trial then s.fget .START_STATUS_failed_count 0 else min 7 (s.fget .START_STATUS_failed_count 0 + 1)
  let latch := recoveryLatched s || (!trial && decide (s.fget .START_STATUS_fail_threshold 0 ≤ n))
  let s := assertSource s .failedStart
  let s := { s with images := { s.images with revert := s.images.revert || trial } }
  let s := ((s.fset .START_STATUS_failed_count 0 n).fset .START_STATUS_last_fail 0 kind).fset .START_STATUS_fail_step 0 step
  s.fset .START_STATUS_recovery 0 (bit latch)

/-- The trial rules of R353, which the boot ROM applies first (R342). -/
def bootStart (s : State) : State :=
  let r := bootNow s
  if r.trial = false then s
  else if r.trialStarts = 2 ∨ s.images.revert then
    let s := bootWrite s { r with active := r.previous, previous := r.active, activeDigest := r.previousDigest,
                                  previousDigest := r.activeDigest, trial := false, trialStarts := 0, auto := 0 } .start
    ({ s with images := { s.images with revert := false } }).fset .UPD_STATUS_last_event 0 3
  else bootWrite s { r with trialStarts := r.trialStarts + 1 } .start

/-- The slot of a start (R342): the record's active one, else the previous one, if it authenticates. -/
def bootSlot (s : State) : Option Nat :=
  let r := bootNow s
  if slotAuth s r.active then some r.active else if slotAuth s r.previous then some r.previous else none

/-- A slot runs: the digests of its components, and the SVN bits of a confirmed image (R353). -/
def bootTake (s : State) (slot : Nat) : State :=
  let r := bootNow s
  let im := { s.images with runs := if slot = r.active then none else some slot, running := slotDigests s slot }
  let s := { s with images := im }
  updShow (if slot = r.active ∧ r.trial = false then fuseSvn s (imgSvn (chunkBytes s slot 0)) else s)

/-- Both banks of every store are loaded from the active slot (R164). -/
def loadBanks (s : State) : State :=
  let b := slotBundle s (activeSlot s)
  { s with churn := { s.churn with bank0 := b, bank1 := b } }

/-- A step's clock is enabled. -/
def clockOn (s : State) (n : Nat) : State := { s with rind := { s.rind with clocks := s.rind.clocks ++ [(n, s.now)] } }

/-- Failing lanes that spares replace: those of groups with at most two (R365). -/
def lanesRepaired (l : List (Nat × Nat × Nat)) : Nat := ((l.filter (fun x => x.2.2 ≤ 2)).map (fun x => x.2.2)).sum

/-- The tiles or stacks below `n` with a group past its spares, one bit each (R365). -/
def linksFailed (l : List (Nat × Nat × Nat)) (n : Nat) : Nat :=
  ((List.range n).map (fun k => bit (l.any (fun x => x.1 == k && decide (2 < x.2.2))) * 2 ^ k)).sum

/-- A cluster with an unrepairable memory is quarantined for the start (R366). -/
def memQuarantine (s : State) (c : Nat) : State := (s.fset .CLUSTER_QUARANTINE_bits c 1).event .MCK_STATUS_quarantine_event 0

/-- A cluster's power domain. -/
def isCluster (pd : Nat) : Bool := decide (48 ≤ pd ∧ pd < 112)

/-- What the tests of a start do: memory BIST before step 4 (R366), the HBM channels before step 5 and the die-to-die links
before step 10 (R365). -/
def startTests (s : State) (n : Nat) (t : StartTests) : State :=
  match n with
  | 4 =>
    let s := (s.fset .BIST_STATUS_mem_repaired 0 (min 65535 t.memRepaired)).fset .BIST_STATUS_mem_failed 0 (min 65535 t.memFailed.length)
    let s := (s.fset .BIST_STATUS_first_pd 0 (t.memFailed.headD 0)).fset .BIST_STATUS_any_failed 0 (bit (!t.memFailed.isEmpty))
    let s := ((t.memFailed.filter isCluster).map (fun p => p - 48)).foldl memQuarantine s
    { s with rind := { s.rind with memHeld := t.memFailed.any (fun p => !isCluster p) } }
  | 5 => (s.fset .REPAIR_LINKS_hbm_repaired 0 (lanesRepaired t.hbm)).fset .REPAIR_LINKS_hbm_failed 0 (linksFailed t.hbm 4)
  | 10 => (s.fset .REPAIR_LINKS_d2d_repaired 0 (lanesRepaired t.d2d)).fset .REPAIR_LINKS_d2d_failed 0 (linksFailed t.d2d 8)
  | _ => s

/-- DOMAIN_RELEASE (R322). Step 2 waits for the boot ROM: its trial record is written and a slot authenticates. Step 8's
prerequisite is never met with a failed HBM stack (R365); the image's default contents are written before it. -/
def execDomainRelease (step : Nat) (tests : StartTests) (s : State) : Host.Outcome State Fault Refusal :=
  .next (
    if stepDue s step = false ∨ (step = 8 ∧ s.fget .REPAIR_LINKS_hbm_failed 0 ≠ 0) then s
    else if step = 2 ∧ recoveryLatched s = false then
      if s.images.writing.isSome then s
      else match bootSlot s with
        | some slot => clockOn (bootTake s slot) 2
        | none => startFail s 3 2
    else if step = 8 then clockOn (loadDefaults s) 8
    else if step = 9 then clockOn (loadBanks s) 9
    else clockOn (startTests s step tests) step)

/-- A nonzero stream epoch that differs from the one before, or any nonzero one where that cannot be read (R245). -/
def drawEpoch (old r : Nat) (lost : Bool) : Nat := if old = 0 ∨ lost then 1 + r % 255 else 1 + (old + r % 254) % 255

/-- In recovery mode every domain but PCIe is held in reset and off (R326, R330). -/
def recoveryHold (s : State) : State :=
  updShow (((List.range 160).filter (fun pd => pd ≠ 156)).foldl (fun s pd => setHeld s pd true) (s.fset .RIND_STATUS_mode 0 2))

/-- At step 1 the Rind sets VDD_CORE to the target taken from the fused process code and the temperature: of the values in range
which, the spec does not say (R335, log entry 17). -/
def avsStart (s : State) : State :=
  let (d, s) := s.draw
  { s with rind := { s.rind with avsAt := some s.now } }.fset .RAIL_target_mv 0 (680 + 5 * (d % 25))

/-- Step 1: the Rind runs, and draws K_flow, unless one is pinned, K_lb and the stream epoch (R65, R89, R245). Whether the stored epoch
can be read is an event that no row carries, a free one (log entry 17). -/
def rindUp (s : State) : State :=
  let (a, s) := s.draw
  let (b, s) := s.draw
  let (c, s) := s.draw
  let (d, s) := s.draw
  let (e, s) := s.draw
  let (f, s) := s.draw
  let k := s.rind.sealedKey.getD (a, b)
  let s := { s with cellar := { s.cellar with kFlow := k }, setup := { s.setup with kLb := (c, d) },
                    fabric := { s.fabric with epoch := drawEpoch s.fabric.epoch e (f % 2 == 1) }, rind := { s.rind with ownPins := true } }
  let s := pinShow s s.rind.sealedKey.isSome
  let s := avsStart s
  if recoveryLatched s then recoveryHold s else bootStart s

/-- A domain comes on at its step, but for one switched off, a quarantined cluster and an octet of a failed tile; a held one stays in
reset (R322, R330, R365). -/
def domainUp (s : State) (pd : Nat) : State :=
  if pdQuarantined s pd || s.tileFailed pd || s.rind.offs.contains pd then s else setHeld (s.fset .PD_STATE_on pd 1) pd (s.rind.holds.contains pd)

/-- A step is released. -/
def stepRelease (s : State) (n : Nat) : State :=
  let r := { s.rind with clocks := s.rind.clocks.filter (fun c => c.1 ≠ n), lastRelease := s.now }
  let s := { s with rind := r }.fset .START_STATUS_step_reached 0 (max n (stepReached s))
  let s := (stepDomains n).foldl domainUp s
  match n with
  | 1 => rindUp s
  | 3 => { s with rind := { s.rind with otherPins := true, windowFrom := some s.now, kickAt := s.now } }
  | 7 => { s with rind := { s.rind with pcieUp := true }, host := { s.host with linkUp := !s.host.perst } }
  | _ => s

/-- The clock of a step, enabled and not yet good. -/
def clockOf (s : State) (n : Nat) : Option Nat := (s.rind.clocks.find? (fun c => c.1 == n)).map (fun c => c.2)

/-- CLOCK_GOOD (R322): within its window the domain is released. PCIe is not released while PERST# is asserted, nor step 4 while
an unrepairable memory holds it (R366). -/
def execClockGood (step : Nat) (s : State) : Host.Outcome State Fault Refusal :=
  .next (
    match clockOf s step with
    | none => s
    | some t => if s.now ≤ t + windowNs s step ∧ !(step = 7 ∧ s.host.perst) ∧ !(step = 4 ∧ s.rind.memHeld) then stepRelease s step else s)

/-- RELEASE_WINDOW_EXPIRE (R325). -/
def execReleaseWindowExpire (step : Nat) (s : State) : Host.Outcome State Fault Refusal :=
  .next (
    match clockOf s step with
    | none => s
    | some t => if t + windowNs s step ≤ s.now ∧ !(step = 7 ∧ s.host.perst) then startFail s 1 step else s)

/-- START_WINDOW_EXPIRE (R325): of fail_step the spec states no value here, a free one. -/
def execStartWindowExpire (s : State) : Host.Outcome State Fault Refusal :=
  .next (
    match s.rind.windowFrom with
    | none => s
    | some t =>
      if s.fbit .START_STATUS_start_complete 0 = false ∧ t + startWindowNs s ≤ s.now then
        let (d, s) := s.draw
        startFail s 2 (d % 16)
      else s)

/-! ### The watchdog (R319) -/

/-- The watchdog timeout in ns. -/
def wdogNs (s : State) : Nat := 1000000 * s.fget .RIND_STATUS_wdog_ms 0

/-- The management complex has been released and nothing above holds it. -/
def wdogRuns (s : State) : Bool := s.rind.sources.isEmpty && decide (3 ≤ stepReached s) && !recoveryLatched s

/-- WATCHDOG_KICK (R319). -/
def execWatchdogKick (s : State) : Host.Outcome State Fault Refusal :=
  .next (if wdogRuns s then { s with rind := { s.rind with kickAt := s.now, stage1 := false } } else s)

/-- WATCHDOG_STAGE1 (R319): a level D reset of the management complex. -/
def execWatchdogStage1 (s : State) : Host.Outcome State Fault Refusal :=
  .next (
    if wdogRuns s && !s.rind.stage1 && decide (s.rind.kickAt + wdogNs s ≤ s.now) then
      let s := domainReset ((s.fset .RIND_STATUS_wdog_stage1 0 1).fset .RESET_CAUSE_wdog_mgmt 0 1) 157
      { s with rind := { s.rind with stage1 := true } }
    else s)

/-- WATCHDOG_STAGE2 (R319): level B. -/
def execWatchdogStage2 (s : State) : Host.Outcome State Fault Refusal :=
  .next (if wdogRuns s && s.rind.stage1 && decide (s.rind.kickAt + wdogNs s ≤ s.now) then assertSource s .watchdog else s)

/-! ### The thermal guard (R332, R333) -/

/-- A reading is out of the range of a valid sensor, in quarters of a degree. -/
def outOfRange (c : Int) : Bool := c < -160 || 600 < c

/-- A neighbour has moved by more than 2 degrees. -/
def movedFar (a b : Int) : Bool := 8 < (a - b).natAbs

/-- One sensor's report: its state, and whether it is valid (R332). Neighbours are the sensors numbered next to it. -/
def senseOne (s : State) (l : List Int) (i : Nat) : Sensor × Bool :=
  let v := l.getD i 0
  let lo := l.getD (i - 1) 0
  let hi := l.getD (i + 1) 0
  let o := tget {} s.rind.sensors (i, 0)
  let n : Sensor := if v = o.code ∧ o ≠ {} then o else { code := v, since := s.now, below := lo, above := hi }
  let stuck := decide (n.since + 1000000000 ≤ s.now) && (i == 0 || movedFar lo n.below) && (63 ≤ i || movedFar hi n.above)
  (n, !(outOfRange v || stuck))

/-- The stage for a junction temperature (R333): a stage is left 2 degrees below its threshold. -/
def stageFor (s : State) (tj : Int) : Nat :=
  let t : Int := 4 * s.fget .THERMAL_throttle_point 0
  let cur := s.fget .THERMAL_stage 0
  let ok (k : Nat) : Bool :=
    let th := t + [0, 0, 8, 16, 20, 24].getD k 0
    decide (th ≤ tj) || (decide (k ≤ cur) && decide (th - 8 < tj))
  (([1, 2, 3, 4, 5].filter ok).max?).getD 0

/-- A stage is entered: the Strainer level and the Vat cut follow (R112, R134, R333). -/
def stageSet (s : State) (k : Nat) : State :=
  if k = s.fget .THERMAL_stage 0 then s
  else
    let s := (s.fset .THERMAL_stage 0 k).fset .STR_STATUS_throttle_level 0 ([0, 1, 1, 2, 2, 3].getD k 0)
    (vatCutShow s).event .RIND_EVT_throttle_event 0

/-- THERMAL_REPORT (R332, R333): the readings of sensors 0 to 63 in quarters of a degree, every 100 us. Of a junction temperature
below 0 tj_q2 has no stated value: a free one. -/
def execThermalReport (readings : List Int) (s : State) : Host.Outcome State Fault Refusal :=
  .next (
    if rindRuns s = false ∨ readings.length ≠ 64 then s
    else
      let l := (List.range 64).map (fun i => (i, senseOne s readings i))
      let bad := (l.filter (fun x => !x.2.2)).map (fun x => x.1)
      let new := bad.any (fun i => !s.rind.invalid.contains i)
      let r := { s.rind with sensors := l.foldl (fun t x => tset {} t (x.1, 0) x.2.1) s.rind.sensors, invalid := bad }
      let s := { s with rind := r }.fset .THERMAL_invalid_sensors 0 bad.length
      let s := if new then s.event .RIND_EVT_sensor_event 0 else s
      let good := l.filter (fun x => x.2.2)
      let top := (good.map (fun x => x.2.1.code)).max?
      let high : Int := 4 * s.fget .THERMAL_throttle_point 0 + 24
      let tj := match top with
        | none => high
        | some t => if 16 < bad.length then max t high else t
      let s := match good.find? (fun x => some x.2.1.code == top) with
        | some x => s.fset .THERMAL_hot_sensor 0 x.1
        | none => s
      let (d, s) := if tj < 0 then s.draw else (0, s)
      let s := s.fset .THERMAL_tj_q2 0 (if tj < 0 then d else tj.toNat)
      updShow (stageSet s (stageFor s tj)))

/-! ### The core rail (R335) -/

/-- margin_low follows the rail and the pin; its rise is an event. -/
def marginShow (s : State) : State :=
  let low := s.rind.marginPin || s.rind.railLow
  let s' := s.fset .RAIL_margin_low 0 (bit low)
  updShow (if low && !s.fbit .RAIL_margin_low 0 then s'.event .RIND_EVT_margin_event 0 else s')

/-- RAIL_MARGIN_LOW (R335): below target - 30 mV for 100 us, or PWR_MARGIN_N held low. -/
def execRailMarginLow (byPin : Bool) (vcoreMv : Nat) (s : State) : Host.Outcome State Fault Refusal :=
  .next (
    if byPin then marginShow { s with rind := { s.rind with marginPin := true } }
    else if vcoreMv + 30 < s.fget .RAIL_target_mv 0 then
      marginShow ({ s with rind := { s.rind with railLow := true } }.fset .RAIL_vcore_mv 0 vcoreMv)
    else s)

/-- RAIL_MARGIN_RESTORE (R335): the rail is back above its margin and the pin is high. -/
def execRailMarginRestore (vcoreMv : Nat) (s : State) : Host.Outcome State Fault Refusal :=
  .next (
    if s.fget .RAIL_target_mv 0 ≤ vcoreMv + 30 then
      marginShow ({ s with rind := { s.rind with marginPin := false, railLow := false } }.fset .RAIL_vcore_mv 0 vcoreMv)
    else s)

/-- An AVSBus transaction goes unanswered: three in a row are a fault (R335). -/
def avsMiss (s : State) : State :=
  let n := s.rind.avsMissed + 1
  let s := { s with rind := { s.rind with avsMissed := n } }
  if n = 3 then (s.fset .RAIL_avs_fault 0 1).event .RIND_EVT_avs_event 0 else s

/-- AVS_TARGET_REVISE (R335): at most once per ms, within 0.680 to 0.800 V in 5 mV steps. -/
def execAvsTargetRevise (targetMv : Nat) (answered : Bool) (s : State) : Host.Outcome State Fault Refusal :=
  .next (
    let paced := match s.rind.avsAt with | some t => decide (t + 1000000 ≤ s.now) | none => true
    if rindRuns s && paced && !s.fbit .RAIL_avs_fault 0 && decide (680 ≤ targetMv) && decide (targetMv ≤ 800) && targetMv % 5 == 0 then
      let s := { s with rind := { s.rind with avsAt := some s.now } }
      if answered then { s with rind := { s.rind with avsMissed := 0 } }.fset .RAIL_target_mv 0 targetMv else avsMiss s
    else s)

/-- AVS_RETRY (R335): every 10 ms after a fault. -/
def execAvsRetry (answered : Bool) (vcoreMv icoreA : Nat) (s : State) : Host.Outcome State Fault Refusal :=
  .next (
    let paced := match s.rind.avsAt with | some t => decide (t + 10000000 ≤ s.now) | none => true
    if rindRuns s && paced && s.fbit .RAIL_avs_fault 0 then
      let s := { s with rind := { s.rind with avsAt := some s.now } }
      if answered then
        ((({ s with rind := { s.rind with avsMissed := 0 } }).fset .RAIL_avs_fault 0 0).fset .RAIL_vcore_mv 0 vcoreMv).fset
          .RAIL_icore_a 0 icoreA
      else s
    else s)

/-! ### The end of a block's reset (R68, R119, R137, R164) -/

/-- SLICE_RESTORE_DONE (R68). -/
def execSliceRestoreDone (slice : Nat) (s : State) : Host.Outcome State Fault Refusal :=
  .next (if slice < 16 ∧ s.fbit .PD_STATE_on (pdSlice slice) then domainOpen s (pdSlice slice) else s)

/-- A bank resumes after its flush, unless its domain is to be switched off (R119). -/
def bankResume (s : State) (bank : Nat) : State :=
  if s.rind.switching.contains (pdBank bank, false) then s
  else s.fset .SKIM_STATUS_bank_held 0 (s.fget .SKIM_STATUS_bank_held 0 - 2 ^ bank)

/-- SKIM_BANK_FLUSH_DONE (R119): the bank's contents are written back, and it resumes empty; a RESET_DOMAIN that waits is answered. -/
def execSkimBankFlushDone (bank : Nat) (s : State) : Host.Outcome State Fault Refusal :=
  .next (
    if bank < 16 ∧ hasBit (s.fget .SKIM_STATUS_bank_held 0) bank ∧ bankIdleNow s bank then
      let s := bankResume (bankFlush s bank) bank
      if (s.rind.mbx.map (fun r => r.waits)) = some (.flush bank) then mbxFinish s 0 0 0 else s
    else s)

/-- STRAINER_BLOCK_RELOAD_DONE (R137). -/
def execStrainerBlockReloadDone (block : Nat) (s : State) : Host.Outcome State Fault Refusal :=
  .next (if block < 8 ∧ s.fbit .PD_HELD_held (128 + block) then domainOpen (blockReload s block) (128 + block) else s)

/-- CLUSTER_RELOAD_DONE (R164): the stores hold good words again. -/
def execClusterReloadDone (cluster : Nat) (s : State) : Host.Outcome State Fault Refusal :=
  .next (
    if s.churn.reloading.contains cluster then
      let l := s.churn.faulty.filter (fun x => x.1.cluster ≠ cluster)
      let c := { s.churn with reloading := s.churn.reloading.filter (fun x => x ≠ cluster), faulty := l }
      domainOpen ({ s with churn := c }.fset .MCK_STATUS_reload_pending 0 (bit (!l.isEmpty))) (pdCluster cluster)
    else s)

end Sys2Proof.Machine
end

