-- ==== Sys2Proof/Machine/Tickets.lean ====
section
/-! DEFINITION. Tickets and scheduled activation, the drained bank, boot records as they are done, and start-complete (R186,
R187, R323, R341, R349 to R355). -/

namespace Sys2Proof.Machine

/-! ### What a ticket is judged by (R350, R351) -/

/-- The digest of a component of a slot's image differs from the running one. -/
def compDiffers (s : State) (slot t : Nat) : Bool := tget 0 (slotDigests s slot) (t, 0) != tget 0 s.images.running (t, 0)

/-- A scope covers every component that differs (R351). -/
def scopeCovers (s : State) (slot scope : Nat) : Bool :=
  scope == 2 || (!compDiffers s slot 1 && (scope == 1 || !compDiffers s slot 3))

/-- The tables of a ticket are staged (R128 step 1, R352 step 1): current entries valid in e only, the image's in e' only. -/
def tablesStage (s : State) (b : List Byte) : State :=
  let e := 2 ^ s.fget .PUBLISH_STATUS_parity 0
  tablesEnter (mapEpoch s (fun x => if hasBit x (s.fget .PUBLISH_STATUS_parity 0) then e else x)) (Config.strainerTables b) (3 - e)

/-- The fields of a ticket body (R349). -/
def tkDigest (b : List Byte) : Nat := leAt b 0 48
def tkInstant (b : List Byte) : Nat := leAt b 48 6 * 1000000000 + leAt b 54 4
def tkScope (b : List Byte) : Nat := leAt b 68 1 % 4
def tkTables (b : List Byte) : Bool := bits (leAt b 68 1) 2 1 == 1
def tkAuto (b : List Byte) : Nat := leAt b 70 2

/-- Disarmed trigger units. -/
def freeUnits (s : State) : List Nat :=
  (List.range 8).filter (fun u => s.runs pdTime && !s.fbit .TRIG_CTL_arm u && !s.fbit .TRIG_CTL_fw_owned u)

/-- The status with which a ticket body is refused, or 0: rows 5 to 11 of R350. -/
def ticketCheck (s : State) (b : List Byte) : Nat :=
  let n := inactiveSlot s
  let t := tkInstant b
  if !hasBit (leAt b 60 8) (s.fget .UPD_STATUS_update_group 0) then 6
  else if updBusy s then 5
  else if refusalOf s false != 0 then 10
  else if slotState s n != 3 || slotDigest s n != some (tkDigest b) then 10
  else if !scopeCovers s n (tkScope b) || (tkTables b && !tablesFit s (tableBytes s n)) then 10
  else if t < s.devNs + 10000000 ∨ s.devNs + 30 * 86400 * 1000000000 < t then 1
  else if (freeUnits s).isEmpty then 10
  else 0

/-- A trigger unit is taken for a ticket: a one-shot at the instant, the firmware target and, for a publish, the publish target. -/
def ticketUnit (s : State) (u t : Nat) (pub : Bool) : State :=
  let s := (s.fset .TRIG_START_HI_sec u (t / 1000000000)).fset .TRIG_START_LO_ns u (t % 1000000000)
  let s := (s.fset .TRIG_PERIOD_period_ns u 0).fset .TRIG_CTL_targets u (16 + 8 * bit pub)
  trigArm ((s.fset .TRIG_CTL_out_mask u 0).fset .TRIG_CTL_fw_owned u 1) u

/-- An accepted ticket (R352 step 1). Which disarmed unit it takes is a free choice. -/
def ticketAccept (s : State) (b : List Byte) : State :=
  let n := inactiveSlot s
  let (r, s) := s.draw
  let l := freeUnits s
  let u := l.getD (r % l.length) 0
  let bundle := tkScope b != 2 && compDiffers s n 4
  let tables := tkScope b != 2 && tkTables b
  let t : Ticket := { digest := tkDigest b, instant := tkInstant b, scope := tkScope b, tables := tables, auto := tkAuto b, unit := u,
                      bundle := bundle, staged := false, checked := false }
  let s := { s with images := { s.images with ticket := some t } }
  let s := ticketUnit s u t.instant (bundle || tables)
  let s := (s.fset .UPD_STATUS_ticket_pending 0 1).fset .UPD_STATUS_ticket_scope 0 t.scope
  let s := if tables then tablesStage s (tableBytes s n) else s
  if bankFree s then bankIdle s else s.fset .PUBLISH_STATUS_ready 0 0

/-- TICKET_SUBMIT (R349, R350). -/
def execTicketSubmit (m : MbxReq) (s : State) : Host.Outcome State Fault Refusal :=
  .next (mbxRow 0x74 m (fun s =>
    let c := envCheck s m 1
    let b := envBody m.data 1
    if c != 0 then mbxDone s m c 0 0
    else if ticketCheck s b != 0 then mbxDone s m (ticketCheck s b) 0 0
    else mbxWait (ticketAccept (envAccept s m) b) m (.logWrite 0 0 0)) s)

/-- TICKET_CANCEL (R346). -/
def execTicketCancel (m : MbxReq) (s : State) : Host.Outcome State Fault Refusal :=
  .next (mbxRow 0x75 m (fun s =>
    match s.images.ticket with
    | some t => if s.devNs + 100000 < t.instant then mbxDone (ticketDrop s 0) m 0 0 0 else mbxDone s m 10 0 0
    | none => mbxDone s m 10 0 0) s)

/-- ACTIVATION_CHECK (R352): 100 us before the instant. -/
def execActivationCheck (s : State) : Host.Outcome State Fault Refusal :=
  .next (
    match s.images.ticket with
    | none => s
    | some t =>
      if t.checked ∨ s.devNs + 100000 < t.instant then s
      else if ticketOk s t then { s with images := { s.images with ticket := some { t with checked := true } } }
      else ticketDrop s 4)

/-! ### An activation goes on (R352 steps 4 to 7) -/

/-- The activation is complete (R352 step 7). -/
def activationEnd (s : State) (a : Activation) : State :=
  let at0 := if a.auto = 0 then none else some (s.now + a.auto * 1000000000)
  updShow ({ s with images := { s.images with activation := none, confirmAt := at0 } }.fset .UPD_STATUS_last_event 0 1)

/-- An octet retrains with the new DSP firmware; one whose domain is off has nothing to reset. -/
def octetRetrain (s : State) (a : Activation) (n : Nat) : State :=
  let s := { s with images := { s.images with activation := some { a with phase := .octet n s.now } } }
  if s.fbit .PD_STATE_on n then domainReset s n else s

/-- What runs now of a component is the slot's. -/
def runsNow (s : State) (slot t : Nat) : State :=
  { s with images := { s.images with running := tset 0 s.images.running (t, 0) (tget 0 (slotDigests s slot) (t, 0)) } }

/-- Step 6, or the end. -/
def activationPorts (s : State) (a : Activation) : State := if a.scope = 1 then octetRetrain s a 0 else activationEnd s a

/-- Steps 4 and 5 once the record is written and the old bank mirrored: the tables settle, and the management complex restarts
when Mladund differs. -/
def activationSettle (s : State) : State :=
  match s.images.activation with
  | none => s
  | some a =>
    if a.phase = .drain ∧ a.recorded ∧ bankFree s then
      let s := if a.tables then tablesDone s else s
      if compDiffers s a.slot 2 then
        domainReset { s with images := { s.images with activation := some { a with phase := .restart } } } pdMgmt
      else activationPorts s a
    else s

/-- MLADUND_RESTART_DONE (R352 step 5, R319, R355): the management complex has restarted, after an activation from the new slot.
The Milk Run resumes through NEED. -/
def execMladundRestartDone (s : State) : Host.Outcome State Fault Refusal :=
  .next (
    if !s.fbit .PD_STATE_on pdMgmt || !s.fbit .PD_HELD_held pdMgmt || s.rind.holds.contains pdMgmt then s
    else
      let s := domainOpen s pdMgmt
      let s := match s.images.activation with
        | some a => if a.phase = .restart then activationPorts (runsNow s a.slot 2) a else s
        | none => s
      sendNeed s)

/-- Every port of an octet is up. -/
def octetUp (s : State) (n : Nat) : Bool := (List.range 8).all (fun i => !portExists s (8 * n + i) || portUp s (8 * n + i))

/-- OCTET_RETRAIN_NEXT (R352 step 6): every port of the octet is up, or 1 s has passed. -/
def execOctetRetrainNext (s : State) : Host.Outcome State Fault Refusal :=
  .next (
    match s.images.activation with
    | none => s
    | some a => match a.phase with
      | .octet n t =>
        if octetUp s n = false ∧ s.now < t + 1000000000 then s
        else if n < 31 then octetRetrain s a (n + 1)
        else activationEnd (runsNow s a.slot 3) a
      | _ => s)

/-- BOOT_RECORD_WRITE_DONE (R341): the record is in force. Of a CHIP activation the level B reset is asserted now; of a
confirmation the SVN is fused (R353). An activation that waited for another record writes its own. -/
def execBootRecordWriteDone (s : State) : Host.Outcome State Fault Refusal :=
  .next (
    match s.images.writing with
    | none => s
    | some (r, why) =>
      let s := updShow (bootPut s r)
      let again (s : State) : State := match s.images.activation with
        | some a => if a.recorded then s else activationRecord s a
        | none => s
      match why with
      | .activate =>
        match s.images.activation with
        | none => s
        | some a =>
          let s := { s with images := { s.images with runs := none, activation := some { a with recorded := true } } }
          if a.scope = 2 then assertSource s .updateAct else activationSettle (updShow s)
      | .confirm => again (updShow (fuseSvn (s.fset .UPD_STATUS_last_event 0 2) (imgSvn (chunkBytes s (activeSlot s) 0))))
      | .start => again s
      | .recovery => again s)

/-! ### The bank that drains (R186, R187, R352) -/

/-- DRAIN_COMPLETE (R186): nothing of the old parity remains. -/
def execDrainComplete (s : State) : Host.Outcome State Fault Refusal :=
  .next (if s.fbit .PUBLISH_STATUS_draining 0 ∧ drainCount s = 0 then activationSettle (drainDone s) else s)

/-- BANK_MIRROR_COMPLETE (R187): Mladund has restaged the drained bank. -/
def execBankMirrorComplete (s : State) : Host.Outcome State Fault Refusal :=
  .next (
    if s.fbit .PUBLISH_STATUS_staging 0 ∧ s.churn.incoming = none ∧ s.runs pdMgmt then activationSettle (mirrorDone s) else s)

/-- BUNDLE_STAGING_COMPLETE (R352): the bundle that was being written is in the bank that is not current. -/
def execBundleStagingComplete (s : State) : Host.Outcome State Fault Refusal :=
  .next (
    match s.churn.incoming with
    | none => s
    | some b =>
      if s.fbit .PUBLISH_STATUS_staging 0 = false ∨ s.runs pdMgmt = false then s
      else
        let c := { s.churn with incoming := none }
        let c := if parityNow s = 0 then { c with bank1 := b } else { c with bank0 := b }
        let mine (t : Ticket) : Bool := t.bundle && decide (b = slotBundle s (inactiveSlot s))
        let im := { s.images with ticket := s.images.ticket.map (fun t => if mine t then { t with staged := true } else t) }
        bankIdle { s with churn := c, images := im })

/-! ### Start-complete (R323, R348, R352) -/

/-- A start may complete: step 10 released, nothing held above it, Mladund running and every cluster loaded. -/
def startReady (s : State) : Bool :=
  rindRuns s && stepReached s == 10 && !recoveryLatched s && !s.fbit .START_STATUS_start_complete 0 && s.runs pdMgmt &&
    s.churn.reloading.isEmpty

/-- START_COMPLETE (R323): Mladund has loaded every block. A trial image's
confirmation is timed from now (R352), and a DOWNLOADING slot asks for its chunks (R348). -/
def execStartComplete (s : State) : Host.Outcome State Fault Refusal :=
  .next (
    if startReady s = false then s
    else
      let s := (s.fset .START_STATUS_start_complete 0 1).fset .GLOBAL_STATUS_start_complete 0 1
      let s := (s.fset .START_STATUS_failed_count 0 0).fset .START_STATUS_last_fail 0 0
      let s := s.fset .RIND_STATUS_mode 0 1
      let r := bootNow s
      let at0 := if r.trial ∧ r.auto ≠ 0 then some (s.now + r.auto * 1000000000) else none
      sendNeed { s with images := { s.images with confirmAt := at0 }, rind := { s.rind with windowFrom := none } })

end Sys2Proof.Machine
end

