-- ==== Sys2Proof/Machine/Dispatch.lean ====
section
/-! DEFINITION. One arm for each command: a direct call of its meaning. -/

namespace Sys2Proof.Machine

def exec (i : Instr) (s : State) : Host.Outcome State Fault Refusal :=
  match i with
  | .frameReceive port first last bytes fecBad => Sys2Proof.Machine.execFrameReceive port first last bytes fecBad s
  | .linkConditionChange port lock localFault remoteFault => Sys2Proof.Machine.execLinkConditionChange port lock localFault remoteFault s
  | .portUpDebounceExpire port => Sys2Proof.Machine.execPortUpDebounceExpire port s
  | .portDownDebounceExpire port => Sys2Proof.Machine.execPortDownDebounceExpire port s
  | .autonegComplete port => Sys2Proof.Machine.execAutonegComplete port s
  | .linkTrainingComplete port => Sys2Proof.Machine.execLinkTrainingComplete port s
  | .fecCodewordDecode port corrected uncorrectable => Sys2Proof.Machine.execFecCodewordDecode port corrected uncorrectable s
  | .fecDegradeWindowEnd port => Sys2Proof.Machine.execFecDegradeWindowEnd port s
  | .pauseTimerExpire port prio => Sys2Proof.Machine.execPauseTimerExpire port prio s
  | .holdExpire port => Sys2Proof.Machine.execHoldExpire port s
  | .flushComplete port => Sys2Proof.Machine.execFlushComplete port s
  | .octetLayoutWrite req octet value => Sys2Proof.Machine.execOctetLayoutWrite req octet value s
  | .portCfgWrite req port value => Sys2Proof.Machine.execPortCfgWrite req port value s
  | .portAdminDisable req port => Sys2Proof.Machine.execPortAdminDisable req port s
  | .portHoldWrite req port value => Sys2Proof.Machine.execPortHoldWrite req port value s
  | .headerSlotGrant slice source => Sys2Proof.Machine.execHeaderSlotGrant slice source s
  | .recirculate frame => Sys2Proof.Machine.execRecirculate frame s
  | .selEntryWrite req entry value => Sys2Proof.Machine.execSelEntryWrite req entry value s
  | .profileWrite req profile value => Sys2Proof.Machine.execProfileWrite req profile value s
  | .lbKeyApply req => Sys2Proof.Machine.execLbKeyApply req s
  | .lbKeySwitch => Sys2Proof.Machine.execLbKeySwitch s
  | .skimLookup source bank => Sys2Proof.Machine.execSkimLookup source bank s
  | .cellarLookupComplete bank entry => Sys2Proof.Machine.execCellarLookupComplete bank entry s
  | .strainerProbeIssue bank => Sys2Proof.Machine.execStrainerProbeIssue bank s
  | .strainerSearchComplete bank entry errs => Sys2Proof.Machine.execStrainerSearchComplete bank entry errs s
  | .skimBypass bank entry => Sys2Proof.Machine.execSkimBypass bank entry s
  | .bypassExit bank entry => Sys2Proof.Machine.execBypassExit bank entry s
  | .writeback bank => Sys2Proof.Machine.execWriteback bank s
  | .hintRewrite => Sys2Proof.Machine.execHintRewrite s
  | .hintSkip => Sys2Proof.Machine.execHintSkip s
  | .taskDispatch badEntries => Sys2Proof.Machine.execTaskDispatch badEntries s
  | .recordWindowComplete ctx => Sys2Proof.Machine.execRecordWindowComplete ctx s
  | .next ctx fetch => Sys2Proof.Machine.execNext ctx fetch s
  | .jump ctx fetch => Sys2Proof.Machine.execJump ctx fetch s
  | .branch ctx fetch => Sys2Proof.Machine.execBranch ctx fetch s
  | .branchn ctx fetch => Sys2Proof.Machine.execBranchn ctx fetch s
  | .call ctx fetch => Sys2Proof.Machine.execCall ctx fetch s
  | .ret ctx fetch => Sys2Proof.Machine.execRet ctx fetch s
  | .dispatch ctx fetch => Sys2Proof.Machine.execDispatch ctx fetch s
  | .wait ctx fetch => Sys2Proof.Machine.execWait ctx fetch s
  | .checkpoint ctx fetch => Sys2Proof.Machine.execCheckpoint ctx fetch s
  | .yield ctx fetch => Sys2Proof.Machine.execYield ctx fetch s
  | .commit ctx fetch => Sys2Proof.Machine.execCommit ctx fetch s
  | .abort ctx fetch => Sys2Proof.Machine.execAbort ctx fetch s
  | .end_ ctx fetch => Sys2Proof.Machine.execEnd ctx fetch s
  | .storeWordRewrite word => Sys2Proof.Machine.execStoreWordRewrite word s
  | .routineIssueLimit ctx => Sys2Proof.Machine.execRoutineIssueLimit ctx s
  | .contextEccError ctx => Sys2Proof.Machine.execContextEccError ctx s
  | .natTakeAnswer ctx => Sys2Proof.Machine.execNatTakeAnswer ctx s
  | .taskCommit task => Sys2Proof.Machine.execTaskCommit task s
  | .teardown task => Sys2Proof.Machine.execTeardown task s
  | .frameRelease domain => Sys2Proof.Machine.execFrameRelease domain s
  | .vatWriteComplete port cls => Sys2Proof.Machine.execVatWriteComplete port cls s
  | .vatReadIssue port cls => Sys2Proof.Machine.execVatReadIssue port cls s
  | .vatReadComplete port cls => Sys2Proof.Machine.execVatReadComplete port cls s
  | .frameTransmitStart port => Sys2Proof.Machine.execFrameTransmitStart port s
  | .frameTransmitEnd port => Sys2Proof.Machine.execFrameTransmitEnd port s
  | .pfcFrameSend port => Sys2Proof.Machine.execPfcFrameSend port s
  | .pfcRefresh port prio => Sys2Proof.Machine.execPfcRefresh port prio s
  | .launchDue port => Sys2Proof.Machine.execLaunchDue port s
  | .gateEntryExpire port => Sys2Proof.Machine.execGateEntryExpire port s
  | .indirWrite req table entry value => Sys2Proof.Machine.execIndirWrite req table entry value s
  | .poolCarveWrite req value => Sys2Proof.Machine.execPoolCarveWrite req value s
  | .poolQuotaWrite req requester pool value => Sys2Proof.Machine.execPoolQuotaWrite req requester pool value s
  | .vatCfgWrite req value => Sys2Proof.Machine.execVatCfgWrite req value s
  | .injBufferRetry set => Sys2Proof.Machine.execInjBufferRetry set s
  | .bufEccError err => Sys2Proof.Machine.execBufEccError err s
  | .hbmEccError err => Sys2Proof.Machine.execHbmEccError err s
  | .poisonBucketRebuildDone bucket => Sys2Proof.Machine.execPoisonBucketRebuildDone bucket s
  | .skimEccError err => Sys2Proof.Machine.execSkimEccError err s
  | .scrubPass => Sys2Proof.Machine.execScrubPass s
  | .strBlockCfgWrite req value => Sys2Proof.Machine.execStrBlockCfgWrite req value s
  | .strLkpWrite req profile value => Sys2Proof.Machine.execStrLkpWrite req profile value s
  | .purgeStart req addr => Sys2Proof.Machine.execPurgeStart req addr s
  | .purgeVisit => Sys2Proof.Machine.execPurgeVisit s
  | .sweepNow req => Sys2Proof.Machine.execSweepNow req s
  | .sweepVisit => Sys2Proof.Machine.execSweepVisit s
  | .sweepEnd => Sys2Proof.Machine.execSweepEnd s
  | .rekeyStart req => Sys2Proof.Machine.execRekeyStart req s
  | .rekeyMigrateVisit => Sys2Proof.Machine.execRekeyMigrateVisit s
  | .rekeySwitch => Sys2Proof.Machine.execRekeySwitch s
  | .cmdNop set index => Sys2Proof.Machine.execCmdNop set index s
  | .flowInsert set index => Sys2Proof.Machine.execFlowInsert set index s
  | .flowUpdate set index => Sys2Proof.Machine.execFlowUpdate set index s
  | .flowDelete set index => Sys2Proof.Machine.execFlowDelete set index s
  | .flowRead set index => Sys2Proof.Machine.execFlowRead set index s
  | .strainerWrite set index => Sys2Proof.Machine.execStrainerWrite set index s
  | .strainerRead set index => Sys2Proof.Machine.execStrainerRead set index s
  | .epochPublish set index => Sys2Proof.Machine.execEpochPublish set index s
  | .drainSet set index => Sys2Proof.Machine.execDrainSet set index s
  | .drainComplete => Sys2Proof.Machine.execDrainComplete s
  | .drainLimitExpire => Sys2Proof.Machine.execDrainLimitExpire s
  | .bankMirrorComplete => Sys2Proof.Machine.execBankMirrorComplete s
  | .doorbellWrite set ring size value => Sys2Proof.Machine.execDoorbellWrite set ring size value s
  | .descriptorFetch set ring descs => Sys2Proof.Machine.execDescriptorFetch set ring descs s
  | .injDirect set index => Sys2Proof.Machine.execInjDirect set index s
  | .injProcess set index => Sys2Proof.Machine.execInjProcess set index s
  | .puntDeliver desc => Sys2Proof.Machine.execPuntDeliver desc s
  | .wheyDeliver => Sys2Proof.Machine.execWheyDeliver s
  | .statusBlockWrite set => Sys2Proof.Machine.execStatusBlockWrite set s
  | .irqModTimer set ring => Sys2Proof.Machine.execIrqModTimer set ring s
  | .evtRearmWrite req value => Sys2Proof.Machine.execEvtRearmWrite req value s
  | .ringEnable set ring value => Sys2Proof.Machine.execRingEnable set ring value s
  | .ringDisable set ring value => Sys2Proof.Machine.execRingDisable set ring value s
  | .ringQuiesced set ring => Sys2Proof.Machine.execRingQuiesced set ring s
  | .ringDmaError set ring => Sys2Proof.Machine.execRingDmaError set ring s
  | .rsetOwnerWrite req set value => Sys2Proof.Machine.execRsetOwnerWrite req set value s
  | .vfEnableClear => Sys2Proof.Machine.execVfEnableClear s
  | .functionLevelReset fn => Sys2Proof.Machine.execFunctionLevelReset fn s
  | .hostReset cause => Sys2Proof.Machine.execHostReset cause s
  | .perstRelease => Sys2Proof.Machine.execPerstRelease s
  | .pcieEnterCompliance => Sys2Proof.Machine.execPcieEnterCompliance s
  | .getVersion => Sys2Proof.Machine.execGetVersion s
  | .getCapabilities => Sys2Proof.Machine.execGetCapabilities s
  | .negotiateAlgorithms offersP384 offersP256 => Sys2Proof.Machine.execNegotiateAlgorithms offersP384 offersP256 s
  | .getDigests => Sys2Proof.Machine.execGetDigests s
  | .getCertificate slot offset length => Sys2Proof.Machine.execGetCertificate slot offset length s
  | .challenge slot nonce => Sys2Proof.Machine.execChallenge slot nonce s
  | .getMeasurements index nonce => Sys2Proof.Machine.execGetMeasurements index nonce s
  | .getStatus m => Sys2Proof.Machine.execGetStatus m s
  | .getHistory m => Sys2Proof.Machine.execGetHistory m s
  | .causeClear m => Sys2Proof.Machine.execCauseClear m s
  | .resetChip m => Sys2Proof.Machine.execResetChip m s
  | .resetChipAssert => Sys2Proof.Machine.execResetChipAssert s
  | .resetDomain m => Sys2Proof.Machine.execResetDomain m s
  | .domainHold m => Sys2Proof.Machine.execDomainHold m s
  | .powerSet m => Sys2Proof.Machine.execPowerSet m s
  | .domainSwitchComplete pd => Sys2Proof.Machine.execDomainSwitchComplete pd s
  | .throttleSet m => Sys2Proof.Machine.execThrottleSet m s
  | .keyPin m => Sys2Proof.Machine.execKeyPin m s
  | .keyUnpin m => Sys2Proof.Machine.execKeyUnpin m s
  | .recoveryComplete m => Sys2Proof.Machine.execRecoveryComplete m s
  | .imgChunk via => Sys2Proof.Machine.execImgChunk via s
  | .imgBitmap via => Sys2Proof.Machine.execImgBitmap via s
  | .imgAbort via => Sys2Proof.Machine.execImgAbort via s
  | .imgConfirm via => Sys2Proof.Machine.execImgConfirm via s
  | .ticketSubmit m => Sys2Proof.Machine.execTicketSubmit m s
  | .ticketCancel m => Sys2Proof.Machine.execTicketCancel m s
  | .ownerSet m => Sys2Proof.Machine.execOwnerSet m s
  | .ownerEnroll m => Sys2Proof.Machine.execOwnerEnroll m s
  | .milkSet m => Sys2Proof.Machine.execMilkSet m s
  | .chunkWriteComplete readbackOk => Sys2Proof.Machine.execChunkWriteComplete readbackOk s
  | .slotVerifyComplete => Sys2Proof.Machine.execSlotVerifyComplete s
  | .sessionOwnerTimeout => Sys2Proof.Machine.execSessionOwnerTimeout s
  | .milkChunk port piece chunk session data => Sys2Proof.Machine.execMilkChunk port piece chunk session data s
  | .milkNeed port session bitmap => Sys2Proof.Machine.execMilkNeed port session bitmap s
  | .milkAck port chunk session => Sys2Proof.Machine.execMilkAck port chunk session s
  | .milkRefuse port reason session => Sys2Proof.Machine.execMilkRefuse port reason session s
  | .milkResendTimeout chunk => Sys2Proof.Machine.execMilkResendTimeout chunk s
  | .milkNeedTimer => Sys2Proof.Machine.execMilkNeedTimer s
  | .activationCheck => Sys2Proof.Machine.execActivationCheck s
  | .bootRecordWriteDone => Sys2Proof.Machine.execBootRecordWriteDone s
  | .mladundRestartDone => Sys2Proof.Machine.execMladundRestartDone s
  | .octetRetrainNext => Sys2Proof.Machine.execOctetRetrainNext s
  | .autoConfirm => Sys2Proof.Machine.execAutoConfirm s
  | .reseqRelease src cls => Sys2Proof.Machine.execReseqRelease src cls s
  | .reseqGapTimeout src cls => Sys2Proof.Machine.execReseqGapTimeout src cls s
  | .pinRequest frame => Sys2Proof.Machine.execPinRequest frame s
  | .pinRequestResend src cls => Sys2Proof.Machine.execPinRequestResend src cls s
  | .pinExpire dst cls => Sys2Proof.Machine.execPinExpire dst cls s
  | .timeNowLatch req => Sys2Proof.Machine.execTimeNowLatch req s
  | .timeRateWrite req value => Sys2Proof.Machine.execTimeRateWrite req value s
  | .timeSlewWrite req value => Sys2Proof.Machine.execTimeSlewWrite req value s
  | .slewComplete => Sys2Proof.Machine.execSlewComplete s
  | .timeStep req atPps => Sys2Proof.Machine.execTimeStep req atPps s
  | .reepoch req => Sys2Proof.Machine.execReepoch req s
  | .reepochHoldExpire => Sys2Proof.Machine.execReepochHoldExpire s
  | .refSelectWrite req value => Sys2Proof.Machine.execRefSelectWrite req value s
  | .refLost => Sys2Proof.Machine.execRefLost s
  | .ppsCapture => Sys2Proof.Machine.execPpsCapture s
  | .ppsMissing => Sys2Proof.Machine.execPpsMissing s
  | .triggerArm req unit value => Sys2Proof.Machine.execTriggerArm req unit value s
  | .triggerFire units => Sys2Proof.Machine.execTriggerFire units s
  | .trigOutFall pin => Sys2Proof.Machine.execTrigOutFall pin s
  | .wheyEpochNow req => Sys2Proof.Machine.execWheyEpochNow req s
  | .periodicVisit => Sys2Proof.Machine.execPeriodicVisit s
  | .ipfixEnable req exporter value => Sys2Proof.Machine.execIpfixEnable req exporter value s
  | .ipfixMessageTimeout exporter => Sys2Proof.Machine.execIpfixMessageTimeout exporter s
  | .ipfixTemplateRefresh exporter => Sys2Proof.Machine.execIpfixTemplateRefresh exporter s
  | .qwmWrite req port cls value => Sys2Proof.Machine.execQwmWrite req port cls value s
  | .tallySnapNow req => Sys2Proof.Machine.execTallySnapNow req s
  | .tallyWriteoutComplete => Sys2Proof.Machine.execTallyWriteoutComplete s
  | .tallyProgWrite req group counter value => Sys2Proof.Machine.execTallyProgWrite req group counter value s
  | .powerOn compatHiz => Sys2Proof.Machine.execPowerOn compatHiz s
  | .powerRailFall rails => Sys2Proof.Machine.execPowerRailFall rails s
  | .rstNAssert widthNs => Sys2Proof.Machine.execRstNAssert widthNs s
  | .resetSourceRelease source => Sys2Proof.Machine.execResetSourceRelease source s
  | .brownout vcoreMv => Sys2Proof.Machine.execBrownout vcoreMv s
  | .thermalTrip => Sys2Proof.Machine.execThermalTrip s
  | .thermalTripRelease => Sys2Proof.Machine.execThermalTripRelease s
  | .thermalReport readings => Sys2Proof.Machine.execThermalReport readings s
  | .railMarginLow byPin vcoreMv => Sys2Proof.Machine.execRailMarginLow byPin vcoreMv s
  | .avsTargetRevise targetMv answered => Sys2Proof.Machine.execAvsTargetRevise targetMv answered s
  | .avsRetry answered vcoreMv icoreA => Sys2Proof.Machine.execAvsRetry answered vcoreMv icoreA s
  | .watchdogKick => Sys2Proof.Machine.execWatchdogKick s
  | .watchdogStage1 => Sys2Proof.Machine.execWatchdogStage1 s
  | .watchdogStage2 => Sys2Proof.Machine.execWatchdogStage2 s
  | .criticalStateError place => Sys2Proof.Machine.execCriticalStateError place s
  | .domainRelease step tests => Sys2Proof.Machine.execDomainRelease step tests s
  | .clockGood step => Sys2Proof.Machine.execClockGood step s
  | .releaseWindowExpire step => Sys2Proof.Machine.execReleaseWindowExpire step s
  | .startWindowExpire => Sys2Proof.Machine.execStartWindowExpire s
  | .startComplete => Sys2Proof.Machine.execStartComplete s
  | .sliceRestoreDone slice => Sys2Proof.Machine.execSliceRestoreDone slice s
  | .skimBankFlushDone bank => Sys2Proof.Machine.execSkimBankFlushDone bank s
  | .strainerBlockReloadDone block => Sys2Proof.Machine.execStrainerBlockReloadDone block s
  | .clusterReloadDone cluster => Sys2Proof.Machine.execClusterReloadDone cluster s
  | .laneTestWrite req octet lane value => Sys2Proof.Machine.execLaneTestWrite req octet lane value s
  | .laneTestLatch req octet lane bits errs => Sys2Proof.Machine.execLaneTestLatch req octet lane bits errs s
  | .laneTestClear req octet lane => Sys2Proof.Machine.execLaneTestClear req octet lane s
  | .checkerLock octet lane => Sys2Proof.Machine.execCheckerLock octet lane s
  | .checkerLockLoss octet lane bits errs => Sys2Proof.Machine.execCheckerLockLoss octet lane bits errs s
  | .checkerSaturate octet lane bits errs => Sys2Proof.Machine.execCheckerSaturate octet lane bits errs s
  | .portTestWrite req port value => Sys2Proof.Machine.execPortTestWrite req port value s
  | .genFrameSend port => Sys2Proof.Machine.execGenFrameSend port s
  | .bypass => Sys2Proof.Machine.execBypass s
  | .idcode => Sys2Proof.Machine.execIdcode s
  | .samplePreload => Sys2Proof.Machine.execSamplePreload s
  | .extest => Sys2Proof.Machine.execExtest s
  | .clamp => Sys2Proof.Machine.execClamp s
  | .highz => Sys2Proof.Machine.execHighz s
  | .extestPulse => Sys2Proof.Machine.execExtestPulse s
  | .extestTrain => Sys2Proof.Machine.execExtestTrain s
  | .setupLockWrite req value => Sys2Proof.Machine.execSetupLockWrite req value s
  | .registerWrite req bar offset size value => Sys2Proof.Machine.execRegisterWrite req bar offset size value s
  | .railMarginRestore vcoreMv => Sys2Proof.Machine.execRailMarginRestore vcoreMv s
  | .busMasterEnableChange fn enable => Sys2Proof.Machine.execBusMasterEnableChange fn enable s
  | .vfEnableSet => Sys2Proof.Machine.execVfEnableSet s
  | .mbxInvalidCommand m => Sys2Proof.Machine.execMbxInvalidCommand m s
  | .logRegionWriteDone => Sys2Proof.Machine.execLogRegionWriteDone s
  | .bundleStagingComplete => Sys2Proof.Machine.execBundleStagingComplete s
  | .tapReset => Sys2Proof.Machine.execTapReset s

end Sys2Proof.Machine
end

