-- ==== Sys2Proof/Machine/Slots.lean ====
section
/-! DEFINITION. Slot accounting of the core clock and the idle cycle: the header and issue slots in which nothing was taken
(R96, R139, R312), and what the device does when no command comes (log entries 2 and 14). -/

namespace Sys2Proof.Machine

/-- Core cycles that end in the nanosecond before `t`: the core runs at 1.6 GHz (R17). -/
def coreCycles (t : Nat) : Nat := 8 * t / 5 - 8 * (t - 1) / 5

/-- Of `n` slots or cycles of the clock, those not already counted ahead of it; the rest is settled. -/
def slotsLeft (s : State) (g j n : Nat) : Nat × State :=
  let d := tget 0 s.telem.ahead (g, j)
  (n - d, if d = 0 then s else { s with telem := { s.telem with ahead := tset 0 s.telem.ahead (g, j) (d - n) } })

/-- A header waits for its slice in a staging FIFO or at the recirculation port. -/
def headerWaits (s : State) (i : Nat) : Bool :=
  !(tget [] s.recirc (i, 0)).isEmpty || (List.range 2).any (fun o => match stagingHead s (2 * i + o) with
    | some e => slotReady s e.frame
    | none => false)

/-- Events of the slots of a slice in which no header was taken: `k` core cycles of three slots (R96, R312). -/
def sliceTick (k : Nat) (s : State) (i : Nat) : State :=
  if s.runs (pdSlice i) = false then s
  else
    let (n, s) := slotsLeft s (32 + i) 0 (3 * k)
    if headerWaits s i && sliceStalled s i then
      let (m, s) := slotsLeft s (32 + i) 1 k
      slotEvent ((s.count .bankStall i m).count .sliceSlotBack i n) (32 + i) 0xF003 n none
    else slotEvent (s.count .sliceSlotFront i n) (32 + i) 0xF002 n none

/-- What a context waits for, if it is not ready (R139): 0 record data, 1 a NAT reservation, 2 its commit or CHECKPOINT. -/
def ctxWaits (s : State) (t : Task) : Option Nat :=
  match t.pos with
  | .waiting _ _ => some 2
  | .running _ =>
    if t.kind.fixed then none
    else match t.ctx.take with
      | some k => if k.answered then none else some 1
      | none =>
        let w := microAt s t.parity t.ctx.pc
        if !t.ctx.windowReady && (readsWindow (nanoAt s t.parity (bits w 16 11)) || seqOf w == 0x07) then some 0 else none
  | _ => none

/-- The engine whose context a task has. -/
def TaskAt.engine (p : TaskAt) : Option (Nat × Nat) :=
  match p with
  | .running c => some (c.cluster, c.engine)
  | .waiting c _ => some (c.cluster, c.engine)
  | _ => none

/-- The engines of a cluster that hold tasks none of which is ready, each with what its first task waits for. -/
def enginesBack (s : State) (l : List (Nat × Task)) (c : Nat) : List Nat :=
  (List.range 16).filterMap (fun e =>
    let mine := l.filter (fun x => x.2.pos.engine == some (c, e))
    match mine.filterMap (fun x => ctxWaits s x.2) with
    | r :: w => if (r :: w).length = mine.length then some r else none
    | [] => none)

/-- Slots of one engine are lost to a wait (R312). -/
def engineBack (c left : Nat) (s : State) (r n : Nat) : Nat × State :=
  let n := min n left
  let s := slotEvent (s.count .slotBack c n) (48 + c) 0xF003 n none
  (left - n, slotEvent s (48 + c) (0xF004 + r) n none)

/-- Events of the slots of a cluster in which nothing was issued: `k` core cycles of sixteen engines (R139, R312). -/
def clusterTick (k : Nat) (l : List (Nat × Task)) (s : State) (c : Nat) : State :=
  if s.runs (pdCluster c) = false then s
  else
    let (n, s) := slotsLeft s (48 + c) 0 (16 * k)
    let (n, s) := (enginesBack s l c).foldl (fun x r => engineBack c x.1 x.2 r k) (n, s)
    slotEvent (s.count .slotFront c n) (48 + c) 0xF002 n none

/-- The slots of the core cycles of one nanosecond. -/
def slotTick (s : State) : State :=
  let k := coreCycles s.now
  let s := (List.range 16).foldl (sliceTick k) s
  (List.range 64).foldl (clusterTick k (taskList s)) s

/-- What the device does in a cycle in which no command comes (log entry 2). -/
def idleTick (s : State) : State :=
  slotTick (throttleTick (guardTick (drainRefresh (settle (rekeySettle (timeTick { s with now := s.now + 1 }))))))

end Sys2Proof.Machine
end

