-- ==== Sys2Proof/Machine/Library.lean ====
section
/-! DEFINITION. The shipped microcode library: its layouts (R189), and the words of the shipped bundle (R190). A bank holds it when the
running image's bundle does (log entry 36). -/

namespace Sys2Proof.Machine

/-! ### Layouts (R189) -/

/-- The opcodes of the three routines. -/
def opSnat : Nat := 0x20
def opPin : Nat := 0x21
def opTcp : Nat := 0x22

/-- result_data of a LEARN decision: next-hop group, NAT pool and class; TCP tracking leaves the pool unused. -/
def resultGroup (r : Nat) : Nat := bits r 0 16
def resultPool (r : Nat) : Nat := bits r 16 8
def resultClass (r : Nat) : Nat := bits r 24 4

/-- w10 of a translated flow: the port and the pool's tag, the translated address. -/
def natPort (w10 : Nat) : Nat := bits w10 0 16
def natTag (w10 : Nat) : Nat := bits w10 16 32

/-- w11 of a translated or tracked flow: result_data [27:0]. -/
def learnedResult (w11 : Nat) : Nat := bits w11 0 28

/-- w10 of a pinned flow, the BACKEND entry as m3 held it at LEARN: its address, port and next-hop group. -/
def pinAddress (w10 : Nat) : Nat := bits w10 0 32
def pinPort (w10 : Nat) : Nat := bits w10 32 16
def pinGroup (w10 : Nat) : Nat := bits w10 48 12

/-- The states of a tracked direction. -/
inductive TcpState where
  | new
  | synSent
  | established
  | finWait
  deriving DecidableEq, Repr

/-- The code of a state in w10 [3:0]. -/
def TcpState.code (t : TcpState) : Nat :=
  match t with
  | .new => 0
  | .synSent => 1
  | .established => 2
  | .finWait => 3

/-- The state that w10 holds. -/
def tcpState (w10 : Nat) : Option TcpState :=
  match bits w10 0 4 with
  | 0 => some .new
  | 1 => some .synSent
  | 2 => some .established
  | 3 => some .finWait
  | _ => none

/-- What TCP tracking does with a frame, by the flags of byte 13 of its header: FIN, SYN and RST are bits 0, 1 and 2. -/
inductive TcpMove where
  /-- Forwarded, and the flow moves to this state, if any. -/
  | forward (next : Option TcpState)
  /-- Forwarded, and the record is removed. -/
  | remove
  /-- Dropped with LIB_TCP_INVALID. -/
  | invalid
  deriving DecidableEq, Repr

/-- The rule of TCP tracking: a data frame of a flow below ESTABLISHED moves it there. -/
def tcpMove (flags : Nat) (st : TcpState) : TcpMove :=
  match bits flags 0 3 with
  | 0 => .forward (if st.code < 2 then some .established else none)
  | 1 => .forward (some .finWait)
  | 2 => .forward (some .synSent)
  | 4 => .remove
  | _ => .invalid

/-- Reasons of the library (R189, R267). -/
def libNatExhausted : Nat := 0xC0
def libTcpInvalid : Nat := 0xC1

/-- The words that all three routines declare as delta words: 7 counts frames, and 8 bytes. -/
def libDeltas : Nat := 2 ^ 7 + 2 ^ 8

/-! ### The shipped bundle (R190) -/

/-- A row of the nano-store table: the 64-bit words from bit 0 up, and the parity byte (R169, R190). -/
structure NanoRow where
  addr : Nat
  w0 : Nat
  w1 : Nat
  w2 : Nat
  w3 : Nat
  parity : Nat
  deriving DecidableEq, Repr

/-- The nanoword of a row, with its parity bits. -/
def NanoRow.word (r : NanoRow) : Nat := r.w0 + r.w1 * 2 ^ 64 + r.w2 * 2 ^ 128 + r.w3 * 2 ^ 192 + r.parity * 2 ^ 256

/-- A row of a microword table: the word and its parity bit (R166, R190). -/
structure MicroRow where
  addr : Nat
  word : Nat
  parity : Nat
  deriving DecidableEq, Repr

/-- The microword of a row, with its parity bit. -/
def MicroRow.stored (r : MicroRow) : Nat := r.word + r.parity * 2 ^ 32

/-- The nano-store of the shipped bundle (R190). -/
def libNano : List NanoRow :=
  [⟨0x000, 0, 0, 0, 0, 0⟩,
   ⟨0x001, 0xFF0B000000000000, 0x0000000003000028, 0, 0, 0x02⟩,
   ⟨0x002, 0x1701018000000000, 0x0028180B00000031, 0x0000000000010D22, 0, 0x0E⟩,
   ⟨0x003, 0x0000000000000800, 0, 0, 0x0000000000001B02, 0x41⟩,
   ⟨0x004, 0x1A01000004000000, 0x0000000000000032, 0, 0, 0x05⟩,
   ⟨0x010, 0xFF0B000000000000, 0x000000000729002C, 0, 0x0000000000003503, 0x06⟩,
   ⟨0x011, 0x1A0100000C000000, 0x002C1B0B00000034, 0x0000000000001B19, 0x0000000000050005, 0x14⟩,
   ⟨0x012, 0xFF08000000000400, 0x000000000000311A, 0x0000000000100000, 0x0000350C92000000, 0x53⟩,
   ⟨0x013, 0x0000000000000400, 0, 0, 0x00001A0062000000, 0xC1⟩,
   ⟨0x014, 0xFF01000000000400, 0x000000000000001A, 0, 0, 0x07⟩,
   ⟨0x015, 0xFF0B000000000C00, 0x351AFF0C0710001B, 0x0000000000000710, 0x0000000000003604, 0x4A⟩,
   ⟨0x016, 0, 0, 0, 0x0000000000060005, 0⟩,
   ⟨0x017, 0, 0, 0, 0x0000000000C00006, 0⟩,
   ⟨0x020, 0x1A01000004000000, 0x000000000000002B, 0, 0, 0x01⟩,
   ⟨0x021, 0x0000000000000400, 0, 0, 0x00001A1092000000, 0x41⟩,
   ⟨0x022, 0xFF08000000000400, 0x000000000000311A, 0x0000000000200000, 0x0000350262000000, 0xD3⟩,
   ⟨0x023, 0xFF0B000000000400, 0x000000000B30001A, 0, 0x0000000000003502, 0x43⟩,
   ⟨0x030, 0x1B0B000008000000, 0x000000001B19002C, 0, 0, 0x03⟩,
   ⟨0x031, 0xFF04000000000400, 0x0000000000003130, 0x0D02000000070000, 0, 0x17⟩,
   ⟨0x032, 0xFF0B000000000400, 0x3135FF0A0300001A, 0x0000000000020000, 0, 0x1F⟩]

/-- IPv4 source NAT, opcode 0x20 (R190). -/
def libSnat : List MicroRow :=
  [⟨0x100, 0x30010404, 1⟩, ⟨0x101, 0x0800041C, 1⟩, ⟨0x102, 0x08000414, 0⟩, ⟨0x103, 0x60000000, 0⟩,
   ⟨0x104, 0x0800042C, 1⟩, ⟨0x105, 0x1010043F, 1⟩, ⟨0x106, 0x00110000, 0⟩, ⟨0x107, 0x00020000, 1⟩,
   ⟨0x108, 0x00120000, 0⟩, ⟨0x109, 0x00130000, 1⟩, ⟨0x10A, 0x60030000, 0⟩, ⟨0x10B, 0x10140438, 1⟩,
   ⟨0x10C, 0x00150000, 1⟩, ⟨0x10D, 0x60160000, 1⟩, ⟨0x10E, 0x60000000, 0⟩, ⟨0x10F, 0x60170004, 1⟩]

/-- Load-balancer pinning, opcode 0x21 (R190). -/
def libPin : List MicroRow :=
  [⟨0x110, 0x30010444, 0⟩, ⟨0x111, 0x08000458, 1⟩, ⟨0x112, 0x08000454, 1⟩, ⟨0x113, 0x60000000, 0⟩,
   ⟨0x114, 0x60000000, 0⟩, ⟨0x115, 0x00200000, 1⟩, ⟨0x116, 0x00020000, 1⟩, ⟨0x117, 0x00210000, 0⟩,
   ⟨0x118, 0x00220000, 0⟩, ⟨0x119, 0x60230000, 1⟩]

/-- TCP state tracking, opcode 0x22 (R190). -/
def libTcp : List MicroRow :=
  [⟨0x120, 0x30010484, 0⟩, ⟨0x121, 0x08000498, 1⟩, ⟨0x122, 0x08000494, 1⟩, ⟨0x123, 0x60000000, 0⟩,
   ⟨0x124, 0x60000000, 0⟩, ⟨0x125, 0x00300000, 0⟩, ⟨0x126, 0x00020000, 1⟩, ⟨0x127, 0x303104A0, 0⟩,
   ⟨0x128, 0x080004C0, 0⟩, ⟨0x129, 0x080004CC, 0⟩, ⟨0x12A, 0x080004D4, 0⟩, ⟨0x12B, 0x58000704, 1⟩,
   ⟨0x12C, 0x080004DC, 1⟩, ⟨0x12D, 0x58000704, 1⟩, ⟨0x12E, 0x58000704, 1⟩, ⟨0x12F, 0x58000704, 1⟩,
   ⟨0x130, 0x183204CA, 0⟩, ⟨0x131, 0x00040008, 0⟩, ⟨0x132, 0x60030000, 0⟩, ⟨0x133, 0x0004000C, 1⟩,
   ⟨0x134, 0x60030000, 0⟩, ⟨0x135, 0x00040004, 0⟩, ⟨0x136, 0x60030000, 0⟩, ⟨0x137, 0x60030004, 1⟩]

/-- The microwords of the shipped bundle. -/
def libMicro : List MicroRow := libSnat ++ (libPin ++ libTcp)

/-- The dispatch entries of the shipped bundle, with their parity bits. -/
def libDisp : List (Nat × Nat) := [(opSnat, 0x1C100), (opPin, 0xC110), (opTcp, 0xC120)]

/-- A bundle holds every word of the shipped one. -/
def holdsLibrary (b : Bundle) : Bool :=
  libNano.all (fun r => tget 0 b.nano (r.addr, 0) == r.word) && libMicro.all (fun r => tget 0 b.micro (r.addr, 0) == r.stored) &&
    libDisp.all (fun e => tget 0 b.disp (e.1, 0) == e.2)

/-- The shipped bundle as the stores hold it: every other word is 0. -/
def library : Bundle :=
  { micro := libMicro.foldl (fun t r => tset 0 t (r.addr, 0) r.stored) [],
    nano := libNano.foldl (fun t r => tset 0 t (r.addr, 0) r.word) [],
    disp := libDisp.foldl (fun t e => tset 0 t (e.1, 0) e.2) [] }

/-- Both banks of every store hold the shipped bundle, as a start from the image that carries it leaves them (R164, R191). -/
def State.withLibrary (s : State) : State := { s with churn := { s.churn with bank0 := library, bank1 := library } }

end Sys2Proof.Machine
end

