-- ==== Sys2Proof/Machine/Reads.lean ====
section
/-! DEFINITION. Reads of the device's address spaces (R8, R252, R254, R275, R311, R370 to R372). No row of the command table is a read
but TIME_NOW_LATCH, so these functions say what a read returns in a state and what it leaves. -/

namespace Sys2Proof.Machine

/-! ### Configuration space (R252, R254) -/

/-- Function 0 is PF0, and 1 to 63 are the VFs (R252). -/
def deviceId (fn : Nat) : Nat := if fn = 0 then 0x5128 else 0x5129

/-- First VF offset and VF stride (R252). -/
def vfOffset : Nat := 1
def vfStride : Nat := 1

/-- The routing ID of a function, from PF0's (R252). -/
def routingId (pf fn : Nat) : Nat := if fn = 0 then pf else pf + vfOffset + (fn - 1) * vfStride

/-- Vectors of a function's MSI-X table (R252). -/
def msixVectors (fn : Nat) : Nat := if fn = 0 then 2048 else 512

/-- The largest payload and read request, in bytes, and the non-posted requests that may be outstanding (R252). -/
def maxPayload : Nat := 512
def maxReadRequest : Nat := 4096
def maxNonPosted : Nat := 768

/-- The default completion timeout, in ms (R252). -/
def completionTimeoutMs : Nat := 50

/-- The size in bytes of a function's BAR, or 0 (R254). -/
def barSize (fn bar : Nat) : Nat :=
  match bar with
  | 0 => if fn = 0 then 2 ^ 24 else 0
  | 2 => if fn = 0 then 2 ^ 18 else 2 ^ 16
  | 4 => 2 ^ 16
  | _ => 0

/-- A BAR is prefetchable (R254). -/
def barPrefetchable (bar : Nat) : Bool := bar == 4

/-- The data object types that DOE carries on PF0: discovery and SPDM (R252). PRESUMED: the numbers of the PCI-SIG (log entry 39). -/
def doeTypes (fn : Nat) : List Nat := if fn = 0 then [0, 1] else []

/-- What DOE discovery answers for an index: the type, and the next index, 0 after the last. PRESUMED (log entry 39). -/
def doeDiscover (index : Nat) : Option (Nat × Nat) :=
  ((doeTypes 0)[index]?).map (fun t => (t, if index + 1 < (doeTypes 0).length then index + 1 else 0))

/-! ### Registers -/

/-- A register instance as a read returns it: write-only fields read 0, and every other field its value (R8); TIME_NOW is the time
read and the requester's latest latch (R275). -/
def regRead (s : State) (req : Requester) (r : Reg) (i : Nat) : Nat :=
  match r with
  | .TIME_NOW_LO => timeNowLo s
  | .TIME_NOW_HI => match req with
    | .host => s.time.latchHost.getD 0
    | .mgmt => s.time.latchMgmt.getD 0
  | _ => (r.table.flatMap (fun p => (List.range p.2.reps).map (fun c =>
      if p.2.acc = .wo then 0 else s.fget p.1 (i * p.2.reps + c) * 2 ^ (p.2.lsb + c * p.2.stride)))).sum

/-- What a read leaves: only one of TIME_NOW_LO has an effect (R275, R372). -/
def readLeaves (s : State) (req : Requester) (r : Reg) : State := if r = .TIME_NOW_LO then timeLatch s req else s

/-- A 4- or 8-byte read at an offset of BAR0, or of BAR2 as PF0 numbers its pages: the word, or the half addressed; 0 where no
register is (R254, R370, R371). -/
def busRead (s : State) (req : Requester) (bar off size : Nat) : Nat × State :=
  match regAt bar (off - off % 8) with
  | none => (0, s)
  | some (r, i, word) =>
    if offPage s r i then (0, s)
    else (bits (regRead s req r i) (64 * word + 8 * (off % 8)) (8 * size), readLeaves s req r)

/-- Entries of TENANT_MAP (R371). -/
def tenantRead (s : State) (off n : Nat) : Nat :=
  ((List.range n).map (fun k => regRead s .host .TENANT_MAP ((off - 0xD0000) / 2 + k) * 2 ^ (16 * k))).sum

/-- A BAR0 read of at most 8 bytes: one of another size or alignment returns 0 and sets bad_access (R371); LOCK_LOG holds writes only. -/
def bar0Read (s : State) (req : Requester) (off size : Nat) : Nat × State :=
  let tenant := 0xD0000 ≤ off && off < 0xF0000
  if !(size == 8 || size == 4 || (size == 2 && tenant)) || off % size != 0 then (0, s.event .GLOBAL_STATUS_bad_access 0)
  else if tenant then (tenantRead s off (size / 2), s)
  else busRead s req 0 off size

/-- A ring-set page of a function's BAR2: doorbells, reserved offsets and pages it does not own read 0 (R254). -/
def bar2Read (s : State) (fn off size : Nat) : Nat × State :=
  match pageSet s fn (off / 4096) with
  | none => (0, s)
  | some set =>
    if off % 4096 < 64 ∨ ¬(size = 4 ∨ size = 8) ∨ off % size ≠ 0 then (0, s)
    else busRead s .host 2 (set * 4096 + off % 4096) size

/-- Slot n of the Tally user page: the header, then the records (R311). -/
def pageSlot (s : State) (n : Nat) : Nat := if n = 0 then pageHeader s else s.telem.page.recs.getD (n - 1) 0

/-- Bytes of the user page, which BAR4 of every function shows (R254, R311). -/
def bar4Read (s : State) (off size : Nat) : Nat :=
  ((List.range size).map (fun k => bits (pageSlot s ((off + k) / 64)) (8 * ((off + k) % 64)) 8 * 256 ^ k)).sum

/-- A read of a BAR by a function (0 and PF0's BAR0 for the management complex), of at most 8 bytes: a larger request is
consecutive 8-byte reads (R254, R371). -/
def barRead (s : State) (req : Requester) (fn bar off size : Nat) : Nat × State :=
  if barSize fn bar ≤ off then (0, s)
  else match bar with
    | 0 => bar0Read s req off size
    | 2 => bar2Read s fn off size
    | _ => (bar4Read s off size, s)

/-- A larger read of BAR0: its `n` 8-byte words in ascending order (R371). -/
def wideRead (s : State) (req : Requester) (off n : Nat) : List Nat × State :=
  match n with
  | 0 => ([], s)
  | n + 1 =>
    let r := bar0Read s req off 8
    let l := wideRead r.2 req (off + 8) n
    (r.1 :: l.1, l.2)

end Sys2Proof.Machine
end

