-- ==== Sys2Proof/Safety.lean ====
section
/-! DEFINITION. What holds of every state of a safe run: the register and counter banks are in their canonical form and no value
in them is wider than its field; what no command takes back; and the parts of a state, in which frames are stated. -/

namespace Sys2Proof.Machine

/-- What an unlisted register field reads: its reset value. -/
def fldDefault (k : Key) : Nat := fldReset (Fld.ofNat k.1) k.2

/-- A bank of 48-bit counters in canonical form (R306): places rising, none listed at 0, none past 48 bits. -/
def ctrOk (t : Tab Nat) : Bool := Tab.wf (fun _ => 0) t && t.all (fun e => decide (e.2 < 2 ^ 48))

/-- The register bank in canonical form (R8, R9): places rising, none listed at its reset value, none past its field's width. -/
def regOk (t : Tab Nat) : Bool := Tab.wf fldDefault t && t.all (fun e => decide (e.2 < 2 ^ (Fld.ofNat e.1.1).info.width))

/-- The banks of a state. -/
def State.banksOk (s : State) : Bool := regOk s.reg && ctrOk s.ctr && ctrOk s.prog

/-- Every bit of `a` is a bit of `b`. -/
def BitsKept (a b : Nat) : Prop := ∀ i, a.testBit i = true → b.testBit i = true

/-- The parts of a state that a command can change: each block's state, each register and each counter in all its instances.
The queue and elapsed time are no parts: no command changes them. -/
inductive Part where
  | draws | prog | out | frames | ports | staging | recirc | punts | buffers | egress | fabric | cellar | skim | strainer
  | churn | time | host | whey | telem | rind | images | setup | evtLevel
  | reg (r : Reg)
  | ctr (c : Ctr)
  deriving DecidableEq, Repr

/-- A part of one state is as it is in another: a register reads the same in all its fields and instances. -/
def Part.same (p : Part) (s t : State) : Prop :=
  match p with
  | .draws => t.draws = s.draws
  | .prog => t.prog = s.prog
  | .out => t.out = s.out
  | .frames => t.frames = s.frames ∧ t.nextFrame = s.nextFrame ∧ t.nextPlace = s.nextPlace
  | .ports => t.ports = s.ports
  | .staging => t.staging = s.staging
  | .recirc => t.recirc = s.recirc
  | .punts => t.punts = s.punts ∧ t.puntBuckets = s.puntBuckets
  | .buffers => t.buffers = s.buffers
  | .egress => t.egress = s.egress
  | .fabric => t.fabric = s.fabric
  | .cellar => t.cellar = s.cellar
  | .skim => t.skim = s.skim
  | .strainer => t.strainer = s.strainer
  | .churn => t.churn = s.churn
  | .time => t.time = s.time
  | .host => t.host = s.host
  | .whey => t.whey = s.whey
  | .telem => t.telem = s.telem
  | .rind => t.rind = s.rind
  | .images => t.images = s.images
  | .setup => t.setup = s.setup
  | .evtLevel => t.evtLevel = s.evtLevel
  | .reg r => ∀ f i, f.reg = r → t.fget f i = s.fget f i
  | .ctr c => ∀ i, t.cget c i = s.cget c i

/-- A command completes: it answers a next state, and that state has a property. -/
def Completes (c : Instr) (s : State) (p : State → Prop) : Prop := ∃ t, exec c s = .next t ∧ p t

/-- An issue slot of a task that meets no fault, no overflow, no squash and takes no NAT port (R151, R154, R160, R181): its words
are good, its window is there if it reads it, its nanoword posts what it posts, and it reads no register that a commit has
marked changed. -/
def SlotPlain (s : State) (c : CtxId) (t : Task) : Prop :=
  let w := microAt s t.parity t.ctx.pc
  let n := nanoAt s t.parity (bits w 16 11)
  let f := t.frame.bind (fun i => s.frame? i)
  isFaulty s ⟨c.cluster, 0, t.parity, t.ctx.pc⟩ = false ∧ isFaulty s ⟨c.cluster, 1, t.parity, bits w 16 11⟩ = false ∧
    nanoOk n = true ∧ (t.ctx.windowReady = true ∨ readsWindow n = false) ∧ n.fxOp ≠ 3 ∧
    t.ctx.m &&& (if t.committed then t.ctx.r else t.ctx.r ||| n.readSet) = 0 ∧
    (∀ v, ∃ p, postFx t.ctx f.isSome n v = .ok p) ∧
    ∀ p v, p.edits = t.ctx.posted.edits → ∃ q, postEdit p f n v = .ok q

/-- A task goes on in its context after one more issue, with what holds of its context then. -/
def GoesOn (t : Task) (id : Nat) (u : State) (p : Ctx → Prop) : Prop :=
  ∃ x, u.task? id = some { t with ctx := x } ∧ x.take = none ∧ x.issues = t.ctx.issues + 1 ∧ p x

/-- Nothing but the parts of a list changed. -/
def ChangesOnly (l : List Part) (s t : State) : Prop := ∀ p, p ∉ l → p.same s t

/-- A CMD command's completion of given fields is written to the CPL ring of its set, with the ring's phase (R258, R262, R265):
where that ring runs and has a free slot, no completion waits before it, and the command was neither lost to a reset nor quiet
and OK. -/
def Answered (s t : State) (w : Work) (status reason version extra : Nat) : Prop :=
  ringRuns s w.set 1 = true → ringFull s w.set 1 = false → s.host.cpls = [] → w.lost = false → (bits w.desc 8 1 = 0 ∨ status ≠ 0) →
    t.cget .cplWritten w.set = (s.cget .cplWritten w.set + 1) % 2 ^ 48 ∧
    Out.hostWrite (s.fget .RING_BASE_addr (w.set * 8 + 1) + 64 * ((s.ring w.set 1).devIdx % ringSize s w.set 1))
      (leBytes 64 (setBits (cplEntry w.index (w.desc % 256) status reason version s.stamp32 extra) 511 1
        (phaseOf (s.ring w.set 1).devIdx (ringSize s w.set 1)))) ∈ t.out.drop s.out.length

/-- The value that a whole-word write of word 0 leaves in a register instance, its other words as they stand. -/
def wordVal (s : State) (r : Reg) (i v : Nat) : Nat := merged (regRaw s r i) v (2 ^ 64 - 1)

/-- The value that a write of the highest of a register's eight words leaves, with the words its requester has staged below it
(R53). -/
def wholeVal (s : State) (req : Requester) (r : Reg) (i v : Nat) : Nat := (gather s req r i 7).1 + v * 2 ^ 448

/-- SETUP_LOCK stops a write of a register value (R373). -/
def writeLocked (s : State) (r : Reg) (i v : Nat) : Bool := s.fbit .SETUP_LOCK_lock 0 && changesRwp s ⟨r, i, v, v⟩

/-- The register instance is there: within its ranges, and of a port in use if it is on a port's page (R370). -/
def writeLands (s : State) (r : Reg) (i : Nat) : Bool := decide (i < r.info.n1 * r.info.n2) && !offPage s r i

/-- A write of a register value takes effect: the instance is there, SETUP_LOCK does not stop it and no rule refuses it. -/
def WriteOk (s : State) (r : Reg) (i v : Nat) : Prop :=
  writeLands s r i = true ∧ writeLocked s r i v = false ∧ regRefused s r i v (2 ^ 64 - 1) = false

/-- Every field of a register that software reads and writes reads what a register value holds. -/
def ReadsBack (t : State) (r : Reg) (i v : Nat) : Prop :=
  ∀ p, p ∈ r.table → (p.2.acc = .rw ∨ p.2.acc = .rwp) → ∀ c, c < p.2.reps → t.fget p.1 (i * p.2.reps + c) = fldIn v p.1 c

/-- A mailbox request is answered with a status and results: the unit is free, the history begins with it, and, for a request of
the host whose response ring runs, the response is written with the ring's phase and mbx_done is set; one of the management complex
is answered on its own channel (R316 to R318). -/
def Replied (s t : State) (m : MbxReq) (status r0 r1 : Nat) : Prop :=
  t.rind.mbx = none ∧ t.fget .RIND_STATUS_mbx_busy 0 = 0 ∧
    t.rind.history = ((mbxCmd m + status * 2 ^ 8 + mbxTag m * 2 ^ 16) :: s.rind.history).take 16 ∧
    (m.internal = true → Out.answer (leBytes 64 (mbxCmd m + status * 2 ^ 8 + mbxTag m * 2 ^ 16 + r0 % 2 ^ 32 * 2 ^ 32 +
      r1 % 2 ^ 64 * 2 ^ 64)) ∈ t.out.drop s.out.length) ∧
    (m.internal = false → ringRuns s 0 7 = true →
      t.fget .RIND_EVT_mbx_done 0 = 1 ∧
      Out.hostWrite (s.fget .RING_BASE_addr 7 + 64 * ((s.ring 0 7).devIdx % ringSize s 0 7))
        (leBytes 64 (setBits (mbxCmd m + status * 2 ^ 8 + mbxTag m * 2 ^ 16 + r0 % 2 ^ 32 * 2 ^ 32 + r1 % 2 ^ 64 * 2 ^ 64) 511 1
          (phaseOf (s.ring 0 7).devIdx (ringSize s 0 7)))) ∈ t.out.drop s.out.length)

/-- A reset source of level A or B has asserted (R319 to R321): it is listed with its cause bit set, everything but the fuses, the
OTP and the flash is lost, and a level B source keeps the Rind's sticky state and the causes shown before. -/
def Asserted (s t : State) (r : ResetSource) : Prop :=
  t.rind.sources = (if s.rind.sources.contains r then s.rind.sources else s.rind.sources ++ [r]) ∧
    t.fget (srcCause r) 0 = 1 ∧ t.frames = [] ∧ t.ctr = [] ∧ t.prog = [] ∧ t.cellar = State.reset.cellar ∧ t.skim = State.reset.skim ∧
    t.strainer = State.reset.strainer ∧ t.whey = [] ∧ (∀ pd, t.fget .PD_STATE_on pd = 0) ∧
    t.rind.fuses = s.rind.fuses ∧ t.rind.otp = s.rind.otp ∧ t.images.marks = s.images.marks ∧ t.images.verified = s.images.verified ∧
    t.images.nonces = s.images.nonces ∧ t.pending = s.pending ∧ t.now = s.now ∧
    (srcCold r = true → t.rind.history = [] ∧ t.fget .START_STATUS_failed_count 0 = 0) ∧
    (srcCold r = false → t.rind.history = s.rind.history ∧
      t.fget .START_STATUS_failed_count 0 = s.fget .START_STATUS_failed_count 0 ∧
      t.fget .START_STATUS_recovery 0 = s.fget .START_STATUS_recovery 0 ∧
      ∀ f, f ∈ Reg.RESET_CAUSE.flds → s.fget f 0 = 1 → f ≠ .RESET_CAUSE_crit_where → t.fget f 0 = 1)

/-- An image command of a path is taken: fetched from a CMD ring that may issue it outside recovery mode, or ready at the mailbox
with no reserved bit and its data read (R346). -/
def ImgTaken (s : State) (via : ImgPath) (op code : Nat) : Prop :=
  match via with
  | .cmd set index => (∃ w, cmdWork s set index op .fetched = some w) ∧ setLimited s set = false ∧ inRecovery s = false
  | .mbx m => mbxReady s m = true ∧ mbxCmd m = code ∧ mbxReserved m = false ∧ m.dataFailed = false ∧
      (inRecovery s = false ∨ mbxRecovery code = true)

/-- An image command is answered on its path: with a CMD status, or with a mailbox status, and result0 (R265, R317, R346). -/
def ImgAnswered (s t : State) (via : ImgPath) (cmd mbx r0 : Nat) : Prop :=
  match via with
  | .cmd set index => ∀ w, workOf s set 0 index = some w → Answered s t w cmd 0 0 (r0 * 2 ^ 128)
  | .mbx m => Replied s t m mbx r0 0

/-- The chunk that an image command carries: its number and its bytes (R346). -/
def chunkOf (s : State) (via : ImgPath) : Nat × List Byte :=
  match via with
  | .cmd set index => match workOf s set 0 index with
    | some w => (bits w.desc 32 16, w.data.take 65536)
    | none => (0, [])
  | .mbx m => (mbxArg0 m, m.data.take 65536)

/-! ### The frame of each command -/

/-- What an event bit drives. -/
def evtParts : List Part := [.out, .host, .evtLevel, .reg .EVT_CAUSE]

/-- What follows slots, records and refusal states. -/
def updParts : List Part := [.reg .FW_BUILD, .reg .UPD_STATUS]

/-- What a completion touches. -/
def cplParts : List Part := [.prog, .out, .host, .ctr .cplLost, .ctr .cplWritten, .ctr .ringOffDrop]

/-- What waits for rings that run again. -/
def flushParts : List Part := [.prog, .out, .host, .evtLevel, .reg .EVT_CAUSE, .reg .RIND_EVT, .ctr .cplWritten,
  .ctr .ringOffDrop]

/-- What a mailbox answer touches. -/
def mbxParts : List Part := [.prog, .out, .host, .rind, .evtLevel, .reg .EVT_CAUSE, .reg .RIND_EVT, .reg .RIND_STATUS,
  .ctr .ringOffDrop]

/-- What the end of a header slot touches. -/
def slotParts : List Part := [.prog, .frames, .ctr .gSliceSlotInflight, .ctr .sliceSlotRetired, .ctr .sliceSlotWasted]

/-- What a squash touches. -/
def squashParts : List Part := [.prog, .churn, .reg .NAT_POOL, .reg .NAT_TQUOTA, .ctr .gSlotInflight, .ctr .natReserveReturned,
  .ctr .slotRetired, .ctr .slotWasted, .ctr .squash]

/-- What is judged again once records and tasks have moved. -/
def settleParts : List Part := [.prog, .frames, .skim, .churn, .host, .ctr .evictClean, .ctr .evictDirty, .ctr .fill,
  .ctr .gWbQueuePeak, .ctr .wbUrgent]

/-- What a Whey record touches. -/
def wheyParts : List Part := [.prog, .out, .host, .whey, .evtLevel, .reg .EVT_CAUSE, .reg .WHEY_STATUS, .ctr .gWheyQueuePeak,
  .ctr .wheyDrop, .ctr .wheyIn, .ctr .wheyUnrouted]

/-- What the release of a buffer touches. -/
def bufParts : List Part := [.prog, .out, .frames, .punts, .buffers, .host, .evtLevel, .reg .BUF_LOG, .reg .BUF_STATUS,
  .reg .EVT_CAUSE, .reg .POOL_QUOTA, .reg .POOL_STATUS, .ctr .doubleFree, .ctr .foreignFree, .ctr .gIngCellsPeak,
  .ctr .pfcPauseEvents, .ctr .poolFree]

/-- What the flush of a port's queues touches. -/
def flushedParts : List Part := [.draws, .prog, .out, .frames, .punts, .buffers, .egress, .host, .whey, .evtLevel,
  .reg .BUF_LOG, .reg .BUF_STATUS, .reg .EVT_CAUSE, .reg .POOL_QUOTA, .reg .POOL_STATUS, .reg .VAT_STATUS, .reg .WHEY_STATUS,
  .ctr .cplLost, .ctr .cplWritten, .ctr .doubleFree, .ctr .foreignFree, .ctr .gIngCellsPeak, .ctr .gOnDiePeak, .ctr .gVatPeak,
  .ctr .gWheyQueuePeak, .ctr .holdFlushBytes, .ctr .holdFlushFrames, .ctr .pfcPauseEvents, .ctr .poolFree, .ctr .ringOffDrop,
  .ctr .wheyDrop, .ctr .wheyIn, .ctr .wheyUnrouted]

/-- What an enqueue touches. -/
def queueParts : List Part := [.draws, .prog, .out, .frames, .punts, .buffers, .egress, .host, .whey, .evtLevel, .reg .BUF_LOG,
  .reg .BUF_STATUS, .reg .EVT_CAUSE, .reg .POOL_QUOTA, .reg .POOL_STATUS, .reg .SCHED_Q, .reg .VAT_STATUS, .reg .WHEY_STATUS,
  .ctr .cplLost, .ctr .cplWritten, .ctr .doubleFree, .ctr .downDrop, .ctr .ecnMarked, .ctr .egrLimitDrop, .ctr .egrMtuDrop,
  .ctr .foreignFree, .ctr .gIngCellsPeak, .ctr .gOnDiePeak, .ctr .gVatPeak, .ctr .gWheyQueuePeak, .ctr .launchInvalid,
  .ctr .pfcPauseEvents, .ctr .poolFree, .ctr .ringOffDrop, .ctr .vatFullDrop, .ctr .vatIn, .ctr .vatLimitDrop,
  .ctr .vatSpillStart, .ctr .wheyDrop, .ctr .wheyIn, .ctr .wheyUnrouted]

/-- What the end of a record touches. -/
def removeParts : List Part := [.prog, .out, .frames, .cellar, .skim, .churn, .host, .whey, .evtLevel, .reg .CELLAR_STATUS,
  .reg .EVT_CAUSE, .reg .NAT_POOL, .reg .NAT_TQUOTA, .reg .TENANT_QUOTA, .reg .WHEY_STATUS, .ctr .ageRemoved,
  .ctr .deleteWbCancel, .ctr .evictClean, .ctr .evictDirty, .ctr .fill, .ctr .gSlotInflight, .ctr .gWbQueuePeak,
  .ctr .gWheyQueuePeak, .ctr .natReserveReturned, .ctr .purgeRemoved, .ctr .rekeyEvict, .ctr .restash, .ctr .slotRetired,
  .ctr .slotWasted, .ctr .squash, .ctr .wbUrgent, .ctr .wheyDrop, .ctr .wheyIn, .ctr .wheyUnrouted]

/-- Every counter. -/
def anyCtr : List Part := (List.range 241).map (fun n => .ctr (Ctr.ofNat n))

/-- Every register. -/
def anyReg : List Part := Reg.all.map .reg

/-- Every part. -/
def allParts : List Part := [.draws, .prog, .out, .frames, .ports, .staging, .recirc, .punts, .buffers, .egress, .fabric,
  .cellar, .skim, .strainer, .churn, .time, .host, .whey, .telem, .rind, .images, .setup, .evtLevel] ++ anyReg ++ anyCtr

/-- The parts that a command can change, in whatever state it comes; none but these (the frame of a command). A reset of level A
or B changes them all. -/
def mayChange (c : Instr) : List Part :=
  match c with
  | .frameReceive .. =>
   bufParts ++ wheyParts ++ cplParts ++ slotParts ++ [.draws, .ports, .staging, .recirc, .egress, .fabric, .skim, .churn,
    .reg .FAB_STATUS, .reg .NAT_POOL, .reg .NAT_TQUOTA, .reg .PORT_CHK, .reg .PTP_PORT, .reg .VAT_STATUS,
    .ctr .cancelBeforeDispatch, .ctr .cancelInFlight, .ctr .fabDelaySum, .ctr .fabDisabledDrop, .ctr .fabFrames,
    .ctr .gFabDelayMax, .ctr .gHeldPeak, .ctr .gOnDiePeak, .ctr .gSlotInflight, .ctr .gVatPeak, .ctr .lenPuntLost,
    .ctr .lenShort, .ctr .lenTrail, .ctr .natReserveReturned, .ctr .parseDepthDrop, .ctr .parseDepthPunt, .ctr .probeOverrun,
    .ctr .rxFcsErr, .ctr .rxFecErr, .ctr .rxForeign, .ctr .rxMacCtrlOther, .ctr .rxOk, .ctr .rxOversize, .ctr .rxPause,
    .ctr .rxPfc, .ctr .rxRunt, .ctr .rxStagingOverrun, .ctr .selNoProfile, .ctr .shimBad, .ctr .slotRetired, .ctr .slotWasted,
    .ctr .tenantMiss]
  | .linkConditionChange .. | .autonegComplete .. | .linkTrainingComplete .. =>
   [.prog, .ports, .reg .PORT_STATUS, .ctr .linkGlitch]
  | .portUpDebounceExpire .. =>
   queueParts ++ [.ports, .telem, .reg .PORT_STATUS, .ctr .ipfixMsgDrop, .ctr .ipfixTemplates]
  | .portDownDebounceExpire .. | .fecDegradeWindowEnd .. =>
   flushedParts ++ [.ports, .fabric, .reg .PORT_STATUS, .ctr .egrLimitDrop, .ctr .movedIn, .ctr .txLinkAbort, .ctr .vatFullDrop,
    .ctr .vatIn, .ctr .vatLimitDrop, .ctr .vatSpillStart]
  | .fecCodewordDecode .. =>
   [.prog, .ports, .ctr .fecBin0, .ctr .fecBin1, .ctr .fecBin10, .ctr .fecBin11, .ctr .fecBin12, .ctr .fecBin13, .ctr .fecBin14,
    .ctr .fecBin15, .ctr .fecBin2, .ctr .fecBin3, .ctr .fecBin4, .ctr .fecBin5, .ctr .fecBin6, .ctr .fecBin7, .ctr .fecBin8,
    .ctr .fecBin9, .ctr .fecSymCorrected, .ctr .fecUncorrected]
  | .pauseTimerExpire .. =>
   [.buffers]
  | .holdExpire .. =>
   flushedParts ++ [.ports, .reg .PORT_STATUS]
  | .flushComplete .. =>
   [.buffers, .reg .PORT_STATUS]
  | .octetLayoutWrite .. =>
   evtParts ++ [.reg .GLOBAL_STATUS, .reg .LOCK_LOG, .reg .OCTET_LAYOUT, .reg .OCTET_STATUS]
  | .portCfgWrite .. | .portAdminDisable .. =>
   flushedParts ++ [.ports, .fabric, .reg .GLOBAL_STATUS, .reg .LOCK_LOG, .reg .PORT_CFG, .reg .PORT_STATUS, .ctr .egrLimitDrop,
    .ctr .linkGlitch, .ctr .movedIn, .ctr .txLinkAbort, .ctr .vatFullDrop, .ctr .vatIn, .ctr .vatLimitDrop, .ctr .vatSpillStart]
  | .portHoldWrite .. =>
   flushedParts ++ [.ports, .reg .GLOBAL_STATUS, .reg .LOCK_LOG, .reg .PORT_HOLD, .reg .PORT_STATUS]
  | .headerSlotGrant .. =>
   queueParts ++ slotParts ++ [.staging, .recirc, .fabric, .skim, .churn, .telem, .reg .FAB_STATUS, .reg .NAT_POOL,
    .reg .NAT_TQUOTA, .ctr .bankStall, .ctr .cancelBeforeDispatch, .ctr .cancelInFlight, .ctr .fabHopsDrop, .ctr .fabUnreach,
    .ctr .gHeldPeak, .ctr .gSlotInflight, .ctr .ingLimitDrop, .ctr .lenPuntLost, .ctr .lenShort, .ctr .lenTrail,
    .ctr .natReserveReturned, .ctr .parseDepthDrop, .ctr .parseDepthPunt, .ctr .pinReqSent, .ctr .pinnedTx, .ctr .poolAlloc,
    .ctr .poolEmptyDrop, .ctr .probeFail, .ctr .probeOverrun, .ctr .quotaDrop, .ctr .reseqLate, .ctr .reseqLost,
    .ctr .reseqOverflow, .ctr .reseqResync, .ctr .selNoProfile, .ctr .sliceSlotBack, .ctr .slotRetired, .ctr .slotWasted,
    .ctr .sprayTx, .ctr .tenantMiss, .ctr .transitTx]
  | .recirculate .. =>
   [.prog, .frames, .recirc, .punts, .egress, .ctr .recircDecap]
  | .selEntryWrite .. =>
   evtParts ++ [.setup, .reg .GLOBAL_STATUS, .reg .LOCK_LOG, .reg .SEL_ENTRY]
  | .profileWrite .. =>
   evtParts ++ [.setup, .reg .GLOBAL_STATUS, .reg .LOCK_LOG, .reg .PROFILE, .reg .SEP_STATUS]
  | .lbKeyApply .. =>
   evtParts ++ [.reg .GLOBAL_STATUS, .reg .LB_KEY_CTL, .reg .LOCK_LOG, .reg .SEP_STATUS]
  | .lbKeySwitch =>
   [.setup, .reg .SEP_STATUS]
  | .skimLookup .. =>
   settleParts ++ cplParts ++ slotParts ++ [.punts, .ctr .gMissEntriesPeak, .ctr .hit, .ctr .join, .ctr .lookup,
    .ctr .missEntryFull, .ctr .missOpen, .ctr .waitPoolFull, .ctr .wbHit]
  | .cellarLookupComplete .. =>
   bufParts ++ settleParts ++ wheyParts ++ cplParts ++ slotParts ++ [.draws, .cellar, .reg .CELLAR_STATUS, .reg .TENANT_QUOTA,
    .ctr .cellarBytes, .ctr .cellarFull, .ctr .defaultUsed, .ctr .gQueuePeak, .ctr .learnOk, .ctr .learnStash, .ctr .lookup,
    .ctr .missLatencySum, .ctr .missNewFlow, .ctr .newFlowOverload, .ctr .quotaExceeded, .ctr .rekeyMigrated, .ctr .restash,
    .ctr .search, .ctr .stashFull, .ctr .tagCollision]
  | .strainerProbeIssue .. =>
   [.prog, .skim, .ctr .probeIssue, .ctr .search]
  | .strainerSearchComplete .. =>
   bufParts ++ settleParts ++ wheyParts ++ cplParts ++ slotParts ++ [.draws, .cellar, .strainer, .reg .CELLAR_STATUS,
    .reg .STR_LOG, .reg .STR_STATUS, .reg .TENANT_QUOTA, .ctr .cellarFull, .ctr .continueTaken, .ctr .defaultUsed,
    .ctr .falseHit, .ctr .learnOk, .ctr .learnStash, .ctr .poisonHit, .ctr .probeHit, .ctr .probeIssue, .ctr .quotaExceeded,
    .ctr .repeatLimit, .ctr .sramCorrected, .ctr .stashFull]
  | .skimBypass .. =>
   settleParts ++ [.ctr .skimBypass]
  | .bypassExit .. =>
   settleParts
  | .writeback .. =>
   settleParts ++ [.cellar, .ctr .cellarBytes]
  | .hintRewrite =>
   [.prog, .cellar, .reg .CELLAR_STATUS, .ctr .cellarBytes, .ctr .hintSkip, .ctr .hintWrite]
  | .hintSkip =>
   [.prog, .cellar, .ctr .hintSkip]
  | .taskDispatch .. =>
   bufParts ++ squashParts ++ settleParts ++ wheyParts ++ cplParts ++ slotParts ++ [.draws, .rind, .reg .CLUSTER_QUARANTINE,
    .reg .MCK_LOG, .reg .MCK_STATUS, .reg .RESET_CAUSE, .ctr .badOpcode, .ctr .commit, .ctr .dispatchLvl0, .ctr .dispatchLvl1,
    .ctr .dispatchLvl2, .ctr .dispatchLvl3, .ctr .forcedNonspec, .ctr .mckEvent, .ctr .nonspecFirst, .ctr .preemptRequest]
  | .recordWindowComplete .. | .natTakeAnswer .. =>
   [.churn]
  | .next .. | .jump .. | .branch .. | .branchn .. | .call .. | .ret .. | .dispatch .. | .wait .. | .checkpoint .. | .yield .. |
    .commit .. | .abort .. | .end_ .. =>
   bufParts ++ squashParts ++ settleParts ++ wheyParts ++ cplParts ++ slotParts ++ [.draws, .cellar, .telem, .rind,
    .reg .CLUSTER_QUARANTINE, .reg .MCK_LOG, .reg .MCK_STATUS, .reg .NAT_STATUS, .reg .RESET_CAUSE, .ctr .checkpoint,
    .ctr .commit, .ctr .commitFullSquash, .ctr .effectOverflow, .ctr .mckEvent, .ctr .natBadReturn, .ctr .natReserve,
    .ctr .natTakeFail, .ctr .noEgress, .ctr .routineFault, .ctr .teardownRun, .ctr .yieldTaken]
  | .storeWordRewrite .. =>
   [.prog, .churn, .reg .MCK_STATUS, .ctr .commit]
  | .routineIssueLimit .. =>
   bufParts ++ settleParts ++ wheyParts ++ cplParts ++ slotParts ++ [.draws, .reg .MCK_LOG, .reg .MCK_STATUS, .reg .NAT_POOL,
    .reg .NAT_TQUOTA, .ctr .gSlotInflight, .ctr .natReserveReturned, .ctr .routineFault, .ctr .slotRetired, .ctr .slotWasted]
  | .contextEccError .. =>
   settleParts ++ squashParts ++ [.ctr .ctxEccReplay]
  | .taskCommit .. =>
   bufParts ++ squashParts ++ settleParts ++ wheyParts ++ cplParts ++ slotParts ++ [.draws, .cellar, .ctr .checkpoint,
    .ctr .commit, .ctr .natBadReturn, .ctr .noEgress, .ctr .teardownRun]
  | .teardown .. =>
   removeParts ++ cplParts ++ [.ctr .hostDelete]
  | .frameRelease .. =>
   queueParts ++ [.fabric, .cellar, .reg .CELLAR_REKEY, .reg .HBM_SPLIT, .reg .PUBLISH_STATUS, .ctr .fabUnreach,
    .ctr .mirrorInvalid, .ctr .noEgress, .ctr .noEgressGroup, .ctr .pinnedTx, .ctr .sprayTx]
  | .vatWriteComplete .. =>
   evtParts ++ [.prog, .frames, .buffers, .egress, .reg .BUF_LOG, .reg .BUF_STATUS, .reg .POOL_QUOTA, .reg .POOL_STATUS,
    .reg .VAT_STATUS, .ctr .doubleFree, .ctr .foreignFree, .ctr .gIngCellsPeak, .ctr .gOnDiePeak, .ctr .gVatPeak,
    .ctr .pfcPauseEvents, .ctr .poolFree, .ctr .vatBytes]
  | .vatReadIssue .. =>
   [.egress, .reg .VAT_STATUS, .ctr .gOnDiePeak, .ctr .gVatPeak]
  | .vatReadComplete .. =>
   [.prog, .egress, .reg .VAT_STATUS, .ctr .gOnDiePeak, .ctr .gVatPeak, .ctr .vatBytes]
  | .frameTransmitStart .. =>
   bufParts ++ wheyParts ++ cplParts ++ [.draws, .egress, .reg .SCHED_PORT, .reg .SCHED_Q, .reg .VAT_STATUS, .ctr .gOnDiePeak,
    .ctr .gVatPeak, .ctr .gateOverrun, .ctr .lateDrop, .ctr .lateSent]
  | .frameTransmitEnd .. =>
   bufParts ++ cplParts ++ [.egress, .reg .PTP_PORT, .ctr .edSkip, .ctr .mirrorSent, .ctr .ptpOneStep, .ctr .ptpStampReturned,
    .ctr .ptpTcUpdated, .ctr .txBytes, .ctr .txFrames, .ctr .txOk, .ctr .txStomped, .ctr .vlanNoop]
  | .pfcFrameSend .. | .pfcRefresh .. =>
   [.prog, .out, .buffers, .ctr .txPfc]
  | .launchDue .. =>
   bufParts ++ wheyParts ++ cplParts ++ [.draws, .egress, .reg .SCHED_PORT, .reg .VAT_STATUS, .ctr .gOnDiePeak, .ctr .gVatPeak,
    .ctr .gateOverrun, .ctr .lateDrop, .ctr .lateSent]
  | .gateEntryExpire .. =>
   [.egress]
  | .indirWrite .. =>
   evtParts ++ [.reg .EGR_STATUS, .reg .GLOBAL_STATUS, .reg .INDIR, .reg .LOCK_LOG]
  | .poolCarveWrite .. =>
   evtParts ++ [.reg .BUF_STATUS, .reg .GLOBAL_STATUS, .reg .LOCK_LOG, .reg .POOL_CARVE, .reg .POOL_STATUS]
  | .poolQuotaWrite .. =>
   evtParts ++ [.reg .GLOBAL_STATUS, .reg .LOCK_LOG, .reg .POOL_QUOTA]
  | .vatCfgWrite .. =>
   evtParts ++ [.reg .BUF_STATUS, .reg .GLOBAL_STATUS, .reg .LOCK_LOG, .reg .VAT_CFG, .reg .VAT_STATUS]
  | .injBufferRetry .. =>
   queueParts ++ [.recirc, .ctr .poolAlloc]
  | .bufEccError .. =>
   bufParts ++ cplParts ++ slotParts ++ [.recirc, .egress, .fabric, .skim, .churn, .reg .FAB_STATUS, .reg .NAT_POOL,
    .reg .NAT_TQUOTA, .reg .VAT_STATUS, .ctr .bufEccCorrected, .ctr .bufEccFrame, .ctr .cancelBeforeDispatch,
    .ctr .cancelInFlight, .ctr .gHeldPeak, .ctr .gOnDiePeak, .ctr .gSlotInflight, .ctr .gVatPeak, .ctr .natReserveReturned,
    .ctr .slotRetired, .ctr .slotWasted, .ctr .vatEccCorrected, .ctr .vatEccFrame, .ctr .vatEccResync]
  | .hbmEccError .. =>
   bufParts ++ squashParts ++ settleParts ++ wheyParts ++ cplParts ++ slotParts ++ [.draws, .cellar, .reg .CELLAR_STATUS,
    .reg .TENANT_QUOTA, .ctr .cancelBeforeDispatch, .ctr .cancelInFlight, .ctr .cellarFull, .ctr .defaultUsed, .ctr .gQueuePeak,
    .ctr .learnOk, .ctr .learnStash, .ctr .lookup, .ctr .newFlowOverload, .ctr .poisonBucket, .ctr .poisonRecord,
    .ctr .quotaExceeded, .ctr .restash, .ctr .search, .ctr .stashFull]
  | .poisonBucketRebuildDone .. =>
   evtParts ++ [.prog, .cellar, .churn, .reg .CELLAR_STATUS, .ctr .commit]
  | .skimEccError .. =>
   wheyParts ++ squashParts ++ settleParts ++ cplParts ++ slotParts ++ [.punts, .cellar, .reg .CELLAR_STATUS, .reg .SKIM_STATUS,
    .reg .TENANT_QUOTA, .ctr .cancelBeforeDispatch, .ctr .cancelInFlight, .ctr .eccCleanDrop, .ctr .eccCorrected,
    .ctr .poisonDirty, .ctr .restash]
  | .scrubPass =>
   [.prog, .strainer, .ctr .scrubPass]
  | .strBlockCfgWrite .. =>
   evtParts ++ [.reg .GLOBAL_STATUS, .reg .LOCK_LOG, .reg .STR_BLOCK_CFG, .reg .STR_STATUS]
  | .strLkpWrite .. =>
   evtParts ++ [.setup, .reg .GLOBAL_STATUS, .reg .LOCK_LOG, .reg .STR_LKP, .reg .STR_STATUS]
  | .purgeStart .. =>
   evtParts ++ [.cellar, .reg .GLOBAL_STATUS, .reg .LOCK_LOG, .reg .STR_CTL]
  | .purgeVisit =>
   settleParts ++ [.cellar, .reg .STR_CTL, .ctr .commit]
  | .sweepNow .. =>
   evtParts ++ [.prog, .cellar, .reg .AGE_CTL, .reg .GLOBAL_STATUS, .reg .LOCK_LOG, .ctr .sweepOverrun]
  | .sweepVisit =>
   settleParts ++ [.cellar, .ctr .commit]
  | .sweepEnd =>
   [.prog, .cellar, .reg .AGE_CTL, .ctr .sweepOverrun]
  | .rekeyStart .. =>
   evtParts ++ [.draws, .cellar, .reg .CELLAR_REKEY, .reg .GLOBAL_STATUS, .reg .HBM_SPLIT, .reg .LOCK_LOG]
  | .rekeyMigrateVisit =>
   settleParts ++ [.cellar, .reg .CELLAR_REKEY, .reg .CELLAR_STATUS, .ctr .commit, .ctr .migrationBytes, .ctr .rekeyMigrated,
    .ctr .restash]
  | .rekeySwitch =>
   [.cellar, .reg .CELLAR_REKEY, .reg .HBM_SPLIT]
  | .cmdNop .. | .strainerRead .. =>
   cplParts
  | .flowInsert .. | .flowUpdate .. | .flowDelete .. | .flowRead .. =>
   bufParts ++ squashParts ++ settleParts ++ wheyParts ++ cplParts ++ slotParts ++ [.draws, .cellar, .reg .CELLAR_STATUS,
    .reg .TENANT_QUOTA, .ctr .cellarFull, .ctr .commit, .ctr .defaultUsed, .ctr .gQueuePeak, .ctr .hostInsert,
    .ctr .hostNotFound, .ctr .hostRead, .ctr .hostUpdate, .ctr .learnOk, .ctr .learnStash, .ctr .newFlowOverload,
    .ctr .quotaExceeded, .ctr .search, .ctr .stashFull]
  | .strainerWrite .. =>
   cplParts ++ [.strainer, .reg .STR_STATUS]
  | .epochPublish .. =>
   cplParts ++ evtParts ++ [.churn, .reg .PUBLISH_STATUS]
  | .drainSet .. =>
   cplParts ++ updParts ++ [.reg .HIF_STATUS]
  | .drainComplete | .bankMirrorComplete | .resetChipAssert | .resetDomain .. | .domainHold .. | .domainSwitchComplete .. |
    .recoveryComplete .. | .bootRecordWriteDone | .mladundRestartDone | .octetRetrainNext | .powerRailFall .. | .rstNAssert .. |
    .brownout .. | .thermalTrip | .watchdogStage2 | .criticalStateError .. | .domainRelease .. | .releaseWindowExpire .. |
    .startWindowExpire =>
   allParts
  | .drainLimitExpire =>
   settleParts ++ evtParts ++ [.reg .NAT_POOL, .reg .NAT_TQUOTA, .reg .PUBLISH_STATUS, .ctr .cancelBeforeDispatch,
    .ctr .cancelInFlight, .ctr .gSlotInflight, .ctr .natReserveReturned, .ctr .slotRetired, .ctr .slotWasted]
  | .doorbellWrite .. =>
   flushParts ++ [.reg .RING_CTL, .reg .SET_ERR, .ctr .dbDisabled, .ctr .dbErrCount, .ctr .dbPartial]
  | .descriptorFetch .. =>
   wheyParts ++ cplParts ++ [.draws, .reg .RING_CTL, .reg .SET_ERR, .ctr .cmdFetched, .ctr .injFrames]
  | .injDirect .. | .injProcess .. =>
   queueParts ++ [.recirc, .ctr .injWait, .ctr .poolAlloc]
  | .puntDeliver .. =>
   bufParts ++ wheyParts ++ [.draws, .reg .RING_CTL, .reg .SET_ERR, .ctr .puntAggDrop, .ctr .puntDelivered, .ctr .puntNoRing,
    .ctr .puntPoliced, .ctr .puntRingFull]
  | .wheyDeliver =>
   queueParts ++ [.telem, .reg .WHEY_ROUTE, .ctr .ipfixMsgDrop, .ctr .ipfixMsgs, .ctr .ipfixRecords, .ctr .ringFullDrop,
    .ctr .wheyWritten]
  | .statusBlockWrite .. | .irqModTimer .. =>
   [.out, .host]
  | .evtRearmWrite .. =>
   evtParts ++ [.reg .GLOBAL_STATUS, .reg .LOCK_LOG]
  | .ringEnable .. =>
   evtParts ++ [.frames, .buffers, .skim, .churn, .images, .reg .GLOBAL_STATUS, .reg .LOCK_LOG, .reg .RING_CTL, .reg .SET_ERR]
  | .ringDisable .. =>
   flushParts ++ [.reg .GLOBAL_STATUS, .reg .LOCK_LOG, .reg .RING_CTL, .reg .SET_ERR]
  | .ringQuiesced .. =>
   [.host, .reg .RING_CTL]
  | .ringDmaError .. =>
   evtParts ++ [.reg .RING_CTL, .reg .SET_ERR]
  | .rsetOwnerWrite .. =>
   evtParts ++ [.reg .GLOBAL_STATUS, .reg .HIF_STATUS, .reg .LOCK_LOG, .reg .RSET_OWNER]
  | .vfEnableClear | .functionLevelReset .. =>
   evtParts ++ [.prog, .frames, .buffers, .skim, .churn, .rind, .images, .setup, .reg .HIF_RESET_LOG, .reg .HIF_STATUS,
    .reg .RING_BASE, .reg .RING_CTL, .reg .SB_ADDR, .reg .SET_CTL, .reg .SET_ERR, .ctr .injLost, .ctr .ringOffDrop]
  | .hostReset .. =>
   evtParts ++ [.prog, .frames, .buffers, .skim, .churn, .rind, .images, .setup, .reg .HIF_RESET_LOG, .reg .HIF_STATUS,
    .reg .RESET_CAUSE, .reg .RING_BASE, .reg .RING_CTL, .reg .SB_ADDR, .reg .SET_CTL, .reg .SET_ERR, .ctr .injLost,
    .ctr .ringOffDrop]
  | .perstRelease =>
   [.host, .rind]
  | .pcieEnterCompliance | .vfEnableSet =>
   [.host]
  | .getVersion | .getCapabilities | .negotiateAlgorithms .. | .getDigests | .getCertificate .. | .challenge .. |
    .getMeasurements .. =>
   [.out, .rind]
  | .getStatus .. | .getHistory .. | .resetChip .. | .mbxInvalidCommand .. | .logRegionWriteDone =>
   mbxParts
  | .causeClear .. =>
   mbxParts ++ [.reg .RESET_CAUSE]
  | .powerSet .. =>
   mbxParts ++ [.reg .SKIM_STATUS]
  | .throttleSet .. =>
   mbxParts ++ updParts ++ [.reg .THERMAL]
  | .keyPin .. | .keyUnpin .. =>
   mbxParts ++ [.images, .reg .CELLAR_REKEY]
  | .imgChunk .. | .chunkWriteComplete .. | .milkChunk .. =>
   queueParts ++ mbxParts ++ updParts ++ [.images]
  | .imgBitmap .. =>
   mbxParts ++ cplParts
  | .imgAbort .. =>
   mbxParts ++ updParts ++ cplParts ++ [.images]
  | .imgConfirm .. =>
   mbxParts ++ cplParts ++ [.images]
  | .ticketSubmit .. =>
   anyCtr ++ queueParts ++ mbxParts ++ [.cellar, .strainer, .churn, .time, .telem, .images, .reg .AGE_CTL, .reg .PUBLISH_STATUS,
    .reg .TALLY_CTL, .reg .TALLY_PROG, .reg .TRIG_CTL, .reg .TRIG_PERIOD, .reg .TRIG_START_HI, .reg .TRIG_START_LO,
    .reg .UPD_STATUS]
  | .ticketCancel .. =>
   mbxParts ++ [.strainer, .churn, .time, .images, .reg .PUBLISH_STATUS, .reg .TRIG_CTL, .reg .UPD_STATUS]
  | .ownerSet .. =>
   mbxParts ++ updParts ++ [.images]
  | .ownerEnroll .. =>
   mbxParts ++ updParts
  | .milkSet .. =>
   mbxParts ++ [.reg .UPD_MILK]
  | .slotVerifyComplete =>
   updParts ++ [.images]
  | .sessionOwnerTimeout =>
   [.reg .UPD_STATUS]
  | .milkNeed .. | .milkResendTimeout .. =>
   queueParts ++ [.images, .reg .UPD_MILK]
  | .milkAck .. | .milkNeedTimer =>
   queueParts ++ [.images]
  | .milkRefuse .. | .autoConfirm =>
   [.images]
  | .activationCheck =>
   [.strainer, .churn, .time, .images, .reg .PUBLISH_STATUS, .reg .TRIG_CTL, .reg .UPD_STATUS]
  | .reseqRelease .. =>
   bufParts ++ wheyParts ++ cplParts ++ slotParts ++ [.draws, .recirc, .egress, .fabric, .skim, .churn, .reg .FAB_STATUS,
    .reg .NAT_POOL, .reg .NAT_TQUOTA, .reg .VAT_STATUS, .ctr .cancelBeforeDispatch, .ctr .cancelInFlight, .ctr .gHeldPeak,
    .ctr .gOnDiePeak, .ctr .gSlotInflight, .ctr .gVatPeak, .ctr .lenPuntLost, .ctr .lenShort, .ctr .lenTrail,
    .ctr .natReserveReturned, .ctr .parseDepthDrop, .ctr .parseDepthPunt, .ctr .selNoProfile, .ctr .slotRetired,
    .ctr .slotWasted, .ctr .tenantMiss]
  | .reseqGapTimeout .. =>
   [.prog, .fabric, .ctr .reseqLost]
  | .pinRequest .. =>
   bufParts ++ slotParts ++ [.fabric, .reg .FAB_STATUS, .ctr .pinReqIgnored]
  | .pinRequestResend .. =>
   queueParts ++ [.fabric, .ctr .fabUnreach, .ctr .pinReqSent, .ctr .pinnedTx, .ctr .sprayTx]
  | .pinExpire .. =>
   [.fabric]
  | .timeNowLatch .. =>
   [.out, .time]
  | .timeRateWrite .. =>
   evtParts ++ [.reg .GLOBAL_STATUS, .reg .LOCK_LOG, .reg .TIME_RATE, .reg .TIME_STATUS]
  | .timeSlewWrite .. =>
   evtParts ++ [.time, .reg .GLOBAL_STATUS, .reg .LOCK_LOG, .reg .TIME_SLEW, .reg .TIME_STATUS]
  | .slewComplete =>
   [.reg .TIME_STATUS]
  | .timeStep .. =>
   anyCtr ++ queueParts ++ [.cellar, .strainer, .churn, .time, .telem, .images, .reg .AGE_CTL, .reg .EPOCH_LOG_HI,
    .reg .EPOCH_LOG_LO, .reg .GLOBAL_STATUS, .reg .LOCK_LOG, .reg .PUBLISH_STATUS, .reg .SCHED_PORT, .reg .TALLY_CTL,
    .reg .TALLY_PROG, .reg .TIME_CTL, .reg .TIME_STATUS, .reg .TRIG_CTL, .reg .UPD_STATUS]
  | .reepoch .. =>
   evtParts ++ [.egress, .time, .reg .GLOBAL_STATUS, .reg .LOCK_LOG, .reg .TIME_CTL, .reg .TIME_STATUS]
  | .reepochHoldExpire =>
   bufParts ++ wheyParts ++ cplParts ++ [.draws, .egress, .strainer, .churn, .time, .images, .reg .EPOCH_LOG_HI,
    .reg .EPOCH_LOG_LO, .reg .PUBLISH_STATUS, .reg .SCHED_PORT, .reg .TIME_CTL, .reg .TIME_STATUS, .reg .TRIG_CTL,
    .reg .UPD_STATUS, .reg .VAT_STATUS, .ctr .gOnDiePeak, .ctr .gVatPeak, .ctr .lateDrop, .ctr .reepochCount]
  | .refSelectWrite .. =>
   evtParts ++ [.time, .reg .GLOBAL_STATUS, .reg .LOCK_LOG, .reg .TIME_CFG, .reg .TIME_STATUS]
  | .refLost =>
   evtParts ++ [.prog, .reg .TIME_STATUS, .ctr .refLostCount]
  | .ppsCapture =>
   anyCtr ++ queueParts ++ [.cellar, .strainer, .churn, .time, .telem, .images, .reg .AGE_CTL, .reg .EPOCH_LOG_HI,
    .reg .EPOCH_LOG_LO, .reg .PPS_CAP_HI, .reg .PPS_CAP_LO, .reg .PUBLISH_STATUS, .reg .SCHED_PORT, .reg .TALLY_CTL,
    .reg .TALLY_PROG, .reg .TIME_CTL, .reg .TIME_STATUS, .reg .TRIG_CTL, .reg .UPD_STATUS]
  | .ppsMissing =>
   evtParts ++ [.prog, .time, .reg .TIME_STATUS, .ctr .ppsMissingCount]
  | .triggerArm .. =>
   anyCtr ++ queueParts ++ [.cellar, .strainer, .churn, .time, .telem, .images, .reg .AGE_CTL, .reg .GLOBAL_STATUS,
    .reg .LOCK_LOG, .reg .PUBLISH_STATUS, .reg .TALLY_CTL, .reg .TALLY_PROG, .reg .TIME_STATUS, .reg .TRIG_CTL,
    .reg .UPD_STATUS]
  | .triggerFire .. =>
   anyCtr ++ queueParts ++ [.cellar, .strainer, .churn, .time, .telem, .images, .reg .AGE_CTL, .reg .PUBLISH_STATUS,
    .reg .TALLY_CTL, .reg .TALLY_PROG, .reg .TRIG_CTL, .reg .UPD_STATUS]
  | .trigOutFall .. =>
   [.time]
  | .wheyEpochNow .. =>
   queueParts ++ [.cellar, .telem, .reg .GLOBAL_STATUS, .reg .LOCK_LOG, .reg .WHEY_CTL, .ctr .ipfixMsgDrop, .ctr .ipfixMsgs,
    .ctr .periodicOverrun]
  | .periodicVisit =>
   wheyParts ++ settleParts ++ [.cellar, .ctr .commit, .ctr .periodicEmitted]
  | .ipfixEnable .. =>
   queueParts ++ [.telem, .reg .GLOBAL_STATUS, .reg .IPFIX_CFG, .reg .LOCK_LOG, .ctr .ipfixMsgDrop, .ctr .ipfixTemplates]
  | .ipfixMessageTimeout .. =>
   queueParts ++ [.telem, .ctr .ipfixMsgDrop, .ctr .ipfixMsgs]
  | .ipfixTemplateRefresh .. =>
   queueParts ++ [.telem, .ctr .ipfixMsgDrop, .ctr .ipfixTemplates]
  | .qwmWrite .. =>
   evtParts ++ [.egress, .reg .GLOBAL_STATUS, .reg .LOCK_LOG, .reg .QWM, .reg .WHEY_STATUS]
  | .tallySnapNow .. =>
   anyCtr ++ evtParts ++ [.prog, .telem, .reg .GLOBAL_STATUS, .reg .LOCK_LOG, .reg .POOL_STATUS, .reg .TALLY_CTL,
    .reg .TALLY_PROG, .reg .VAT_STATUS]
  | .tallyWriteoutComplete =>
   anyCtr ++ cplParts ++ [.telem, .reg .POOL_STATUS, .reg .TALLY_CTL, .reg .TALLY_PROG, .reg .VAT_STATUS]
  | .tallyProgWrite .. =>
   evtParts ++ [.telem, .reg .TALLY_CTL]
  | .powerOn .. =>
   [.draws, .rind, .setup, .reg .RIND_STATUS]
  | .resetSourceRelease .. =>
   [.draws, .host, .rind, .setup, .reg .RIND_STATUS]
  | .thermalTripRelease =>
   [.draws, .rind, .reg .RIND_STATUS]
  | .thermalReport .. =>
   evtParts ++ updParts ++ [.draws, .rind, .reg .HBM_SPLIT, .reg .RIND_EVT, .reg .STR_STATUS, .reg .THERMAL]
  | .railMarginLow .. | .railMarginRestore .. =>
   evtParts ++ updParts ++ [.rind, .reg .RAIL, .reg .RIND_EVT]
  | .avsTargetRevise .. =>
   evtParts ++ [.rind, .reg .RAIL, .reg .RIND_EVT]
  | .avsRetry .. =>
   [.rind, .reg .RAIL]
  | .watchdogKick =>
   [.rind]
  | .watchdogStage1 =>
   [.rind, .setup, .reg .PD_HELD, .reg .RESET_CAUSE, .reg .RIND_STATUS]
  | .clockGood .. =>
   updParts ++ [.draws, .fabric, .cellar, .host, .rind, .images, .setup, .reg .CELLAR_REKEY, .reg .PD_HELD, .reg .PD_STATE,
    .reg .RAIL, .reg .RIND_STATUS, .reg .START_STATUS]
  | .startComplete =>
   queueParts ++ [.rind, .images, .reg .GLOBAL_STATUS, .reg .RIND_STATUS, .reg .START_STATUS]
  | .sliceRestoreDone .. =>
   [.rind, .reg .PD_HELD]
  | .skimBankFlushDone .. =>
   anyCtr ++ mbxParts ++ [.cellar, .skim, .telem, .reg .SKIM_STATUS]
  | .strainerBlockReloadDone .. =>
   [.strainer, .rind, .reg .PD_HELD]
  | .clusterReloadDone .. =>
   [.churn, .rind, .reg .MCK_STATUS, .reg .PD_HELD]
  | .laneTestWrite .. | .laneTestLatch .. | .laneTestClear .. =>
   evtParts ++ [.setup, .reg .GLOBAL_STATUS, .reg .LANE_TEST, .reg .LOCK_LOG, .reg .OCTET_STATUS]
  | .checkerLock .. =>
   [.reg .LANE_TEST]
  | .checkerLockLoss .. | .checkerSaturate .. =>
   evtParts ++ [.setup, .reg .LANE_TEST]
  | .portTestWrite .. =>
   evtParts ++ [.prog, .ports, .reg .GLOBAL_STATUS, .reg .LOCK_LOG, .reg .PORT_CHK, .reg .PORT_STATUS, .reg .PORT_TEST,
    .ctr .linkGlitch]
  | .genFrameSend .. =>
   [.prog, .out, .ports, .reg .PORT_CHK, .reg .PORT_TEST, .ctr .txOk]
  | .bypass | .samplePreload | .extest | .clamp | .highz | .extestPulse | .extestTrain | .tapReset =>
   [.setup]
  | .idcode =>
   [.out, .setup]
  | .setupLockWrite .. =>
   evtParts ++ [.reg .GLOBAL_STATUS, .reg .LOCK_LOG, .reg .SETUP_LOCK]
  | .registerWrite .. =>
   anyCtr ++ anyReg ++ flushedParts ++ removeParts ++ [.ports, .fabric, .strainer, .time, .telem, .images, .setup]
  | .busMasterEnableChange .. =>
   flushParts
  | .bundleStagingComplete =>
   [.churn, .images, .reg .PUBLISH_STATUS]

/-- The register instance that a command writes, where it writes one (R8); the other commands that take a register value are rows
of registers with one instance, or of the trigger units, whose instances can act on each other. -/
def writeTarget (c : Instr) : Option (Reg × Nat) :=
  match c with
  | .octetLayoutWrite _ octet _ => some (.OCTET_LAYOUT, octet)
  | .portCfgWrite _ port _ => some (.PORT_CFG, port)
  | .portAdminDisable _ port => some (.PORT_CFG, port)
  | .portHoldWrite _ port _ => some (.PORT_HOLD, port)
  | .portTestWrite _ port _ => some (.PORT_TEST, port)
  | .selEntryWrite _ entry _ => some (.SEL_ENTRY, entry)
  | .profileWrite _ profile _ => some (.PROFILE, profile)
  | .strLkpWrite _ profile _ => some (.STR_LKP, profile)
  | .indirWrite _ table entry _ => some (.INDIR, table * 65536 + entry)
  | .poolQuotaWrite _ requester pool _ => some (.POOL_QUOTA, requester * 4 + pool)
  | .ringEnable set ring _ => some (.RING_CTL, set * 8 + ring)
  | .ringDisable set ring _ => some (.RING_CTL, set * 8 + ring)
  | .rsetOwnerWrite _ set _ => some (.RSET_OWNER, set)
  | .ipfixEnable _ exporter _ => some (.IPFIX_CFG, exporter)
  | .qwmWrite _ port cls _ => some (.QWM, port * 16 + cls)
  | .laneTestWrite _ octet lane _ => some (.LANE_TEST, octet * 8 + lane)
  | .laneTestLatch _ octet lane _ _ => some (.LANE_TEST, octet * 8 + lane)
  | .laneTestClear _ octet lane => some (.LANE_TEST, octet * 8 + lane)
  | _ => none

end Sys2Proof.Machine
end

