-- ==== Sys2Proof/Certificates/Slice0/Obligations.lean ====
section
/-! DEFINITION. The statements of this model for the provers: what its commands do, where they complete, what they leave alone,
and what every step keeps. Each names the rules of the spec it is about. -/

open Sys2Proof Sys2Proof.Machine

/-- Link conditions move the debounce counts, and a debounce that has run declares the port up or down. A change of lock
or faults, and the end of auto-negotiation or of training, shows in PORT_STATUS. While the port is down the up count
starts when every condition of R34 holds and restarts from zero when one is lost; while it is up, a break shorter than
down_debounce_us adds one to link_glitch and ends the down count. When every condition of R34 has held for
up_debounce_us the port is declared up, up_event is set, and unless a flush runs the hold ends. When a loss has held
for down_debounce_us the port is declared down, down_event is set, and with a nonzero port_hold_us the hold begins.
(R33, R34, R35, R45.) -/
def Obligations.LinkConditionsAndDebounces : Prop :=
  ((∀ s port lock lf rf, port < 256 → portExists s port = true → s.runs (pdOctet (port / 8)) = true →
      Completes (.linkConditionChange port lock lf rf) s fun t =>
        t.fget .PORT_STATUS_align_lock port = bit lock ∧ t.fget .PORT_STATUS_local_fault port = bit lf ∧
        t.fget .PORT_STATUS_remote_fault port = bit rf ∧
        (portUp s port = false → upConditions t port = false → (t.port port).upFrom = none) ∧
        (portUp s port = false → upConditions t port = true → (s.port port).upFrom = none → (t.port port).upFrom = some s.now) ∧
        (portUp s port = true → lossPresent t port = true → (s.port port).downFrom = none → (t.port port).downFrom = some s.now) ∧
        (portUp s port = true → lossPresent t port = false → (s.port port).downFrom.isSome = true →
          (t.port port).downFrom = none ∧ t.cget .linkGlitch port = (s.cget .linkGlitch port + 1) % 2 ^ 48)) ∧
    (∀ s port, port < 256 → portExists s port = true → s.fbit .PORT_CFG_admin_en port = true → (s.port port).anEn = true →
      s.runs (pdOctet (port / 8)) = true →
      Completes (.autonegComplete port) s fun t => t.fget .PORT_STATUS_an_done port = 1) ∧
    (∀ s port, port < 256 → portExists s port = true → s.fbit .PORT_CFG_admin_en port = true → (s.port port).ltEn = true →
      s.runs (pdOctet (port / 8)) = true →
      Completes (.linkTrainingComplete port) s fun t => t.fget .PORT_STATUS_lt_done port = 1)) ∧
  ((∀ s port t0, (s.port port).upFrom = some t0 → portUp s port = false → upConditions s port = true →
      t0 + 1000 * s.fget .PORT_CFG_up_debounce_us port ≤ s.now →
      Completes (.portUpDebounceExpire port) s fun t =>
        t.fget .PORT_STATUS_link_up port = 1 ∧ t.fget .PORT_STATUS_up_event port = 1 ∧
        (t.port port).upFrom = none ∧ (t.port port).holdFrom = none ∧ (t.port port).maxFrame = s.fget .PORT_CFG_max_frame port ∧
        (s.fbit .PORT_STATUS_flushing port = false → t.fget .PORT_STATUS_hold_active port = 0)) ∧
    (∀ s port t0, (s.port port).downFrom = some t0 → portUp s port = true →
      t0 + 1000 * s.fget .PORT_CFG_down_debounce_us port ≤ s.now →
      Completes (.portDownDebounceExpire port) s fun t =>
        t.fget .PORT_STATUS_link_up port = 0 ∧ t.fget .PORT_STATUS_down_event port = 1 ∧
        (s.fget .PORT_HOLD_port_hold_us port ≠ 0 →
          t.fget .PORT_STATUS_hold_active port = 1 ∧ (t.port port).holdFrom = some s.now) ∧
        (s.fget .PORT_HOLD_port_hold_us port = 0 → t.fget .PORT_STATUS_flushing port = 1)))

/-- A codeword is counted in exactly one of 17 bins, and pause timers, holds and flushes end. A codeword with k corrected
symbols in all, k at most 15, adds one to bin k of its port; any other adds one to the uncorrected counter. Every
other one of the 17 counters of the port stands. A degrade window that ends declares a degrade when it holds at least
degrade_thresh uncorrectable codewords and clears it otherwise. A pause timer that has run out no longer pauses its
priority. A hold that expires starts the flush and ends the hold timer. A flush that completes clears flushing and
hold_active. (R36, R37, R43, R45.) -/
def Obligations.CodewordsPausesAndHolds : Prop :=
  ((∀ s port (corrected : List Nat) unc, port < 256 → portExists s port = true → s.fbit .PORT_STATUS_align_lock port = true →
      s.runs (pdOctet (port / 8)) = true →
      Completes (.fecCodewordDecode port corrected unc) s fun t =>
        let n := (corrected.take (portWidth s port)).sum
        let c := if unc = true ∨ 15 < n then Ctr.fecUncorrected else fecBin n
        t.cget c port = (s.cget c port + 1) % 2 ^ 48 ∧
        (∀ k, k < 16 → fecBin k ≠ c → t.cget (fecBin k) port = s.cget (fecBin k) port) ∧
        (c ≠ .fecUncorrected → t.cget .fecUncorrected port = s.cget .fecUncorrected port)) ∧
    (∀ s port, port < 256 → portExists s port = true → s.runs (pdOctet (port / 8)) = true →
      (s.port port).fecFrom + 1000 * s.fget .FEC_DEGRADE_degrade_window_us port ≤ s.now →
      Completes (.fecDegradeWindowEnd port) s fun t =>
        t.fget .PORT_STATUS_fec_degraded port = bit (decide (s.fget .FEC_DEGRADE_degrade_thresh port ≤ (s.port port).fecCount)) ∧
        (s.fbit .PORT_STATUS_fec_degraded port = false → s.fget .FEC_DEGRADE_degrade_thresh port ≤ (s.port port).fecCount →
          t.fget .PORT_STATUS_degrade_event port = 1))) ∧
  ((∀ s port prio, tget 0 s.buffers.rxPause (port, prio) ≤ s.now →
      Completes (.pauseTimerExpire port prio) s fun t => tget 0 t.buffers.rxPause (port, prio) = 0) ∧
    (∀ s port t0, holdEnd s port = some t0 → t0 ≤ s.now →
      Completes (.holdExpire port) s fun t => t.fget .PORT_STATUS_flushing port = 1 ∧ holdEnd t port = none) ∧
    (∀ s port, s.fbit .PORT_STATUS_flushing port = true →
      Completes (.flushComplete port) s fun t =>
        t.fget .PORT_STATUS_flushing port = 0 ∧ t.fget .PORT_STATUS_hold_active port = 0))

/-- A received frame falls in exactly one receive counter. A frame that arrives whole on a port that is up adds one to the
counter of the first row of R38 that fits it, and to no other receive counter of the port; the port then waits for the
next frame. A frame that finds no room in the staging FIFO is counted in rx_staging_overrun, unless an uncorrectable
codeword touched it. (R38, R390.) -/
def Obligations.FrameCountedOnce : Prop :=
  ∀ s port (b : List Byte) fec, port < 256 → portExists s port = true → s.runs (pdOctet (port / 8)) = true →
    portUp s port = true → (s.port port).rx = none →
    Completes (.frameReceive port true true b fec) s fun t =>
      let c : Ctr :=
        if fec = true then .rxFecErr
        else if stagingFree s (port / 8) < (s.port port).maxFrame then .rxStagingOverrun
        else if (s.port port).maxFrame < b.length then .rxOversize
        else if b.length < 64 then .rxRunt
        else if fcsGood b = false then .rxFcsErr
        else if hasType b 0x8808 = true then
          (if beAt b 14 2 = 0x0101 then .rxPfc else if beAt b 14 2 = 0x0001 then .rxPause else .rxMacCtrlOther)
        else if isIxpeune s b = true ∧ s.fbit .PORT_CFG_fabric_port port = false then .rxForeign
        else .rxOk
      t.cget c port = (s.cget c port + 1) % 2 ^ 48 ∧ (t.port port).rx = none ∧
      ∀ x, x ∈ [Ctr.rxFecErr, .rxStagingOverrun, .rxOversize, .rxRunt, .rxFcsErr, .rxPfc, .rxPause, .rxMacCtrlOther, .rxForeign, .rxOk] →
        x ≠ c → t.cget x port = s.cget x port

/-- Held frames are released in sequence or given up, and pin requests pin a stream. When the lowest held number of a
stream is exp, that frame is passed to step 3, it is held no more and exp moves one past it. When the gap timeout of
the earliest arrival has run, the numbers below the lowest held number are counted in reseq_lost, exp moves to that
number, and the held frames stay. A pin request that reaches its destination with the current stream epoch pins the
stream to its sender for pin_ms and sets pin_event; one for a stream never used is counted in pin_req_ignored; one
that names another epoch pins nothing. A stream in PASS sends a further request when 10 ms have gone by. A pin time
that has run ends. (R243, R244, R247, R248.) -/
def Obligations.StreamsReleaseAndPin : Prop :=
  ((∀ s src cls h l, (s.stream src cls).held = h :: l → h.1 = (s.stream src cls).exp →
      exec (.reseqRelease src cls) s =
        .next (heldShow (stepThree (s.setStream src cls
          { s.stream src cls with held := l, exp := ((s.stream src cls).exp + 1) % 2 ^ 24 }) h.2.1))) ∧
    (∀ s src cls h l t0, (s.stream src cls).held = h :: l → ((s.stream src cls).held.map (fun x => x.2.2)).min? = some t0 →
      h.1 ≠ (s.stream src cls).exp → t0 + 1000 * s.fget .FAB_CFG_gap_timeout_us 0 ≤ s.now →
      Completes (.reseqGapTimeout src cls) s fun t =>
        t.stream src cls = { s.stream src cls with exp := h.1 } ∧
        t.cget .reseqLost src = (s.cget .reseqLost src + ahead h.1 (s.stream src cls).exp) % 2 ^ 48)) ∧
  ((∀ s frame f m, s.frame? frame = some f → f.shim = some m → f.stage = .reseq → m.typ = 2 → f.transit = false →
      Completes (.pinRequest frame) s fun t =>
        let c := byteAt f.bytes 16 % 16
        (tget 0 s.fabric.seq (m.src, c) = 0 →
          t.cget .pinReqIgnored 0 = (s.cget .pinReqIgnored 0 + 1) % 2 ^ 48 ∧ t.fabric = s.fabric) ∧
        (tget 0 s.fabric.seq (m.src, c) ≠ 0 → byteAt f.bytes 17 = s.fabric.epoch →
          tget 0 t.fabric.pinEnd (m.src, c) = s.now + 1000000 * s.fget .FAB_CFG_pin_ms 0 ∧ t.fget .FAB_STATUS_pin_event 0 = 1) ∧
        (byteAt f.bytes 17 ≠ s.fabric.epoch → t.fabric = s.fabric)) ∧
    (∀ s src cls t0, (s.stream src cls).mode = .pass → (s.stream src cls).lastPin = some t0 → t0 + 10000000 ≤ s.now →
      Completes (.pinRequestResend src cls) s fun t => t.cget .pinReqSent 0 = (s.cget .pinReqSent 0 + 1) % 2 ^ 48) ∧
    (∀ s dst cls, tget 0 s.fabric.pinEnd (dst, cls) ≤ s.now →
      Completes (.pinExpire dst cls) s fun t =>
        tget 0 t.fabric.pinEnd (dst, cls) = 0 ∧ streamPinned t dst cls = s.fbit .FAB_ROUTE_pinned dst))

/-- A header slot goes to the head of an octet or of the recirculation port, and a recirculating frame keeps its tag,
tenant and buffer. The first frame of an octet that goes to its slice takes the slot once its header window is
present, and so does the head of the recirculation port, which leaves it; while a request queue of the slice is full
the slot is lost, and counted in bank_stall and slice_slot_back. Once its last byte is received, a frame that is to
recirculate joins its slice's recirculation port as its next pass, with the bytes of that pass, and keeps its ingress
epoch tag, its tenant, its arrival stamp and its buffer. (R18, R21, R32, R56, R59, R96, R312, R390, R394.) -/
def Obligations.SlotsAndRecirculation : Prop :=
  ((∀ s slice source e, slice < 16 → s.runs (pdSlice slice) = true → source < 2 →
      stagingHead s (2 * slice + source) = some e → slotReady s e.frame = true →
      (sliceStalled s slice = false → exec (.headerSlotGrant slice source) s = .next (grantFront s slice e)) ∧
      (sliceStalled s slice = true → Completes (.headerSlotGrant slice source) s fun t =>
        t.cget .bankStall slice = (s.cget .bankStall slice + 1) % 2 ^ 48 ∧
        t.cget .sliceSlotBack slice = (s.cget .sliceSlotBack slice + 1) % 2 ^ 48)) ∧
    (∀ s slice source id l, slice < 16 → s.runs (pdSlice slice) = true → 2 ≤ source → tget [] s.recirc (slice, 0) = id :: l →
      sliceStalled s slice = false →
      exec (.headerSlotGrant slice source) s =
        .next (grantRecirc { s with recirc := tset [] s.recirc (slice, 0) l } slice id))) ∧
  (∀ s frame f, s.frame? frame = some f → f.stage = .recirc → f.whole = true →
      s.recirc.all (fun e => !e.2.contains frame) = true →
      Completes (.recirculate frame) s fun t =>
        tget [] t.recirc (f.slice, 0) = tget [] s.recirc (f.slice, 0) ++ [frame] ∧
        (t.frame frame).pass = f.pass + 1 ∧ (t.frame frame).bytes = nextPassBytes s f ∧ (t.frame frame).epochTag = f.epochTag ∧
        (t.frame frame).tenant = f.tenant ∧ (t.frame frame).stamp = f.stamp ∧ (t.frame frame).buf = f.buf ∧
        (t.frame frame).stage = .recirc)

/-- Release follows arrival order inside an order domain. The frame of an order domain with the lowest place is released
once it has committed, and until it has committed no frame of the domain is. A released frame with no mirror whose
egress is a recirculation port of its slice group waits, below pass 3, to recirculate through that slice. (R20, R157,
R204.) -/
def Obligations.ReleaseFollowsArrivalInADomain : Prop :=
  (∀ s domain p id, ((domainFrames s domain).map (fun x => x.1)).min? = some p →
    (domainFrames s domain).find? (fun x => x.1 == p) = some (p, id) →
    ((s.frame id).stage = .committed → switchHolds s p = false →
      exec (.frameRelease domain) s = .next (drainRefresh (rekeySettle (releaseFrame s id)))) ∧
    ((s.frame id).stage ≠ .committed → exec (.frameRelease domain) s = .next s)) ∧
  (∀ s domain p id f q c, ((domainFrames s domain).map (fun x => x.1)).min? = some p →
    (domainFrames s domain).find? (fun x => x.1 == p) = some (p, id) → s.frame? id = some f → f.stage = .committed →
    switchHolds s p = false → f.dest = .port q c → 257 ≤ q → q < 273 → f.pass < 3 → f.mirror = none →
    Completes (.frameRelease domain) s fun t =>
      (t.frame id).stage = .recirc ∧ (t.frame id).slice = q - 257 ∧ (t.frame id).copies = 1 ∧ (t.frame id).bytes = f.bytes)

/-- Uncorrectable errors of buffers, the Vat, records and buckets, and the end of a Cellar lookup. A corrected error is
counted in buf_ecc_corrected or vat_ecc_corrected. An error of frame data is counted in buf_ecc_frame or
vat_ecc_frame, one of a Vat descriptor in vat_ecc_resync; a segment header loses the frames that start in its segment;
an error of the state of a buffer that is not retired retires it, which then counts in buffers_retired and is marked
so for good, and discards the frames it holds. Each of these sets ecc_event. A lookup of the Cellar that completes
adds its latency to miss_latency_sum, and one to miss_new_flow when no record holds the key. A corrected error is
counted. An error of a bucket poisons it and is counted; the rebuild that runs for it ends the poison and sets
poison_event. An error of a record with no copy in the Skim is counted in poison_record; with a copy nothing happens.
A double-bit error of a clean way is counted in ecc_clean_drop, of a dirty way or of a record waiting to be written in
poison_dirty. (R77, R92, R104, R117, R209.) -/
def Obligations.SoftErrorsOfBuffersAndRecords : Prop :=
  ((∀ s, (Completes (.bufEccError .bufCorrected) s fun t => t.cget .bufEccCorrected 0 = (s.cget .bufEccCorrected 0 + 1) % 2 ^ 48) ∧
      Completes (.bufEccError .vatCorrected) s fun t => t.cget .vatEccCorrected 0 = (s.cget .vatEccCorrected 0 + 1) % 2 ^ 48) ∧
    (∀ s id inVat, (s.frame? id).isSome = true →
      Completes (.bufEccError (.frameData id inVat)) s fun t =>
        t.fget .BUF_STATUS_ecc_event 0 = 1 ∧
        t.cget (if inVat = true then .vatEccFrame else .bufEccFrame) 0 =
          (s.cget (if inVat = true then .vatEccFrame else .bufEccFrame) 0 + 1) % 2 ^ 48) ∧
    (∀ s q c n x, (vatStarts (s.queue q c).vatHead (s.queue q c).entries)[n]? = some x →
      Completes (.bufEccError (.vatDescriptor q c n)) s fun t =>
        t.fget .BUF_STATUS_ecc_event 0 = 1 ∧ t.cget .vatEccResync 0 = (s.cget .vatEccResync 0 + 1) % 2 ^ 48) ∧
    (∀ s q c n, n < (s.queue q c).segs →
      Completes (.bufEccError (.segmentHeader q c n)) s fun t =>
        t.fget .BUF_STATUS_ecc_event 0 = 1 ∧
        t = (vatCut s q c ((segAt (s.queue q c).vatHead + n) * segBytes)
          ((segAt (s.queue q c).vatHead + n + 1) * segBytes)).event .BUF_STATUS_ecc_event 0) ∧
    (∀ s pool i, pool < 4 → i < s.fget .POOL_STATUS_buffers pool → ((s.buf (pool, i)).map (fun v => v.retired)).getD false = false →
      ((retire s (pool, i)).buf (pool, i)).map (fun v => v.retired) = some true ∧
      (retire s (pool, i)).fget .BUF_STATUS_buffers_retired 0 =
        (s.fget .BUF_STATUS_buffers_retired 0 + 1) % 2 ^ Fld.BUF_STATUS_buffers_retired.info.width ∧
      Completes (.bufEccError (.bufferState pool i)) s fun t =>
        t.fget .BUF_STATUS_ecc_event 0 = 1 ∧
        t = ((bufFrames s (pool, i)).foldl discard (retire s (pool, i))).event .BUF_STATUS_ecc_event 0)) ∧
  ((∀ s bank entry m, s.miss (bank, entry) = some m → m.stage = .lookup → keyPoisoned s m.key = false →
      Completes (.cellarLookupComplete bank entry) s fun t =>
        t.cget .missLatencySum bank = (s.cget .missLatencySum bank + (s.now - m.opened)) % 2 ^ 48 ∧
        ((cellarLookup s m.key (entryTen s m)).1 = none → t.cget .missNewFlow bank = (s.cget .missNewFlow bank + 1) % 2 ^ 48)) ∧
    (∀ s b, s.cellar.poisoned.contains b = false → b < 33554432 →
      Completes (.hbmEccError (.bucket b)) s fun t =>
        t.cellar.poisoned.contains b = true ∧ t.cget .poisonBucket 0 = (s.cget .poisonBucket 0 + 1) % 2 ^ 48) ∧
    (∀ s b id x, runningTask s (.rebuild b) = some (id, x) →
      Completes (.poisonBucketRebuildDone b) s fun t =>
        t.cellar.poisoned.contains b = false ∧ t.fget .CELLAR_STATUS_poison_event 0 = 1) ∧
    (∀ s n, (s.record n).isSome = true → findWay s n = none → findBuffer s n = none → findWb s n = none →
      Completes (.hbmEccError (.record n)) s fun t => t.cget .poisonRecord 0 = (s.cget .poisonRecord 0 + 1) % 2 ^ 48) ∧
    (∀ s n, (findWay s n).isSome = true → exec (.hbmEccError (.record n)) s = .next s) ∧
    (∀ s, Completes (.hbmEccError .corrected) s fun t => t.cellar.corrected = s.cellar.corrected + 1) ∧
    (∀ s bank, bank < 16 → s.runs (pdBank bank) = true →
      Completes (.skimEccError (.corrected bank)) s fun t => t.cget .eccCorrected bank = (s.cget .eccCorrected bank + 1) % 2 ^ 48) ∧
    (∀ s bank set way w, tget none s.skim.ways (bank * 8192 + set, way) = some w →
      Completes (.skimEccError (.way bank set way)) s fun t =>
        (w.dirty = false → t.cget .eccCleanDrop bank = (s.cget .eccCleanDrop bank + 1) % 2 ^ 48) ∧
        (w.dirty = true → t.cget .poisonDirty bank = (s.cget .poisonDirty bank + 1) % 2 ^ 48 ∧ t.fget .SKIM_STATUS_poison_event 0 = 1)) ∧
    (∀ s bank i e, (wbQueue s bank)[i]? = some e →
      Completes (.skimEccError (.writeBack bank i)) s fun t =>
        t.cget .poisonDirty bank = (s.cget .poisonDirty bank + 1) % 2 ^ 48 ∧ t.fget .SKIM_STATUS_poison_event 0 = 1))

/-- A due launch is served ahead of every group, and then the lowest group that can send. When a port can transmit, late
heads are judged, and if a timed head is due, the one with the earliest instant starts at once, whichever of the two
commands finds it: it is in transmission, it has left its queue, and its start is now. When nothing timed is due, the
round of R213 starts a frame of a queue that may send, and no queue that may send is of a lower group; when none may
send, the port stays idle. (R212, R213, R215, R216, R218, R396.) -/
def Obligations.DueLaunchesThenPriority : Prop :=
  (∀ s port x c e, portReady s port = true → firstDue (dueHeads (lateAll s port) port) = some (x, c) →
      headOf (lateAll s port) port c = some e →
      let started := fun (t : State) => (t.queue port c).entries = ((lateAll s port).queue port c).entries.drop 1 ∧
        ∃ u, tget none t.egress.tx (port, 0) = some u ∧ u.copy = e ∧ u.cls = c ∧ u.start = s.now
      Completes (.frameTransmitStart port) s started ∧ Completes (.launchDue port) s started) ∧
  ((∀ s port, portReady s port = true → serveDue (lateAll s port) port = none →
      exec (.frameTransmitStart port) s =
        .next ((serveDwrr (lateAll s port) port).getD (lateAll s port))) ∧
    (∀ s q t, serveDwrr s q = some t →
      ∃ u, tget none t.egress.tx (q, 0) = some u ∧ u.cls < 16 ∧ sendable s q u.cls = true ∧
        ∀ c, c < 16 → sendable s q c = true → schedFld s q u.cls .SCHED_Q_sp_group ≤ schedFld s q c .SCHED_Q_sp_group) ∧
    (∀ s q, (∀ c, c < 16 → sendable s q c = false) → serveDwrr s q = none))

/-- A transmission ends with one wire count. A frame in transmission whose last byte has been received leaves: the port is
free, a front-panel port counts it in tx_ok, or in tx_stomped when it is errored or to be stomped, and in tx_frames of
its port and class. While its last byte is missing nothing changes. (R37, R204, R223.) -/
def Obligations.TransmittedFramesAreCounted : Prop :=
  (∀ s port u, tget none s.egress.tx (port, 0) = some u → (s.frame u.copy.frame).whole = true →
    Completes (.frameTransmitEnd port) s fun t =>
      tget none t.egress.tx (port, 0) = none ∧
      t.cget .txFrames (port * 16 + u.cls) = (s.cget .txFrames (port * 16 + u.cls) + 1) % 2 ^ 48 ∧
      (port ≠ 256 → (u.stomp || (s.frame u.copy.frame).errored) = true →
        t.cget .txStomped port = (s.cget .txStomped port + 1) % 2 ^ 48 ∧ t.cget .txOk port = s.cget .txOk port) ∧
      (port ≠ 256 → (u.stomp || (s.frame u.copy.frame).errored) = false →
        t.cget .txOk port = (s.cget .txOk port + 1) % 2 ^ 48 ∧ t.cget .txStomped port = s.cget .txStomped port)) ∧
  (∀ s port u, tget none s.egress.tx (port, 0) = some u → (s.frame u.copy.frame).whole = false →
    exec (.frameTransmitEnd port) s = .next s)

/-- Gate entries and PFC frames. A gate entry that has run its time gives way to the next of the latched list. The oldest
owed PFC frame, and one for a priority still paused at its refresh instant, is sent as soon as no frame is being
transmitted, counted in tx_pfc, and leaves on the wire; the refresh of each paused priority restarts. (R199, R219.) -/
def Obligations.GatesAndPfcFollowTheirTimers : Prop :=
  (∀ s port t0, (tget {} s.egress.gates (port, 0)).endsAt = some t0 → t0 ≤ s.devNs →
    Completes (.gateEntryExpire port) s fun t =>
      let g := tget {} s.egress.gates (port, 0)
      let g' := tget {} t.egress.gates (port, 0)
      g'.pos = g.pos + 1 ∧ g'.entries = g.entries ∧ g'.mask = (gateEntry ((gateRun g.entries).getD (g.pos + 1) 0xFFFF)).1) ∧
  (∀ s port e l, tget [] s.buffers.owed (port, 0) = e :: l → portClear s port = true → tget none s.egress.tx (port, 0) = none →
    Completes (.pfcFrameSend port) s fun t =>
      tget [] t.buffers.owed (port, 0) = l ∧ t.cget .txPfc port = (s.cget .txPfc port + 1) % 2 ^ 48 ∧
      t.out = s.out ++ [.wire port (pfcBytes s port e.2.1 e.2.2) false]) ∧
  (∀ s port prio, tget false s.buffers.paused (port, prio) = true → tget 0 s.buffers.refresh (port, prio) ≠ 0 →
    tget 0 s.buffers.refresh (port, prio) ≤ s.now → portClear s port = true → tget none s.egress.tx (port, 0) = none →
    Completes (.pfcRefresh port prio) s fun t =>
      t.cget .txPfc port = (s.cget .txPfc port + 1) % 2 ^ 48 ∧ t.out = s.out ++ [.wire port (pfcBytes s port (2 ^ prio) 0) false] ∧
      (prio < 8 → tget 0 t.buffers.refresh (port, prio) = s.now + quantaNs s port (s.fget .PFC_TX_refresh_quanta port)))

/-- Frames enter and leave the Vat in queue order. A write that completes marks the first waiting frame of its queue as in
the Vat and counts its stored bytes; a read marks the first frame in the Vat as in flight, and its completion as in
the read-ahead. The frames of the queue and their order never change. A queue whose last Vat frame is read returns to
ON_DIE. (R206, R207.) -/
def Obligations.VatKeepsQueueOrder : Prop :=
  (∀ s port cls e, (s.queue port cls).entries.find? (fun x => x.loc == .vatWait) = some e → (s.frame e.frame).whole = true →
    Completes (.vatWriteComplete port cls) s fun t =>
      let n := storedSize (s.frame e.frame).bytes.length
      (t.queue port cls).entries = updFirst (fun x => x.loc == .vatWait) (fun x => { x with loc := .vat, stored := n, cells := 0 })
        (s.queue port cls).entries ∧
      (t.queue port cls).entries.map (fun x => (x.frame, x.kind)) = (s.queue port cls).entries.map (fun x => (x.frame, x.kind)) ∧
      t.cget .vatBytes 0 = (s.cget .vatBytes 0 + n) % 2 ^ 48) ∧
  (∀ s port cls e, (s.queue port cls).entries.find? (fun x => x.loc == .vatWait || x.loc == .vat) = some e → e.loc = .vat →
    raWants s port cls = true → raUsed s (port / 8) + (e.stored - 16) ≤ 131072 →
    (s.queue port cls).entries.filter (fun x => x.loc == .reading || x.loc == .readAhead) = [] →
    Completes (.vatReadIssue port cls) s fun t =>
      (t.queue port cls).entries = updFirst (fun x => x.loc == .vat) (fun x => { x with loc := .reading }) (s.queue port cls).entries ∧
      (t.queue port cls).entries.map (fun x => (x.frame, x.kind)) = (s.queue port cls).entries.map (fun x => (x.frame, x.kind))) ∧
  (∀ s port cls e, (s.queue port cls).entries.find? (fun x => x.loc == .reading) = some e →
    Completes (.vatReadComplete port cls) s fun t =>
      let l := updFirst (fun x => x.loc == .reading) (fun x => { x with loc := .readAhead }) (s.queue port cls).entries
      (t.queue port cls).entries = l ∧ l.map (fun x => (x.frame, x.kind)) = (s.queue port cls).entries.map (fun x => (x.frame, x.kind)) ∧
      t.cget .vatBytes 0 = (s.cget .vatBytes 0 + e.stored) % 2 ^ 48 ∧
      (l.any Copy.inVat = false → (t.queue port cls).spilling = false))

/-- The entry a probe returns, and how searches are issued, checked and decided. Over a table in address order, a probe
returns an entry, read across the blocks of its width, that answers it, and every other entry that answers has a lower
priority, or the same and fewer cared bits, or the same of both and a higher address. It returns none only if no entry
answers. The head of a bank's search queue is issued on the table as it stands, and counts one search and a probe or
two. When a search with one probe completes without soft errors, a winner that its shadow confirms counts one
probe_hit; with no entry that answers, the default action of the profile as it stood counts in default_used. A scrub
pass leaves the match array of every row of an unpoisoned entry equal to its shadow. (R126, R127, R130, R131, R132.) -/
def Obligations.ProbesAndSearchesDecide : Prop :=
  ((∀ (t : Tab (Option StrEntry)) w parity key a e, trising t = true → probeBest t w parity key none = some (a, e) →
      answers e w parity key = true ∧
      (∃ k r, (k, some r) ∈ t ∧ k.1 = a ∧ (entryAt t a r.width).getD r = e) ∧
      ∀ k' r', (k', some r') ∈ t →
        let e' := (entryAt t k'.1 r'.width).getD r'
        answers e' w parity key = true →
          e'.prio < e.prio ∨ (e'.prio = e.prio ∧
            (ones e'.care (widthBytes w * 8) < ones e.care (widthBytes w * 8) ∨
              (ones e'.care (widthBytes w * 8) = ones e.care (widthBytes w * 8) ∧ a ≤ k'.1)))) ∧
    (∀ (t : Tab (Option StrEntry)) w parity key, probeBest t w parity key none = none →
      ∀ k r, (k, some r) ∈ t → answers ((entryAt t k.1 r.width).getD r) w parity key = false)) ∧
  ((∀ s bank e l m v, tget [] s.skim.searches (bank, 0) = e :: l → s.miss (bank, e) = some m → m.search = some v →
      widthReady s v.width0 = true → (v.two = true → widthReady s v.width1 = true) →
      Completes (.strainerProbeIssue bank) s fun t =>
        t.miss (bank, e) = some { m with stage := .searching s.now, search := some { v with view := s.strainer } } ∧
        tget [] t.skim.searches (bank, 0) = l ∧ t.cget .search 0 = (s.cget .search 0 + 1) % 2 ^ 48 ∧
        t.cget .probeIssue 0 = (s.cget .probeIssue 0 + (1 + bit v.two)) % 2 ^ 48) ∧
    (∀ s bank entry m v since, s.miss (bank, entry) = some m → m.stage = .searching since → m.search = some v →
      v.two = false →
      Completes (.strainerSearchComplete bank entry []) s fun t =>
        (probeBest v.view v.width0 v.parity v.key0 none = none →
          t.cget .defaultUsed 0 = (s.cget .defaultUsed 0 + 1) % 2 ^ 48 ∧ t.cget .probeHit 0 = s.cget .probeHit 0) ∧
        (∀ a e, probeBest v.view v.width0 v.parity v.key0 none = some (a, e) → e.poisoned = false →
          ((s.strEntry a).map (fun x => x.poisoned)).getD false = false → shadowMatch e v.key0 = true →
          t.cget .probeHit 0 = (s.cget .probeHit 0 + 1) % 2 ^ 48 ∧ t.cget .falseHit 0 = s.cget .falseHit 0)) ∧
    (∀ s, Completes .scrubPass s fun t =>
      t.cget .scrubPass 0 = (s.cget .scrubPass 0 + 1) % 2 ^ 48 ∧
      ∀ k e, (k, some e) ∈ t.strainer → rowPoisoned s.strainer k.1 = true ∨ (e.data = e.shadowData ∧ e.care = e.shadowCare)))

/-- A Skim lookup is a hit, a join, a write-back hit or a new miss. A lookup of a bank that takes lookups counts one
lookup and one of hit, join, wb_hit and miss_open: a hit when a way holds the key (a way of the old hash is moved
first, and the hit is counted where a way takes it), a join when a miss of the key is open, else a new miss entry
unless the record waits for its write-back. Without a free miss entry it is counted once in miss_entry_full and no
lookup is counted. (R96, R99, R102.) -/
def Obligations.SkimLookupOutcomes : Prop :=
  ∀ s source bank r l, requestQueue s source bank = r :: l → bankOpen s bank = true →
    keyPoisoned s (waiterKey s r.waiter) = false →
    Completes (.skimLookup source bank) s fun t =>
      (∀ k w, findHit s (waiterKey s r.waiter) = some (k, w) →
        (wayNew s k w = true ∨ ∃ m, moveWay s k w = some m ∧ (findWay m w.recNo).isSome = true) →
        t.cget .lookup bank = (s.cget .lookup bank + 1) % 2 ^ 48 ∧ t.cget .hit bank = (s.cget .hit bank + 1) % 2 ^ 48) ∧
      (∀ k m, findHit s (waiterKey s r.waiter) = none → findMiss s (waiterKey s r.waiter) = some (k, m) →
        (m.stage = .bypass ∨ waitersUsed s k.1 < 4096) →
        t.cget .lookup bank = (s.cget .lookup bank + 1) % 2 ^ 48 ∧ t.cget .join bank = (s.cget .join bank + 1) % 2 ^ 48 ∧
        t.cget .hit bank = s.cget .hit bank) ∧
      (∀ n, findHit s (waiterKey s r.waiter) = none → findMiss s (waiterKey s r.waiter) = none → freeMiss s bank = some n →
        waitersUsed s bank < 4096 →
        t.cget .lookup bank = (s.cget .lookup bank + 1) % 2 ^ 48 ∧ t.cget .hit bank = s.cget .hit bank ∧
        ((t.cget .wbHit bank = (s.cget .wbHit bank + 1) % 2 ^ 48 ∧ t.cget .missOpen bank = s.cget .missOpen bank) ∨
          (t.cget .missOpen bank = (s.cget .missOpen bank + 1) % 2 ^ 48 ∧ t.cget .wbHit bank = s.cget .wbHit bank))) ∧
      (findHit s (waiterKey s r.waiter) = none → findMiss s (waiterKey s r.waiter) = none → freeMiss s bank = none →
        r.counted = false →
        t.cget .missEntryFull bank = (s.cget .missEntryFull bank + 1) % 2 ^ 48 ∧ t.cget .lookup bank = s.cget .lookup bank)

/-- Write-back, bypass and hint rewrites. The oldest record of a write-back queue is written to its place in the Cellar
with the words that waited. A fill that no way could serve in the bypass_wait_ns of its arrival counts in skim_bypass
and its waiters start. A record in bypass that no task uses and nothing waits for leaves its miss entry, for the
write-back queue if it is dirty. The oldest hint rewrite writes its hint into the slot word, or after 10 us is dropped
and counted. (R100, R101, R108.) -/
def Obligations.WriteBackBypassAndHints : Prop :=
  (∀ s bank e l r, wbQueue s bank = e :: l → s.record e.recNo = some r →
    Completes (.writeback bank) s fun t =>
      t.record e.recNo = some { r with words := e.words } ∧ t.cget .cellarBytes 0 = (s.cget .cellarBytes 0 + 128) % 2 ^ 48) ∧
  (∀ s bank entry m due b, s.miss (bank, entry) = some m → m.stage = .fill due → m.buffer = some b →
    due ≤ s.now → tryFill s (bank, entry) m = none →
    Completes (.skimBypass bank entry) s fun t => t.cget .skimBypass bank = (s.cget .skimBypass bank + 1) % 2 ^ 48) ∧
  (∀ s bank entry m n words dirty, s.miss (bank, entry) = some m → m.stage = .bypass → m.buffer = some (n, words, dirty) →
    inTask s n = false → m.waiting = [] → tryFill s (bank, entry) m = none → (wbQueue s bank).length < 256 →
    Completes (.bypassExit bank entry) s fun t =>
      t.miss (bank, entry) = none ∧ (dirty = true → wbQueue t bank = wbQueue s bank ++ [⟨n, words⟩]) ∧
      (dirty = false → wbQueue t bank = wbQueue s bank)) ∧
  (∀ s h l r b i, s.cellar.hints = h :: l → s.record h.recNo = some r → r.loc = .slot b i → s.now ≤ h.since + 10000 →
    Completes .hintRewrite s fun t =>
      t.cellar.hints = l ∧ slotAt t b i = setBits (slotAt s b i) 48 8 h.hint ∧
      t.cget .hintWrite 0 = (s.cget .hintWrite 0 + 1) % 2 ^ 48) ∧
  (∀ s h l, s.cellar.hints = h :: l → h.since + 10000 ≤ s.now →
    Completes .hintSkip s fun t => t.cellar.hints = l ∧ t.cget .hintSkip 0 = (s.cget .hintSkip 0 + 1) % 2 ^ 48)

/-- The walkers go on one position at a time. The sweep, the purge, the periodic walk and the migration move one position
on when no visit of theirs is open. A visit that has its context acts on its record and ends: a record due goes to its
teardown in the visit's place, a periodic record is emitted and counted, or waits while the Whey queue is full. The
migration leaves a position once every record there stands in its new place. At its end the sweep stops or starts its
pending run, the purge and the periodic walk clear their running bits, and the rekey switches to the new key. (R86,
R87, R90, R135, R142, R143, R152, R301, R302.) -/
def Obligations.WalkersVisitEveryPosition : Prop :=
  (∀ s p, s.cellar.sweepAt = some p → runningTask s (.visit .sweep) = none → visitsOpen s .sweep = false → p < walkEnd →
    Completes .sweepVisit s fun t => t.cellar.sweepAt = some (p + 1)) ∧
  (∀ s p id x n, s.cellar.sweepAt = some p → runningTask s (.visit .sweep) = some (id, x) → x.recNo = some n →
    let s1 := endFixed s id x
    exec .sweepVisit s = .next (settle (match authCopy s1 n with
      | some w => if ageDue s1 w then startTeardown s1 n 1 x.place 3 none else s1
      | none => s1))) ∧
  (∀ s p, s.cellar.sweepAt = some p → walkEnd ≤ p → visitsOpen s .sweep = false →
    Completes .sweepEnd s fun t =>
      (s.fbit .AGE_CTL_sweep_pending 0 = false → t.cellar.sweepAt = none ∧ t.fget .AGE_CTL_sweep_running 0 = 0) ∧
      (s.fbit .AGE_CTL_sweep_pending 0 = true →
        t.cellar.sweepAt = some 0 ∧ t.fget .AGE_CTL_sweep_running 0 = 1 ∧ t.fget .AGE_CTL_sweep_pending 0 = 0)) ∧
  (∀ s p, s.cellar.purgeAt = some p → runningTask s (.visit .purge) = none → visitsOpen s .purge = false →
    Completes .purgeVisit s fun t =>
      (p < walkEnd → t.cellar.purgeAt = some (p + 1)) ∧
      (walkEnd ≤ p → t.cellar.purgeAt = none ∧ t.fget .STR_CTL_purge_running 0 = 0)) ∧
  (∀ s p id x n, s.cellar.purgeAt = some p → runningTask s (.visit .purge) = some (id, x) → x.recNo = some n →
    let s1 := endFixed s id x
    exec .purgeVisit s = .next (settle (match authCopy s1 n with
      | some w => if purgeDue s1.cellar.purgeAddr w then startTeardown s1 n 4 x.place 3 none else s1
      | none => s1))) ∧
  (∀ s p, s.cellar.periodicAt = some p → runningTask s (.visit .periodic) = none → visitsOpen s .periodic = false →
    Completes .periodicVisit s fun t =>
      (p < walkEnd → t.cellar.periodicAt = some (p + 1)) ∧
      (walkEnd ≤ p → t.fget .WHEY_STATUS_periodic_pending 0 = 0 ∧
        t.fget .WHEY_STATUS_periodic_running 0 = bit (s.fbit .WHEY_STATUS_periodic_pending 0))) ∧
  (∀ s p id x n w, s.cellar.periodicAt = some p → runningTask s (.visit .periodic) = some (id, x) → x.recNo = some n →
    authCopy s n = some w → recReportPeriodic w = true →
    (s.whey.length < 32768 → Completes .periodicVisit s fun t =>
      t.cget .periodicEmitted 0 = (s.cget .periodicEmitted 0 + 1) % 2 ^ 48) ∧
    (32768 ≤ s.whey.length → exec .periodicVisit s = .next s)) ∧
  (∀ s p, s.cellar.migrateAt = some p → runningTask s (.visit .migrate) = none → visitsOpen s .migrate = false → p < walkEnd →
    Completes .rekeyMigrateVisit s fun t =>
      (unmoved s p = [] → t.cellar.migrateAt = some (p + 1) ∧ t.fget .CELLAR_REKEY_rekey_bucket 0 = min (p + 1) 33554431) ∧
      (unmoved s p ≠ [] → t.cellar.migrateAt = some p)) ∧
  (∀ s p k, s.cellar.migrateAt = some p → s.cellar.kNew = some k → walkEnd ≤ p → visitsOpen s .migrate = false →
    Completes .rekeySwitch s fun t => t.cellar.kFlow = k ∧ t.cellar.kNew = none ∧ t.cellar.migrateAt = none)

/-- Where each sequencing op goes on. An issue slot that meets no fault, no overflow, no squash and no NAT take runs its
nanoword and then its microword's sequencing op: NEXT and WAIT go on at the next address, JUMP at the target, BRANCH
at the target if the flag named by cond is set and BRANCHN if it is clear, CALL at the target with the next address on
top of the stack, RET at the top of the stack, DISPATCH at the target plus the low four bits of the A result, YIELD at
the next address unless it leaves its context. The flags are those the nanoword left. The slot counts as one issue of
the task. (R165, R168.) -/
def Obligations.PlainSlotsSequence : Prop :=
  (∀ s c id t, taskAt s c = some (id, t) → t.pos = .running c → t.kind.fixed = false → s.runs (pdCluster c.cluster) = true →
    t.ctx.take = none → t.ctx.issues < 4096 → seqOf (microAt s t.parity t.ctx.pc) = 0x00 →
    SlotPlain s c t →
    t.ctx.pc < 16383 → Completes (.next c .good) s fun u => GoesOn t id u fun x => x.pc = t.ctx.pc + 1 ∧ x.stack = t.ctx.stack) ∧
  (∀ s c id t, taskAt s c = some (id, t) → t.pos = .running c → t.kind.fixed = false → s.runs (pdCluster c.cluster) = true →
    t.ctx.take = none → t.ctx.issues < 4096 → seqOf (microAt s t.parity t.ctx.pc) = 0x01 →
    SlotPlain s c t →
    Completes (.jump c .good) s fun u => GoesOn t id u fun x =>
      x.pc = targetOf (microAt s t.parity t.ctx.pc) ∧ x.stack = t.ctx.stack) ∧
  (∀ s c id t, taskAt s c = some (id, t) → t.pos = .running c → t.kind.fixed = false → s.runs (pdCluster c.cluster) = true →
    t.ctx.take = none → t.ctx.issues < 4096 → seqOf (microAt s t.parity t.ctx.pc) = 0x02 →
    SlotPlain s c t →
    t.ctx.pc < 16383 → Completes (.branch c .good) s fun u => GoesOn t id u fun x => x.stack = t.ctx.stack ∧
      x.pc = if flagOf x (condOf (microAt s t.parity t.ctx.pc)) = true then targetOf (microAt s t.parity t.ctx.pc) else t.ctx.pc + 1) ∧
  (∀ s c id t, taskAt s c = some (id, t) → t.pos = .running c → t.kind.fixed = false → s.runs (pdCluster c.cluster) = true →
    t.ctx.take = none → t.ctx.issues < 4096 → seqOf (microAt s t.parity t.ctx.pc) = 0x03 →
    SlotPlain s c t →
    t.ctx.pc < 16383 → Completes (.branchn c .good) s fun u => GoesOn t id u fun x => x.stack = t.ctx.stack ∧
      x.pc = if flagOf x (condOf (microAt s t.parity t.ctx.pc)) = true then t.ctx.pc + 1 else targetOf (microAt s t.parity t.ctx.pc)) ∧
  (∀ s c id t, taskAt s c = some (id, t) → t.pos = .running c → t.kind.fixed = false → s.runs (pdCluster c.cluster) = true →
    t.ctx.take = none → t.ctx.issues < 4096 → seqOf (microAt s t.parity t.ctx.pc) = 0x04 →
    SlotPlain s c t →
    t.ctx.stack.length < 4 → Completes (.call c .good) s fun u => GoesOn t id u fun x =>
      x.pc = targetOf (microAt s t.parity t.ctx.pc) ∧ x.stack = (t.ctx.pc + 1) :: t.ctx.stack) ∧
  (∀ p l, ∀ s c id t, taskAt s c = some (id, t) → t.pos = .running c → t.kind.fixed = false → s.runs (pdCluster c.cluster) = true →
    t.ctx.take = none → t.ctx.issues < 4096 → seqOf (microAt s t.parity t.ctx.pc) = 0x05 →
    SlotPlain s c t →
    t.ctx.stack = p :: l → p ≤ 16383 → Completes (.ret c .good) s fun u => GoesOn t id u fun x => x.pc = p ∧ x.stack = l) ∧
  (∀ s c id t, taskAt s c = some (id, t) → t.pos = .running c → t.kind.fixed = false → s.runs (pdCluster c.cluster) = true →
    t.ctx.take = none → t.ctx.issues < 4096 → seqOf (microAt s t.parity t.ctx.pc) = 0x06 →
    SlotPlain s c t →
    targetOf (microAt s t.parity t.ctx.pc) + 15 ≤ 16383 → Completes (.dispatch c .good) s fun u => GoesOn t id u fun x =>
      x.pc = targetOf (microAt s t.parity t.ctx.pc) + x.aRes % 16 ∧ x.stack = t.ctx.stack) ∧
  (∀ s c id t, taskAt s c = some (id, t) → t.pos = .running c → t.kind.fixed = false → s.runs (pdCluster c.cluster) = true →
    t.ctx.take = none → t.ctx.issues < 4096 → seqOf (microAt s t.parity t.ctx.pc) = 0x07 →
    SlotPlain s c t →
    t.ctx.windowReady = true → t.ctx.pc < 16383 → Completes (.wait c .good) s fun u => GoesOn t id u fun x =>
      x.pc = t.ctx.pc + 1 ∧ x.stack = t.ctx.stack) ∧
  (∀ s c id t, taskAt s c = some (id, t) → t.pos = .running c → t.kind.fixed = false → s.runs (pdCluster c.cluster) = true →
    t.ctx.take = none → t.ctx.issues < 4096 → seqOf (microAt s t.parity t.ctx.pc) = 0x09 →
    SlotPlain s c t →
    t.ctx.stack = [] → t.ctx.pc < 16383 → (t.ctx.mayYield = false ∨ s.churn.preempt = false ∨ t.level ≠ 3) →
    Completes (.yield c .good) s fun u => GoesOn t id u fun x => x.pc = t.ctx.pc + 1 ∧ x.mayYield = false)

/-- COMMIT, CHECKPOINT, END, ABORT and a YIELD that leaves. With its predecessors done, a task at COMMIT or END counts one
commit of its cluster, unless it has passed COMMIT, and at CHECKPOINT one checkpoint. ABORT counts no commit and ends
the task with its reason. A YIELD of a level-3 task that is asked to leave counts in yield_taken and returns it to its
ready list with a fresh context. (R153, R156, R158, R159, R163.) -/
def Obligations.CommitsCheckpointsAndAborts : Prop :=
  (∀ s c id t, taskAt s c = some (id, t) → t.pos = .running c → t.kind.fixed = false → s.runs (pdCluster c.cluster) = true →
    t.ctx.take = none → t.ctx.issues < 4096 → seqOf (microAt s t.parity t.ctx.pc) = 0x08 →
    SlotPlain s c t →
    t.ctx.stack = [] → t.ctx.pc < 16383 → predsDone s id t = true →
    Completes (.checkpoint c .good) s fun u => u.cget .checkpoint c.cluster = (s.cget .checkpoint c.cluster + 1) % 2 ^ 48) ∧
  (∀ s c id t, taskAt s c = some (id, t) → t.pos = .running c → t.kind.fixed = false → s.runs (pdCluster c.cluster) = true →
    t.ctx.take = none → t.ctx.issues < 4096 → seqOf (microAt s t.parity t.ctx.pc) = 0x0A →
    SlotPlain s c t →
    t.ctx.pc < 16383 → (t.committed = false → predsDone s id t = true →
      Completes (.commit c .good) s fun u => u.cget .commit c.cluster = (s.cget .commit c.cluster + 1) % 2 ^ 48) ∧
    (t.committed = true → Completes (.commit c .good) s fun u => GoesOn t id u fun x => x.pc = t.ctx.pc + 1)) ∧
  (∀ s c id t, taskAt s c = some (id, t) → t.pos = .running c → t.kind.fixed = false → s.runs (pdCluster c.cluster) = true →
    t.ctx.take = none → t.ctx.issues < 4096 → seqOf (microAt s t.parity t.ctx.pc) = 0x0C →
    SlotPlain s c t →
    targetOf (microAt s t.parity t.ctx.pc) / 2 = 0 → t.committed = false → predsDone s id t = true →
    Completes (.end_ c .good) s fun u => u.cget .commit c.cluster = (s.cget .commit c.cluster + 1) % 2 ^ 48) ∧
  (∀ s c id t, taskAt s c = some (id, t) → t.pos = .running c → t.kind.fixed = false → s.runs (pdCluster c.cluster) = true →
    t.ctx.take = none → t.ctx.issues < 4096 → seqOf (microAt s t.parity t.ctx.pc) = 0x0B →
    SlotPlain s c t →
    targetOf (microAt s t.parity t.ctx.pc) / 512 = 0 → reasonOk (targetOf (microAt s t.parity t.ctx.pc) % 256) = true →
    Completes (.abort c .good) s fun u => u.cget .commit c.cluster = s.cget .commit c.cluster ∧
      ∃ s1 x, s1.frames = s.frames ∧ u = abortTask s1 id { t with ctx := x } (targetOf (microAt s t.parity t.ctx.pc) % 256)
        (bits (targetOf (microAt s t.parity t.ctx.pc)) 8 1 == 1)) ∧
  (∀ s c id t, taskAt s c = some (id, t) → t.pos = .running c → t.kind.fixed = false → s.runs (pdCluster c.cluster) = true →
    t.ctx.take = none → t.ctx.issues < 4096 → seqOf (microAt s t.parity t.ctx.pc) = 0x09 →
    SlotPlain s c t →
    t.ctx.stack = [] → t.ctx.mayYield = true → s.churn.preempt = true → t.level = 3 →
    Completes (.yield c .good) s fun u =>
      u.cget .yieldTaken c.cluster = (s.cget .yieldTaken c.cluster + 1) % 2 ^ 48 ∧
      ∃ n, u.task? id = some { t with ctx := { freshCtx t with mayYield := false }, resumes := t.atCommit.isSome, pos := .ready n })

/-- The issue limit, the record window and the NAT answer. A task that has taken 4,096 issues ends with a routine fault of
its cluster and sets fault_event. A record window that arrives opens the window registers. The answer to a NAT take
puts the tag and the port into RES and posts the take, or puts 0 there and sets F. (R147, R155, R156, R179, R181.) -/
def Obligations.RoutineLimitsWindowsAndPorts : Prop :=
  (∀ s c id t, taskAt s c = some (id, t) → t.pos = .running c → 4096 ≤ t.ctx.issues →
    Completes (.routineIssueLimit c) s fun u =>
      u.cget .routineFault c.cluster = (s.cget .routineFault c.cluster + 1) % 2 ^ 48 ∧ u.fget .MCK_STATUS_fault_event 0 = 1) ∧
  (∀ s c id t, taskAt s c = some (id, t) →
    Completes (.recordWindowComplete c) s fun u => u.task? id = some { t with ctx := { t.ctx with windowReady := true } }) ∧
  (∀ s c id t pool, taskAt s c = some (id, t) →
    (∀ p, t.ctx.take = some ⟨pool, some p, false⟩ →
      Completes (.natTakeAnswer c) s fun u => ∃ x, u.task? id = some { t with ctx := x } ∧
        x.res = s.fget .NAT_POOL_tag pool * 2 ^ 16 + p ∧ x.posted.takes = t.ctx.posted.takes ++ [(pool, p)] ∧ x.pc = t.ctx.pc) ∧
    (t.ctx.take = some ⟨pool, none, false⟩ →
      Completes (.natTakeAnswer c) s fun u => ∃ x, u.task? id = some { t with ctx := x } ∧
        x.res = 0 ∧ x.f = true ∧ x.posted = t.ctx.posted ∧ x.pc = t.ctx.pc))

/-- The dispatcher takes the lowest level first, the longest ready within it, and the freest cluster. The task the
dispatcher takes is ready, and no ready task is of a lower level, or of the same level and ready for longer. It goes
to a free context chosen by the greatest count of free contexts and the lowest number among equals. A dispatch with
nothing ready changes nothing; otherwise the chosen task is given its context first. (R144.) -/
def Obligations.DispatchOrder : Prop :=
  (∀ s id t, readyHead s = some (id, t) →
    (id, t) ∈ taskList s ∧ ∃ n, t.pos = .ready n ∧
      ∀ e, e ∈ taskList s → ∀ n', e.2.pos = .ready n' → t.level < e.2.level ∨ (t.level = e.2.level ∧ n ≤ n')) ∧
  (∀ f n m, argMax f n = some m → m < n ∧ 0 < f m ∧ ∀ k, k < n → f k ≤ f m ∧ (k < m → f k < f m)) ∧
  (∀ s bad, readyHead s = none → exec (.taskDispatch bad) s = .next s) ∧
  (∀ s bad id t c, readyHead s = some (id, t) → chooseCtx s (busyCtxs s) [] t.level = some c →
    exec (.taskDispatch bad) s =
      .next (dispatchLoop 63 (giveCtx s id t c (bad.contains c.cluster)) [c.cluster] bad))

/-- Commits that waited, teardowns, and repaired stores. A task that waited for its commit commits once its predecessors
are done. A teardown whose routine has committed removes its record. A rewritten store word is faulty no more, and
reload_pending reads whether any is left. The third error at one address quarantines the cluster: its bit of
CLUSTER_QUARANTINE is set, the Rind is to switch its domain off, and it takes no task. A context error counts in
ctx_ecc_replay. (R84, R140, R150, R153, R161, R163.) -/
def Obligations.WaitingCommitsAndTeardownsComplete : Prop :=
  (∀ s task t seq, s.task? task = some t → predsDone s task t = true → t.committed = false →
    ∀ n, ((∃ c, t.pos = .waiting c seq ∧ c.cluster = n) ∨ t.pos = .buffered n seq) →
      (seq = 0x08 → Completes (.taskCommit task) s fun u => u.cget .checkpoint n = (s.cget .checkpoint n + 1) % 2 ^ 48) ∧
      (seq ≠ 0x08 → Completes (.taskCommit task) s fun u => u.cget .commit n = (s.cget .commit n + 1) % 2 ^ 48)) ∧
  (∀ s task t cause n, s.task? task = some t → t.kind = .teardown cause → t.pos = .torn → t.recNo = some n →
    Completes (.teardown task) s fun u => u.record n = none) ∧
  (∀ s w, Completes (.storeWordRewrite w) s fun u =>
    u.churn.faulty = s.churn.faulty.filter (fun x => x.1 != w) ∧
    u.fget .MCK_STATUS_reload_pending 0 = bit (!u.churn.faulty.isEmpty)) ∧
  (∀ s id t a e, a.cluster < 64 → s.churn.faulty.any (fun x => x.1 == a) = false → errorsOf s a = 2 →
    let u := machineCheck s id t a e
    u.fget .CLUSTER_QUARANTINE_bits a.cluster = 1 ∧ u.fget .MCK_STATUS_quarantine_event 0 = 1 ∧ u.fget .RESET_CAUSE_domain_mck 0 = 1 ∧
    (pdCluster a.cluster, false) ∈ u.rind.switching ∧ (∀ l, clusterOpen u a.cluster l = false)) ∧
  (∀ s c id t, taskAt s c = some (id, t) →
    Completes (.contextEccError c) s fun u => u.cget .ctxEccReplay c.cluster = (s.cget .ctxEccReplay c.cluster + 1) % 2 ^ 48)

/-- A completed command leaves one CPL entry. CMD_NOP completes: where the CPL ring of the set runs with a free slot and
nothing waits before it, an entry with the command's index, opcode, status 0 and the phase of its slot is written, the
device-owned index moves on by one, cpl_written counts it and the descriptor's work ends. A quiet command that ends OK
writes nothing; one whose set was reset since the fetch is counted in cpl_lost. (R258, R262, R265, R271.) -/
def Obligations.CompletionsAreWritten : Prop :=
  ∀ s set index w, cmdWork s set index 0x00 .fetched = some w →
    (w.lost = false → bits w.desc 8 1 = 0 → ringRuns s set 1 = true → ringFull s set 1 = false → s.host.cpls = [] →
      Completes (.cmdNop set index) s fun t =>
        Answered s t w 0 0 0 0 ∧ workOf t set 0 index = none ∧
        (t.ring set 1).devIdx = ((s.ring set 1).devIdx + 1) % 2 ^ 32 ∧
        t.cget .cplWritten set = (s.cget .cplWritten set + 1) % 2 ^ 48 ∧ t.host.cpls = []) ∧
    (w.lost = false → bits w.desc 8 1 = 1 → Completes (.cmdNop set index) s fun t =>
      t.out = s.out ∧ t.host.rings = s.host.rings ∧ workOf t set 0 index = none) ∧
    (w.lost = true → Completes (.cmdNop set index) s fun t =>
      t.out = s.out ∧ t.cget .cplLost 0 = (s.cget .cplLost 0 + 1) % 2 ^ 48 ∧ workOf t set 0 index = none)

/-- The four flow commands. A fetched flow command that is the next of its ring to be hashed takes the next arrival place;
a FLOW_UPDATE of words 0 to 5 or 9, or of reserved fields, completes with INVALID_ARG instead. One that found no
record completes with NOT_FOUND. In its task, on a record that its set may see, FLOW_INSERT completes with EXISTS;
FLOW_READ writes the record to host memory and answers its version; FLOW_UPDATE, at the version it asks for if it
asks, changes the masked words and answers the new version; FLOW_DELETE starts a teardown with cause 2. FLOW_INSERT
with no record and room for one creates it. (R19, R70, R83, R84, R107, R142, R262, R263, R393.) -/
def Obligations.FlowCommandsExecute : Prop :=
  (∀ s set index w, workOf s set 0 index = some w → w.stage = .fetched → nextToHash s w = true →
    (cmdOp w.desc = 2 → updBad w = true → Completes (.flowUpdate set index) s fun t => Answered s t w 1 0 0 0) ∧
    (cmdOp w.desc = 2 → updBad w = false → Completes (.flowUpdate set index) s fun t => t.nextPlace = s.nextPlace + 1) ∧
    (cmdOp w.desc = 1 → Completes (.flowInsert set index) s fun t => t.nextPlace = s.nextPlace + 1) ∧
    (cmdOp w.desc = 3 → Completes (.flowDelete set index) s fun t => t.nextPlace = s.nextPlace + 1) ∧
    (cmdOp w.desc = 4 → Completes (.flowRead set index) s fun t => t.nextPlace = s.nextPlace + 1)) ∧
  (∀ s set index w, workOf s set 0 index = some w → w.stage = .ready →
    (taskList s).find? (fun e => e.2.cmd == some (set, index) && e.2.kind == .command) = none →
    let p := fun t => t.cget .hostNotFound 0 = (s.cget .hostNotFound 0 + 1) % 2 ^ 48 ∧ Answered s t w 3 0 0 0
    (cmdOp w.desc = 2 → Completes (.flowUpdate set index) s p) ∧ (cmdOp w.desc = 3 → Completes (.flowDelete set index) s p) ∧
      (cmdOp w.desc = 4 → Completes (.flowRead set index) s p)) ∧
  (∀ s set index w id x c n, workOf s set 0 index = some w → w.stage = .ready →
    (taskList s).find? (fun e => e.2.cmd == some (set, index) && e.2.kind == .command) = some (id, x) →
    x.pos = .running c → x.recNo = some n → tenantHidden s set ((authCopy s n).getD []) = false →
    let old := (authCopy s n).getD []
    (cmdOp w.desc = 1 → Completes (.flowInsert set index) s fun t =>
      t.cget .commit c.cluster = (s.cget .commit c.cluster + 1) % 2 ^ 48 ∧ Answered s t w 2 0 (recVersion old) 0) ∧
    (cmdOp w.desc = 2 → (bits w.desc 9 1 = 0 ∨ bits w.desc 32 16 = recVersion old) →
      Completes (.flowUpdate set index) s fun t =>
        t.cget .commit c.cluster = (s.cget .commit c.cluster + 1) % 2 ^ 48 ∧
        t.cget .hostUpdate 0 = (s.cget .hostUpdate 0 + 1) % 2 ^ 48 ∧
        Answered s t w 0 0 (recVersion (updWords old w)) 0) ∧
    (cmdOp w.desc = 3 → exec (.flowDelete set index) s =
      .next (settle (startTeardown (workSet (endFixed s id x) { w with stage := .owed }) n 0 x.place 2 (some (set, index))))) ∧
    (cmdOp w.desc = 4 → Completes (.flowRead set index) s fun t =>
      t.cget .commit c.cluster = (s.cget .commit c.cluster + 1) % 2 ^ 48 ∧
      t.cget .hostRead 0 = (s.cget .hostRead 0 + 1) % 2 ^ 48 ∧
      (w.lost = false → tget false s.host.busMaster (setOwner s set, 0) = true →
        Out.hostWrite (bits w.desc 64 64) (recBytes old) ∈ t.out.drop s.out.length) ∧
      Answered s t w 0 0 (recVersion old) 0)) ∧
  (∀ s set index w k m l h, workOf s set 0 index = some w → cmdOp w.desc = 1 → w.stage = .missing →
    insertEntry s set index = some (k, m, l) →
    keyPoisoned s (cmdKey w.desc) = false → learnCheck s (insertTenant s w) (hNew s (cmdKey w.desc)) = (0, some h) →
    Completes (.flowInsert set index) s fun t =>
      t.cget .hostInsert 0 = (s.cget .hostInsert 0 + 1) % 2 ^ 48 ∧ Answered s t w 0 0 0 0 ∧
      t.fget .CELLAR_STATUS_records_used 0 = (s.fget .CELLAR_STATUS_records_used 0 + 1) % 2 ^ Fld.CELLAR_STATUS_records_used.info.width) ∧
  (∀ s n w, (authCopy s n).isSome = true → authCopy (authWrite s n w) n = some w)

/-- STRAINER_WRITE and STRAINER_READ. An image that fits the mode of the addressed block becomes the entry at that
address, and one that does not leaves the entries alone and completes with INVALID_ARG. STRAINER_READ writes the
images of the entry to host memory and changes no entry. From a set that PF0 does not own, or a locked one, either
completes with NOT_PERMITTED. (R121, R122, R254, R262, R267.) -/
def Obligations.StrainerCommandsWriteAndRead : Prop :=
  ∀ s set index w,
    (cmdWork s set index 0x10 .fetched = some w →
      (setLimited s set = true → Completes (.strainerWrite set index) s fun t => t.strainer = s.strainer ∧ Answered s t w 6 0 0 0) ∧
      (∀ m, setLimited s set = false → strMode s (strCmdAddr w.desc) = some m →
        (strWriteOk w.data m = true → Completes (.strainerWrite set index) s fun t =>
          entryAt t.strainer (strCmdAddr w.desc) m = some (strEntryOf w.data m) ∧
          (∀ b, (∀ i, i < 2 ^ m → b ≠ rowAddr (strCmdAddr w.desc) i) → t.strEntry b = s.strEntry b) ∧ Answered s t w 0 0 0 0) ∧
        (strWriteOk w.data m = false → Completes (.strainerWrite set index) s fun t =>
          t.strainer = s.strainer ∧ Answered s t w 1 0 0 0))) ∧
    (cmdWork s set index 0x11 .fetched = some w →
      (setLimited s set = true → Completes (.strainerRead set index) s fun t => 
        t.strainer = s.strainer ∧ Answered s t w 6 0 0 (strCmdAddr w.desc * 2 ^ 128)) ∧
      (setLimited s set = false → strMode s (strCmdAddr w.desc) = none →
        Completes (.strainerRead set index) s fun t => Answered s t w 1 0 0 (strCmdAddr w.desc * 2 ^ 128)) ∧
      (∀ m, setLimited s set = false → strMode s (strCmdAddr w.desc) = some m →
        Completes (.strainerRead set index) s fun t =>
          t.strainer = s.strainer ∧
          (w.lost = false → tget false s.host.busMaster (setOwner s set, 0) = true →
            Out.hostWrite (bits w.desc 64 64) (strImages (entryAt s.strainer (strCmdAddr w.desc) m) m) ∈ t.out.drop s.out.length) ∧
          Answered s t w 0 0 0 (strCmdAddr w.desc * 2 ^ 128)))

/-- Epoch publishes, drains and the banks. An accepted EPOCH_PUBLISH flips the parity, raises publish_seq by one, clears
ready and begins the drain; its completion waits. One while ready reads 0 completes with BUSY and sets busy_event. A
drain past drain_limit_us with level-3 tasks of the old parity left sets drain_cut_event, and the limit acts once. A
drain of which nothing remains ends; a bank restaged with the active bundle, or with the incoming one, ends its
staging. (R146, R163, R184, R185, R186, R187, R264, R352.) -/
def Obligations.PublishesFlipAndDrain : Prop :=
  (∀ s set index w, cmdWork s set index 0x18 .fetched = some w → setLimited s set = false →
    (s.fbit .PUBLISH_STATUS_ready 0 = true → Completes (.epochPublish set index) s fun t =>
      parityNow t = (1 - parityNow s) % 2 ∧ t.fget .PUBLISH_STATUS_ready 0 = 0 ∧ t.fget .PUBLISH_STATUS_draining 0 = 1 ∧
      t.fget .PUBLISH_STATUS_publish_seq 0 =
        (s.fget .PUBLISH_STATUS_publish_seq 0 + 1) % 2 ^ Fld.PUBLISH_STATUS_publish_seq.info.width ∧
      t.churn.drainFrom = some s.now ∧ t.churn.publishers = s.churn.publishers ++ [(set, index)] ∧
      workOf t set 0 index = some { w with stage := .owed } ∧ t.out = s.out) ∧
    (s.fbit .PUBLISH_STATUS_ready 0 = false → Completes (.epochPublish set index) s fun t =>
      parityNow t = parityNow s ∧ t.fget .PUBLISH_STATUS_busy_event 0 = 1 ∧ t.churn = s.churn ∧ Answered s t w 5 0 0 0)) ∧
  (∀ s set index w, cmdWork s set index 0x20 .fetched = some w → setLimited s set = false →
    Completes (.drainSet set index) s fun t =>
      t.fget .HIF_STATUS_drain_declared 0 = bits w.desc 32 1 ∧ Answered s t w 0 0 0 0) ∧
  (∀ s t0, s.churn.drainFrom = some t0 → t0 + 1000 * s.fget .PUBLISH_CFG_drain_limit_us 0 ≤ s.now →
    Completes .drainLimitExpire s fun t => t.churn.drainFrom = none ∧
      ((∃ id x n, (id, x) ∈ taskList s ∧ x.level = 3 ∧ x.parity ≠ parityNow s ∧ x.frame = none ∧ x.pos = .ready n) →
        t.fget .PUBLISH_STATUS_drain_cut_event 0 = 1)) ∧
  (∀ s, s.fbit .PUBLISH_STATUS_draining 0 = true → drainCount s = 0 → s.images.activation = none →
    Completes .drainComplete s fun t =>
      t.fget .PUBLISH_STATUS_draining 0 = 0 ∧ t.churn.publishers = [] ∧ t.churn.drainFrom = none) ∧
  (∀ s, s.fbit .PUBLISH_STATUS_staging 0 = true → s.churn.incoming = none → s.runs pdMgmt = true → s.images.ticket = none →
    s.images.activation = none →
    Completes .bankMirrorComplete s fun t =>
      t.churn.bank0 = t.churn.bank1 ∧ t.fget .PUBLISH_STATUS_staging 0 = 0 ∧ t.fget .PUBLISH_STATUS_ready 0 = 1) ∧
  (∀ s b, s.fbit .PUBLISH_STATUS_staging 0 = true → s.churn.incoming = some b → s.runs pdMgmt = true → s.images.ticket = none →
    Completes .bundleStagingComplete s fun t =>
      (if parityNow s = 0 then t.churn.bank1 else t.churn.bank0) = b ∧ t.churn.incoming = none ∧
      t.fget .PUBLISH_STATUS_staging 0 = 0 ∧ t.fget .PUBLISH_STATUS_ready 0 = 1)

/-- The oldest Whey record goes where its type is routed. The oldest record leaves the queue as it was routed when it was
produced. With only its ring enabled it is written to ring 4 of the set its type names, or counted in ring_full_drop
when that ring is full. With only its exporter enabled, and room in the message, it joins the exporter's open message.
With neither it is counted in whey_drop. A message whose oldest record has waited 100 us is sent; a template set is
sent when template_refresh_s has run. (R268, R300, R301, R303, R304.) -/
def Obligations.WheyRecordsAreDelivered : Prop :=
  (∀ s r l, s.whey = r :: l → s.runs pdTelem = true →
    let x := fldIn r.route .WHEY_ROUTE_exporter
    let set := routeSet s (fldIn r.route .WHEY_ROUTE_set) (fldIn r.route .WHEY_ROUTE_tenant_route == 1 && wheyTenanted r.typ) r.tenant
    let ring := fldIn r.route .WHEY_ROUTE_ring_en == 1
    let ipfix := fldIn r.route .WHEY_ROUTE_ipfix_en == 1 && r.exports
    (ring = true → ipfix = false → ringRuns s set 4 = true →
      Completes .wheyDeliver s fun t =>
        t.whey = l ∧
        (ringFull s set 4 = false →
          t.cget .wheyWritten set = (s.cget .wheyWritten set + 1) % 2 ^ 48 ∧
          Out.hostWrite (s.fget .RING_BASE_addr (set * 8 + 4) + 64 * ((s.ring set 4).devIdx % ringSize s set 4))
            (leBytes 64 (setBits r.val 511 1 (phaseOf (s.ring set 4).devIdx (ringSize s set 4)))) ∈ t.out.drop s.out.length) ∧
        (ringFull s set 4 = true → t.cget .ringFullDrop set = (s.cget .ringFullDrop set + 1) % 2 ^ 48 ∧ t.out = s.out)) ∧
    (ring = false → ipfix = true →
      packetLen (setsOf ((s.exporter x).recs ++ [dataRecord r.view r.val])).length ≤ s.fget .IPFIX_CFG_mtu x →
      Completes .wheyDeliver s fun t =>
        t.whey = l ∧ (t.exporter x).recs = (s.exporter x).recs ++ [dataRecord r.view r.val] ∧
        (t.exporter x).built = (s.exporter x).built + 1 ∧
        t.cget .ipfixRecords x = (s.cget .ipfixRecords x + 1) % 2 ^ 48) ∧
    (ring = false → ipfix = false →
      Completes .wheyDeliver s fun t =>
        t.whey = l ∧ t.cget .wheyDrop (r.typ - 1) = (s.cget .wheyDrop (r.typ - 1) + 1) % 2 ^ 48)) ∧
  (∀ s x, (s.exporter x).recs ≠ [] → (s.exporter x).since + 100000 ≤ s.now →
    Completes (.ipfixMessageTimeout x) s fun t =>
      (t.exporter x).recs = [] ∧ (t.exporter x).built = (s.exporter x).built ∧
      t.cget .ipfixMsgs x = (s.cget .ipfixMsgs x + 1) % 2 ^ 48) ∧
  (∀ s x, x < 4 → s.fbit .IPFIX_CFG_en x = true →
    (s.exporter x).tmplAt + 1000000000 * s.fget .IPFIX_CFG_template_refresh_s x ≤ s.now →
    Completes (.ipfixTemplateRefresh x) s fun t =>
      (t.exporter x).tmplAt = s.now ∧ (t.exporter x).recs = (s.exporter x).recs ∧
      t.cget .ipfixTemplates x = (s.cget .ipfixTemplates x + 1) % 2 ^ 48)

/-- A snapshot's writeout, and staged counter settings. When the records of the latched snapshot are written, the user
page shows its number, epoch and time with an advanced page number, and its records of the groups that user code may
read, a group that does not fit left out; the unit is idle again, or, with a request pending, latches the next
snapshot. A TALLY_PROG write is staged for the next latch if its event exists in the group, and sets arg_err
otherwise. (R305, R307, R309, R310, R311.) -/
def Obligations.SnapshotsAreWrittenOut : Prop :=
  (∀ s v, s.telem.snap = some v → s.runs pdTelem = true → (tallySets s).any (fun x => ringWaits s x 5) = false →
    Completes .tallyWriteoutComplete s fun t =>
      (s.fbit .TALLY_CTL_snap_pending 0 = false →
        t.telem.snap = none ∧ t.fget .TALLY_CTL_snap_busy 0 = 0 ∧
        t.telem.page.snapSeq = v.seq ∧ t.telem.page.epoch = v.epoch ∧ t.telem.page.ns = v.ns ∧
        t.telem.page.pageSeq = (s.telem.page.pageSeq + 1) % 2 ^ 32 ∧
        t.telem.page.recs = pageRecords s v ∧
        t.cget .tallyRecords 0 = (s.cget .tallyRecords 0 + (snapRecords s v false).length) % 2 ^ 48) ∧
      (s.fbit .TALLY_CTL_snap_pending 0 = true →
        t.fget .TALLY_CTL_snap_busy 0 = 1 ∧ t.fget .TALLY_CTL_snap_pending 0 = 0 ∧
        t.fget .TALLY_CTL_snap_seq 0 = (s.fget .TALLY_CTL_snap_seq 0 + 1) % 65536 ∧
        t.cget .snapCount 0 = (s.cget .snapCount 0 + 1) % 2 ^ 48)) ∧
  (∀ s req g n v,
    (progOk g n (BitVec.toNat v) = true → Completes (.tallyProgWrite req g n v) s fun t =>
      tget none t.telem.staged (g, n) = some v.toNat ∧ t.reg = s.reg ∧ t.prog = s.prog) ∧
    (progOk g n (BitVec.toNat v) = false → Completes (.tallyProgWrite req g n v) s fun t =>
      t.fget .TALLY_CTL_arg_err 0 = 1 ∧ t.telem = s.telem))

/-- Armed trigger units fire once their instant has come. The named units that are armed and whose instant has come fire
together, where the pending ticket is not among their targets: each counts the fire in fired and trig_fired; a
one-shot unit disarms itself, and a periodic one goes to its next instant. A TRIG_OUT pin falls at the end of its last
pulse. (R284, R285, R287, R352.) -/
def Obligations.TriggersFireAtTheirInstants : Prop :=
  (∀ s units us,
    us = (List.range 8).filter (fun u => units.contains u && s.fbit .TRIG_CTL_arm u &&
      (match trigNext s u with | some t => decide (t ≤ s.devNs) | none => false)) →
    us ≠ [] → s.runs pdTime = true → ticketFires s us = false →
    Completes (.triggerFire units) s fun t =>
      ∀ u n, u ∈ us → trigNext s u = some n →
        t.fget .TRIG_CTL_fired u = (s.fget .TRIG_CTL_fired u + 1) % 2 ^ Fld.TRIG_CTL_fired.info.width ∧
        t.cget .trigFired u = (s.cget .trigFired u + 1) % 2 ^ 48 ∧
        (trigPeriod s u = 0 → t.fget .TRIG_CTL_arm u = 0 ∧ trigNext t u = none) ∧
        (trigPeriod s u ≠ 0 → t.fget .TRIG_CTL_arm u = 1 ∧ trigNext t u = some (n + trigPeriod s u))) ∧
  (∀ s pin, tget 0 s.time.outEnd (pin, 0) ≤ s.devNs →
    Completes (.trigOutFall pin) s fun t => tget 0 t.time.outEnd (pin, 0) = 0 ∧
      ∀ q, q ≠ pin → tget 0 t.time.outEnd (q, 0) = tget 0 s.time.outEnd (q, 0))

/-- The re-epoch window, the slew, the reference and the PPS input. A re-epoch window that ends with no step ends the
epoch: the log takes the epoch, the seconds and the nanoseconds, the epoch rises by one modulo 256, and time goes on.
A slew whose remainder is 0 ends. A lost reference is counted and no longer active. A PPS edge latches the time and
the epoch; one sooner than 0.5 s after the last is a glitch; 1.1 s without one is counted once. A read of TIME_NOW_LO
latches the seconds for its requester, which reads them in TIME_NOW_HI. (R275, R276, R278, R280, R282.) -/
def Obligations.TimeEventsAct : Prop :=
  (∀ s t0, s.time.reepochEnd = some t0 → t0 ≤ s.now →
    Completes .reepochHoldExpire s fun t =>
      t.time.dt = s.time.dt ∧ t.time.epoch = (s.time.epoch + 1) % 256 ∧ t.time.reepochEnd = none ∧
      t.fget .TIME_STATUS_epoch 0 = (s.time.epoch + 1) % 256 ∧ t.fget .TIME_STATUS_epoch_event 0 = 1 ∧
      t.fget .TIME_STATUS_step_allowed 0 = 0 ∧ t.fget .TIME_STATUS_reepoch_pending 0 = 0 ∧
      t.fget .EPOCH_LOG_LO_epoch 0 = s.time.epoch % 256 ∧
      t.fget .EPOCH_LOG_LO_ns 0 = s.devNs % 1000000000 ∧ t.fget .EPOCH_LOG_HI_sec 0 = s.devNs / 1000000000 % 2 ^ 48 ∧
      t.cget .reepochCount 0 = (s.cget .reepochCount 0 + 1) % 2 ^ 48) ∧
  (∀ s, s.fbit .TIME_STATUS_slew_active 0 = true → s.time.slew = 0 →
    Completes .slewComplete s fun t => t.fget .TIME_STATUS_slew_active 0 = 0) ∧
  (∀ s, s.fbit .TIME_STATUS_ref_active 0 = true →
    Completes .refLost s fun t => t.fget .TIME_STATUS_ref_active 0 = 0 ∧ t.fget .TIME_STATUS_ref_lost 0 = 1 ∧
      t.cget .refLostCount 0 = (s.cget .refLostCount 0 + 1) % 2 ^ 48) ∧
  (∀ s, s.fbit .TIME_CFG_pps_en 0 = true → s.runs pdTime = true →
    (∀ t0, s.time.ppsAt = some t0 → s.now < t0 + 500000000 →
      Completes .ppsCapture s fun t => t.cget .ppsGlitch 0 = (s.cget .ppsGlitch 0 + 1) % 2 ^ 48 ∧ t.time = s.time) ∧
    ((∀ t0, s.time.ppsAt = some t0 → t0 + 500000000 ≤ s.now) → s.fbit .TIME_STATUS_step_pending 0 = false →
      Completes .ppsCapture s fun t =>
        t.time = { s.time with ppsAt := some s.now, ppsMissed := false } ∧
        t.fget .PPS_CAP_LO_ns 0 = s.devNs % 1000000000 ∧ t.fget .PPS_CAP_LO_epoch 0 = s.time.epoch % 256 ∧
        t.fget .PPS_CAP_HI_sec 0 = s.devNs / 1000000000 % 2 ^ 48 ∧ t.fget .TIME_STATUS_pps_event 0 = 1 ∧
        t.cget .ppsCount 0 = (s.cget .ppsCount 0 + 1) % 2 ^ 48)) ∧
  (∀ s t0, s.time.ppsAt = some t0 → s.fbit .TIME_CFG_pps_en 0 = true → s.time.ppsMissed = false → t0 + 1100000000 ≤ s.now →
    Completes .ppsMissing s fun t => t.time.ppsMissed = true ∧ t.fget .TIME_STATUS_pps_missing 0 = 1 ∧
      t.cget .ppsMissingCount 0 = (s.cget .ppsMissingCount 0 + 1) % 2 ^ 48) ∧
  (∀ s, (Completes (.timeNowLatch .host) s fun t =>
      t.time = { s.time with latchHost := some (s.devNs / 1000000000) } ∧ t.out = s.out ++ [.value (timeNowLo s)] ∧
      regRead t .host .TIME_NOW_HI 0 = s.devNs / 1000000000 ∧ regRead t .mgmt .TIME_NOW_HI 0 = regRead s .mgmt .TIME_NOW_HI 0) ∧
    (Completes (.timeNowLatch .mgmt) s fun t =>
      t.time = { s.time with latchMgmt := some (s.devNs / 1000000000) } ∧ t.out = s.out ++ [.value (timeNowLo s)]))

/-- A register write that is stopped changes no register but the one that reports it. A write that SETUP_LOCK stops sets
lock_violation and LOCK_LOG, and nothing else but what an event bit drives. One that a rule of its chapter refuses
sets the event bit of that register's page, and a ring register its ring number, and nothing else but what an event
bit drives. (R8, R30, R54, R109, R193, R255, R256, R277, R303, R357, R373.) -/
def Obligations.RefusedWritesChangeNothing : Prop :=
  ∀ s req (n m : Nat) (v : Word), ∀ x, x ∈ ([
      (.octetLayoutWrite req n v, .OCTET_LAYOUT, n, v.toNat), (.portCfgWrite req n v, .PORT_CFG, n, v.toNat),
      (.portAdminDisable req n, .PORT_CFG, n, setBits (regRaw s .PORT_CFG n) 0 1 0),
      (.portHoldWrite req n v, .PORT_HOLD, n, v.toNat), (.lbKeyApply req, .LB_KEY_CTL, 0, 1),
      (.indirWrite req n (m % 65536) v, .INDIR, n * 65536 + m % 65536, v.toNat), (.poolCarveWrite req v, .POOL_CARVE, 0, v.toNat),
      (.poolQuotaWrite req n (m % 4) v, .POOL_QUOTA, n * 4 + m % 4, v.toNat), (.vatCfgWrite req v, .VAT_CFG, 0, v.toNat),
      (.strBlockCfgWrite req v, .STR_BLOCK_CFG, 0, v.toNat), (.ringEnable n (m % 8) v, .RING_CTL, n * 8 + m % 8, setBits v.toNat 5 1 1),
      (.ringDisable n (m % 8) v, .RING_CTL, n * 8 + m % 8, setBits v.toNat 5 1 0), (.rsetOwnerWrite req n v, .RSET_OWNER, n, v.toNat),
      (.timeRateWrite req v, .TIME_RATE, 0, v.toNat), (.timeSlewWrite req v, .TIME_SLEW, 0, v.toNat),
      (.refSelectWrite req v, .TIME_CFG, 0, v.toNat), (.ipfixEnable req n v, .IPFIX_CFG, n, v.toNat),
      (.qwmWrite req n (m % 16) v, .QWM, n * 16 + m % 16, v.toNat),
      (.laneTestWrite req n (m % 8) v, .LANE_TEST, n * 8 + m % 8, v.toNat), (.portTestWrite req n v, .PORT_TEST, n, v.toNat)]
      : List (Instr × Reg × Nat × Nat)) →
    writeLands s x.2.1 x.2.2.1 = true →
    (writeLocked s x.2.1 x.2.2.1 (wordVal s x.2.1 x.2.2.1 x.2.2.2) = true →
      Completes x.1 s fun t => t.fget .GLOBAL_STATUS_lock_violation 0 = 1 ∧ t.fget .LOCK_LOG_kind 0 = 0 ∧
        t.fget .LOCK_LOG_offset 0 = regOffset x.2.1 x.2.2.1 0 % 2 ^ Fld.LOCK_LOG_offset.info.width ∧
        ChangesOnly [.out, .host, .evtLevel, .reg .LOCK_LOG, .reg .GLOBAL_STATUS, .reg .EVT_CAUSE] s t) ∧
    (∀ f k, writeLocked s x.2.1 x.2.2.1 (wordVal s x.2.1 x.2.2.1 x.2.2.2) = false →
      regRefused s x.2.1 x.2.2.1 (wordVal s x.2.1 x.2.2.1 x.2.2.2) (2 ^ 64 - 1) = true → regErrBit x.2.1 x.2.2.1 = some (f, k) →
      Completes x.1 s fun t => t.fget f k = 1 ∧ ChangesOnly [.out, .host, .evtLevel, .reg f.reg, .reg .EVT_CAUSE] s t)

/-- A register write that is accepted reads back. Where nothing stops it, a write of a register leaves in each field that
software reads and writes what the write holds for it: octet layouts, port holds, indirection entries, the pool carve
and quotas, the Vat size, Strainer block modes, set owners, the time rate and reference, queue watermarks. A selector
entry, a profile and a lookup profile take effect whole with their highest word. (R8, R30, R53, R120, R125, R193,
R196, R226, R255, R276, R277, R298.) -/
def Obligations.AcceptedWritesReadBack : Prop :=
  ∀ s req (n m : Nat) (v : Word),
    (WriteOk s .OCTET_LAYOUT n (wordVal s .OCTET_LAYOUT n v.toNat) →
      Completes (.octetLayoutWrite req n v) s fun t => ReadsBack t .OCTET_LAYOUT n v.toNat) ∧
    (WriteOk s .PORT_HOLD n (wordVal s .PORT_HOLD n v.toNat) →
      Completes (.portHoldWrite req n v) s fun t => ReadsBack t .PORT_HOLD n v.toNat) ∧
    (m < 65536 → WriteOk s .INDIR (n * 65536 + m) (wordVal s .INDIR (n * 65536 + m) v.toNat) →
      Completes (.indirWrite req n m v) s fun t => ReadsBack t .INDIR (n * 65536 + m) v.toNat) ∧
    (WriteOk s .POOL_CARVE 0 (wordVal s .POOL_CARVE 0 v.toNat) →
      Completes (.poolCarveWrite req v) s fun t => ReadsBack t .POOL_CARVE 0 v.toNat ∧
        ∀ k, k < 4 → t.fget .POOL_STATUS_buffers k = poolPerGranule k * fldIn v.toNat (granFld k) ∧
          (s.buffers.bufs = [] → t.fget .POOL_STATUS_free k = poolPerGranule k * fldIn v.toNat (granFld k))) ∧
    (m < 4 → WriteOk s .POOL_QUOTA (n * 4 + m) (wordVal s .POOL_QUOTA (n * 4 + m) v.toNat) →
      Completes (.poolQuotaWrite req n m v) s fun t => ReadsBack t .POOL_QUOTA (n * 4 + m) v.toNat) ∧
    (WriteOk s .VAT_CFG 0 (wordVal s .VAT_CFG 0 v.toNat) →
      Completes (.vatCfgWrite req v) s fun t => ReadsBack t .VAT_CFG 0 v.toNat ∧
        t.fget .VAT_STATUS_segments 0 = fldIn v.toNat .VAT_CFG_vat_gib * 16384 % 2 ^ 21 ∧
        t.fget .VAT_STATUS_segments_free 0 = fldIn v.toNat .VAT_CFG_vat_gib * 16384 % 2 ^ 21) ∧
    (WriteOk s .STR_BLOCK_CFG 0 (wordVal s .STR_BLOCK_CFG 0 v.toNat) →
      Completes (.strBlockCfgWrite req v) s fun t => ReadsBack t .STR_BLOCK_CFG 0 v.toNat) ∧
    (WriteOk s .RSET_OWNER n (wordVal s .RSET_OWNER n v.toNat) →
      Completes (.rsetOwnerWrite req n v) s fun t => ReadsBack t .RSET_OWNER n v.toNat) ∧
    (WriteOk s .TIME_RATE 0 (wordVal s .TIME_RATE 0 v.toNat) →
      Completes (.timeRateWrite req v) s fun t => ReadsBack t .TIME_RATE 0 v.toNat ∧ t.time = s.time) ∧
    (WriteOk s .TIME_CFG 0 (wordVal s .TIME_CFG 0 v.toNat) →
      Completes (.refSelectWrite req v) s fun t => ReadsBack t .TIME_CFG 0 v.toNat ∧
        t.fget .TIME_STATUS_ref_active 0 = fldIn v.toNat .TIME_CFG_ref_sel) ∧
    (m < 16 → WriteOk s .QWM (n * 16 + m) (wordVal s .QWM (n * 16 + m) v.toNat) →
      Completes (.qwmWrite req n m v) s fun t => ReadsBack t .QWM (n * 16 + m) v.toNat) ∧
    (WriteOk s .SEL_ENTRY n (wholeVal s req .SEL_ENTRY n v.toNat) →
      Completes (.selEntryWrite req n v) s fun t => ReadsBack t .SEL_ENTRY n (wholeVal s req .SEL_ENTRY n v.toNat)) ∧
    (WriteOk s .PROFILE n (wholeVal s req .PROFILE n v.toNat) →
      Completes (.profileWrite req n v) s fun t => ReadsBack t .PROFILE n (wholeVal s req .PROFILE n v.toNat)) ∧
    (WriteOk s .STR_LKP n (wholeVal s req .STR_LKP n v.toNat) →
      Completes (.strLkpWrite req n v) s fun t => ReadsBack t .STR_LKP n (wholeVal s req .STR_LKP n v.toNat))

/-- Port configuration, lane tests and port tests. An accepted PORT_CFG write reads back; when it clears admin_en the port
is down. Disabling a port clears admin_en and leaves its other settings. A lane-test write that changes the receive
pattern unlocks the checker. A latch shows the live counts with what was counted since, up to 2^48 - 1 bits while
locked; a clear zeroes them. Enabling the generator or the checker of a port zeroes its counts. (R35, R47, R357, R358,
R359, R364.) -/
def Obligations.PortAndLaneWritesAct : Prop :=
  (∀ s req n (v : Word), WriteOk s .PORT_CFG n (wordVal s .PORT_CFG n v.toNat) →
    Completes (.portCfgWrite req n v) s fun t => ReadsBack t .PORT_CFG n v.toNat ∧
      (s.fbit .PORT_CFG_admin_en n = true → fldIn v.toNat .PORT_CFG_admin_en = 0 → portUp t n = false)) ∧
  (∀ s req n, s.banksOk = true →
    WriteOk s .PORT_CFG n (wordVal s .PORT_CFG n (setBits (regRaw s .PORT_CFG n) 0 1 0)) →
    Completes (.portAdminDisable req n) s fun t => t.fget .PORT_CFG_admin_en n = 0 ∧
      (∀ f, f.reg = .PORT_CFG → f ≠ .PORT_CFG_admin_en → t.fget f n = s.fget f n) ∧
      (s.fbit .PORT_CFG_admin_en n = true → portUp t n = false)) ∧
  (∀ s req o l (v : Word), l < 8 → WriteOk s .LANE_TEST (o * 8 + l) (wordVal s .LANE_TEST (o * 8 + l) v.toNat) →
    Completes (.laneTestWrite req o l v) s fun t => ReadsBack t .LANE_TEST (o * 8 + l) (wordVal s .LANE_TEST (o * 8 + l) v.toNat) ∧
      (fldIn v.toNat .LANE_TEST_rx_pattern ≠ s.fget .LANE_TEST_rx_pattern (o * 8 + l) → t.fget .LANE_TEST_lock (o * 8 + l) = 0)) ∧
  (∀ s req o l b e, l < 8 → o < 32 → s.banksOk = true →
    WriteOk s .LANE_TEST (o * 8 + l) (wordVal s .LANE_TEST (o * 8 + l) (laneWord s (o * 8 + l) 10)) →
    let x := tget {} s.setup.lanes (o * 8 + l, 0)
    let on := s.fbit .LANE_TEST_lock (o * 8 + l) && decide (x.bits < 2 ^ 48 - 1)
    Completes (.laneTestLatch req o l b e) s fun t =>
      t.fget .LANE_TEST_bit_cnt (o * 8 + l) = (if on then min (x.bits + b) (2 ^ 48 - 1) else x.bits) % 2 ^ 48 ∧
      t.fget .LANE_TEST_err_cnt (o * 8 + l) = (if on then x.errs + e else x.errs) % 2 ^ 48 ∧
      t.fget .LANE_TEST_lock_loss (o * 8 + l) = x.loss % 2 ^ 32) ∧
  (∀ s req o l, l < 8 → o < 32 → s.banksOk = true →
    WriteOk s .LANE_TEST (o * 8 + l) (wordVal s .LANE_TEST (o * 8 + l) (laneWord s (o * 8 + l) 11)) →
    Completes (.laneTestClear req o l) s fun t => tget {} t.setup.lanes (o * 8 + l, 0) = {} ∧
      t.fget .LANE_TEST_bit_cnt (o * 8 + l) = s.fget .LANE_TEST_bit_cnt (o * 8 + l)) ∧
  (∀ s req n (v : Word), WriteOk s .PORT_TEST n (wordVal s .PORT_TEST n v.toNat) →
    Completes (.portTestWrite req n v) s fun t => ReadsBack t .PORT_TEST n v.toNat ∧
      (s.fbit .PORT_TEST_gen_en n = false → fldIn v.toNat .PORT_TEST_gen_en = 1 →
        t.fget .PORT_CHK_gen_sent n = 0 ∧ (t.port n).test.seq = 0) ∧
      (s.fbit .PORT_TEST_chk_en n = false → fldIn v.toNat .PORT_TEST_chk_en = 1 →
        t.fget .PORT_CHK_chk_ok n = 0 ∧ t.fget .PORT_CHK_chk_gap n = 0 ∧ (t.port n).test.expect = none))

/-- The balancing key, purges, sweeps and rekeys. Applying the load-balancing key raises lb_key_pending, and every slice
then switches to the staged key and the bit falls. A purge of an entry's address starts a walk from position 0, and
one while a purge runs sets purge_refused. sweep_now starts a sweep that leaves age_epoch as it is, or makes it
pending. A rekey starts migration at bucket 0 with a new key, and is refused while one runs or while the key is
pinned. (R65, R86, R87, R90, R121, R135.) -/
def Obligations.FlowAndKeyRequestsAct : Prop :=
  (∀ s req, WriteOk s .LB_KEY_CTL 0 (wordVal s .LB_KEY_CTL 0 1) →
    Completes (.lbKeyApply req) s fun t => t.fget .SEP_STATUS_lb_key_pending 0 = 1 ∧ t.setup = s.setup) ∧
  (∀ s, s.fbit .SEP_STATUS_lb_key_pending 0 = true →
    Completes .lbKeySwitch s fun t => t.setup.kLb = (s.fget .LB_KEY_key 0, s.fget .LB_KEY_key 1) ∧
      t.fget .SEP_STATUS_lb_key_pending 0 = 0) ∧
  (∀ s req a,
    (s.fbit .STR_CTL_purge_running 0 = false → addrLowest s (a % 2 ^ 18) = true →
      Completes (.purgeStart req a) s fun t => t.fget .STR_CTL_purge_running 0 = 1 ∧ t.fget .STR_CTL_purge_addr 0 = a % 2 ^ 18 ∧
        t.cellar = { s.cellar with purgeAt := some 0, purgeAddr := a % 2 ^ 18 }) ∧
    (s.fbit .STR_CTL_purge_running 0 = true →
      Completes (.purgeStart req a) s fun t => t.fget .STR_CTL_purge_refused 0 = 1 ∧ t.cellar = s.cellar)) ∧
  (∀ s req, s.fbit .AGE_CTL_sweep_now 0 = false → s.banksOk = true →
    Completes (.sweepNow req) s fun t => t.fget .AGE_CTL_age_epoch 0 = s.fget .AGE_CTL_age_epoch 0 ∧
      t.fget .AGE_CTL_hint_min 0 = s.fget .AGE_CTL_hint_min 0 ∧
      (s.cellar.sweepAt = none → t.cellar.sweepAt = some 0 ∧ t.fget .AGE_CTL_sweep_running 0 = 1 ∧ t.fget .AGE_CTL_sweep_now 0 = 0) ∧
      (s.cellar.sweepAt ≠ none → s.fbit .AGE_CTL_sweep_pending 0 = false →
        t.cellar = s.cellar ∧ t.fget .AGE_CTL_sweep_pending 0 = 1)) ∧
  (∀ s req,
    (s.fbit .CELLAR_REKEY_rekey_running 0 = false → s.fbit .CELLAR_REKEY_key_pinned 0 = false →
      Completes (.rekeyStart req) s fun t => t.cellar.migrateAt = some 0 ∧ t.cellar.kNew.isSome = true ∧
        t.draws = s.draws + 2 ∧ t.fget .CELLAR_REKEY_rekey_running 0 = 1 ∧ t.fget .CELLAR_REKEY_rekey_bucket 0 = 0 ∧
        t.fget .HBM_SPLIT_rekey_reserve 0 = 1) ∧
    (s.fbit .CELLAR_REKEY_rekey_running 0 = true ∨ s.fbit .CELLAR_REKEY_key_pinned 0 = true →
      Completes (.rekeyStart req) s fun t => t.cellar = s.cellar ∧ t.fget .CELLAR_REKEY_rekey_refused 0 = 1))

/-- Time rate and slew, steps, re-epochs, triggers, export epochs and snapshots. A slew write loads the remainder. An
accepted step at once makes device time the target and is no longer allowed; one at the next PPS edge waits. A
re-epoch opens its window, and a second one within it is refused. An armed unit's next instant is its start, or the
first one not passed of a periodic unit; disarming removes it. An export epoch close raises the epoch by one; a
further request of the same instant is the same close. Enabling an exporter sends its templates. snap_now latches a
snapshot, waits while one is written out, and a third request is an overrun; a request of the instant of the latch is
the same snapshot. That requests of one instant are one is the model's reading of R285 and R309 (log entry 4). (R274,
R277, R278, R279, R280, R284, R286, R302, R303, R309.) -/
def Obligations.TimeRequestsAct : Prop :=
  (∀ s req (v : Word), WriteOk s .TIME_SLEW 0 (wordVal s .TIME_SLEW 0 v.toNat) →
    Completes (.timeSlewWrite req v) s fun t =>
      t.time = { s.time with slew := signed (bits v.toNat 0 40) 40 * 2 ^ 40 } ∧
      t.fget .TIME_SLEW_slew_ppm 0 = bits v.toNat 40 10 ∧
      t.fget .TIME_STATUS_slew_active 0 = bit (decide (bits v.toNat 0 40 ≠ 0))) ∧
  (∀ s req, s.fbit .TIME_CTL_step_go 0 = false →
    (stepOk s false = true → s.images.ticket = none →
      Completes (.timeStep req false) s fun t => t.time.dt = stepTarget s ∧ t.fget .TIME_STATUS_step_allowed 0 = 0 ∧
        t.cget .stepCount 0 = (s.cget .stepCount 0 + 1) % 2 ^ 48) ∧
    (stepOk s true = true → Completes (.timeStep req true) s fun t =>
      t.time = s.time ∧ t.fget .TIME_STATUS_step_pending 0 = 1 ∧ t.fget .TIME_CTL_step_at_pps 0 = 1) ∧
    (stepOk s false = false → Completes (.timeStep req false) s fun t =>
      t.time = s.time ∧ t.fget .TIME_STATUS_arg_err 0 = 1)) ∧
  (∀ s req,
    (stalled s = false → Completes (.reepoch req) s fun t =>
      t.time = { s.time with reepochEnd := some (s.now + 1000 * s.fget .TIME_CFG_reepoch_hold_us 0) } ∧
      t.fget .TIME_STATUS_reepoch_pending 0 = 1 ∧ t.fget .TIME_STATUS_step_allowed 0 = 1) ∧
    (stalled s = true → Completes (.reepoch req) s fun t => t.time = s.time ∧ t.fget .TIME_STATUS_arg_err 0 = 1)) ∧
  (∀ s u (v : Word), u < 8 → s.fbit .TRIG_CTL_fw_owned u = false → 8 ≤ bits v.toNat 12 16 → bits v.toNat 4 1 = 0 →
    (s.fbit .TRIG_CTL_arm u = false → bits v.toNat 28 1 = 1 →
      (trigPeriod s u = 0 → s.time.dt ≤ trigStart s u * 2 ^ 40 →
        Completes (.triggerArm .host u v) s fun t => t.fget .TRIG_CTL_arm u = 1 ∧ trigNext t u = some (trigStart s u)) ∧
      (trigPeriod s u ≠ 0 →
        Completes (.triggerArm .host u v) s fun t => t.fget .TRIG_CTL_arm u = 1 ∧
          ∃ k, trigNext t u = some (trigStart s u + k * trigPeriod s u) ∧
            s.time.dt ≤ (trigStart s u + k * trigPeriod s u) * 2 ^ 40 ∧
            (k ≠ 0 → t.cget .trigSkipped u = (s.cget .trigSkipped u + k) % 2 ^ 48) ∧
            ∀ j, j < k → (trigStart s u + j * trigPeriod s u) * 2 ^ 40 < s.time.dt)) ∧
    (s.fbit .TRIG_CTL_arm u = true → bits v.toNat 28 1 = 0 →
      Completes (.triggerArm .host u v) s fun t => t.fget .TRIG_CTL_arm u = 0 ∧ trigNext t u = none)) ∧
  (∀ s req,
    (s.telem.closed ≠ some s.now → Completes (.wheyEpochNow req) s fun t =>
      t.fget .WHEY_STATUS_export_epoch 0 = (s.fget .WHEY_STATUS_export_epoch 0 + 1) % 2 ^ Fld.WHEY_STATUS_export_epoch.info.width ∧
      t.fget .WHEY_STATUS_periodic_running 0 = (if s.fbit .WHEY_STATUS_periodic_running 0 then s.fget .WHEY_STATUS_periodic_running 0 else 1) ∧
      ∀ x, x < 4 → (t.exporter x).recs = []) ∧
    (s.telem.closed = some s.now → Completes (.wheyEpochNow req) s fun t =>
      t.telem = s.telem ∧ t.cellar = s.cellar ∧
      t.fget .WHEY_STATUS_export_epoch 0 = s.fget .WHEY_STATUS_export_epoch 0)) ∧
  (∀ s req x (v : Word), WriteOk s .IPFIX_CFG x (wordVal s .IPFIX_CFG x v.toNat) → s.fbit .IPFIX_CFG_en x = false →
    fldIn v.toNat .IPFIX_CFG_en = 1 →
    Completes (.ipfixEnable req x v) s fun t => ReadsBack t .IPFIX_CFG x (wordVal s .IPFIX_CFG x v.toNat) ∧
      (t.exporter x).tmplAt = s.now ∧ t.cget .ipfixTemplates x = (s.cget .ipfixTemplates x + 1) % 2 ^ 48) ∧
  (∀ s req,
    (s.fbit .TALLY_CTL_snap_busy 0 = false → Completes (.tallySnapNow req) s fun t =>
      t.fget .TALLY_CTL_snap_busy 0 = 1 ∧ t.fget .TALLY_CTL_snap_seq 0 = (s.fget .TALLY_CTL_snap_seq 0 + 1) % 65536 ∧
      t.cget .snapCount 0 = (s.cget .snapCount 0 + 1) % 2 ^ 48 ∧ t.telem.staged = [] ∧
      ∃ v, t.telem.snap = some v ∧ v.seq = (s.fget .TALLY_CTL_snap_seq 0 + 1) % 65536 ∧ v.cause = 1 ∧ v.ns = s.devNs) ∧
    (snapMerges s = true → Completes (.tallySnapNow req) s fun t =>
      t.telem = s.telem ∧ t.fget .TALLY_CTL_snap_seq 0 = s.fget .TALLY_CTL_snap_seq 0 ∧
      t.cget .snapCount 0 = s.cget .snapCount 0 ∧ t.cget .snapOverrun 0 = s.cget .snapOverrun 0) ∧
    (s.fbit .TALLY_CTL_snap_busy 0 = true → snapMerges s = false → s.fbit .TALLY_CTL_snap_pending 0 = false →
      Completes (.tallySnapNow req) s fun t =>
        t.fget .TALLY_CTL_snap_pending 0 = 1 ∧ t.telem = { s.telem with asked := some s.now, heldCause := 1 }) ∧
    (s.fbit .TALLY_CTL_snap_busy 0 = true → snapMerges s = false → s.fbit .TALLY_CTL_snap_pending 0 = true →
      Completes (.tallySnapNow req) s fun t =>
      t.fget .TALLY_CTL_snap_overrun 0 = 1 ∧ t.telem = { s.telem with asked := some s.now } ∧
      t.cget .snapOverrun 0 = (s.cget .snapOverrun 0 + 1) % 2 ^ 48))

/-- Rings, doorbells, the event re-arm, SETUP_LOCK and plain register accesses. Enabling a ring starts its indices at 0
and clears stopped; disabling one leaves en at 1 while it quiesces. A doorbell of a running ring within its size moves
the host-owned index; a wrong step stops the ring with db_err; one of a ring that is off, or of another size than 4,
is counted. Writing EVT_REARM sends the event vector of set 0, or makes it pending where the vector is masked, while
an unmasked cause stands. Writing SETUP_LOCK locks for good. An 8-byte write at a register's offset is that register's
write; a size or alignment that BAR0 does not take is logged; a 4-byte write of a lower half is staged; a 2-byte write
sets one TENANT_MAP entry. (R53, R61, R256, R257, R260, R370, R371, R373.) -/
def Obligations.HostRegisterWritesAct : Prop :=
  (∀ s n k (v : Word), k < 8 → s.fbit .RING_CTL_en (n * 8 + k) = false →
    WriteOk s .RING_CTL (n * 8 + k) (wordVal s .RING_CTL (n * 8 + k) (setBits v.toNat 5 1 1)) →
    Completes (.ringEnable n k v) s fun t => t.fget .RING_CTL_en (n * 8 + k) = 1 ∧ t.fget .RING_CTL_stopped (n * 8 + k) = 0 ∧
      t.ring n k = {} ∧ t.fget .RING_CTL_log2_size (n * 8 + k) = bits v.toNat 0 5 ∧ t.fget .RING_CTL_vector (n * 8 + k) = bits v.toNat 6 5) ∧
  (∀ s n k (v : Word), k < 8 → s.fbit .RING_CTL_en (n * 8 + k) = true →
    WriteOk s .RING_CTL (n * 8 + k) (wordVal s .RING_CTL (n * 8 + k) (setBits v.toNat 5 1 0)) →
    Completes (.ringDisable n k v) s fun t => t.fget .RING_CTL_en (n * 8 + k) = 1 ∧ (t.ring n k).quiescing = true) ∧
  (∀ s n k z (v : BitVec 32), n < 64 → k < 8 →
    let r := s.ring n k
    let size := ringSize s n k
    let step := (v.toNat + 2 ^ 32 - r.hostIdx) % 2 ^ 32
    let span := if k = 0 ∨ k = 2 ∨ k = 3 ∨ k = 6 then (v.toNat + 2 ^ 32 - r.devIdx) % 2 ^ 32 else (r.devIdx + 2 ^ 32 - v.toNat) % 2 ^ 32
    (z ≠ 4 → Completes (.doorbellWrite n k z v) s fun t =>
      t.cget .dbPartial 0 = (s.cget .dbPartial 0 + 1) % 2 ^ 48 ∧ t.host = s.host) ∧
    ((s.fbit .SET_CTL_set_en n = false ∨ s.fbit .RING_CTL_en (n * 8 + k) = false) → Completes (.doorbellWrite n k 4 v) s fun t =>
      t.cget .dbDisabled n = (s.cget .dbDisabled n + 1) % 2 ^ 48 ∧ t.host = s.host) ∧
    (s.fbit .SET_CTL_set_en n = true → s.fbit .RING_CTL_en (n * 8 + k) = true →
      (step ≤ size → span ≤ size → Completes (.doorbellWrite n k 4 v) s fun t =>
        (t.ring n k).hostIdx = v.toNat ∧ (k ≠ 1 → k ≠ 7 → t = s.setRing n k { r with hostIdx := v.toNat })) ∧
      ((size < step ∨ size < span) → Completes (.doorbellWrite n k 4 v) s fun t =>
        t.ring n k = r ∧ t.fget .RING_CTL_stopped (n * 8 + k) = 1 ∧ t.fget .SET_ERR_db_err n = 1 ∧
        t.cget .dbErrCount n = (s.cget .dbErrCount n + 1) % 2 ^ 48))) ∧
  (∀ s req (v : Word),
    (evtCause s &&& s.fget .EVT_MASK_mask 0 ≠ 0 → Completes (.evtRearmWrite req v) s fun t =>
      (tget false s.host.msixMask (0, 32 * setPage s 0 + 31) = false →
        Out.msix 0 (32 * setPage s 0 + 31) ∈ t.out.drop s.out.length) ∧
      (tget false s.host.msixMask (0, 32 * setPage s 0 + 31) = true →
        tget false t.host.msixPend (0, 32 * setPage s 0 + 31) = true)) ∧
    (evtCause s &&& s.fget .EVT_MASK_mask 0 = 0 → Completes (.evtRearmWrite req v) s fun t => t.out = s.out)) ∧
  (∀ s req (v : Word), bits v.toNat 0 1 = 1 → Completes (.setupLockWrite req v) s fun t =>
    t.fget .SETUP_LOCK_lock 0 = 1 ∧ t.fget .GLOBAL_STATUS_setup_locked 0 = 1) ∧
  (∀ s req r i word off (v : Word), regAt 0 off = some (r, i, word) → off % 8 = 0 → off < 2 ^ 24 → (off < 0xD0000 ∨ 0xF0000 ≤ off) →
    i < r.info.n1 * r.info.n2 → 64 * word < r.info.bits → 64 ≤ r.info.bits → regOffset r i word = off →
    exec (.registerWrite req 0 off 8 v) s = .next (reg8 s req r i word v.toNat)) ∧
  (∀ s req off z (v : Word), off < 2 ^ 24 → z < 8 → z ≠ 2 → z ≠ 4 →
    Completes (.registerWrite req 0 off z v) s fun t => t.fget .GLOBAL_STATUS_bad_access 0 = 1 ∧ t.fget .LOCK_LOG_kind 0 = 1 ∧
      t.fget .LOCK_LOG_offset 0 = off % 2 ^ Fld.LOCK_LOG_offset.info.width ∧
      ChangesOnly [.out, .host, .evtLevel, .reg .LOCK_LOG, .reg .GLOBAL_STATUS, .reg .EVT_CAUSE] s t) ∧
  (∀ s req r i word off (v : Word), regAt 0 off = some (r, i, word) → off % 8 = 0 → off < 2 ^ 24 → (off < 0xD0000 ∨ 0xF0000 ≤ off) →
    offPage s r i = false → 64 ≤ r.info.bits →
    Completes (.registerWrite req 0 off 4 v) s fun t => t.reg = s.reg ∧
      tget none t.setup.halves (stageKey req 0 off) = some (v.toNat % 2 ^ 32)) ∧
  (∀ s req n (v : Word), n < 65536 → s.fbit .SETUP_LOCK_lock 0 = false →
    Completes (.registerWrite req 0 (0xD0000 + 2 * n) 2 v) s fun t => ReadsBack t .TENANT_MAP n (v.toNat % 65536))

/-- Descriptors are fetched in ring order, and injected frames go on. Fetching one command or injection descriptor where
there is room counts it, moves the ring's device-owned index on by one, and puts its work in the device; a command
with an unlisted opcode or a reserved bit completes with INVALID_ARG; a failed descriptor read stops the ring and
takes nothing. The injection at the head of its ring with a buffer to take enters, and one without a buffer waits,
counted once. A PROCESS frame joins its slice's recirculation port with its FCS appended. (R18, R198, R258, R261,
R262, R265, R269, R270.) -/
def Obligations.DescriptorsAreFetchedAndInjected : Prop :=
  (∀ s set d, set < 64 → ringRuns s set 0 = true → 1 ≤ fetchRoom s set 0 →
    let w : Work := { set := set, ring := 0, index := (s.ring set 0).devIdx, desc := d.desc.toNat, data := d.data, stage := .fetched,
                      lost := false, hash := 0, place := 0 }
    (d.failed = false → cmdListed (cmdOp w.desc) = true → bits w.desc 10 6 = 0 → bits w.desc 60 4 = 0 → d.dataFailed = false →
      Completes (.descriptorFetch set 0 [d]) s fun t =>
        t.cget .cmdFetched set = (s.cget .cmdFetched set + 1) % 2 ^ 48 ∧
        (t.ring set 0).devIdx = ((s.ring set 0).devIdx + 1) % 2 ^ 32 ∧ t.host.work = s.host.work ++ [w] ∧ t.out = s.out) ∧
    (d.failed = false → (cmdListed (cmdOp w.desc) = false ∨ bits w.desc 10 6 ≠ 0 ∨ bits w.desc 60 4 ≠ 0) →
      Completes (.descriptorFetch set 0 [d]) s fun t =>
        t.cget .cmdFetched set = (s.cget .cmdFetched set + 1) % 2 ^ 48 ∧ Answered s t w 1 0 0 0) ∧
    (d.failed = true → Completes (.descriptorFetch set 0 [d]) s fun t =>
      t.fget .RING_CTL_stopped (set * 8) = 1 ∧ t.fget .SET_ERR_dma_err set = 1 ∧
      t.host.rings = s.host.rings ∧ t.host.work = s.host.work)) ∧
  (∀ s set d, set < 64 → ringRuns s set 3 = true → 1 ≤ fetchRoom s set 3 → d.failed = false → d.dataFailed = false →
    injRefusal s set d.desc.toNat = 0 →
    Completes (.descriptorFetch set 3 [d]) s fun t =>
      t.cget .injFrames set = (s.cget .injFrames set + 1) % 2 ^ 48 ∧
      (t.ring set 3).devIdx = ((s.ring set 3).devIdx + 1) % 2 ^ 32 ∧
      t.host.work.length = s.host.work.length + 1) ∧
  (∀ s set index w, injNext s set = some w → w.index = index →
    (injMode w.desc = 0 → injRoom s w = true → exec (.injDirect set index) s = .next (injEnter s w)) ∧
    (injMode w.desc = 1 → injRoom s w = true → Completes (.injProcess set index) s fun t =>
      tget [] t.recirc (injSlice w.desc, 0) = tget [] s.recirc (injSlice w.desc, 0) ++ [s.nextFrame] ∧
      (t.frame s.nextFrame).bytes = w.data ++ fcsOf w.data ∧ (t.frame s.nextFrame).ingPort = 257 + injSlice w.desc ∧
      workOf t set 3 index = none) ∧
    (injRoom s w = false → s.buffers.injWait.any (fun x => x.set == set) = false →
      let p := fun t => t.cget .injWait 0 = (s.cget .injWait 0 + 1) % 2 ^ 48 ∧
        t.buffers = { s.buffers with injWait := s.buffers.injWait ++ [⟨set, index⟩] }
      (injMode w.desc = 0 → Completes (.injDirect set index) s p) ∧ (injMode w.desc = 1 → Completes (.injProcess set index) s p)) ∧
    (∀ x, s.buffers.injWait.find? (fun x => x.set == set) = some x → x.index = index → injRoom s w = true →
      exec (.injBufferRetry set) s = .next (injEnter s w)))

/-- A punt is policed, then delivered or dropped. The first punt that can go on leaves the list. One whose policer has no
rate is counted in punt_policed. One that may pass, on a live ring with a posted descriptor, is counted in
punt_delivered, its descriptor is written to the PUNT ring and that ring's index moves on by one; with no posted
descriptor it is counted in punt_ring_full. (R66, R257, R258, R268.) -/
def Obligations.PuntsAreDelivered : Prop :=
  ∀ s p (d : BitVec 512), puntNext s = some p →
    let set := puntSet s p
    let f := s.frame p.frame
    let l := fragFill ((List.range 4).map (fun i => bits d.toNat (64 * i) 64)) (fragLens d.toNat) (puntBytes f p)
    (p.reason ≠ 0x50 → s.fget .PUNT_POLICER_rate_pps p.reason = 0 → Completes (.puntDeliver d) s fun t =>
      t.cget .puntPoliced p.reason = (s.cget .puntPoliced p.reason + 1) % 2 ^ 48 ∧ t.puntBuckets = s.puntBuckets) ∧
    ((p.reason = 0x50 ∨ (puntPolice s p).1 = true) → ringDead s set 2 = false →
      ((s.ring set 2).hostIdx ≠ (s.ring set 2).devIdx → (fragLens d.toNat).isEmpty = false →
        Completes (.puntDeliver d) s fun t =>
          t.cget .puntDelivered set = (s.cget .puntDelivered set + 1) % 2 ^ 48 ∧
          (t.ring set 2).devIdx = ((s.ring set 2).devIdx + 1) % 2 ^ 32 ∧
          ∃ prof, (f.selected = true → prof = f.prof) ∧
          Out.hostWrite (s.fget .RING_BASE_addr (set * 8 + 2) + 64 * ((s.ring set 2).devIdx % ringSize s set 2))
            (leBytes 64 (setBits (puntDesc f p prof (puntBytes f p).length (l.map (fun x => x.2.length)).sum (max 1 l.length)) 511 1
              (phaseOf (s.ring set 2).devIdx (ringSize s set 2)))) ∈ t.out.drop s.out.length) ∧
      ((s.ring set 2).hostIdx = (s.ring set 2).devIdx → Completes (.puntDeliver d) s fun t =>
        t.cget .puntRingFull set = (s.cget .puntRingFull set + 1) % 2 ^ 48)) ∧
    ((p.reason = 0x50 ∨ (puntPolice s p).1 = true) → ringDead s set 2 = true → Completes (.puntDeliver d) s fun t =>
      t.cget .puntNoRing 0 = (s.cget .puntNoRing 0 + 1) % 2 ^ 48)

/-- Status blocks, ring messages, ring ends and the PCIe link. A status block due is written to its address with the next
sequence number. A ring's message is sent when its moderation time has run, or is pending where its vector is masked.
A quiesced ring reads en = 0, and a failed read of host memory stops its ring and is reported. The link comes up when
PERST# rises after PCIe is released, goes to compliance on request, and a config write shows it up and sets Bus Master
Enable. (R256, R258, R259, R261, R272, R367.) -/
def Obligations.RingEndsAndMessages : Prop :=
  (∀ s set, tget false s.host.sbDirty (set, 0) = true → s.fbit .SET_CTL_set_en set = true →
    tget false s.host.busMaster (setOwner s set, 0) = true →
    Completes (.statusBlockWrite set) s fun t =>
      tget false t.host.sbDirty (set, 0) = false ∧
      tget 0 t.host.sbSeq (set, 0) = (tget 0 s.host.sbSeq (set, 0) + 1) % 2 ^ 32 ∧
      t.out = s.out ++ [.hostWrite (s.fget .SB_ADDR_addr set) (leBytes 64 (sbWords s set +
        (tget 0 s.host.sbSeq (set, 0) + 1) % 2 ^ 32 * 2 ^ 256 + s.stamp32 * 2 ^ 288 + s.time.epoch * 2 ^ 320))]) ∧
  (∀ s set ring t0, (s.ring set ring).oldest = some t0 → ringToHost ring = true → ringRuns s set ring = true →
    s.fbit .RING_CTL_irq_en (set * 8 + ring) = true → t0 + 1000 * s.fget .RING_CTL_mod_time_us (set * 8 + ring) ≤ s.now →
    Completes (.irqModTimer set ring) s fun t =>
      t.ring set ring = { s.ring set ring with since := 0, oldest := none } ∧
      let k : Key := (setOwner s set, 32 * setPage s set + s.fget .RING_CTL_vector (set * 8 + ring))
      (tget false s.host.msixMask k = false → Out.msix k.1 k.2 ∈ t.out.drop s.out.length) ∧
      (tget false s.host.msixMask k = true → tget false t.host.msixPend k = true)) ∧
  (∀ s set ring, (s.ring set ring).quiescing = true →
    Completes (.ringQuiesced set ring) s fun t => t.fget .RING_CTL_en (set * 8 + ring) = 0 ∧
      t.ring set ring = { s.ring set ring with quiescing := false }) ∧
  (∀ s set ring, ring = 0 ∨ ring = 2 ∨ ring = 3 ∨ ring = 6 → ringRuns s set ring = true →
    Completes (.ringDmaError set ring) s fun t => t.fget .RING_CTL_stopped (set * 8 + ring) = 1 ∧
      t.fget .SET_ERR_dma_err set = 1 ∧ t.fget .SET_ERR_last_ring set = ring ∧ ringRuns t set ring = false ∧ t.host.rings = s.host.rings ∧
      t.host.work = s.host.work ∧ Out.aer (setOwner s set) ∈ t.out.drop s.out.length) ∧
  (∀ s, s.host.perst = true → Completes .perstRelease s fun t =>
    t.host.perst = false ∧ t.host.linkUp = s.rind.pcieUp ∧ t.rind.pcieFrom = s.now) ∧
  (∀ s, pcieReady s = true → Completes .pcieEnterCompliance s fun t =>
    t.host = { s.host with compliance := true, linkUp := false } ∧ ChangesOnly [.host] s t) ∧
  (∀ s fn b, pcieReady s = true → fn < 64 → (fn = 0 ∨ s.host.vfEnable = true) →
    Completes (.busMasterEnableChange fn b) s fun t =>
      tget false t.host.busMaster (fn, 0) = b ∧ t.host.linkUp = true ∧ t.host.compliance = false)

/-- Host resets, function-level resets and VF Enable. A PERST#, a lost link or a hot reset shows in the cause perst; with
no wider source asserted, every ring set returns to reset, no function is a bus master, and host_reset is set. A
function-level reset of PF0 does the same without the cause; one of a VF, and a clear of VF Enable, reset the sets
that VFs own. VF Enable is not taken in recovery mode. (R252, R254, R255, R271, R272, R321.) -/
def Obligations.HostResetsReachTheirSets : Prop :=
  (∀ s cause, Completes (.hostReset cause) s fun t =>
    t.fget .RESET_CAUSE_perst 0 = 1 ∧ (cause = .perst → t.host.perst = true) ∧ (cause ≠ .hotReset → t.host.linkUp = false) ∧
    (s.rind.sources = [] → t.fget .HIF_STATUS_host_reset 0 = 1 ∧ t.host.busMaster = [] ∧ t.host.vfEnable = false ∧
      ∀ n k, n < 64 → k < 8 → t.ring n k = {} ∧ t.fget .RING_CTL_en (n * 8 + k) = 0 ∧ t.fget .SET_CTL_set_en n = 0)) ∧
  (∀ s, Completes (.functionLevelReset 0) s fun t =>
    t.fget .HIF_STATUS_host_reset 0 = 1 ∧ t.host.busMaster = [] ∧ t.host.vfEnable = false ∧
    t.fget .RESET_CAUSE_perst 0 = s.fget .RESET_CAUSE_perst 0 ∧
    ∀ n k, n < 64 → k < 8 → t.ring n k = {} ∧ t.fget .RING_CTL_en (n * 8 + k) = 0) ∧
  (∀ s fn, 0 < fn → fn < 64 → s.host.vfEnable = true →
    Completes (.functionLevelReset fn) s fun t =>
      tget false t.host.busMaster (fn, 0) = false ∧ t.host.vfEnable = true ∧
      ∀ n k, n < 64 → k < 8 →
        (setOwner s n = fn → t.ring n k = {} ∧ t.fget .RING_CTL_en (n * 8 + k) = 0) ∧
        (setOwner s n ≠ fn → t.ring n k = s.ring n k ∧ t.fget .RING_CTL_en (n * 8 + k) = s.fget .RING_CTL_en (n * 8 + k))) ∧
  (∀ s, s.host.vfEnable = true →
    Completes .vfEnableClear s fun t => t.host.vfEnable = false ∧
      ∀ n k, n < 64 → k < 8 → 0 < setOwner s n → setOwner s n < 64 →
        t.ring n k = {} ∧ t.fget .RING_CTL_en (n * 8 + k) = 0) ∧
  (∀ s, inRecovery s = false → Completes .vfEnableSet s fun t => t.host.vfEnable = true ∧ ChangesOnly [.host] s t)

/-- An SPDM request is answered, after the mailbox request in execution. With the Rind and PCIe running and no mailbox
request in execution, each of the seven requests leaves exactly one answer, and GET_MEASUREMENTS answers with the
digests of the components that run; NEGOTIATE_ALGORITHMS takes P-384 where it is offered. While a mailbox request is
in execution the request waits. (R253, R316.) -/
def Obligations.SpdmRequestsAreAnswered : Prop :=
  ∀ s a b x o n (l : List Byte), rindRuns s = true → pcieReady s = true →
    let later (q : SpdmReq) (t : State) : Prop :=
      t.rind = { s.rind with spdmWait := s.rind.spdmWait ++ [q] } ∧ t.out = s.out ∧ ChangesOnly [.rind] s t
    (s.rind.mbx = none →
      Completes .getVersion s (fun t => ∃ v, t.out = s.out ++ [.answer v] ∧ ChangesOnly [.out, .rind] s t) ∧
      Completes .getCapabilities s (fun t => ∃ v, t.out = s.out ++ [.answer v] ∧ ChangesOnly [.out, .rind] s t) ∧
      Completes (.negotiateAlgorithms a b) s (fun t => ∃ v, t.out = s.out ++ [.answer v] ∧ ChangesOnly [.out, .rind] s t ∧ t.rind.spdmP384 = a) ∧
      Completes .getDigests s (fun t => ∃ v, t.out = s.out ++ [.answer v] ∧ ChangesOnly [.out, .rind] s t) ∧
      Completes (.getCertificate x o n) s (fun t => ∃ v, t.out = s.out ++ [.answer v] ∧ ChangesOnly [.out, .rind] s t) ∧
      Completes (.challenge x l) s (fun t => ∃ v, t.out = s.out ++ [.answer v] ∧ ChangesOnly [.out, .rind] s t) ∧
      Completes (.getMeasurements x l) s (fun t => ∃ v, t.out = s.out ++ [.answer v] ∧ ChangesOnly [.out, .rind] s t ∧ runningBytes s <:+ v)) ∧
    (s.rind.mbx.isSome = true →
      Completes .getVersion s (later .version) ∧
      Completes .getCapabilities s (later .capabilities) ∧
      Completes (.negotiateAlgorithms a b) s (later (.algorithms a b)) ∧
      Completes .getDigests s (later .digests) ∧
      Completes (.getCertificate x o n) s (later (.certificate x o n)) ∧
      Completes (.challenge x l) s (later (.challenge x l)) ∧
      Completes (.getMeasurements x l) s (later (.measurements x l)))

/-- Status, history, cause, chip reset, throttle and key requests of the mailbox. A request of a command not served in
recovery mode is refused there, one with a reserved bit completes with INVALID_ARG, and so does a command that does
not exist. GET_STATUS answers START_STATUS and RESET_CAUSE; GET_HISTORY writes the last 16 requests; CAUSE_CLEAR
clears the causes it names and no other; RESET_CHIP answers OK and asserts its source 1 ms later, a second one
changing nothing of that; THROTTLE_SET takes a point between the fuses' bounds; KEY_PIN and KEY_UNPIN with an accepted
envelope show at once and answer when the log is written. (R316, R317, R318, R319, R320, R326, R349.) -/
def Obligations.MailboxRequestsAreAnswered : Prop :=
  (∀ s m, mbxReady s m = true → ∀ c, c ∈ ([(0x01, .getStatus m), (0x02, .getHistory m), (0x03, .causeClear m), (0x10, .resetChip m),
      (0x11, .resetDomain m), (0x12, .domainHold m), (0x20, .powerSet m), (0x30, .throttleSet m), (0x40, .keyPin m), (0x41, .keyUnpin m),
      (0x50, .recoveryComplete m)] : List (Nat × Instr)) → mbxCmd m = c.1 →
    (inRecovery s = true → mbxRecovery c.1 = false → Completes c.2 s fun t => Replied s t m 6 0 0) ∧
    ((inRecovery s = false ∨ mbxRecovery c.1 = true) → mbxReserved m = true → Completes c.2 s fun t => Replied s t m 1 0 0)) ∧
  (∀ s m, mbxReady s m = true → mbxReserved m = false → (inRecovery s = false ∨ mbxRecovery (mbxCmd m) = true) →
    (mbxCmd m = 0x01 → Completes (.getStatus m) s fun t => Replied s t m 0 (startStatus s) (regRaw s .RESET_CAUSE 0)) ∧
    (mbxCmd m = 0x02 →
      (mbxLen m < 128 → Completes (.getHistory m) s fun t => Replied s t m 1 0 0) ∧
      (128 ≤ mbxLen m → m.dataFailed = false → Completes (.getHistory m) s fun t => Replied s t m 0 0 0 ∧
        (m.internal = false → Out.hostWrite (mbxAddr m)
          ((List.range 16).flatMap (fun i => leBytes 8 (s.rind.history.getD i 0))) ∈ t.out.drop s.out.length))) ∧
    (mbxCmd m = 0x03 → mbxArg0 m < 2 ^ 14 → Completes (.causeClear m) s fun t => Replied s t m 0 0 0 ∧
      ∀ f k, causeFlds[k]? = some f → t.fget f 0 = if hasBit (mbxArg0 m) k then 0 else s.fget f 0) ∧
    (mbxCmd m = 0x10 → Completes (.resetChip m) s fun t => Replied s t m 0 0 0 ∧ t.rind.chipResetAt = some (s.rind.chipResetAt.getD (s.now + 1000000))) ∧
    (mbxCmd m = 0x30 →
      (thrMin s ≤ mbxArg0 m → mbxArg0 m ≤ thrMax s → Completes (.throttleSet m) s fun t => Replied s t m 0 0 0 ∧
        t.fget .THERMAL_throttle_point 0 = mbxArg0 m) ∧
      ((mbxArg0 m < thrMin s ∨ thrMax s < mbxArg0 m) → Completes (.throttleSet m) s fun t => Replied s t m 1 0 0 ∧
        t.fget .THERMAL_throttle_point 0 = s.fget .THERMAL_throttle_point 0)) ∧
    (mbxCmd m = 0x40 →
      (envCheck s m 3 = 0 → Completes (.keyPin m) s fun t =>
        t.rind.sealedKey = some (leAt (envBody m.data 3) 0 8, leAt (envBody m.data 3) 8 8) ∧
        t.fget .RIND_STATUS_key_pinned 0 = 1 ∧ t.fget .CELLAR_REKEY_key_pinned 0 = 1 ∧ t.fget .RIND_STATUS_mbx_busy 0 = 1 ∧
        t.images.nonces = (envNonce m.data :: s.images.nonces).take 256) ∧
      (envCheck s m 3 ≠ 0 → Completes (.keyPin m) s fun t => Replied s t m (envCheck s m 3) 0 0 ∧ t.rind.sealedKey = s.rind.sealedKey)) ∧
    (mbxCmd m = 0x41 → envCheck s m 4 = 0 → Completes (.keyUnpin m) s fun t =>
      t.rind.sealedKey = none ∧ t.fget .RIND_STATUS_key_pinned 0 = 0 ∧ t.fget .CELLAR_REKEY_key_pinned 0 = 0 ∧
      t.fget .RIND_STATUS_mbx_busy 0 = 1)) ∧
  (∀ s m, mbxReady s m = true → mbxCmd m = 0x60 → Completes (.mbxInvalidCommand m) s fun t => Replied s t m 1 0 0) ∧
  (∀ s t0, s.rind.chipResetAt = some t0 → t0 ≤ s.now → Completes .resetChipAssert s fun t => Asserted s t .hostFull) ∧
  (∀ s r st a b, s.rind.mbx = some r → r.waits = .logWrite st a b → Completes .logRegionWriteDone s fun t =>
    t.rind.mbx = none ∧ t.fget .RIND_STATUS_mbx_busy 0 = 0 ∧
    t.rind.history = ((r.cmd + st * 2 ^ 8 + r.tag * 2 ^ 16) :: s.rind.history).take 16)

/-- Domain resets, holds and power switching. RESET_DOMAIN of an allowed domain sets the cause domain_req and answers OK,
that of a Skim bank once the bank has been flushed; one of a domain past 159, quarantined or not resettable now is
refused. DOMAIN_HOLD holds the domain. POWER_SET waits in the switching queue, unless the domain's step of the start
is to do it, and the switch at its head, at most one every 10 us, changes PD_STATE, sets pd_event and answers.
RECOVERY_COMPLETE outside recovery mode is refused; in it, with a slot that authenticates, recovery ends and the chip
starts anew. (R318, R326, R330, R331.) -/
def Obligations.DomainRequestsAct : Prop :=
  (∀ s m, mbxReady s m = true → mbxReserved m = false → inRecovery s = false → mbxCmd m = 0x11 →
    (160 ≤ mbxArg0 m → Completes (.resetDomain m) s fun t => Replied s t m 1 0 0) ∧
    (mbxArg0 m < 160 → pdQuarantined s (mbxArg0 m) = true → Completes (.resetDomain m) s fun t => Replied s t m 6 0 0) ∧
    (mbxArg0 m < 160 → pdQuarantined s (mbxArg0 m) = false → resetAllowed s (mbxArg0 m) = false →
      Completes (.resetDomain m) s fun t => Replied s t m 10 0 0) ∧
    (mbxArg0 m < 160 → pdQuarantined s (mbxArg0 m) = false → resetAllowed s (mbxArg0 m) = true →
      ((isBank (mbxArg0 m) = false ∨ s.fbit .PD_STATE_on (mbxArg0 m) = false) →
        Completes (.resetDomain m) s fun t => Replied s t m 0 0 0 ∧ t.fget .RESET_CAUSE_domain_req 0 = 1 ∧
          (s.fbit .PD_STATE_on (mbxArg0 m) = true →
            t.fget .PD_HELD_held (mbxArg0 m) = bit (pdWaits (mbxArg0 m) || s.rind.holds.contains (mbxArg0 m)))) ∧
      (isBank (mbxArg0 m) = true → s.fbit .PD_STATE_on (mbxArg0 m) = true →
        Completes (.resetDomain m) s fun t => t.fget .RIND_STATUS_mbx_busy 0 = 1 ∧ t.fget .RESET_CAUSE_domain_req 0 = 1 ∧
          hasBit (t.fget .SKIM_STATUS_bank_held 0) (mbxArg0 m - 112) = true ∧
          t.rind.mbx = some { internal := m.internal, lost := false, cmd := 0x11, tag := mbxTag m, waits := .flush (mbxArg0 m - 112) }))) ∧
  (∀ s m, mbxReady s m = true → mbxReserved m = false → inRecovery s = false → mbxCmd m = 0x12 → mbxArg0 m < 160 →
    pdQuarantined s (mbxArg0 m) = false → resetAllowed s (mbxArg0 m) = true →
    (mbxArg1 m = 1 → Completes (.domainHold m) s fun t => Replied s t m 0 0 0 ∧ t.rind.holds.contains (mbxArg0 m) = true ∧
      t.fget .PD_HELD_held (mbxArg0 m) = 1) ∧
    (mbxArg1 m = 0 → Completes (.domainHold m) s fun t => Replied s t m 0 0 0 ∧ t.rind.holds.contains (mbxArg0 m) = false)) ∧
  (∀ s m, mbxReady s m = true → mbxReserved m = false → inRecovery s = false → mbxCmd m = 0x20 → mbxArg0 m < 160 → mbxArg1 m < 2 →
    pdQuarantined s (mbxArg0 m) = false →
    (s.fbit .PD_STATE_on (mbxArg0 m) = (mbxArg1 m == 1) ∨ (mbxArg1 m = 1 ∧ awaitsStep s (mbxArg0 m) = true) → Completes (.powerSet m) s fun t => Replied s t m 0 0 0) ∧
    (s.fbit .PD_STATE_on (mbxArg0 m) ≠ (mbxArg1 m == 1) → ((mbxArg1 m = 1 ∧ awaitsStep s (mbxArg0 m) = false) ∨ (mbxArg1 m = 0 ∧ offAllowed s (mbxArg0 m) = true)) →
      Completes (.powerSet m) s fun t => t.fget .RIND_STATUS_mbx_busy 0 = 1 ∧
        t.rind.switching = s.rind.switching ++ [(mbxArg0 m, mbxArg1 m == 1)] ∧
        t.rind.mbx = some { internal := m.internal, lost := false, cmd := 0x20, tag := mbxTag m, waits := .domain (mbxArg0 m) }) ∧
    (s.fbit .PD_STATE_on (mbxArg0 m) = true → mbxArg1 m = 0 → offAllowed s (mbxArg0 m) = false →
      Completes (.powerSet m) s fun t => Replied s t m 10 0 0)) ∧
  (∀ s pd on l r, s.rind.switching = (pd, on) :: l → (∀ t0, s.rind.lastSwitch = some t0 → t0 + 10000 ≤ s.now) →
    pdQuarantined s pd = false → s.rind.mbx = some r → r.waits = .domain pd →
    (isBank pd = true → on = false → bankIdleNow s (pd - 112) = true) →
    Completes (.domainSwitchComplete pd) s fun t =>
      t.fget .PD_STATE_on pd = bit on ∧ t.fget .RIND_EVT_pd_event 0 = 1 ∧ t.rind.switching = l ∧ t.rind.lastSwitch = some s.now ∧
      t.rind.mbx = none ∧ t.rind.history = ((r.cmd + r.tag * 2 ^ 16) :: s.rind.history).take 16) ∧
  (∀ s m, mbxReady s m = true → mbxReserved m = false → mbxCmd m = 0x50 →
    (inRecovery s = false → Completes (.recoveryComplete m) s fun t => Replied s t m 6 0 0) ∧
    (inRecovery s = true → slotAuth s 0 = false → slotAuth s 1 = false →
      Completes (.recoveryComplete m) s fun t => Replied s t m 10 0 0) ∧
    (inRecovery s = true → (slotAuth s 0 = true ∨ slotAuth s 1 = true) →
      Completes (.recoveryComplete m) s fun t => t.fget .START_STATUS_recovery 0 = 0 ∧ t.fget .START_STATUS_failed_count 0 = 0 ∧
        t.fget .RIND_STATUS_mode 0 = 0 ∧ (∀ pd, t.fget .PD_STATE_on pd = 0) ∧
        t.rind.history = ((0x50 + mbxTag m * 2 ^ 16) :: s.rind.history).take 16))

/-- The reset sources of levels A and B. A falling rail, a brownout below 620 mV, the thermal trip, a critical state
error, RST_N for 1,000 ns and the watchdog's second stage each assert their source with the reach of its level. RST_N
for less than 100 ns does nothing, and between the two either may follow. A source released leaves the list, and with
none left the device is starting. The watchdog is kicked, and its first stage resets the management complex alone.
(R319, R320, R321, R328, R329, R334, R335, R368, R380, R383.) -/
def Obligations.ResetSourcesAssertAndRelease : Prop :=
  (∀ s rails r, r ∈ rails → 1 ≤ r → r < 14 → Completes (.powerRailFall rails) s fun t => Asserted s t .powerOn) ∧
  (∀ s v, v < 620 → Completes (.brownout v) s fun t => Asserted s t .brownout) ∧
  (∀ s, Completes .thermalTrip s fun t => Asserted s t .thermTrip ∧ t.rind.tripLow = true) ∧
  (∀ s n, 1 ≤ n → n ≤ 8 → Completes (.criticalStateError n) s fun t =>
    Asserted s t (if n ≤ 6 then .critB else .critA) ∧ t.fget .RESET_CAUSE_crit_where 0 = n) ∧
  (∀ s n, (1000 ≤ n → Completes (.rstNAssert n) s fun t => Asserted s t .rstN ∧ t.setup.rstLow = true) ∧
    (n < 100 → exec (.rstNAssert n) s = .next s) ∧
    (100 ≤ n → n < 1000 → Completes (.rstNAssert n) s fun t => t = { s with draws := s.draws + 1 } ∨ Asserted s t .rstN)) ∧
  (∀ s, wdogRuns s = true → s.rind.stage1 = true → s.rind.kickAt + wdogNs s ≤ s.now →
    Completes .watchdogStage2 s fun t => Asserted s t .watchdog) ∧
  (∀ s, wdogRuns s = true → s.rind.stage1 = false → s.rind.kickAt + wdogNs s ≤ s.now →
    Completes .watchdogStage1 s fun t => t.rind.stage1 = true ∧ t.rind.kickAt = s.now ∧ t.fget .RIND_STATUS_wdog_stage1 0 = 1 ∧
      t.fget .RESET_CAUSE_wdog_mgmt 0 = 1 ∧ t.fget .PD_HELD_held 157 = 1 ∧
      ChangesOnly [.rind, .setup, .reg .RIND_STATUS, .reg .RESET_CAUSE, .reg .PD_HELD] s t) ∧
  (∀ s, wdogRuns s = true → Completes .watchdogKick s fun t => t = { s with rind := { s.rind with kickAt := s.now, stage1 := false } }) ∧
  (∀ s b, s.rind.sources.contains .powerOn = true → Completes (.powerOn b) s fun t =>
    t.rind.sources = s.rind.sources.filter (fun x => x ≠ .powerOn) ∧ t.rind.hizBall = some b ∧ t.setup.tap = .idcode ∧
    (t.rind.sources = [] → t.fget .RIND_STATUS_mode 0 = 0 ∧ t.rind.compatHiz = b)) ∧
  (∀ s, s.rind.sources.contains .thermTrip = true → Completes .thermalTripRelease s fun t =>
    t.rind.sources = s.rind.sources.filter (fun x => x ≠ .thermTrip) ∧ t.rind.tripLow = false) ∧
  (∀ s r, r ≠ .perst → r ≠ .powerOn → r ≠ .thermTrip → s.rind.sources.contains r = true →
    Completes (.resetSourceRelease r) s fun t =>
      t.rind.sources = s.rind.sources.filter (fun x => x ≠ r) ∧ (r = .rstN → t.setup.rstLow = false) ∧
      (t.rind.sources = [] → t.fget .RIND_STATUS_mode 0 = 0)) ∧
  (∀ s, exec (.resetSourceRelease .perst) s = exec .perstRelease s)

/-- The start sequence: clocks, releases and failed starts. A step that is due enables its clock; step 2 needs a slot that
authenticates, and a start with none fails with kind 3; step 9 loads both store banks from the active slot. A good
clock within its window releases the step: step_reached rises, and its domains come on but for those switched off,
quarantined clusters and the octets of a failed tile, a held one staying in reset. A clock that is late, or a start
past its window, is a failed start of its kind. (R164, R322, R325, R326, R330, R342.) -/
def Obligations.TheReleaseOrder : Prop :=
  (∀ s n, stepDue s n = true →
    (∀ x, n ∉ [2, 4, 5, 8, 9, 10] → Completes (.domainRelease n x) s fun t => t.rind.clocks = s.rind.clocks ++ [(n, s.now)] ∧ t.reg = s.reg) ∧
    (∀ x, n = 9 → Completes (.domainRelease n x) s fun t => t.rind.clocks = s.rind.clocks ++ [(9, s.now)] ∧
      t.churn.bank0 = slotBundle s (activeSlot s) ∧ t.churn.bank1 = slotBundle s (activeSlot s)) ∧
    (∀ x, n = 2 → recoveryLatched s = false → s.images.writing = none →
      (∀ k, bootSlot s = some k → Completes (.domainRelease n x) s fun t => t.rind.clocks = s.rind.clocks ++ [(2, s.now)] ∧
        t.images.running = slotDigests s k) ∧
      (bootSlot s = none → Completes (.domainRelease n x) s fun t =>
        t.fget .START_STATUS_last_fail 0 = 3 ∧ t.fget .START_STATUS_fail_step 0 = 2 ∧ t.rind.sources.contains .failedStart = true))) ∧
  (∀ s n t0, clockOf s n = some t0 → s.now ≤ t0 + windowNs s n → (n = 7 → s.host.perst = false) → (n = 4 → s.rind.memHeld = false) →
    Completes (.clockGood n) s fun t =>
      t.fget .START_STATUS_step_reached 0 = max n (stepReached s) % 2 ^ Fld.START_STATUS_step_reached.info.width ∧
      t.rind.clocks = s.rind.clocks.filter (fun c => c.1 ≠ n) ∧
      (∀ pd, pd ∈ stepDomains n → pdQuarantined s pd = false → s.tileFailed pd = false → s.rind.offs.contains pd = false →
        t.fget .PD_STATE_on pd = 1 ∧ t.fget .PD_HELD_held pd = bit (s.rind.holds.contains pd)) ∧
      (∀ pd, pd ∉ stepDomains n → t.fget .PD_STATE_on pd = s.fget .PD_STATE_on pd) ∧
      (n = 7 → t.host.linkUp = true ∧ t.rind.pcieUp = true)) ∧
  (∀ s n t0, clockOf s n = some t0 → t0 + windowNs s n ≤ s.now → (n = 7 → s.host.perst = false) →
    Completes (.releaseWindowExpire n) s fun t => t.fget .START_STATUS_last_fail 0 = 1 ∧
      t.fget .START_STATUS_fail_step 0 = n % 2 ^ Fld.START_STATUS_fail_step.info.width ∧
      t.rind.sources.contains .failedStart = true ∧ t.fget .RESET_CAUSE_failed_start 0 = 1 ∧
      ((bootNow s).trial = false → t.fget .START_STATUS_failed_count 0 = min 7 (s.fget .START_STATUS_failed_count 0 + 1))) ∧
  (∀ s t0, s.rind.windowFrom = some t0 → s.fbit .START_STATUS_start_complete 0 = false → t0 + startWindowNs s ≤ s.now →
    Completes .startWindowExpire s fun t => t.fget .START_STATUS_last_fail 0 = 2 ∧
      t.rind.sources.contains .failedStart = true ∧ t.fget .RESET_CAUSE_failed_start 0 = 1)

/-- What memory BIST and the tests of the links inside the package do to a start. Step 4's release shows the memories
repaired and unrepairable, quarantines each cluster with an unrepairable memory, and with one anywhere else its good
clock releases nothing. Step 5's shows the HBM lanes repaired and the stacks that failed, and with a failed stack step
8 never begins; else the default contents of the image are loaded before it. Step 10's shows the die-to-die lanes
repaired and the tiles that failed, and the octets of a failed tile do not come on: nothing in them runs. (R322, R365,
R366.) -/
def Obligations.TheTestsOfAStart : Prop :=
  (∀ s x, stepDue s 4 = true → Completes (.domainRelease 4 x) s fun t =>
    t.rind.clocks = s.rind.clocks ++ [(4, s.now)] ∧ t.fget .BIST_STATUS_mem_repaired 0 = min 65535 x.memRepaired ∧
    t.fget .BIST_STATUS_mem_failed 0 = min 65535 x.memFailed.length ∧ t.fget .BIST_STATUS_any_failed 0 = bit (!x.memFailed.isEmpty) ∧
    (∀ p l, x.memFailed = p :: l → t.fget .BIST_STATUS_first_pd 0 = p % 2 ^ Fld.BIST_STATUS_first_pd.info.width) ∧
    (∀ c, c < 64 → 48 + c ∈ x.memFailed → t.fget .CLUSTER_QUARANTINE_bits c = 1 ∧ t.fget .MCK_STATUS_quarantine_event 0 = 1) ∧
    (t.rind.memHeld = true ↔ ∃ p, p ∈ x.memFailed ∧ (p < 48 ∨ 112 ≤ p))) ∧
  (∀ s, s.rind.memHeld = true → exec (.clockGood 4) s = .next s) ∧
  (∀ s x, stepDue s 5 = true → Completes (.domainRelease 5 x) s fun t =>
    t.rind.clocks = s.rind.clocks ++ [(5, s.now)] ∧
    t.fget .REPAIR_LINKS_hbm_repaired 0 = lanesRepaired x.hbm % 2 ^ Fld.REPAIR_LINKS_hbm_repaired.info.width ∧
    (∀ k, k < 4 → (bits (t.fget .REPAIR_LINKS_hbm_failed 0) k 1 = 1 ↔ ∃ ch n, (k, ch, n) ∈ x.hbm ∧ 2 < n))) ∧
  (∀ s x, s.fget .REPAIR_LINKS_hbm_failed 0 ≠ 0 → exec (.domainRelease 8 x) s = .next s) ∧
  (∀ s x, stepDue s 8 = true → s.fget .REPAIR_LINKS_hbm_failed 0 = 0 →
    exec (.domainRelease 8 x) s = .next (clockOn (loadDefaults s) 8)) ∧
  (∀ s x, stepDue s 10 = true → Completes (.domainRelease 10 x) s fun t =>
    t.rind.clocks = s.rind.clocks ++ [(10, s.now)] ∧
    t.fget .REPAIR_LINKS_d2d_repaired 0 = lanesRepaired x.d2d % 2 ^ Fld.REPAIR_LINKS_d2d_repaired.info.width ∧
    (∀ k, k < 8 → (bits (t.fget .REPAIR_LINKS_d2d_failed 0) k 1 = 1 ↔ ∃ g n, (k, g, n) ∈ x.d2d ∧ 2 < n))) ∧
  (∀ s n pd, pd < 32 → bits (s.fget .REPAIR_LINKS_d2d_failed 0) (pd / 4) 1 = 1 → s.runs pd = false ∧
    (s.fget .PD_STATE_on pd = 0 → n = 10 → (stepRelease s n).fget .PD_STATE_on pd = 0))

/-- Thermal reports, the core rail, and the ends of block resets. With every sensor valid, a report shows the highest
reading as the junction temperature with the lowest sensor that reads it, and sets the stage its thresholds give, the
Strainer's throttle level following. margin_low follows the rail and the pin. A revised target answered becomes the
rail's, and the third unanswered one in a row is a fault; a retry answered ends it. A restored slice, a flushed Skim
bank, a reloaded Strainer block and a reloaded cluster open again. (R68, R119, R137, R164, R332, R333, R335.) -/
def Obligations.ThermalRailAndRestoreRows : Prop :=
  (∀ s l tj i, rindRuns s = true → l.length = 64 → (∀ k, k < 64 → (senseOne s l k).2 = true) → l.max? = some tj → 0 ≤ tj →
    i < 64 → l[i]? = some tj → (∀ k, k < i → l[k]? ≠ some tj) →
    Completes (.thermalReport l) s fun t =>
      t.fget .THERMAL_tj_q2 0 = tj.toNat % 2 ^ Fld.THERMAL_tj_q2.info.width ∧ t.fget .THERMAL_hot_sensor 0 = i ∧
      t.fget .THERMAL_invalid_sensors 0 = 0 ∧ t.fget .THERMAL_stage 0 = stageFor s tj ∧
      (stageFor s tj ≠ s.fget .THERMAL_stage 0 → t.fget .RIND_EVT_throttle_event 0 = 1 ∧
        t.fget .STR_STATUS_throttle_level 0 = [0, 1, 1, 2, 2, 3].getD (stageFor s tj) 0)) ∧
  (∀ s v, (Completes (.railMarginLow true v) s fun t => t.fget .RAIL_margin_low 0 = 1 ∧ t.rind.marginPin = true) ∧
    (v + 30 < s.fget .RAIL_target_mv 0 → Completes (.railMarginLow false v) s fun t => t.fget .RAIL_margin_low 0 = 1 ∧
      t.rind.railLow = true ∧ (s.fbit .RAIL_margin_low 0 = false → t.fget .RIND_EVT_margin_event 0 = 1)) ∧
    (s.fget .RAIL_target_mv 0 ≤ v + 30 → Completes (.railMarginRestore v) s fun t => t.fget .RAIL_margin_low 0 = 0)) ∧
  (∀ s v, rindRuns s = true → (∀ t0, s.rind.avsAt = some t0 → t0 + 1000000 ≤ s.now) → s.fbit .RAIL_avs_fault 0 = false →
    680 ≤ v → v ≤ 800 → v % 5 = 0 →
    (Completes (.avsTargetRevise v true) s fun t => t.fget .RAIL_target_mv 0 = v ∧ t.rind.avsMissed = 0) ∧
    (s.rind.avsMissed = 2 → Completes (.avsTargetRevise v false) s fun t => t.fget .RAIL_avs_fault 0 = 1 ∧
      t.fget .RIND_EVT_avs_event 0 = 1 ∧ t.fget .RAIL_target_mv 0 = s.fget .RAIL_target_mv 0)) ∧
  (∀ s v i, rindRuns s = true → (∀ t0, s.rind.avsAt = some t0 → t0 + 10000000 ≤ s.now) → s.fbit .RAIL_avs_fault 0 = true →
    Completes (.avsRetry true v i) s fun t => t.fget .RAIL_avs_fault 0 = 0 ∧ t.rind.avsMissed = 0 ∧ t.rind.avsAt = some s.now) ∧
  (∀ s n, n < 16 → s.fbit .PD_STATE_on (pdSlice n) = true → s.rind.holds.contains (pdSlice n) = false →
    Completes (.sliceRestoreDone n) s fun t => t.fget .PD_HELD_held (pdSlice n) = 0 ∧ t.runs (pdSlice n) = true) ∧
  (∀ s n, n < 16 → hasBit (s.fget .SKIM_STATUS_bank_held 0) n = true → bankIdleNow s n = true →
    s.rind.switching.contains (pdBank n, false) = false →
    Completes (.skimBankFlushDone n) s fun t =>
      t.fget .SKIM_STATUS_bank_held 0 = (s.fget .SKIM_STATUS_bank_held 0 - 2 ^ n) % 2 ^ Fld.SKIM_STATUS_bank_held.info.width ∧
      wbQueue t n = [] ∧ ∀ k, k.1 / 8192 = n → tget none t.skim.ways k = none) ∧
  (∀ s n, n < 8 → s.fbit .PD_HELD_held (128 + n) = true → s.rind.holds.contains (128 + n) = false →
    Completes (.strainerBlockReloadDone n) s fun t => t.fget .PD_HELD_held (128 + n) = 0 ∧
      ∀ a e, s.strEntry a = some e → t.strEntry a =
        some (if a / 32768 = n then { e with data := e.shadowData, care := e.shadowCare } else e)) ∧
  (∀ s n, s.churn.reloading.contains n = true → s.rind.holds.contains (pdCluster n) = false →
    Completes (.clusterReloadDone n) s fun t => t.fget .PD_HELD_held (pdCluster n) = 0 ∧ t.churn.reloading.contains n = false ∧
      t.churn.faulty = s.churn.faulty.filter (fun x => x.1.cluster ≠ n))

/-- Lane checkers, the frame generator and the TAP. A running checker locks; a loss is counted and shown, and unlocks it;
a bit count at 2^48 - 1 shows saturated. The generator's next frame, due on a port that is up, leaves on the wire with
its sequence number, is counted in tx_ok and gen_sent, and the last of gen_count ends the run. Each TAP instruction is
the one loaded; IDCODE shifts out the identity; every one but IDCODE acts as BYPASS while RST_N is high. (R357, R358,
R360, R362, R363, R364, R368.) -/
def Obligations.LinkTestsAndTheTap : Prop :=
  (∀ s o l, checkerOn s o l = true →
    (Completes (.checkerLock o l) s fun t => t.fget .LANE_TEST_lock (o * 8 + l) = 1 ∧ ChangesOnly [.reg .LANE_TEST] s t) ∧
    (∀ b e, s.fbit .LANE_TEST_lock (o * 8 + l) = true →
      (Completes (.checkerLockLoss o l b e) s fun t => t.fget .LANE_TEST_lock (o * 8 + l) = 0 ∧
        t.fget .LANE_TEST_lock_lost (o * 8 + l) = 1 ∧
        (tget {} t.setup.lanes (o * 8 + l, 0)).loss = ((tget {} s.setup.lanes (o * 8 + l, 0)).loss + 1) % 2 ^ 32) ∧
      ((tget {} s.setup.lanes (o * 8 + l, 0)).bits < 2 ^ 48 - 1 → 2 ^ 48 - 1 ≤ (tget {} s.setup.lanes (o * 8 + l, 0)).bits + b →
        Completes (.checkerSaturate o l b e) s fun t => t.fget .LANE_TEST_saturated (o * 8 + l) = 1 ∧
          (tget {} t.setup.lanes (o * 8 + l, 0)).bits = 2 ^ 48 - 1))) ∧
  (∀ s n, n < 256 → s.runs (pdOctet (n / 8)) = true → portUp s n = true → s.fbit .PORT_TEST_gen_en n = true →
    tget none s.egress.tx (n, 0) = none → genDue s n = true →
    Completes (.genFrameSend n) s fun t =>
      t.cget .txOk n = (s.cget .txOk n + 1) % 2 ^ 48 ∧
      t.fget .PORT_CHK_gen_sent n = (s.fget .PORT_CHK_gen_sent n + 1) % 2 ^ Fld.PORT_CHK_gen_sent.info.width ∧
      (t.port n).test.seq = ((s.port n).test.seq + 1) % 2 ^ 32 ∧
      (s.fget .PORT_TEST_loopback n = 0 → t.out = s.out ++ [.wire n (genFrame s n (s.port n).test.seq) false]) ∧
      (s.fget .PORT_TEST_gen_count n = (s.port n).test.sent + 1 → t.fget .PORT_TEST_gen_en n = 0)) ∧
  (∀ s,
    let load (i : TapInstr) (t : State) : Prop := t = { s with setup := { s.setup with tap := i } }
    Completes .bypass s (fun t => load .bypass t ∧ tapActs t = if s.setup.rstLow then .bypass else .bypass) ∧
    Completes .samplePreload s (fun t => load .sample t ∧ tapActs t = if s.setup.rstLow then .sample else .bypass) ∧
    Completes .extest s (fun t => load .extest t ∧ tapActs t = if s.setup.rstLow then .extest else .bypass) ∧
    Completes .clamp s (fun t => load .clamp t ∧ tapActs t = if s.setup.rstLow then .clamp else .bypass) ∧
    Completes .highz s (fun t => load .highz t ∧ tapActs t = if s.setup.rstLow then .highz else .bypass) ∧
    Completes .extestPulse s (fun t => load .extestPulse t ∧ tapActs t = if s.setup.rstLow then .extestPulse else .bypass) ∧
    Completes .extestTrain s (fun t => load .extestTrain t ∧ tapActs t = if s.setup.rstLow then .extestTrain else .bypass) ∧
    Completes .tapReset s (load .idcode)) ∧
  (∀ s, Completes .idcode s fun t => t.setup = { s.setup with tap := .idcode } ∧ tapActs t = .idcode ∧ t.out = s.out ++ [.value tapId])

/-- The four image commands of the CMD ring and the mailbox. On either path: a chunk of no session completes as not
permitted; a marked one completes at once; one whose bytes fail their digest is counted and refused; any other of the
session waits for its write; chunk 0 under a refusal state is refused, and an acceptable one of another image opens a
session. IMG_BITMAP writes the bitmap and the counters; IMG_ABORT empties the inactive slot, but not while a ticket or
an activation stands; IMG_CONFIRM writes a record with no trial. (R343, R344, R346, R353.) -/
def Obligations.ImageCommandsAnswerOnBothPaths : Prop :=
  (∀ s via, ImgTaken s via 0x30 0x70 →
    let n := inactiveSlot s
    let k := (chunkOf s via).1
    let b := (chunkOf s via).2
    (k ≠ 0 → slotState s n = 0 → Completes (.imgChunk via) s fun t => ImgAnswered s t via 6 10 0) ∧
    (k ≠ 0 → slotState s n ≠ 0 → (marksOf s n).contains k = true →
      Completes (.imgChunk via) s fun t => ImgAnswered s t via 0 0 (marked s)) ∧
    (k ≠ 0 → slotState s n ≠ 0 → (marksOf s n).contains k = false → k < imgChunks (chunkBytes s n 0) →
      (digestIs b (chunkDigest (chunkBytes s n 0) k) = false → Completes (.imgChunk via) s fun t => ImgAnswered s t via 1 1 (marked s) ∧
        tget 0 t.images.counts (0, 0) = (tget 0 s.images.counts (0, 0) + 1) % 2 ^ 32) ∧
      (digestIs b (chunkDigest (chunkBytes s n 0) k) = true → refusalOf s false = 0 → Completes (.imgChunk via) s fun t =>
        t.images.jobs = s.images.jobs ++ [⟨k, b, pathSrc via, false⟩] ∧ t.images.marks = s.images.marks)) ∧
    (k = 0 → refusalOf s false ≠ 0 → Completes (.imgChunk via) s fun t => ImgAnswered s t via 6 10 (marked s) ∧
      t.images.digest = s.images.digest) ∧
    (k = 0 → openCheck s false b = 0 → slotDigest s n ≠ some (imageDigest b) → Completes (.imgChunk via) s fun t =>
      slotDigest t n = some (imageDigest b) ∧ marksOf t n = [] ∧ t.fget .UPD_STATUS_owner 0 = 1 ∧
      t.images.jobs = s.images.jobs ++ [⟨0, b, pathSrc via, false⟩])) ∧
  (∀ s via, ImgTaken s via 0x31 0x71 → Completes (.imgBitmap via) s fun t => ImgAnswered s t via 0 0 0 ∧
    ∀ set index w, via = .cmd set index → workOf s set 0 index = some w → w.lost = false →
      Out.hostWrite (bits w.desc 64 64) (wantedMap s ++ (List.range 8).flatMap (fun i => leBytes 4 (tget 0 s.images.counts (i, 0))))
        ∈ t.out.drop s.out.length) ∧
  (∀ s via, ImgTaken s via 0x32 0x72 →
    (updBusy s = true → Completes (.imgAbort via) s fun t => ImgAnswered s t via 5 5 0 ∧ t.images.digest = s.images.digest) ∧
    (updBusy s = false → Completes (.imgAbort via) s fun t => ImgAnswered s t via 0 0 0 ∧ slotState t (inactiveSlot s) = 0 ∧
      t.fget .UPD_STATUS_owner 0 = 0)) ∧
  (∀ s via, ImgTaken s via 0x33 0x73 → Completes (.imgConfirm via) s fun t =>
    ImgAnswered s t via (imgConfirm s).2 (imgConfirm s).2 0 ∧
    ((imgConfirm s).2 = 0 → t.images.writing =
      some ({ bootNow s with seq := ((bootNow s).seq + 1) % 2 ^ 32, trial := false, trialStarts := 0 }, .confirm)))

/-- Chunk writes, slot verification and the timers of a session. A chunk read back correctly is marked in its place; a
failed one is written once more, counted, and a second failure gives it up. The next waiting chunk then has its turn,
and where a refusal state holds every waiting chunk is refused. A whole slot that authenticates is VERIFIED, and one
that does not is emptied with event 6. A session with no chunk for 600 s has no owner. An automatic confirmation at
its instant writes the record. (R343, R344, R345, R352, R353.) -/
def Obligations.SessionsAndSlotsGoOn : Prop :=
  (∀ s j l, s.images.jobs = j :: l → slotState s (inactiveSlot s) ≠ 0 → jobFits s j = true →
    (marksOf s (inactiveSlot s)).contains j.chunk = false →
    (Completes (.chunkWriteComplete true) s fun t =>
      marksOf t (inactiveSlot s) = (marksOf s (inactiveSlot s)).filter (fun x => x < j.chunk) ++ [j.chunk] ++
        (marksOf s (inactiveSlot s)).filter (fun x => j.chunk < x) ∧
      chunkBytes t (inactiveSlot s) j.chunk = j.data ∧
      (refusalOf s true = 0 → t.images.jobs = l) ∧ (refusalOf s false ≠ 0 → t.images.jobs = [])) ∧
    (j.retried = false → Completes (.chunkWriteComplete false) s fun t =>
      t.images.jobs = { j with retried := true } :: l ∧ t.images.marks = s.images.marks ∧
      tget 0 t.images.counts (1, 0) = (tget 0 s.images.counts (1, 0) + 1) % 2 ^ 32) ∧
    (j.retried = true → Completes (.chunkWriteComplete false) s fun t =>
      (refusalOf s true = 0 → t.images.jobs = l) ∧ (refusalOf s false ≠ 0 → t.images.jobs = []) ∧
      t.images.marks = s.images.marks ∧
      tget 0 t.images.counts (1, 0) = (tget 0 s.images.counts (1, 0) + 1) % 2 ^ 32)) ∧
  (∀ s, slotState s (inactiveSlot s) = 2 → refusalOf s false = 0 → s.fbit .START_STATUS_start_complete 0 = true →
    (slotAuth s (inactiveSlot s) = true → Completes .slotVerifyComplete s fun t => slotState t (inactiveSlot s) = 3) ∧
    (slotAuth s (inactiveSlot s) = false → Completes .slotVerifyComplete s fun t => slotState t (inactiveSlot s) = 0 ∧
      t.fget .UPD_STATUS_last_event 0 = 6 ∧ t.fget .UPD_STATUS_owner 0 = 0)) ∧
  (∀ s, s.images.lastChunk + 600000000000 ≤ s.now → Completes .sessionOwnerTimeout s fun t => t.fget .UPD_STATUS_owner 0 = 0) ∧
  (∀ s t0, s.images.confirmAt = some t0 → t0 ≤ s.now → s.runs pdMgmt = true → (imgConfirm s).2 = 0 →
    Completes .autoConfirm s fun t => t.images.confirmAt = none ∧ t.images.writing =
      some ({ bootNow s with seq := ((bootNow s).seq + 1) % 2 ^ 32, trial := false, trialStarts := 0 }, .confirm))

/-- OWNER_SET, OWNER_ENROLL and MILK_SET. OWNER_SET with an accepted envelope takes owner_lock and the update group from
it and logs its nonce. OWNER_ENROLL programs the hash of the key into the OTP, clears no bit, and is refused once an
owner is enrolled. MILK_SET takes the ports, enables and class of the chain where each enabled direction names a
fabric port, and is refused where a number is no port's. (R339, R346, R348, R349.) -/
def Obligations.OwnersAndTheChainAreSet : Prop :=
  ∀ s m, mbxReady s m = true → mbxReserved m = false →
    (mbxCmd m = 0x76 →
      (envCheck s m 2 = 0 → Completes (.ownerSet m) s fun t =>
        t.fget .UPD_STATUS_owner_lock 0 = bits (leAt (envBody m.data 2) 0 8) 0 1 ∧
        t.fget .UPD_STATUS_update_group 0 = bits (leAt (envBody m.data 2) 0 8) 1 6 ∧
        t.images.nonces = (envNonce m.data :: s.images.nonces).take 256 ∧ t.fget .RIND_STATUS_mbx_busy 0 = 1) ∧
      (envCheck s m 2 ≠ 0 → Completes (.ownerSet m) s fun t => Replied s t m (envCheck s m 2) 0 0 ∧
        t.fget .UPD_STATUS_owner_lock 0 = s.fget .UPD_STATUS_owner_lock 0)) ∧
    (mbxCmd m = 0x77 →
      (ownerEnrolled s = true → Completes (.ownerEnroll m) s fun t => Replied s t m 6 0 0 ∧ t.rind.otp = s.rind.otp) ∧
      (ownerEnrolled s = false → m.dataFailed = false → m.data.length = 97 → Completes (.ownerEnroll m) s fun t =>
        t.rind.otp = s.rind.otp ||| (Config.sha384 m.data).toNat * 2 ^ 4864 ∧ BitsKept s.rind.otp t.rind.otp ∧
        t.fget .RIND_STATUS_mbx_busy 0 = 1)) ∧
    (mbxCmd m = 0x78 →
      (2 ^ 24 ≤ mbxArg0 m ∨ 273 ≤ bits (mbxArg0 m) 0 9 ∨ 273 ≤ bits (mbxArg0 m) 10 9 → Completes (.milkSet m) s fun t => Replied s t m 1 0 0) ∧
      (mbxArg0 m < 2 ^ 24 → bits (mbxArg0 m) 0 9 < 273 → bits (mbxArg0 m) 10 9 < 273 → milkPort s (bits (mbxArg0 m) 9 1) (bits (mbxArg0 m) 0 9) = true →
        milkPort s (bits (mbxArg0 m) 19 1) (bits (mbxArg0 m) 10 9) = true → Completes (.milkSet m) s fun t => Replied s t m 0 0 0 ∧
        t.fget .UPD_MILK_up_port 0 = bits (mbxArg0 m) 0 9 ∧ t.fget .UPD_MILK_up_en 0 = bits (mbxArg0 m) 9 1 ∧
        t.fget .UPD_MILK_down_port 0 = bits (mbxArg0 m) 10 9 ∧ t.fget .UPD_MILK_down_en 0 = bits (mbxArg0 m) 19 1 ∧
        t.fget .UPD_MILK_class 0 = bits (mbxArg0 m) 20 4))

/-- The frames and timers of the Milk Run. A frame on another port than its direction's is counted as foreign and does
nothing else. The last piece of a chunk makes one received chunk. A NEED ends a refusal and a stall; an ACK retires
its chunk; a REFUSE stops sending and is counted. A chunk not acknowledged in 2 s is sent again and counted, and after
five resends the chain is stalled. After a second without a chunk a NEED goes upstream. (R344, R346, R347, R348.) -/
def Obligations.TheMilkRunRunsBothWays : Prop :=
  (∀ s port piece chunk session data, s.runs pdMgmt = true →
    ((s.fbit .UPD_MILK_up_en 0 && s.fget .UPD_MILK_up_port 0 == port) = false →
      Completes (.milkChunk port piece chunk session data) s fun t =>
        tget 0 t.images.counts (5, 0) = (tget 0 s.images.counts (5, 0) + 1) % 2 ^ 32 ∧ ChangesOnly [.images] s t) ∧
    ((s.fbit .UPD_MILK_up_en 0 && s.fget .UPD_MILK_up_port 0 == port) = true → piece < 8 → chunk < 768 → data.length = 8192 →
      (piecesFull (piecePut s chunk piece data) = false → exec (.milkChunk port piece chunk session data) s =
        .next (piecePut s chunk piece data)) ∧
      (piecesFull (piecePut s chunk piece data) = true → Completes (.milkChunk port piece chunk session data) s fun t =>
        tget 0 t.images.counts (2, 0) = (tget 0 s.images.counts (2, 0) + 1) % 2 ^ 32 ∧ t.images.pieces = []))) ∧
  (∀ s port session bitmap chunk reason, s.runs pdMgmt = true → fromDown s port = true →
    (Completes (.milkNeed port session bitmap) s fun t => t.images.refused = false ∧ t.fget .UPD_MILK_chain_stalled 0 = 0) ∧
    (session = milkSession s → s.images.wanted = [] → Completes (.milkAck port chunk session) s fun t =>
      t.images.unacked = s.images.unacked.filter (fun u => u.1 ≠ chunk)) ∧
    (Completes (.milkRefuse port reason session) s fun t => t.images.refused = true ∧ t.images.unacked = [] ∧
      tget 0 t.images.counts (7, 0) = (tget 0 s.images.counts (7, 0) + 1) % 2 ^ 32)) ∧
  (∀ s chunk c t0 n, s.images.unacked.find? (fun u => u.1 == chunk) = some (c, t0, n) → milkDown s = true → t0 + 2000000000 ≤ s.now →
    (n < 5 → Completes (.milkResendTimeout chunk) s fun t =>
      t.images.unacked = s.images.unacked.map (fun u => if u.1 = chunk then (chunk, s.now, n + 1) else u) ∧
      tget 0 t.images.counts (4, 0) = (tget 0 s.images.counts (4, 0) + 1) % 2 ^ 32) ∧
    (5 ≤ n → Completes (.milkResendTimeout chunk) s fun t => t.images.unacked = [] ∧ t.fget .UPD_MILK_chain_stalled 0 = 1)) ∧
  (∀ s, (∀ t0, s.images.needAt = some t0 → t0 + 1000000000 ≤ s.now) → milkUp s = true → slotState s (inactiveSlot s) = 1 →
    Completes .milkNeedTimer s fun t => t.images.needAt = some s.now)

/-- Tickets, boot records, activations and start-complete. A ticket that no row of R350 refuses is pending, its unit armed
by firmware at its instant; one may be cancelled until 100 us before, and is dropped then with event 4 if it may not
activate. A boot record that is done is in force: a confirmation shows event 2, and a CHIP activation's asserts the
level B reset. The restarted management complex runs; octets retrain in turn and the last ends the activation with
event 1. Start-complete clears the failed count and sets the running mode. (R323, R341, R346, R349, R350, R352, R353,
R354, R355.) -/
def Obligations.TicketsAndActivationsGoOn : Prop :=
  (∀ s m, mbxReady s m = true → mbxReserved m = false → mbxCmd m = 0x74 →
    let b := envBody m.data 1
    (envCheck s m 1 ≠ 0 → Completes (.ticketSubmit m) s fun t => Replied s t m (envCheck s m 1) 0 0 ∧ t.images = s.images) ∧
    (envCheck s m 1 = 0 → ticketCheck s b ≠ 0 → Completes (.ticketSubmit m) s fun t => Replied s t m (ticketCheck s b) 0 0 ∧
      t.images = s.images) ∧
    (envCheck s m 1 = 0 → ticketCheck s b = 0 → Completes (.ticketSubmit m) s fun t => ∃ k, t.images.ticket = some k ∧
      k.digest = tkDigest b ∧ k.instant = tkInstant b ∧ k.scope = tkScope b ∧ k.auto = tkAuto b ∧ k.checked = false ∧
      s.fbit .TRIG_CTL_arm k.unit = false ∧ t.fget .TRIG_CTL_arm k.unit = 1 ∧ t.fget .TRIG_CTL_fw_owned k.unit = 1 ∧
      trigNext t k.unit = some (tkInstant b) ∧ t.fget .UPD_STATUS_ticket_pending 0 = 1 ∧ t.fget .RIND_STATUS_mbx_busy 0 = 1)) ∧
  (∀ s m, mbxReady s m = true → mbxReserved m = false → mbxCmd m = 0x75 →
    (∀ k, s.images.ticket = some k → s.devNs + 100000 < k.instant → Completes (.ticketCancel m) s fun t => Replied s t m 0 0 0 ∧
      t.images.ticket = none ∧ t.fget .TRIG_CTL_arm k.unit = 0 ∧ trigNext t k.unit = none) ∧
    (s.images.ticket = none → Completes (.ticketCancel m) s fun t => Replied s t m 10 0 0)) ∧
  (∀ s k, s.images.ticket = some k → k.checked = false → k.instant ≤ s.devNs + 100000 →
    (ticketOk s k = true → Completes .activationCheck s fun t => t = { s with images := { s.images with ticket := some { k with checked := true } } }) ∧
    (ticketOk s k = false → Completes .activationCheck s fun t => t.images.ticket = none ∧ t.fget .UPD_STATUS_last_event 0 = 4)) ∧
  (∀ s r why, s.images.writing = some (r, why) →
    let kept := fun (t : State) => (if bootCopy s = 0 then t.images.boot0 else t.images.boot1) = some r ∧ t.images.writing = none
    (why = .start ∨ why = .recovery → s.images.activation = none → Completes .bootRecordWriteDone s kept) ∧
    (why = .confirm → s.images.activation = none → Completes .bootRecordWriteDone s fun t => kept t ∧
      t.fget .UPD_STATUS_last_event 0 = 2 ∧ BitsKept s.rind.otp t.rind.otp) ∧
    (∀ a, why = .activate → s.images.activation = some a → a.scope = 2 →
      Completes .bootRecordWriteDone s fun t => kept t ∧ Asserted s t .updateAct)) ∧
  (∀ s, s.fbit .PD_STATE_on pdMgmt = true → s.fbit .PD_HELD_held pdMgmt = true → s.rind.holds.contains pdMgmt = false →
    s.images.activation = none → Completes .mladundRestartDone s fun t => t.runs pdMgmt = true) ∧
  (∀ s a n t0, s.images.activation = some a → a.phase = .octet n t0 → (octetUp s n = true ∨ t0 + 1000000000 ≤ s.now) →
    (n < 31 → Completes .octetRetrainNext s fun t => t.images.activation = some { a with phase := .octet (n + 1) s.now }) ∧
    (n = 31 → Completes .octetRetrainNext s fun t => t.images.activation = none ∧ t.fget .UPD_STATUS_last_event 0 = 1 ∧
      t.images.confirmAt = if a.auto = 0 then none else some (s.now + a.auto * 1000000000))) ∧
  (∀ s, startReady s = true → Completes .startComplete s fun t => t.fget .START_STATUS_start_complete 0 = 1 ∧
    t.fget .GLOBAL_STATUS_start_complete 0 = 1 ∧ t.fget .START_STATUS_failed_count 0 = 0 ∧ t.fget .RIND_STATUS_mode 0 = 1 ∧
    t.rind.windowFrom = none)

/-- A step runs the command at the front of the queue. With a command at the front of the queue, a step is exec of that
command on the state with the queue's rest, and the next state's queue is that rest. With no command waiting (the
model's choice, log entry 2), one nanosecond goes by: nothing leaves the device, the queue stays empty, and device
time advances at its rate if the time unit runs and not at all if it does not. (R1, R372.) -/
def Obligations.StepRunsTheFrontCommand : Prop :=
  (∀ s c l, s.pending = c :: l → step s = exec c { s with pending := l }) ∧
  (∀ s c l t, s.pending = c :: l → step s = .next t → t.pending = l ∧ t.now = s.now) ∧
  (∀ s, s.pending = [] → ∃ t, step s = .next t ∧ t.pending = [] ∧ t.now = s.now + 1 ∧ t.out = s.out ∧
    t.time.dt = (if s.runs pdTime = true then s.time.dt + (2 ^ 40 + rateNow s).toNat else s.time.dt))

/-- The state after reset. At reset the power-on source is asserted and its cause bit shows it, the Rind is starting up,
no domain is on, no command waits and nothing has left the device. SETUP_LOCK is open, every register field but those
two reads its reset value, every counter reads 0, no frame, task, record, Strainer entry, Whey record or ring entry is
there, and the banks are in canonical form. What the flash, the OTP and the fuses hold then is the model's choice (log
entry 7). (R12, R15, R319, R373, R374, R383.) -/
def Obligations.ResetState : Prop :=
  State.reset.banksOk = true ∧ State.reset.pending = [] ∧ State.reset.out = [] ∧ State.reset.rind.sources = [.powerOn] ∧
  State.reset.fget .RESET_CAUSE_por 0 = 1 ∧ State.reset.fget .RIND_STATUS_mode 0 = 3 ∧
  State.reset.fget .SETUP_LOCK_lock 0 = 0 ∧ State.reset.fget .GLOBAL_STATUS_setup_locked 0 = 0 ∧
  (∀ pd, State.reset.runs pd = false) ∧
  (∀ f i, (f, i) ≠ (.RESET_CAUSE_por, 0) → (f, i) ≠ (.RIND_STATUS_mode, 0) → State.reset.fget f i = fldReset f i) ∧
  (∀ c i, State.reset.cget c i = 0) ∧ (∀ i, State.reset.frame? i = none) ∧ (∀ i, State.reset.task? i = none) ∧
  (∀ n, State.reset.record n = none) ∧ (∀ a, State.reset.strEntry a = none) ∧ State.reset.whey = [] ∧ State.reset.host.work = [] ∧
  (∀ q, portUp State.reset q = false) ∧ (∀ q c, (State.reset.queue q c).entries = [])

/-- Every step keeps the register and counter banks in canonical form. Whatever the step, if before it the register bank
lists places in rising order, none at its reset value and none wider than its field, and the counter banks list places
in rising order, none at 0 and none past 48 bits, then the same holds after it. So equal register and counter contents
are equal data, and no field or counter ever holds more than its width. (R8, R9, R305, R306.) -/
def Obligations.BanksStayCanonical : Prop :=
  ∀ s t, s.banksOk = true → step s = .next t → t.banksOk = true

/-- Every command completes in every state, and what has left the device, the fuses and the OTP bits are never taken back.
Whatever the command and the state, exec answers a next state, in which what had left the device before has left it
still, in the same order; the fuses stand; no OTP bit that was set is cleared; free values are drawn in order; and
neither the queue nor elapsed time changes. (R319, R336, R340.) -/
def Obligations.OutputsGrowFusesAndOtpStand : Prop :=
  ∀ c s, ∃ t, exec c s = .next t ∧
    s.out <+: t.out ∧ t.rind.fuses = s.rind.fuses ∧ BitsKept s.rind.otp t.rind.otp ∧ s.draws ≤ t.draws ∧
      t.pending = s.pending ∧ t.now = s.now

/-- SETUP_LOCK is cleared by levels A and B only, and the identity registers never change. No command outside the twelve
that can assert level A or B clears SETUP_LOCK once it is set: no write does, and neither do the level C resets (a
host reset, a function-level reset of PF0) and the level D resets and their holds, which (the reload of the telemetry
settings at that domain's switch-on apart) also leave GLOBAL_STATUS and LOCK_LOG as they are. A source of level A or B
that asserts returns all three to their reset values. DEV_ID, DEV_UID and DEV_PEN, once at their reset values, are
never anything else. (R12, R374.) -/
def Obligations.IdentityAndSetupLockStand : Prop :=
  (∀ c s t, s.fget .SETUP_LOCK_lock 0 = 1 → exec c s = .next t →
    (∀ m, c ≠ .resetChipAssert ∧ c ≠ .recoveryComplete m ∧ c ≠ .thermalTrip ∧ c ≠ .startWindowExpire ∧ c ≠ .watchdogStage2 ∧ c ≠ .bootRecordWriteDone) →
    (∀ l, c ≠ .powerRailFall l) → (∀ w, c ≠ .rstNAssert w ∧ c ≠ .brownout w ∧ c ≠ .criticalStateError w) →
    (∀ x y, c ≠ .domainRelease x y ∧ c ≠ .releaseWindowExpire x) →
    t.fget .SETUP_LOCK_lock 0 = 1) ∧
  (∀ s r f i, f.reg ∈ [Reg.GLOBAL_STATUS, .SETUP_LOCK, .LOCK_LOG] → (assertSource s r).fget f i = fldReset f i) ∧
  (∀ s c, c ∈ [Instr.brownout 0, .thermalTrip, .powerRailFall [1], .criticalStateError 1, .criticalStateError 7, .rstNAssert 1000] →
    Completes c s fun t =>
      ∀ f i, f.reg ∈ [Reg.GLOBAL_STATUS, .SETUP_LOCK, .LOCK_LOG] → t.fget f i = fldReset f i) ∧
  (∀ s c t, ((∃ k, c = .hostReset k) ∨ (∃ n, c = .functionLevelReset n) ∨ (∃ m, c = .resetDomain m) ∨ (∃ m, c = .domainHold m) ∨
      c = .watchdogStage1 ∨ (∃ d, d ≠ 159 ∧ c = .domainSwitchComplete d)) → exec c s = .next t →
    ∀ f i, f.reg ∈ [Reg.GLOBAL_STATUS, .SETUP_LOCK, .LOCK_LOG] → t.fget f i = s.fget f i) ∧
  (∀ c s t, exec c s = .next t → ∀ f i, f.reg ∈ [Reg.DEV_ID, .DEV_UID, .DEV_PEN] →
    s.fget f i = fldReset f i → t.fget f i = fldReset f i)

/-- Counters are 48 bits, wrap to 0 and chain. An event adds to its fixed counter modulo 2^48, which no carry leaves, and
changes no other fixed counter. A programmable counter of a group takes its events modulo 2^48. When one of 0 to 6
with chain = 1 wraps, the next one rises by 1 on top, which is again an event of that next counter, so that carries
cascade; otherwise no other programmable counter changes, and a wrap of counter 7 changes none, whatever its chain
bit. (R306.) -/
def Obligations.CountersWrapAndChain : Prop :=
  (∀ (s : State) c i k tenant, (s.count c i k tenant).cget c i = (s.cget c i + k) % 2 ^ 48) ∧
  (∀ (s : State) c i k tenant d j, (d, j) ≠ (c, i) → (s.count c i k tenant).cget d j = s.cget d j) ∧
  (∀ s g n k, n < 8 → k < 2 ^ 48 → (∀ x, tget 0 s.prog (g, x) < 2 ^ 48) →
    let t := progAdd 8 s g n k
    let wraps := decide (2 ^ 48 ≤ tget 0 s.prog (g, n) + k) && s.fbit .TALLY_PROG_chain (g * 8 + n)
    tget 0 t.prog (g, n) = (tget 0 s.prog (g, n) + k) % 2 ^ 48 ∧
    (∀ x, x < 8 → n < x →
      tget 0 t.prog (g, x) = if wraps = true ∧ n < 7 then tget 0 (progAdd 8 s g (n + 1) 1).prog (g, x) else tget 0 s.prog (g, x)) ∧
    (∀ h x, (h ≠ g ∨ x < n ∨ 8 ≤ x) → tget 0 t.prog (h, x) = tget 0 s.prog (h, x)) ∧
    t.ctr = s.ctr)

/-- What the commands of the data path leave unchanged. Each command of the lane octets, the slices, the Skim, the
Strainer, the Churn cluster, the buffers and the egress queues changes no block state, no register and no counter but
those that its row of mayChange lists. Each row's list is the model's summary of what its rules name. (R18, R20, R38,
R204, R209.) -/
def Obligations.FrameOfTheDataPath : Prop :=
  ∀ c s t, c.ctorIdx < Instr.scrubPass.ctorIdx → exec c s = .next t → ChangesOnly (mayChange c) s t

/-- What the commands of the flow state, the host interface, device time, the Whey, the Rind and the tests leave
unchanged. Each command from SCRUB_PASS on but REGISTER_WRITE (the walkers, the flow and host commands, the mailbox,
the images, the fabric streams, device time, the Whey and Tally, the Rind, the link tests and the TAP) changes no
block state, no register and no counter but those that its row of mayChange lists. (R8, R84, R265, R274, R309, R319.) -/
def Obligations.FrameOfFlowsHostAndTime : Prop :=
  ∀ c s t, Instr.scrubPass.ctorIdx ≤ c.ctorIdx → (∀ req bar off size v, c ≠ .registerWrite req bar off size v) →
    exec c s = .next t → ChangesOnly (mayChange c) s t

/-- A register write touches one instance of its register. A command that writes one instance of a register changes no
other instance of that register. A REGISTER_WRITE changes no block state of the staging FIFOs, the recirculation ports
or the Rind, and no write changes an identity register. A write of 4 or 8 bytes at an offset of BAR0 that no register
has changes nothing. (R8, R370, R371, R372, R373.) -/
def Obligations.RegisterWritesTouchOneInstance : Prop :=
  (∀ c s t r i, writeTarget c = some (r, i) → exec c s = .next t →
    ∀ f k, f.reg = r → k / f.info.reps ≠ i → t.fget f k = s.fget f k) ∧
  (∀ req bar off size v s t, exec (.registerWrite req bar off size v) s = .next t →
    ChangesOnly (mayChange (.registerWrite req bar off size v)) s t ∧ t.staging = s.staging ∧ t.recirc = s.recirc ∧
      t.rind = s.rind) ∧
  (∀ req off size v s, (size = 4 ∨ size = 8) → off % size = 0 → off < 0xD0000 → regAt 0 (off - off % 8) = none →
    exec (.registerWrite req 0 off size v) s = .next s)
end

