-- ==== Sys2Proof/Laws/Tab.lean ====
section
/-! SUPPORT. What the operations on sparse tables do: reads after writes, and the canonical form. -/

namespace Sys2Proof.Machine

theorem klt_trans {a b c : Key} (h : klt a b = true) (k : klt b c = true) : klt a c = true := by
  simp only [klt, Bool.or_eq_true, Bool.and_eq_true, decide_eq_true_eq, beq_iff_eq] at *
  omega

theorem klt_of_ne {a b : Key} (h : a ≠ b) (k : klt a b ≠ true) : klt b a = true := by
  obtain ⟨a1, a2⟩ := a
  obtain ⟨b1, b2⟩ := b
  simp only [klt, Bool.or_eq_true, Bool.and_eq_true, decide_eq_true_eq, beq_iff_eq, ne_eq, Prod.mk.injEq] at *
  omega

/-- Rising keys, pair by pair. -/
theorem trising_iff {α : Type} (t : Tab α) : trising t = true ↔ t.Pairwise (fun a b => klt a.1 b.1 = true) := by
  match t with
  | [] => simp [trising]
  | [a] => simp [trising]
  | a :: b :: t =>
    have ih := trising_iff (b :: t)
    rw [trising, Bool.and_eq_true, ih, List.pairwise_cons (a := a)]
    constructor
    · rintro ⟨h, k⟩
      refine ⟨?_, k⟩
      intro x hx
      rcases List.mem_cons.1 hx with rfl | hx
      · exact h
      · exact klt_trans h ((List.pairwise_cons.1 k).1 x hx)
    · rintro ⟨h, k⟩
      exact ⟨h b List.mem_cons_self, k⟩

theorem trising_filter {α : Type} {t : Tab α} (p : Key × α → Bool) (h : trising t = true) : trising (t.filter p) = true := by
  rw [trising_iff] at *
  exact h.filter p

theorem mem_tput {α : Type} {t : Tab α} {k : Key} {v : α} {e : Key × α} (h : e ∈ tput t k v) : e = (k, v) ∨ e ∈ t := by
  induction t with
  | nil => exact Or.inl (List.mem_singleton.1 h)
  | cons x t ih =>
    unfold tput at h
    split at h
    · rcases List.mem_cons.1 h with h | h
      · exact Or.inl h
      · exact Or.inr (List.mem_cons_of_mem _ h)
    · split at h
      · exact List.mem_cons.1 h
      · rcases List.mem_cons.1 h with h | h
        · exact Or.inr (h ▸ List.mem_cons_self)
        · rcases ih h with h | h
          · exact Or.inl h
          · exact Or.inr (List.mem_cons_of_mem _ h)

theorem trising_tput {α : Type} {t : Tab α} (k : Key) (v : α) (h : trising t = true) : trising (tput t k v) = true := by
  rw [trising_iff] at *
  induction t with
  | nil => exact List.pairwise_singleton _ _
  | cons x t ih =>
    obtain ⟨hx, ht⟩ := List.pairwise_cons.1 h
    unfold tput
    split
    · next e =>
      refine List.pairwise_cons.2 ⟨?_, ht⟩
      intro y hy
      rw [← e]
      exact hx y hy
    · next e =>
      split
      · next l =>
        refine List.pairwise_cons.2 ⟨?_, h⟩
        intro y hy
        rcases List.mem_cons.1 hy with rfl | hy
        · exact l
        · exact klt_trans l (hx y hy)
      · next l =>
        refine List.pairwise_cons.2 ⟨?_, ih ht⟩
        intro y hy
        rcases mem_tput hy with rfl | hy
        · exact klt_of_ne (fun q => e q.symm) l
        · exact hx y hy

theorem trising_tset {α : Type} [DecidableEq α] {t : Tab α} (d : α) (k : Key) (v : α) (h : trising t = true) :
    trising (tset d t k v) = true := by
  unfold tset
  split
  · exact trising_filter _ h
  · exact trising_tput k v h

theorem mem_tset {α : Type} [DecidableEq α] {t : Tab α} {d v : α} {k : Key} {e : Key × α} (h : e ∈ tset d t k v) :
    (e = (k, v) ∧ v ≠ d) ∨ e ∈ t := by
  unfold tset at h
  split at h
  · exact Or.inr (List.mem_of_mem_filter h)
  · next n =>
    rcases mem_tput h with h | h
    · exact Or.inl ⟨h, n⟩
    · exact Or.inr h

/-- A read after a write to the same key gives the value written. -/
theorem tget_tset_same {α : Type} [DecidableEq α] (d : α) (t : Tab α) (k : Key) (v : α) : tget d (tset d t k v) k = v := by
  unfold tset
  split
  · next e =>
    rw [e]
    induction t with
    | nil => rfl
    | cons x t ih =>
      unfold tdel at *
      rw [List.filter_cons]
      split
      · next n =>
        rw [tget]
        split
        · next q => simp [q] at n
        · exact ih
      · exact ih
  · induction t with
    | nil => simp [tput, tget]
    | cons x t ih =>
      unfold tput
      split
      · simp [tget]
      · split
        · simp [tget]
        · next n _ =>
          rw [tget, if_neg n]
          exact ih

/-- A write leaves every other key alone. -/
theorem tget_tset_other {α : Type} [DecidableEq α] (c d : α) (t : Tab α) (k j : Key) (v : α) (h : j ≠ k) :
    tget c (tset d t k v) j = tget c t j := by
  unfold tset
  split
  · induction t with
    | nil => rfl
    | cons x t ih =>
      unfold tdel at *
      rw [List.filter_cons]
      split
      · rw [tget, tget, ih]
      · next n =>
        have e : x.1 = k := by simpa using n
        rw [ih, tget, if_neg (fun q => h (q.symm.trans e))]
  · induction t with
    | nil => simp [tput, tget, Ne.symm h]
    | cons x t ih =>
      unfold tput
      split
      · next e => rw [tget, tget, if_neg (Ne.symm h), if_neg (fun q => h (q.symm.trans e))]
      · split
        · rw [tget, if_neg (Ne.symm h)]
        · rw [tget, tget, ih]

/-- Dropping entries of other keys leaves a key alone. -/
theorem tget_filter_other {α : Type} (c : α) (t : Tab α) (j : Key) {p : Key × α → Bool} (h : ∀ v, p (j, v) = true) :
    tget c (t.filter p) j = tget c t j := by
  induction t with
  | nil => rfl
  | cons x t ih =>
    rw [List.filter_cons]
    split
    · rw [tget, tget, ih]
    · next n =>
      rw [ih, tget, if_neg]
      intro e
      apply n
      rw [← h x.2, ← e]

theorem ctrOk_iff (t : Tab Nat) : ctrOk t = true ↔ trising t = true ∧ ∀ e ∈ t, e.2 ≠ 0 ∧ e.2 < 2 ^ 48 := by
  simp only [ctrOk, Tab.wf, Bool.and_eq_true, List.all_eq_true, decide_eq_true_eq]
  constructor
  · rintro ⟨⟨a, b⟩, c⟩
    exact ⟨a, fun e h => ⟨b e h, c e h⟩⟩
  · rintro ⟨a, b⟩
    exact ⟨⟨a, fun e h => (b e h).1⟩, fun e h => (b e h).2⟩

theorem regOk_iff (t : Tab Nat) :
    regOk t = true ↔ trising t = true ∧ ∀ e ∈ t, e.2 ≠ fldDefault e.1 ∧ e.2 < 2 ^ (Fld.ofNat e.1.1).info.width := by
  simp only [regOk, Tab.wf, Bool.and_eq_true, List.all_eq_true, decide_eq_true_eq]
  constructor
  · rintro ⟨⟨a, b⟩, c⟩
    exact ⟨a, fun e h => ⟨b e h, c e h⟩⟩
  · rintro ⟨a, b⟩
    exact ⟨⟨a, fun e h => (b e h).1⟩, fun e h => (b e h).2⟩

theorem ctrOk_nil : ctrOk [] = true := rfl

theorem ctrOk_filter {t : Tab Nat} (p : Key × Nat → Bool) (h : ctrOk t = true) : ctrOk (t.filter p) = true := by
  rw [ctrOk_iff] at *
  exact ⟨trising_filter p h.1, fun e he => h.2 e (List.mem_of_mem_filter he)⟩

theorem regOk_filter {t : Tab Nat} (p : Key × Nat → Bool) (h : regOk t = true) : regOk (t.filter p) = true := by
  rw [regOk_iff] at *
  exact ⟨trising_filter p h.1, fun e he => h.2 e (List.mem_of_mem_filter he)⟩

theorem ctrOk_tset {t : Tab Nat} (k : Key) (v : Nat) (hv : v < 2 ^ 48) (h : ctrOk t = true) : ctrOk (tset 0 t k v) = true := by
  rw [ctrOk_iff] at *
  refine ⟨trising_tset 0 k v h.1, fun e he => ?_⟩
  rcases mem_tset he with ⟨rfl, n⟩ | he
  · exact ⟨n, hv⟩
  · exact h.2 e he

theorem regOk_tset {t : Tab Nat} (f : Fld) (i v : Nat) (h : regOk t = true) :
    regOk (tset (fldReset f i) t (f.ctorIdx, i) (v % 2 ^ f.info.width)) = true := by
  rw [regOk_iff] at *
  refine ⟨trising_tset _ _ _ h.1, fun e he => ?_⟩
  rcases mem_tset he with ⟨rfl, n⟩ | he
  · dsimp only [fldDefault]
    rw [Fld.ofNat_ctorIdx]
    exact ⟨n, Nat.mod_lt _ (Nat.two_pow_pos _)⟩
  · exact h.2 e he

end Sys2Proof.Machine
end

