-- ==== Sys2Proof/Laws/Kept.lean ====
section
/-! SUPPORT. What no command takes back and which parts of the state a function can change, as a preorder of states, and how it
passes through updates, choices and loops. -/

namespace Sys2Proof.Machine

/-- The number of a part: its bit in a set of parts. -/
def Part.idx (p : Part) : Nat :=
  match p with
  | .draws => 0
  | .prog => 1
  | .out => 2
  | .frames => 3
  | .ports => 4
  | .staging => 5
  | .recirc => 6
  | .punts => 7
  | .buffers => 8
  | .egress => 9
  | .fabric => 10
  | .cellar => 11
  | .skim => 12
  | .strainer => 13
  | .churn => 14
  | .time => 15
  | .host => 16
  | .whey => 17
  | .telem => 18
  | .rind => 19
  | .images => 20
  | .setup => 21
  | .evtLevel => 22
  | .reg r => 23 + r.ctorIdx
  | .ctr c => 156 + c.ctorIdx

/-- One set of parts lies within another. -/
def Within (a b : Nat) : Prop := Nat.lor a b = b

/-- The set of one part. -/
def Part.bit (p : Part) : Nat := 2 ^ (p.idx / 2) * 2 ^ (p.idx - p.idx / 2)

theorem Part.bit_eq (p : Part) : p.bit = 2 ^ p.idx := by
  rw [Part.bit, ← Nat.pow_add]
  congr 1
  omega

/-- The set of every register. -/
def regParts : Nat := (2 ^ 133 - 1) * 2 ^ 23

/-- The set of every counter. -/
def ctrParts : Nat := (2 ^ 241 - 1) * 2 ^ 156

theorem Within.trans {a b c : Nat} (h : Nat.beq (Nat.lor a b) b = true) (k : Within b c) : Within a c := by
  have h : a ||| b = b := Nat.eq_of_beq_eq_true h
  have k : b ||| c = c := k
  show a ||| c = c
  rw [← k, ← Nat.or_assoc, h]

theorem Within.testBit {a b i : Nat} (h : Within a b) (k : a.testBit i = true) : b.testBit i = true := by
  have h : a ||| b = b := h
  rw [← h, Nat.testBit_or, k, Bool.true_or]

theorem Part.bit_testBit (p : Part) : p.bit.testBit p.idx = true := by
  rw [Part.bit_eq]
  simp

/-- From one state to another the queue, elapsed time and the fuses stand; draws and what has left the device only grow; no OTP
bit is cleared; banks in canonical form stay so; and no part outside the set `fr` changes. -/
structure Kept (fr : Nat) (s t : State) : Prop where
  pending : t.pending = s.pending
  now : t.now = s.now
  draws : s.draws ≤ t.draws
  out : s.out <+: t.out
  otp : BitsKept s.rind.otp t.rind.otp
  fuses : t.rind.fuses = s.rind.fuses
  banks : s.banksOk = true → t.banksOk = true
  same : ∀ p : Part, fr.testBit p.idx = false → p.same s t

/-- The same of whatever next state an outcome has. -/
def KeptO (fr : Nat) (s : State) (o : Host.Outcome State Fault Refusal) : Prop := ∀ t, o = .next t → Kept fr s t

theorem Part.same_refl (p : Part) (s : State) : p.same s s := by
  cases p <;> simp [Part.same]

theorem Part.same_trans {p : Part} {a b c : State} (h : p.same a b) (k : p.same b c) : p.same a c := by
  cases p <;> simp only [Part.same] at *
  case reg r => exact fun f i e => (k f i e).trans (h f i e)
  case ctr x => exact fun i => (k i).trans (h i)
  case frames => exact ⟨k.1.trans h.1, k.2.1.trans h.2.1, k.2.2.trans h.2.2⟩
  case punts => exact ⟨k.1.trans h.1, k.2.trans h.2⟩
  all_goals exact k.trans h

theorem Kept.refl (fr : Nat) (s : State) : Kept fr s s :=
  ⟨rfl, rfl, Nat.le_refl _, List.prefix_refl _, fun _ h => h, rfl, id, fun p _ => p.same_refl s⟩

theorem Kept.trans {fr : Nat} {a b c : State} (h : Kept fr a b) (k : Kept fr b c) : Kept fr a c :=
  ⟨k.pending.trans h.pending, k.now.trans h.now, Nat.le_trans h.draws k.draws, h.out.trans k.out,
    fun i e => k.otp i (h.otp i e), k.fuses.trans h.fuses, fun e => k.banks (h.banks e),
    fun p e => Part.same_trans (h.same p e) (k.same p e)⟩

/-- A component stands, or its part is in the set. -/
def Stands {α : Type} (fr i : Nat) (a b : α) : Prop := a = b ∨ Within (2 ^ i) fr

theorem Stands.eq {α : Type} {fr i : Nat} {a b : α} (h : Stands fr i a b) (k : fr.testBit i = false) : a = b := by
  rcases h with h | h
  · exact h
  · have := Within.testBit (i := i) h (by simp)
    rw [this] at k
    cases k

theorem Stands.same {α : Type} {fr i : Nat} {a : α} : Stands fr i a a := .inl rfl

theorem Stands.hit {α : Type} {fr i : Nat} {a b : α} (h : Within (2 ^ i) fr) : Stands fr i a b := .inr h

/-- A state is its fields. -/
theorem Kept.eta {fr : Nat} {z0 t : State} (h : Kept fr z0 t) :
    Kept fr z0 (State.mk t.pending t.now t.draws t.reg t.ctr t.prog t.out t.frames t.nextFrame t.nextPlace t.ports t.staging
      t.recirc t.punts t.puntBuckets t.buffers t.egress t.fabric t.cellar t.skim t.strainer t.churn t.time t.host t.whey t.telem
      t.rind t.images t.setup t.evtLevel) := h

/-- An update of any field but these. -/
theorem Kept.build {fr : Nat} {z0 t : State} {frames nextFrame nextPlace ports staging recirc punts puntBuckets buffers egress fabric cellar skim strainer churn time host whey telem images setup evtLevel} {rind : Rind}
    (h : Kept fr z0 t) (ho : rind.otp = t.rind.otp) (hf : rind.fuses = t.rind.fuses)
    (h_frames : Stands fr 3 frames t.frames) (h_nextFrame : Stands fr 3 nextFrame t.nextFrame)
    (h_nextPlace : Stands fr 3 nextPlace t.nextPlace) (h_ports : Stands fr 4 ports t.ports)
    (h_staging : Stands fr 5 staging t.staging) (h_recirc : Stands fr 6 recirc t.recirc)
    (h_punts : Stands fr 7 punts t.punts) (h_puntBuckets : Stands fr 7 puntBuckets t.puntBuckets)
    (h_buffers : Stands fr 8 buffers t.buffers) (h_egress : Stands fr 9 egress t.egress)
    (h_fabric : Stands fr 10 fabric t.fabric) (h_cellar : Stands fr 11 cellar t.cellar)
    (h_skim : Stands fr 12 skim t.skim) (h_strainer : Stands fr 13 strainer t.strainer)
    (h_churn : Stands fr 14 churn t.churn) (h_time : Stands fr 15 time t.time) (h_host : Stands fr 16 host t.host)
    (h_whey : Stands fr 17 whey t.whey) (h_telem : Stands fr 18 telem t.telem) (h_rind : Stands fr 19 rind t.rind)
    (h_images : Stands fr 20 images t.images) (h_setup : Stands fr 21 setup t.setup)
    (h_evtLevel : Stands fr 22 evtLevel t.evtLevel) :
    Kept fr z0 (State.mk t.pending t.now t.draws t.reg t.ctr t.prog t.out frames nextFrame nextPlace ports staging recirc punts
      puntBuckets buffers egress fabric cellar skim strainer churn time host whey telem rind images setup evtLevel) := by
  refine ⟨h.pending, h.now, h.draws, h.out, fun i e => by rw [ho]; exact h.otp i e, hf.trans h.fuses, h.banks, fun p e => ?_⟩
  have k := h.same p e
  cases p
  case draws => exact k
  case prog => exact k
  case out => exact k
  case frames => exact ⟨(h_frames.eq e).trans k.1, (h_nextFrame.eq e).trans k.2.1, (h_nextPlace.eq e).trans k.2.2⟩
  case ports => exact (h_ports.eq e).trans k
  case staging => exact (h_staging.eq e).trans k
  case recirc => exact (h_recirc.eq e).trans k
  case punts => exact ⟨(h_punts.eq e).trans k.1, (h_puntBuckets.eq e).trans k.2⟩
  case buffers => exact (h_buffers.eq e).trans k
  case egress => exact (h_egress.eq e).trans k
  case fabric => exact (h_fabric.eq e).trans k
  case cellar => exact (h_cellar.eq e).trans k
  case skim => exact (h_skim.eq e).trans k
  case strainer => exact (h_strainer.eq e).trans k
  case churn => exact (h_churn.eq e).trans k
  case time => exact (h_time.eq e).trans k
  case host => exact (h_host.eq e).trans k
  case whey => exact (h_whey.eq e).trans k
  case telem => exact (h_telem.eq e).trans k
  case rind => exact (h_rind.eq e).trans k
  case images => exact (h_images.eq e).trans k
  case setup => exact (h_setup.eq e).trans k
  case evtLevel => exact (h_evtLevel.eq e).trans k
  case reg r => exact k
  case ctr c => exact k

/-- An update of the banks that keeps their form. -/
theorem Kept.bankStep {fr : Nat} {z0 t : State} {reg ctr prog : Tab Nat} (h : Kept fr z0 t) (hr : regOk t.reg = true → regOk reg = true)
    (hc : ctrOk t.ctr = true → ctrOk ctr = true) (hp : ctrOk t.prog = true → ctrOk prog = true)
    (kr : ∀ f i, fr.testBit (Part.reg f.reg).idx = false → tget (fldReset f i) reg (f.ctorIdx, i) = t.fget f i)
    (kc : ∀ c i, fr.testBit (Part.ctr c).idx = false → tget 0 ctr (c.ctorIdx, i) = t.cget c i)
    (kp : Stands fr 1 prog t.prog) :
    Kept fr z0 { t with reg := reg, ctr := ctr, prog := prog } := by
  refine ⟨h.pending, h.now, h.draws, h.out, h.otp, h.fuses, fun e => ?_, fun p e => ?_⟩
  · have k := h.banks e
    simp only [State.banksOk, Bool.and_eq_true] at *
    exact ⟨⟨hr k.1.1, hc k.1.2⟩, hp k.2⟩
  · have k := h.same p e
    cases p
    case reg r => exact fun f i x => (kr f i (by rw [x]; exact e)).trans (k f i x)
    case ctr c => exact fun i => (kc c i e).trans (k i)
    case prog => exact (kp.eq e).trans k
    all_goals exact k

theorem Kept.draw {fr : Nat} {z0 t : State} (h : Kept fr z0 t) (hm : Within (Part.bit .draws) fr) : Kept fr z0 t.draw.2 := by
  refine ⟨h.pending, h.now, Nat.le_succ_of_le h.draws, h.out, h.otp, h.fuses, h.banks, fun p e => ?_⟩
  have k := h.same p e
  cases p
  case draws => rw [hm.testBit (Part.bit_testBit _)] at e; cases e
  all_goals exact k

theorem Kept.emit {fr : Nat} {z0 t : State} (o : Out) (h : Kept fr z0 t) (hm : Within (Part.bit .out) fr) : Kept fr z0 (t.emit o) := by
  refine ⟨h.pending, h.now, h.draws, h.out.trans (List.prefix_append _ _), h.otp, h.fuses, h.banks, fun p e => ?_⟩
  have k := h.same p e
  cases p
  case out => rw [hm.testBit (Part.bit_testBit _)] at e; cases e
  all_goals exact k

theorem fld_ne_of_bit {fr : Nat} {f g : Fld} (hm : Within (Part.bit (.reg f.reg)) fr) (e : fr.testBit (Part.reg g.reg).idx = false) :
    g.ctorIdx ≠ f.ctorIdx := by
  intro x
  have y : g = f := by rw [← Fld.ofNat_ctorIdx g, ← Fld.ofNat_ctorIdx f, x]
  rw [y, hm.testBit (Part.bit_testBit _)] at e
  cases e

theorem ctr_ne_of_bit {fr : Nat} {f g : Ctr} (hm : Within (Part.bit (.ctr f)) fr) (e : fr.testBit (Part.ctr g).idx = false) :
    g.ctorIdx ≠ f.ctorIdx := by
  intro x
  have y : g = f := by rw [← Ctr.ofNat_ctorIdx g, ← Ctr.ofNat_ctorIdx f, x]
  rw [y, hm.testBit (Part.bit_testBit _)] at e
  cases e

/-- A register field written. -/
theorem Kept.field {fr : Nat} {z0 t : State} (f : Fld) (i v : Nat) (h : Kept fr z0 t) (hm : Within (Part.bit (.reg f.reg)) fr) :
    Kept fr z0 (t.fset f i v) :=
  Kept.bankStep h (regOk_tset f i v) id id
    (fun _ _ e => tget_tset_other _ _ _ _ _ _ (fun x => fld_ne_of_bit hm e (congrArg Prod.fst x))) (fun _ _ _ => rfl) (.inl rfl)

/-- A counter written. -/
theorem Kept.counter {fr : Nat} {z0 t : State} (c : Ctr) (i v : Nat) (h : Kept fr z0 t) (hm : Within (Part.bit (.ctr c)) fr) :
    Kept fr z0 { t with ctr := tset 0 t.ctr (c.ctorIdx, i) (v % 2 ^ 48) } :=
  Kept.bankStep h id (ctrOk_tset _ _ (Nat.mod_lt _ (Nat.two_pow_pos 48))) id (fun _ _ _ => rfl)
    (fun _ _ e => tget_tset_other _ _ _ _ _ _ (fun x => ctr_ne_of_bit hm e (congrArg Prod.fst x))) (.inl rfl)

/-- A programmable counter written. -/
theorem Kept.progCtr {fr : Nat} {z0 t : State} (k : Key) (v : Nat) (h : Kept fr z0 t) (hm : Within (Part.bit .prog) fr) :
    Kept fr z0 { t with prog := tset 0 t.prog k (v % 2 ^ 48) } :=
  Kept.bankStep h id id (ctrOk_tset _ _ (Nat.mod_lt _ (Nat.two_pow_pos 48))) (fun _ _ _ => rfl) (fun _ _ _ => rfl) (.inr hm)

theorem Reg.lt_all (r : Reg) : r.ctorIdx < 133 := by cases r <;> decide

theorem Ctr.lt_all (c : Ctr) : c.ctorIdx < 241 := by cases c <;> decide

theorem range_testBit {a b i : Nat} (h : b ≤ i) (k : i < a + b) : ((2 ^ a - 1) * 2 ^ b).testBit i = true := by
  rw [Nat.testBit_mul_two_pow]
  simp [h, Nat.testBit_two_pow_sub_one]
  omega

theorem Within.anyReg {fr : Nat} (r : Reg) (h : Within regParts fr) : Within (Part.bit (.reg r)) fr := by
  refine Eq.trans ?_ h
  have h : regParts ||| fr = fr := h
  show Part.bit (.reg r) ||| fr = regParts ||| fr
  refine Nat.eq_of_testBit_eq fun i => ?_
  rw [h, Nat.testBit_or]
  cases e : (Part.bit (.reg r)).testBit i with
  | false => simp
  | true =>
    simp only [Part.bit_eq, Nat.testBit_two_pow, decide_eq_true_eq] at e
    have := Reg.lt_all r
    have k := Within.testBit h (i := i) (range_testBit (by simp [← e, Part.idx]) (by simp [← e, Part.idx]; omega))
    simp [k]

/-- Listed register fields dropped. -/
theorem Kept.regs {fr : Nat} {z0 t : State} (p : Key × Nat → Bool) (h : Kept fr z0 t) (hm : Within regParts fr) :
    Kept fr z0 { t with reg := t.reg.filter p } :=
  Kept.bankStep h (regOk_filter _) id id (fun f _ e => by
    have := Reg.lt_all f.reg
    rw [hm.testBit (range_testBit (i := (Part.reg f.reg).idx) (by simp [Part.idx]) (by simp [Part.idx]; omega))] at e
    cases e) (fun _ _ _ => rfl) (.inl rfl)

/-- Listed counters dropped. -/
theorem Kept.ctrs {fr : Nat} {z0 t : State} (p : Key × Nat → Bool) (h : Kept fr z0 t) (hm : Within ctrParts fr) :
    Kept fr z0 { t with ctr := t.ctr.filter p } :=
  Kept.bankStep h id (ctrOk_filter _) id (fun _ _ _ => rfl) (fun c _ e => by
    have := Ctr.lt_all c
    rw [hm.testBit (range_testBit (i := (Part.ctr c).idx) (by simp [Part.idx]) (by simp [Part.idx]; omega))] at e
    cases e) (.inl rfl)

/-- One register field back at its reset value in all its instances. -/
theorem Kept.fieldClear {fr : Nat} {z0 t : State} (f : Fld) (h : Kept fr z0 t) (hm : Within (Part.bit (.reg f.reg)) fr) :
    Kept fr z0 { t with reg := t.reg.filter (fun e => e.1.1 ≠ f.ctorIdx) } :=
  Kept.bankStep h (regOk_filter _) id id (fun _ _ e => tget_filter_other _ _ _ (by simpa using fld_ne_of_bit hm e))
    (fun _ _ _ => rfl) (.inl rfl)

/-- OTP bits programmed. -/
theorem Kept.otpStep {fr : Nat} {z0 t : State} {o : Nat} (h : Kept fr z0 t) (ho : BitsKept t.rind.otp o)
    (hm : Within (Part.bit .rind) fr) : Kept fr z0 { t with rind := { t.rind with otp := o } } := by
  refine ⟨h.pending, h.now, h.draws, h.out, fun i e => ho i (h.otp i e), h.fuses, h.banks, fun p e => ?_⟩
  have k := h.same p e
  cases p
  case rind => rw [hm.testBit (Part.bit_testBit _)] at e; cases e
  all_goals exact k

/-- Every part changed. -/
theorem Kept.wiped {fr : Nat} {z0 t u : State} (h : Kept fr z0 t) (hm : Within (2 ^ 200 * 2 ^ 197 - 1) fr) (hp : u.pending = t.pending)
    (hn : u.now = t.now) (hd : u.draws = t.draws) (ho : u.out = t.out) (hq : u.rind.otp = t.rind.otp)
    (hf : u.rind.fuses = t.rind.fuses) (hb : t.banksOk = true → u.banksOk = true) : Kept fr z0 u := by
  refine ⟨hp.trans h.pending, hn.trans h.now, hd ▸ h.draws, ho ▸ h.out, hq ▸ h.otp, hf.trans h.fuses, fun e => hb (h.banks e),
    fun p e => ?_⟩
  have l : p.idx < 397 := by
    cases p
    case reg r => have := Reg.lt_all r; simp [Part.idx]; omega
    case ctr c => have := Ctr.lt_all c; simp [Part.idx]; omega
    all_goals decide
  rw [hm.testBit (by rw [← Nat.pow_add, Nat.testBit_two_pow_sub_one]; exact decide_eq_true l)] at e
  cases e

/-- Every programmable counter dropped. -/
theorem Kept.progsLost {fr : Nat} {z0 t : State} (h : Kept fr z0 t) (hm : Within (Part.bit .prog) fr) : Kept fr z0 { t with prog := [] } :=
  Kept.bankStep h id id (fun _ => rfl) (fun _ _ _ => rfl) (fun _ _ _ => rfl) (.inr hm)

/-- Listed counters of both kinds dropped. -/
theorem Kept.groupStep {fr : Nat} {z0 t : State} (p q : Key × Nat → Bool) (h : Kept fr z0 t) (hm : Within (Nat.lor ctrParts 2) fr) :
    Kept fr z0 { t with ctr := t.ctr.filter p, prog := t.prog.filter q } := by
  refine (Kept.ctrs p h (Within.trans rfl hm)).trans ?_
  exact Kept.bankStep (t := { t with ctr := t.ctr.filter p }) (Kept.refl fr _) id id (ctrOk_filter _) (fun _ _ _ => rfl) (fun _ _ _ => rfl) (.inr (Within.trans rfl hm))

theorem Kept.ite {fr : Nat} {z0 a b : State} {c : Prop} [Decidable c] (ha : c → Kept fr z0 a) (hb : ¬c → Kept fr z0 b) :
    Kept fr z0 (if c then a else b) := by
  by_cases hc : c
  · rw [if_pos hc]; exact ha hc
  · rw [if_neg hc]; exact hb hc

theorem Kept.iteSnd {α : Type} {fr : Nat} {z0 : State} {a b : α × State} {c : Prop} [Decidable c] (ha : c → Kept fr z0 a.2) (hb : ¬c → Kept fr z0 b.2) :
    Kept fr z0 (if c then a else b).2 := by
  by_cases hc : c
  · rw [if_pos hc]; exact ha hc
  · rw [if_neg hc]; exact hb hc

theorem Kept.foldl {α : Type} {fr : Nat} {z0 : State} {f : State → α → State} {l : List α} {s : State}
    (hf : ∀ s x, Kept fr z0 s → Kept fr z0 (f s x)) (h : Kept fr z0 s) : Kept fr z0 (l.foldl f s) := by
  induction l generalizing s with
  | nil => exact h
  | cons x l ih => exact ih (hf s x h)

/-- The same, with what is known of the elements. -/
theorem Kept.foldlMem {α : Type} {fr : Nat} {z0 : State} {f : State → α → State} {l : List α} {s : State}
    (hf : ∀ s, ∀ x ∈ l, Kept fr z0 s → Kept fr z0 (f s x)) (h : Kept fr z0 s) : Kept fr z0 (l.foldl f s) := by
  induction l generalizing s with
  | nil => exact h
  | cons x l ih => exact ih (fun s y hy => hf s y (List.mem_cons_of_mem _ hy)) (hf s x List.mem_cons_self h)

theorem Kept.foldlSnd {α β : Type} {fr : Nat} {z0 : State} {f : β × State → α → β × State} {l : List α} {p : β × State}
    (hf : ∀ p x, Kept fr z0 p.2 → Kept fr z0 (f p x).2) (h : Kept fr z0 p.2) : Kept fr z0 (l.foldl f p).2 := by
  induction l generalizing p with
  | nil => exact h
  | cons x l ih => exact ih (hf p x h)

theorem Kept.snd {α : Type} {fr : Nat} {z0 t : State} {x : α} {p : α × State} (e : p = (x, t)) (h : Kept fr z0 p.2) : Kept fr z0 t := by
  rw [e] at h; exact h

theorem Kept.fst {α : Type} {fr : Nat} {z0 t : State} {x : α} {p : State × α} (e : p = (t, x)) (h : Kept fr z0 p.1) : Kept fr z0 t := by
  rw [e] at h; exact h

theorem KeptO.next {fr : Nat} {z0 t : State} (h : Kept fr z0 t) : KeptO fr z0 (.next t) := by
  intro u e
  cases e
  exact h

theorem KeptO.ite {fr : Nat} {z0 : State} {a b : Host.Outcome State Fault Refusal} {c : Prop} [Decidable c] (ha : c → KeptO fr z0 a)
    (hb : ¬c → KeptO fr z0 b) : KeptO fr z0 (if c then a else b) := by
  by_cases hc : c
  · rw [if_pos hc]; exact ha hc
  · rw [if_neg hc]; exact hb hc

/-- The same of whatever state an optional result has. -/
def KeptS (fr : Nat) (s : State) (o : Option State) : Prop := ∀ t, o = some t → Kept fr s t

theorem KeptS.some {fr : Nat} {z0 t : State} (h : Kept fr z0 t) : KeptS fr z0 (some t) := by
  intro u e
  cases e
  exact h

theorem KeptS.none {fr : Nat} {z0 : State} : KeptS fr z0 none := by
  intro u e
  cases e

theorem KeptS.elim {fr : Nat} {z0 t : State} {o : Option State} (e : o = Option.some t) (h : KeptS fr z0 o) : Kept fr z0 t := h t e

theorem KeptS.getD {fr : Nat} {z0 t : State} {o : Option State} (h : KeptS fr z0 o) (k : Kept fr z0 t) : Kept fr z0 (o.getD t) := by
  cases o with
  | none => exact k
  | some u => exact h u rfl

theorem KeptS.ite {fr : Nat} {z0 : State} {a b : Option State} {c : Prop} [Decidable c] (ha : c → KeptS fr z0 a) (hb : ¬c → KeptS fr z0 b) :
    KeptS fr z0 (if c then a else b) := by
  by_cases hc : c
  · rw [if_pos hc]; exact ha hc
  · rw [if_neg hc]; exact hb hc

theorem KeptS.map {fr : Nat} {z0 : State} {o : Option State} {f : State → State} (hf : ∀ s, Kept fr z0 s → Kept fr z0 (f s)) (h : KeptS fr z0 o) :
    KeptS fr z0 (o.map f) := by
  intro u e
  cases o with
  | none => cases e
  | some v =>
    rw [Option.map_some, Option.some.injEq] at e
    rw [← e]
    exact hf v (h v rfl)

/-- The same of whatever state an optional pair has. -/
def KeptP {α : Type} (fr : Nat) (s : State) (o : Option (α × State)) : Prop := ∀ x t, o = some (x, t) → Kept fr s t

theorem KeptP.some {α : Type} {fr : Nat} {z0 : State} {p : α × State} (h : Kept fr z0 p.2) : KeptP fr z0 (some p) := by
  intro x u e
  cases e
  exact h

theorem KeptP.none {α : Type} {fr : Nat} {z0 : State} : KeptP fr z0 (Option.none : Option (α × State)) := by
  intro x u e
  cases e

theorem KeptP.elim {α : Type} {fr : Nat} {z0 t : State} {x : α} {o : Option (α × State)} (e : o = Option.some (x, t)) (h : KeptP fr z0 o) :
    Kept fr z0 t := h x t e

theorem KeptP.map {α β : Type} {fr : Nat} {z0 : State} {o : Option α} {f : α → β × State} (h : ∀ x, Kept fr z0 (f x).2) : KeptP fr z0 (o.map f) := by
  intro x u e
  cases o with
  | none => cases e
  | some v =>
    have k := h v
    rw [Option.map_some, Option.some.injEq] at e
    rw [e] at k
    exact k

theorem KeptP.mapSnd {α β : Type} {fr : Nat} {z0 : State} {o : Option (α × State)} {f : α × State → β × State}
    (hf : ∀ x t, Kept fr z0 t → Kept fr z0 (f (x, t)).2) (h : KeptP fr z0 o) : KeptP fr z0 (o.map f) := by
  intro x u e
  cases o with
  | none => cases e
  | some v =>
    have k := hf v.1 v.2 (h v.1 v.2 rfl)
    rw [Option.map_some, Option.some.injEq] at e
    rw [show (v.1, v.2) = v from rfl, e] at k
    exact k

theorem KeptP.ite {α : Type} {fr : Nat} {z0 : State} {a b : Option (α × State)} {c : Prop} [Decidable c] (ha : c → KeptP fr z0 a)
    (hb : ¬c → KeptP fr z0 b) : KeptP fr z0 (if c then a else b) := by
  by_cases hc : c
  · rw [if_pos hc]; exact ha hc
  · rw [if_neg hc]; exact hb hc

end Sys2Proof.Machine
end

