-- ==== Sys2Proof/Laws/KeptOps.lean ====
section
/-! SUPPORT. No function of Machine/Ops, ImageOps, HostOps, FrameOps, QueueOps, Editor, Release takes back what no command takes back: one lemma each. -/

namespace Sys2Proof.Machine

theorem State.fset_kept {fr : Nat} {z0 s : State} (f : Fld) (i v : Nat) (hm : Within 0x0 fr) (h : Kept fr z0 s)
    (hf : Within (Part.bit (.reg f.reg)) fr) : Kept fr z0 (s.fset f i v) :=
  Kept.field f i v h hf

theorem State.gset_kept {fr : Nat} {z0 s : State} (c : Ctr) (i v : Nat) (hm : Within 0x0 fr) (h : Kept fr z0 s)
    (hc : Within (Part.bit (.ctr c)) fr) : Kept fr z0 (s.gset c i v) :=
  Kept.counter c i v h hc

theorem State.gmax_kept {fr : Nat} {z0 : State} (c : Ctr) (i : Nat) (v : Nat) {s : State}  (hm : Within 0x0 fr) (hk : Kept fr z0 s) (hc : Within (Part.bit (.ctr c)) fr) : Kept fr z0 (State.gmax s c i v) := by
  unfold State.gmax
  repeat' first
    | with_reducible assumption
    | with_reducible exact Stands.same
    | with_reducible apply State.gset_kept
    | with_reducible refine Kept.ite (fun _ => ?_) (fun _ => ?_)

theorem progAdd_kept {fr : Nat} {z0 : State} (fuel : Nat) {s : State} (g n k : Nat) (hm : Within 0x2 fr) (h : Kept fr z0 s) :
    Kept fr z0 (progAdd fuel s g n k) := by
  induction fuel generalizing s n k with
  | zero => exact h
  | succ fuel ih =>
    have a := Kept.progCtr (g, n) (tget 0 s.prog (g, n) + k) h hm
    unfold progAdd
    exact Kept.ite (fun _ => ih _ _ a) (fun _ => a)

theorem progTake_kept {fr : Nat} {z0 : State} (g : Nat) (idx : Nat) (k : Nat) (tenant : Option Nat) (n : Nat) {s : State}  (hm : Within 0x2 fr) (hk : Kept fr z0 s) : Kept fr z0 (progTake s g idx k tenant n) := by
  unfold progTake
  repeat' first
    | with_reducible assumption
    | with_reducible exact Stands.same
    | with_reducible apply progAdd_kept
    | with_reducible refine Kept.ite (fun _ => ?_) (fun _ => ?_)

theorem progEvent_kept {fr : Nat} {z0 : State} (g : Nat) (idx : Nat) (k : Nat) (tenant : Option Nat) {s : State}  (hm : Within 0x2 fr) (hk : Kept fr z0 s) : Kept fr z0 (progEvent s g idx k tenant) := by
  unfold progEvent
  repeat' first
    | with_reducible assumption
    | with_reducible exact Stands.same
    | with_reducible apply progTake_kept
    | with_reducible refine Kept.ite (fun _ => ?_) (fun _ => ?_)
    | with_reducible refine Kept.foldl (fun _ _ _ => ?_) ?_

theorem State.count_kept {fr : Nat} {z0 : State} (c : Ctr) (i k : Nat) (tenant : Option Nat) {s : State} (hm : Within 0x2 fr)
    (h : Kept fr z0 s) (hc : Within (Part.bit (.ctr c)) fr) : Kept fr z0 (s.count c i k tenant) := by
  unfold State.count
  exact progEvent_kept _ _ _ _ hm (Kept.counter c i _ h hc)

theorem State.draw_kept {fr : Nat} {z0 s : State} (hm : Within 0x1 fr) (h : Kept fr z0 s) : Kept fr z0 (State.draw s).2 :=
  Kept.draw h hm

theorem State.emit_kept {fr : Nat} {z0 : State} {s : State} (o : Out) (hm : Within 0x4 fr) (h : Kept fr z0 s) : Kept fr z0 (s.emit o) :=
  Kept.emit o h hm

theorem State.setRing_kept {fr : Nat} {z0 : State} (set : Nat) (k : Nat) (r : RingSt) {s : State}  (hm : Within 0x10000 fr) (hk : Kept fr z0 s) : Kept fr z0 (State.setRing s set k r) := by
  unfold State.setRing
  repeat' first
    | with_reducible assumption
    | with_reducible exact Stands.same
    | ((with_reducible refine Stands.hit (Within.trans ?_ hm)); rfl)
    | with_reducible refine Kept.ite (fun _ => ?_) (fun _ => ?_)
    | with_reducible refine Kept.foldl (fun _ _ _ => ?_) ?_
    | (fail_if_success with_reducible refine Kept.eta ?_); (with_reducible refine Kept.build ?_ rfl rfl ?_ ?_ ?_ ?_ ?_ ?_ ?_ ?_ ?_ ?_ ?_ ?_ ?_ ?_ ?_ ?_ ?_ ?_ ?_ ?_ ?_ ?_ ?_)

theorem sbWrite_kept {fr : Nat} {z0 : State} (set : Nat) {s : State}  (hm : Within 0x10004 fr) (hk : Kept fr z0 s) : Kept fr z0 (sbWrite s set) := by
  unfold sbWrite
  repeat' first
    | with_reducible assumption
    | with_reducible exact Stands.same
    | ((with_reducible refine Within.trans ?_ hm); rfl)
    | ((with_reducible refine Stands.hit (Within.trans ?_ hm)); rfl)
    | with_reducible apply State.emit_kept
    | with_reducible refine Kept.ite (fun _ => ?_) (fun _ => ?_)
    | with_reducible refine Kept.foldl (fun _ _ _ => ?_) ?_
    | (fail_if_success with_reducible refine Kept.eta ?_); (with_reducible refine Kept.build ?_ rfl rfl ?_ ?_ ?_ ?_ ?_ ?_ ?_ ?_ ?_ ?_ ?_ ?_ ?_ ?_ ?_ ?_ ?_ ?_ ?_ ?_ ?_ ?_ ?_)

theorem sbMark_kept {fr : Nat} {z0 : State} (set : Nat) {s : State}  (hm : Within 0x10000 fr) (hk : Kept fr z0 s) : Kept fr z0 (sbMark s set) := by
  unfold sbMark
  repeat' first
    | with_reducible assumption
    | with_reducible exact Stands.same
    | ((with_reducible refine Stands.hit (Within.trans ?_ hm)); rfl)
    | with_reducible refine Kept.ite (fun _ => ?_) (fun _ => ?_)
    | with_reducible refine Kept.foldl (fun _ _ _ => ?_) ?_
    | (fail_if_success with_reducible refine Kept.eta ?_); (with_reducible refine Kept.build ?_ rfl rfl ?_ ?_ ?_ ?_ ?_ ?_ ?_ ?_ ?_ ?_ ?_ ?_ ?_ ?_ ?_ ?_ ?_ ?_ ?_ ?_ ?_ ?_ ?_)

theorem setMessage_kept {fr : Nat} {z0 : State} (set : Nat) (v : Nat) {s : State}  (hm : Within 0x10004 fr) (hk : Kept fr z0 s) : Kept fr z0 (setMessage s set v) := by
  unfold setMessage
  repeat' first
    | with_reducible assumption
    | with_reducible exact Stands.same
    | ((with_reducible refine Within.trans ?_ hm); rfl)
    | ((with_reducible refine Stands.hit (Within.trans ?_ hm)); rfl)
    | with_reducible apply sbWrite_kept
    | with_reducible apply State.emit_kept
    | with_reducible refine Kept.ite (fun _ => ?_) (fun _ => ?_)
    | with_reducible refine Kept.foldl (fun _ _ _ => ?_) ?_
    | (fail_if_success with_reducible refine Kept.eta ?_); (with_reducible refine Kept.build ?_ rfl rfl ?_ ?_ ?_ ?_ ?_ ?_ ?_ ?_ ?_ ?_ ?_ ?_ ?_ ?_ ?_ ?_ ?_ ?_ ?_ ?_ ?_ ?_ ?_)

theorem evtUpdate_kept {fr : Nat} {z0 : State} {s : State}  (hm : Within 0x80000410004 fr) (hk : Kept fr z0 s) : Kept fr z0 (evtUpdate s) := by
  unfold evtUpdate
  repeat' first
    | with_reducible assumption
    | with_reducible exact Stands.same
    | ((with_reducible refine Within.trans ?_ hm); rfl)
    | ((with_reducible refine Stands.hit (Within.trans ?_ hm)); rfl)
    | with_reducible apply State.fset_kept
    | with_reducible apply setMessage_kept
    | with_reducible refine Kept.ite (fun _ => ?_) (fun _ => ?_)
    | with_reducible refine Kept.foldl (fun _ _ _ => ?_) ?_
    | (fail_if_success with_reducible refine Kept.eta ?_); (with_reducible refine Kept.build ?_ rfl rfl ?_ ?_ ?_ ?_ ?_ ?_ ?_ ?_ ?_ ?_ ?_ ?_ ?_ ?_ ?_ ?_ ?_ ?_ ?_ ?_ ?_ ?_ ?_)

theorem State.event_kept {fr : Nat} {z0 : State} (f : Fld) (i : Nat) {s : State}  (hm : Within 0x80000410004 fr) (hk : Kept fr z0 s) (hf : Within (Part.bit (.reg f.reg)) fr) : Kept fr z0 (State.event s f i) := by
  unfold State.event
  repeat' first
    | with_reducible assumption
    | with_reducible exact Stands.same
    | ((with_reducible refine Within.trans ?_ hm); rfl)
    | with_reducible apply evtUpdate_kept
    | with_reducible apply State.fset_kept

theorem wheyEmit_kept {fr : Nat} {z0 : State} (t : Nat) (body : Nat) (stamp : Nat) (tenant : Nat) {s : State}  (hm : Within 0x800e0000000000000000000000000000000000000000000000000000000000000000000002000000000000080000430006 fr) (hk : Kept fr z0 s) : Kept fr z0 (wheyEmit s t body stamp tenant) := by
  unfold wheyEmit
  repeat' first
    | with_reducible assumption
    | with_reducible exact Stands.same
    | ((with_reducible refine Within.trans ?_ hm); rfl)
    | ((with_reducible refine Stands.hit (Within.trans ?_ hm)); rfl)
    | with_reducible apply State.count_kept
    | with_reducible apply State.fset_kept
    | with_reducible apply State.gmax_kept
    | with_reducible apply State.event_kept
    | with_reducible refine Kept.ite (fun _ => ?_) (fun _ => ?_)
    | with_reducible refine Kept.foldl (fun _ _ _ => ?_) ?_
    | (fail_if_success with_reducible refine Kept.eta ?_); (with_reducible refine Kept.build ?_ rfl rfl ?_ ?_ ?_ ?_ ?_ ?_ ?_ ?_ ?_ ?_ ?_ ?_ ?_ ?_ ?_ ?_ ?_ ?_ ?_ ?_ ?_ ?_ ?_)

theorem bootWrite_kept {fr : Nat} {z0 : State} (r : BootRec) (why : BootWhy) {s : State}  (hm : Within 0x100000 fr) (hk : Kept fr z0 s) : Kept fr z0 (bootWrite s r why) := by
  unfold bootWrite
  repeat' first
    | with_reducible assumption
    | with_reducible exact Stands.same
    | ((with_reducible refine Stands.hit (Within.trans ?_ hm)); rfl)
    | with_reducible refine Kept.ite (fun _ => ?_) (fun _ => ?_)
    | with_reducible refine Kept.foldl (fun _ _ _ => ?_) ?_
    | (fail_if_success with_reducible refine Kept.eta ?_); (with_reducible refine Kept.build ?_ rfl rfl ?_ ?_ ?_ ?_ ?_ ?_ ?_ ?_ ?_ ?_ ?_ ?_ ?_ ?_ ?_ ?_ ?_ ?_ ?_ ?_ ?_ ?_ ?_)

theorem bootPut_kept {fr : Nat} {z0 : State} (r : BootRec) {s : State}  (hm : Within 0x100000 fr) (hk : Kept fr z0 s) : Kept fr z0 (bootPut s r) := by
  unfold bootPut
  repeat' first
    | with_reducible assumption
    | with_reducible exact Stands.same
    | ((with_reducible refine Stands.hit (Within.trans ?_ hm)); rfl)
    | with_reducible refine Kept.ite (fun _ => ?_) (fun _ => ?_)
    | with_reducible refine Kept.foldl (fun _ _ _ => ?_) ?_
    | (fail_if_success with_reducible refine Kept.eta ?_); (with_reducible refine Kept.build ?_ rfl rfl ?_ ?_ ?_ ?_ ?_ ?_ ?_ ?_ ?_ ?_ ?_ ?_ ?_ ?_ ?_ ?_ ?_ ?_ ?_ ?_ ?_ ?_ ?_)

theorem fuseSvn_bits (l : List Nat) (n a : Nat) :
    BitsKept a (l.foldl (fun o i =>
      if ((List.range 64).filter (fun j => bits o (5632 + j) 1 == 1)).length < n ∧ bits o (5632 + i) 1 = 0 then o ||| 2 ^ (5632 + i)
      else o) a) := by
  induction l generalizing a with
  | nil => exact fun _ h => h
  | cons x l ih =>
    intro i h
    rw [List.foldl_cons]
    apply ih
    split
    · rw [Nat.testBit_or, h, Bool.true_or]
    · exact h

theorem fuseSvn_kept {fr : Nat} {z0 : State} {s : State} (n : Nat) (hm : Within 0x80000 fr) (h : Kept fr z0 s) : Kept fr z0 (fuseSvn s n) :=
  Kept.otpStep h (fuseSvn_bits _ _ _) hm

theorem updShow_kept {fr : Nat} {z0 : State} {s : State}  (hm : Within 0x2004000000 fr) (hk : Kept fr z0 s) : Kept fr z0 (updShow s) := by
  unfold updShow
  repeat' first
    | with_reducible assumption
    | with_reducible exact Stands.same
    | ((with_reducible refine Within.trans ?_ hm); rfl)
    | with_reducible apply State.fset_kept

theorem bankIdle_kept {fr : Nat} {z0 : State} {s : State}  (hm : Within 0x100000000000000004000 fr) (hk : Kept fr z0 s) : Kept fr z0 (bankIdle s) := by
  unfold bankIdle
  repeat' first
    | with_reducible assumption
    | with_reducible exact Stands.same
    | ((with_reducible refine Within.trans ?_ hm); rfl)
    | ((with_reducible refine Stands.hit (Within.trans ?_ hm)); rfl)
    | with_reducible apply State.fset_kept
    | with_reducible refine Kept.ite (fun _ => ?_) (fun _ => ?_)
    | with_reducible refine Kept.foldl (fun _ _ _ => ?_) ?_
    | (fail_if_success with_reducible refine Kept.eta ?_); (with_reducible refine Kept.build ?_ rfl rfl ?_ ?_ ?_ ?_ ?_ ?_ ?_ ?_ ?_ ?_ ?_ ?_ ?_ ?_ ?_ ?_ ?_ ?_ ?_ ?_ ?_ ?_ ?_)
    | (with_reducible refine Kept.snd (by assumption) ?_)
    | dsimp only
    | split

theorem mapEpoch_kept {fr : Nat} {z0 : State} (f : Nat → Nat) {s : State}  (hm : Within 0x2000 fr) (hk : Kept fr z0 s) : Kept fr z0 (mapEpoch s f) := by
  unfold mapEpoch
  repeat' first
    | with_reducible assumption
    | with_reducible exact Stands.same
    | ((with_reducible refine Stands.hit (Within.trans ?_ hm)); rfl)
    | with_reducible refine Kept.ite (fun _ => ?_) (fun _ => ?_)
    | with_reducible refine Kept.foldl (fun _ _ _ => ?_) ?_
    | (fail_if_success with_reducible refine Kept.eta ?_); (with_reducible refine Kept.build ?_ rfl rfl ?_ ?_ ?_ ?_ ?_ ?_ ?_ ?_ ?_ ?_ ?_ ?_ ?_ ?_ ?_ ?_ ?_ ?_ ?_ ?_ ?_ ?_ ?_)

theorem tablesUndo_kept {fr : Nat} {z0 : State} {s : State}  (hm : Within 0x2000 fr) (hk : Kept fr z0 s) : Kept fr z0 (tablesUndo s) := by
  unfold tablesUndo
  repeat' first
    | with_reducible assumption
    | with_reducible exact Stands.same
    | with_reducible apply mapEpoch_kept

theorem tablesDone_kept {fr : Nat} {z0 : State} {s : State}  (hm : Within 0x2000 fr) (hk : Kept fr z0 s) : Kept fr z0 (tablesDone s) := by
  unfold tablesDone
  repeat' first
    | with_reducible assumption
    | with_reducible exact Stands.same
    | with_reducible apply mapEpoch_kept

theorem trigOff_kept {fr : Nat} {z0 : State} (u : Nat) {s : State}  (hm : Within 0x200000000000008000 fr) (hk : Kept fr z0 s) : Kept fr z0 (trigOff s u) := by
  unfold trigOff
  repeat' first
    | with_reducible assumption
    | with_reducible exact Stands.same
    | ((with_reducible refine Within.trans ?_ hm); rfl)
    | ((with_reducible refine Stands.hit (Within.trans ?_ hm)); rfl)
    | with_reducible apply State.fset_kept
    | with_reducible refine Kept.ite (fun _ => ?_) (fun _ => ?_)
    | with_reducible refine Kept.foldl (fun _ _ _ => ?_) ?_
    | (fail_if_success with_reducible refine Kept.eta ?_); (with_reducible refine Kept.build ?_ rfl rfl ?_ ?_ ?_ ?_ ?_ ?_ ?_ ?_ ?_ ?_ ?_ ?_ ?_ ?_ ?_ ?_ ?_ ?_ ?_ ?_ ?_ ?_ ?_)

theorem ticketDrop_kept {fr : Nat} {z0 : State} (event : Nat) {s : State}  (hm : Within 0x10020000000200010e000 fr) (hk : Kept fr z0 s) : Kept fr z0 (ticketDrop s event) := by
  unfold ticketDrop
  repeat' first
    | with_reducible assumption
    | with_reducible exact Stands.same
    | ((with_reducible refine Within.trans ?_ hm); rfl)
    | ((with_reducible refine Stands.hit (Within.trans ?_ hm)); rfl)
    | with_reducible apply trigOff_kept
    | with_reducible apply State.fset_kept
    | with_reducible apply tablesUndo_kept
    | with_reducible refine Kept.ite (fun _ => ?_) (fun _ => ?_)
    | with_reducible refine Kept.foldl (fun _ _ _ => ?_) ?_
    | (fail_if_success with_reducible refine Kept.eta ?_); (with_reducible refine Kept.build ?_ rfl rfl ?_ ?_ ?_ ?_ ?_ ?_ ?_ ?_ ?_ ?_ ?_ ?_ ?_ ?_ ?_ ?_ ?_ ?_ ?_ ?_ ?_ ?_ ?_)
    | (with_reducible refine Kept.snd (by assumption) ?_)
    | dsimp only
    | split

theorem activationRecord_kept {fr : Nat} {z0 : State} (a : Activation) {s : State}  (hm : Within 0x100000 fr) (hk : Kept fr z0 s) : Kept fr z0 (activationRecord s a) := by
  unfold activationRecord
  repeat' first
    | with_reducible assumption
    | with_reducible exact Stands.same
    | with_reducible apply bootWrite_kept

theorem activate_kept {fr : Nat} {z0 : State} {s : State}  (hm : Within 0x100200000002000108000 fr) (hk : Kept fr z0 s) : Kept fr z0 (activate s) := by
  unfold activate
  repeat' first
    | with_reducible assumption
    | with_reducible exact Stands.same
    | ((with_reducible refine Within.trans ?_ hm); rfl)
    | ((with_reducible refine Stands.hit (Within.trans ?_ hm)); rfl)
    | with_reducible apply trigOff_kept
    | with_reducible apply State.fset_kept
    | with_reducible apply activationRecord_kept
    | with_reducible refine Kept.ite (fun _ => ?_) (fun _ => ?_)
    | with_reducible refine Kept.foldl (fun _ _ _ => ?_) ?_
    | (fail_if_success with_reducible refine Kept.eta ?_); (with_reducible refine Kept.build ?_ rfl rfl ?_ ?_ ?_ ?_ ?_ ?_ ?_ ?_ ?_ ?_ ?_ ?_ ?_ ?_ ?_ ?_ ?_ ?_ ?_ ?_ ?_ ?_ ?_)
    | (with_reducible refine Kept.snd (by assumption) ?_)
    | dsimp only
    | split

theorem ringStop_kept {fr : Nat} {z0 : State} (set : Nat) (k : Nat) (err : Fld) {s : State}  (hm : Within 0x900000000000000000000000000080000410004 fr) (hk : Kept fr z0 s) (herr : Within (Part.bit (.reg err.reg)) fr) : Kept fr z0 (ringStop s set k err) := by
  unfold ringStop
  repeat' first
    | with_reducible assumption
    | with_reducible exact Stands.same
    | ((with_reducible refine Within.trans ?_ hm); rfl)
    | with_reducible apply State.fset_kept
    | with_reducible apply State.emit_kept
    | with_reducible apply State.event_kept

theorem ringMessage_kept {fr : Nat} {z0 : State} (set : Nat) (k : Nat) {s : State}  (hm : Within 0x10004 fr) (hk : Kept fr z0 s) : Kept fr z0 (ringMessage s set k) := by
  unfold ringMessage
  repeat' first
    | with_reducible assumption
    | with_reducible exact Stands.same
    | ((with_reducible refine Within.trans ?_ hm); rfl)
    | with_reducible apply setMessage_kept
    | with_reducible apply State.setRing_kept

theorem ringWrite_kept {fr : Nat} {z0 : State} (set : Nat) (k : Nat) (v : Nat) {s : State}  (hm : Within 0x10004 fr) (hk : Kept fr z0 s) : Kept fr z0 (ringWrite s set k v) := by
  unfold ringWrite
  repeat' first
    | with_reducible assumption
    | with_reducible exact Stands.same
    | ((with_reducible refine Within.trans ?_ hm); rfl)
    | with_reducible apply State.emit_kept
    | with_reducible apply sbMark_kept
    | with_reducible apply State.setRing_kept
    | with_reducible apply ringMessage_kept
    | with_reducible refine Kept.ite (fun _ => ?_) (fun _ => ?_)

theorem cplKeep_kept {fr : Nat} {z0 : State} (c : Cpl) {s : State}  (hm : Within 0x10000 fr) (hk : Kept fr z0 s) : Kept fr z0 (cplKeep s c) := by
  unfold cplKeep
  repeat' first
    | with_reducible assumption
    | with_reducible exact Stands.same
    | ((with_reducible refine Stands.hit (Within.trans ?_ hm)); rfl)
    | with_reducible refine Kept.ite (fun _ => ?_) (fun _ => ?_)
    | with_reducible refine Kept.foldl (fun _ _ _ => ?_) ?_
    | (fail_if_success with_reducible refine Kept.eta ?_); (with_reducible refine Kept.build ?_ rfl rfl ?_ ?_ ?_ ?_ ?_ ?_ ?_ ?_ ?_ ?_ ?_ ?_ ?_ ?_ ?_ ?_ ?_ ?_ ?_ ?_ ?_ ?_ ?_)

theorem cplData_kept {fr : Nat} {z0 : State} (c : Cpl) {s : State}  (hm : Within 0x4 fr) (hk : Kept fr z0 s) : Kept fr z0 (cplData s c).1 := by
  unfold cplData
  repeat' first
    | with_reducible assumption
    | with_reducible exact Stands.same
    | with_reducible apply State.emit_kept
    | with_reducible refine Kept.ite (fun _ => ?_) (fun _ => ?_)
    | with_reducible refine Kept.foldl (fun _ _ _ => ?_) ?_
    | (with_reducible refine Kept.snd (by assumption) ?_)
    | dsimp only
    | split

theorem cplOne_kept {fr : Nat} {z0 : State} (c : Cpl) {s : State}  (hm : Within 0x2040000000000000000000000000000000000000000000000000000000000000000000000000000000000010006 fr) (hk : Kept fr z0 s) : Kept fr z0 (cplOne s c) := by
  unfold cplOne
  repeat' first
    | with_reducible assumption
    | with_reducible exact Stands.same
    | ((with_reducible refine Within.trans ?_ hm); rfl)
    | with_reducible apply cplData_kept
    | with_reducible apply cplKeep_kept
    | with_reducible apply State.count_kept
    | with_reducible apply ringWrite_kept
    | with_reducible refine Kept.ite (fun _ => ?_) (fun _ => ?_)
    | with_reducible refine Kept.foldl (fun _ _ _ => ?_) ?_
    | (with_reducible refine Kept.snd (by assumption) ?_)
    | dsimp only
    | split

theorem cplFlush_kept {fr : Nat} {z0 : State} (l : List Cpl) {s : State}  (hm : Within 0x2040000000000000000000000000000000000000000000000000000000000000000000000000000000000010006 fr) (hk : Kept fr z0 s) : Kept fr z0 (cplFlush s l) := by
  unfold cplFlush
  repeat' first
    | with_reducible assumption
    | with_reducible exact Stands.same
    | with_reducible apply cplOne_kept
    | with_reducible refine Kept.ite (fun _ => ?_) (fun _ => ?_)
    | with_reducible refine Kept.foldl (fun _ _ _ => ?_) ?_

theorem rspFlush_kept {fr : Nat} {z0 : State} (l : List Nat) {s : State}  (hm : Within 0x2000000000000000000000000000000000000000000000000000000000000000000000000000000480000410006 fr) (hk : Kept fr z0 s) : Kept fr z0 (rspFlush s l) := by
  induction l generalizing s with
  | nil =>
    unfold rspFlush
    repeat' first
      | with_reducible assumption
  | cons y ys ih =>
    unfold rspFlush
    repeat' first
      | with_reducible assumption
      | with_reducible exact Stands.same
      | ((with_reducible refine Within.trans ?_ hm); rfl)
      | ((with_reducible refine Stands.hit (Within.trans ?_ hm)); rfl)
      | with_reducible apply State.count_kept
      | with_reducible apply ringWrite_kept
      | with_reducible apply State.event_kept
      | with_reducible apply ih
      | with_reducible refine Kept.ite (fun _ => ?_) (fun _ => ?_)
      | with_reducible refine Kept.foldl (fun _ _ _ => ?_) ?_
      | (fail_if_success with_reducible refine Kept.eta ?_); (with_reducible refine Kept.build ?_ rfl rfl ?_ ?_ ?_ ?_ ?_ ?_ ?_ ?_ ?_ ?_ ?_ ?_ ?_ ?_ ?_ ?_ ?_ ?_ ?_ ?_ ?_ ?_ ?_)

theorem hostFlush_kept {fr : Nat} {z0 : State} {s : State}  (hm : Within 0x2040000000000000000000000000000000000000000000000000000000000000000000000000000480000410006 fr) (hk : Kept fr z0 s) : Kept fr z0 (hostFlush s) := by
  unfold hostFlush
  repeat' first
    | with_reducible assumption
    | with_reducible exact Stands.same
    | ((with_reducible refine Within.trans ?_ hm); rfl)
    | ((with_reducible refine Stands.hit (Within.trans ?_ hm)); rfl)
    | with_reducible apply cplFlush_kept
    | with_reducible apply rspFlush_kept
    | with_reducible refine Kept.ite (fun _ => ?_) (fun _ => ?_)
    | with_reducible refine Kept.foldl (fun _ _ _ => ?_) ?_
    | (fail_if_success with_reducible refine Kept.eta ?_); (with_reducible refine Kept.build ?_ rfl rfl ?_ ?_ ?_ ?_ ?_ ?_ ?_ ?_ ?_ ?_ ?_ ?_ ?_ ?_ ?_ ?_ ?_ ?_ ?_ ?_ ?_ ?_ ?_)

theorem workDrop_kept {fr : Nat} {z0 : State} (set : Nat) (ring : Nat) (index : Nat) {s : State}  (hm : Within 0x10000 fr) (hk : Kept fr z0 s) : Kept fr z0 (workDrop s set ring index) := by
  unfold workDrop
  repeat' first
    | with_reducible assumption
    | with_reducible exact Stands.same
    | ((with_reducible refine Stands.hit (Within.trans ?_ hm)); rfl)
    | with_reducible refine Kept.ite (fun _ => ?_) (fun _ => ?_)
    | with_reducible refine Kept.foldl (fun _ _ _ => ?_) ?_
    | (fail_if_success with_reducible refine Kept.eta ?_); (with_reducible refine Kept.build ?_ rfl rfl ?_ ?_ ?_ ?_ ?_ ?_ ?_ ?_ ?_ ?_ ?_ ?_ ?_ ?_ ?_ ?_ ?_ ?_ ?_ ?_ ?_ ?_ ?_)

theorem workSet_kept {fr : Nat} {z0 : State} (w : Work) {s : State}  (hm : Within 0x10000 fr) (hk : Kept fr z0 s) : Kept fr z0 (workSet s w) := by
  unfold workSet
  repeat' first
    | with_reducible assumption
    | with_reducible exact Stands.same
    | ((with_reducible refine Stands.hit (Within.trans ?_ hm)); rfl)
    | with_reducible refine Kept.ite (fun _ => ?_) (fun _ => ?_)
    | with_reducible refine Kept.foldl (fun _ _ _ => ?_) ?_
    | (fail_if_success with_reducible refine Kept.eta ?_); (with_reducible refine Kept.build ?_ rfl rfl ?_ ?_ ?_ ?_ ?_ ?_ ?_ ?_ ?_ ?_ ?_ ?_ ?_ ?_ ?_ ?_ ?_ ?_ ?_ ?_ ?_ ?_ ?_)

theorem complete_kept {fr : Nat} {z0 : State} (w : Work) (opcode : Nat) (status : Nat) (reason : Nat) (version : Nat) (extra : Nat) (quiet : Bool) (data : Option (Nat × List Byte)) {s : State}  (hm : Within 0x22040000000000000000000000000000000000000000000000000000000000000000000000000000000000010006 fr) (hk : Kept fr z0 s) : Kept fr z0 (complete s w opcode status reason version extra quiet data) := by
  unfold complete
  repeat' first
    | with_reducible assumption
    | with_reducible exact Stands.same
    | ((with_reducible refine Within.trans ?_ hm); rfl)
    | ((with_reducible refine Stands.hit (Within.trans ?_ hm)); rfl)
    | with_reducible apply workDrop_kept
    | with_reducible apply State.count_kept
    | with_reducible apply cplFlush_kept
    | with_reducible refine Kept.ite (fun _ => ?_) (fun _ => ?_)
    | with_reducible refine Kept.foldl (fun _ _ _ => ?_) ?_
    | (fail_if_success with_reducible refine Kept.eta ?_); (with_reducible refine Kept.build ?_ rfl rfl ?_ ?_ ?_ ?_ ?_ ?_ ?_ ?_ ?_ ?_ ?_ ?_ ?_ ?_ ?_ ?_ ?_ ?_ ?_ ?_ ?_ ?_ ?_)

theorem cmdComplete_kept {fr : Nat} {z0 : State} (w : Work) (status : Nat) (reason : Nat) (version : Nat) (extra : Nat) {s : State}  (hm : Within 0x22040000000000000000000000000000000000000000000000000000000000000000000000000000000000010006 fr) (hk : Kept fr z0 s) : Kept fr z0 (cmdComplete s w status reason version extra) := by
  unfold cmdComplete
  repeat' first
    | with_reducible assumption
    | with_reducible exact Stands.same
    | with_reducible apply complete_kept

theorem cmdData_kept {fr : Nat} {z0 : State} (w : Work) (version : Nat) (extra : Nat) (b : List Byte) {s : State}  (hm : Within 0x22040000000000000000000000000000000000000000000000000000000000000000000000000000000000010006 fr) (hk : Kept fr z0 s) : Kept fr z0 (cmdData s w version extra b) := by
  unfold cmdData
  repeat' first
    | with_reducible assumption
    | with_reducible exact Stands.same
    | with_reducible apply complete_kept

theorem injComplete_kept {fr : Nat} {z0 : State} (w : Work) (status : Nat) (reason : Nat) (extra : Nat) {s : State}  (hm : Within 0x22040000000000000000000000000000000000000000000000000000000000000000000000000000000000010006 fr) (hk : Kept fr z0 s) : Kept fr z0 (injComplete s w status reason extra) := by
  unfold injComplete
  repeat' first
    | with_reducible assumption
    | with_reducible exact Stands.same
    | with_reducible apply complete_kept

theorem workRelabel_kept {fr : Nat} {z0 : State} (set : Nat) (k : Nat) (lost : Bool) {s : State}  (hm : Within 0x10000 fr) (hk : Kept fr z0 s) : Kept fr z0 (workRelabel s set k lost) := by
  unfold workRelabel
  repeat' first
    | with_reducible assumption
    | with_reducible exact Stands.same
    | ((with_reducible refine Stands.hit (Within.trans ?_ hm)); rfl)
    | with_reducible refine Kept.ite (fun _ => ?_) (fun _ => ?_)
    | with_reducible refine Kept.foldl (fun _ _ _ => ?_) ?_
    | (fail_if_success with_reducible refine Kept.eta ?_); (with_reducible refine Kept.build ?_ rfl rfl ?_ ?_ ?_ ?_ ?_ ?_ ?_ ?_ ?_ ?_ ?_ ?_ ?_ ?_ ?_ ?_ ?_ ?_ ?_ ?_ ?_ ?_ ?_)

theorem cmdRelabel_kept {fr : Nat} {z0 : State} (set : Nat) (lost : Bool) {s : State}  (hm : Within 0x115000 fr) (hk : Kept fr z0 s) : Kept fr z0 (cmdRelabel s set lost) := by
  unfold cmdRelabel
  repeat' first
    | with_reducible assumption
    | with_reducible exact Stands.same
    | ((with_reducible refine Within.trans ?_ hm); rfl)
    | ((with_reducible refine Stands.hit (Within.trans ?_ hm)); rfl)
    | with_reducible apply workRelabel_kept
    | with_reducible refine Kept.ite (fun _ => ?_) (fun _ => ?_)
    | with_reducible refine Kept.foldl (fun _ _ _ => ?_) ?_
    | (fail_if_success with_reducible refine Kept.eta ?_); (with_reducible refine Kept.build ?_ rfl rfl ?_ ?_ ?_ ?_ ?_ ?_ ?_ ?_ ?_ ?_ ?_ ?_ ?_ ?_ ?_ ?_ ?_ ?_ ?_ ?_ ?_ ?_ ?_)

theorem injRelabel_kept {fr : Nat} {z0 : State} (set : Nat) (lost : Bool) {s : State}  (hm : Within 0x10108 fr) (hk : Kept fr z0 s) : Kept fr z0 (injRelabel s set lost) := by
  unfold injRelabel
  repeat' first
    | with_reducible assumption
    | with_reducible exact Stands.same
    | ((with_reducible refine Within.trans ?_ hm); rfl)
    | ((with_reducible refine Stands.hit (Within.trans ?_ hm)); rfl)
    | with_reducible apply workRelabel_kept
    | with_reducible refine Kept.ite (fun _ => ?_) (fun _ => ?_)
    | with_reducible refine Kept.foldl (fun _ _ _ => ?_) ?_
    | (fail_if_success with_reducible refine Kept.eta ?_); (with_reducible refine Kept.build ?_ rfl rfl ?_ ?_ ?_ ?_ ?_ ?_ ?_ ?_ ?_ ?_ ?_ ?_ ?_ ?_ ?_ ?_ ?_ ?_ ?_ ?_ ?_ ?_ ?_)

theorem State.setFrame_kept {fr : Nat} {z0 : State} (id : Nat) (f : Frame) {s : State}  (hm : Within 0x8 fr) (hk : Kept fr z0 s) : Kept fr z0 (State.setFrame s id f) := by
  unfold State.setFrame
  repeat' first
    | with_reducible assumption
    | with_reducible exact Stands.same
    | ((with_reducible refine Stands.hit (Within.trans ?_ hm)); rfl)
    | with_reducible refine Kept.ite (fun _ => ?_) (fun _ => ?_)
    | with_reducible refine Kept.foldl (fun _ _ _ => ?_) ?_
    | (fail_if_success with_reducible refine Kept.eta ?_); (with_reducible refine Kept.build ?_ rfl rfl ?_ ?_ ?_ ?_ ?_ ?_ ?_ ?_ ?_ ?_ ?_ ?_ ?_ ?_ ?_ ?_ ?_ ?_ ?_ ?_ ?_ ?_ ?_)

theorem State.modFrame_kept {fr : Nat} {z0 : State} (id : Nat) (g : Frame → Frame) {s : State}  (hm : Within 0x8 fr) (hk : Kept fr z0 s) : Kept fr z0 (State.modFrame s id g) := by
  unfold State.modFrame
  repeat' first
    | with_reducible assumption
    | with_reducible exact Stands.same
    | with_reducible apply State.setFrame_kept
    | with_reducible refine Kept.ite (fun _ => ?_) (fun _ => ?_)
    | with_reducible refine Kept.foldl (fun _ _ _ => ?_) ?_
    | (with_reducible refine Kept.snd (by assumption) ?_)
    | dsimp only
    | split

theorem State.newFrame_kept {fr : Nat} {z0 : State} (f : Frame) {s : State}  (hm : Within 0x8 fr) (hk : Kept fr z0 s) : Kept fr z0 (State.newFrame s f) := by
  unfold State.newFrame
  repeat' first
    | with_reducible assumption
    | with_reducible exact Stands.same
    | ((with_reducible refine Stands.hit (Within.trans ?_ hm)); rfl)
    | with_reducible refine Kept.ite (fun _ => ?_) (fun _ => ?_)
    | with_reducible refine Kept.foldl (fun _ _ _ => ?_) ?_
    | (fail_if_success with_reducible refine Kept.eta ?_); (with_reducible refine Kept.build ?_ rfl rfl ?_ ?_ ?_ ?_ ?_ ?_ ?_ ?_ ?_ ?_ ?_ ?_ ?_ ?_ ?_ ?_ ?_ ?_ ?_ ?_ ?_ ?_ ?_)

theorem State.delFrame_kept {fr : Nat} {z0 : State} (id : Nat) {s : State}  (hm : Within 0x88 fr) (hk : Kept fr z0 s) : Kept fr z0 (State.delFrame s id) := by
  unfold State.delFrame
  repeat' first
    | with_reducible assumption
    | with_reducible exact Stands.same
    | ((with_reducible refine Stands.hit (Within.trans ?_ hm)); rfl)
    | with_reducible refine Kept.ite (fun _ => ?_) (fun _ => ?_)
    | with_reducible refine Kept.foldl (fun _ _ _ => ?_) ?_
    | (fail_if_success with_reducible refine Kept.eta ?_); (with_reducible refine Kept.build ?_ rfl rfl ?_ ?_ ?_ ?_ ?_ ?_ ?_ ?_ ?_ ?_ ?_ ?_ ?_ ?_ ?_ ?_ ?_ ?_ ?_ ?_ ?_ ?_ ?_)

theorem State.setPort_kept {fr : Nat} {z0 : State} (q : Nat) (p : PortSt) {s : State}  (hm : Within 0x10 fr) (hk : Kept fr z0 s) : Kept fr z0 (State.setPort s q p) := by
  unfold State.setPort
  repeat' first
    | with_reducible assumption
    | with_reducible exact Stands.same
    | ((with_reducible refine Stands.hit (Within.trans ?_ hm)); rfl)
    | with_reducible refine Kept.ite (fun _ => ?_) (fun _ => ?_)
    | with_reducible refine Kept.foldl (fun _ _ _ => ?_) ?_
    | (fail_if_success with_reducible refine Kept.eta ?_); (with_reducible refine Kept.build ?_ rfl rfl ?_ ?_ ?_ ?_ ?_ ?_ ?_ ?_ ?_ ?_ ?_ ?_ ?_ ?_ ?_ ?_ ?_ ?_ ?_ ?_ ?_ ?_ ?_)

theorem pfcOwe_kept {fr : Nat} {z0 : State} (q : Nat) (pause : Nat) (resume : Nat) {s : State}  (hm : Within 0x100 fr) (hk : Kept fr z0 s) : Kept fr z0 (pfcOwe s q pause resume) := by
  unfold pfcOwe
  repeat' first
    | with_reducible assumption
    | with_reducible exact Stands.same
    | ((with_reducible refine Stands.hit (Within.trans ?_ hm)); rfl)
    | with_reducible refine Kept.ite (fun _ => ?_) (fun _ => ?_)
    | with_reducible refine Kept.foldl (fun _ _ _ => ?_) ?_
    | (fail_if_success with_reducible refine Kept.eta ?_); (with_reducible refine Kept.build ?_ rfl rfl ?_ ?_ ?_ ?_ ?_ ?_ ?_ ?_ ?_ ?_ ?_ ?_ ?_ ?_ ?_ ?_ ?_ ?_ ?_ ?_ ?_ ?_ ?_)

theorem setPaused_kept {fr : Nat} {z0 : State} (q : Nat) (p : Nat) (b : Bool) {s : State}  (hm : Within 0x100 fr) (hk : Kept fr z0 s) : Kept fr z0 (setPaused s q p b) := by
  unfold setPaused
  repeat' first
    | with_reducible assumption
    | with_reducible exact Stands.same
    | ((with_reducible refine Stands.hit (Within.trans ?_ hm)); rfl)
    | with_reducible refine Kept.ite (fun _ => ?_) (fun _ => ?_)
    | with_reducible refine Kept.foldl (fun _ _ _ => ?_) ?_
    | (fail_if_success with_reducible refine Kept.eta ?_); (with_reducible refine Kept.build ?_ rfl rfl ?_ ?_ ?_ ?_ ?_ ?_ ?_ ?_ ?_ ?_ ?_ ?_ ?_ ?_ ?_ ?_ ?_ ?_ ?_ ?_ ?_ ?_ ?_)

theorem pfcJudge_kept {fr : Nat} {z0 : State} (q : Nat) (p : Nat) {s : State}  (hm : Within 0x200000000000000000000000000000000000000000000000000000000000000000000000000102 fr) (hk : Kept fr z0 s) : Kept fr z0 (pfcJudge s q p) := by
  unfold pfcJudge
  repeat' first
    | with_reducible assumption
    | with_reducible exact Stands.same
    | ((with_reducible refine Within.trans ?_ hm); rfl)
    | with_reducible apply pfcOwe_kept
    | with_reducible apply setPaused_kept
    | with_reducible apply State.count_kept
    | with_reducible refine Kept.ite (fun _ => ?_) (fun _ => ?_)

theorem ingAdd_kept {fr : Nat} {z0 : State} (q : Nat) (c : Nat) (v : Nat) {s : State}  (hm : Within 0x20000200000000000000000000000000000000000000000000000000000000000000000000000000102 fr) (hk : Kept fr z0 s) : Kept fr z0 (ingAdd s q c v) := by
  unfold ingAdd
  repeat' first
    | with_reducible assumption
    | with_reducible exact Stands.same
    | ((with_reducible refine Within.trans ?_ hm); rfl)
    | ((with_reducible refine Stands.hit (Within.trans ?_ hm)); rfl)
    | with_reducible apply State.count_kept
    | with_reducible apply State.gmax_kept
    | with_reducible apply pfcJudge_kept
    | with_reducible refine Kept.ite (fun _ => ?_) (fun _ => ?_)
    | with_reducible refine Kept.foldl (fun _ _ _ => ?_) ?_
    | (fail_if_success with_reducible refine Kept.eta ?_); (with_reducible refine Kept.build ?_ rfl rfl ?_ ?_ ?_ ?_ ?_ ?_ ?_ ?_ ?_ ?_ ?_ ?_ ?_ ?_ ?_ ?_ ?_ ?_ ?_ ?_ ?_ ?_ ?_)

theorem emptyPool_kept {fr : Nat} {z0 : State} (q : Nat) (c : Nat) {s : State}  (hm : Within 0x200000000000000000000000000000000000000000000000000000000000000000000000000102 fr) (hk : Kept fr z0 s) : Kept fr z0 (emptyPool s q c) := by
  unfold emptyPool
  repeat' first
    | with_reducible assumption
    | with_reducible exact Stands.same
    | ((with_reducible refine Within.trans ?_ hm); rfl)
    | ((with_reducible refine Stands.hit (Within.trans ?_ hm)); rfl)
    | with_reducible apply pfcOwe_kept
    | with_reducible apply State.count_kept
    | with_reducible refine Kept.ite (fun _ => ?_) (fun _ => ?_)
    | with_reducible refine Kept.foldl (fun _ _ _ => ?_) ?_
    | (fail_if_success with_reducible refine Kept.eta ?_); (with_reducible refine Kept.build ?_ rfl rfl ?_ ?_ ?_ ?_ ?_ ?_ ?_ ?_ ?_ ?_ ?_ ?_ ?_ ?_ ?_ ?_ ?_ ?_ ?_ ?_ ?_ ?_ ?_)

theorem State.setBuf_kept {fr : Nat} {z0 : State} (b : Nat × Nat) (v : Option Buf) {s : State}  (hm : Within 0x100 fr) (hk : Kept fr z0 s) : Kept fr z0 (State.setBuf s b v) := by
  unfold State.setBuf
  repeat' first
    | with_reducible assumption
    | with_reducible exact Stands.same
    | ((with_reducible refine Stands.hit (Within.trans ?_ hm)); rfl)
    | with_reducible refine Kept.ite (fun _ => ?_) (fun _ => ?_)
    | with_reducible refine Kept.foldl (fun _ _ _ => ?_) ?_
    | (fail_if_success with_reducible refine Kept.eta ?_); (with_reducible refine Kept.build ?_ rfl rfl ?_ ?_ ?_ ?_ ?_ ?_ ?_ ?_ ?_ ?_ ?_ ?_ ?_ ?_ ?_ ?_ ?_ ?_ ?_ ?_ ?_ ?_ ?_)

theorem setPoolFree_kept {fr : Nat} {z0 : State} (pool : Nat) (n : Nat) {s : State}  (hm : Within 0x1000000000000000000000000000000000 fr) (hk : Kept fr z0 s) : Kept fr z0 (setPoolFree s pool n) := by
  unfold setPoolFree
  repeat' first
    | with_reducible assumption
    | with_reducible exact Stands.same
    | ((with_reducible refine Within.trans ?_ hm); rfl)
    | with_reducible apply State.fset_kept
    | with_reducible refine Kept.ite (fun _ => ?_) (fun _ => ?_)

theorem bufTake_kept {fr : Nat} {z0 : State} (id : Nat) (pool : Nat) (owner : Nat) (charge : Option (Nat × Nat)) {s : State}  (hm : Within 0x2000020008000000000000000000000000000000000000001100000000000000000000000000000010b fr) (hk : Kept fr z0 s) : Kept fr z0 (bufTake s id pool owner charge) := by
  unfold bufTake
  repeat' first
    | with_reducible assumption
    | with_reducible exact Stands.same
    | ((with_reducible refine Within.trans ?_ hm); rfl)
    | with_reducible apply State.draw_kept
    | with_reducible apply State.setBuf_kept
    | with_reducible apply setPoolFree_kept
    | with_reducible apply State.fset_kept
    | with_reducible apply State.modFrame_kept
    | with_reducible apply State.count_kept
    | with_reducible apply ingAdd_kept
    | with_reducible refine Kept.ite (fun _ => ?_) (fun _ => ?_)
    | with_reducible refine Kept.foldl (fun _ _ _ => ?_) ?_
    | with_reducible refine Kept.foldlSnd (fun _ _ _ => ?_) ?_
    | with_reducible refine Kept.iteSnd (fun _ => ?_) (fun _ => ?_)
    | (with_reducible refine Kept.snd (by assumption) ?_)
    | dsimp only
    | split

theorem bufUncharge_kept {fr : Nat} {z0 : State} (b : Nat × Nat) (v : Buf) {s : State}  (hm : Within 0x2000020000000000000000000000000000000000000000001000000000000000000000000000000010a fr) (hk : Kept fr z0 s) : Kept fr z0 (bufUncharge s b v) := by
  unfold bufUncharge
  repeat' first
    | with_reducible assumption
    | with_reducible exact Stands.same
    | ((with_reducible refine Within.trans ?_ hm); rfl)
    | with_reducible apply State.fset_kept
    | with_reducible apply ingAdd_kept
    | with_reducible apply State.modFrame_kept
    | with_reducible refine Kept.ite (fun _ => ?_) (fun _ => ?_)

theorem bufLog_kept {fr : Nat} {z0 : State} (b : Nat × Nat) (requester : Nat) (owner : Nat) (kind : Nat) {s : State}  (hm : Within 0x2000000000000000000000000000000000 fr) (hk : Kept fr z0 s) : Kept fr z0 (bufLog s b requester owner kind) := by
  unfold bufLog
  repeat' first
    | with_reducible assumption
    | with_reducible exact Stands.same
    | ((with_reducible refine Within.trans ?_ hm); rfl)
    | with_reducible apply State.fset_kept

theorem bufForget_kept {fr : Nat} {z0 : State} (b : Nat × Nat) {s : State}  (hm : Within 0x8 fr) (hk : Kept fr z0 s) : Kept fr z0 (bufForget s b) := by
  unfold bufForget
  repeat' first
    | with_reducible assumption
    | with_reducible exact Stands.same
    | ((with_reducible refine Stands.hit (Within.trans ?_ hm)); rfl)
    | with_reducible refine Kept.ite (fun _ => ?_) (fun _ => ?_)
    | with_reducible refine Kept.foldl (fun _ _ _ => ?_) ?_
    | (fail_if_success with_reducible refine Kept.eta ?_); (with_reducible refine Kept.build ?_ rfl rfl ?_ ?_ ?_ ?_ ?_ ?_ ?_ ?_ ?_ ?_ ?_ ?_ ?_ ?_ ?_ ?_ ?_ ?_ ?_ ?_ ?_ ?_ ?_)

theorem bufRelease_kept {fr : Nat} {z0 : State} (b : Nat × Nat) (requester : Nat) {s : State}  (hm : Within 0x20000200d0000000000000000000000000000000000000001380000000000000000000008000041010e fr) (hk : Kept fr z0 s) : Kept fr z0 (bufRelease s b requester) := by
  unfold bufRelease
  repeat' first
    | with_reducible assumption
    | with_reducible exact Stands.same
    | ((with_reducible refine Within.trans ?_ hm); rfl)
    | with_reducible apply bufLog_kept
    | with_reducible apply State.count_kept
    | with_reducible apply State.event_kept
    | with_reducible apply bufForget_kept
    | with_reducible apply bufUncharge_kept
    | with_reducible apply State.setBuf_kept
    | with_reducible apply State.fset_kept
    | with_reducible refine Kept.ite (fun _ => ?_) (fun _ => ?_)
    | with_reducible refine Kept.foldl (fun _ _ _ => ?_) ?_
    | (with_reducible refine Kept.snd (by assumption) ?_)
    | dsimp only
    | split

theorem bufHeir_kept {fr : Nat} {z0 : State} (id : Nat) (f : Frame) {s : State}  (hm : Within 0x108 fr) (hk : Kept fr z0 s) : Kept fr z0 (bufHeir s id f) := by
  unfold bufHeir
  repeat' first
    | with_reducible assumption
    | with_reducible exact Stands.same
    | ((with_reducible refine Within.trans ?_ hm); rfl)
    | with_reducible apply State.setBuf_kept
    | with_reducible apply State.setFrame_kept
    | with_reducible refine Kept.ite (fun _ => ?_) (fun _ => ?_)
    | with_reducible refine Kept.foldl (fun _ _ _ => ?_) ?_
    | (with_reducible refine Kept.snd (by assumption) ?_)
    | dsimp only
    | split

theorem frameRelease1_kept {fr : Nat} {z0 : State} (id : Nat) {s : State}  (hm : Within 0x20000200d0000000000000000000000000000000000000001380000000000000000000008000041018e fr) (hk : Kept fr z0 s) : Kept fr z0 (frameRelease1 s id) := by
  unfold frameRelease1
  repeat' first
    | with_reducible assumption
    | with_reducible exact Stands.same
    | ((with_reducible refine Within.trans ?_ hm); rfl)
    | with_reducible apply bufRelease_kept
    | with_reducible apply bufHeir_kept
    | with_reducible apply State.delFrame_kept
    | with_reducible apply State.modFrame_kept
    | with_reducible refine Kept.ite (fun _ => ?_) (fun _ => ?_)
    | with_reducible refine Kept.foldl (fun _ _ _ => ?_) ?_
    | (with_reducible refine Kept.snd (by assumption) ?_)
    | dsimp only
    | split

theorem dropSample_kept {fr : Nat} {z0 : State} (f : Frame) (reason : Nat) (out : Option (Nat × Nat)) {s : State}  (hm : Within 0x800e0000000000000000000000000000000000000000000000000000000000000000000002000000000000080000430007 fr) (hk : Kept fr z0 s) : Kept fr z0 (dropSample s f reason out) := by
  unfold dropSample
  repeat' first
    | with_reducible assumption
    | with_reducible exact Stands.same
    | ((with_reducible refine Within.trans ?_ hm); rfl)
    | with_reducible apply State.draw_kept
    | with_reducible apply wheyEmit_kept
    | with_reducible refine Kept.ite (fun _ => ?_) (fun _ => ?_)

theorem injEnd_kept {fr : Nat} {z0 : State} (f : Frame) (status : Nat) (reason : Nat) (extra : Nat) {s : State}  (hm : Within 0x22040000000000000000000000000000000000000000000000000000000000000000000000000000000000010006 fr) (hk : Kept fr z0 s) : Kept fr z0 (injEnd s f status reason extra) := by
  unfold injEnd
  repeat' first
    | with_reducible assumption
    | with_reducible exact Stands.same
    | with_reducible apply injComplete_kept
    | with_reducible refine Kept.ite (fun _ => ?_) (fun _ => ?_)
    | with_reducible refine Kept.foldl (fun _ _ _ => ?_) ?_
    | (with_reducible refine Kept.snd (by assumption) ?_)
    | dsimp only
    | split

theorem dropFrame_kept {fr : Nat} {z0 : State} (id : Nat) (reason : Nat) (out : Option (Nat × Nat)) {s : State}  (hm : Within 0x800e0022040000020000200d0000000000000000000000000000000000000001380000000200000000000008000043018f fr) (hk : Kept fr z0 s) : Kept fr z0 (dropFrame s id reason out) := by
  unfold dropFrame
  repeat' first
    | with_reducible assumption
    | with_reducible exact Stands.same
    | ((with_reducible refine Within.trans ?_ hm); rfl)
    | with_reducible apply frameRelease1_kept
    | with_reducible apply injEnd_kept
    | with_reducible apply dropSample_kept

theorem raisePunt_kept {fr : Nat} {z0 : State} (id : Nat) (reason : Nat) (edited : Option (List Byte)) {s : State}  (hm : Within 0x88 fr) (hk : Kept fr z0 s) : Kept fr z0 (raisePunt s id reason edited) := by
  unfold raisePunt
  repeat' first
    | with_reducible assumption
    | with_reducible exact Stands.same
    | ((with_reducible refine Within.trans ?_ hm); rfl)
    | ((with_reducible refine Stands.hit (Within.trans ?_ hm)); rfl)
    | with_reducible apply State.modFrame_kept
    | with_reducible refine Kept.ite (fun _ => ?_) (fun _ => ?_)
    | with_reducible refine Kept.foldl (fun _ _ _ => ?_) ?_
    | (fail_if_success with_reducible refine Kept.eta ?_); (with_reducible refine Kept.build ?_ rfl rfl ?_ ?_ ?_ ?_ ?_ ?_ ?_ ?_ ?_ ?_ ?_ ?_ ?_ ?_ ?_ ?_ ?_ ?_ ?_ ?_ ?_ ?_ ?_)

theorem State.setQueue_kept {fr : Nat} {z0 : State} (q : Nat) (c : Nat) (v : Queue) {s : State}  (hm : Within 0x200 fr) (hk : Kept fr z0 s) : Kept fr z0 (State.setQueue s q c v) := by
  unfold State.setQueue
  repeat' first
    | with_reducible assumption
    | with_reducible exact Stands.same
    | ((with_reducible refine Stands.hit (Within.trans ?_ hm)); rfl)
    | with_reducible refine Kept.ite (fun _ => ?_) (fun _ => ?_)
    | with_reducible refine Kept.foldl (fun _ _ _ => ?_) ?_
    | (fail_if_success with_reducible refine Kept.eta ?_); (with_reducible refine Kept.build ?_ rfl rfl ?_ ?_ ?_ ?_ ?_ ?_ ?_ ?_ ?_ ?_ ?_ ?_ ?_ ?_ ?_ ?_ ?_ ?_ ?_ ?_ ?_ ?_ ?_)

theorem setVatFree_kept {fr : Nat} {z0 : State} (n : Nat) {s : State}  (hm : Within 0x8000000000000000000000000000000000 fr) (hk : Kept fr z0 s) : Kept fr z0 (setVatFree s n) := by
  unfold setVatFree
  repeat' first
    | with_reducible assumption
    | with_reducible exact Stands.same
    | ((with_reducible refine Within.trans ?_ hm); rfl)
    | with_reducible apply State.fset_kept
    | with_reducible refine Kept.ite (fun _ => ?_) (fun _ => ?_)

theorem deficitClear_kept {fr : Nat} {z0 : State} (q : Nat) (c : Nat) {s : State}  (hm : Within 0x200 fr) (hk : Kept fr z0 s) : Kept fr z0 (deficitClear s q c) := by
  unfold deficitClear
  repeat' first
    | with_reducible assumption
    | with_reducible exact Stands.same
    | ((with_reducible refine Stands.hit (Within.trans ?_ hm)); rfl)
    | with_reducible refine Kept.ite (fun _ => ?_) (fun _ => ?_)
    | with_reducible refine Kept.foldl (fun _ _ _ => ?_) ?_
    | (fail_if_success with_reducible refine Kept.eta ?_); (with_reducible refine Kept.build ?_ rfl rfl ?_ ?_ ?_ ?_ ?_ ?_ ?_ ?_ ?_ ?_ ?_ ?_ ?_ ?_ ?_ ?_ ?_ ?_ ?_ ?_ ?_ ?_ ?_)

theorem putQueue_kept {fr : Nat} {z0 : State} (q : Nat) (c : Nat) (v : Queue) {s : State}  (hm : Within 0xc0000000000000000000000000000000000000000000000008000000000000000000000000000000200 fr) (hk : Kept fr z0 s) : Kept fr z0 (putQueue s q c v) := by
  unfold putQueue
  repeat' first
    | with_reducible assumption
    | with_reducible exact Stands.same
    | ((with_reducible refine Within.trans ?_ hm); rfl)
    | ((with_reducible refine Stands.hit (Within.trans ?_ hm)); rfl)
    | with_reducible apply State.setQueue_kept
    | with_reducible apply deficitClear_kept
    | with_reducible apply setVatFree_kept
    | with_reducible apply State.gmax_kept
    | with_reducible refine Kept.ite (fun _ => ?_) (fun _ => ?_)
    | with_reducible refine Kept.foldl (fun _ _ _ => ?_) ?_
    | (fail_if_success with_reducible refine Kept.eta ?_); (with_reducible refine Kept.build ?_ rfl rfl ?_ ?_ ?_ ?_ ?_ ?_ ?_ ?_ ?_ ?_ ?_ ?_ ?_ ?_ ?_ ?_ ?_ ?_ ?_ ?_ ?_ ?_ ?_)

theorem wmJudge_kept {fr : Nat} {z0 : State} (q : Nat) (c : Nat) {s : State}  (hm : Within 0x800e0000000000000000000000000000000000000000000000000000000000000000000002000000000000080000430206 fr) (hk : Kept fr z0 s) : Kept fr z0 (wmJudge s q c) := by
  unfold wmJudge
  repeat' first
    | with_reducible assumption
    | with_reducible exact Stands.same
    | ((with_reducible refine Within.trans ?_ hm); rfl)
    | ((with_reducible refine Stands.hit (Within.trans ?_ hm)); rfl)
    | with_reducible apply wheyEmit_kept
    | with_reducible refine Kept.ite (fun _ => ?_) (fun _ => ?_)
    | with_reducible refine Kept.foldl (fun _ _ _ => ?_) ?_
    | (fail_if_success with_reducible refine Kept.eta ?_); (with_reducible refine Kept.build ?_ rfl rfl ?_ ?_ ?_ ?_ ?_ ?_ ?_ ?_ ?_ ?_ ?_ ?_ ?_ ?_ ?_ ?_ ?_ ?_ ?_ ?_ ?_ ?_ ?_)

theorem ecnJudge_kept {fr : Nat} {z0 : State} (f : Frame) (q : Nat) (c : Nat) {s : State}  (hm : Within 0x8000000000000000000000000000000000000000000000000000000000000000000000000000003 fr) (hk : Kept fr z0 s) : Kept fr z0 (ecnJudge s f q c).2 := by
  unfold ecnJudge
  repeat' first
    | with_reducible assumption
    | with_reducible exact Stands.same
    | ((with_reducible refine Within.trans ?_ hm); rfl)
    | with_reducible apply State.count_kept
    | with_reducible apply State.draw_kept
    | with_reducible refine Kept.ite (fun _ => ?_) (fun _ => ?_)
    | with_reducible refine Kept.foldl (fun _ _ _ => ?_) ?_
    | with_reducible refine Kept.foldlSnd (fun _ _ _ => ?_) ?_
    | with_reducible refine Kept.iteSnd (fun _ => ?_) (fun _ => ?_)

theorem dropCopy_kept {fr : Nat} {z0 : State} (e : Copy) (q : Nat) (c : Nat) (reason : Nat) {s : State}  (hm : Within 0x800e0022040000020000200d0000000000000000000000000000000000000001380000000200000000000008000043018f fr) (hk : Kept fr z0 s) : Kept fr z0 (dropCopy s e q c reason) := by
  unfold dropCopy
  repeat' first
    | with_reducible assumption
    | with_reducible exact Stands.same
    | ((with_reducible refine Within.trans ?_ hm); rfl)
    | with_reducible apply dropFrame_kept
    | with_reducible apply frameRelease1_kept
    | with_reducible apply dropSample_kept
    | with_reducible refine Kept.ite (fun _ => ?_) (fun _ => ?_)
    | with_reducible refine Kept.foldl (fun _ _ _ => ?_) ?_
    | (with_reducible refine Kept.snd (by assumption) ?_)
    | dsimp only
    | split

theorem copyEnd_kept {fr : Nat} {z0 : State} (e : Copy) {s : State}  (hm : Within 0x20000200d0000000000000000000000000000000000000001380000000000000000000008000041018e fr) (hk : Kept fr z0 s) : Kept fr z0 (copyEnd s e) := by
  unfold copyEnd
  repeat' first
    | with_reducible assumption
    | with_reducible exact Stands.same
    | ((with_reducible refine Within.trans ?_ hm); rfl)
    | with_reducible apply frameRelease1_kept
    | with_reducible apply State.delFrame_kept
    | with_reducible apply State.modFrame_kept
    | with_reducible refine Kept.ite (fun _ => ?_) (fun _ => ?_)

theorem place_kept {fr : Nat} {z0 : State} (e : Copy) (q : Nat) (c : Nat) {s : State}  (hm : Within 0x800e00220400000e0007e00d0000000000000000000000000000000000000001b80000000200000000000008000043038f fr) (hk : Kept fr z0 s) : Kept fr z0 (place s e q c) := by
  unfold place
  repeat' first
    | with_reducible assumption
    | with_reducible exact Stands.same
    | ((with_reducible refine Within.trans ?_ hm); rfl)
    | with_reducible apply putQueue_kept
    | with_reducible apply State.count_kept
    | with_reducible apply dropCopy_kept
    | with_reducible apply State.event_kept
    | with_reducible refine Kept.ite (fun _ => ?_) (fun _ => ?_)

theorem enqueue_kept {fr : Nat} {z0 : State} (id : Nat) (k : CopyKind) (q : Nat) (c : Nat) (launch : Option (Nat × Nat)) {s : State}  (hm : Within 0x800e00220400000e090fe00d0000000000000000000000000010000000000001b80000000208000000000008000043038f fr) (hk : Kept fr z0 s) : Kept fr z0 (enqueue s id k q c launch) := by
  unfold enqueue
  repeat' first
    | with_reducible assumption
    | with_reducible exact Stands.same
    | ((with_reducible refine Within.trans ?_ hm); rfl)
    | with_reducible apply dropCopy_kept
    | with_reducible apply frameRelease1_kept
    | with_reducible apply State.count_kept
    | with_reducible apply wmJudge_kept
    | with_reducible apply ecnJudge_kept
    | with_reducible apply place_kept
    | with_reducible refine Kept.ite (fun _ => ?_) (fun _ => ?_)
    | with_reducible refine Kept.foldl (fun _ _ _ => ?_) ?_
    | with_reducible refine Kept.foldlSnd (fun _ _ _ => ?_) ?_
    | with_reducible refine Kept.iteSnd (fun _ => ?_) (fun _ => ?_)
    | (with_reducible refine Kept.snd (by assumption) ?_)
    | dsimp only
    | split

theorem enqueueBuilt_kept {fr : Nat} {z0 : State} (bytes : List Byte) (q : Nat) (c : Nat) {s : State}  (hm : Within 0x800e00220400000e090fe00d0000000000000000000000000010000000000001b80000000208000000000008000043038f fr) (hk : Kept fr z0 s) : Kept fr z0 (enqueueBuilt s bytes q c) := by
  unfold enqueueBuilt
  repeat' first
    | with_reducible assumption
    | with_reducible exact Stands.same
    | ((with_reducible refine Within.trans ?_ hm); rfl)
    | with_reducible apply State.draw_kept
    | with_reducible apply enqueue_kept
    | with_reducible apply State.newFrame_kept

theorem flushEntries_kept {fr : Nat} {z0 : State} (l : List Copy) (q : Nat) (c : Nat) {s : State}  (hm : Within 0x800e0022040000020000200d0000000000000000000000000060000000000001380000000200000000000008000043018f fr) (hk : Kept fr z0 s) : Kept fr z0 (flushEntries s l q c) := by
  induction l generalizing s q c with
  | nil =>
    unfold flushEntries
    repeat' first
      | with_reducible assumption
  | cons y ys ih =>
    unfold flushEntries
    repeat' first
      | with_reducible assumption
      | with_reducible exact Stands.same
      | ((with_reducible refine Within.trans ?_ hm); rfl)
      | with_reducible apply State.count_kept
      | with_reducible apply dropSample_kept
      | with_reducible apply injEnd_kept
      | with_reducible apply copyEnd_kept
      | with_reducible apply ih
      | with_reducible refine Kept.ite (fun _ => ?_) (fun _ => ?_)
      | with_reducible refine Kept.foldl (fun _ _ _ => ?_) ?_
      | (with_reducible refine Kept.snd (by assumption) ?_)
      | dsimp only
      | split

theorem flushQueue_kept {fr : Nat} {z0 : State} (q : Nat) (c : Nat) {s : State}  (hm : Within 0x800e00220400000e0000200d0000000000000000000000000060000000000001b80000000200000000000008000043038f fr) (hk : Kept fr z0 s) : Kept fr z0 (flushQueue s q c) := by
  unfold flushQueue
  repeat' first
    | with_reducible assumption
    | with_reducible exact Stands.same
    | ((with_reducible refine Within.trans ?_ hm); rfl)
    | with_reducible apply flushEntries_kept
    | with_reducible apply putQueue_kept

theorem flushPort_kept {fr : Nat} {z0 : State} (q : Nat) {s : State}  (hm : Within 0x800e00220400000e0000200d0000000000000000000000000060000000000001b80000000200000000000008000043038f fr) (hk : Kept fr z0 s) : Kept fr z0 (flushPort s q) := by
  unfold flushPort
  repeat' first
    | with_reducible assumption
    | with_reducible exact Stands.same
    | with_reducible apply flushQueue_kept
    | with_reducible refine Kept.ite (fun _ => ?_) (fun _ => ?_)
    | with_reducible refine Kept.foldl (fun _ _ _ => ?_) ?_

theorem applyEdits_kept {fr : Nat} {z0 : State} (q : Nat) (f : Frame) (b : List Byte) (l : List Edit) {s : State}  (hm : Within 0x1000000000000000000000000000000000000000000000000000000000000000000000000000000002 fr) (hk : Kept fr z0 s) : Kept fr z0 (applyEdits s q f b l).2 := by
  unfold applyEdits
  repeat' first
    | with_reducible assumption
    | with_reducible exact Stands.same
    | ((with_reducible refine Within.trans ?_ hm); rfl)
    | with_reducible apply State.count_kept
    | with_reducible refine Kept.ite (fun _ => ?_) (fun _ => ?_)

theorem ptpEdit_kept {fr : Nat} {z0 : State} (q : Nat) (w : Nat) (f : Frame) (b : List Byte) (l4 : Nat × Nat) (stamp : Nat) {s : State}  (hm : Within 0xc000000000000000000000000000000000000000000000000000100000000000000000000000000002 fr) (hk : Kept fr z0 s) : Kept fr z0 (ptpEdit s q w f b l4 stamp).2 := by
  unfold ptpEdit
  repeat' first
    | with_reducible assumption
    | with_reducible exact Stands.same
    | ((with_reducible refine Within.trans ?_ hm); rfl)
    | with_reducible apply State.count_kept
    | with_reducible refine Kept.ite (fun _ => ?_) (fun _ => ?_)
    | with_reducible refine Kept.foldl (fun _ _ _ => ?_) ?_
    | (with_reducible refine Kept.snd (by assumption) ?_)
    | dsimp only
    | split

theorem editMain_kept {fr : Nat} {z0 : State} (q : Nat) (w : Nat) (f : Frame) (ce : Bool) (nh : Option (Nat × Nat × Nat)) (stamp : Nat) {s : State}  (hm : Within 0xf000000000000000000000000000000000000000000000000000100000000000000000000000000002 fr) (hk : Kept fr z0 s) : Kept fr z0 (editMain s q w f ce nh stamp).2 := by
  unfold editMain
  repeat' first
    | with_reducible assumption
    | with_reducible exact Stands.same
    | ((with_reducible refine Within.trans ?_ hm); rfl)
    | with_reducible apply applyEdits_kept
    | with_reducible apply State.count_kept
    | with_reducible apply ptpEdit_kept
    | with_reducible refine Kept.ite (fun _ => ?_) (fun _ => ?_)
    | with_reducible refine Kept.foldl (fun _ _ _ => ?_) ?_
    | with_reducible refine Kept.foldlSnd (fun _ _ _ => ?_) ?_
    | with_reducible refine Kept.iteSnd (fun _ => ?_) (fun _ => ?_)

theorem editMirror_kept {fr : Nat} {z0 : State} (q : Nat) (f : Frame) (m : Nat) (ce : Bool) (nh : Option (Nat × Nat × Nat)) {s : State}  (hm : Within 0x1000000000000000000000000000000000000000000000000000000000000000000000000000000002 fr) (hk : Kept fr z0 s) : Kept fr z0 (editMirror s q f m ce nh).2 := by
  unfold editMirror
  repeat' first
    | with_reducible assumption
    | with_reducible exact Stands.same
    | with_reducible apply applyEdits_kept
    | with_reducible refine Kept.ite (fun _ => ?_) (fun _ => ?_)
    | with_reducible refine Kept.foldl (fun _ _ _ => ?_) ?_
    | with_reducible refine Kept.foldlSnd (fun _ _ _ => ?_) ?_
    | with_reducible refine Kept.iteSnd (fun _ => ?_) (fun _ => ?_)

theorem spray_kept {fr : Nat} {z0 : State} (d : Nat) (c : Nat) {s : State}  (hm : Within 0x400 fr) (hk : Kept fr z0 s) : KeptP fr z0 (spray s d c) := by
  unfold spray
  repeat' first
    | with_reducible assumption
    | with_reducible exact Stands.same
    | ((with_reducible refine Stands.hit (Within.trans ?_ hm)); rfl)
    | with_reducible exact KeptP.none
    | with_reducible apply KeptP.some
    | with_reducible refine KeptP.ite (fun _ => ?_) (fun _ => ?_)
    | with_reducible refine Kept.ite (fun _ => ?_) (fun _ => ?_)
    | with_reducible refine Kept.foldl (fun _ _ _ => ?_) ?_
    | (fail_if_success with_reducible refine Kept.eta ?_); (with_reducible refine Kept.build ?_ rfl rfl ?_ ?_ ?_ ?_ ?_ ?_ ?_ ?_ ?_ ?_ ?_ ?_ ?_ ?_ ?_ ?_ ?_ ?_ ?_ ?_ ?_ ?_ ?_)
    | (with_reducible refine Kept.snd (by assumption) ?_)
    | dsimp only
    | split

theorem setCopies_kept {fr : Nat} {z0 : State} (id : Nat) (n : Nat) {s : State}  (hm : Within 0x108 fr) (hk : Kept fr z0 s) : Kept fr z0 (setCopies s id n) := by
  unfold setCopies
  repeat' first
    | with_reducible assumption
    | with_reducible exact Stands.same
    | ((with_reducible refine Within.trans ?_ hm); rfl)
    | with_reducible apply State.modFrame_kept
    | with_reducible apply State.setBuf_kept
    | with_reducible refine Kept.ite (fun _ => ?_) (fun _ => ?_)
    | with_reducible refine Kept.foldl (fun _ _ _ => ?_) ?_
    | (with_reducible refine Kept.snd (by assumption) ?_)
    | dsimp only
    | split

theorem releaseMirror_kept {fr : Nat} {z0 : State} (id : Nat) (f : Frame) {s : State}  (hm : Within 0x800e00220400002e090fe00d0000000000000000000000000010000000000001b80000000208000000000008000043038f fr) (hk : Kept fr z0 s) : Kept fr z0 (releaseMirror s id f) := by
  unfold releaseMirror
  repeat' first
    | with_reducible assumption
    | with_reducible exact Stands.same
    | ((with_reducible refine Within.trans ?_ hm); rfl)
    | with_reducible apply frameRelease1_kept
    | with_reducible apply State.count_kept
    | with_reducible apply enqueue_kept
    | with_reducible refine Kept.ite (fun _ => ?_) (fun _ => ?_)
    | with_reducible refine Kept.foldl (fun _ _ _ => ?_) ?_
    | (with_reducible refine Kept.snd (by assumption) ?_)
    | dsimp only
    | split

theorem fabricSend_kept {fr : Nat} {z0 : State} (id : Nat) (d : Nat) (c : Nat) {s : State}  (hm : Within 0x800e00220400118e090fe00d0000000000000000000000000010000000000001b80000000208000000000008000043078f fr) (hk : Kept fr z0 s) : Kept fr z0 (fabricSend s id d c) := by
  unfold fabricSend
  repeat' first
    | with_reducible assumption
    | with_reducible exact Stands.same
    | ((with_reducible refine Within.trans ?_ hm); rfl)
    | ((with_reducible refine Stands.hit (Within.trans ?_ hm)); rfl)
    | with_reducible apply spray_kept
    | with_reducible apply dropFrame_kept
    | with_reducible apply State.count_kept
    | with_reducible apply State.modFrame_kept
    | with_reducible apply enqueue_kept
    | with_reducible refine Kept.ite (fun _ => ?_) (fun _ => ?_)
    | with_reducible refine Kept.foldl (fun _ _ _ => ?_) ?_
    | with_reducible refine Kept.foldlSnd (fun _ _ _ => ?_) ?_
    | with_reducible refine Kept.iteSnd (fun _ => ?_) (fun _ => ?_)
    | (fail_if_success with_reducible refine Kept.eta ?_); (with_reducible refine Kept.build ?_ rfl rfl ?_ ?_ ?_ ?_ ?_ ?_ ?_ ?_ ?_ ?_ ?_ ?_ ?_ ?_ ?_ ?_ ?_ ?_ ?_ ?_ ?_ ?_ ?_)
    | (with_reducible refine Kept.snd (by assumption) ?_)
    | (with_reducible refine KeptP.elim (by assumption) ?_)
    | with_reducible refine KeptP.mapSnd (fun _ _ _ => ?_) ?_
    | with_reducible refine KeptP.map (fun _ => ?_)
    | with_reducible refine KeptP.ite (fun _ => ?_) (fun _ => ?_)
    | dsimp only
    | split

theorem releaseMain_kept {fr : Nat} {z0 : State} (id : Nat) (f : Frame) {s : State}  (hm : Within 0x10800e0022040011ce090fe00d0000000000000000000000000010000000000001b80000000208000000000008000043078f fr) (hk : Kept fr z0 s) : Kept fr z0 (releaseMain s id f) := by
  unfold releaseMain
  repeat' first
    | with_reducible assumption
    | with_reducible exact Stands.same
    | ((with_reducible refine Within.trans ?_ hm); rfl)
    | with_reducible apply State.modFrame_kept
    | with_reducible apply dropFrame_kept
    | with_reducible apply enqueue_kept
    | with_reducible apply fabricSend_kept
    | with_reducible apply State.count_kept
    | with_reducible apply raisePunt_kept
    | with_reducible refine Kept.ite (fun _ => ?_) (fun _ => ?_)
    | with_reducible refine Kept.foldl (fun _ _ _ => ?_) ?_
    | (with_reducible refine Kept.snd (by assumption) ?_)
    | dsimp only
    | split

theorem releaseFrame_kept {fr : Nat} {z0 : State} (id : Nat) {s : State}  (hm : Within 0x10800e0022040011ee090fe00d0000000000000000000000000010000000000001b80000000208000000000008000043078f fr) (hk : Kept fr z0 s) : Kept fr z0 (releaseFrame s id) := by
  unfold releaseFrame
  repeat' first
    | with_reducible assumption
    | with_reducible exact Stands.same
    | ((with_reducible refine Within.trans ?_ hm); rfl)
    | with_reducible apply releaseMirror_kept
    | with_reducible apply releaseMain_kept
    | with_reducible apply setCopies_kept

theorem stompTx_kept {fr : Nat} {z0 : State} (id : Nat) {s : State}  (hm : Within 0x200 fr) (hk : Kept fr z0 s) : Kept fr z0 (stompTx s id) := by
  unfold stompTx
  repeat' first
    | with_reducible assumption
    | with_reducible exact Stands.same
    | ((with_reducible refine Stands.hit (Within.trans ?_ hm)); rfl)
    | with_reducible refine Kept.ite (fun _ => ?_) (fun _ => ?_)
    | with_reducible refine Kept.foldl (fun _ _ _ => ?_) ?_
    | (fail_if_success with_reducible refine Kept.eta ?_); (with_reducible refine Kept.build ?_ rfl rfl ?_ ?_ ?_ ?_ ?_ ?_ ?_ ?_ ?_ ?_ ?_ ?_ ?_ ?_ ?_ ?_ ?_ ?_ ?_ ?_ ?_ ?_ ?_)

theorem pullQueue_kept {fr : Nat} {z0 : State} (id : Nat) (keep : Bool) (k : Key) {s : State}  (hm : Within 0xe0000200d0000000000000000000000000000000000000001b80000000000000000000008000041038e fr) (hk : Kept fr z0 s) : Kept fr z0 (pullQueue s id keep k) := by
  unfold pullQueue
  repeat' first
    | with_reducible assumption
    | with_reducible exact Stands.same
    | ((with_reducible refine Within.trans ?_ hm); rfl)
    | with_reducible apply putQueue_kept
    | with_reducible apply copyEnd_kept
    | with_reducible refine Kept.ite (fun _ => ?_) (fun _ => ?_)
    | with_reducible refine Kept.foldl (fun _ _ _ => ?_) ?_

theorem heldShow_kept {fr : Nat} {z0 : State} {s : State}  (hm : Within 0x10000000000000000000000000000000000000000000000000000800000000000000000000000000000000000 fr) (hk : Kept fr z0 s) : Kept fr z0 (heldShow s) := by
  unfold heldShow
  repeat' first
    | with_reducible assumption
    | with_reducible exact Stands.same
    | ((with_reducible refine Within.trans ?_ hm); rfl)
    | with_reducible apply State.fset_kept
    | with_reducible apply State.gmax_kept

theorem unhold_kept {fr : Nat} {z0 : State} (id : Nat) {s : State}  (hm : Within 0x10000000000000000000000000000000000000000000000000000800000000000000000000000000000000400 fr) (hk : Kept fr z0 s) : Kept fr z0 (unhold s id) := by
  unfold unhold
  repeat' first
    | with_reducible assumption
    | with_reducible exact Stands.same
    | ((with_reducible refine Within.trans ?_ hm); rfl)
    | ((with_reducible refine Stands.hit (Within.trans ?_ hm)); rfl)
    | with_reducible apply heldShow_kept
    | with_reducible refine Kept.ite (fun _ => ?_) (fun _ => ?_)
    | with_reducible refine Kept.foldl (fun _ _ _ => ?_) ?_
    | (fail_if_success with_reducible refine Kept.eta ?_); (with_reducible refine Kept.build ?_ rfl rfl ?_ ?_ ?_ ?_ ?_ ?_ ?_ ?_ ?_ ?_ ?_ ?_ ?_ ?_ ?_ ?_ ?_ ?_ ?_ ?_ ?_ ?_ ?_)

theorem takeBack_kept {fr : Nat} {z0 : State} (id : Nat) (keep : Bool) {s : State}  (hm : Within 0x100000e0000200d0000000000000000000000000000000000000081b8000000000000000000000800004107ce fr) (hk : Kept fr z0 s) : Kept fr z0 (takeBack s id keep) := by
  unfold takeBack
  repeat' first
    | with_reducible assumption
    | with_reducible exact Stands.same
    | ((with_reducible refine Within.trans ?_ hm); rfl)
    | ((with_reducible refine Stands.hit (Within.trans ?_ hm)); rfl)
    | with_reducible apply pullQueue_kept
    | with_reducible apply unhold_kept
    | with_reducible refine Kept.ite (fun _ => ?_) (fun _ => ?_)
    | with_reducible refine Kept.foldl (fun _ _ _ => ?_) ?_
    | (fail_if_success with_reducible refine Kept.eta ?_); (with_reducible refine Kept.build ?_ rfl rfl ?_ ?_ ?_ ?_ ?_ ?_ ?_ ?_ ?_ ?_ ?_ ?_ ?_ ?_ ?_ ?_ ?_ ?_ ?_ ?_ ?_ ?_ ?_)

end Sys2Proof.Machine
end

