-- ==== Sys2Proof/Laws/KeptEgress.lean ====
section
/-! SUPPORT. No function of Machine/Egress, PortOps takes back what no command takes back: one lemma each. -/

namespace Sys2Proof.Machine

theorem shaperCharge_kept {fr : Nat} {z0 : State} (q : Nat) (c : Nat) (len : Nat) {s : State}  (hm : Within 0x200 fr) (hk : Kept fr z0 s) : Kept fr z0 (shaperCharge s q c len) := by
  unfold shaperCharge
  repeat' first
    | with_reducible assumption
    | with_reducible exact Stands.same
    | ((with_reducible refine Stands.hit (Within.trans ?_ hm)); rfl)
    | with_reducible refine Kept.ite (fun _ => ?_) (fun _ => ?_)
    | with_reducible refine Kept.foldl (fun _ _ _ => ?_) ?_
    | (fail_if_success with_reducible refine Kept.eta ?_); (with_reducible refine Kept.build ?_ rfl rfl ?_ ?_ ?_ ?_ ?_ ?_ ?_ ?_ ?_ ?_ ?_ ?_ ?_ ?_ ?_ ?_ ?_ ?_ ?_ ?_ ?_ ?_ ?_)

theorem shaperSettle_kept {fr : Nat} {z0 : State} (s0 : State) (q : Nat) (c : Nat) {s : State}  (hm : Within 0x200 fr) (hk : Kept fr z0 s) : Kept fr z0 (shaperSettle s0 s q c) := by
  unfold shaperSettle
  repeat' first
    | with_reducible assumption
    | with_reducible exact Stands.same
    | ((with_reducible refine Stands.hit (Within.trans ?_ hm)); rfl)
    | with_reducible refine Kept.ite (fun _ => ?_) (fun _ => ?_)
    | with_reducible refine Kept.foldl (fun _ _ _ => ?_) ?_
    | (fail_if_success with_reducible refine Kept.eta ?_); (with_reducible refine Kept.build ?_ rfl rfl ?_ ?_ ?_ ?_ ?_ ?_ ?_ ?_ ?_ ?_ ?_ ?_ ?_ ?_ ?_ ?_ ?_ ?_ ?_ ?_ ?_ ?_ ?_)

theorem schedApply_kept {fr : Nat} {z0 : State} (q : Nat) (c : Nat) {s : State}  (hm : Within 0x200 fr) (hk : Kept fr z0 s) : Kept fr z0 (schedApply s q c) := by
  unfold schedApply
  repeat' first
    | with_reducible assumption
    | with_reducible exact Stands.same
    | ((with_reducible refine Stands.hit (Within.trans ?_ hm)); rfl)
    | with_reducible apply shaperSettle_kept
    | with_reducible refine Kept.ite (fun _ => ?_) (fun _ => ?_)
    | with_reducible refine Kept.foldl (fun _ _ _ => ?_) ?_
    | (fail_if_success with_reducible refine Kept.eta ?_); (with_reducible refine Kept.build ?_ rfl rfl ?_ ?_ ?_ ?_ ?_ ?_ ?_ ?_ ?_ ?_ ?_ ?_ ?_ ?_ ?_ ?_ ?_ ?_ ?_ ?_ ?_ ?_ ?_)

theorem txClear_kept {fr : Nat} {z0 : State} (q : Nat) {s : State}  (hm : Within 0x200 fr) (hk : Kept fr z0 s) : Kept fr z0 (txClear s q) := by
  unfold txClear
  repeat' first
    | with_reducible assumption
    | with_reducible exact Stands.same
    | ((with_reducible refine Stands.hit (Within.trans ?_ hm)); rfl)
    | with_reducible apply schedApply_kept
    | with_reducible refine Kept.ite (fun _ => ?_) (fun _ => ?_)
    | with_reducible refine Kept.foldl (fun _ _ _ => ?_) ?_
    | (fail_if_success with_reducible refine Kept.eta ?_); (with_reducible refine Kept.build ?_ rfl rfl ?_ ?_ ?_ ?_ ?_ ?_ ?_ ?_ ?_ ?_ ?_ ?_ ?_ ?_ ?_ ?_ ?_ ?_ ?_ ?_ ?_ ?_ ?_)

theorem portStamp_kept {fr : Nat} {z0 : State} (q : Nat) (stamp : Nat) {s : State}  (hm : Within 0x1 fr) (hk : Kept fr z0 s) : Kept fr z0 (portStamp s q stamp).2 := by
  unfold portStamp
  repeat' first
    | with_reducible assumption
    | with_reducible exact Stands.same
    | with_reducible apply State.draw_kept
    | with_reducible refine Kept.ite (fun _ => ?_) (fun _ => ?_)
    | with_reducible refine Kept.foldl (fun _ _ _ => ?_) ?_
    | with_reducible refine Kept.foldlSnd (fun _ _ _ => ?_) ?_
    | with_reducible refine Kept.iteSnd (fun _ => ?_) (fun _ => ?_)

theorem takeHead_kept {fr : Nat} {z0 : State} (q : Nat) (c : Nat) {s : State}  (hm : Within 0xc0000000000000000000000000000000000000000000000008000000000000000000000000000000200 fr) (hk : Kept fr z0 s) : Kept fr z0 (takeHead s q c) := by
  unfold takeHead
  repeat' first
    | with_reducible assumption
    | with_reducible exact Stands.same
    | with_reducible apply putQueue_kept

theorem startFrame_kept {fr : Nat} {z0 : State} (q : Nat) (c : Nat) (e : Copy) {s : State}  (hm : Within 0xc0200000000000000000000000000000000000000000000008000000000100000000000000000000203 fr) (hk : Kept fr z0 s) : Kept fr z0 (startFrame s q c e) := by
  unfold startFrame
  repeat' first
    | with_reducible assumption
    | with_reducible exact Stands.same
    | ((with_reducible refine Within.trans ?_ hm); rfl)
    | ((with_reducible refine Stands.hit (Within.trans ?_ hm)); rfl)
    | with_reducible apply State.count_kept
    | with_reducible apply shaperCharge_kept
    | with_reducible apply takeHead_kept
    | with_reducible apply portStamp_kept
    | with_reducible refine Kept.ite (fun _ => ?_) (fun _ => ?_)
    | with_reducible refine Kept.foldl (fun _ _ _ => ?_) ?_
    | with_reducible refine Kept.foldlSnd (fun _ _ _ => ?_) ?_
    | with_reducible refine Kept.iteSnd (fun _ => ?_) (fun _ => ?_)
    | (fail_if_success with_reducible refine Kept.eta ?_); (with_reducible refine Kept.build ?_ rfl rfl ?_ ?_ ?_ ?_ ?_ ?_ ?_ ?_ ?_ ?_ ?_ ?_ ?_ ?_ ?_ ?_ ?_ ?_ ?_ ?_ ?_ ?_ ?_)

theorem lateDrop_kept {fr : Nat} {z0 : State} (q : Nat) (c : Nat) (e : Copy) {s : State}  (hm : Within 0x800e00220400000e0040200d0000000000000000000000000000000000000001b80000000200000000000008000043038f fr) (hk : Kept fr z0 s) : Kept fr z0 (lateDrop s q c e) := by
  unfold lateDrop
  repeat' first
    | with_reducible assumption
    | with_reducible exact Stands.same
    | ((with_reducible refine Within.trans ?_ hm); rfl)
    | with_reducible apply takeHead_kept
    | with_reducible apply State.count_kept
    | with_reducible apply injEnd_kept
    | with_reducible apply dropSample_kept
    | with_reducible apply copyEnd_kept

theorem lateJudge_kept {fr : Nat} {z0 : State} (fuel : Nat) (q : Nat) (c : Nat) {s : State}  (hm : Within 0x800e00220400000e0040200d0000000000000000000000000000000000000001b80000000210000000000008000043038f fr) (hk : Kept fr z0 s) : Kept fr z0 (lateJudge fuel s q c) := by
  induction fuel generalizing s q c with
  | zero =>
    unfold lateJudge
    repeat' first
      | with_reducible assumption
  | succ y ih =>
    unfold lateJudge
    repeat' first
      | with_reducible assumption
      | with_reducible exact Stands.same
      | ((with_reducible refine Within.trans ?_ hm); rfl)
      | with_reducible apply lateDrop_kept
      | with_reducible apply ih
      | with_reducible refine Kept.ite (fun _ => ?_) (fun _ => ?_)
      | with_reducible refine Kept.foldl (fun _ _ _ => ?_) ?_
      | (with_reducible refine Kept.snd (by assumption) ?_)
      | dsimp only
      | split

theorem serveDue_kept {fr : Nat} {z0 : State} (q : Nat) {s : State}  (hm : Within 0xc0280000000000000000000000000000000000000000000008000000000100000000000000000000203 fr) (hk : Kept fr z0 s) : KeptS fr z0 (serveDue s q) := by
  unfold serveDue
  repeat' first
    | with_reducible assumption
    | with_reducible exact Stands.same
    | ((with_reducible refine Within.trans ?_ hm); rfl)
    | with_reducible apply State.count_kept
    | with_reducible apply startFrame_kept
    | with_reducible exact KeptS.none
    | with_reducible apply KeptS.some
    | with_reducible refine KeptS.ite (fun _ => ?_) (fun _ => ?_)
    | with_reducible refine Kept.ite (fun _ => ?_) (fun _ => ?_)
    | with_reducible refine Kept.foldl (fun _ _ _ => ?_) ?_
    | (fail_if_success with_reducible refine Kept.eta ?_); (with_reducible refine Kept.build ?_ rfl rfl ?_ ?_ ?_ ?_ ?_ ?_ ?_ ?_ ?_ ?_ ?_ ?_ ?_ ?_ ?_ ?_ ?_ ?_ ?_ ?_ ?_ ?_ ?_)
    | (with_reducible refine Kept.snd (by assumption) ?_)
    | dsimp only
    | split

theorem dwrrLoop_kept {fr : Nat} {z0 : State} (fuel : Nat) (q : Nat) (g : Nat) (cs : List Nat) {s : State}  (hm : Within 0x80000000000000000000200 fr) (hk : Kept fr z0 s) : KeptP fr z0 (dwrrLoop fuel s q g cs) := by
  induction fuel generalizing s q g cs with
  | zero =>
    unfold dwrrLoop
    repeat' first
      | with_reducible assumption
      | with_reducible exact Stands.same
      | with_reducible exact KeptP.none
  | succ y ih =>
    unfold dwrrLoop
    repeat' first
      | with_reducible assumption
      | with_reducible exact Stands.same
      | ((with_reducible refine Stands.hit (Within.trans ?_ hm)); rfl)
      | with_reducible apply ih
      | with_reducible exact KeptP.none
      | with_reducible apply KeptP.some
      | with_reducible refine KeptP.ite (fun _ => ?_) (fun _ => ?_)
      | with_reducible refine Kept.ite (fun _ => ?_) (fun _ => ?_)
      | with_reducible refine Kept.foldl (fun _ _ _ => ?_) ?_
      | (fail_if_success with_reducible refine Kept.eta ?_); (with_reducible refine Kept.build ?_ rfl rfl ?_ ?_ ?_ ?_ ?_ ?_ ?_ ?_ ?_ ?_ ?_ ?_ ?_ ?_ ?_ ?_ ?_ ?_ ?_ ?_ ?_ ?_ ?_)
      | (with_reducible refine Kept.snd (by assumption) ?_)
      | dsimp only
      | split

theorem serveDwrr_kept {fr : Nat} {z0 : State} (q : Nat) {s : State}  (hm : Within 0xc0280000000000000000000000000000000000000000000008000000000180000000000000000000203 fr) (hk : Kept fr z0 s) : KeptS fr z0 (serveDwrr s q) := by
  unfold serveDwrr
  repeat' first
    | with_reducible assumption
    | with_reducible exact Stands.same
    | ((with_reducible refine Within.trans ?_ hm); rfl)
    | with_reducible apply dwrrLoop_kept
    | with_reducible apply startFrame_kept
    | with_reducible apply State.count_kept
    | with_reducible exact KeptS.none
    | with_reducible apply KeptS.some
    | with_reducible refine KeptS.ite (fun _ => ?_) (fun _ => ?_)
    | with_reducible refine Kept.ite (fun _ => ?_) (fun _ => ?_)
    | with_reducible refine Kept.foldl (fun _ _ _ => ?_) ?_
    | with_reducible refine Kept.foldlSnd (fun _ _ _ => ?_) ?_
    | with_reducible refine Kept.iteSnd (fun _ => ?_) (fun _ => ?_)
    | (fail_if_success with_reducible refine Kept.eta ?_); (with_reducible refine Kept.build ?_ rfl rfl ?_ ?_ ?_ ?_ ?_ ?_ ?_ ?_ ?_ ?_ ?_ ?_ ?_ ?_ ?_ ?_ ?_ ?_ ?_ ?_ ?_ ?_ ?_)
    | (with_reducible refine Kept.snd (by assumption) ?_)
    | (with_reducible refine KeptP.elim (by assumption) ?_)
    | with_reducible refine KeptP.mapSnd (fun _ _ _ => ?_) ?_
    | with_reducible refine KeptP.map (fun _ => ?_)
    | with_reducible refine KeptP.ite (fun _ => ?_) (fun _ => ?_)
    | dsimp only
    | split

theorem guardIdle_kept {fr : Nat} {z0 : State} (q : Nat) {s : State}  (hm : Within 0x400000000000000000000000000000000000000000000000000000000000000000000000000000002 fr) (hk : Kept fr z0 s) : Kept fr z0 (guardIdle s q) := by
  unfold guardIdle
  repeat' first
    | with_reducible assumption
    | with_reducible exact Stands.same
    | ((with_reducible refine Within.trans ?_ hm); rfl)
    | with_reducible apply State.count_kept
    | with_reducible refine Kept.ite (fun _ => ?_) (fun _ => ?_)

theorem guardTick_kept {fr : Nat} {z0 : State} {s : State}  (hm : Within 0x400000000000000000000000000000000000000000000000000000000000000000000000000000002 fr) (hk : Kept fr z0 s) : Kept fr z0 (guardTick s) := by
  unfold guardTick
  repeat' first
    | with_reducible assumption
    | with_reducible exact Stands.same
    | with_reducible apply guardIdle_kept
    | with_reducible refine Kept.ite (fun _ => ?_) (fun _ => ?_)
    | with_reducible refine Kept.foldl (fun _ _ _ => ?_) ?_

theorem lateAll_kept {fr : Nat} {z0 : State} (q : Nat) {s : State}  (hm : Within 0x800e00220400000e0040200d0000000000000000000000000000000000000001b80000000210000000000008000043038f fr) (hk : Kept fr z0 s) : Kept fr z0 (lateAll s q) := by
  unfold lateAll
  repeat' first
    | with_reducible assumption
    | with_reducible exact Stands.same
    | with_reducible apply lateJudge_kept
    | with_reducible refine Kept.ite (fun _ => ?_) (fun _ => ?_)
    | with_reducible refine Kept.foldl (fun _ _ _ => ?_) ?_

theorem execFrameTransmitStart_kept {fr : Nat} {z0 : State} (port : Nat) {s : State}  (hm : Within 0x800e00220400000e02c0200d0000000000000000000000000000000000000001b80000000218000000000008000043038f fr) (hk : Kept fr z0 s) : KeptO fr z0 (execFrameTransmitStart port s) := by
  unfold execFrameTransmitStart
  repeat' first
    | with_reducible assumption
    | with_reducible exact Stands.same
    | ((with_reducible refine Within.trans ?_ hm); rfl)
    | with_reducible apply lateAll_kept
    | with_reducible apply serveDue_kept
    | with_reducible apply serveDwrr_kept
    | with_reducible apply KeptO.next
    | with_reducible refine KeptO.ite (fun _ => ?_) (fun _ => ?_)
    | with_reducible refine Kept.ite (fun _ => ?_) (fun _ => ?_)
    | with_reducible refine Kept.foldl (fun _ _ _ => ?_) ?_
    | (with_reducible refine Kept.snd (by assumption) ?_)
    | (with_reducible refine KeptS.elim (by assumption) ?_)
    | with_reducible apply KeptS.getD
    | with_reducible refine KeptS.map (fun _ _ => ?_) ?_
    | dsimp only
    | split

theorem execLaunchDue_kept {fr : Nat} {z0 : State} (port : Nat) {s : State}  (hm : Within 0x800e00220400000e02c0200d0000000000000000000000000000000000000001b80000000210000000000008000043038f fr) (hk : Kept fr z0 s) : KeptO fr z0 (execLaunchDue port s) := by
  unfold execLaunchDue
  repeat' first
    | with_reducible assumption
    | with_reducible exact Stands.same
    | ((with_reducible refine Within.trans ?_ hm); rfl)
    | with_reducible apply lateAll_kept
    | with_reducible apply serveDue_kept
    | with_reducible apply KeptO.next
    | with_reducible refine KeptO.ite (fun _ => ?_) (fun _ => ?_)
    | with_reducible refine Kept.ite (fun _ => ?_) (fun _ => ?_)
    | with_reducible refine Kept.foldl (fun _ _ _ => ?_) ?_
    | (with_reducible refine Kept.snd (by assumption) ?_)
    | (with_reducible refine KeptS.elim (by assumption) ?_)
    | with_reducible apply KeptS.getD

theorem copyBytes_kept {fr : Nat} {z0 : State} (q : Nat) (t : Tx) {s : State}  (hm : Within 0xf000000000000000000000000000000000000000000000000000100000000000000000000000000002 fr) (hk : Kept fr z0 s) : Kept fr z0 (copyBytes s q t).2 := by
  unfold copyBytes
  repeat' first
    | with_reducible assumption
    | with_reducible exact Stands.same
    | ((with_reducible refine Within.trans ?_ hm); rfl)
    | with_reducible apply editMain_kept
    | with_reducible apply editMirror_kept
    | with_reducible refine Kept.ite (fun _ => ?_) (fun _ => ?_)
    | with_reducible refine Kept.foldl (fun _ _ _ => ?_) ?_
    | with_reducible refine Kept.foldlSnd (fun _ _ _ => ?_) ?_
    | with_reducible refine Kept.iteSnd (fun _ => ?_) (fun _ => ?_)
    | (with_reducible refine Kept.snd (by assumption) ?_)
    | dsimp only
    | split

theorem sendWire_kept {fr : Nat} {z0 : State} (q : Nat) (t : Tx) {s : State}  (hm : Within 0x2204000013f030200d0000000000000000000000000003000000000001380010000000000000000008000041018e fr) (hk : Kept fr z0 s) : Kept fr z0 (sendWire s q t) := by
  unfold sendWire
  repeat' first
    | with_reducible assumption
    | with_reducible exact Stands.same
    | ((with_reducible refine Within.trans ?_ hm); rfl)
    | with_reducible apply copyBytes_kept
    | with_reducible apply State.emit_kept
    | with_reducible apply State.count_kept
    | with_reducible apply injEnd_kept
    | with_reducible apply copyEnd_kept
    | with_reducible refine Kept.ite (fun _ => ?_) (fun _ => ?_)
    | with_reducible refine Kept.foldl (fun _ _ _ => ?_) ?_
    | with_reducible refine Kept.foldlSnd (fun _ _ _ => ?_) ?_
    | with_reducible refine Kept.iteSnd (fun _ => ?_) (fun _ => ?_)
    | (fail_if_success with_reducible refine Kept.eta ?_); (with_reducible refine Kept.build ?_ rfl rfl ?_ ?_ ?_ ?_ ?_ ?_ ?_ ?_ ?_ ?_ ?_ ?_ ?_ ?_ ?_ ?_ ?_ ?_ ?_ ?_ ?_ ?_ ?_)
    | (with_reducible refine Kept.snd (by assumption) ?_)
    | dsimp only
    | split

theorem sendCpu_kept {fr : Nat} {z0 : State} (t : Tx) {s : State}  (hm : Within 0x10f030000000000000000000000000000000000000000000000000100000000000000000000000000082 fr) (hk : Kept fr z0 s) : Kept fr z0 (sendCpu s t) := by
  unfold sendCpu
  repeat' first
    | with_reducible assumption
    | with_reducible exact Stands.same
    | ((with_reducible refine Within.trans ?_ hm); rfl)
    | ((with_reducible refine Stands.hit (Within.trans ?_ hm)); rfl)
    | with_reducible apply copyBytes_kept
    | with_reducible apply State.count_kept
    | with_reducible refine Kept.ite (fun _ => ?_) (fun _ => ?_)
    | with_reducible refine Kept.foldl (fun _ _ _ => ?_) ?_
    | with_reducible refine Kept.foldlSnd (fun _ _ _ => ?_) ?_
    | with_reducible refine Kept.iteSnd (fun _ => ?_) (fun _ => ?_)
    | (fail_if_success with_reducible refine Kept.eta ?_); (with_reducible refine Kept.build ?_ rfl rfl ?_ ?_ ?_ ?_ ?_ ?_ ?_ ?_ ?_ ?_ ?_ ?_ ?_ ?_ ?_ ?_ ?_ ?_ ?_ ?_ ?_ ?_ ?_)
    | (with_reducible refine Kept.snd (by assumption) ?_)
    | dsimp only
    | split

theorem execFrameTransmitEnd_kept {fr : Nat} {z0 : State} (port : Nat) {s : State}  (hm : Within 0x2204000013f030200d0000000000000000000000000003000000000001380010000000000000000008000041038e fr) (hk : Kept fr z0 s) : KeptO fr z0 (execFrameTransmitEnd port s) := by
  unfold execFrameTransmitEnd
  repeat' first
    | with_reducible assumption
    | with_reducible exact Stands.same
    | ((with_reducible refine Within.trans ?_ hm); rfl)
    | with_reducible apply txClear_kept
    | with_reducible apply sendCpu_kept
    | with_reducible apply sendWire_kept
    | with_reducible apply KeptO.next
    | with_reducible refine KeptO.ite (fun _ => ?_) (fun _ => ?_)
    | with_reducible refine Kept.ite (fun _ => ?_) (fun _ => ?_)
    | with_reducible refine Kept.foldl (fun _ _ _ => ?_) ?_
    | (with_reducible refine Kept.snd (by assumption) ?_)
    | dsimp only
    | split

theorem execGateEntryExpire_kept {fr : Nat} {z0 : State} (port : Nat) {s : State}  (hm : Within 0x200 fr) (hk : Kept fr z0 s) : KeptO fr z0 (execGateEntryExpire port s) := by
  unfold execGateEntryExpire
  repeat' first
    | with_reducible assumption
    | with_reducible exact Stands.same
    | ((with_reducible refine Stands.hit (Within.trans ?_ hm)); rfl)
    | with_reducible apply KeptO.next
    | with_reducible refine KeptO.ite (fun _ => ?_) (fun _ => ?_)
    | with_reducible refine Kept.ite (fun _ => ?_) (fun _ => ?_)
    | with_reducible refine Kept.foldl (fun _ _ _ => ?_) ?_
    | (fail_if_success with_reducible refine Kept.eta ?_); (with_reducible refine Kept.build ?_ rfl rfl ?_ ?_ ?_ ?_ ?_ ?_ ?_ ?_ ?_ ?_ ?_ ?_ ?_ ?_ ?_ ?_ ?_ ?_ ?_ ?_ ?_ ?_ ?_)
    | (with_reducible refine Kept.snd (by assumption) ?_)
    | dsimp only
    | split

theorem gateStart_kept {fr : Nat} {z0 : State} (q : Nat) (t : Nat) {s : State}  (hm : Within 0x200 fr) (hk : Kept fr z0 s) : Kept fr z0 (gateStart s q t) := by
  unfold gateStart
  repeat' first
    | with_reducible assumption
    | with_reducible exact Stands.same
    | ((with_reducible refine Stands.hit (Within.trans ?_ hm)); rfl)
    | with_reducible refine Kept.ite (fun _ => ?_) (fun _ => ?_)
    | with_reducible refine Kept.foldl (fun _ _ _ => ?_) ?_
    | (fail_if_success with_reducible refine Kept.eta ?_); (with_reducible refine Kept.build ?_ rfl rfl ?_ ?_ ?_ ?_ ?_ ?_ ?_ ?_ ?_ ?_ ?_ ?_ ?_ ?_ ?_ ?_ ?_ ?_ ?_ ?_ ?_ ?_ ?_)

theorem pfcSend_kept {fr : Nat} {z0 : State} (q : Nat) (pause : Nat) (resume : Nat) {s : State}  (hm : Within 0x100000000000000000000000000000000000000000000000000000000000000000000000000106 fr) (hk : Kept fr z0 s) : Kept fr z0 (pfcSend s q pause resume) := by
  unfold pfcSend
  repeat' first
    | with_reducible assumption
    | with_reducible exact Stands.same
    | ((with_reducible refine Within.trans ?_ hm); rfl)
    | ((with_reducible refine Stands.hit (Within.trans ?_ hm)); rfl)
    | with_reducible apply State.emit_kept
    | with_reducible apply State.count_kept
    | with_reducible refine Kept.ite (fun _ => ?_) (fun _ => ?_)
    | with_reducible refine Kept.foldl (fun _ _ _ => ?_) ?_
    | (fail_if_success with_reducible refine Kept.eta ?_); (with_reducible refine Kept.build ?_ rfl rfl ?_ ?_ ?_ ?_ ?_ ?_ ?_ ?_ ?_ ?_ ?_ ?_ ?_ ?_ ?_ ?_ ?_ ?_ ?_ ?_ ?_ ?_ ?_)

theorem execPfcFrameSend_kept {fr : Nat} {z0 : State} (port : Nat) {s : State}  (hm : Within 0x100000000000000000000000000000000000000000000000000000000000000000000000000106 fr) (hk : Kept fr z0 s) : KeptO fr z0 (execPfcFrameSend port s) := by
  unfold execPfcFrameSend
  repeat' first
    | with_reducible assumption
    | with_reducible exact Stands.same
    | ((with_reducible refine Stands.hit (Within.trans ?_ hm)); rfl)
    | with_reducible apply pfcSend_kept
    | with_reducible apply KeptO.next
    | with_reducible refine KeptO.ite (fun _ => ?_) (fun _ => ?_)
    | with_reducible refine Kept.ite (fun _ => ?_) (fun _ => ?_)
    | with_reducible refine Kept.foldl (fun _ _ _ => ?_) ?_
    | (fail_if_success with_reducible refine Kept.eta ?_); (with_reducible refine Kept.build ?_ rfl rfl ?_ ?_ ?_ ?_ ?_ ?_ ?_ ?_ ?_ ?_ ?_ ?_ ?_ ?_ ?_ ?_ ?_ ?_ ?_ ?_ ?_ ?_ ?_)
    | (with_reducible refine Kept.snd (by assumption) ?_)
    | dsimp only
    | split

theorem execPfcRefresh_kept {fr : Nat} {z0 : State} (port : Nat) (prio : Nat) {s : State}  (hm : Within 0x100000000000000000000000000000000000000000000000000000000000000000000000000106 fr) (hk : Kept fr z0 s) : KeptO fr z0 (execPfcRefresh port prio s) := by
  unfold execPfcRefresh
  repeat' first
    | with_reducible assumption
    | with_reducible exact Stands.same
    | ((with_reducible refine Within.trans ?_ hm); rfl)
    | ((with_reducible refine Stands.hit (Within.trans ?_ hm)); rfl)
    | with_reducible apply pfcSend_kept
    | with_reducible apply pfcOwe_kept
    | with_reducible apply KeptO.next
    | with_reducible refine KeptO.ite (fun _ => ?_) (fun _ => ?_)
    | with_reducible refine Kept.ite (fun _ => ?_) (fun _ => ?_)
    | with_reducible refine Kept.foldl (fun _ _ _ => ?_) ?_
    | (fail_if_success with_reducible refine Kept.eta ?_); (with_reducible refine Kept.build ?_ rfl rfl ?_ ?_ ?_ ?_ ?_ ?_ ?_ ?_ ?_ ?_ ?_ ?_ ?_ ?_ ?_ ?_ ?_ ?_ ?_ ?_ ?_ ?_ ?_)

theorem bufLeave_kept {fr : Nat} {z0 : State} (id : Nat) {s : State}  (hm : Within 0x108 fr) (hk : Kept fr z0 s) : Kept fr z0 (bufLeave s id) := by
  unfold bufLeave
  repeat' first
    | with_reducible assumption
    | with_reducible exact Stands.same
    | ((with_reducible refine Within.trans ?_ hm); rfl)
    | with_reducible apply bufHeir_kept
    | with_reducible apply State.setFrame_kept
    | with_reducible refine Kept.ite (fun _ => ?_) (fun _ => ?_)

theorem execVatWriteComplete_kept {fr : Nat} {z0 : State} (port : Nat) (cls : Nat) {s : State}  (hm : Within 0xe0000200d0200000000000000000000000000000000000001b80000000000000000000008000041030e fr) (hk : Kept fr z0 s) : KeptO fr z0 (execVatWriteComplete port cls s) := by
  unfold execVatWriteComplete
  repeat' first
    | with_reducible assumption
    | with_reducible exact Stands.same
    | ((with_reducible refine Within.trans ?_ hm); rfl)
    | with_reducible apply putQueue_kept
    | with_reducible apply State.count_kept
    | with_reducible apply bufLeave_kept
    | with_reducible apply bufRelease_kept
    | with_reducible apply KeptO.next
    | with_reducible refine KeptO.ite (fun _ => ?_) (fun _ => ?_)
    | with_reducible refine Kept.ite (fun _ => ?_) (fun _ => ?_)
    | with_reducible refine Kept.foldl (fun _ _ _ => ?_) ?_
    | (with_reducible refine Kept.snd (by assumption) ?_)
    | dsimp only
    | split

theorem execVatReadIssue_kept {fr : Nat} {z0 : State} (port : Nat) (cls : Nat) {s : State}  (hm : Within 0xc0000000000000000000000000000000000000000000000008000000000000000000000000000000200 fr) (hk : Kept fr z0 s) : KeptO fr z0 (execVatReadIssue port cls s) := by
  unfold execVatReadIssue
  repeat' first
    | with_reducible assumption
    | with_reducible exact Stands.same
    | with_reducible apply putQueue_kept
    | with_reducible apply KeptO.next
    | with_reducible refine KeptO.ite (fun _ => ?_) (fun _ => ?_)
    | with_reducible refine Kept.ite (fun _ => ?_) (fun _ => ?_)
    | with_reducible refine Kept.foldl (fun _ _ _ => ?_) ?_
    | (with_reducible refine Kept.snd (by assumption) ?_)
    | dsimp only
    | split

theorem execVatReadComplete_kept {fr : Nat} {z0 : State} (port : Nat) (cls : Nat) {s : State}  (hm : Within 0xc0000000002000000000000000000000000000000000000008000000000000000000000000000000202 fr) (hk : Kept fr z0 s) : KeptO fr z0 (execVatReadComplete port cls s) := by
  unfold execVatReadComplete
  repeat' first
    | with_reducible assumption
    | with_reducible exact Stands.same
    | ((with_reducible refine Within.trans ?_ hm); rfl)
    | with_reducible apply State.count_kept
    | with_reducible apply putQueue_kept
    | with_reducible apply KeptO.next
    | with_reducible refine KeptO.ite (fun _ => ?_) (fun _ => ?_)
    | with_reducible refine Kept.ite (fun _ => ?_) (fun _ => ?_)
    | with_reducible refine Kept.foldl (fun _ _ _ => ?_) ?_
    | (with_reducible refine Kept.snd (by assumption) ?_)
    | dsimp only
    | split

theorem linkJudge_kept {fr : Nat} {z0 : State} (q : Nat) {s : State}  (hm : Within 0x80000000000000000000000000000000000000000000012 fr) (hk : Kept fr z0 s) : Kept fr z0 (linkJudge s q) := by
  unfold linkJudge
  repeat' first
    | with_reducible assumption
    | with_reducible exact Stands.same
    | ((with_reducible refine Within.trans ?_ hm); rfl)
    | with_reducible apply State.setPort_kept
    | with_reducible apply State.count_kept
    | with_reducible refine Kept.ite (fun _ => ?_) (fun _ => ?_)

theorem pfcAgain_kept {fr : Nat} {z0 : State} (q : Nat) {s : State}  (hm : Within 0x100 fr) (hk : Kept fr z0 s) : Kept fr z0 (pfcAgain s q) := by
  unfold pfcAgain
  repeat' first
    | with_reducible assumption
    | with_reducible exact Stands.same
    | with_reducible apply pfcOwe_kept
    | with_reducible refine Kept.ite (fun _ => ?_) (fun _ => ?_)

theorem abortTx_kept {fr : Nat} {z0 : State} (q : Nat) {s : State}  (hm : Within 0x800e0022040000020000200d0000000000000000000000000004000000000001380000000200000000000008000043038f fr) (hk : Kept fr z0 s) : Kept fr z0 (abortTx s q) := by
  unfold abortTx
  repeat' first
    | with_reducible assumption
    | with_reducible exact Stands.same
    | ((with_reducible refine Within.trans ?_ hm); rfl)
    | with_reducible apply txClear_kept
    | with_reducible apply State.count_kept
    | with_reducible apply dropSample_kept
    | with_reducible apply injEnd_kept
    | with_reducible apply copyEnd_kept
    | with_reducible refine Kept.ite (fun _ => ?_) (fun _ => ?_)
    | with_reducible refine Kept.foldl (fun _ _ _ => ?_) ?_
    | (with_reducible refine Kept.snd (by assumption) ?_)
    | dsimp only
    | split

theorem dropMoved_kept {fr : Nat} {z0 : State} (e : Copy) (q : Nat) (c : Nat) (reason : Nat) {s : State}  (hm : Within 0x800e0022040000020000200d0000000000000000000000000000000000000001380000000200000000000008000043018f fr) (hk : Kept fr z0 s) : Kept fr z0 (dropMoved s e q c reason) := by
  unfold dropMoved
  repeat' first
    | with_reducible assumption
    | with_reducible exact Stands.same
    | ((with_reducible refine Within.trans ?_ hm); rfl)
    | with_reducible apply dropSample_kept
    | with_reducible apply injEnd_kept
    | with_reducible apply copyEnd_kept
    | with_reducible refine Kept.ite (fun _ => ?_) (fun _ => ?_)
    | with_reducible refine Kept.foldl (fun _ _ _ => ?_) ?_
    | (with_reducible refine Kept.snd (by assumption) ?_)
    | dsimp only
    | split

theorem moveCopy_kept {fr : Nat} {z0 : State} (e : Copy) (q : Nat) (c : Nat) {s : State}  (hm : Within 0x800e00220400000e0007e00d0000000000000000000000000000000000000001b80000000200000000000008000043038f fr) (hk : Kept fr z0 s) : Kept fr z0 (moveCopy s e q c) := by
  unfold moveCopy
  repeat' first
    | with_reducible assumption
    | with_reducible exact Stands.same
    | ((with_reducible refine Within.trans ?_ hm); rfl)
    | with_reducible apply place_kept
    | with_reducible apply dropMoved_kept
    | with_reducible apply State.count_kept
    | with_reducible apply State.event_kept
    | with_reducible apply putQueue_kept
    | with_reducible refine Kept.ite (fun _ => ?_) (fun _ => ?_)

theorem failoverCopy_kept {fr : Nat} {z0 : State} (q : Nat) (c : Nat) (e : Copy) {s : State}  (hm : Within 0x800e00220400020e0007e00d0000000000000000000000000000000000000001b80000000200000000000008000043078f fr) (hk : Kept fr z0 s) : Kept fr z0 (failoverCopy s q c e) := by
  unfold failoverCopy
  repeat' first
    | with_reducible assumption
    | with_reducible exact Stands.same
    | ((with_reducible refine Within.trans ?_ hm); rfl)
    | with_reducible apply putQueue_kept
    | with_reducible apply spray_kept
    | with_reducible apply moveCopy_kept
    | with_reducible apply State.count_kept
    | with_reducible refine Kept.ite (fun _ => ?_) (fun _ => ?_)
    | with_reducible refine Kept.foldl (fun _ _ _ => ?_) ?_
    | with_reducible refine Kept.foldlSnd (fun _ _ _ => ?_) ?_
    | with_reducible refine Kept.iteSnd (fun _ => ?_) (fun _ => ?_)
    | (fail_if_success with_reducible refine Kept.eta ?_); (with_reducible refine Kept.build ?_ rfl rfl ?_ ?_ ?_ ?_ ?_ ?_ ?_ ?_ ?_ ?_ ?_ ?_ ?_ ?_ ?_ ?_ ?_ ?_ ?_ ?_ ?_ ?_ ?_)
    | (with_reducible refine Kept.snd (by assumption) ?_)
    | (with_reducible refine KeptP.elim (by assumption) ?_)
    | with_reducible refine KeptP.mapSnd (fun _ _ _ => ?_) ?_
    | with_reducible refine KeptP.map (fun _ => ?_)
    | with_reducible refine KeptP.ite (fun _ => ?_) (fun _ => ?_)
    | dsimp only
    | split

theorem failover_kept {fr : Nat} {z0 : State} (q : Nat) {s : State}  (hm : Within 0x800e00220400020e0007e00d0000000000000000000000000000000000000001b80000000200000000000008000043078f fr) (hk : Kept fr z0 s) : Kept fr z0 (failover s q) := by
  unfold failover
  repeat' first
    | with_reducible assumption
    | with_reducible exact Stands.same
    | ((with_reducible refine Within.trans ?_ hm); rfl)
    | with_reducible apply failoverCopy_kept
    | with_reducible apply putQueue_kept
    | with_reducible refine Kept.ite (fun _ => ?_) (fun _ => ?_)
    | with_reducible refine Kept.foldl (fun _ _ _ => ?_) ?_

theorem flushMark_kept {fr : Nat} {z0 : State} (q : Nat) {s : State}  (hm : Within 0x20000000000000000000000000010 fr) (hk : Kept fr z0 s) : Kept fr z0 (flushMark s q) := by
  unfold flushMark
  repeat' first
    | with_reducible assumption
    | with_reducible exact Stands.same
    | ((with_reducible refine Within.trans ?_ hm); rfl)
    | with_reducible apply State.fset_kept
    | with_reducible apply State.setPort_kept

theorem flushStart_kept {fr : Nat} {z0 : State} (q : Nat) {s : State}  (hm : Within 0x800e00220400000e0000200d0000000000000000000000000060000000000001b80002000200000000000008000043039f fr) (hk : Kept fr z0 s) : Kept fr z0 (flushStart s q) := by
  unfold flushStart
  repeat' first
    | with_reducible assumption
    | with_reducible exact Stands.same
    | ((with_reducible refine Within.trans ?_ hm); rfl)
    | with_reducible apply flushPort_kept
    | with_reducible apply flushMark_kept

theorem latchCfg_kept {fr : Nat} {z0 : State} (q : Nat) {s : State}  (hm : Within 0x10 fr) (hk : Kept fr z0 s) : Kept fr z0 (latchCfg s q) := by
  unfold latchCfg
  repeat' first
    | with_reducible assumption
    | with_reducible exact Stands.same
    | with_reducible apply State.setPort_kept

theorem latchUpCfg_kept {fr : Nat} {z0 : State} (q : Nat) {s : State}  (hm : Within 0x10 fr) (hk : Kept fr z0 s) : Kept fr z0 (latchUpCfg s q) := by
  unfold latchUpCfg
  repeat' first
    | with_reducible assumption
    | with_reducible exact Stands.same
    | with_reducible apply State.setPort_kept

theorem declareDown_kept {fr : Nat} {z0 : State} (q : Nat) (admin : Bool) {s : State}  (hm : Within 0x800e00220400020e0007e00d0000000000000000000000000064000000000001b80002000200000000000008000043079f fr) (hk : Kept fr z0 s) : Kept fr z0 (declareDown s q admin) := by
  unfold declareDown
  repeat' first
    | with_reducible assumption
    | with_reducible exact Stands.same
    | ((with_reducible refine Within.trans ?_ hm); rfl)
    | ((with_reducible refine Stands.hit (Within.trans ?_ hm)); rfl)
    | with_reducible apply State.fset_kept
    | with_reducible apply State.event_kept
    | with_reducible apply abortTx_kept
    | with_reducible apply latchUpCfg_kept
    | with_reducible apply State.setPort_kept
    | with_reducible apply failover_kept
    | with_reducible apply flushStart_kept
    | with_reducible refine Kept.ite (fun _ => ?_) (fun _ => ?_)
    | with_reducible refine Kept.foldl (fun _ _ _ => ?_) ?_
    | (fail_if_success with_reducible refine Kept.eta ?_); (with_reducible refine Kept.build ?_ rfl rfl ?_ ?_ ?_ ?_ ?_ ?_ ?_ ?_ ?_ ?_ ?_ ?_ ?_ ?_ ?_ ?_ ?_ ?_ ?_ ?_ ?_ ?_ ?_)

theorem declareUp_kept {fr : Nat} {z0 : State} (q : Nat) {s : State}  (hm : Within 0x20000000000000000080000410114 fr) (hk : Kept fr z0 s) : Kept fr z0 (declareUp s q) := by
  unfold declareUp
  repeat' first
    | with_reducible assumption
    | with_reducible exact Stands.same
    | ((with_reducible refine Within.trans ?_ hm); rfl)
    | with_reducible apply State.fset_kept
    | with_reducible apply State.event_kept
    | with_reducible apply latchCfg_kept
    | with_reducible apply State.setPort_kept
    | with_reducible apply pfcAgain_kept
    | with_reducible refine Kept.ite (fun _ => ?_) (fun _ => ?_)

theorem adminOff_kept {fr : Nat} {z0 : State} (q : Nat) {s : State}  (hm : Within 0x800e00220400020e0007e00d0000000000000000000000000064000000000001b80002000200000000000008000043079f fr) (hk : Kept fr z0 s) : Kept fr z0 (adminOff s q) := by
  unfold adminOff
  repeat' first
    | with_reducible assumption
    | with_reducible exact Stands.same
    | ((with_reducible refine Within.trans ?_ hm); rfl)
    | with_reducible apply State.fset_kept
    | with_reducible apply State.setPort_kept
    | with_reducible apply declareDown_kept
    | with_reducible apply flushStart_kept
    | with_reducible refine Kept.ite (fun _ => ?_) (fun _ => ?_)

end Sys2Proof.Machine
end

