-- ==== Sys2Proof/Laws/KeptFlow.lean ====
section
/-! SUPPORT. No function of Machine/Flow, TaskOps, SkimOps, StrainerOps, SkimRows takes back what no command takes back: one lemma each. -/

namespace Sys2Proof.Machine

theorem State.setRecord_kept {fr : Nat} {z0 : State} (n : Nat) (r : Option Rec) {s : State}  (hm : Within 0x800 fr) (hk : Kept fr z0 s) : Kept fr z0 (State.setRecord s n r) := by
  unfold State.setRecord
  repeat' first
    | with_reducible assumption
    | with_reducible exact Stands.same
    | ((with_reducible refine Stands.hit (Within.trans ?_ hm)); rfl)
    | with_reducible refine Kept.ite (fun _ => ?_) (fun _ => ?_)
    | with_reducible refine Kept.foldl (fun _ _ _ => ?_) ?_
    | (fail_if_success with_reducible refine Kept.eta ?_); (with_reducible refine Kept.build ?_ rfl rfl ?_ ?_ ?_ ?_ ?_ ?_ ?_ ?_ ?_ ?_ ?_ ?_ ?_ ?_ ?_ ?_ ?_ ?_ ?_ ?_ ?_ ?_ ?_)

theorem setSlot_kept {fr : Nat} {z0 : State} (b : Nat) (i : Nat) (w : Nat) {s : State}  (hm : Within 0x800 fr) (hk : Kept fr z0 s) : Kept fr z0 (setSlot s b i w) := by
  unfold setSlot
  repeat' first
    | with_reducible assumption
    | with_reducible exact Stands.same
    | ((with_reducible refine Stands.hit (Within.trans ?_ hm)); rfl)
    | with_reducible refine Kept.ite (fun _ => ?_) (fun _ => ?_)
    | with_reducible refine Kept.foldl (fun _ _ _ => ?_) ?_
    | (fail_if_success with_reducible refine Kept.eta ?_); (with_reducible refine Kept.build ?_ rfl rfl ?_ ?_ ?_ ?_ ?_ ?_ ?_ ?_ ?_ ?_ ?_ ?_ ?_ ?_ ?_ ?_ ?_ ?_ ?_ ?_ ?_ ?_ ?_)

theorem setStash_kept {fr : Nat} {z0 : State} (n : Nat) (e : Option StashEntry) {s : State}  (hm : Within 0x20000000000000000000800 fr) (hk : Kept fr z0 s) : Kept fr z0 (setStash s n e) := by
  unfold setStash
  repeat' first
    | with_reducible assumption
    | with_reducible exact Stands.same
    | ((with_reducible refine Within.trans ?_ hm); rfl)
    | ((with_reducible refine Stands.hit (Within.trans ?_ hm)); rfl)
    | with_reducible apply State.fset_kept
    | with_reducible refine Kept.ite (fun _ => ?_) (fun _ => ?_)
    | with_reducible refine Kept.foldl (fun _ _ _ => ?_) ?_
    | (fail_if_success with_reducible refine Kept.eta ?_); (with_reducible refine Kept.build ?_ rfl rfl ?_ ?_ ?_ ?_ ?_ ?_ ?_ ?_ ?_ ?_ ?_ ?_ ?_ ?_ ?_ ?_ ?_ ?_ ?_ ?_ ?_ ?_ ?_)

theorem cellarLookup_kept {fr : Nat} {z0 : State} (key : List Byte) (tn : Option Nat) {s : State}  (hm : Within 0x1000800000000000000000000000000000000000000000000000000000000000000000002 fr) (hk : Kept fr z0 s) : Kept fr z0 (cellarLookup s key tn).2 := by
  unfold cellarLookup
  repeat' first
    | with_reducible assumption
    | with_reducible exact Stands.same
    | ((with_reducible refine Within.trans ?_ hm); rfl)
    | with_reducible apply State.count_kept
    | with_reducible refine Kept.ite (fun _ => ?_) (fun _ => ?_)

theorem putPlace_kept {fr : Nat} {z0 : State} (h : Nat) (recNo : Nat) (hint : Nat) (l : SlotLoc) {s : State}  (hm : Within 0x20000000000000000000800 fr) (hk : Kept fr z0 s) : Kept fr z0 (putPlace s h recNo hint l) := by
  unfold putPlace
  repeat' first
    | with_reducible assumption
    | with_reducible exact Stands.same
    | ((with_reducible refine Within.trans ?_ hm); rfl)
    | with_reducible apply setSlot_kept
    | with_reducible apply setStash_kept
    | with_reducible refine Kept.ite (fun _ => ?_) (fun _ => ?_)
    | with_reducible refine Kept.foldl (fun _ _ _ => ?_) ?_
    | (with_reducible refine Kept.snd (by assumption) ?_)
    | dsimp only
    | split

theorem restash_kept {fr : Nat} {z0 : State} (b : Nat) (i : Nat) {s : State}  (hm : Within 0x80000000000000000000000000000000000000000000020000000000000000000802 fr) (hk : Kept fr z0 s) : Kept fr z0 (restash s b i) := by
  unfold restash
  repeat' first
    | with_reducible assumption
    | with_reducible exact Stands.same
    | ((with_reducible refine Within.trans ?_ hm); rfl)
    | with_reducible apply setStash_kept
    | with_reducible apply setSlot_kept
    | with_reducible apply State.setRecord_kept
    | with_reducible apply State.count_kept
    | with_reducible refine Kept.ite (fun _ => ?_) (fun _ => ?_)
    | with_reducible refine Kept.foldl (fun _ _ _ => ?_) ?_
    | (with_reducible refine Kept.snd (by assumption) ?_)
    | dsimp only
    | split

theorem clearPlace_kept {fr : Nat} {z0 : State} (l : SlotLoc) {s : State}  (hm : Within 0x80000000000000000000000000000000000000000000020000000000000000000802 fr) (hk : Kept fr z0 s) : Kept fr z0 (clearPlace s l) := by
  unfold clearPlace
  repeat' first
    | with_reducible assumption
    | with_reducible exact Stands.same
    | ((with_reducible refine Within.trans ?_ hm); rfl)
    | with_reducible apply restash_kept
    | with_reducible apply setSlot_kept
    | with_reducible apply setStash_kept
    | with_reducible refine Kept.ite (fun _ => ?_) (fun _ => ?_)
    | with_reducible refine Kept.foldl (fun _ _ _ => ?_) ?_
    | (with_reducible refine Kept.snd (by assumption) ?_)
    | dsimp only
    | split

theorem quotaUp_kept {fr : Nat} {z0 : State} (t : Nat) {s : State}  (hm : Within 0x60000000000000000000000 fr) (hk : Kept fr z0 s) : Kept fr z0 (quotaUp s t) := by
  unfold quotaUp
  repeat' first
    | with_reducible assumption
    | with_reducible exact Stands.same
    | ((with_reducible refine Within.trans ?_ hm); rfl)
    | with_reducible apply State.fset_kept

theorem quotaDown_kept {fr : Nat} {z0 : State} (t : Nat) {s : State}  (hm : Within 0x60000000000000000000000 fr) (hk : Kept fr z0 s) : Kept fr z0 (quotaDown s t) := by
  unfold quotaDown
  repeat' first
    | with_reducible assumption
    | with_reducible exact Stands.same
    | ((with_reducible refine Within.trans ?_ hm); rfl)
    | with_reducible apply State.fset_kept

theorem setWay_kept {fr : Nat} {z0 : State} (k : Key) (w : Option Way) {s : State}  (hm : Within 0x1000 fr) (hk : Kept fr z0 s) : Kept fr z0 (setWay s k w) := by
  unfold setWay
  repeat' first
    | with_reducible assumption
    | with_reducible exact Stands.same
    | ((with_reducible refine Stands.hit (Within.trans ?_ hm)); rfl)
    | with_reducible refine Kept.ite (fun _ => ?_) (fun _ => ?_)
    | with_reducible refine Kept.foldl (fun _ _ _ => ?_) ?_
    | (fail_if_success with_reducible refine Kept.eta ?_); (with_reducible refine Kept.build ?_ rfl rfl ?_ ?_ ?_ ?_ ?_ ?_ ?_ ?_ ?_ ?_ ?_ ?_ ?_ ?_ ?_ ?_ ?_ ?_ ?_ ?_ ?_ ?_ ?_)

theorem setMiss_kept {fr : Nat} {z0 : State} (k : Key) (m : Option Miss) {s : State}  (hm : Within 0x1000 fr) (hk : Kept fr z0 s) : Kept fr z0 (setMiss s k m) := by
  unfold setMiss
  repeat' first
    | with_reducible assumption
    | with_reducible exact Stands.same
    | ((with_reducible refine Stands.hit (Within.trans ?_ hm)); rfl)
    | with_reducible refine Kept.ite (fun _ => ?_) (fun _ => ?_)
    | with_reducible refine Kept.foldl (fun _ _ _ => ?_) ?_
    | (fail_if_success with_reducible refine Kept.eta ?_); (with_reducible refine Kept.build ?_ rfl rfl ?_ ?_ ?_ ?_ ?_ ?_ ?_ ?_ ?_ ?_ ?_ ?_ ?_ ?_ ?_ ?_ ?_ ?_ ?_ ?_ ?_ ?_ ?_)

theorem setWb_kept {fr : Nat} {z0 : State} (bank : Nat) (l : List WbEntry) {s : State}  (hm : Within 0x1000 fr) (hk : Kept fr z0 s) : Kept fr z0 (setWb s bank l) := by
  unfold setWb
  repeat' first
    | with_reducible assumption
    | with_reducible exact Stands.same
    | ((with_reducible refine Stands.hit (Within.trans ?_ hm)); rfl)
    | with_reducible refine Kept.ite (fun _ => ?_) (fun _ => ?_)
    | with_reducible refine Kept.foldl (fun _ _ _ => ?_) ?_
    | (fail_if_success with_reducible refine Kept.eta ?_); (with_reducible refine Kept.build ?_ rfl rfl ?_ ?_ ?_ ?_ ?_ ?_ ?_ ?_ ?_ ?_ ?_ ?_ ?_ ?_ ?_ ?_ ?_ ?_ ?_ ?_ ?_ ?_ ?_)

theorem authWrite_kept {fr : Nat} {z0 : State} (n : Nat) (w : List Nat) {s : State}  (hm : Within 0x1800 fr) (hk : Kept fr z0 s) : Kept fr z0 (authWrite s n w) := by
  unfold authWrite
  repeat' first
    | with_reducible assumption
    | with_reducible exact Stands.same
    | ((with_reducible refine Within.trans ?_ hm); rfl)
    | ((with_reducible refine Stands.hit (Within.trans ?_ hm)); rfl)
    | with_reducible apply setWay_kept
    | with_reducible apply setMiss_kept
    | with_reducible apply State.setRecord_kept
    | with_reducible refine Kept.ite (fun _ => ?_) (fun _ => ?_)
    | with_reducible refine Kept.foldl (fun _ _ _ => ?_) ?_
    | (fail_if_success with_reducible refine Kept.eta ?_); (with_reducible refine Kept.build ?_ rfl rfl ?_ ?_ ?_ ?_ ?_ ?_ ?_ ?_ ?_ ?_ ?_ ?_ ?_ ?_ ?_ ?_ ?_ ?_ ?_ ?_ ?_ ?_ ?_)
    | (with_reducible refine Kept.snd (by assumption) ?_)
    | dsimp only
    | split

theorem wheyRemoval_kept {fr : Nat} {z0 : State} (w : List Nat) (cause : Nat) {s : State}  (hm : Within 0x800e0000000000000000000000000000000000000000000000000000000000000000000002000000000000080000430006 fr) (hk : Kept fr z0 s) : Kept fr z0 (wheyRemoval s w cause) := by
  unfold wheyRemoval
  repeat' first
    | with_reducible assumption
    | with_reducible exact Stands.same
    | with_reducible apply wheyEmit_kept
    | with_reducible refine Kept.ite (fun _ => ?_) (fun _ => ?_)

theorem wheyPoison_kept {fr : Nat} {z0 : State} (key : List Byte) (cause : Nat) {s : State}  (hm : Within 0x800e0000000000000000000000000000000000000000000000000000000000000000000002000000000000080000430006 fr) (hk : Kept fr z0 s) : Kept fr z0 (wheyPoison s key cause) := by
  unfold wheyPoison
  repeat' first
    | with_reducible assumption
    | with_reducible exact Stands.same
    | with_reducible apply wheyEmit_kept

theorem dropCopies_kept {fr : Nat} {z0 : State} (n : Nat) {s : State}  (hm : Within 0x1800 fr) (hk : Kept fr z0 s) : Kept fr z0 (dropCopies s n) := by
  unfold dropCopies
  repeat' first
    | with_reducible assumption
    | with_reducible exact Stands.same
    | ((with_reducible refine Stands.hit (Within.trans ?_ hm)); rfl)
    | with_reducible refine Kept.ite (fun _ => ?_) (fun _ => ?_)
    | with_reducible refine Kept.foldl (fun _ _ _ => ?_) ?_
    | (fail_if_success with_reducible refine Kept.eta ?_); (with_reducible refine Kept.build ?_ rfl rfl ?_ ?_ ?_ ?_ ?_ ?_ ?_ ?_ ?_ ?_ ?_ ?_ ?_ ?_ ?_ ?_ ?_ ?_ ?_ ?_ ?_ ?_ ?_)

theorem freeRecord_kept {fr : Nat} {z0 : State} (n : Nat) {s : State}  (hm : Within 0x80000000000000000000000000000000000000000000060000000000000000001802 fr) (hk : Kept fr z0 s) : Kept fr z0 (freeRecord s n) := by
  unfold freeRecord
  repeat' first
    | with_reducible assumption
    | with_reducible exact Stands.same
    | ((with_reducible refine Within.trans ?_ hm); rfl)
    | with_reducible apply quotaDown_kept
    | with_reducible apply dropCopies_kept
    | with_reducible apply clearPlace_kept
    | with_reducible apply State.setRecord_kept
    | with_reducible refine Kept.ite (fun _ => ?_) (fun _ => ?_)
    | with_reducible refine Kept.foldl (fun _ _ _ => ?_) ?_
    | (with_reducible refine Kept.snd (by assumption) ?_)
    | dsimp only
    | split

theorem countRefusal_kept {fr : Nat} {z0 : State} (reason : Nat) (tn : Option Nat) {s : State}  (hm : Within 0x700000000000000000000000000000000000000000000000000000000000000000002 fr) (hk : Kept fr z0 s) : Kept fr z0 (countRefusal s reason tn) := by
  unfold countRefusal
  repeat' first
    | with_reducible assumption
    | with_reducible exact Stands.same
    | ((with_reducible refine Within.trans ?_ hm); rfl)
    | with_reducible apply State.count_kept
    | with_reducible refine Kept.ite (fun _ => ?_) (fun _ => ?_)
    | with_reducible refine Kept.foldl (fun _ _ _ => ?_) ?_
    | (fail_if_success with_reducible refine Kept.eta ?_); (with_reducible refine Kept.build ?_ rfl rfl ?_ ?_ ?_ ?_ ?_ ?_ ?_ ?_ ?_ ?_ ?_ ?_ ?_ ?_ ?_ ?_ ?_ ?_ ?_ ?_ ?_ ?_ ?_)
    | (with_reducible refine Kept.snd (by assumption) ?_)
    | dsimp only
    | split

theorem createRecord_kept {fr : Nat} {z0 : State} (words : List Nat) (h : Nat) (l : SlotLoc) {s : State}  (hm : Within 0x40000000000000000000000000000000000000000000060000000000000000000803 fr) (hk : Kept fr z0 s) : Kept fr z0 (createRecord s words h l).2 := by
  unfold createRecord
  repeat' first
    | with_reducible assumption
    | with_reducible exact Stands.same
    | ((with_reducible refine Within.trans ?_ hm); rfl)
    | with_reducible apply State.draw_kept
    | with_reducible apply putPlace_kept
    | with_reducible apply quotaUp_kept
    | with_reducible apply State.count_kept
    | with_reducible apply State.setRecord_kept
    | with_reducible refine Kept.ite (fun _ => ?_) (fun _ => ?_)
    | with_reducible refine Kept.foldl (fun _ _ _ => ?_) ?_
    | with_reducible refine Kept.foldlSnd (fun _ _ _ => ?_) ?_
    | with_reducible refine Kept.iteSnd (fun _ => ?_) (fun _ => ?_)
    | (with_reducible refine Kept.snd (by assumption) ?_)
    | dsimp only
    | split

theorem slotEvent_kept {fr : Nat} {z0 : State} (g : Nat) (code : Nat) (n : Nat) (tenant : Option Nat) {s : State}  (hm : Within 0x2 fr) (hk : Kept fr z0 s) : Kept fr z0 (slotEvent s g code n tenant) := by
  unfold slotEvent
  repeat' first
    | with_reducible assumption
    | with_reducible exact Stands.same
    | with_reducible apply progEvent_kept

theorem slotAhead_kept {fr : Nat} {z0 : State} (g : Nat) (j : Nat) {s : State}  (hm : Within 0x40000 fr) (hk : Kept fr z0 s) : Kept fr z0 (slotAhead s g j) := by
  unfold slotAhead
  repeat' first
    | with_reducible assumption
    | with_reducible exact Stands.same
    | ((with_reducible refine Stands.hit (Within.trans ?_ hm)); rfl)
    | with_reducible refine Kept.ite (fun _ => ?_) (fun _ => ?_)
    | with_reducible refine Kept.foldl (fun _ _ _ => ?_) ?_
    | (fail_if_success with_reducible refine Kept.eta ?_); (with_reducible refine Kept.build ?_ rfl rfl ?_ ?_ ?_ ?_ ?_ ?_ ?_ ?_ ?_ ?_ ?_ ?_ ?_ ?_ ?_ ?_ ?_ ?_ ?_ ?_ ?_ ?_ ?_)

theorem slotSettle_kept {fr : Nat} {z0 : State} (id : Nat) (wasted : Bool) {s : State}  (hm : Within 0x4c0000000000000000000000000000000000000000000000000a fr) (hk : Kept fr z0 s) : Kept fr z0 (slotSettle s id wasted) := by
  unfold slotSettle
  repeat' first
    | with_reducible assumption
    | with_reducible exact Stands.same
    | ((with_reducible refine Within.trans ?_ hm); rfl)
    | with_reducible apply State.count_kept
    | with_reducible apply slotEvent_kept
    | with_reducible apply State.gset_kept
    | with_reducible apply State.modFrame_kept
    | with_reducible refine Kept.ite (fun _ => ?_) (fun _ => ?_)
    | with_reducible refine Kept.foldl (fun _ _ _ => ?_) ?_
    | (fail_if_success with_reducible refine Kept.eta ?_); (with_reducible refine Kept.build ?_ rfl rfl ?_ ?_ ?_ ?_ ?_ ?_ ?_ ?_ ?_ ?_ ?_ ?_ ?_ ?_ ?_ ?_ ?_ ?_ ?_ ?_ ?_ ?_ ?_)
    | (with_reducible refine Kept.snd (by assumption) ?_)
    | dsimp only
    | split

theorem engineSettle_kept {fr : Nat} {z0 : State} (c : Nat) (n : Nat) (wasted : Bool) (tenant : Option Nat) {s : State}  (hm : Within 0x13000000000000000000000000000000000000000000000000000000002 fr) (hk : Kept fr z0 s) : Kept fr z0 (engineSettle s c n wasted tenant) := by
  unfold engineSettle
  repeat' first
    | with_reducible assumption
    | with_reducible exact Stands.same
    | ((with_reducible refine Within.trans ?_ hm); rfl)
    | with_reducible apply State.count_kept
    | with_reducible apply slotEvent_kept
    | with_reducible apply State.gset_kept
    | with_reducible refine Kept.ite (fun _ => ?_) (fun _ => ?_)
    | with_reducible refine Kept.foldl (fun _ _ _ => ?_) ?_
    | (fail_if_success with_reducible refine Kept.eta ?_); (with_reducible refine Kept.build ?_ rfl rfl ?_ ?_ ?_ ?_ ?_ ?_ ?_ ?_ ?_ ?_ ?_ ?_ ?_ ?_ ?_ ?_ ?_ ?_ ?_ ?_ ?_ ?_ ?_)
    | (with_reducible refine Kept.snd (by assumption) ?_)
    | dsimp only
    | split

theorem State.setTask_kept {fr : Nat} {z0 : State} (id : Nat) (t : Option Task) {s : State}  (hm : Within 0x4000 fr) (hk : Kept fr z0 s) : Kept fr z0 (State.setTask s id t) := by
  unfold State.setTask
  repeat' first
    | with_reducible assumption
    | with_reducible exact Stands.same
    | ((with_reducible refine Stands.hit (Within.trans ?_ hm)); rfl)
    | with_reducible refine Kept.ite (fun _ => ?_) (fun _ => ?_)
    | with_reducible refine Kept.foldl (fun _ _ _ => ?_) ?_
    | (fail_if_success with_reducible refine Kept.eta ?_); (with_reducible refine Kept.build ?_ rfl rfl ?_ ?_ ?_ ?_ ?_ ?_ ?_ ?_ ?_ ?_ ?_ ?_ ?_ ?_ ?_ ?_ ?_ ?_ ?_ ?_ ?_ ?_ ?_)

theorem readyTask_kept {fr : Nat} {z0 : State} (id : Nat) (t : Task) {s : State}  (hm : Within 0x4000 fr) (hk : Kept fr z0 s) : Kept fr z0 (readyTask s id t) := by
  unfold readyTask
  repeat' first
    | with_reducible assumption
    | with_reducible exact Stands.same
    | ((with_reducible refine Stands.hit (Within.trans ?_ hm)); rfl)
    | with_reducible apply State.setTask_kept
    | with_reducible refine Kept.ite (fun _ => ?_) (fun _ => ?_)
    | with_reducible refine Kept.foldl (fun _ _ _ => ?_) ?_
    | (fail_if_success with_reducible refine Kept.eta ?_); (with_reducible refine Kept.build ?_ rfl rfl ?_ ?_ ?_ ?_ ?_ ?_ ?_ ?_ ?_ ?_ ?_ ?_ ?_ ?_ ?_ ?_ ?_ ?_ ?_ ?_ ?_ ?_ ?_)

theorem placeTask_kept {fr : Nat} {z0 : State} (id : Nat) (t : Task) {s : State}  (hm : Within 0x4000 fr) (hk : Kept fr z0 s) : Kept fr z0 (placeTask s id t) := by
  unfold placeTask
  repeat' first
    | with_reducible assumption
    | with_reducible exact Stands.same
    | with_reducible apply State.setTask_kept
    | with_reducible apply readyTask_kept
    | with_reducible refine Kept.ite (fun _ => ?_) (fun _ => ?_)

theorem newTask_kept {fr : Nat} {z0 : State} (t : Task) {s : State}  (hm : Within 0x4000 fr) (hk : Kept fr z0 s) : Kept fr z0 (newTask s t) := by
  unfold newTask
  repeat' first
    | with_reducible assumption
    | with_reducible exact Stands.same
    | ((with_reducible refine Stands.hit (Within.trans ?_ hm)); rfl)
    | with_reducible apply placeTask_kept
    | with_reducible refine Kept.ite (fun _ => ?_) (fun _ => ?_)
    | with_reducible refine Kept.foldl (fun _ _ _ => ?_) ?_
    | (fail_if_success with_reducible refine Kept.eta ?_); (with_reducible refine Kept.build ?_ rfl rfl ?_ ?_ ?_ ?_ ?_ ?_ ?_ ?_ ?_ ?_ ?_ ?_ ?_ ?_ ?_ ?_ ?_ ?_ ?_ ?_ ?_ ?_ ?_)

theorem wake_kept {fr : Nat} {z0 : State} {s : State}  (hm : Within 0x4000 fr) (hk : Kept fr z0 s) : Kept fr z0 (wake s) := by
  unfold wake
  repeat' first
    | with_reducible assumption
    | with_reducible exact Stands.same
    | with_reducible apply readyTask_kept
    | with_reducible refine Kept.ite (fun _ => ?_) (fun _ => ?_)
    | with_reducible refine Kept.foldl (fun _ _ _ => ?_) ?_

theorem setNat_kept {fr : Nat} {z0 : State} (p : Nat) (v : NatPool) {s : State}  (hm : Within 0x4000 fr) (hk : Kept fr z0 s) : Kept fr z0 (setNat s p v) := by
  unfold setNat
  repeat' first
    | with_reducible assumption
    | with_reducible exact Stands.same
    | ((with_reducible refine Stands.hit (Within.trans ?_ hm)); rfl)
    | with_reducible refine Kept.ite (fun _ => ?_) (fun _ => ?_)
    | with_reducible refine Kept.foldl (fun _ _ _ => ?_) ?_
    | (fail_if_success with_reducible refine Kept.eta ?_); (with_reducible refine Kept.build ?_ rfl rfl ?_ ?_ ?_ ?_ ?_ ?_ ?_ ?_ ?_ ?_ ?_ ?_ ?_ ?_ ?_ ?_ ?_ ?_ ?_ ?_ ?_ ?_ ?_)

theorem natCount_kept {fr : Nat} {z0 : State} (p : Nat) (tenant : Nat) (up : Bool) {s : State}  (hm : Within 0x1800000000000000000000 fr) (hk : Kept fr z0 s) : Kept fr z0 (natCount s p tenant up) := by
  unfold natCount
  repeat' first
    | with_reducible assumption
    | with_reducible exact Stands.same
    | ((with_reducible refine Within.trans ?_ hm); rfl)
    | with_reducible apply State.fset_kept
    | with_reducible refine Kept.ite (fun _ => ?_) (fun _ => ?_)

theorem natReserve_kept {fr : Nat} {z0 : State} (p : Nat) (tenant : Nat) {s : State}  (hm : Within 0x1c00000000080000414005 fr) (hk : Kept fr z0 s) : Kept fr z0 (natReserve s p tenant).2 := by
  unfold natReserve
  repeat' first
    | with_reducible assumption
    | with_reducible exact Stands.same
    | ((with_reducible refine Within.trans ?_ hm); rfl)
    | with_reducible apply State.event_kept
    | with_reducible apply State.draw_kept
    | with_reducible apply natCount_kept
    | with_reducible apply setNat_kept
    | with_reducible refine Kept.ite (fun _ => ?_) (fun _ => ?_)
    | with_reducible refine Kept.foldl (fun _ _ _ => ?_) ?_
    | with_reducible refine Kept.foldlSnd (fun _ _ _ => ?_) ?_
    | with_reducible refine Kept.iteSnd (fun _ => ?_) (fun _ => ?_)
    | (with_reducible refine Kept.snd (by assumption) ?_)
    | dsimp only
    | split

theorem natFree_kept {fr : Nat} {z0 : State} (p : Nat) (port : Nat) (tenant : Nat) {s : State}  (hm : Within 0x1800000000000000004000 fr) (hk : Kept fr z0 s) : Kept fr z0 (natFree s p port tenant) := by
  unfold natFree
  repeat' first
    | with_reducible assumption
    | with_reducible exact Stands.same
    | ((with_reducible refine Within.trans ?_ hm); rfl)
    | with_reducible apply natCount_kept
    | with_reducible apply setNat_kept

theorem natReturn_kept {fr : Nat} {z0 : State} (c : Nat) (p : Nat) (port : Nat) (tenant : Nat) {s : State}  (hm : Within 0x80000000000000000000000000000000001800000000000000004002 fr) (hk : Kept fr z0 s) : Kept fr z0 (natReturn s c p port tenant) := by
  unfold natReturn
  repeat' first
    | with_reducible assumption
    | with_reducible exact Stands.same
    | ((with_reducible refine Within.trans ?_ hm); rfl)
    | with_reducible apply State.count_kept
    | with_reducible apply natFree_kept
    | with_reducible refine Kept.ite (fun _ => ?_) (fun _ => ?_)

theorem natUndo_kept {fr : Nat} {z0 : State} (t : Task) (c : Nat) {s : State}  (hm : Within 0x20000000000000000000000000000000001800000000000000004002 fr) (hk : Kept fr z0 s) : Kept fr z0 (natUndo s t c) := by
  unfold natUndo
  repeat' first
    | with_reducible assumption
    | with_reducible exact Stands.same
    | ((with_reducible refine Within.trans ?_ hm); rfl)
    | with_reducible apply natFree_kept
    | with_reducible apply State.count_kept
    | with_reducible refine Kept.ite (fun _ => ?_) (fun _ => ?_)
    | with_reducible refine Kept.foldl (fun _ _ _ => ?_) ?_

theorem loseSegment_kept {fr : Nat} {z0 : State} (t : Task) {s : State}  (hm : Within 0x13020000000000000000000000000000000001800000000000000004002 fr) (hk : Kept fr z0 s) : Kept fr z0 (loseSegment s t) := by
  unfold loseSegment
  repeat' first
    | with_reducible assumption
    | with_reducible exact Stands.same
    | ((with_reducible refine Within.trans ?_ hm); rfl)
    | with_reducible apply engineSettle_kept
    | with_reducible apply natUndo_kept

theorem squashTask_kept {fr : Nat} {z0 : State} (id : Nat) (t : Task) (raise : Bool) {s : State}  (hm : Within 0x13020200000000000000000000000000000001800000000000000004002 fr) (hk : Kept fr z0 s) : Kept fr z0 (squashTask s id t raise) := by
  unfold squashTask
  repeat' first
    | with_reducible assumption
    | with_reducible exact Stands.same
    | ((with_reducible refine Within.trans ?_ hm); rfl)
    | with_reducible apply loseSegment_kept
    | with_reducible apply State.count_kept
    | with_reducible apply readyTask_kept
    | with_reducible apply placeTask_kept
    | with_reducible refine Kept.ite (fun _ => ?_) (fun _ => ?_)

theorem setRequests_kept {fr : Nat} {z0 : State} (src : Nat) (bank : Nat) (l : List Request) {s : State}  (hm : Within 0x1000 fr) (hk : Kept fr z0 s) : Kept fr z0 (setRequests s src bank l) := by
  unfold setRequests
  repeat' first
    | with_reducible assumption
    | with_reducible exact Stands.same
    | ((with_reducible refine Stands.hit (Within.trans ?_ hm)); rfl)
    | with_reducible refine Kept.ite (fun _ => ?_) (fun _ => ?_)
    | with_reducible refine Kept.foldl (fun _ _ _ => ?_) ?_
    | (fail_if_success with_reducible refine Kept.eta ?_); (with_reducible refine Kept.build ?_ rfl rfl ?_ ?_ ?_ ?_ ?_ ?_ ?_ ?_ ?_ ?_ ?_ ?_ ?_ ?_ ?_ ?_ ?_ ?_ ?_ ?_ ?_ ?_ ?_)

theorem toLookup_kept {fr : Nat} {z0 : State} (w : Waiter) {s : State}  (hm : Within 0x1000 fr) (hk : Kept fr z0 s) : Kept fr z0 (toLookup s w) := by
  unfold toLookup
  repeat' first
    | with_reducible assumption
    | with_reducible exact Stands.same
    | with_reducible apply setRequests_kept

theorem returnTask_kept {fr : Nat} {z0 : State} (id : Nat) (t : Task) {s : State}  (hm : Within 0x13020200000000000000000000000000000001800000000000000015002 fr) (hk : Kept fr z0 s) : Kept fr z0 (returnTask s id t) := by
  unfold returnTask
  repeat' first
    | with_reducible assumption
    | with_reducible exact Stands.same
    | ((with_reducible refine Within.trans ?_ hm); rfl)
    | with_reducible apply loseSegment_kept
    | with_reducible apply State.count_kept
    | with_reducible apply State.setTask_kept
    | with_reducible apply toLookup_kept
    | with_reducible apply workSet_kept
    | with_reducible refine Kept.ite (fun _ => ?_) (fun _ => ?_)
    | with_reducible refine Kept.foldl (fun _ _ _ => ?_) ?_
    | (with_reducible refine Kept.snd (by assumption) ?_)
    | dsimp only
    | split

theorem loseTask_kept {fr : Nat} {z0 : State} (id : Nat) (t : Task) {s : State}  (hm : Within 0x13020200000000000000000000000000000001800000000000000015002 fr) (hk : Kept fr z0 s) : Kept fr z0 (loseTask s id t) := by
  unfold loseTask
  repeat' first
    | with_reducible assumption
    | with_reducible exact Stands.same
    | ((with_reducible refine Within.trans ?_ hm); rfl)
    | with_reducible apply State.setTask_kept
    | with_reducible apply returnTask_kept
    | with_reducible refine Kept.ite (fun _ => ?_) (fun _ => ?_)

theorem unwait_kept {fr : Nat} {z0 : State} (id : Nat) {s : State}  (hm : Within 0x1000 fr) (hk : Kept fr z0 s) : Kept fr z0 (unwait s id) := by
  unfold unwait
  repeat' first
    | with_reducible assumption
    | with_reducible exact Stands.same
    | ((with_reducible refine Stands.hit (Within.trans ?_ hm)); rfl)
    | with_reducible refine Kept.ite (fun _ => ?_) (fun _ => ?_)
    | with_reducible refine Kept.foldl (fun _ _ _ => ?_) ?_
    | (fail_if_success with_reducible refine Kept.eta ?_); (with_reducible refine Kept.build ?_ rfl rfl ?_ ?_ ?_ ?_ ?_ ?_ ?_ ?_ ?_ ?_ ?_ ?_ ?_ ?_ ?_ ?_ ?_ ?_ ?_ ?_ ?_ ?_ ?_)

theorem cancelTask_kept {fr : Nat} {z0 : State} (fid : Nat) {s : State}  (hm : Within 0x400000000000000000000000000000000000000013022004c0000000000000000000000000000180000000000000000500a fr) (hk : Kept fr z0 s) : Kept fr z0 (cancelTask s fid) := by
  unfold cancelTask
  repeat' first
    | with_reducible assumption
    | with_reducible exact Stands.same
    | ((with_reducible refine Within.trans ?_ hm); rfl)
    | with_reducible apply slotSettle_kept
    | with_reducible apply loseSegment_kept
    | with_reducible apply State.count_kept
    | with_reducible apply State.setTask_kept
    | with_reducible apply unwait_kept
    | with_reducible refine Kept.ite (fun _ => ?_) (fun _ => ?_)
    | with_reducible refine Kept.foldl (fun _ _ _ => ?_) ?_
    | (with_reducible refine Kept.snd (by assumption) ?_)
    | dsimp only
    | split

theorem killDrop_kept {fr : Nat} {z0 : State} (fid : Nat) (reason : Nat) {s : State}  (hm : Within 0x4800e0022040000020000200d00000000000000013022004c0000000000000001380000000200180000000008000043518f fr) (hk : Kept fr z0 s) : Kept fr z0 (killDrop s fid reason) := by
  unfold killDrop
  repeat' first
    | with_reducible assumption
    | with_reducible exact Stands.same
    | ((with_reducible refine Within.trans ?_ hm); rfl)
    | with_reducible apply dropFrame_kept
    | with_reducible apply cancelTask_kept

theorem killPunt_kept {fr : Nat} {z0 : State} (fid : Nat) (reason : Nat) {s : State}  (hm : Within 0x400000000000000000000000000000000000000013022004c0000000000000000000000000000180000000000000000508a fr) (hk : Kept fr z0 s) : Kept fr z0 (killPunt s fid reason) := by
  unfold killPunt
  repeat' first
    | with_reducible assumption
    | with_reducible exact Stands.same
    | ((with_reducible refine Within.trans ?_ hm); rfl)
    | with_reducible apply raisePunt_kept
    | with_reducible apply cancelTask_kept

theorem spreadChange_kept {fr : Nat} {z0 : State} (id : Nat) (t : Task) (m : Nat) {s : State}  (hm : Within 0x13020200000000000000000000000000000001800000000000000004002 fr) (hk : Kept fr z0 s) : Kept fr z0 (spreadChange s id t m) := by
  unfold spreadChange
  repeat' first
    | with_reducible assumption
    | with_reducible exact Stands.same
    | ((with_reducible refine Within.trans ?_ hm); rfl)
    | with_reducible apply State.setTask_kept
    | with_reducible apply squashTask_kept
    | with_reducible refine Kept.ite (fun _ => ?_) (fun _ => ?_)
    | with_reducible refine Kept.foldl (fun _ _ _ => ?_) ?_

theorem touchWay_kept {fr : Nat} {z0 : State} (k : Key) (w : Way) {s : State}  (hm : Within 0x1000 fr) (hk : Kept fr z0 s) : Kept fr z0 (touchWay s k w) := by
  unfold touchWay
  repeat' first
    | with_reducible assumption
    | with_reducible exact Stands.same
    | ((with_reducible refine Stands.hit (Within.trans ?_ hm)); rfl)
    | with_reducible apply setWay_kept
    | with_reducible refine Kept.ite (fun _ => ?_) (fun _ => ?_)
    | with_reducible refine Kept.foldl (fun _ _ _ => ?_) ?_
    | (fail_if_success with_reducible refine Kept.eta ?_); (with_reducible refine Kept.build ?_ rfl rfl ?_ ?_ ?_ ?_ ?_ ?_ ?_ ?_ ?_ ?_ ?_ ?_ ?_ ?_ ?_ ?_ ?_ ?_ ?_ ?_ ?_ ?_ ?_)

theorem wbPush_kept {fr : Nat} {z0 : State} (bank : Nat) (e : WbEntry) {s : State}  (hm : Within 0x8040000000000000000000000000000000000000000000000000000000001002 fr) (hk : Kept fr z0 s) : Kept fr z0 (wbPush s bank e) := by
  unfold wbPush
  repeat' first
    | with_reducible assumption
    | with_reducible exact Stands.same
    | ((with_reducible refine Within.trans ?_ hm); rfl)
    | ((with_reducible refine Stands.hit (Within.trans ?_ hm)); rfl)
    | with_reducible apply setWb_kept
    | with_reducible apply State.gmax_kept
    | with_reducible apply State.count_kept
    | with_reducible refine Kept.ite (fun _ => ?_) (fun _ => ?_)
    | with_reducible refine Kept.foldl (fun _ _ _ => ?_) ?_
    | (fail_if_success with_reducible refine Kept.eta ?_); (with_reducible refine Kept.build ?_ rfl rfl ?_ ?_ ?_ ?_ ?_ ?_ ?_ ?_ ?_ ?_ ?_ ?_ ?_ ?_ ?_ ?_ ?_ ?_ ?_ ?_ ?_ ?_ ?_)

theorem wbEase_kept {fr : Nat} {z0 : State} (bank : Nat) {s : State}  (hm : Within 0x1000 fr) (hk : Kept fr z0 s) : Kept fr z0 (wbEase s bank) := by
  unfold wbEase
  repeat' first
    | with_reducible assumption
    | with_reducible exact Stands.same
    | ((with_reducible refine Stands.hit (Within.trans ?_ hm)); rfl)
    | with_reducible refine Kept.ite (fun _ => ?_) (fun _ => ?_)
    | with_reducible refine Kept.foldl (fun _ _ _ => ?_) ?_
    | (fail_if_success with_reducible refine Kept.eta ?_); (with_reducible refine Kept.build ?_ rfl rfl ?_ ?_ ?_ ?_ ?_ ?_ ?_ ?_ ?_ ?_ ?_ ?_ ?_ ?_ ?_ ?_ ?_ ?_ ?_ ?_ ?_ ?_ ?_)

theorem evict_kept {fr : Nat} {z0 : State} (k : Key) (w : Way) {s : State}  (hm : Within 0x8070000000000000000000000000000000000000000000000000000000001002 fr) (hk : Kept fr z0 s) : Kept fr z0 (evict s k w) := by
  unfold evict
  repeat' first
    | with_reducible assumption
    | with_reducible exact Stands.same
    | ((with_reducible refine Within.trans ?_ hm); rfl)
    | with_reducible apply wbPush_kept
    | with_reducible apply setWay_kept
    | with_reducible apply State.count_kept
    | with_reducible refine Kept.ite (fun _ => ?_) (fun _ => ?_)

theorem fillWay_kept {fr : Nat} {z0 : State} (n : Nat) (words : List Nat) (dirty : Bool) {s : State}  (hm : Within 0x8078000000000000000000000000000000000000000000000000000000001002 fr) (hk : Kept fr z0 s) : KeptS fr z0 (fillWay s n words dirty) := by
  unfold fillWay
  repeat' first
    | with_reducible assumption
    | with_reducible exact Stands.same
    | ((with_reducible refine Within.trans ?_ hm); rfl)
    | with_reducible apply touchWay_kept
    | with_reducible apply State.count_kept
    | with_reducible apply evict_kept
    | with_reducible exact KeptS.none
    | with_reducible apply KeptS.some
    | with_reducible refine KeptS.ite (fun _ => ?_) (fun _ => ?_)
    | with_reducible refine Kept.ite (fun _ => ?_) (fun _ => ?_)
    | with_reducible refine Kept.foldl (fun _ _ _ => ?_) ?_
    | (fail_if_success with_reducible refine Kept.eta ?_); (with_reducible refine Kept.build ?_ rfl rfl ?_ ?_ ?_ ?_ ?_ ?_ ?_ ?_ ?_ ?_ ?_ ?_ ?_ ?_ ?_ ?_ ?_ ?_ ?_ ?_ ?_ ?_ ?_)
    | (with_reducible refine Kept.snd (by assumption) ?_)
    | dsimp only
    | split

theorem startTask_kept {fr : Nat} {z0 : State} (w : Waiter) (n : Nat) {s : State}  (hm : Within 0x14008 fr) (hk : Kept fr z0 s) : Kept fr z0 (startTask s w n) := by
  unfold startTask
  repeat' first
    | with_reducible assumption
    | with_reducible exact Stands.same
    | ((with_reducible refine Within.trans ?_ hm); rfl)
    | with_reducible apply State.modFrame_kept
    | with_reducible apply newTask_kept
    | with_reducible apply workSet_kept
    | with_reducible refine Kept.ite (fun _ => ?_) (fun _ => ?_)
    | with_reducible refine Kept.foldl (fun _ _ _ => ?_) ?_
    | (with_reducible refine Kept.snd (by assumption) ?_)
    | dsimp only
    | split

theorem startForward_kept {fr : Nat} {z0 : State} (id : Nat) (opcode : Nat) {s : State}  (hm : Within 0x4000 fr) (hk : Kept fr z0 s) : Kept fr z0 (startForward s id opcode) := by
  unfold startForward
  repeat' first
    | with_reducible assumption
    | with_reducible exact Stands.same
    | with_reducible apply newTask_kept

theorem endFixed_kept {fr : Nat} {z0 : State} (id : Nat) (t : Task) {s : State}  (hm : Within 0x80000000000000000000000000000000000000000000000004002 fr) (hk : Kept fr z0 s) : Kept fr z0 (endFixed s id t) := by
  unfold endFixed
  repeat' first
    | with_reducible assumption
    | with_reducible exact Stands.same
    | ((with_reducible refine Within.trans ?_ hm); rfl)
    | with_reducible apply State.count_kept
    | with_reducible apply State.setTask_kept

theorem startAll_kept {fr : Nat} {z0 : State} (l : List Waiter) (n : Nat) {s : State}  (hm : Within 0x14008 fr) (hk : Kept fr z0 s) : Kept fr z0 (startAll s l n) := by
  unfold startAll
  repeat' first
    | with_reducible assumption
    | with_reducible exact Stands.same
    | with_reducible apply startTask_kept
    | with_reducible refine Kept.ite (fun _ => ?_) (fun _ => ?_)
    | with_reducible refine Kept.foldl (fun _ _ _ => ?_) ?_

theorem freeEntry_kept {fr : Nat} {z0 : State} (k : Key) {s : State}  (hm : Within 0x1000 fr) (hk : Kept fr z0 s) : Kept fr z0 (freeEntry s k) := by
  unfold freeEntry
  repeat' first
    | with_reducible assumption
    | with_reducible exact Stands.same
    | ((with_reducible refine Stands.hit (Within.trans ?_ hm)); rfl)
    | with_reducible apply setMiss_kept
    | with_reducible refine Kept.ite (fun _ => ?_) (fun _ => ?_)
    | with_reducible refine Kept.foldl (fun _ _ _ => ?_) ?_
    | (fail_if_success with_reducible refine Kept.eta ?_); (with_reducible refine Kept.build ?_ rfl rfl ?_ ?_ ?_ ?_ ?_ ?_ ?_ ?_ ?_ ?_ ?_ ?_ ?_ ?_ ?_ ?_ ?_ ?_ ?_ ?_ ?_ ?_ ?_)

theorem tryFill_kept {fr : Nat} {z0 : State} (k : Key) (m : Miss) {s : State}  (hm : Within 0x807800000000000000000000000000000000000000000000000000000001500a fr) (hk : Kept fr z0 s) : KeptS fr z0 (tryFill s k m) := by
  unfold tryFill
  repeat' first
    | with_reducible assumption
    | with_reducible exact Stands.same
    | ((with_reducible refine Within.trans ?_ hm); rfl)
    | with_reducible apply fillWay_kept
    | with_reducible apply startAll_kept
    | with_reducible apply freeEntry_kept
    | with_reducible exact KeptS.none
    | with_reducible apply KeptS.some
    | with_reducible refine KeptS.ite (fun _ => ?_) (fun _ => ?_)
    | with_reducible refine Kept.ite (fun _ => ?_) (fun _ => ?_)
    | with_reducible refine Kept.foldl (fun _ _ _ => ?_) ?_
    | (fail_if_success with_reducible refine Kept.eta ?_); (with_reducible refine Kept.build ?_ rfl rfl ?_ ?_ ?_ ?_ ?_ ?_ ?_ ?_ ?_ ?_ ?_ ?_ ?_ ?_ ?_ ?_ ?_ ?_ ?_ ?_ ?_ ?_ ?_)
    | (with_reducible refine Kept.snd (by assumption) ?_)
    | (with_reducible refine KeptS.elim (by assumption) ?_)
    | with_reducible apply KeptS.getD
    | with_reducible refine KeptS.map (fun _ _ => ?_) ?_
    | dsimp only
    | split

theorem recordArrives_kept {fr : Nat} {z0 : State} (k : Key) (m : Miss) (n : Nat) (words : List Nat) (dirty : Bool) {s : State}  (hm : Within 0x807800000000000000000000000000000000000000000000000000000001500a fr) (hk : Kept fr z0 s) : Kept fr z0 (recordArrives s k m n words dirty) := by
  unfold recordArrives
  repeat' first
    | with_reducible assumption
    | with_reducible exact Stands.same
    | ((with_reducible refine Within.trans ?_ hm); rfl)
    | with_reducible apply startAll_kept
    | with_reducible apply setMiss_kept
    | with_reducible apply tryFill_kept
    | with_reducible refine Kept.ite (fun _ => ?_) (fun _ => ?_)
    | with_reducible refine Kept.foldl (fun _ _ _ => ?_) ?_
    | (with_reducible refine Kept.snd (by assumption) ?_)
    | (with_reducible refine KeptS.elim (by assumption) ?_)
    | with_reducible apply KeptS.getD
    | with_reducible refine KeptS.map (fun _ _ => ?_) ?_
    | dsimp only
    | split

theorem retryEntry_kept {fr : Nat} {z0 : State} (k : Key) {s : State}  (hm : Within 0x807800000000000000000000000000000000000000000000000000000001500a fr) (hk : Kept fr z0 s) : Kept fr z0 (retryEntry s k) := by
  unfold retryEntry
  repeat' first
    | with_reducible assumption
    | with_reducible exact Stands.same
    | ((with_reducible refine Within.trans ?_ hm); rfl)
    | with_reducible apply tryFill_kept
    | with_reducible apply wbPush_kept
    | with_reducible apply freeEntry_kept
    | with_reducible apply setMiss_kept
    | with_reducible refine Kept.ite (fun _ => ?_) (fun _ => ?_)
    | with_reducible refine Kept.foldl (fun _ _ _ => ?_) ?_
    | (with_reducible refine Kept.snd (by assumption) ?_)
    | (with_reducible refine KeptS.elim (by assumption) ?_)
    | with_reducible apply KeptS.getD
    | with_reducible refine KeptS.map (fun _ _ => ?_) ?_
    | dsimp only
    | split

theorem settle_kept {fr : Nat} {z0 : State} {s : State}  (hm : Within 0x807800000000000000000000000000000000000000000000000000000001500a fr) (hk : Kept fr z0 s) : Kept fr z0 (settle s) := by
  unfold settle
  repeat' first
    | with_reducible assumption
    | with_reducible exact Stands.same
    | ((with_reducible refine Within.trans ?_ hm); rfl)
    | with_reducible apply retryEntry_kept
    | with_reducible apply wake_kept
    | with_reducible refine Kept.ite (fun _ => ?_) (fun _ => ?_)
    | with_reducible refine Kept.foldl (fun _ _ _ => ?_) ?_

theorem orphan_kept {fr : Nat} {z0 : State} (n : Nat) {s : State}  (hm : Within 0x1000 fr) (hk : Kept fr z0 s) : Kept fr z0 (orphan s n) := by
  unfold orphan
  repeat' first
    | with_reducible assumption
    | with_reducible exact Stands.same
    | with_reducible apply toLookup_kept
    | with_reducible apply freeEntry_kept
    | with_reducible refine Kept.ite (fun _ => ?_) (fun _ => ?_)
    | with_reducible refine Kept.foldl (fun _ _ _ => ?_) ?_
    | (with_reducible refine Kept.snd (by assumption) ?_)
    | dsimp only
    | split

theorem removeRecord_kept {fr : Nat} {z0 : State} (id : Nat) (t : Task) (n : Nat) (cause : Nat) {s : State}  (hm : Within 0x800e000000000000000000000001109000817801302020000000000000000000000000000206180000000008000043580e fr) (hk : Kept fr z0 s) : Kept fr z0 (removeRecord s id t n cause) := by
  unfold removeRecord
  repeat' first
    | with_reducible assumption
    | with_reducible exact Stands.same
    | ((with_reducible refine Within.trans ?_ hm); rfl)
    | with_reducible apply wheyRemoval_kept
    | with_reducible apply State.count_kept
    | with_reducible apply orphan_kept
    | with_reducible apply freeRecord_kept
    | with_reducible apply State.setTask_kept
    | with_reducible apply settle_kept
    | with_reducible apply loseTask_kept
    | with_reducible refine Kept.ite (fun _ => ?_) (fun _ => ?_)
    | with_reducible refine Kept.foldl (fun _ _ _ => ?_) ?_

theorem discardRecord_kept {fr : Nat} {z0 : State} (n : Nat) (reason : Nat) (cause : Nat) {s : State}  (hm : Within 0x4800e0022040000000000000000000080008078013022204c0000000000000000000000000206180000000008000043588e fr) (hk : Kept fr z0 s) : Kept fr z0 (discardRecord s n reason cause) := by
  unfold discardRecord
  repeat' first
    | with_reducible assumption
    | with_reducible exact Stands.same
    | ((with_reducible refine Within.trans ?_ hm); rfl)
    | with_reducible apply wheyPoison_kept
    | with_reducible apply orphan_kept
    | with_reducible apply freeRecord_kept
    | with_reducible apply settle_kept
    | with_reducible apply loseTask_kept
    | with_reducible apply killPunt_kept
    | with_reducible apply loseSegment_kept
    | with_reducible apply State.setTask_kept
    | with_reducible apply cmdComplete_kept
    | with_reducible refine Kept.ite (fun _ => ?_) (fun _ => ?_)
    | with_reducible refine Kept.foldl (fun _ _ _ => ?_) ?_
    | (with_reducible refine Kept.snd (by assumption) ?_)
    | dsimp only
    | split

theorem setRow_kept {fr : Nat} {z0 : State} (a : Nat) (e : Option StrEntry) {s : State}  (hm : Within 0x2000 fr) (hk : Kept fr z0 s) : Kept fr z0 (setRow s a e) := by
  unfold setRow
  repeat' first
    | with_reducible assumption
    | with_reducible exact Stands.same
    | ((with_reducible refine Stands.hit (Within.trans ?_ hm)); rfl)
    | with_reducible refine Kept.ite (fun _ => ?_) (fun _ => ?_)
    | with_reducible refine Kept.foldl (fun _ _ _ => ?_) ?_
    | (fail_if_success with_reducible refine Kept.eta ?_); (with_reducible refine Kept.build ?_ rfl rfl ?_ ?_ ?_ ?_ ?_ ?_ ?_ ?_ ?_ ?_ ?_ ?_ ?_ ?_ ?_ ?_ ?_ ?_ ?_ ?_ ?_ ?_ ?_)

theorem setEntry_kept {fr : Nat} {z0 : State} (a : Nat) (e : StrEntry) {s : State}  (hm : Within 0x2000 fr) (hk : Kept fr z0 s) : Kept fr z0 (setEntry s a e) := by
  unfold setEntry
  repeat' first
    | with_reducible assumption
    | with_reducible exact Stands.same
    | with_reducible apply setRow_kept
    | with_reducible refine Kept.ite (fun _ => ?_) (fun _ => ?_)
    | with_reducible refine Kept.foldl (fun _ _ _ => ?_) ?_

theorem strLog_kept {fr : Nat} {z0 : State} (a : Nat) (kind : Nat) {s : State}  (hm : Within 0x4000000000000000000 fr) (hk : Kept fr z0 s) : Kept fr z0 (strLog s a kind) := by
  unfold strLog
  repeat' first
    | with_reducible assumption
    | with_reducible exact Stands.same
    | ((with_reducible refine Within.trans ?_ hm); rfl)
    | with_reducible apply State.fset_kept

theorem poisonCount_kept {fr : Nat} {z0 : State} {s : State}  (hm : Within 0x2000000000000000000 fr) (hk : Kept fr z0 s) : Kept fr z0 (poisonCount s) := by
  unfold poisonCount
  repeat' first
    | with_reducible assumption
    | with_reducible exact Stands.same
    | ((with_reducible refine Within.trans ?_ hm); rfl)
    | with_reducible apply State.fset_kept

theorem scrubEntry_kept {fr : Nat} {z0 : State} (a : Nat) (w : Nat) {s : State}  (hm : Within 0x2000 fr) (hk : Kept fr z0 s) : Kept fr z0 (scrubEntry s a w) := by
  unfold scrubEntry
  repeat' first
    | with_reducible assumption
    | with_reducible exact Stands.same
    | with_reducible apply setRow_kept
    | with_reducible refine Kept.ite (fun _ => ?_) (fun _ => ?_)
    | with_reducible refine Kept.foldl (fun _ _ _ => ?_) ?_

theorem checkWinner_kept {fr : Nat} {z0 : State} (bad : List Nat) (key : Nat) (a : Nat) (e : StrEntry) (tn : Option Nat) {s : State}  (hm : Within 0x2000000000000000000000000000000000000000000000006000000080000412006 fr) (hk : Kept fr z0 s) : KeptP fr z0 (checkWinner s bad key a e tn) := by
  unfold checkWinner
  repeat' first
    | with_reducible assumption
    | with_reducible exact Stands.same
    | ((with_reducible refine Within.trans ?_ hm); rfl)
    | with_reducible apply State.count_kept
    | with_reducible apply setRow_kept
    | with_reducible apply strLog_kept
    | with_reducible apply poisonCount_kept
    | with_reducible apply State.event_kept
    | with_reducible exact KeptP.none
    | with_reducible apply KeptP.some
    | with_reducible refine KeptP.ite (fun _ => ?_) (fun _ => ?_)
    | with_reducible refine Kept.ite (fun _ => ?_) (fun _ => ?_)
    | with_reducible refine Kept.foldl (fun _ _ _ => ?_) ?_
    | (with_reducible refine Kept.snd (by assumption) ?_)
    | dsimp only
    | split

theorem falseHit_kept {fr : Nat} {z0 : State} (a : Nat) (w : Nat) (kind : Nat) (tn : Option Nat) {s : State}  (hm : Within 0x400000000000000000000000000000000000000000000004000000000000002002 fr) (hk : Kept fr z0 s) : Kept fr z0 (falseHit s a w kind tn) := by
  unfold falseHit
  repeat' first
    | with_reducible assumption
    | with_reducible exact Stands.same
    | ((with_reducible refine Within.trans ?_ hm); rfl)
    | with_reducible apply strLog_kept
    | with_reducible apply scrubEntry_kept
    | with_reducible apply State.count_kept

theorem runProbe_kept {fr : Nat} {z0 : State} (t : Tab (Option StrEntry)) (bad : List Nat) (w : Nat) (parity : Nat) (key : Nat) (tn : Option Nat) {s : State}  (hm : Within 0x2cc0000000000000000000000000000000000000000000006000000080000412006 fr) (hk : Kept fr z0 s) : Kept fr z0 (runProbe s t bad w parity key tn).2 := by
  unfold runProbe
  repeat' first
    | with_reducible assumption
    | with_reducible exact Stands.same
    | ((with_reducible refine Within.trans ?_ hm); rfl)
    | with_reducible apply checkWinner_kept
    | with_reducible apply State.count_kept
    | with_reducible apply falseHit_kept
    | with_reducible refine Kept.ite (fun _ => ?_) (fun _ => ?_)
    | with_reducible refine Kept.foldl (fun _ _ _ => ?_) ?_
    | with_reducible refine Kept.foldlSnd (fun _ _ _ => ?_) ?_
    | with_reducible refine Kept.iteSnd (fun _ => ?_) (fun _ => ?_)
    | (with_reducible refine Kept.snd (by assumption) ?_)
    | (with_reducible refine KeptP.elim (by assumption) ?_)
    | with_reducible refine KeptP.mapSnd (fun _ _ _ => ?_) ?_
    | with_reducible refine KeptP.map (fun _ => ?_)
    | with_reducible refine KeptP.ite (fun _ => ?_) (fun _ => ?_)
    | dsimp only
    | split

theorem decideSearch_kept {fr : Nat} {z0 : State} (d : Nat) (r0 : Option (Nat × Nat)) (r1 : Option (Nat × Nat)) (tn : Option Nat) {s : State}  (hm : Within 0x300000000000000000000000000000000000000000000000000000000000000002 fr) (hk : Kept fr z0 s) : Kept fr z0 (decideSearch s d r0 r1 tn).2 := by
  unfold decideSearch
  repeat' first
    | with_reducible assumption
    | with_reducible exact Stands.same
    | ((with_reducible refine Within.trans ?_ hm); rfl)
    | with_reducible apply State.count_kept
    | with_reducible refine Kept.ite (fun _ => ?_) (fun _ => ?_)
    | with_reducible refine Kept.foldl (fun _ _ _ => ?_) ?_
    | (with_reducible refine Kept.snd (by assumption) ?_)
    | dsimp only
    | split

theorem applyErr_kept {fr : Nat} {z0 : State} (t : Tab (Option StrEntry)) (e : StrainerErr) {s : State}  (hm : Within 0x1000000000000000000000000000000000000000000000004000000000000002002 fr) (hk : Kept fr z0 s) : Kept fr z0 (applyErr s t e).2 := by
  unfold applyErr
  repeat' first
    | with_reducible assumption
    | with_reducible exact Stands.same
    | ((with_reducible refine Within.trans ?_ hm); rfl)
    | ((with_reducible refine Stands.hit (Within.trans ?_ hm)); rfl)
    | with_reducible apply strLog_kept
    | with_reducible apply State.count_kept
    | with_reducible refine Kept.ite (fun _ => ?_) (fun _ => ?_)
    | with_reducible refine Kept.foldl (fun _ _ _ => ?_) ?_
    | (fail_if_success with_reducible refine Kept.eta ?_); (with_reducible refine Kept.build ?_ rfl rfl ?_ ?_ ?_ ?_ ?_ ?_ ?_ ?_ ?_ ?_ ?_ ?_ ?_ ?_ ?_ ?_ ?_ ?_ ?_ ?_ ?_ ?_ ?_)
    | (with_reducible refine Kept.snd (by assumption) ?_)
    | dsimp only
    | split

theorem endDrop_kept {fr : Nat} {z0 : State} (id : Nat) (reason : Nat) {s : State}  (hm : Within 0x800e0022040000020000200d00000000000000000000004c0000000000000001380000000200000000000008000043018f fr) (hk : Kept fr z0 s) : Kept fr z0 (endDrop s id reason) := by
  unfold endDrop
  repeat' first
    | with_reducible assumption
    | with_reducible exact Stands.same
    | ((with_reducible refine Within.trans ?_ hm); rfl)
    | with_reducible apply dropFrame_kept
    | with_reducible apply slotSettle_kept

theorem endPunt_kept {fr : Nat} {z0 : State} (id : Nat) (reason : Nat) {s : State}  (hm : Within 0x4c0000000000000000000000000000000000000000000000008a fr) (hk : Kept fr z0 s) : Kept fr z0 (endPunt s id reason) := by
  unfold endPunt
  repeat' first
    | with_reducible assumption
    | with_reducible exact Stands.same
    | ((with_reducible refine Within.trans ?_ hm); rfl)
    | with_reducible apply raisePunt_kept
    | with_reducible apply slotSettle_kept

theorem poisonEnd_kept {fr : Nat} {z0 : State} (w : Waiter) {s : State}  (hm : Within 0x22040000000000000000000000000000000000004c0000000000000000000000000000000000000000000001008e fr) (hk : Kept fr z0 s) : Kept fr z0 (poisonEnd s w) := by
  unfold poisonEnd
  repeat' first
    | with_reducible assumption
    | with_reducible exact Stands.same
    | ((with_reducible refine Within.trans ?_ hm); rfl)
    | with_reducible apply endPunt_kept
    | with_reducible apply cmdComplete_kept
    | with_reducible refine Kept.ite (fun _ => ?_) (fun _ => ?_)
    | with_reducible refine Kept.foldl (fun _ _ _ => ?_) ?_
    | (with_reducible refine Kept.snd (by assumption) ?_)
    | dsimp only
    | split

theorem noRecord_kept {fr : Nat} {z0 : State} (set : Nat) (i : Nat) {s : State}  (hm : Within 0x10000 fr) (hk : Kept fr z0 s) : Kept fr z0 (noRecord s set i) := by
  unfold noRecord
  repeat' first
    | with_reducible assumption
    | with_reducible exact Stands.same
    | with_reducible apply workSet_kept
    | with_reducible refine Kept.ite (fun _ => ?_) (fun _ => ?_)
    | with_reducible refine Kept.foldl (fun _ _ _ => ?_) ?_
    | (with_reducible refine Kept.snd (by assumption) ?_)
    | dsimp only
    | split

theorem headerAct_kept {fr : Nat} {z0 : State} (id : Nat) (a : HeaderAct) {s : State}  (hm : Within 0x800e0022040000020000200d00000000000000000000004c0000000000000001380000000200000000000008000043418f fr) (hk : Kept fr z0 s) : Kept fr z0 (headerAct s id a) := by
  unfold headerAct
  repeat' first
    | with_reducible assumption
    | with_reducible exact Stands.same
    | ((with_reducible refine Within.trans ?_ hm); rfl)
    | with_reducible apply startForward_kept
    | with_reducible apply State.modFrame_kept
    | with_reducible apply endPunt_kept
    | with_reducible apply endDrop_kept
    | with_reducible refine Kept.ite (fun _ => ?_) (fun _ => ?_)
    | with_reducible refine Kept.foldl (fun _ _ _ => ?_) ?_
    | (with_reducible refine Kept.snd (by assumption) ?_)
    | dsimp only
    | split

theorem afterOutcome_kept {fr : Nat} {z0 : State} (k : Key) (m : Miss) (a : HeaderAct) (c : State → State) {s : State}  (hm : Within 0x800e0022040000020000200d00000000000000000000004c0000000000000001380000000200000000000008000043518f fr) (hk : Kept fr z0 s) (hc : ∀ s, Kept fr z0 s → Kept fr z0 (c s)) : Kept fr z0 (afterOutcome s k m a c) := by
  unfold afterOutcome
  repeat' first
    | with_reducible assumption
    | with_reducible exact Stands.same
    | ((with_reducible refine Within.trans ?_ hm); rfl)
    | with_reducible apply freeEntry_kept
    | with_reducible apply setMiss_kept
    | with_reducible apply headerAct_kept
    | with_reducible apply noRecord_kept
    | with_reducible apply hc
    | with_reducible refine Kept.ite (fun _ => ?_) (fun _ => ?_)
    | with_reducible refine Kept.foldl (fun _ _ _ => ?_) ?_
    | (with_reducible refine Kept.snd (by assumption) ?_)
    | dsimp only
    | split

theorem applyDecision_kept {fr : Nat} {z0 : State} (k : Key) (m : Miss) (d : Decision) {s : State}  (hm : Within 0x800e0022040000020000200d00000760008078000000004c0000000000000001380000000206000000000008000043598f fr) (hk : Kept fr z0 s) : Kept fr z0 (applyDecision s k m d) := by
  unfold applyDecision
  repeat' first
    | with_reducible assumption
    | with_reducible exact Stands.same
    | ((with_reducible refine Within.trans ?_ hm); rfl)
    | with_reducible apply poisonEnd_kept
    | with_reducible apply freeEntry_kept
    | with_reducible apply createRecord_kept
    | with_reducible apply State.count_kept
    | with_reducible apply State.modFrame_kept
    | with_reducible apply recordArrives_kept
    | with_reducible refine afterOutcome_kept _ _ _ _ ?_ ?_ (fun _ _ => ?_)
    | with_reducible apply countRefusal_kept
    | dsimp only [id]
    | with_reducible refine Kept.ite (fun _ => ?_) (fun _ => ?_)
    | with_reducible refine Kept.foldl (fun _ _ _ => ?_) ?_
    | with_reducible refine Kept.foldlSnd (fun _ _ _ => ?_) ?_
    | with_reducible refine Kept.iteSnd (fun _ => ?_) (fun _ => ?_)
    | (with_reducible refine Kept.snd (by assumption) ?_)
    | dsimp only
    | split

theorem startSearch_kept {fr : Nat} {z0 : State} (k : Key) (m : Miss) (id : Nat) {s : State}  (hm : Within 0x800e0022040000020000200d00000760239078000000004c0000000000000001380000000206000000000008000043598f fr) (hk : Kept fr z0 s) : Kept fr z0 (startSearch s k m id) := by
  unfold startSearch
  repeat' first
    | with_reducible assumption
    | with_reducible exact Stands.same
    | ((with_reducible refine Within.trans ?_ hm); rfl)
    | ((with_reducible refine Stands.hit (Within.trans ?_ hm)); rfl)
    | with_reducible apply applyDecision_kept
    | with_reducible apply State.count_kept
    | with_reducible refine afterOutcome_kept _ _ _ _ ?_ ?_ (fun _ _ => ?_)
    | with_reducible apply setMiss_kept
    | with_reducible apply State.gmax_kept
    | with_reducible refine Kept.ite (fun _ => ?_) (fun _ => ?_)
    | with_reducible refine Kept.foldl (fun _ _ _ => ?_) ?_
    | (fail_if_success with_reducible refine Kept.eta ?_); (with_reducible refine Kept.build ?_ rfl rfl ?_ ?_ ?_ ?_ ?_ ?_ ?_ ?_ ?_ ?_ ?_ ?_ ?_ ?_ ?_ ?_ ?_ ?_ ?_ ?_ ?_ ?_ ?_)

theorem serveNew_kept {fr : Nat} {z0 : State} (fuel : Nat) (k : Key) (m : Miss) {s : State}  (hm : Within 0x800e0022040000020000200d00000760239078000000004c0000000000000001380000000206000000000008000043598f fr) (hk : Kept fr z0 s) : Kept fr z0 (serveNew fuel s k m) := by
  induction fuel generalizing s k m with
  | zero =>
    unfold serveNew
    repeat' first
      | with_reducible assumption
  | succ y ih =>
    unfold serveNew
    repeat' first
      | with_reducible assumption
      | with_reducible exact Stands.same
      | ((with_reducible refine Within.trans ?_ hm); rfl)
      | with_reducible apply freeEntry_kept
      | with_reducible apply startSearch_kept
      | with_reducible apply setMiss_kept
      | with_reducible apply noRecord_kept
      | with_reducible apply ih
      | with_reducible refine Kept.ite (fun _ => ?_) (fun _ => ?_)
      | with_reducible refine Kept.foldl (fun _ _ _ => ?_) ?_
      | (with_reducible refine Kept.snd (by assumption) ?_)
      | dsimp only
      | split

theorem movePlace_kept {fr : Nat} {z0 : State} (n : Nat) (r : Rec) {s : State}  (hm : Within 0x8080000000000000000000000000000000000000000000020000000000000000000802 fr) (hk : Kept fr z0 s) : KeptS fr z0 (movePlace s n r) := by
  unfold movePlace
  repeat' first
    | with_reducible assumption
    | with_reducible exact Stands.same
    | ((with_reducible refine Within.trans ?_ hm); rfl)
    | with_reducible apply setStash_kept
    | with_reducible apply State.count_kept
    | with_reducible apply clearPlace_kept
    | with_reducible apply putPlace_kept
    | with_reducible apply State.setRecord_kept
    | with_reducible exact KeptS.none
    | with_reducible apply KeptS.some
    | with_reducible refine KeptS.ite (fun _ => ?_) (fun _ => ?_)
    | with_reducible refine Kept.ite (fun _ => ?_) (fun _ => ?_)
    | with_reducible refine Kept.foldl (fun _ _ _ => ?_) ?_
    | (fail_if_success with_reducible refine Kept.eta ?_); (with_reducible refine Kept.build ?_ rfl rfl ?_ ?_ ?_ ?_ ?_ ?_ ?_ ?_ ?_ ?_ ?_ ?_ ?_ ?_ ?_ ?_ ?_ ?_ ?_ ?_ ?_ ?_ ?_)
    | (with_reducible refine Kept.snd (by assumption) ?_)
    | dsimp only
    | split

theorem moveSlot_kept {fr : Nat} {z0 : State} (n : Nat) {s : State}  (hm : Within 0x8080000000000000000000000000000000000000000000020000000000000000000802 fr) (hk : Kept fr z0 s) : Kept fr z0 (moveSlot s n) := by
  unfold moveSlot
  repeat' first
    | with_reducible assumption
    | with_reducible exact Stands.same
    | with_reducible apply movePlace_kept
    | with_reducible refine Kept.ite (fun _ => ?_) (fun _ => ?_)
    | with_reducible refine Kept.foldl (fun _ _ _ => ?_) ?_
    | (with_reducible refine Kept.snd (by assumption) ?_)
    | (with_reducible refine KeptS.elim (by assumption) ?_)
    | with_reducible apply KeptS.getD
    | with_reducible refine KeptS.map (fun _ _ => ?_) ?_
    | dsimp only
    | split

theorem moveWay_kept {fr : Nat} {z0 : State} (k : Key) (w : Way) {s : State}  (hm : Within 0x8078000000000000000000000000000000000000000000000000000000001002 fr) (hk : Kept fr z0 s) : KeptS fr z0 (moveWay s k w) := by
  unfold moveWay
  repeat' first
    | with_reducible assumption
    | with_reducible exact Stands.same
    | ((with_reducible refine Within.trans ?_ hm); rfl)
    | with_reducible apply setWay_kept
    | with_reducible apply fillWay_kept
    | with_reducible apply wbPush_kept
    | with_reducible exact KeptS.none
    | with_reducible apply KeptS.some
    | with_reducible refine KeptS.ite (fun _ => ?_) (fun _ => ?_)
    | with_reducible refine Kept.ite (fun _ => ?_) (fun _ => ?_)
    | with_reducible refine Kept.foldl (fun _ _ _ => ?_) ?_
    | (fail_if_success with_reducible refine Kept.eta ?_); (with_reducible refine Kept.build ?_ rfl rfl ?_ ?_ ?_ ?_ ?_ ?_ ?_ ?_ ?_ ?_ ?_ ?_ ?_ ?_ ?_ ?_ ?_ ?_ ?_ ?_ ?_ ?_ ?_)
    | (with_reducible refine Kept.snd (by assumption) ?_)
    | (with_reducible refine KeptS.elim (by assumption) ?_)
    | with_reducible apply KeptS.getD
    | with_reducible refine KeptS.map (fun _ _ => ?_) ?_
    | dsimp only
    | split

theorem markMissing_kept {fr : Nat} {z0 : State} (w : Waiter) {s : State}  (hm : Within 0x10000 fr) (hk : Kept fr z0 s) : Kept fr z0 (markMissing s w) := by
  unfold markMissing
  repeat' first
    | with_reducible assumption
    | with_reducible exact Stands.same
    | with_reducible apply workSet_kept
    | with_reducible refine Kept.ite (fun _ => ?_) (fun _ => ?_)
    | with_reducible refine Kept.foldl (fun _ _ _ => ?_) ?_
    | (with_reducible refine Kept.snd (by assumption) ?_)
    | dsimp only
    | split

theorem turnBack_kept {fr : Nat} {z0 : State} (src : Nat) (bank : Nat) (r : Request) (l : List Request) (c : Ctr) {s : State}  (hm : Within 0x1002 fr) (hk : Kept fr z0 s) (hc : Within (Part.bit (.ctr c)) fr) : Kept fr z0 (turnBack s src bank r l c) := by
  unfold turnBack
  repeat' first
    | with_reducible assumption
    | with_reducible exact Stands.same
    | ((with_reducible refine Within.trans ?_ hm); rfl)
    | with_reducible apply setRequests_kept
    | with_reducible apply State.count_kept
    | with_reducible refine Kept.ite (fun _ => ?_) (fun _ => ?_)

theorem joinMiss_kept {fr : Nat} {z0 : State} (bank : Nat) (w : Waiter) (k : Key) (m : Miss) {s : State}  (hm : Within 0xa000000000000000000000000000000000000000000000000000001500a fr) (hk : Kept fr z0 s) : Kept fr z0 (joinMiss s bank w k m) := by
  unfold joinMiss
  repeat' first
    | with_reducible assumption
    | with_reducible exact Stands.same
    | ((with_reducible refine Within.trans ?_ hm); rfl)
    | with_reducible apply State.count_kept
    | with_reducible apply startTask_kept
    | with_reducible apply setMiss_kept
    | with_reducible apply markMissing_kept
    | with_reducible refine Kept.ite (fun _ => ?_) (fun _ => ?_)
    | with_reducible refine Kept.foldl (fun _ _ _ => ?_) ?_
    | (with_reducible refine Kept.snd (by assumption) ?_)
    | dsimp only
    | split

theorem openMiss_kept {fr : Nat} {z0 : State} (bank : Nat) (n : Nat) (w : Waiter) {s : State}  (hm : Within 0x2204000000000000000000000000c078320000004c0000000000000000000000000000000000000000000001508e fr) (hk : Kept fr z0 s) : Kept fr z0 (openMiss s bank n w) := by
  unfold openMiss
  repeat' first
    | with_reducible assumption
    | with_reducible exact Stands.same
    | ((with_reducible refine Within.trans ?_ hm); rfl)
    | with_reducible apply markMissing_kept
    | with_reducible apply poisonEnd_kept
    | with_reducible apply State.count_kept
    | with_reducible apply wbEase_kept
    | with_reducible apply setWb_kept
    | with_reducible apply State.gmax_kept
    | with_reducible apply recordArrives_kept
    | with_reducible apply setMiss_kept
    | with_reducible refine Kept.ite (fun _ => ?_) (fun _ => ?_)
    | with_reducible refine Kept.foldl (fun _ _ _ => ?_) ?_
    | (with_reducible refine Kept.snd (by assumption) ?_)
    | dsimp only
    | split

theorem lookupMiss_kept {fr : Nat} {z0 : State} (src : Nat) (bank : Nat) (r : Request) (l : List Request) {s : State}  (hm : Within 0x2204000000000000000000000000c07e3a0000004c0000000000000000000000000000000000000000000001508e fr) (hk : Kept fr z0 s) : Kept fr z0 (lookupMiss s src bank r l) := by
  unfold lookupMiss
  repeat' first
    | with_reducible assumption
    | with_reducible exact Stands.same
    | ((with_reducible refine Within.trans ?_ hm); rfl)
    | with_reducible apply setRequests_kept
    | with_reducible apply poisonEnd_kept
    | with_reducible apply State.count_kept
    | with_reducible apply turnBack_kept
    | with_reducible apply joinMiss_kept
    | with_reducible apply openMiss_kept
    | with_reducible refine Kept.ite (fun _ => ?_) (fun _ => ?_)
    | with_reducible refine Kept.foldl (fun _ _ _ => ?_) ?_
    | (with_reducible refine Kept.snd (by assumption) ?_)
    | dsimp only
    | split

theorem lookupOne_kept {fr : Nat} {z0 : State} (src : Nat) (bank : Nat) (r : Request) (l : List Request) {s : State}  (hm : Within 0x2204000000000000000000000000c07e3e0000004c0000000000000000000000000000000000000000000001508e fr) (hk : Kept fr z0 s) : Kept fr z0 (lookupOne s src bank r l) := by
  unfold lookupOne
  repeat' first
    | with_reducible assumption
    | with_reducible exact Stands.same
    | ((with_reducible refine Within.trans ?_ hm); rfl)
    | with_reducible apply setRequests_kept
    | with_reducible apply lookupMiss_kept
    | with_reducible apply State.count_kept
    | with_reducible apply poisonEnd_kept
    | with_reducible apply startTask_kept
    | with_reducible apply touchWay_kept
    | with_reducible apply moveWay_kept
    | with_reducible refine Kept.ite (fun _ => ?_) (fun _ => ?_)
    | with_reducible refine Kept.foldl (fun _ _ _ => ?_) ?_
    | (with_reducible refine Kept.snd (by assumption) ?_)
    | (with_reducible refine KeptS.elim (by assumption) ?_)
    | with_reducible apply KeptS.getD
    | with_reducible refine KeptS.map (fun _ _ => ?_) ?_
    | dsimp only
    | split

theorem execSkimLookup_kept {fr : Nat} {z0 : State} (source : Nat) (bank : Nat) {s : State}  (hm : Within 0x2204000000000000000000000000c07e3e0000004c0000000000000000000000000000000000000000000001508e fr) (hk : Kept fr z0 s) : KeptO fr z0 (execSkimLookup source bank s) := by
  unfold execSkimLookup
  repeat' first
    | with_reducible assumption
    | with_reducible exact Stands.same
    | ((with_reducible refine Within.trans ?_ hm); rfl)
    | with_reducible apply settle_kept
    | with_reducible apply lookupOne_kept
    | with_reducible apply KeptO.next
    | with_reducible refine KeptO.ite (fun _ => ?_) (fun _ => ?_)
    | with_reducible refine Kept.ite (fun _ => ?_) (fun _ => ?_)
    | with_reducible refine Kept.foldl (fun _ _ _ => ?_) ?_
    | (with_reducible refine Kept.snd (by assumption) ?_)
    | dsimp only
    | split

theorem execCellarLookupComplete_kept {fr : Nat} {z0 : State} (bank : Nat) (entry : Nat) {s : State}  (hm : Within 0x800e0022040000020000200d01008fe0239078c20000004c0000000000000001380000000206000000000008000043598f fr) (hk : Kept fr z0 s) : KeptO fr z0 (execCellarLookupComplete bank entry s) := by
  unfold execCellarLookupComplete
  repeat' first
    | with_reducible assumption
    | with_reducible exact Stands.same
    | ((with_reducible refine Within.trans ?_ hm); rfl)
    | with_reducible apply settle_kept
    | with_reducible apply poisonEnd_kept
    | with_reducible apply freeEntry_kept
    | with_reducible apply State.count_kept
    | with_reducible apply cellarLookup_kept
    | with_reducible apply moveSlot_kept
    | with_reducible apply recordArrives_kept
    | with_reducible apply serveNew_kept
    | with_reducible apply KeptO.next
    | with_reducible refine KeptO.ite (fun _ => ?_) (fun _ => ?_)
    | with_reducible refine Kept.ite (fun _ => ?_) (fun _ => ?_)
    | with_reducible refine Kept.foldl (fun _ _ _ => ?_) ?_
    | with_reducible refine Kept.foldlSnd (fun _ _ _ => ?_) ?_
    | with_reducible refine Kept.iteSnd (fun _ => ?_) (fun _ => ?_)
    | (with_reducible refine Kept.snd (by assumption) ?_)
    | dsimp only
    | split

theorem execStrainerProbeIssue_kept {fr : Nat} {z0 : State} (bank : Nat) {s : State}  (hm : Within 0x60000000000000000000000000000000000000000000000000000000000001002 fr) (hk : Kept fr z0 s) : KeptO fr z0 (execStrainerProbeIssue bank s) := by
  unfold execStrainerProbeIssue
  repeat' first
    | with_reducible assumption
    | with_reducible exact Stands.same
    | ((with_reducible refine Within.trans ?_ hm); rfl)
    | ((with_reducible refine Stands.hit (Within.trans ?_ hm)); rfl)
    | with_reducible apply setMiss_kept
    | with_reducible apply State.count_kept
    | with_reducible apply KeptO.next
    | with_reducible refine KeptO.ite (fun _ => ?_) (fun _ => ?_)
    | with_reducible refine Kept.ite (fun _ => ?_) (fun _ => ?_)
    | with_reducible refine Kept.foldl (fun _ _ _ => ?_) ?_
    | (fail_if_success with_reducible refine Kept.eta ?_); (with_reducible refine Kept.build ?_ rfl rfl ?_ ?_ ?_ ?_ ?_ ?_ ?_ ?_ ?_ ?_ ?_ ?_ ?_ ?_ ?_ ?_ ?_ ?_ ?_ ?_ ?_ ?_ ?_)
    | (with_reducible refine Kept.snd (by assumption) ?_)
    | dsimp only
    | split

theorem execStrainerSearchComplete_kept {fr : Nat} {z0 : State} (bank : Nat) (entry : Nat) (errs : List StrainerErr) {s : State}  (hm : Within 0x800e0022040000020000200d00000763fc8078000000004c0000000000000001380000000206000600000008000043798f fr) (hk : Kept fr z0 s) : KeptO fr z0 (execStrainerSearchComplete bank entry errs s) := by
  unfold execStrainerSearchComplete
  repeat' first
    | with_reducible assumption
    | with_reducible exact Stands.same
    | ((with_reducible refine Within.trans ?_ hm); rfl)
    | with_reducible apply applyErr_kept
    | with_reducible apply runProbe_kept
    | with_reducible apply decideSearch_kept
    | with_reducible apply settle_kept
    | with_reducible apply applyDecision_kept
    | with_reducible apply KeptO.next
    | with_reducible refine KeptO.ite (fun _ => ?_) (fun _ => ?_)
    | with_reducible refine Kept.ite (fun _ => ?_) (fun _ => ?_)
    | with_reducible refine Kept.foldl (fun _ _ _ => ?_) ?_
    | with_reducible refine Kept.foldlSnd (fun _ _ _ => ?_) ?_
    | with_reducible refine Kept.iteSnd (fun _ => ?_) (fun _ => ?_)
    | (with_reducible refine Kept.snd (by assumption) ?_)
    | dsimp only
    | split

theorem execScrubPass_kept {fr : Nat} {z0 : State} {s : State}  (hm : Within 0x8000000000000000000000000000000000000000000000000000000000000002002 fr) (hk : Kept fr z0 s) : KeptO fr z0 (execScrubPass s) := by
  unfold execScrubPass
  repeat' first
    | with_reducible assumption
    | with_reducible exact Stands.same
    | ((with_reducible refine Within.trans ?_ hm); rfl)
    | ((with_reducible refine Stands.hit (Within.trans ?_ hm)); rfl)
    | with_reducible apply State.count_kept
    | with_reducible apply KeptO.next
    | with_reducible refine KeptO.ite (fun _ => ?_) (fun _ => ?_)
    | with_reducible refine Kept.ite (fun _ => ?_) (fun _ => ?_)
    | with_reducible refine Kept.foldl (fun _ _ _ => ?_) ?_
    | (fail_if_success with_reducible refine Kept.eta ?_); (with_reducible refine Kept.build ?_ rfl rfl ?_ ?_ ?_ ?_ ?_ ?_ ?_ ?_ ?_ ?_ ?_ ?_ ?_ ?_ ?_ ?_ ?_ ?_ ?_ ?_ ?_ ?_ ?_)

theorem execSkimBypass_kept {fr : Nat} {z0 : State} (bank : Nat) (entry : Nat) {s : State}  (hm : Within 0x80f800000000000000000000000000000000000000000000000000000001500a fr) (hk : Kept fr z0 s) : KeptO fr z0 (execSkimBypass bank entry s) := by
  unfold execSkimBypass
  repeat' first
    | with_reducible assumption
    | with_reducible exact Stands.same
    | ((with_reducible refine Within.trans ?_ hm); rfl)
    | with_reducible apply tryFill_kept
    | with_reducible apply settle_kept
    | with_reducible apply setMiss_kept
    | with_reducible apply State.count_kept
    | with_reducible apply startAll_kept
    | with_reducible apply KeptO.next
    | with_reducible refine KeptO.ite (fun _ => ?_) (fun _ => ?_)
    | with_reducible refine Kept.ite (fun _ => ?_) (fun _ => ?_)
    | with_reducible refine Kept.foldl (fun _ _ _ => ?_) ?_
    | (with_reducible refine Kept.snd (by assumption) ?_)
    | (with_reducible refine KeptS.elim (by assumption) ?_)
    | with_reducible apply KeptS.getD
    | with_reducible refine KeptS.map (fun _ _ => ?_) ?_
    | dsimp only
    | split

theorem execBypassExit_kept {fr : Nat} {z0 : State} (bank : Nat) (entry : Nat) {s : State}  (hm : Within 0x807800000000000000000000000000000000000000000000000000000001500a fr) (hk : Kept fr z0 s) : KeptO fr z0 (execBypassExit bank entry s) := by
  unfold execBypassExit
  repeat' first
    | with_reducible assumption
    | with_reducible exact Stands.same
    | ((with_reducible refine Within.trans ?_ hm); rfl)
    | with_reducible apply tryFill_kept
    | with_reducible apply settle_kept
    | with_reducible apply wbPush_kept
    | with_reducible apply freeEntry_kept
    | with_reducible apply KeptO.next
    | with_reducible refine KeptO.ite (fun _ => ?_) (fun _ => ?_)
    | with_reducible refine Kept.ite (fun _ => ?_) (fun _ => ?_)
    | with_reducible refine Kept.foldl (fun _ _ _ => ?_) ?_
    | (with_reducible refine Kept.snd (by assumption) ?_)
    | (with_reducible refine KeptS.elim (by assumption) ?_)
    | with_reducible apply KeptS.getD
    | with_reducible refine KeptS.map (fun _ _ => ?_) ?_
    | dsimp only
    | split

theorem putHint_kept {fr : Nat} {z0 : State} (l : SlotLoc) (hint : Nat) {s : State}  (hm : Within 0x20000000000000000000800 fr) (hk : Kept fr z0 s) : Kept fr z0 (putHint s l hint) := by
  unfold putHint
  repeat' first
    | with_reducible assumption
    | with_reducible exact Stands.same
    | ((with_reducible refine Within.trans ?_ hm); rfl)
    | with_reducible apply setSlot_kept
    | with_reducible apply setStash_kept
    | with_reducible refine Kept.ite (fun _ => ?_) (fun _ => ?_)
    | with_reducible refine Kept.foldl (fun _ _ _ => ?_) ?_
    | (with_reducible refine Kept.snd (by assumption) ?_)
    | dsimp only
    | split

theorem writeRecord_kept {fr : Nat} {z0 : State} (e : WbEntry) {s : State}  (hm : Within 0x1000000000000000000000000000000000000000000000000000000000000000000000802 fr) (hk : Kept fr z0 s) : Kept fr z0 (writeRecord s e) := by
  unfold writeRecord
  repeat' first
    | with_reducible assumption
    | with_reducible exact Stands.same
    | ((with_reducible refine Within.trans ?_ hm); rfl)
    | ((with_reducible refine Stands.hit (Within.trans ?_ hm)); rfl)
    | with_reducible apply State.setRecord_kept
    | with_reducible apply State.count_kept
    | with_reducible refine Kept.ite (fun _ => ?_) (fun _ => ?_)
    | with_reducible refine Kept.foldl (fun _ _ _ => ?_) ?_
    | (fail_if_success with_reducible refine Kept.eta ?_); (with_reducible refine Kept.build ?_ rfl rfl ?_ ?_ ?_ ?_ ?_ ?_ ?_ ?_ ?_ ?_ ?_ ?_ ?_ ?_ ?_ ?_ ?_ ?_ ?_ ?_ ?_ ?_ ?_)
    | (with_reducible refine Kept.snd (by assumption) ?_)
    | dsimp only
    | split

theorem execWriteback_kept {fr : Nat} {z0 : State} (bank : Nat) {s : State}  (hm : Within 0x100000000807800000000000000000000000000000000000000000000000000000001580a fr) (hk : Kept fr z0 s) : KeptO fr z0 (execWriteback bank s) := by
  unfold execWriteback
  repeat' first
    | with_reducible assumption
    | with_reducible exact Stands.same
    | ((with_reducible refine Within.trans ?_ hm); rfl)
    | with_reducible apply settle_kept
    | with_reducible apply writeRecord_kept
    | with_reducible apply wbEase_kept
    | with_reducible apply setWb_kept
    | with_reducible apply KeptO.next
    | with_reducible refine KeptO.ite (fun _ => ?_) (fun _ => ?_)
    | with_reducible refine Kept.ite (fun _ => ?_) (fun _ => ?_)
    | with_reducible refine Kept.foldl (fun _ _ _ => ?_) ?_
    | (with_reducible refine Kept.snd (by assumption) ?_)
    | dsimp only
    | split

theorem execHintRewrite_kept {fr : Nat} {z0 : State} {s : State}  (hm : Within 0x61000000000000000000000000000000000000000000000000020000000000000000000802 fr) (hk : Kept fr z0 s) : KeptO fr z0 (execHintRewrite s) := by
  unfold execHintRewrite
  repeat' first
    | with_reducible assumption
    | with_reducible exact Stands.same
    | ((with_reducible refine Within.trans ?_ hm); rfl)
    | ((with_reducible refine Stands.hit (Within.trans ?_ hm)); rfl)
    | with_reducible apply State.count_kept
    | with_reducible apply putHint_kept
    | with_reducible apply KeptO.next
    | with_reducible refine KeptO.ite (fun _ => ?_) (fun _ => ?_)
    | with_reducible refine Kept.ite (fun _ => ?_) (fun _ => ?_)
    | with_reducible refine Kept.foldl (fun _ _ _ => ?_) ?_
    | (fail_if_success with_reducible refine Kept.eta ?_); (with_reducible refine Kept.build ?_ rfl rfl ?_ ?_ ?_ ?_ ?_ ?_ ?_ ?_ ?_ ?_ ?_ ?_ ?_ ?_ ?_ ?_ ?_ ?_ ?_ ?_ ?_ ?_ ?_)
    | (with_reducible refine Kept.snd (by assumption) ?_)
    | dsimp only
    | split

theorem execHintSkip_kept {fr : Nat} {z0 : State} {s : State}  (hm : Within 0x40000000000000000000000000000000000000000000000000000000000000000000000802 fr) (hk : Kept fr z0 s) : KeptO fr z0 (execHintSkip s) := by
  unfold execHintSkip
  repeat' first
    | with_reducible assumption
    | with_reducible exact Stands.same
    | ((with_reducible refine Within.trans ?_ hm); rfl)
    | ((with_reducible refine Stands.hit (Within.trans ?_ hm)); rfl)
    | with_reducible apply State.count_kept
    | with_reducible apply KeptO.next
    | with_reducible refine KeptO.ite (fun _ => ?_) (fun _ => ?_)
    | with_reducible refine Kept.ite (fun _ => ?_) (fun _ => ?_)
    | with_reducible refine Kept.foldl (fun _ _ _ => ?_) ?_
    | (fail_if_success with_reducible refine Kept.eta ?_); (with_reducible refine Kept.build ?_ rfl rfl ?_ ?_ ?_ ?_ ?_ ?_ ?_ ?_ ?_ ?_ ?_ ?_ ?_ ?_ ?_ ?_ ?_ ?_ ?_ ?_ ?_ ?_ ?_)
    | (with_reducible refine Kept.snd (by assumption) ?_)
    | dsimp only
    | split

theorem execHbmEccError_kept {fr : Nat} {z0 : State} (err : HbmErr) {s : State}  (hm : Within 0x4800e0022040000020000200d000607e0239078033022204c0000000000000001380000000206180000000008000043598f fr) (hk : Kept fr z0 s) : KeptO fr z0 (execHbmEccError err s) := by
  unfold execHbmEccError
  repeat' first
    | with_reducible assumption
    | with_reducible exact Stands.same
    | ((with_reducible refine Within.trans ?_ hm); rfl)
    | ((with_reducible refine Stands.hit (Within.trans ?_ hm)); rfl)
    | with_reducible apply State.count_kept
    | with_reducible apply newTask_kept
    | with_reducible apply discardRecord_kept
    | with_reducible apply settle_kept
    | with_reducible apply serveNew_kept
    | with_reducible apply poisonEnd_kept
    | with_reducible apply KeptO.next
    | with_reducible refine KeptO.ite (fun _ => ?_) (fun _ => ?_)
    | with_reducible refine Kept.ite (fun _ => ?_) (fun _ => ?_)
    | with_reducible refine Kept.foldl (fun _ _ _ => ?_) ?_
    | (fail_if_success with_reducible refine Kept.eta ?_); (with_reducible refine Kept.build ?_ rfl rfl ?_ ?_ ?_ ?_ ?_ ?_ ?_ ?_ ?_ ?_ ?_ ?_ ?_ ?_ ?_ ?_ ?_ ?_ ?_ ?_ ?_ ?_ ?_)
    | (with_reducible refine Kept.snd (by assumption) ?_)
    | dsimp only
    | split

theorem execPoisonBucketRebuildDone_kept {fr : Nat} {z0 : State} (bucket : Nat) {s : State}  (hm : Within 0x80000000000000000000000000000020000000000080000414806 fr) (hk : Kept fr z0 s) : KeptO fr z0 (execPoisonBucketRebuildDone bucket s) := by
  unfold execPoisonBucketRebuildDone
  repeat' first
    | with_reducible assumption
    | with_reducible exact Stands.same
    | ((with_reducible refine Within.trans ?_ hm); rfl)
    | ((with_reducible refine Stands.hit (Within.trans ?_ hm)); rfl)
    | with_reducible apply endFixed_kept
    | with_reducible apply State.event_kept
    | with_reducible apply KeptO.next
    | with_reducible refine KeptO.ite (fun _ => ?_) (fun _ => ?_)
    | with_reducible refine Kept.ite (fun _ => ?_) (fun _ => ?_)
    | with_reducible refine Kept.foldl (fun _ _ _ => ?_) ?_
    | (fail_if_success with_reducible refine Kept.eta ?_); (with_reducible refine Kept.build ?_ rfl rfl ?_ ?_ ?_ ?_ ?_ ?_ ?_ ?_ ?_ ?_ ?_ ?_ ?_ ?_ ?_ ?_ ?_ ?_ ?_ ?_ ?_ ?_ ?_)
    | (with_reducible refine Kept.snd (by assumption) ?_)
    | dsimp only
    | split

theorem skimPoison_kept {fr : Nat} {z0 : State} (bank : Nat) (n : Nat) {s : State}  (hm : Within 0x4800e0022040000000000000000000080008878013022204c0000000000000000000000000206180000000408000043588e fr) (hk : Kept fr z0 s) : Kept fr z0 (skimPoison s bank n) := by
  unfold skimPoison
  repeat' first
    | with_reducible assumption
    | with_reducible exact Stands.same
    | ((with_reducible refine Within.trans ?_ hm); rfl)
    | with_reducible apply discardRecord_kept
    | with_reducible apply State.count_kept
    | with_reducible apply State.event_kept

theorem execSkimEccError_kept {fr : Nat} {z0 : State} (err : SkimErr) {s : State}  (hm : Within 0x4800e0022040000000000000000000080008e78013022204c0000000000000000000000000206180000000408000043588e fr) (hk : Kept fr z0 s) : KeptO fr z0 (execSkimEccError err s) := by
  unfold execSkimEccError
  repeat' first
    | with_reducible assumption
    | with_reducible exact Stands.same
    | ((with_reducible refine Within.trans ?_ hm); rfl)
    | with_reducible apply State.count_kept
    | with_reducible apply skimPoison_kept
    | with_reducible apply settle_kept
    | with_reducible apply setWay_kept
    | with_reducible apply KeptO.next
    | with_reducible refine KeptO.ite (fun _ => ?_) (fun _ => ?_)
    | with_reducible refine Kept.ite (fun _ => ?_) (fun _ => ?_)
    | with_reducible refine Kept.foldl (fun _ _ _ => ?_) ?_
    | (with_reducible refine Kept.snd (by assumption) ?_)
    | dsimp only
    | split

theorem startTeardown_kept {fr : Nat} {z0 : State} (n : Nat) (cause : Nat) (place : Nat) (level : Nat) (cmd : Option (Nat × Nat)) {s : State}  (hm : Within 0x4000 fr) (hk : Kept fr z0 s) : Kept fr z0 (startTeardown s n cause place level cmd) := by
  unfold startTeardown
  repeat' first
    | with_reducible assumption
    | with_reducible exact Stands.same
    | with_reducible apply newTask_kept

theorem takePlace_kept {fr : Nat} {z0 : State} {s : State}  (hm : Within 0x8 fr) (hk : Kept fr z0 s) : Kept fr z0 (takePlace s).2 := by
  unfold takePlace
  repeat' first
    | with_reducible assumption
    | with_reducible exact Stands.same
    | ((with_reducible refine Stands.hit (Within.trans ?_ hm)); rfl)
    | with_reducible refine Kept.ite (fun _ => ?_) (fun _ => ?_)
    | with_reducible refine Kept.foldl (fun _ _ _ => ?_) ?_
    | (fail_if_success with_reducible refine Kept.eta ?_); (with_reducible refine Kept.build ?_ rfl rfl ?_ ?_ ?_ ?_ ?_ ?_ ?_ ?_ ?_ ?_ ?_ ?_ ?_ ?_ ?_ ?_ ?_ ?_ ?_ ?_ ?_ ?_ ?_)

theorem startVisit_kept {fr : Nat} {z0 : State} (w : Walker) (n : Nat) {s : State}  (hm : Within 0x4008 fr) (hk : Kept fr z0 s) : Kept fr z0 (startVisit s w n) := by
  unfold startVisit
  repeat' first
    | with_reducible assumption
    | with_reducible exact Stands.same
    | ((with_reducible refine Within.trans ?_ hm); rfl)
    | with_reducible apply takePlace_kept
    | with_reducible apply newTask_kept

theorem walkStep_kept {fr : Nat} {z0 : State} (w : Walker) (act : State → Task → Nat → Option State) (move : State → State) {s : State}  (hm : Within 0x807800000008000000000000000000000000000000000000000000000001500a fr) (hk : Kept fr z0 s) (hact : ∀ s t n, Kept fr z0 s → KeptS fr z0 (act s t n)) (hmove : ∀ s, Kept fr z0 s → Kept fr z0 (move s)) : Kept fr z0 (walkStep s w act move) := by
  unfold walkStep
  repeat' first
    | with_reducible assumption
    | with_reducible exact Stands.same
    | ((with_reducible refine Within.trans ?_ hm); rfl)
    | with_reducible apply endFixed_kept
    | with_reducible apply settle_kept
    | with_reducible apply hact
    | with_reducible apply hmove
    | with_reducible exact KeptS.none
    | with_reducible apply KeptS.some
    | with_reducible refine KeptS.ite (fun _ => ?_) (fun _ => ?_)
    | (with_reducible refine KeptS.elim (by assumption) ?_)
    | with_reducible refine Kept.ite (fun _ => ?_) (fun _ => ?_)
    | with_reducible refine Kept.foldl (fun _ _ _ => ?_) ?_
    | (with_reducible refine Kept.snd (by assumption) ?_)
    | dsimp only
    | split

theorem removeDue_kept {fr : Nat} {z0 : State} (t : Task) (n : Nat) (cause : Nat) (due : List Nat → Bool) {s : State}  (hm : Within 0x4000 fr) (hk : Kept fr z0 s) : Kept fr z0 (removeDue s t n cause due) := by
  unfold removeDue
  repeat' first
    | with_reducible assumption
    | with_reducible exact Stands.same
    | with_reducible apply startTeardown_kept
    | with_reducible refine Kept.ite (fun _ => ?_) (fun _ => ?_)
    | with_reducible refine Kept.foldl (fun _ _ _ => ?_) ?_
    | (with_reducible refine Kept.snd (by assumption) ?_)
    | dsimp only
    | split

theorem sweepStart_kept {fr : Nat} {z0 : State} (inc : Bool) {s : State}  (hm : Within 0x4000000000000000000000000000000000000000000000004000000000000000000802 fr) (hk : Kept fr z0 s) : Kept fr z0 (sweepStart s inc) := by
  unfold sweepStart
  repeat' first
    | with_reducible assumption
    | with_reducible exact Stands.same
    | ((with_reducible refine Within.trans ?_ hm); rfl)
    | ((with_reducible refine Stands.hit (Within.trans ?_ hm)); rfl)
    | with_reducible apply State.fset_kept
    | with_reducible apply State.count_kept
    | with_reducible refine Kept.ite (fun _ => ?_) (fun _ => ?_)
    | with_reducible refine Kept.foldl (fun _ _ _ => ?_) ?_
    | (fail_if_success with_reducible refine Kept.eta ?_); (with_reducible refine Kept.build ?_ rfl rfl ?_ ?_ ?_ ?_ ?_ ?_ ?_ ?_ ?_ ?_ ?_ ?_ ?_ ?_ ?_ ?_ ?_ ?_ ?_ ?_ ?_ ?_ ?_)

theorem execSweepVisit_kept {fr : Nat} {z0 : State} {s : State}  (hm : Within 0x807800000008000000000000000000000000000000000000000000000001580a fr) (hk : Kept fr z0 s) : KeptO fr z0 (execSweepVisit s) := by
  unfold execSweepVisit
  repeat' first
    | with_reducible assumption
    | with_reducible exact Stands.same
    | ((with_reducible refine Within.trans ?_ hm); rfl)
    | ((with_reducible refine Stands.hit (Within.trans ?_ hm)); rfl)
    | with_reducible refine walkStep_kept _ _ _ ?_ ?_ (fun _ _ _ _ => ?_) (fun _ _ => ?_)
    | with_reducible apply removeDue_kept
    | with_reducible apply startVisit_kept
    | with_reducible apply KeptO.next
    | with_reducible refine KeptO.ite (fun _ => ?_) (fun _ => ?_)
    | with_reducible exact KeptS.none
    | with_reducible apply KeptS.some
    | with_reducible refine KeptS.ite (fun _ => ?_) (fun _ => ?_)
    | (with_reducible refine KeptS.elim (by assumption) ?_)
    | with_reducible refine Kept.ite (fun _ => ?_) (fun _ => ?_)
    | with_reducible refine Kept.foldl (fun _ _ _ => ?_) ?_
    | (fail_if_success with_reducible refine Kept.eta ?_); (with_reducible refine Kept.build ?_ rfl rfl ?_ ?_ ?_ ?_ ?_ ?_ ?_ ?_ ?_ ?_ ?_ ?_ ?_ ?_ ?_ ?_ ?_ ?_ ?_ ?_ ?_ ?_ ?_)
    | (with_reducible refine Kept.snd (by assumption) ?_)
    | dsimp only
    | split

theorem execSweepEnd_kept {fr : Nat} {z0 : State} {s : State}  (hm : Within 0x4000000000000000000000000000000000000000000000004000000000000000000802 fr) (hk : Kept fr z0 s) : KeptO fr z0 (execSweepEnd s) := by
  unfold execSweepEnd
  repeat' first
    | with_reducible assumption
    | with_reducible exact Stands.same
    | ((with_reducible refine Within.trans ?_ hm); rfl)
    | ((with_reducible refine Stands.hit (Within.trans ?_ hm)); rfl)
    | with_reducible apply State.fset_kept
    | with_reducible apply sweepStart_kept
    | with_reducible apply KeptO.next
    | with_reducible refine KeptO.ite (fun _ => ?_) (fun _ => ?_)
    | with_reducible refine Kept.ite (fun _ => ?_) (fun _ => ?_)
    | with_reducible refine Kept.foldl (fun _ _ _ => ?_) ?_
    | (fail_if_success with_reducible refine Kept.eta ?_); (with_reducible refine Kept.build ?_ rfl rfl ?_ ?_ ?_ ?_ ?_ ?_ ?_ ?_ ?_ ?_ ?_ ?_ ?_ ?_ ?_ ?_ ?_ ?_ ?_ ?_ ?_ ?_ ?_)
    | (with_reducible refine Kept.snd (by assumption) ?_)
    | dsimp only
    | split

theorem execPurgeVisit_kept {fr : Nat} {z0 : State} {s : State}  (hm : Within 0x807800000008000000000000000000000000000000000100000000000001580a fr) (hk : Kept fr z0 s) : KeptO fr z0 (execPurgeVisit s) := by
  unfold execPurgeVisit
  repeat' first
    | with_reducible assumption
    | with_reducible exact Stands.same
    | ((with_reducible refine Within.trans ?_ hm); rfl)
    | ((with_reducible refine Stands.hit (Within.trans ?_ hm)); rfl)
    | with_reducible refine walkStep_kept _ _ _ ?_ ?_ (fun _ _ _ _ => ?_) (fun _ _ => ?_)
    | with_reducible apply removeDue_kept
    | with_reducible apply startVisit_kept
    | with_reducible apply State.fset_kept
    | with_reducible apply KeptO.next
    | with_reducible refine KeptO.ite (fun _ => ?_) (fun _ => ?_)
    | with_reducible exact KeptS.none
    | with_reducible apply KeptS.some
    | with_reducible refine KeptS.ite (fun _ => ?_) (fun _ => ?_)
    | (with_reducible refine KeptS.elim (by assumption) ?_)
    | with_reducible refine Kept.ite (fun _ => ?_) (fun _ => ?_)
    | with_reducible refine Kept.foldl (fun _ _ _ => ?_) ?_
    | (fail_if_success with_reducible refine Kept.eta ?_); (with_reducible refine Kept.build ?_ rfl rfl ?_ ?_ ?_ ?_ ?_ ?_ ?_ ?_ ?_ ?_ ?_ ?_ ?_ ?_ ?_ ?_ ?_ ?_ ?_ ?_ ?_ ?_ ?_)
    | (with_reducible refine Kept.snd (by assumption) ?_)
    | dsimp only
    | split

theorem periodicEnd_kept {fr : Nat} {z0 : State} {s : State}  (hm : Within 0x2000000000000000000000800 fr) (hk : Kept fr z0 s) : Kept fr z0 (periodicEnd s) := by
  unfold periodicEnd
  repeat' first
    | with_reducible assumption
    | with_reducible exact Stands.same
    | ((with_reducible refine Within.trans ?_ hm); rfl)
    | ((with_reducible refine Stands.hit (Within.trans ?_ hm)); rfl)
    | with_reducible apply State.fset_kept
    | with_reducible refine Kept.ite (fun _ => ?_) (fun _ => ?_)
    | with_reducible refine Kept.foldl (fun _ _ _ => ?_) ?_
    | (fail_if_success with_reducible refine Kept.eta ?_); (with_reducible refine Kept.build ?_ rfl rfl ?_ ?_ ?_ ?_ ?_ ?_ ?_ ?_ ?_ ?_ ?_ ?_ ?_ ?_ ?_ ?_ ?_ ?_ ?_ ?_ ?_ ?_ ?_)

theorem execPeriodicVisit_kept {fr : Nat} {z0 : State} {s : State}  (hm : Within 0x802e000000000000000000000000000000807800000008000000000000000000000000000200000000000008000043580e fr) (hk : Kept fr z0 s) : KeptO fr z0 (execPeriodicVisit s) := by
  unfold execPeriodicVisit
  repeat' first
    | with_reducible assumption
    | with_reducible exact Stands.same
    | ((with_reducible refine Within.trans ?_ hm); rfl)
    | ((with_reducible refine Stands.hit (Within.trans ?_ hm)); rfl)
    | with_reducible refine walkStep_kept _ _ _ ?_ ?_ (fun _ _ _ _ => ?_) (fun _ _ => ?_)
    | with_reducible apply wheyEmit_kept
    | with_reducible apply State.count_kept
    | with_reducible apply startVisit_kept
    | with_reducible apply periodicEnd_kept
    | with_reducible apply KeptO.next
    | with_reducible refine KeptO.ite (fun _ => ?_) (fun _ => ?_)
    | with_reducible exact KeptS.none
    | with_reducible apply KeptS.some
    | with_reducible refine KeptS.ite (fun _ => ?_) (fun _ => ?_)
    | (with_reducible refine KeptS.elim (by assumption) ?_)
    | with_reducible refine Kept.ite (fun _ => ?_) (fun _ => ?_)
    | with_reducible refine Kept.foldl (fun _ _ _ => ?_) ?_
    | (fail_if_success with_reducible refine Kept.eta ?_); (with_reducible refine Kept.build ?_ rfl rfl ?_ ?_ ?_ ?_ ?_ ?_ ?_ ?_ ?_ ?_ ?_ ?_ ?_ ?_ ?_ ?_ ?_ ?_ ?_ ?_ ?_ ?_ ?_)
    | (with_reducible refine Kept.snd (by assumption) ?_)
    | dsimp only
    | split

theorem rekeyBegin_kept {fr : Nat} {z0 : State} {s : State}  (hm : Within 0x10000000008080000410805 fr) (hk : Kept fr z0 s) : Kept fr z0 (rekeyBegin s) := by
  unfold rekeyBegin
  repeat' first
    | with_reducible assumption
    | with_reducible exact Stands.same
    | ((with_reducible refine Within.trans ?_ hm); rfl)
    | ((with_reducible refine Stands.hit (Within.trans ?_ hm)); rfl)
    | with_reducible apply State.event_kept
    | with_reducible apply State.draw_kept
    | with_reducible apply State.fset_kept
    | with_reducible refine Kept.ite (fun _ => ?_) (fun _ => ?_)
    | with_reducible refine Kept.foldl (fun _ _ _ => ?_) ?_
    | with_reducible refine Kept.foldlSnd (fun _ _ _ => ?_) ?_
    | with_reducible refine Kept.iteSnd (fun _ => ?_) (fun _ => ?_)
    | (fail_if_success with_reducible refine Kept.eta ?_); (with_reducible refine Kept.build ?_ rfl rfl ?_ ?_ ?_ ?_ ?_ ?_ ?_ ?_ ?_ ?_ ?_ ?_ ?_ ?_ ?_ ?_ ?_ ?_ ?_ ?_ ?_ ?_ ?_)

theorem migrateVisit_kept {fr : Nat} {z0 : State} (t : Task) (n : Nat) {s : State}  (hm : Within 0x10008080008078000000000000000000000000000000000000020000000000000000005802 fr) (hk : Kept fr z0 s) : KeptS fr z0 (migrateVisit s t n) := by
  unfold migrateVisit
  repeat' first
    | with_reducible assumption
    | with_reducible exact Stands.same
    | ((with_reducible refine Within.trans ?_ hm); rfl)
    | with_reducible apply movePlace_kept
    | with_reducible apply State.count_kept
    | with_reducible apply startTeardown_kept
    | with_reducible apply moveWay_kept
    | with_reducible exact KeptS.none
    | with_reducible apply KeptS.some
    | with_reducible refine KeptS.ite (fun _ => ?_) (fun _ => ?_)
    | with_reducible refine Kept.ite (fun _ => ?_) (fun _ => ?_)
    | with_reducible refine Kept.foldl (fun _ _ _ => ?_) ?_
    | (fail_if_success with_reducible refine Kept.eta ?_); (with_reducible refine Kept.build ?_ rfl rfl ?_ ?_ ?_ ?_ ?_ ?_ ?_ ?_ ?_ ?_ ?_ ?_ ?_ ?_ ?_ ?_ ?_ ?_ ?_ ?_ ?_ ?_ ?_)
    | (with_reducible refine Kept.snd (by assumption) ?_)
    | (with_reducible refine KeptS.elim (by assumption) ?_)
    | with_reducible apply KeptS.getD
    | with_reducible refine KeptS.map (fun _ _ => ?_) ?_
    | dsimp only
    | split

theorem execRekeyMigrateVisit_kept {fr : Nat} {z0 : State} {s : State}  (hm : Within 0x1000808000807800000008000000000000000000000000000003000000000000000001580a fr) (hk : Kept fr z0 s) : KeptO fr z0 (execRekeyMigrateVisit s) := by
  unfold execRekeyMigrateVisit
  repeat' first
    | with_reducible assumption
    | with_reducible exact Stands.same
    | ((with_reducible refine Within.trans ?_ hm); rfl)
    | ((with_reducible refine Stands.hit (Within.trans ?_ hm)); rfl)
    | with_reducible refine walkStep_kept _ _ _ ?_ ?_ (fun _ _ _ _ => ?_) (fun _ _ => ?_)
    | with_reducible apply migrateVisit_kept
    | with_reducible apply State.count_kept
    | with_reducible apply State.fset_kept
    | with_reducible apply startVisit_kept
    | with_reducible apply KeptO.next
    | with_reducible refine KeptO.ite (fun _ => ?_) (fun _ => ?_)
    | with_reducible exact KeptS.none
    | with_reducible apply KeptS.some
    | with_reducible refine KeptS.ite (fun _ => ?_) (fun _ => ?_)
    | (with_reducible refine KeptS.elim (by assumption) ?_)
    | with_reducible refine Kept.ite (fun _ => ?_) (fun _ => ?_)
    | with_reducible refine Kept.foldl (fun _ _ _ => ?_) ?_
    | (fail_if_success with_reducible refine Kept.eta ?_); (with_reducible refine Kept.build ?_ rfl rfl ?_ ?_ ?_ ?_ ?_ ?_ ?_ ?_ ?_ ?_ ?_ ?_ ?_ ?_ ?_ ?_ ?_ ?_ ?_ ?_ ?_ ?_ ?_)
    | (with_reducible refine Kept.snd (by assumption) ?_)
    | (with_reducible refine KeptS.elim (by assumption) ?_)
    | with_reducible apply KeptS.getD
    | with_reducible refine KeptS.map (fun _ _ => ?_) ?_
    | dsimp only
    | split

theorem rekeySettle_kept {fr : Nat} {z0 : State} {s : State}  (hm : Within 0x10000000008000000000800 fr) (hk : Kept fr z0 s) : Kept fr z0 (rekeySettle s) := by
  unfold rekeySettle
  repeat' first
    | with_reducible assumption
    | with_reducible exact Stands.same
    | ((with_reducible refine Within.trans ?_ hm); rfl)
    | ((with_reducible refine Stands.hit (Within.trans ?_ hm)); rfl)
    | with_reducible apply State.fset_kept
    | with_reducible refine Kept.ite (fun _ => ?_) (fun _ => ?_)
    | with_reducible refine Kept.foldl (fun _ _ _ => ?_) ?_
    | (fail_if_success with_reducible refine Kept.eta ?_); (with_reducible refine Kept.build ?_ rfl rfl ?_ ?_ ?_ ?_ ?_ ?_ ?_ ?_ ?_ ?_ ?_ ?_ ?_ ?_ ?_ ?_ ?_ ?_ ?_ ?_ ?_ ?_ ?_)
    | (with_reducible refine Kept.snd (by assumption) ?_)
    | dsimp only
    | split

theorem execRekeySwitch_kept {fr : Nat} {z0 : State} {s : State}  (hm : Within 0x10000000008000000000800 fr) (hk : Kept fr z0 s) : KeptO fr z0 (execRekeySwitch s) := by
  unfold execRekeySwitch
  repeat' first
    | with_reducible assumption
    | with_reducible exact Stands.same
    | ((with_reducible refine Stands.hit (Within.trans ?_ hm)); rfl)
    | with_reducible apply rekeySettle_kept
    | with_reducible apply KeptO.next
    | with_reducible refine KeptO.ite (fun _ => ?_) (fun _ => ?_)
    | with_reducible refine Kept.ite (fun _ => ?_) (fun _ => ?_)
    | with_reducible refine Kept.foldl (fun _ _ _ => ?_) ?_
    | (fail_if_success with_reducible refine Kept.eta ?_); (with_reducible refine Kept.build ?_ rfl rfl ?_ ?_ ?_ ?_ ?_ ?_ ?_ ?_ ?_ ?_ ?_ ?_ ?_ ?_ ?_ ?_ ?_ ?_ ?_ ?_ ?_ ?_ ?_)
    | (with_reducible refine Kept.snd (by assumption) ?_)
    | dsimp only
    | split

end Sys2Proof.Machine
end

