-- ==== Sys2Proof/Laws/KeptChurn.lean ====
section
/-! SUPPORT. No function of Machine/Commit, Micro, Library, FlowCmd takes back what no command takes back: one lemma each. -/

namespace Sys2Proof.Machine

theorem commitRecord_kept {fr : Nat} {z0 : State} (id : Nat) (t : Task) (final : Bool) {s : State}  (hm : Within 0x13020200000000000000000000000000000001800000000000000005802 fr) (hk : Kept fr z0 s) : Kept fr z0 (commitRecord s id t final) := by
  unfold commitRecord
  repeat' first
    | with_reducible assumption
    | with_reducible exact Stands.same
    | ((with_reducible refine Within.trans ?_ hm); rfl)
    | with_reducible apply spreadChange_kept
    | with_reducible apply authWrite_kept
    | with_reducible refine Kept.ite (fun _ => ?_) (fun _ => ?_)
    | with_reducible refine Kept.foldl (fun _ _ _ => ?_) ?_
    | (with_reducible refine Kept.snd (by assumption) ?_)
    | dsimp only
    | split

theorem emitPosted_kept {fr : Nat} {z0 : State} (t : Task) (typ : Nat) {s : State}  (hm : Within 0x800e0000000000000000000000000000000000000000000000000000000000000000000002000000000000080000430006 fr) (hk : Kept fr z0 s) : Kept fr z0 (emitPosted s t typ) := by
  unfold emitPosted
  repeat' first
    | with_reducible assumption
    | with_reducible exact Stands.same
    | with_reducible apply wheyEmit_kept
    | with_reducible refine Kept.ite (fun _ => ?_) (fun _ => ?_)
    | with_reducible refine Kept.foldl (fun _ _ _ => ?_) ?_
    | (with_reducible refine Kept.snd (by assumption) ?_)
    | dsimp only
    | split

theorem applyRows_kept {fr : Nat} {z0 : State} (t : Task) {s : State}  (hm : Within 0x800e0000000000000000000000000000000000000080000000000000000000000000000002001800000000080000434006 fr) (hk : Kept fr z0 s) : Kept fr z0 (applyRows s t) := by
  unfold applyRows
  repeat' first
    | with_reducible assumption
    | with_reducible exact Stands.same
    | ((with_reducible refine Within.trans ?_ hm); rfl)
    | with_reducible apply natReturn_kept
    | with_reducible apply emitPosted_kept
    | with_reducible refine Kept.ite (fun _ => ?_) (fun _ => ?_)
    | with_reducible refine Kept.foldl (fun _ _ _ => ?_) ?_

theorem handFrame_kept {fr : Nat} {z0 : State} (fid : Nat) (p : Posted) {s : State}  (hm : Within 0x10800e0022040000020000200d00000000000000000000004c0000000000000001380000000200000000000008000043018f fr) (hk : Kept fr z0 s) : Kept fr z0 (handFrame s fid p) := by
  unfold handFrame
  repeat' first
    | with_reducible assumption
    | with_reducible exact Stands.same
    | ((with_reducible refine Within.trans ?_ hm); rfl)
    | with_reducible apply slotSettle_kept
    | with_reducible apply State.count_kept
    | with_reducible apply State.modFrame_kept
    | with_reducible apply raisePunt_kept
    | with_reducible apply dropFrame_kept
    | with_reducible refine Kept.ite (fun _ => ?_) (fun _ => ?_)
    | with_reducible refine Kept.foldl (fun _ _ _ => ?_) ?_
    | (with_reducible refine Kept.snd (by assumption) ?_)
    | dsimp only
    | split

theorem passCommit_kept {fr : Nat} {z0 : State} (id : Nat) (t : Task) {s : State}  (hm : Within 0x800e00000000000000000000000000000000000130a0280000000000000000000000000002001800000000080000435806 fr) (hk : Kept fr z0 s) : Kept fr z0 (passCommit s id t).1 := by
  unfold passCommit
  repeat' first
    | with_reducible assumption
    | with_reducible exact Stands.same
    | ((with_reducible refine Within.trans ?_ hm); rfl)
    | with_reducible apply applyRows_kept
    | with_reducible apply commitRecord_kept
    | with_reducible apply State.count_kept
    | with_reducible apply State.setTask_kept

theorem beginRemoval_kept {fr : Nat} {z0 : State} (id : Nat) (t : Task) (n : Nat) {s : State}  (hm : Within 0x13020200000000000000000000000000000001800000000000000015002 fr) (hk : Kept fr z0 s) : Kept fr z0 (beginRemoval s id t n) := by
  unfold beginRemoval
  repeat' first
    | with_reducible assumption
    | with_reducible exact Stands.same
    | ((with_reducible refine Within.trans ?_ hm); rfl)
    | with_reducible apply startTeardown_kept
    | with_reducible apply returnTask_kept
    | with_reducible refine Kept.ite (fun _ => ?_) (fun _ => ?_)
    | with_reducible refine Kept.foldl (fun _ _ _ => ?_) ?_

theorem endTask_kept {fr : Nat} {z0 : State} (id : Nat) (t : Task) (remove : Bool) {s : State}  (hm : Within 0x10800e0022040000020000200d000020000080780130a0284c0000000000000001380000000200180000000008000043598f fr) (hk : Kept fr z0 s) : Kept fr z0 (endTask s id t remove) := by
  unfold endTask
  repeat' first
    | with_reducible assumption
    | with_reducible exact Stands.same
    | ((with_reducible refine Within.trans ?_ hm); rfl)
    | with_reducible apply applyRows_kept
    | with_reducible apply commitRecord_kept
    | with_reducible apply State.count_kept
    | with_reducible apply engineSettle_kept
    | with_reducible apply settle_kept
    | with_reducible apply State.setTask_kept
    | with_reducible apply handFrame_kept
    | with_reducible apply beginRemoval_kept
    | with_reducible refine Kept.ite (fun _ => ?_) (fun _ => ?_)
    | with_reducible refine Kept.foldl (fun _ _ _ => ?_) ?_
    | (with_reducible refine Kept.snd (by assumption) ?_)
    | dsimp only
    | split

theorem checkpointTask_kept {fr : Nat} {z0 : State} (id : Nat) (t : Task) {s : State}  (hm : Within 0x800e00000000000000000000000000000080780130a030000000000000000000000000000200180000000008000043580e fr) (hk : Kept fr z0 s) : Kept fr z0 (checkpointTask s id t) := by
  unfold checkpointTask
  repeat' first
    | with_reducible assumption
    | with_reducible exact Stands.same
    | ((with_reducible refine Within.trans ?_ hm); rfl)
    | with_reducible apply applyRows_kept
    | with_reducible apply commitRecord_kept
    | with_reducible apply engineSettle_kept
    | with_reducible apply State.count_kept
    | with_reducible apply settle_kept
    | with_reducible apply State.setTask_kept
    | with_reducible refine Kept.ite (fun _ => ?_) (fun _ => ?_)

theorem awaitCommit_kept {fr : Nat} {z0 : State} (id : Nat) (t : Task) (c : CtxId) (seq : Nat) {s : State}  (hm : Within 0x807801302120000000000000000000000000000000180000000000000001500a fr) (hk : Kept fr z0 s) : Kept fr z0 (awaitCommit s id t c seq) := by
  unfold awaitCommit
  repeat' first
    | with_reducible assumption
    | with_reducible exact Stands.same
    | ((with_reducible refine Within.trans ?_ hm); rfl)
    | with_reducible apply State.setTask_kept
    | with_reducible apply settle_kept
    | with_reducible apply squashTask_kept
    | with_reducible apply State.count_kept
    | with_reducible refine Kept.ite (fun _ => ?_) (fun _ => ?_)

theorem finishCommit_kept {fr : Nat} {z0 : State} (id : Nat) (t : Task) (seq : Nat) {s : State}  (hm : Within 0x10800e0022040000020000200d000020000080780130a0384c0000000000000001380000000200180000000008000043598f fr) (hk : Kept fr z0 s) : Kept fr z0 (finishCommit s id t seq) := by
  unfold finishCommit
  repeat' first
    | with_reducible assumption
    | with_reducible exact Stands.same
    | ((with_reducible refine Within.trans ?_ hm); rfl)
    | with_reducible apply checkpointTask_kept
    | with_reducible apply passCommit_kept
    | with_reducible apply engineSettle_kept
    | with_reducible apply settle_kept
    | with_reducible apply readyTask_kept
    | with_reducible apply State.setTask_kept
    | with_reducible apply endTask_kept
    | with_reducible refine Kept.ite (fun _ => ?_) (fun _ => ?_)
    | with_reducible refine Kept.foldl (fun _ _ _ => ?_) ?_
    | (with_reducible refine Kept.snd (by assumption) ?_)
    | dsimp only
    | split

theorem askCommit_kept {fr : Nat} {z0 : State} (id : Nat) (t : Task) (c : CtxId) (seq : Nat) {s : State}  (hm : Within 0x10800e0022040000020000200d000020000080780130a1384c0000000000000001380000000200180000000008000043598f fr) (hk : Kept fr z0 s) : Kept fr z0 (askCommit s id t c seq) := by
  unfold askCommit
  repeat' first
    | with_reducible assumption
    | with_reducible exact Stands.same
    | ((with_reducible refine Within.trans ?_ hm); rfl)
    | with_reducible apply finishCommit_kept
    | with_reducible apply State.setTask_kept
    | with_reducible apply awaitCommit_kept
    | with_reducible refine Kept.ite (fun _ => ?_) (fun _ => ?_)

theorem execTaskCommit_kept {fr : Nat} {z0 : State} (task : Nat) {s : State}  (hm : Within 0x10800e0022040000020000200d000020000080780130a0384c0000000000000001380000000200180000000008000043598f fr) (hk : Kept fr z0 s) : KeptO fr z0 (execTaskCommit task s) := by
  unfold execTaskCommit
  repeat' first
    | with_reducible assumption
    | with_reducible exact Stands.same
    | with_reducible apply finishCommit_kept
    | with_reducible apply KeptO.next
    | with_reducible refine KeptO.ite (fun _ => ?_) (fun _ => ?_)
    | with_reducible refine Kept.ite (fun _ => ?_) (fun _ => ?_)
    | with_reducible refine Kept.foldl (fun _ _ _ => ?_) ?_
    | (with_reducible refine Kept.snd (by assumption) ?_)
    | dsimp only
    | split

theorem execTeardown_kept {fr : Nat} {z0 : State} (task : Nat) {s : State}  (hm : Within 0x800e002204000000000000000021109000817801302020000000000000000000000000000206180000000008000043580e fr) (hk : Kept fr z0 s) : KeptO fr z0 (execTeardown task s) := by
  unfold execTeardown
  repeat' first
    | with_reducible assumption
    | with_reducible exact Stands.same
    | ((with_reducible refine Within.trans ?_ hm); rfl)
    | with_reducible apply removeRecord_kept
    | with_reducible apply cmdComplete_kept
    | with_reducible apply State.count_kept
    | with_reducible apply KeptO.next
    | with_reducible refine KeptO.ite (fun _ => ?_) (fun _ => ?_)
    | with_reducible refine Kept.ite (fun _ => ?_) (fun _ => ?_)
    | with_reducible refine Kept.foldl (fun _ _ _ => ?_) ?_
    | (with_reducible refine Kept.snd (by assumption) ?_)
    | dsimp only
    | split

theorem mckLog_kept {fr : Nat} {z0 : State} (cluster : Nat) (store : Nat) (bank : Nat) (addr : Nat) (rep : Nat) (kind : Nat) {s : State}  (hm : Within 0x800e0000000000000000000000000000000000000000000000000000000000000000000002000020000000080000430006 fr) (hk : Kept fr z0 s) : Kept fr z0 (mckLog s cluster store bank addr rep kind) := by
  unfold mckLog
  repeat' first
    | with_reducible assumption
    | with_reducible exact Stands.same
    | ((with_reducible refine Within.trans ?_ hm); rfl)
    | with_reducible apply State.fset_kept
    | with_reducible apply wheyEmit_kept

theorem endBad_kept {fr : Nat} {z0 : State} (id : Nat) (t : Task) (reason : Nat) {s : State}  (hm : Within 0x800e0022040000020000200d00000000008078013020004c0000000000000001380000000200180000000008000043518f fr) (hk : Kept fr z0 s) : Kept fr z0 (endBad s id t reason) := by
  unfold endBad
  repeat' first
    | with_reducible assumption
    | with_reducible exact Stands.same
    | ((with_reducible refine Within.trans ?_ hm); rfl)
    | with_reducible apply loseSegment_kept
    | with_reducible apply State.setTask_kept
    | with_reducible apply slotSettle_kept
    | with_reducible apply dropFrame_kept
    | with_reducible apply raisePunt_kept
    | with_reducible apply cmdComplete_kept
    | with_reducible apply settle_kept
    | with_reducible refine Kept.ite (fun _ => ?_) (fun _ => ?_)
    | with_reducible refine Kept.foldl (fun _ _ _ => ?_) ?_
    | (with_reducible refine Kept.snd (by assumption) ?_)
    | dsimp only
    | split

theorem emptyCluster_kept {fr : Nat} {z0 : State} (c : Nat) {s : State}  (hm : Within 0x807801302020000000000000000000000000000000180000000000000001500a fr) (hk : Kept fr z0 s) : Kept fr z0 (emptyCluster s c) := by
  unfold emptyCluster
  repeat' first
    | with_reducible assumption
    | with_reducible exact Stands.same
    | ((with_reducible refine Within.trans ?_ hm); rfl)
    | with_reducible apply settle_kept
    | with_reducible apply squashTask_kept
    | with_reducible refine Kept.ite (fun _ => ?_) (fun _ => ?_)
    | with_reducible refine Kept.foldl (fun _ _ _ => ?_) ?_

theorem quarantine_kept {fr : Nat} {z0 : State} (c : Nat) (bank : Nat) (store : Nat) (addr : Nat) {s : State}  (hm : Within 0x800e00000000000000000000000000000080780130202000000000000000000000000000020018e00000000800804b500e fr) (hk : Kept fr z0 s) : Kept fr z0 (quarantine s c bank store addr) := by
  unfold quarantine
  repeat' first
    | with_reducible assumption
    | with_reducible exact Stands.same
    | ((with_reducible refine Within.trans ?_ hm); rfl)
    | ((with_reducible refine Stands.hit (Within.trans ?_ hm)); rfl)
    | with_reducible apply emptyCluster_kept
    | with_reducible apply State.fset_kept
    | with_reducible apply State.event_kept
    | with_reducible apply mckLog_kept
    | with_reducible refine Kept.ite (fun _ => ?_) (fun _ => ?_)
    | with_reducible refine Kept.foldl (fun _ _ _ => ?_) ?_
    | (fail_if_success with_reducible refine Kept.eta ?_); (with_reducible refine Kept.build ?_ rfl rfl ?_ ?_ ?_ ?_ ?_ ?_ ?_ ?_ ?_ ?_ ?_ ?_ ?_ ?_ ?_ ?_ ?_ ?_ ?_ ?_ ?_ ?_ ?_)

theorem startRecovery_kept {fr : Nat} {z0 : State} (a : StoreAddr) {s : State}  (hm : Within 0x4000 fr) (hk : Kept fr z0 s) : Kept fr z0 (startRecovery s a) := by
  unfold startRecovery
  repeat' first
    | with_reducible assumption
    | with_reducible exact Stands.same
    | with_reducible apply newTask_kept

theorem machineCheck_kept {fr : Nat} {z0 : State} (id : Nat) (t : Task) (a : StoreAddr) (engine : Nat) {s : State}  (hm : Within 0x800e0022040000020000200d00000000008078013220204c000000000000000138000000020018e00000000800804b518f fr) (hk : Kept fr z0 s) : Kept fr z0 (machineCheck s id t a engine) := by
  unfold machineCheck
  repeat' first
    | with_reducible assumption
    | with_reducible exact Stands.same
    | ((with_reducible refine Within.trans ?_ hm); rfl)
    | ((with_reducible refine Stands.hit (Within.trans ?_ hm)); rfl)
    | with_reducible apply endBad_kept
    | with_reducible apply State.count_kept
    | with_reducible apply State.event_kept
    | with_reducible apply mckLog_kept
    | with_reducible apply startRecovery_kept
    | with_reducible apply State.fset_kept
    | with_reducible apply quarantine_kept
    | with_reducible refine Kept.ite (fun _ => ?_) (fun _ => ?_)
    | with_reducible refine Kept.foldl (fun _ _ _ => ?_) ?_
    | (fail_if_success with_reducible refine Kept.eta ?_); (with_reducible refine Kept.build ?_ rfl rfl ?_ ?_ ?_ ?_ ?_ ?_ ?_ ?_ ?_ ?_ ?_ ?_ ?_ ?_ ?_ ?_ ?_ ?_ ?_ ?_ ?_ ?_ ?_)

theorem routineFault_kept {fr : Nat} {z0 : State} (id : Nat) (t : Task) {s : State}  (hm : Within 0x800e0022040000020000200d00000000008078013420004c0000000000000001380000000200186000000008000043518f fr) (hk : Kept fr z0 s) : Kept fr z0 (routineFault s id t) := by
  unfold routineFault
  repeat' first
    | with_reducible assumption
    | with_reducible exact Stands.same
    | ((with_reducible refine Within.trans ?_ hm); rfl)
    | with_reducible apply endBad_kept
    | with_reducible apply State.count_kept
    | with_reducible apply State.event_kept
    | with_reducible apply mckLog_kept

theorem execStoreWordRewrite_kept {fr : Nat} {z0 : State} (w : StoreAddr) {s : State}  (hm : Within 0x80000000000000000000000000000000040000000000000004002 fr) (hk : Kept fr z0 s) : KeptO fr z0 (execStoreWordRewrite w s) := by
  unfold execStoreWordRewrite
  repeat' first
    | with_reducible assumption
    | with_reducible exact Stands.same
    | ((with_reducible refine Within.trans ?_ hm); rfl)
    | ((with_reducible refine Stands.hit (Within.trans ?_ hm)); rfl)
    | with_reducible apply endFixed_kept
    | with_reducible apply State.fset_kept
    | with_reducible apply KeptO.next
    | with_reducible refine KeptO.ite (fun _ => ?_) (fun _ => ?_)
    | with_reducible refine Kept.ite (fun _ => ?_) (fun _ => ?_)
    | with_reducible refine Kept.foldl (fun _ _ _ => ?_) ?_
    | (fail_if_success with_reducible refine Kept.eta ?_); (with_reducible refine Kept.build ?_ rfl rfl ?_ ?_ ?_ ?_ ?_ ?_ ?_ ?_ ?_ ?_ ?_ ?_ ?_ ?_ ?_ ?_ ?_ ?_ ?_ ?_ ?_ ?_ ?_)
    | (with_reducible refine Kept.snd (by assumption) ?_)
    | dsimp only
    | split

theorem execContextEccError_kept {fr : Nat} {z0 : State} (c : CtxId) {s : State}  (hm : Within 0x807801382020000000000000000000000000000000180000000000000001500a fr) (hk : Kept fr z0 s) : KeptO fr z0 (execContextEccError c s) := by
  unfold execContextEccError
  repeat' first
    | with_reducible assumption
    | with_reducible exact Stands.same
    | ((with_reducible refine Within.trans ?_ hm); rfl)
    | with_reducible apply settle_kept
    | with_reducible apply squashTask_kept
    | with_reducible apply State.count_kept
    | with_reducible apply KeptO.next
    | with_reducible refine KeptO.ite (fun _ => ?_) (fun _ => ?_)
    | with_reducible refine Kept.ite (fun _ => ?_) (fun _ => ?_)
    | with_reducible refine Kept.foldl (fun _ _ _ => ?_) ?_
    | (with_reducible refine Kept.snd (by assumption) ?_)
    | dsimp only
    | split

theorem abortTask_kept {fr : Nat} {z0 : State} (id : Nat) (t : Task) (reason : Nat) (drop : Bool) {s : State}  (hm : Within 0x800e0022040000020000200d00002000008078013020004c0000000000000001380000000200180000000008000043518f fr) (hk : Kept fr z0 s) : Kept fr z0 (abortTask s id t reason drop) := by
  unfold abortTask
  repeat' first
    | with_reducible assumption
    | with_reducible exact Stands.same
    | ((with_reducible refine Within.trans ?_ hm); rfl)
    | with_reducible apply engineSettle_kept
    | with_reducible apply natUndo_kept
    | with_reducible apply settle_kept
    | with_reducible apply State.setTask_kept
    | with_reducible apply State.count_kept
    | with_reducible apply endDrop_kept
    | with_reducible apply endPunt_kept
    | with_reducible refine Kept.ite (fun _ => ?_) (fun _ => ?_)
    | with_reducible refine Kept.foldl (fun _ _ _ => ?_) ?_
    | (with_reducible refine Kept.snd (by assumption) ?_)
    | dsimp only
    | split

theorem overflowTask_kept {fr : Nat} {z0 : State} (id : Nat) (t : Task) {s : State}  (hm : Within 0x800e0022040000020000200d00000000008078013520004c0000000000000001380000000200186000000008000043518f fr) (hk : Kept fr z0 s) : Kept fr z0 (overflowTask s id t) := by
  unfold overflowTask
  repeat' first
    | with_reducible assumption
    | with_reducible exact Stands.same
    | ((with_reducible refine Within.trans ?_ hm); rfl)
    | with_reducible apply routineFault_kept
    | with_reducible apply State.count_kept

theorem yieldTask_kept {fr : Nat} {z0 : State} (id : Nat) (t : Task) {s : State}  (hm : Within 0x13024000000000000000000000000000000001800000000000000004002 fr) (hk : Kept fr z0 s) : Kept fr z0 (yieldTask s id t) := by
  unfold yieldTask
  repeat' first
    | with_reducible assumption
    | with_reducible exact Stands.same
    | ((with_reducible refine Within.trans ?_ hm); rfl)
    | with_reducible apply loseSegment_kept
    | with_reducible apply State.count_kept
    | with_reducible apply readyTask_kept

theorem goto_kept {fr : Nat} {z0 : State} (id : Nat) (t : Task) (pc : Nat) {s : State}  (hm : Within 0x800e0022040000020000200d00000000008078013420004c0000000000000001380000000200186000000008000043518f fr) (hk : Kept fr z0 s) : Kept fr z0 (goto s id t pc) := by
  unfold goto
  repeat' first
    | with_reducible assumption
    | with_reducible exact Stands.same
    | ((with_reducible refine Within.trans ?_ hm); rfl)
    | with_reducible apply routineFault_kept
    | with_reducible apply State.setTask_kept
    | with_reducible refine Kept.ite (fun _ => ?_) (fun _ => ?_)

theorem commitOp_kept {fr : Nat} {z0 : State} (id : Nat) (t : Task) (c : CtxId) (seq : Nat) {s : State}  (hm : Within 0x10800e0022040000020000200d000020000080780134a1384c0000000000000001380000000200186000000008000043598f fr) (hk : Kept fr z0 s) : Kept fr z0 (commitOp s id t c seq) := by
  unfold commitOp
  repeat' first
    | with_reducible assumption
    | with_reducible exact Stands.same
    | ((with_reducible refine Within.trans ?_ hm); rfl)
    | with_reducible apply routineFault_kept
    | with_reducible apply askCommit_kept
    | with_reducible refine Kept.ite (fun _ => ?_) (fun _ => ?_)

theorem sequence_kept {fr : Nat} {z0 : State} (id : Nat) (t : Task) (c : CtxId) (w : Nat) {s : State}  (hm : Within 0x10800e0022040000020000200d000020000080780134a5384c0000000000000001380000000200186000000008000043598f fr) (hk : Kept fr z0 s) : Kept fr z0 (sequence s id t c w) := by
  unfold sequence
  repeat' first
    | with_reducible assumption
    | with_reducible exact Stands.same
    | ((with_reducible refine Within.trans ?_ hm); rfl)
    | with_reducible apply goto_kept
    | with_reducible apply routineFault_kept
    | with_reducible apply commitOp_kept
    | with_reducible apply yieldTask_kept
    | with_reducible apply abortTask_kept
    | with_reducible apply askCommit_kept
    | with_reducible refine Kept.ite (fun _ => ?_) (fun _ => ?_)
    | with_reducible refine Kept.foldl (fun _ _ _ => ?_) ?_
    | (with_reducible refine Kept.snd (by assumption) ?_)
    | dsimp only
    | split

theorem takePort_kept {fr : Nat} {z0 : State} (id : Nat) (t : Task) (pool : Nat) {s : State}  (hm : Within 0x800e0022040000020000200d00000000008078013570004c00000000000000013800000002001c6000000008000043518f fr) (hk : Kept fr z0 s) : Kept fr z0 (takePort s id t pool) := by
  unfold takePort
  repeat' first
    | with_reducible assumption
    | with_reducible exact Stands.same
    | ((with_reducible refine Within.trans ?_ hm); rfl)
    | with_reducible apply natReserve_kept
    | with_reducible apply overflowTask_kept
    | with_reducible apply State.setTask_kept
    | with_reducible apply State.count_kept
    | with_reducible refine Kept.ite (fun _ => ?_) (fun _ => ?_)
    | with_reducible refine Kept.foldl (fun _ _ _ => ?_) ?_
    | with_reducible refine Kept.foldlSnd (fun _ _ _ => ?_) ?_
    | with_reducible refine Kept.iteSnd (fun _ => ?_) (fun _ => ?_)
    | (with_reducible refine Kept.snd (by assumption) ?_)
    | dsimp only
    | split

theorem runNano_kept {fr : Nat} {z0 : State} (id : Nat) (t : Task) (c : CtxId) (w : Nat) (n : Nano) {s : State}  (hm : Within 0x10800e0022040000020000200d000020000080780135f5384c00000000000000013800000002001c6000000008000043598f fr) (hk : Kept fr z0 s) : Kept fr z0 (runNano s id t c w n) := by
  unfold runNano
  repeat' first
    | with_reducible assumption
    | with_reducible exact Stands.same
    | ((with_reducible refine Within.trans ?_ hm); rfl)
    | with_reducible apply State.draw_kept
    | with_reducible apply overflowTask_kept
    | with_reducible apply routineFault_kept
    | with_reducible apply settle_kept
    | with_reducible apply squashTask_kept
    | with_reducible apply takePort_kept
    | with_reducible apply sequence_kept
    | with_reducible refine Kept.ite (fun _ => ?_) (fun _ => ?_)
    | with_reducible refine Kept.foldl (fun _ _ _ => ?_) ?_
    | with_reducible refine Kept.foldlSnd (fun _ _ _ => ?_) ?_
    | with_reducible refine Kept.iteSnd (fun _ => ?_) (fun _ => ?_)
    | (with_reducible refine Kept.snd (by assumption) ?_)
    | dsimp only
    | split

theorem microStep_kept {fr : Nat} {z0 : State} (seq : Nat) (c : CtxId) (fetch : FetchErr) {s : State}  (hm : Within 0x10800e0022040000020000200d000020000080780137f5384c00000000000000013800000002001ce00000000800804f598f fr) (hk : Kept fr z0 s) : Kept fr z0 (microStep seq c fetch s) := by
  unfold microStep
  repeat' first
    | with_reducible assumption
    | with_reducible exact Stands.same
    | ((with_reducible refine Within.trans ?_ hm); rfl)
    | with_reducible apply sequence_kept
    | with_reducible apply machineCheck_kept
    | with_reducible apply slotAhead_kept
    | with_reducible apply State.gset_kept
    | with_reducible apply routineFault_kept
    | with_reducible apply runNano_kept
    | with_reducible refine Kept.ite (fun _ => ?_) (fun _ => ?_)
    | with_reducible refine Kept.foldl (fun _ _ _ => ?_) ?_
    | (with_reducible refine Kept.snd (by assumption) ?_)
    | dsimp only
    | split

theorem execNext_kept {fr : Nat} {z0 : State} (c : CtxId) (fetch : FetchErr) {s : State}  (hm : Within 0x10800e0022040000020000200d000020000080780137f5384c00000000000000013800000002001ce00000000800804f598f fr) (hk : Kept fr z0 s) : KeptO fr z0 (execNext c fetch s) := by
  unfold execNext
  repeat' first
    | with_reducible assumption
    | with_reducible exact Stands.same
    | with_reducible apply microStep_kept
    | with_reducible apply KeptO.next

theorem execJump_kept {fr : Nat} {z0 : State} (c : CtxId) (fetch : FetchErr) {s : State}  (hm : Within 0x10800e0022040000020000200d000020000080780137f5384c00000000000000013800000002001ce00000000800804f598f fr) (hk : Kept fr z0 s) : KeptO fr z0 (execJump c fetch s) := by
  unfold execJump
  repeat' first
    | with_reducible assumption
    | with_reducible exact Stands.same
    | with_reducible apply microStep_kept
    | with_reducible apply KeptO.next

theorem execBranch_kept {fr : Nat} {z0 : State} (c : CtxId) (fetch : FetchErr) {s : State}  (hm : Within 0x10800e0022040000020000200d000020000080780137f5384c00000000000000013800000002001ce00000000800804f598f fr) (hk : Kept fr z0 s) : KeptO fr z0 (execBranch c fetch s) := by
  unfold execBranch
  repeat' first
    | with_reducible assumption
    | with_reducible exact Stands.same
    | with_reducible apply microStep_kept
    | with_reducible apply KeptO.next

theorem execBranchn_kept {fr : Nat} {z0 : State} (c : CtxId) (fetch : FetchErr) {s : State}  (hm : Within 0x10800e0022040000020000200d000020000080780137f5384c00000000000000013800000002001ce00000000800804f598f fr) (hk : Kept fr z0 s) : KeptO fr z0 (execBranchn c fetch s) := by
  unfold execBranchn
  repeat' first
    | with_reducible assumption
    | with_reducible exact Stands.same
    | with_reducible apply microStep_kept
    | with_reducible apply KeptO.next

theorem execCall_kept {fr : Nat} {z0 : State} (c : CtxId) (fetch : FetchErr) {s : State}  (hm : Within 0x10800e0022040000020000200d000020000080780137f5384c00000000000000013800000002001ce00000000800804f598f fr) (hk : Kept fr z0 s) : KeptO fr z0 (execCall c fetch s) := by
  unfold execCall
  repeat' first
    | with_reducible assumption
    | with_reducible exact Stands.same
    | with_reducible apply microStep_kept
    | with_reducible apply KeptO.next

theorem execRet_kept {fr : Nat} {z0 : State} (c : CtxId) (fetch : FetchErr) {s : State}  (hm : Within 0x10800e0022040000020000200d000020000080780137f5384c00000000000000013800000002001ce00000000800804f598f fr) (hk : Kept fr z0 s) : KeptO fr z0 (execRet c fetch s) := by
  unfold execRet
  repeat' first
    | with_reducible assumption
    | with_reducible exact Stands.same
    | with_reducible apply microStep_kept
    | with_reducible apply KeptO.next

theorem execDispatch_kept {fr : Nat} {z0 : State} (c : CtxId) (fetch : FetchErr) {s : State}  (hm : Within 0x10800e0022040000020000200d000020000080780137f5384c00000000000000013800000002001ce00000000800804f598f fr) (hk : Kept fr z0 s) : KeptO fr z0 (execDispatch c fetch s) := by
  unfold execDispatch
  repeat' first
    | with_reducible assumption
    | with_reducible exact Stands.same
    | with_reducible apply microStep_kept
    | with_reducible apply KeptO.next

theorem execWait_kept {fr : Nat} {z0 : State} (c : CtxId) (fetch : FetchErr) {s : State}  (hm : Within 0x10800e0022040000020000200d000020000080780137f5384c00000000000000013800000002001ce00000000800804f598f fr) (hk : Kept fr z0 s) : KeptO fr z0 (execWait c fetch s) := by
  unfold execWait
  repeat' first
    | with_reducible assumption
    | with_reducible exact Stands.same
    | with_reducible apply microStep_kept
    | with_reducible apply KeptO.next

theorem execCheckpoint_kept {fr : Nat} {z0 : State} (c : CtxId) (fetch : FetchErr) {s : State}  (hm : Within 0x10800e0022040000020000200d000020000080780137f5384c00000000000000013800000002001ce00000000800804f598f fr) (hk : Kept fr z0 s) : KeptO fr z0 (execCheckpoint c fetch s) := by
  unfold execCheckpoint
  repeat' first
    | with_reducible assumption
    | with_reducible exact Stands.same
    | with_reducible apply microStep_kept
    | with_reducible apply KeptO.next

theorem execYield_kept {fr : Nat} {z0 : State} (c : CtxId) (fetch : FetchErr) {s : State}  (hm : Within 0x10800e0022040000020000200d000020000080780137f5384c00000000000000013800000002001ce00000000800804f598f fr) (hk : Kept fr z0 s) : KeptO fr z0 (execYield c fetch s) := by
  unfold execYield
  repeat' first
    | with_reducible assumption
    | with_reducible exact Stands.same
    | with_reducible apply microStep_kept
    | with_reducible apply KeptO.next

theorem execCommit_kept {fr : Nat} {z0 : State} (c : CtxId) (fetch : FetchErr) {s : State}  (hm : Within 0x10800e0022040000020000200d000020000080780137f5384c00000000000000013800000002001ce00000000800804f598f fr) (hk : Kept fr z0 s) : KeptO fr z0 (execCommit c fetch s) := by
  unfold execCommit
  repeat' first
    | with_reducible assumption
    | with_reducible exact Stands.same
    | with_reducible apply microStep_kept
    | with_reducible apply KeptO.next

theorem execAbort_kept {fr : Nat} {z0 : State} (c : CtxId) (fetch : FetchErr) {s : State}  (hm : Within 0x10800e0022040000020000200d000020000080780137f5384c00000000000000013800000002001ce00000000800804f598f fr) (hk : Kept fr z0 s) : KeptO fr z0 (execAbort c fetch s) := by
  unfold execAbort
  repeat' first
    | with_reducible assumption
    | with_reducible exact Stands.same
    | with_reducible apply microStep_kept
    | with_reducible apply KeptO.next

theorem execEnd_kept {fr : Nat} {z0 : State} (c : CtxId) (fetch : FetchErr) {s : State}  (hm : Within 0x10800e0022040000020000200d000020000080780137f5384c00000000000000013800000002001ce00000000800804f598f fr) (hk : Kept fr z0 s) : KeptO fr z0 (execEnd c fetch s) := by
  unfold execEnd
  repeat' first
    | with_reducible assumption
    | with_reducible exact Stands.same
    | with_reducible apply microStep_kept
    | with_reducible apply KeptO.next

theorem execRoutineIssueLimit_kept {fr : Nat} {z0 : State} (c : CtxId) {s : State}  (hm : Within 0x800e0022040000020000200d00000000008078013420004c0000000000000001380000000200186000000008000043518f fr) (hk : Kept fr z0 s) : KeptO fr z0 (execRoutineIssueLimit c s) := by
  unfold execRoutineIssueLimit
  repeat' first
    | with_reducible assumption
    | with_reducible exact Stands.same
    | with_reducible apply routineFault_kept
    | with_reducible apply KeptO.next
    | with_reducible refine KeptO.ite (fun _ => ?_) (fun _ => ?_)
    | with_reducible refine Kept.ite (fun _ => ?_) (fun _ => ?_)
    | with_reducible refine Kept.foldl (fun _ _ _ => ?_) ?_
    | (with_reducible refine Kept.snd (by assumption) ?_)
    | dsimp only
    | split

theorem execRecordWindowComplete_kept {fr : Nat} {z0 : State} (c : CtxId) {s : State}  (hm : Within 0x4000 fr) (hk : Kept fr z0 s) : KeptO fr z0 (execRecordWindowComplete c s) := by
  unfold execRecordWindowComplete
  repeat' first
    | with_reducible assumption
    | with_reducible exact Stands.same
    | with_reducible apply State.setTask_kept
    | with_reducible apply KeptO.next
    | with_reducible refine KeptO.ite (fun _ => ?_) (fun _ => ?_)
    | with_reducible refine Kept.ite (fun _ => ?_) (fun _ => ?_)
    | with_reducible refine Kept.foldl (fun _ _ _ => ?_) ?_
    | (with_reducible refine Kept.snd (by assumption) ?_)
    | dsimp only
    | split

theorem execNatTakeAnswer_kept {fr : Nat} {z0 : State} (c : CtxId) {s : State}  (hm : Within 0x4000 fr) (hk : Kept fr z0 s) : KeptO fr z0 (execNatTakeAnswer c s) := by
  unfold execNatTakeAnswer
  repeat' first
    | with_reducible assumption
    | with_reducible exact Stands.same
    | with_reducible apply State.setTask_kept
    | with_reducible apply KeptO.next
    | with_reducible refine KeptO.ite (fun _ => ?_) (fun _ => ?_)
    | with_reducible refine Kept.ite (fun _ => ?_) (fun _ => ?_)
    | with_reducible refine Kept.foldl (fun _ _ _ => ?_) ?_
    | (with_reducible refine Kept.snd (by assumption) ?_)
    | dsimp only
    | split

theorem countDispatch_kept {fr : Nat} {z0 : State} (t : Task) (c : Nat) {s : State}  (hm : Within 0xc78000000000000000000000000000000000000000000000000002 fr) (hk : Kept fr z0 s) : Kept fr z0 (countDispatch s t c) := by
  unfold countDispatch
  repeat' first
    | with_reducible assumption
    | with_reducible exact Stands.same
    | ((with_reducible refine Within.trans ?_ hm); rfl)
    | with_reducible apply State.count_kept
    | with_reducible refine Kept.ite (fun _ => ?_) (fun _ => ?_)
    | with_reducible refine Kept.foldl (fun _ _ _ => ?_) ?_
    | (fail_if_success with_reducible refine Kept.eta ?_); (with_reducible refine Kept.build ?_ rfl rfl ?_ ?_ ?_ ?_ ?_ ?_ ?_ ?_ ?_ ?_ ?_ ?_ ?_ ?_ ?_ ?_ ?_ ?_ ?_ ?_ ?_ ?_ ?_)
    | (with_reducible refine Kept.snd (by assumption) ?_)
    | dsimp only
    | split

theorem badOpcode_kept {fr : Nat} {z0 : State} (id : Nat) (t : Task) {s : State}  (hm : Within 0x800000000000000000000000000000000008078000000004c0000000000000000000000000000000000000000000001508a fr) (hk : Kept fr z0 s) : Kept fr z0 (badOpcode s id t) := by
  unfold badOpcode
  repeat' first
    | with_reducible assumption
    | with_reducible exact Stands.same
    | ((with_reducible refine Within.trans ?_ hm); rfl)
    | with_reducible apply settle_kept
    | with_reducible apply State.setTask_kept
    | with_reducible apply State.count_kept
    | with_reducible apply endPunt_kept
    | with_reducible refine Kept.ite (fun _ => ?_) (fun _ => ?_)
    | with_reducible refine Kept.foldl (fun _ _ _ => ?_) ?_
    | (with_reducible refine Kept.snd (by assumption) ?_)
    | dsimp only
    | split

theorem giveFixed_kept {fr : Nat} {z0 : State} (id : Nat) (t : Task) (c : CtxId) (bad : Bool) {s : State}  (hm : Within 0x800e0022040000020000200d00000000008078013220284c000000000000000138000000020018e00000000800804b518f fr) (hk : Kept fr z0 s) : Kept fr z0 (giveFixed s id t c bad) := by
  unfold giveFixed
  repeat' first
    | with_reducible assumption
    | with_reducible exact Stands.same
    | ((with_reducible refine Within.trans ?_ hm); rfl)
    | with_reducible apply State.setTask_kept
    | with_reducible apply endFixed_kept
    | with_reducible apply machineCheck_kept
    | with_reducible refine Kept.ite (fun _ => ?_) (fun _ => ?_)
    | with_reducible refine Kept.foldl (fun _ _ _ => ?_) ?_
    | (with_reducible refine Kept.snd (by assumption) ?_)
    | dsimp only
    | split

theorem giveCtx_kept {fr : Nat} {z0 : State} (id : Nat) (t : Task) (c : CtxId) (bad : Bool) {s : State}  (hm : Within 0x8800e0022040000020000200d00000000008078013220efcc000000000000000138000000020018e00000000800804b518f fr) (hk : Kept fr z0 s) : Kept fr z0 (giveCtx s id t c bad) := by
  unfold giveCtx
  repeat' first
    | with_reducible assumption
    | with_reducible exact Stands.same
    | ((with_reducible refine Within.trans ?_ hm); rfl)
    | ((with_reducible refine Stands.hit (Within.trans ?_ hm)); rfl)
    | with_reducible apply countDispatch_kept
    | with_reducible apply State.setTask_kept
    | with_reducible apply giveFixed_kept
    | with_reducible apply machineCheck_kept
    | with_reducible apply badOpcode_kept
    | with_reducible refine Kept.ite (fun _ => ?_) (fun _ => ?_)
    | with_reducible refine Kept.foldl (fun _ _ _ => ?_) ?_
    | (fail_if_success with_reducible refine Kept.eta ?_); (with_reducible refine Kept.build ?_ rfl rfl ?_ ?_ ?_ ?_ ?_ ?_ ?_ ?_ ?_ ?_ ?_ ?_ ?_ ?_ ?_ ?_ ?_ ?_ ?_ ?_ ?_ ?_ ?_)

theorem askPreempt_kept {fr : Nat} {z0 : State} {s : State}  (hm : Within 0x8000000000000000000000000000000000000000000000000004002 fr) (hk : Kept fr z0 s) : Kept fr z0 (askPreempt s) := by
  unfold askPreempt
  repeat' first
    | with_reducible assumption
    | with_reducible exact Stands.same
    | ((with_reducible refine Within.trans ?_ hm); rfl)
    | ((with_reducible refine Stands.hit (Within.trans ?_ hm)); rfl)
    | with_reducible apply State.count_kept
    | with_reducible refine Kept.ite (fun _ => ?_) (fun _ => ?_)
    | with_reducible refine Kept.foldl (fun _ _ _ => ?_) ?_
    | (fail_if_success with_reducible refine Kept.eta ?_); (with_reducible refine Kept.build ?_ rfl rfl ?_ ?_ ?_ ?_ ?_ ?_ ?_ ?_ ?_ ?_ ?_ ?_ ?_ ?_ ?_ ?_ ?_ ?_ ?_ ?_ ?_ ?_ ?_)

theorem dispatchOne_kept {fr : Nat} {z0 : State} (used : List Nat) (bad : List Nat) {s : State}  (hm : Within 0x8800e0022040000020000200d00000000008078013228efcc000000000000000138000000020018e00000000800804b518f fr) (hk : Kept fr z0 s) : Kept fr z0 (dispatchOne s used bad).2 := by
  unfold dispatchOne
  repeat' first
    | with_reducible assumption
    | with_reducible exact Stands.same
    | ((with_reducible refine Within.trans ?_ hm); rfl)
    | with_reducible apply askPreempt_kept
    | with_reducible apply giveCtx_kept
    | with_reducible refine Kept.ite (fun _ => ?_) (fun _ => ?_)
    | with_reducible refine Kept.foldl (fun _ _ _ => ?_) ?_
    | (with_reducible refine Kept.snd (by assumption) ?_)
    | dsimp only
    | split

theorem dispatchLoop_kept {fr : Nat} {z0 : State} (fuel : Nat) (used : List Nat) (bad : List Nat) {s : State}  (hm : Within 0x8800e0022040000020000200d00000000008078013228efcc000000000000000138000000020018e00000000800804b518f fr) (hk : Kept fr z0 s) : Kept fr z0 (dispatchLoop fuel s used bad) := by
  induction fuel generalizing s used bad with
  | zero =>
    unfold dispatchLoop
    repeat' first
      | with_reducible assumption
  | succ y ih =>
    unfold dispatchLoop
    repeat' first
      | with_reducible assumption
      | with_reducible exact Stands.same
      | with_reducible apply dispatchOne_kept
      | with_reducible apply ih
      | with_reducible refine Kept.ite (fun _ => ?_) (fun _ => ?_)
      | with_reducible refine Kept.foldl (fun _ _ _ => ?_) ?_
      | with_reducible refine Kept.foldlSnd (fun _ _ _ => ?_) ?_
      | with_reducible refine Kept.iteSnd (fun _ => ?_) (fun _ => ?_)
      | (with_reducible refine Kept.snd (by assumption) ?_)
      | dsimp only
      | split

theorem execTaskDispatch_kept {fr : Nat} {z0 : State} (badEntries : List Nat) {s : State}  (hm : Within 0x8800e0022040000020000200d00000000008078013228efcc000000000000000138000000020018e00000000800804b518f fr) (hk : Kept fr z0 s) : KeptO fr z0 (execTaskDispatch badEntries s) := by
  unfold execTaskDispatch
  repeat' first
    | with_reducible assumption
    | with_reducible exact Stands.same
    | with_reducible apply dispatchLoop_kept
    | with_reducible apply KeptO.next

theorem State.withLibrary_kept {fr : Nat} {z0 : State} {s : State}  (hm : Within 0x4000 fr) (hk : Kept fr z0 s) : Kept fr z0 (State.withLibrary s) := by
  unfold State.withLibrary
  repeat' first
    | with_reducible assumption
    | with_reducible exact Stands.same
    | ((with_reducible refine Stands.hit (Within.trans ?_ hm)); rfl)
    | with_reducible refine Kept.ite (fun _ => ?_) (fun _ => ?_)
    | with_reducible refine Kept.foldl (fun _ _ _ => ?_) ?_
    | (fail_if_success with_reducible refine Kept.eta ?_); (with_reducible refine Kept.build ?_ rfl rfl ?_ ?_ ?_ ?_ ?_ ?_ ?_ ?_ ?_ ?_ ?_ ?_ ?_ ?_ ?_ ?_ ?_ ?_ ?_ ?_ ?_ ?_ ?_)

theorem notFound_kept {fr : Nat} {z0 : State} (w : Work) {s : State}  (hm : Within 0x22040000000000000000800000000000000000000000000000000000000000000000000000000000000000010006 fr) (hk : Kept fr z0 s) : Kept fr z0 (notFound s w) := by
  unfold notFound
  repeat' first
    | with_reducible assumption
    | with_reducible exact Stands.same
    | ((with_reducible refine Within.trans ?_ hm); rfl)
    | with_reducible apply cmdComplete_kept
    | with_reducible apply State.count_kept

theorem hashCmd_kept {fr : Nat} {z0 : State} (w : Work) {s : State}  (hm : Within 0x2204000000000000000000000000000000000000000000000000000000000000000000000000000000000001100e fr) (hk : Kept fr z0 s) : Kept fr z0 (hashCmd s w) := by
  unfold hashCmd
  repeat' first
    | with_reducible assumption
    | with_reducible exact Stands.same
    | ((with_reducible refine Within.trans ?_ hm); rfl)
    | with_reducible apply cmdComplete_kept
    | with_reducible apply takePlace_kept
    | with_reducible apply toLookup_kept
    | with_reducible apply workSet_kept
    | with_reducible refine Kept.ite (fun _ => ?_) (fun _ => ?_)

theorem insertNew_kept {fr : Nat} {z0 : State} (w : Work) (k : Key) (m : Miss) (rest : List Waiter) {s : State}  (hm : Within 0x800e0022040000020000200d00080760239078000000004c0000000000000001380000000206000000000008000043598f fr) (hk : Kept fr z0 s) : Kept fr z0 (insertNew s w k m rest) := by
  unfold insertNew
  repeat' first
    | with_reducible assumption
    | with_reducible exact Stands.same
    | ((with_reducible refine Within.trans ?_ hm); rfl)
    | with_reducible apply poisonEnd_kept
    | with_reducible apply freeEntry_kept
    | with_reducible apply createRecord_kept
    | with_reducible apply cmdComplete_kept
    | with_reducible apply State.count_kept
    | with_reducible apply recordArrives_kept
    | with_reducible apply countRefusal_kept
    | with_reducible apply serveNew_kept
    | with_reducible refine Kept.ite (fun _ => ?_) (fun _ => ?_)
    | with_reducible refine Kept.foldl (fun _ _ _ => ?_) ?_
    | with_reducible refine Kept.foldlSnd (fun _ _ _ => ?_) ?_
    | with_reducible refine Kept.iteSnd (fun _ => ?_) (fun _ => ?_)
    | (with_reducible refine Kept.snd (by assumption) ?_)
    | dsimp only
    | split

theorem runCmd_kept {fr : Nat} {z0 : State} (w : Work) (id : Nat) (t : Task) (n : Nat) {s : State}  (hm : Within 0x22040000000000000000d0000000807801302028000000000000000000000000000000180000000000000001580e fr) (hk : Kept fr z0 s) : Kept fr z0 (runCmd s w id t n) := by
  unfold runCmd
  repeat' first
    | with_reducible assumption
    | with_reducible exact Stands.same
    | ((with_reducible refine Within.trans ?_ hm); rfl)
    | with_reducible apply settle_kept
    | with_reducible apply cmdComplete_kept
    | with_reducible apply endFixed_kept
    | with_reducible apply notFound_kept
    | with_reducible apply spreadChange_kept
    | with_reducible apply authWrite_kept
    | with_reducible apply State.count_kept
    | with_reducible apply startTeardown_kept
    | with_reducible apply workSet_kept
    | with_reducible apply cmdData_kept
    | with_reducible refine Kept.ite (fun _ => ?_) (fun _ => ?_)
    | with_reducible refine Kept.foldl (fun _ _ _ => ?_) ?_
    | (with_reducible refine Kept.snd (by assumption) ?_)
    | dsimp only
    | split

theorem flowCmd_kept {fr : Nat} {z0 : State} (set : Nat) (index : Nat) (op : Nat) {s : State}  (hm : Within 0x800e0022040000020000200d00d80760239078013020284c0000000000000001380000000206180000000008000043598f fr) (hk : Kept fr z0 s) : Kept fr z0 (flowCmd s set index op) := by
  unfold flowCmd
  repeat' first
    | with_reducible assumption
    | with_reducible exact Stands.same
    | ((with_reducible refine Within.trans ?_ hm); rfl)
    | with_reducible apply hashCmd_kept
    | with_reducible apply settle_kept
    | with_reducible apply insertNew_kept
    | with_reducible apply notFound_kept
    | with_reducible apply runCmd_kept
    | with_reducible refine Kept.ite (fun _ => ?_) (fun _ => ?_)
    | with_reducible refine Kept.foldl (fun _ _ _ => ?_) ?_
    | (with_reducible refine Kept.snd (by assumption) ?_)
    | dsimp only
    | split

theorem execCmdNop_kept {fr : Nat} {z0 : State} (set : Nat) (index : Nat) {s : State}  (hm : Within 0x22040000000000000000000000000000000000000000000000000000000000000000000000000000000000010006 fr) (hk : Kept fr z0 s) : KeptO fr z0 (execCmdNop set index s) := by
  unfold execCmdNop
  repeat' first
    | with_reducible assumption
    | with_reducible exact Stands.same
    | with_reducible apply cmdComplete_kept
    | with_reducible apply KeptO.next
    | with_reducible refine KeptO.ite (fun _ => ?_) (fun _ => ?_)
    | with_reducible refine Kept.ite (fun _ => ?_) (fun _ => ?_)
    | with_reducible refine Kept.foldl (fun _ _ _ => ?_) ?_
    | (with_reducible refine Kept.snd (by assumption) ?_)
    | dsimp only
    | split

theorem execFlowInsert_kept {fr : Nat} {z0 : State} (set : Nat) (index : Nat) {s : State}  (hm : Within 0x800e0022040000020000200d00d80760239078013020284c0000000000000001380000000206180000000008000043598f fr) (hk : Kept fr z0 s) : KeptO fr z0 (execFlowInsert set index s) := by
  unfold execFlowInsert
  repeat' first
    | with_reducible assumption
    | with_reducible exact Stands.same
    | with_reducible apply flowCmd_kept
    | with_reducible apply KeptO.next

theorem execFlowUpdate_kept {fr : Nat} {z0 : State} (set : Nat) (index : Nat) {s : State}  (hm : Within 0x800e0022040000020000200d00d80760239078013020284c0000000000000001380000000206180000000008000043598f fr) (hk : Kept fr z0 s) : KeptO fr z0 (execFlowUpdate set index s) := by
  unfold execFlowUpdate
  repeat' first
    | with_reducible assumption
    | with_reducible exact Stands.same
    | with_reducible apply flowCmd_kept
    | with_reducible apply KeptO.next

theorem execFlowDelete_kept {fr : Nat} {z0 : State} (set : Nat) (index : Nat) {s : State}  (hm : Within 0x800e0022040000020000200d00d80760239078013020284c0000000000000001380000000206180000000008000043598f fr) (hk : Kept fr z0 s) : KeptO fr z0 (execFlowDelete set index s) := by
  unfold execFlowDelete
  repeat' first
    | with_reducible assumption
    | with_reducible exact Stands.same
    | with_reducible apply flowCmd_kept
    | with_reducible apply KeptO.next

theorem execFlowRead_kept {fr : Nat} {z0 : State} (set : Nat) (index : Nat) {s : State}  (hm : Within 0x800e0022040000020000200d00d80760239078013020284c0000000000000001380000000206180000000008000043598f fr) (hk : Kept fr z0 s) : KeptO fr z0 (execFlowRead set index s) := by
  unfold execFlowRead
  repeat' first
    | with_reducible assumption
    | with_reducible exact Stands.same
    | with_reducible apply flowCmd_kept
    | with_reducible apply KeptO.next

theorem execStrainerWrite_kept {fr : Nat} {z0 : State} (set : Nat) (index : Nat) {s : State}  (hm : Within 0x22040000000000000000000000000000000000000000000000000000000000000000000002000000000000012006 fr) (hk : Kept fr z0 s) : KeptO fr z0 (execStrainerWrite set index s) := by
  unfold execStrainerWrite
  repeat' first
    | with_reducible assumption
    | with_reducible exact Stands.same
    | ((with_reducible refine Within.trans ?_ hm); rfl)
    | with_reducible apply cmdComplete_kept
    | with_reducible apply poisonCount_kept
    | with_reducible apply setEntry_kept
    | with_reducible apply KeptO.next
    | with_reducible refine KeptO.ite (fun _ => ?_) (fun _ => ?_)
    | with_reducible refine Kept.ite (fun _ => ?_) (fun _ => ?_)
    | with_reducible refine Kept.foldl (fun _ _ _ => ?_) ?_
    | (with_reducible refine Kept.snd (by assumption) ?_)
    | dsimp only
    | split

theorem execStrainerRead_kept {fr : Nat} {z0 : State} (set : Nat) (index : Nat) {s : State}  (hm : Within 0x22040000000000000000000000000000000000000000000000000000000000000000000000000000000000010006 fr) (hk : Kept fr z0 s) : KeptO fr z0 (execStrainerRead set index s) := by
  unfold execStrainerRead
  repeat' first
    | with_reducible assumption
    | with_reducible exact Stands.same
    | with_reducible apply cmdComplete_kept
    | with_reducible apply cmdData_kept
    | with_reducible apply KeptO.next
    | with_reducible refine KeptO.ite (fun _ => ?_) (fun _ => ?_)
    | with_reducible refine Kept.ite (fun _ => ?_) (fun _ => ?_)
    | with_reducible refine Kept.foldl (fun _ _ _ => ?_) ?_
    | (with_reducible refine Kept.snd (by assumption) ?_)
    | dsimp only
    | split

theorem drainRefresh_kept {fr : Nat} {z0 : State} {s : State}  (hm : Within 0x100000000000000000000 fr) (hk : Kept fr z0 s) : Kept fr z0 (drainRefresh s) := by
  unfold drainRefresh
  repeat' first
    | with_reducible assumption
    | with_reducible exact Stands.same
    | ((with_reducible refine Within.trans ?_ hm); rfl)
    | with_reducible apply State.fset_kept
    | with_reducible refine Kept.ite (fun _ => ?_) (fun _ => ?_)

theorem publishNow_kept {fr : Nat} {z0 : State} {s : State}  (hm : Within 0x100000000000000004000 fr) (hk : Kept fr z0 s) : Kept fr z0 (publishNow s) := by
  unfold publishNow
  repeat' first
    | with_reducible assumption
    | with_reducible exact Stands.same
    | ((with_reducible refine Within.trans ?_ hm); rfl)
    | ((with_reducible refine Stands.hit (Within.trans ?_ hm)); rfl)
    | with_reducible apply State.fset_kept
    | with_reducible apply drainRefresh_kept
    | with_reducible refine Kept.ite (fun _ => ?_) (fun _ => ?_)
    | with_reducible refine Kept.foldl (fun _ _ _ => ?_) ?_
    | (fail_if_success with_reducible refine Kept.eta ?_); (with_reducible refine Kept.build ?_ rfl rfl ?_ ?_ ?_ ?_ ?_ ?_ ?_ ?_ ?_ ?_ ?_ ?_ ?_ ?_ ?_ ?_ ?_ ?_ ?_ ?_ ?_ ?_ ?_)

theorem execEpochPublish_kept {fr : Nat} {z0 : State} (set : Nat) (index : Nat) {s : State}  (hm : Within 0x22040000000000000000000000000000000000000000000000000000000000000000000100000000080000414006 fr) (hk : Kept fr z0 s) : KeptO fr z0 (execEpochPublish set index s) := by
  unfold execEpochPublish
  repeat' first
    | with_reducible assumption
    | with_reducible exact Stands.same
    | ((with_reducible refine Within.trans ?_ hm); rfl)
    | ((with_reducible refine Stands.hit (Within.trans ?_ hm)); rfl)
    | with_reducible apply cmdComplete_kept
    | with_reducible apply State.event_kept
    | with_reducible apply publishNow_kept
    | with_reducible apply workSet_kept
    | with_reducible apply KeptO.next
    | with_reducible refine KeptO.ite (fun _ => ?_) (fun _ => ?_)
    | with_reducible refine Kept.ite (fun _ => ?_) (fun _ => ?_)
    | with_reducible refine Kept.foldl (fun _ _ _ => ?_) ?_
    | (fail_if_success with_reducible refine Kept.eta ?_); (with_reducible refine Kept.build ?_ rfl rfl ?_ ?_ ?_ ?_ ?_ ?_ ?_ ?_ ?_ ?_ ?_ ?_ ?_ ?_ ?_ ?_ ?_ ?_ ?_ ?_ ?_ ?_ ?_)
    | (with_reducible refine Kept.snd (by assumption) ?_)
    | dsimp only
    | split

theorem execDrainSet_kept {fr : Nat} {z0 : State} (set : Nat) (index : Nat) {s : State}  (hm : Within 0x22040000000000000000000000000000000000000000000000000000000000000000000000000000022004010006 fr) (hk : Kept fr z0 s) : KeptO fr z0 (execDrainSet set index s) := by
  unfold execDrainSet
  repeat' first
    | with_reducible assumption
    | with_reducible exact Stands.same
    | ((with_reducible refine Within.trans ?_ hm); rfl)
    | with_reducible apply cmdComplete_kept
    | with_reducible apply updShow_kept
    | with_reducible apply State.fset_kept
    | with_reducible apply KeptO.next
    | with_reducible refine KeptO.ite (fun _ => ?_) (fun _ => ?_)
    | with_reducible refine Kept.ite (fun _ => ?_) (fun _ => ?_)
    | with_reducible refine Kept.foldl (fun _ _ _ => ?_) ?_
    | (with_reducible refine Kept.snd (by assumption) ?_)
    | dsimp only
    | split

theorem completePublishers_kept {fr : Nat} {z0 : State} (l : List (Nat × Nat)) {s : State}  (hm : Within 0x22040000000000000000000000000000000000000000000000000000000000000000000000000000000000010006 fr) (hk : Kept fr z0 s) : Kept fr z0 (completePublishers s l) := by
  unfold completePublishers
  repeat' first
    | with_reducible assumption
    | with_reducible exact Stands.same
    | with_reducible apply cmdComplete_kept
    | with_reducible refine Kept.ite (fun _ => ?_) (fun _ => ?_)
    | with_reducible refine Kept.foldl (fun _ _ _ => ?_) ?_
    | (with_reducible refine Kept.snd (by assumption) ?_)
    | dsimp only
    | split

theorem drainDone_kept {fr : Nat} {z0 : State} {s : State}  (hm : Within 0x22040000000000000000000000000000000000000000000000000000000000000000000100000000000000014006 fr) (hk : Kept fr z0 s) : Kept fr z0 (drainDone s) := by
  unfold drainDone
  repeat' first
    | with_reducible assumption
    | with_reducible exact Stands.same
    | ((with_reducible refine Within.trans ?_ hm); rfl)
    | ((with_reducible refine Stands.hit (Within.trans ?_ hm)); rfl)
    | with_reducible apply State.fset_kept
    | with_reducible apply completePublishers_kept
    | with_reducible apply bankIdle_kept
    | with_reducible refine Kept.ite (fun _ => ?_) (fun _ => ?_)
    | with_reducible refine Kept.foldl (fun _ _ _ => ?_) ?_
    | (fail_if_success with_reducible refine Kept.eta ?_); (with_reducible refine Kept.build ?_ rfl rfl ?_ ?_ ?_ ?_ ?_ ?_ ?_ ?_ ?_ ?_ ?_ ?_ ?_ ?_ ?_ ?_ ?_ ?_ ?_ ?_ ?_ ?_ ?_)

theorem reissue_kept {fr : Nat} {z0 : State} (t : Task) {s : State}  (hm : Within 0x4008 fr) (hk : Kept fr z0 s) : Kept fr z0 (reissue s t) := by
  unfold reissue
  repeat' first
    | with_reducible assumption
    | with_reducible exact Stands.same
    | ((with_reducible refine Within.trans ?_ hm); rfl)
    | with_reducible apply takePlace_kept
    | with_reducible apply startTeardown_kept
    | with_reducible apply startVisit_kept
    | with_reducible apply newTask_kept
    | with_reducible refine Kept.ite (fun _ => ?_) (fun _ => ?_)
    | with_reducible refine Kept.foldl (fun _ _ _ => ?_) ?_
    | with_reducible refine Kept.foldlSnd (fun _ _ _ => ?_) ?_
    | with_reducible refine Kept.iteSnd (fun _ => ?_) (fun _ => ?_)
    | (with_reducible refine Kept.snd (by assumption) ?_)
    | dsimp only
    | split

theorem execDrainLimitExpire_kept {fr : Nat} {z0 : State} {s : State}  (hm : Within 0x40000000000000000000000000000000000807801302200000000000000000000000000000000190000000008000041500e fr) (hk : Kept fr z0 s) : KeptO fr z0 (execDrainLimitExpire s) := by
  unfold execDrainLimitExpire
  repeat' first
    | with_reducible assumption
    | with_reducible exact Stands.same
    | ((with_reducible refine Within.trans ?_ hm); rfl)
    | ((with_reducible refine Stands.hit (Within.trans ?_ hm)); rfl)
    | with_reducible apply State.event_kept
    | with_reducible apply loseSegment_kept
    | with_reducible apply State.count_kept
    | with_reducible apply State.setTask_kept
    | with_reducible apply settle_kept
    | with_reducible apply reissue_kept
    | with_reducible apply drainRefresh_kept
    | with_reducible apply KeptO.next
    | with_reducible refine KeptO.ite (fun _ => ?_) (fun _ => ?_)
    | with_reducible refine Kept.ite (fun _ => ?_) (fun _ => ?_)
    | with_reducible refine Kept.foldl (fun _ _ _ => ?_) ?_
    | (fail_if_success with_reducible refine Kept.eta ?_); (with_reducible refine Kept.build ?_ rfl rfl ?_ ?_ ?_ ?_ ?_ ?_ ?_ ?_ ?_ ?_ ?_ ?_ ?_ ?_ ?_ ?_ ?_ ?_ ?_ ?_ ?_ ?_ ?_)
    | (with_reducible refine Kept.snd (by assumption) ?_)
    | dsimp only
    | split

theorem mirrorDone_kept {fr : Nat} {z0 : State} {s : State}  (hm : Within 0x100000000000000004000 fr) (hk : Kept fr z0 s) : Kept fr z0 (mirrorDone s) := by
  unfold mirrorDone
  repeat' first
    | with_reducible assumption
    | with_reducible exact Stands.same
    | ((with_reducible refine Stands.hit (Within.trans ?_ hm)); rfl)
    | with_reducible apply bankIdle_kept
    | with_reducible refine Kept.ite (fun _ => ?_) (fun _ => ?_)
    | with_reducible refine Kept.foldl (fun _ _ _ => ?_) ?_
    | (fail_if_success with_reducible refine Kept.eta ?_); (with_reducible refine Kept.build ?_ rfl rfl ?_ ?_ ?_ ?_ ?_ ?_ ?_ ?_ ?_ ?_ ?_ ?_ ?_ ?_ ?_ ?_ ?_ ?_ ?_ ?_ ?_ ?_ ?_)

theorem publishTrigger_kept {fr : Nat} {z0 : State} {s : State}  (hm : Within 0x100000000080000414004 fr) (hk : Kept fr z0 s) : Kept fr z0 (publishTrigger s) := by
  unfold publishTrigger
  repeat' first
    | with_reducible assumption
    | with_reducible exact Stands.same
    | ((with_reducible refine Within.trans ?_ hm); rfl)
    | ((with_reducible refine Stands.hit (Within.trans ?_ hm)); rfl)
    | with_reducible apply publishNow_kept
    | with_reducible apply State.event_kept
    | with_reducible refine Kept.ite (fun _ => ?_) (fun _ => ?_)
    | with_reducible refine Kept.foldl (fun _ _ _ => ?_) ?_
    | (fail_if_success with_reducible refine Kept.eta ?_); (with_reducible refine Kept.build ?_ rfl rfl ?_ ?_ ?_ ?_ ?_ ?_ ?_ ?_ ?_ ?_ ?_ ?_ ?_ ?_ ?_ ?_ ?_ ?_ ?_ ?_ ?_ ?_ ?_)

end Sys2Proof.Machine
end

