-- ==== Sys2Proof/Laws/KeptTime.lean ====
section
/-! SUPPORT. No function of Machine/TelemOps, TimeOps takes back what no command takes back: one lemma each. -/

namespace Sys2Proof.Machine

theorem ringPut_kept {fr : Nat} {z0 : State} (set : Nat) (k : Nat) (v : Nat) (c : Ctr) (tn : Option Nat) {s : State}  (hm : Within 0x3000000000000000000000000000000000000000000000000000000000000000000000000000000000000010006 fr) (hk : Kept fr z0 s) (hc : Within (Part.bit (.ctr c)) fr) : Kept fr z0 (ringPut s set k v c tn) := by
  unfold ringPut
  repeat' first
    | with_reducible assumption
    | with_reducible exact Stands.same
    | ((with_reducible refine Within.trans ?_ hm); rfl)
    | with_reducible apply State.count_kept
    | with_reducible apply ringWrite_kept
    | with_reducible refine Kept.ite (fun _ => ?_) (fun _ => ?_)

theorem State.setExporter_kept {fr : Nat} {z0 : State} (x : Nat) (e : Exporter) {s : State}  (hm : Within 0x40000 fr) (hk : Kept fr z0 s) : Kept fr z0 (State.setExporter s x e) := by
  unfold State.setExporter
  repeat' first
    | with_reducible assumption
    | with_reducible exact Stands.same
    | ((with_reducible refine Stands.hit (Within.trans ?_ hm)); rfl)
    | with_reducible refine Kept.ite (fun _ => ?_) (fun _ => ?_)
    | with_reducible refine Kept.foldl (fun _ _ _ => ?_) ?_
    | (fail_if_success with_reducible refine Kept.eta ?_); (with_reducible refine Kept.build ?_ rfl rfl ?_ ?_ ?_ ?_ ?_ ?_ ?_ ?_ ?_ ?_ ?_ ?_ ?_ ?_ ?_ ?_ ?_ ?_ ?_ ?_ ?_ ?_ ?_)

theorem sendMessage_kept {fr : Nat} {z0 : State} (x : Nat) (seq : Nat) (sets : List Byte) {s : State}  (hm : Within 0x820e00220400000e090fe00d0000000000000000000000000010000000000001b80000000208000000000008000047038f fr) (hk : Kept fr z0 s) : Kept fr z0 (sendMessage s x seq sets) := by
  unfold sendMessage
  repeat' first
    | with_reducible assumption
    | with_reducible exact Stands.same
    | ((with_reducible refine Within.trans ?_ hm); rfl)
    | with_reducible apply State.setExporter_kept
    | with_reducible apply enqueueBuilt_kept
    | with_reducible apply State.count_kept
    | with_reducible refine Kept.ite (fun _ => ?_) (fun _ => ?_)

theorem flushExporter_kept {fr : Nat} {z0 : State} (x : Nat) {s : State}  (hm : Within 0x830e00220400000e090fe00d0000000000000000000000000010000000000001b80000000208000000000008000047038f fr) (hk : Kept fr z0 s) : Kept fr z0 (flushExporter s x) := by
  unfold flushExporter
  repeat' first
    | with_reducible assumption
    | with_reducible exact Stands.same
    | ((with_reducible refine Within.trans ?_ hm); rfl)
    | with_reducible apply State.setExporter_kept
    | with_reducible apply sendMessage_kept
    | with_reducible apply State.count_kept
    | with_reducible refine Kept.ite (fun _ => ?_) (fun _ => ?_)

theorem sendTemplates_kept {fr : Nat} {z0 : State} (x : Nat) {s : State}  (hm : Within 0x860e00220400000e090fe00d0000000000000000000000000010000000000001b80000000208000000000008000047038f fr) (hk : Kept fr z0 s) : Kept fr z0 (sendTemplates s x) := by
  unfold sendTemplates
  repeat' first
    | with_reducible assumption
    | with_reducible exact Stands.same
    | ((with_reducible refine Within.trans ?_ hm); rfl)
    | with_reducible apply State.setExporter_kept
    | with_reducible apply sendMessage_kept
    | with_reducible apply State.count_kept

theorem exportRecord_kept {fr : Nat} {z0 : State} (x : Nat) (w : Nat) (v : Nat) (tn : Option Nat) {s : State}  (hm : Within 0x838e00220400000e090fe00d0000000000000000000000000010000000000001b80000000208000000000008000047038f fr) (hk : Kept fr z0 s) : Kept fr z0 (exportRecord s x w v tn) := by
  unfold exportRecord
  repeat' first
    | with_reducible assumption
    | with_reducible exact Stands.same
    | ((with_reducible refine Within.trans ?_ hm); rfl)
    | with_reducible apply flushExporter_kept
    | with_reducible apply State.setExporter_kept
    | with_reducible apply State.count_kept
    | with_reducible refine Kept.ite (fun _ => ?_) (fun _ => ?_)

theorem portUpTemplates_kept {fr : Nat} {z0 : State} (q : Nat) {s : State}  (hm : Within 0x860e00220400000e090fe00d0000000000000000000000000010000000000001b80000000208000000000008000047038f fr) (hk : Kept fr z0 s) : Kept fr z0 (portUpTemplates s q) := by
  unfold portUpTemplates
  repeat' first
    | with_reducible assumption
    | with_reducible exact Stands.same
    | with_reducible apply sendTemplates_kept
    | with_reducible refine Kept.ite (fun _ => ?_) (fun _ => ?_)
    | with_reducible refine Kept.foldl (fun _ _ _ => ?_) ?_

theorem execWheyDeliver_kept {fr : Nat} {z0 : State} {s : State}  (hm : Within 0x838e00234400000e090fe00d0000000000000000000000000010000000000001b80000000a08000000000008000047038f fr) (hk : Kept fr z0 s) : KeptO fr z0 (execWheyDeliver s) := by
  unfold execWheyDeliver
  repeat' first
    | with_reducible assumption
    | with_reducible exact Stands.same
    | ((with_reducible refine Within.trans ?_ hm); rfl)
    | ((with_reducible refine Stands.hit (Within.trans ?_ hm)); rfl)
    | with_reducible apply State.fset_kept
    | with_reducible apply ringPut_kept
    | with_reducible apply exportRecord_kept
    | with_reducible apply State.count_kept
    | with_reducible apply KeptO.next
    | with_reducible refine KeptO.ite (fun _ => ?_) (fun _ => ?_)
    | with_reducible refine Kept.ite (fun _ => ?_) (fun _ => ?_)
    | with_reducible refine Kept.foldl (fun _ _ _ => ?_) ?_
    | (fail_if_success with_reducible refine Kept.eta ?_); (with_reducible refine Kept.build ?_ rfl rfl ?_ ?_ ?_ ?_ ?_ ?_ ?_ ?_ ?_ ?_ ?_ ?_ ?_ ?_ ?_ ?_ ?_ ?_ ?_ ?_ ?_ ?_ ?_)
    | (with_reducible refine Kept.snd (by assumption) ?_)
    | dsimp only
    | split

theorem wheyClose_kept {fr : Nat} {z0 : State} {s : State}  (hm : Within 0x834e00220400000e090fe00d0000000000000000000000000010000000000001b800000002080000000000080000470b8f fr) (hk : Kept fr z0 s) : Kept fr z0 (wheyClose s) := by
  unfold wheyClose
  repeat' first
    | with_reducible assumption
    | with_reducible exact Stands.same
    | ((with_reducible refine Within.trans ?_ hm); rfl)
    | ((with_reducible refine Stands.hit (Within.trans ?_ hm)); rfl)
    | with_reducible apply State.fset_kept
    | with_reducible apply flushExporter_kept
    | with_reducible apply State.count_kept
    | with_reducible refine Kept.ite (fun _ => ?_) (fun _ => ?_)
    | with_reducible refine Kept.foldl (fun _ _ _ => ?_) ?_
    | (fail_if_success with_reducible refine Kept.eta ?_); (with_reducible refine Kept.build ?_ rfl rfl ?_ ?_ ?_ ?_ ?_ ?_ ?_ ?_ ?_ ?_ ?_ ?_ ?_ ?_ ?_ ?_ ?_ ?_ ?_ ?_ ?_ ?_ ?_)

theorem execIpfixMessageTimeout_kept {fr : Nat} {z0 : State} (x : Nat) {s : State}  (hm : Within 0x830e00220400000e090fe00d0000000000000000000000000010000000000001b80000000208000000000008000047038f fr) (hk : Kept fr z0 s) : KeptO fr z0 (execIpfixMessageTimeout x s) := by
  unfold execIpfixMessageTimeout
  repeat' first
    | with_reducible assumption
    | with_reducible exact Stands.same
    | with_reducible apply flushExporter_kept
    | with_reducible apply KeptO.next
    | with_reducible refine KeptO.ite (fun _ => ?_) (fun _ => ?_)
    | with_reducible refine Kept.ite (fun _ => ?_) (fun _ => ?_)

theorem execIpfixTemplateRefresh_kept {fr : Nat} {z0 : State} (x : Nat) {s : State}  (hm : Within 0x860e00220400000e090fe00d0000000000000000000000000010000000000001b80000000208000000000008000047038f fr) (hk : Kept fr z0 s) : KeptO fr z0 (execIpfixTemplateRefresh x s) := by
  unfold execIpfixTemplateRefresh
  repeat' first
    | with_reducible assumption
    | with_reducible exact Stands.same
    | with_reducible apply sendTemplates_kept
    | with_reducible apply KeptO.next
    | with_reducible refine KeptO.ite (fun _ => ?_) (fun _ => ?_)
    | with_reducible refine Kept.ite (fun _ => ?_) (fun _ => ?_)

theorem gaugeWays_kept {fr : Nat} {z0 : State} {s : State}  (hm : Within 0x2000000000000000000000000000000000000000000000000000000000000000 fr) (hk : Kept fr z0 s) : Kept fr z0 (gaugeWays s) := by
  unfold gaugeWays
  repeat' first
    | with_reducible assumption
    | with_reducible exact Stands.same
    | ((with_reducible refine Within.trans ?_ hm); rfl)
    | with_reducible apply State.gset_kept
    | with_reducible refine Kept.ite (fun _ => ?_) (fun _ => ?_)
    | with_reducible refine Kept.foldl (fun _ _ _ => ?_) ?_

theorem progApply_kept {fr : Nat} {z0 : State} (k : Key) (v : Nat) {s : State}  (hm : Within 0x800000000000000000000000002 fr) (hk : Kept fr z0 s) : Kept fr z0 (progApply s k v) := by
  unfold progApply
  repeat' first
    | with_reducible assumption
    | with_reducible exact Stands.same
    | ((with_reducible refine Within.trans ?_ hm); rfl)
    | with_reducible apply State.fset_kept
    | refine Kept.progCtr _ _ ?_ (Within.trans rfl hm)
    | with_reducible refine Kept.ite (fun _ => ?_) (fun _ => ?_)

theorem ctrsClear_kept {fr : Nat} {z0 s : State} (cs : List Nat) (hm : Within 0x1ffffffffffffffffffffffffffffffffffffffffffffffffffffffffffff000000000000000000000000000000000000000 fr) (h : Kept fr z0 s) : Kept fr z0 (ctrsClear s cs) :=
  Kept.ctrs _ h hm

theorem restartPeaks_kept {fr : Nat} {z0 : State} {s : State}  (hm : Within 0x1ffffffffffffffffffffffffffffffffffffffffffffffffffffffffffff000009000000000000000000000000000000002 fr) (hk : Kept fr z0 s) : Kept fr z0 (restartPeaks s) := by
  unfold restartPeaks
  repeat' first
    | with_reducible assumption
    | with_reducible exact Stands.same
    | ((with_reducible refine Within.trans ?_ hm); rfl)
    | with_reducible apply ctrsClear_kept
    | with_reducible apply State.gset_kept
    | with_reducible apply State.count_kept
    | with_reducible apply State.fset_kept
    | with_reducible refine Kept.ite (fun _ => ?_) (fun _ => ?_)
    | with_reducible refine Kept.foldl (fun _ _ _ => ?_) ?_

theorem snapPulse_kept {fr : Nat} {z0 : State} (cause : Nat) {s : State}  (hm : Within 0x1ffffffffffffffffffffffffffffffffffffffffffffffffffffffffffff000009000000900000000000000000000040002 fr) (hk : Kept fr z0 s) : Kept fr z0 (snapPulse s cause) := by
  unfold snapPulse
  repeat' first
    | with_reducible assumption
    | with_reducible exact Stands.same
    | ((with_reducible refine Within.trans ?_ hm); rfl)
    | ((with_reducible refine Stands.hit (Within.trans ?_ hm)); rfl)
    | with_reducible apply gaugeWays_kept
    | with_reducible apply State.count_kept
    | with_reducible apply State.fset_kept
    | with_reducible apply progApply_kept
    | with_reducible apply restartPeaks_kept
    | with_reducible refine Kept.ite (fun _ => ?_) (fun _ => ?_)
    | with_reducible refine Kept.foldl (fun _ _ _ => ?_) ?_
    | (fail_if_success with_reducible refine Kept.eta ?_); (with_reducible refine Kept.build ?_ rfl rfl ?_ ?_ ?_ ?_ ?_ ?_ ?_ ?_ ?_ ?_ ?_ ?_ ?_ ?_ ?_ ?_ ?_ ?_ ?_ ?_ ?_ ?_ ?_)
    | (with_reducible refine Kept.snd (by assumption) ?_)
    | dsimp only
    | split

theorem snapRequest_kept {fr : Nat} {z0 : State} (cause : Nat) {s0 : State}  (hm : Within 0x1ffffffffffffffffffffffffffffffffffffffffffffffffffffffffffff000009000000900000000000000080000450006 fr) (hk : Kept fr z0 s0) : Kept fr z0 (snapRequest s0 cause) := by
  unfold snapRequest
  repeat' first
    | with_reducible assumption
    | with_reducible exact Stands.same
    | ((with_reducible refine Within.trans ?_ hm); rfl)
    | ((with_reducible refine Stands.hit (Within.trans ?_ hm)); rfl)
    | with_reducible apply State.fset_kept
    | with_reducible apply snapPulse_kept
    | with_reducible apply State.count_kept
    | with_reducible apply State.event_kept
    | with_reducible refine Kept.ite (fun _ => ?_) (fun _ => ?_)
    | with_reducible refine Kept.foldl (fun _ _ _ => ?_) ?_
    | (fail_if_success with_reducible refine Kept.eta ?_); (with_reducible refine Kept.build ?_ rfl rfl ?_ ?_ ?_ ?_ ?_ ?_ ?_ ?_ ?_ ?_ ?_ ?_ ?_ ?_ ?_ ?_ ?_ ?_ ?_ ?_ ?_ ?_ ?_)

theorem snapToSet_kept {fr : Nat} {z0 : State} (v : Snap) (set : Nat) {s : State}  (hm : Within 0x3800000000000000000000000000000000000000000000000000000000000000000000000000000000000010006 fr) (hk : Kept fr z0 s) : Kept fr z0 (snapToSet s v set) := by
  unfold snapToSet
  repeat' first
    | with_reducible assumption
    | with_reducible exact Stands.same
    | ((with_reducible refine Within.trans ?_ hm); rfl)
    | with_reducible apply ringPut_kept
    | with_reducible refine Kept.ite (fun _ => ?_) (fun _ => ?_)
    | with_reducible refine Kept.foldl (fun _ _ _ => ?_) ?_

theorem snapToPage_kept {fr : Nat} {z0 : State} (v : Snap) {s : State}  (hm : Within 0x40000000000000000000000000000000000000000000000000000000000000000000000000000000000000000000040002 fr) (hk : Kept fr z0 s) : Kept fr z0 (snapToPage s v) := by
  unfold snapToPage
  repeat' first
    | with_reducible assumption
    | with_reducible exact Stands.same
    | ((with_reducible refine Within.trans ?_ hm); rfl)
    | ((with_reducible refine Stands.hit (Within.trans ?_ hm)); rfl)
    | with_reducible apply State.count_kept
    | with_reducible refine Kept.ite (fun _ => ?_) (fun _ => ?_)
    | with_reducible refine Kept.foldl (fun _ _ _ => ?_) ?_
    | (fail_if_success with_reducible refine Kept.eta ?_); (with_reducible refine Kept.build ?_ rfl rfl ?_ ?_ ?_ ?_ ?_ ?_ ?_ ?_ ?_ ?_ ?_ ?_ ?_ ?_ ?_ ?_ ?_ ?_ ?_ ?_ ?_ ?_ ?_)

theorem execTallyWriteoutComplete_kept {fr : Nat} {z0 : State} {s : State}  (hm : Within 0x1ffffffffffffffffffffffffffffffffffffffffffffffffffffffffffff000009000000900000000000000000000050006 fr) (hk : Kept fr z0 s) : KeptO fr z0 (execTallyWriteoutComplete s) := by
  unfold execTallyWriteoutComplete
  repeat' first
    | with_reducible assumption
    | with_reducible exact Stands.same
    | ((with_reducible refine Within.trans ?_ hm); rfl)
    | ((with_reducible refine Stands.hit (Within.trans ?_ hm)); rfl)
    | with_reducible apply snapToSet_kept
    | with_reducible apply State.count_kept
    | with_reducible apply snapToPage_kept
    | with_reducible apply State.fset_kept
    | with_reducible apply snapPulse_kept
    | with_reducible apply KeptO.next
    | with_reducible refine KeptO.ite (fun _ => ?_) (fun _ => ?_)
    | with_reducible refine Kept.ite (fun _ => ?_) (fun _ => ?_)
    | with_reducible refine Kept.foldl (fun _ _ _ => ?_) ?_
    | (fail_if_success with_reducible refine Kept.eta ?_); (with_reducible refine Kept.build ?_ rfl rfl ?_ ?_ ?_ ?_ ?_ ?_ ?_ ?_ ?_ ?_ ?_ ?_ ?_ ?_ ?_ ?_ ?_ ?_ ?_ ?_ ?_ ?_ ?_)
    | (with_reducible refine Kept.snd (by assumption) ?_)
    | dsimp only
    | split

theorem execTallyProgWrite_kept {fr : Nat} {z0 : State} (_req : Requester) (g : Nat) (n : Nat) (value : BitVec 128) {s : State}  (hm : Within 0x100000000000000080000450004 fr) (hk : Kept fr z0 s) : KeptO fr z0 (execTallyProgWrite _req g n value s) := by
  unfold execTallyProgWrite
  repeat' first
    | with_reducible assumption
    | with_reducible exact Stands.same
    | ((with_reducible refine Within.trans ?_ hm); rfl)
    | ((with_reducible refine Stands.hit (Within.trans ?_ hm)); rfl)
    | with_reducible apply State.event_kept
    | with_reducible apply KeptO.next
    | with_reducible refine KeptO.ite (fun _ => ?_) (fun _ => ?_)
    | with_reducible refine Kept.ite (fun _ => ?_) (fun _ => ?_)
    | with_reducible refine Kept.foldl (fun _ _ _ => ?_) ?_
    | (fail_if_success with_reducible refine Kept.eta ?_); (with_reducible refine Kept.build ?_ rfl rfl ?_ ?_ ?_ ?_ ?_ ?_ ?_ ?_ ?_ ?_ ?_ ?_ ?_ ?_ ?_ ?_ ?_ ?_ ?_ ?_ ?_ ?_ ?_)

theorem rateShow_kept {fr : Nat} {z0 : State} {s : State}  (hm : Within 0x40000000000000 fr) (hk : Kept fr z0 s) : Kept fr z0 (rateShow s) := by
  unfold rateShow
  repeat' first
    | with_reducible assumption
    | with_reducible exact Stands.same
    | ((with_reducible refine Within.trans ?_ hm); rfl)
    | with_reducible apply State.fset_kept

theorem setSlew_kept {fr : Nat} {z0 : State} (r : Int) {s : State}  (hm : Within 0x400000000008000 fr) (hk : Kept fr z0 s) : Kept fr z0 (setSlew s r) := by
  unfold setSlew
  repeat' first
    | with_reducible assumption
    | with_reducible exact Stands.same
    | ((with_reducible refine Within.trans ?_ hm); rfl)
    | ((with_reducible refine Stands.hit (Within.trans ?_ hm)); rfl)
    | with_reducible apply State.fset_kept
    | with_reducible refine Kept.ite (fun _ => ?_) (fun _ => ?_)
    | with_reducible refine Kept.foldl (fun _ _ _ => ?_) ?_
    | (fail_if_success with_reducible refine Kept.eta ?_); (with_reducible refine Kept.build ?_ rfl rfl ?_ ?_ ?_ ?_ ?_ ?_ ?_ ?_ ?_ ?_ ?_ ?_ ?_ ?_ ?_ ?_ ?_ ?_ ?_ ?_ ?_ ?_ ?_)

theorem timeTick_kept {fr : Nat} {z0 : State} {s : State}  (hm : Within 0x440000000008000 fr) (hk : Kept fr z0 s) : Kept fr z0 (timeTick s) := by
  unfold timeTick
  repeat' first
    | with_reducible assumption
    | with_reducible exact Stands.same
    | ((with_reducible refine Within.trans ?_ hm); rfl)
    | ((with_reducible refine Stands.hit (Within.trans ?_ hm)); rfl)
    | with_reducible apply rateShow_kept
    | with_reducible apply setSlew_kept
    | with_reducible refine Kept.ite (fun _ => ?_) (fun _ => ?_)
    | with_reducible refine Kept.foldl (fun _ _ _ => ?_) ?_
    | (fail_if_success with_reducible refine Kept.eta ?_); (with_reducible refine Kept.build ?_ rfl rfl ?_ ?_ ?_ ?_ ?_ ?_ ?_ ?_ ?_ ?_ ?_ ?_ ?_ ?_ ?_ ?_ ?_ ?_ ?_ ?_ ?_ ?_ ?_)

theorem throttleTick_kept {fr : Nat} {z0 : State} {s : State}  (hm : Within 0x4000000000000000000000000000000000000000000000000000000000000000002 fr) (hk : Kept fr z0 s) : Kept fr z0 (throttleTick s) := by
  unfold throttleTick
  repeat' first
    | with_reducible assumption
    | with_reducible exact Stands.same
    | ((with_reducible refine Within.trans ?_ hm); rfl)
    | with_reducible apply State.count_kept
    | with_reducible refine Kept.ite (fun _ => ?_) (fun _ => ?_)

theorem markLate_kept {fr : Nat} {z0 : State} {s : State}  (hm : Within 0x200 fr) (hk : Kept fr z0 s) : Kept fr z0 (markLate s) := by
  unfold markLate
  repeat' first
    | with_reducible assumption
    | with_reducible exact Stands.same
    | ((with_reducible refine Stands.hit (Within.trans ?_ hm)); rfl)
    | with_reducible refine Kept.ite (fun _ => ?_) (fun _ => ?_)
    | with_reducible refine Kept.foldl (fun _ _ _ => ?_) ?_
    | (fail_if_success with_reducible refine Kept.eta ?_); (with_reducible refine Kept.build ?_ rfl rfl ?_ ?_ ?_ ?_ ?_ ?_ ?_ ?_ ?_ ?_ ?_ ?_ ?_ ?_ ?_ ?_ ?_ ?_ ?_ ?_ ?_ ?_ ?_)

theorem judgeQueue_kept {fr : Nat} {z0 : State} (q : Nat) (c : Nat) {s : State}  (hm : Within 0x800e00220400000e0040200d0000000000000000000000000000000000000001b80000000210000000000008000043038f fr) (hk : Kept fr z0 s) : Kept fr z0 (judgeQueue s q c) := by
  unfold judgeQueue
  repeat' first
    | with_reducible assumption
    | with_reducible exact Stands.same
    | ((with_reducible refine Within.trans ?_ hm); rfl)
    | with_reducible apply putQueue_kept
    | with_reducible apply dropSample_kept
    | with_reducible apply State.count_kept
    | with_reducible apply injEnd_kept
    | with_reducible apply copyEnd_kept
    | with_reducible refine Kept.ite (fun _ => ?_) (fun _ => ?_)
    | with_reducible refine Kept.foldl (fun _ _ _ => ?_) ?_
    | (with_reducible refine Kept.snd (by assumption) ?_)
    | dsimp only
    | split

theorem judgeLate_kept {fr : Nat} {z0 : State} {s : State}  (hm : Within 0x800e00220400000e0040200d0000000000000000000000000000000000000001b80000000210000000000008000043038f fr) (hk : Kept fr z0 s) : Kept fr z0 (judgeLate s) := by
  unfold judgeLate
  repeat' first
    | with_reducible assumption
    | with_reducible exact Stands.same
    | with_reducible apply judgeQueue_kept
    | with_reducible refine Kept.ite (fun _ => ?_) (fun _ => ?_)
    | with_reducible refine Kept.foldl (fun _ _ _ => ?_) ?_

theorem setTrigNext_kept {fr : Nat} {z0 : State} (u : Nat) (t : Option Nat) {s : State}  (hm : Within 0x8000 fr) (hk : Kept fr z0 s) : Kept fr z0 (setTrigNext s u t) := by
  unfold setTrigNext
  repeat' first
    | with_reducible assumption
    | with_reducible exact Stands.same
    | ((with_reducible refine Stands.hit (Within.trans ?_ hm)); rfl)
    | with_reducible refine Kept.ite (fun _ => ?_) (fun _ => ?_)
    | with_reducible refine Kept.foldl (fun _ _ _ => ?_) ?_
    | (fail_if_success with_reducible refine Kept.eta ?_); (with_reducible refine Kept.build ?_ rfl rfl ?_ ?_ ?_ ?_ ?_ ?_ ?_ ?_ ?_ ?_ ?_ ?_ ?_ ?_ ?_ ?_ ?_ ?_ ?_ ?_ ?_ ?_ ?_)

theorem trigPulse_kept {fr : Nat} {z0 : State} (u : Nat) (t : Nat) {s : State}  (hm : Within 0x8000 fr) (hk : Kept fr z0 s) : Kept fr z0 (trigPulse s u t) := by
  unfold trigPulse
  repeat' first
    | with_reducible assumption
    | with_reducible exact Stands.same
    | ((with_reducible refine Stands.hit (Within.trans ?_ hm)); rfl)
    | with_reducible refine Kept.ite (fun _ => ?_) (fun _ => ?_)
    | with_reducible refine Kept.foldl (fun _ _ _ => ?_) ?_
    | (fail_if_success with_reducible refine Kept.eta ?_); (with_reducible refine Kept.build ?_ rfl rfl ?_ ?_ ?_ ?_ ?_ ?_ ?_ ?_ ?_ ?_ ?_ ?_ ?_ ?_ ?_ ?_ ?_ ?_ ?_ ?_ ?_ ?_ ?_)

theorem trigGates_kept {fr : Nat} {z0 : State} (u : Nat) (t : Nat) {s : State}  (hm : Within 0x200 fr) (hk : Kept fr z0 s) : Kept fr z0 (trigGates s u t) := by
  unfold trigGates
  repeat' first
    | with_reducible assumption
    | with_reducible exact Stands.same
    | with_reducible apply gateStart_kept
    | with_reducible refine Kept.ite (fun _ => ?_) (fun _ => ?_)
    | with_reducible refine Kept.foldl (fun _ _ _ => ?_) ?_

theorem fireUnit_kept {fr : Nat} {z0 : State} (late : Bool) (u : Nat) {s : State}  (hm : Within 0xc000000000000000000000000000000000000000000000000000000000000000000000000000200000080000418206 fr) (hk : Kept fr z0 s) : Kept fr z0 (fireUnit s late u) := by
  unfold fireUnit
  repeat' first
    | with_reducible assumption
    | with_reducible exact Stands.same
    | ((with_reducible refine Within.trans ?_ hm); rfl)
    | with_reducible apply State.fset_kept
    | with_reducible apply State.count_kept
    | with_reducible apply State.event_kept
    | with_reducible apply trigGates_kept
    | with_reducible apply trigPulse_kept
    | with_reducible apply setTrigNext_kept
    | with_reducible refine Kept.ite (fun _ => ?_) (fun _ => ?_)

theorem fireUnits_kept {fr : Nat} {z0 : State} (us : List Nat) (late : Bool) {s : State}  (hm : Within 0x1ffffffffffffffffffffffffffffffffffffffffffffffffffffffffffff00001b80000090208410020000008200057eb8f fr) (hk : Kept fr z0 s) : Kept fr z0 (fireUnits s us late) := by
  unfold fireUnits
  repeat' first
    | with_reducible assumption
    | with_reducible exact Stands.same
    | ((with_reducible refine Within.trans ?_ hm); rfl)
    | with_reducible apply ticketDrop_kept
    | with_reducible apply fireUnit_kept
    | with_reducible apply snapRequest_kept
    | with_reducible apply sweepStart_kept
    | with_reducible apply wheyClose_kept
    | with_reducible apply publishNow_kept
    | with_reducible apply publishTrigger_kept
    | with_reducible apply activate_kept
    | with_reducible refine Kept.ite (fun _ => ?_) (fun _ => ?_)
    | with_reducible refine Kept.foldl (fun _ _ _ => ?_) ?_

theorem execTriggerFire_kept {fr : Nat} {z0 : State} (units : List Nat) {s : State}  (hm : Within 0x1ffffffffffffffffffffffffffffffffffffffffffffffffffffffffffff00001b80000090208410020000008200057eb8f fr) (hk : Kept fr z0 s) : KeptO fr z0 (execTriggerFire units s) := by
  unfold execTriggerFire
  repeat' first
    | with_reducible assumption
    | with_reducible exact Stands.same
    | with_reducible apply fireUnits_kept
    | with_reducible apply KeptO.next
    | with_reducible refine KeptO.ite (fun _ => ?_) (fun _ => ?_)
    | with_reducible refine Kept.ite (fun _ => ?_) (fun _ => ?_)

theorem execTrigOutFall_kept {fr : Nat} {z0 : State} (pin : Nat) {s : State}  (hm : Within 0x8000 fr) (hk : Kept fr z0 s) : KeptO fr z0 (execTrigOutFall pin s) := by
  unfold execTrigOutFall
  repeat' first
    | with_reducible assumption
    | with_reducible exact Stands.same
    | ((with_reducible refine Stands.hit (Within.trans ?_ hm)); rfl)
    | with_reducible apply KeptO.next
    | with_reducible refine KeptO.ite (fun _ => ?_) (fun _ => ?_)
    | with_reducible refine Kept.ite (fun _ => ?_) (fun _ => ?_)
    | with_reducible refine Kept.foldl (fun _ _ _ => ?_) ?_
    | (fail_if_success with_reducible refine Kept.eta ?_); (with_reducible refine Kept.build ?_ rfl rfl ?_ ?_ ?_ ?_ ?_ ?_ ?_ ?_ ?_ ?_ ?_ ?_ ?_ ?_ ?_ ?_ ?_ ?_ ?_ ?_ ?_ ?_ ?_)

theorem trigArm_kept {fr : Nat} {z0 : State} (u : Nat) {s : State}  (hm : Within 0x1ffffffffffffffffffffffffffffffffffffffffffffffffffffffffffff00001b80000090208410020000008200057eb8f fr) (hk : Kept fr z0 s) : Kept fr z0 (trigArm s u) := by
  unfold trigArm
  repeat' first
    | with_reducible assumption
    | with_reducible exact Stands.same
    | ((with_reducible refine Within.trans ?_ hm); rfl)
    | with_reducible apply State.fset_kept
    | with_reducible apply setTrigNext_kept
    | with_reducible apply fireUnits_kept
    | with_reducible apply State.count_kept
    | with_reducible refine Kept.ite (fun _ => ?_) (fun _ => ?_)

theorem trigDisarm_kept {fr : Nat} {z0 : State} (u : Nat) {s : State}  (hm : Within 0x10020000008200051e004 fr) (hk : Kept fr z0 s) : Kept fr z0 (trigDisarm s u) := by
  unfold trigDisarm
  repeat' first
    | with_reducible assumption
    | with_reducible exact Stands.same
    | ((with_reducible refine Within.trans ?_ hm); rfl)
    | with_reducible apply ticketDrop_kept
    | with_reducible apply trigOff_kept
    | with_reducible apply State.event_kept
    | with_reducible refine Kept.ite (fun _ => ?_) (fun _ => ?_)

theorem trigCtlWrite_kept {fr : Nat} {z0 : State} (req : Requester) (u : Nat) (v : Nat) {s : State}  (hm : Within 0x1ffffffffffffffffffffffffffffffffffffffffffffffffffffffffffff00001b80000090208410020004008200057eb8f fr) (hk : Kept fr z0 s) : Kept fr z0 (trigCtlWrite s req u v) := by
  unfold trigCtlWrite
  repeat' first
    | with_reducible assumption
    | with_reducible exact Stands.same
    | ((with_reducible refine Within.trans ?_ hm); rfl)
    | with_reducible apply State.event_kept
    | with_reducible apply State.fset_kept
    | with_reducible apply evtUpdate_kept
    | with_reducible apply trigOff_kept
    | with_reducible apply trigArm_kept
    | with_reducible refine Kept.ite (fun _ => ?_) (fun _ => ?_)

theorem stepClear_kept {fr : Nat} {z0 : State} {s : State}  (hm : Within 0x2040000000000000 fr) (hk : Kept fr z0 s) : Kept fr z0 (stepClear s) := by
  unfold stepClear
  repeat' first
    | with_reducible assumption
    | with_reducible exact Stands.same
    | ((with_reducible refine Within.trans ?_ hm); rfl)
    | with_reducible apply State.fset_kept

theorem epochEnd_kept {fr : Nat} {z0 : State} (old : Nat) {s : State}  (hm : Within 0x800e20220400000e0040200d0000000000000000000000000000000000000001b80000000210010023204008200053e38f fr) (hk : Kept fr z0 s) : Kept fr z0 (epochEnd s old) := by
  unfold epochEnd
  repeat' first
    | with_reducible assumption
    | with_reducible exact Stands.same
    | ((with_reducible refine Within.trans ?_ hm); rfl)
    | ((with_reducible refine Stands.hit (Within.trans ?_ hm)); rfl)
    | with_reducible apply State.fset_kept
    | with_reducible apply trigDisarm_kept
    | with_reducible apply stepClear_kept
    | with_reducible apply judgeLate_kept
    | with_reducible apply State.count_kept
    | with_reducible apply State.event_kept
    | with_reducible refine Kept.ite (fun _ => ?_) (fun _ => ?_)
    | with_reducible refine Kept.foldl (fun _ _ _ => ?_) ?_
    | (fail_if_success with_reducible refine Kept.eta ?_); (with_reducible refine Kept.build ?_ rfl rfl ?_ ?_ ?_ ?_ ?_ ?_ ?_ ?_ ?_ ?_ ?_ ?_ ?_ ?_ ?_ ?_ ?_ ?_ ?_ ?_ ?_ ?_ ?_)

theorem passOver_kept {fr : Nat} {z0 : State} {s : State}  (hm : Within 0x1ffffffffffffffffffffffffffffffffffffffffffffffffffffffffffff00001b80000090208410020000008200057eb8f fr) (hk : Kept fr z0 s) : Kept fr z0 (passOver s) := by
  unfold passOver
  repeat' first
    | with_reducible assumption
    | with_reducible exact Stands.same
    | with_reducible apply fireUnits_kept
    | with_reducible refine Kept.ite (fun _ => ?_) (fun _ => ?_)

theorem timeJump_kept {fr : Nat} {z0 : State} (dt : Nat) {s : State}  (hm : Within 0x8200 fr) (hk : Kept fr z0 s) : Kept fr z0 (timeJump s dt) := by
  unfold timeJump
  repeat' first
    | with_reducible assumption
    | with_reducible exact Stands.same
    | ((with_reducible refine Stands.hit (Within.trans ?_ hm)); rfl)
    | with_reducible refine Kept.ite (fun _ => ?_) (fun _ => ?_)
    | with_reducible refine Kept.foldl (fun _ _ _ => ?_) ?_
    | (fail_if_success with_reducible refine Kept.eta ?_); (with_reducible refine Kept.build ?_ rfl rfl ?_ ?_ ?_ ?_ ?_ ?_ ?_ ?_ ?_ ?_ ?_ ?_ ?_ ?_ ?_ ?_ ?_ ?_ ?_ ?_ ?_ ?_ ?_)

theorem takeStep_kept {fr : Nat} {z0 : State} {s : State}  (hm : Within 0x1ffffffffffffffffffffffffffffffffffffffffffffffffffffffffffff00001b80000090218410023204008200057eb8f fr) (hk : Kept fr z0 s) : Kept fr z0 (takeStep s) := by
  unfold takeStep
  repeat' first
    | with_reducible assumption
    | with_reducible exact Stands.same
    | ((with_reducible refine Within.trans ?_ hm); rfl)
    | with_reducible apply timeJump_kept
    | with_reducible apply stepClear_kept
    | with_reducible apply State.fset_kept
    | with_reducible apply State.count_kept
    | with_reducible apply epochEnd_kept
    | with_reducible apply passOver_kept
    | with_reducible apply judgeLate_kept
    | with_reducible apply markLate_kept
    | with_reducible refine Kept.ite (fun _ => ?_) (fun _ => ?_)

theorem stepGo_kept {fr : Nat} {z0 : State} (atPps : Bool) {s : State}  (hm : Within 0x1ffffffffffffffffffffffffffffffffffffffffffffffffffffffffffff00001b80000090218410023204008200057eb8f fr) (hk : Kept fr z0 s) : Kept fr z0 (stepGo s atPps) := by
  unfold stepGo
  repeat' first
    | with_reducible assumption
    | with_reducible exact Stands.same
    | ((with_reducible refine Within.trans ?_ hm); rfl)
    | with_reducible apply State.event_kept
    | with_reducible apply State.fset_kept
    | with_reducible apply takeStep_kept
    | with_reducible refine Kept.ite (fun _ => ?_) (fun _ => ?_)

theorem reepochGo_kept {fr : Nat} {z0 : State} {s : State}  (hm : Within 0x2040080000418204 fr) (hk : Kept fr z0 s) : Kept fr z0 (reepochGo s) := by
  unfold reepochGo
  repeat' first
    | with_reducible assumption
    | with_reducible exact Stands.same
    | ((with_reducible refine Within.trans ?_ hm); rfl)
    | ((with_reducible refine Stands.hit (Within.trans ?_ hm)); rfl)
    | with_reducible apply State.event_kept
    | with_reducible apply State.fset_kept
    | with_reducible apply markLate_kept
    | with_reducible refine Kept.ite (fun _ => ?_) (fun _ => ?_)
    | with_reducible refine Kept.foldl (fun _ _ _ => ?_) ?_
    | (fail_if_success with_reducible refine Kept.eta ?_); (with_reducible refine Kept.build ?_ rfl rfl ?_ ?_ ?_ ?_ ?_ ?_ ?_ ?_ ?_ ?_ ?_ ?_ ?_ ?_ ?_ ?_ ?_ ?_ ?_ ?_ ?_ ?_ ?_)

theorem timeCtlWrite_kept {fr : Nat} {z0 : State} (v : Nat) {s : State}  (hm : Within 0x1ffffffffffffffffffffffffffffffffffffffffffffffffffffffffffff00001b80000090218410023204008200057eb8f fr) (hk : Kept fr z0 s) : Kept fr z0 (timeCtlWrite s v) := by
  unfold timeCtlWrite
  repeat' first
    | with_reducible assumption
    | with_reducible exact Stands.same
    | ((with_reducible refine Within.trans ?_ hm); rfl)
    | with_reducible apply State.fset_kept
    | with_reducible apply reepochGo_kept
    | with_reducible apply stepGo_kept
    | with_reducible refine Kept.ite (fun _ => ?_) (fun _ => ?_)

theorem execReepochHoldExpire_kept {fr : Nat} {z0 : State} {s : State}  (hm : Within 0x800e20220400000e0040200d0000000000000000000000000000000000000001b80000000210010023204008200053e38f fr) (hk : Kept fr z0 s) : KeptO fr z0 (execReepochHoldExpire s) := by
  unfold execReepochHoldExpire
  repeat' first
    | with_reducible assumption
    | with_reducible exact Stands.same
    | ((with_reducible refine Within.trans ?_ hm); rfl)
    | with_reducible apply epochEnd_kept
    | with_reducible apply State.fset_kept
    | with_reducible apply KeptO.next
    | with_reducible refine KeptO.ite (fun _ => ?_) (fun _ => ?_)
    | with_reducible refine Kept.ite (fun _ => ?_) (fun _ => ?_)
    | with_reducible refine Kept.foldl (fun _ _ _ => ?_) ?_
    | (with_reducible refine Kept.snd (by assumption) ?_)
    | dsimp only
    | split

theorem execSlewComplete_kept {fr : Nat} {z0 : State} {s : State}  (hm : Within 0x40000000000000 fr) (hk : Kept fr z0 s) : KeptO fr z0 (execSlewComplete s) := by
  unfold execSlewComplete
  repeat' first
    | with_reducible assumption
    | with_reducible exact Stands.same
    | ((with_reducible refine Within.trans ?_ hm); rfl)
    | with_reducible apply rateShow_kept
    | with_reducible apply State.fset_kept
    | with_reducible apply KeptO.next
    | with_reducible refine KeptO.ite (fun _ => ?_) (fun _ => ?_)
    | with_reducible refine Kept.ite (fun _ => ?_) (fun _ => ?_)

theorem execRefLost_kept {fr : Nat} {z0 : State} {s : State}  (hm : Within 0x800000000000000000000000000000000000000000000000000000000000000000000000000000040080000410006 fr) (hk : Kept fr z0 s) : KeptO fr z0 (execRefLost s) := by
  unfold execRefLost
  repeat' first
    | with_reducible assumption
    | with_reducible exact Stands.same
    | ((with_reducible refine Within.trans ?_ hm); rfl)
    | with_reducible apply State.fset_kept
    | with_reducible apply State.count_kept
    | with_reducible apply State.event_kept
    | with_reducible apply KeptO.next
    | with_reducible refine KeptO.ite (fun _ => ?_) (fun _ => ?_)
    | with_reducible refine Kept.ite (fun _ => ?_) (fun _ => ?_)

theorem execPpsCapture_kept {fr : Nat} {z0 : State} {s : State}  (hm : Within 0x1ffffffffffffffffffffffffffffffffffffffffffffffffffffffffffff00001b80000090218410023e04008200057eb8f fr) (hk : Kept fr z0 s) : KeptO fr z0 (execPpsCapture s) := by
  unfold execPpsCapture
  repeat' first
    | with_reducible assumption
    | with_reducible exact Stands.same
    | ((with_reducible refine Within.trans ?_ hm); rfl)
    | ((with_reducible refine Stands.hit (Within.trans ?_ hm)); rfl)
    | with_reducible apply State.count_kept
    | with_reducible apply takeStep_kept
    | with_reducible apply stepClear_kept
    | with_reducible apply State.event_kept
    | with_reducible apply State.fset_kept
    | with_reducible apply KeptO.next
    | with_reducible refine KeptO.ite (fun _ => ?_) (fun _ => ?_)
    | with_reducible refine Kept.ite (fun _ => ?_) (fun _ => ?_)
    | with_reducible refine Kept.foldl (fun _ _ _ => ?_) ?_
    | (fail_if_success with_reducible refine Kept.eta ?_); (with_reducible refine Kept.build ?_ rfl rfl ?_ ?_ ?_ ?_ ?_ ?_ ?_ ?_ ?_ ?_ ?_ ?_ ?_ ?_ ?_ ?_ ?_ ?_ ?_ ?_ ?_ ?_ ?_)

theorem execPpsMissing_kept {fr : Nat} {z0 : State} {s : State}  (hm : Within 0x400000000000000000000000000000000000000000000000000000000000000000000000000000040080000418006 fr) (hk : Kept fr z0 s) : KeptO fr z0 (execPpsMissing s) := by
  unfold execPpsMissing
  repeat' first
    | with_reducible assumption
    | with_reducible exact Stands.same
    | ((with_reducible refine Within.trans ?_ hm); rfl)
    | ((with_reducible refine Stands.hit (Within.trans ?_ hm)); rfl)
    | with_reducible apply State.count_kept
    | with_reducible apply State.event_kept
    | with_reducible apply KeptO.next
    | with_reducible refine KeptO.ite (fun _ => ?_) (fun _ => ?_)
    | with_reducible refine Kept.ite (fun _ => ?_) (fun _ => ?_)
    | with_reducible refine Kept.foldl (fun _ _ _ => ?_) ?_
    | (fail_if_success with_reducible refine Kept.eta ?_); (with_reducible refine Kept.build ?_ rfl rfl ?_ ?_ ?_ ?_ ?_ ?_ ?_ ?_ ?_ ?_ ?_ ?_ ?_ ?_ ?_ ?_ ?_ ?_ ?_ ?_ ?_ ?_ ?_)
    | (with_reducible refine Kept.snd (by assumption) ?_)
    | dsimp only
    | split

theorem timeLatch_kept {fr : Nat} {z0 : State} (req : Requester) {s : State}  (hm : Within 0x8000 fr) (hk : Kept fr z0 s) : Kept fr z0 (timeLatch s req) := by
  unfold timeLatch
  repeat' first
    | with_reducible assumption
    | with_reducible exact Stands.same
    | ((with_reducible refine Stands.hit (Within.trans ?_ hm)); rfl)
    | with_reducible refine Kept.ite (fun _ => ?_) (fun _ => ?_)
    | with_reducible refine Kept.foldl (fun _ _ _ => ?_) ?_
    | (fail_if_success with_reducible refine Kept.eta ?_); (with_reducible refine Kept.build ?_ rfl rfl ?_ ?_ ?_ ?_ ?_ ?_ ?_ ?_ ?_ ?_ ?_ ?_ ?_ ?_ ?_ ?_ ?_ ?_ ?_ ?_ ?_ ?_ ?_)

theorem execTimeNowLatch_kept {fr : Nat} {z0 : State} (req : Requester) {s : State}  (hm : Within 0x8004 fr) (hk : Kept fr z0 s) : KeptO fr z0 (execTimeNowLatch req s) := by
  unfold execTimeNowLatch
  repeat' first
    | with_reducible assumption
    | with_reducible exact Stands.same
    | ((with_reducible refine Within.trans ?_ hm); rfl)
    | with_reducible apply timeLatch_kept
    | with_reducible apply State.emit_kept
    | with_reducible apply KeptO.next

theorem regsReset_kept {fr : Nat} {z0 s : State} (rs : List Reg) (keep : List Nat) (hm : Within 0xfffffffffffffffffffffffffffffffff800000 fr) (h : Kept fr z0 s) :
    Kept fr z0 (regsReset s rs keep) :=
  Kept.regs _ h hm

theorem timeReset_kept {fr : Nat} {z0 : State} {s : State}  (hm : Within 0x800e00220400000e0040200d00000000000000000000000000000000000fffffffffffffffffffffffffffffffffd3e38f fr) (hk : Kept fr z0 s) : Kept fr z0 (timeReset s) := by
  unfold timeReset
  repeat' first
    | with_reducible assumption
    | with_reducible exact Stands.same
    | ((with_reducible refine Within.trans ?_ hm); rfl)
    | ((with_reducible refine Stands.hit (Within.trans ?_ hm)); rfl)
    | with_reducible apply ticketDrop_kept
    | with_reducible apply regsReset_kept
    | with_reducible apply timeJump_kept
    | with_reducible apply State.fset_kept
    | with_reducible apply State.event_kept
    | with_reducible apply evtUpdate_kept
    | with_reducible apply judgeLate_kept
    | with_reducible apply markLate_kept
    | with_reducible apply rateShow_kept
    | with_reducible refine Kept.ite (fun _ => ?_) (fun _ => ?_)
    | with_reducible refine Kept.foldl (fun _ _ _ => ?_) ?_
    | (fail_if_success with_reducible refine Kept.eta ?_); (with_reducible refine Kept.build ?_ rfl rfl ?_ ?_ ?_ ?_ ?_ ?_ ?_ ?_ ?_ ?_ ?_ ?_ ?_ ?_ ?_ ?_ ?_ ?_ ?_ ?_ ?_ ?_ ?_)
    | (with_reducible refine Kept.snd (by assumption) ?_)
    | dsimp only
    | split

end Sys2Proof.Machine
end

