-- ==== Sys2Proof/Laws/KeptSetup.lean ====
section
/-! SUPPORT. No function of Machine/RegCheck, Setup, Reads, Defaults takes back what no command takes back: one lemma each. -/

namespace Sys2Proof.Machine

theorem refuseWrite_kept {fr : Nat} {z0 : State} (r : Reg) (i : Nat) {s : State}  (hm : Within 0xfffffffffffffffffffffffffffffffffc10004 fr) (hk : Kept fr z0 s) : Kept fr z0 (refuseWrite s r i) := by
  unfold refuseWrite
  repeat' first
    | with_reducible assumption
    | with_reducible exact Stands.same
    | ((with_reducible refine Within.trans ?_ hm); rfl)
    | with_reducible apply State.fset_kept
    | with_reducible apply State.event_kept
    | with_reducible refine Kept.ite (fun _ => ?_) (fun _ => ?_)
    | with_reducible refine Kept.foldl (fun _ _ _ => ?_) ?_
    | (fail_if_success with_reducible refine Kept.eta ?_); (with_reducible refine Kept.build ?_ rfl rfl ?_ ?_ ?_ ?_ ?_ ?_ ?_ ?_ ?_ ?_ ?_ ?_ ?_ ?_ ?_ ?_ ?_ ?_ ?_ ?_ ?_ ?_ ?_)
    | (with_reducible refine Kept.snd (by assumption) ?_)
    | dsimp only
    | split
    | ((with_reducible refine Within.anyReg _ (Within.trans ?_ hm)); rfl)

theorem applyField_kept {fr : Nat} {z0 : State} (w : RegWrite) (p : Fld × FldInfo) {s : State}  (hm : Within 0xfffffffffffffffffffffffffffffffff800000 fr) (hk : Kept fr z0 s) : Kept fr z0 (applyField s w p) := by
  unfold applyField
  repeat' first
    | with_reducible assumption
    | with_reducible exact Stands.same
    | ((with_reducible refine Within.trans ?_ hm); rfl)
    | with_reducible apply State.fset_kept
    | with_reducible refine Kept.ite (fun _ => ?_) (fun _ => ?_)
    | with_reducible refine Kept.foldl (fun _ _ _ => ?_) ?_
    | (fail_if_success with_reducible refine Kept.eta ?_); (with_reducible refine Kept.build ?_ rfl rfl ?_ ?_ ?_ ?_ ?_ ?_ ?_ ?_ ?_ ?_ ?_ ?_ ?_ ?_ ?_ ?_ ?_ ?_ ?_ ?_ ?_ ?_ ?_)
    | (with_reducible refine Kept.snd (by assumption) ?_)
    | dsimp only
    | split
    | ((with_reducible refine Within.anyReg _ (Within.trans ?_ hm)); rfl)

theorem applyFields_kept {fr : Nat} {z0 : State} (w : RegWrite) {s : State}  (hm : Within 0xfffffffffffffffffffffffffffffffff800000 fr) (hk : Kept fr z0 s) : Kept fr z0 (applyFields s w) := by
  unfold applyFields
  repeat' first
    | with_reducible assumption
    | with_reducible exact Stands.same
    | with_reducible apply applyField_kept
    | with_reducible refine Kept.ite (fun _ => ?_) (fun _ => ?_)
    | with_reducible refine Kept.foldl (fun _ _ _ => ?_) ?_

theorem lockLog_kept {fr : Nat} {z0 : State} (req : Requester) (off : Nat) (kind : Nat) {s : State}  (hm : Within 0x20000000 fr) (hk : Kept fr z0 s) : Kept fr z0 (lockLog s req off kind) := by
  unfold lockLog
  repeat' first
    | with_reducible assumption
    | with_reducible exact Stands.same
    | ((with_reducible refine Within.trans ?_ hm); rfl)
    | with_reducible apply State.fset_kept

theorem setPunt_kept {fr : Nat} {z0 : State} (k : Nat) (l : Int) {s : State}  (hm : Within 0x80 fr) (hk : Kept fr z0 s) : Kept fr z0 (setPunt s k l) := by
  unfold setPunt
  repeat' first
    | with_reducible assumption
    | with_reducible exact Stands.same
    | ((with_reducible refine Stands.hit (Within.trans ?_ hm)); rfl)
    | with_reducible refine Kept.ite (fun _ => ?_) (fun _ => ?_)
    | with_reducible refine Kept.foldl (fun _ _ _ => ?_) ?_
    | (fail_if_success with_reducible refine Kept.eta ?_); (with_reducible refine Kept.build ?_ rfl rfl ?_ ?_ ?_ ?_ ?_ ?_ ?_ ?_ ?_ ?_ ?_ ?_ ?_ ?_ ?_ ?_ ?_ ?_ ?_ ?_ ?_ ?_ ?_)

theorem schedWrite_kept {fr : Nat} {z0 : State} (s0 : State) (q : Nat) (c : Nat) (r : Reg) (i : Nat) {s : State}  (hm : Within 0x200 fr) (hk : Kept fr z0 s) : Kept fr z0 (schedWrite s0 s q c r i) := by
  unfold schedWrite
  repeat' first
    | with_reducible assumption
    | with_reducible exact Stands.same
    | ((with_reducible refine Stands.hit (Within.trans ?_ hm)); rfl)
    | with_reducible apply shaperSettle_kept
    | with_reducible refine Kept.ite (fun _ => ?_) (fun _ => ?_)
    | with_reducible refine Kept.foldl (fun _ _ _ => ?_) ?_
    | (fail_if_success with_reducible refine Kept.eta ?_); (with_reducible refine Kept.build ?_ rfl rfl ?_ ?_ ?_ ?_ ?_ ?_ ?_ ?_ ?_ ?_ ?_ ?_ ?_ ?_ ?_ ?_ ?_ ?_ ?_ ?_ ?_ ?_ ?_)

theorem laneLatch_kept {fr : Nat} {z0 : State} (n : Nat) {s : State}  (hm : Within 0x4000000000000000000000000000 fr) (hk : Kept fr z0 s) : Kept fr z0 (laneLatch s n) := by
  unfold laneLatch
  repeat' first
    | with_reducible assumption
    | with_reducible exact Stands.same
    | ((with_reducible refine Within.trans ?_ hm); rfl)
    | with_reducible apply State.fset_kept

theorem laneClear_kept {fr : Nat} {z0 : State} (n : Nat) {s : State}  (hm : Within 0x200000 fr) (hk : Kept fr z0 s) : Kept fr z0 (laneClear s n) := by
  unfold laneClear
  repeat' first
    | with_reducible assumption
    | with_reducible exact Stands.same
    | ((with_reducible refine Stands.hit (Within.trans ?_ hm)); rfl)
    | with_reducible refine Kept.ite (fun _ => ?_) (fun _ => ?_)
    | with_reducible refine Kept.foldl (fun _ _ _ => ?_) ?_
    | (fail_if_success with_reducible refine Kept.eta ?_); (with_reducible refine Kept.build ?_ rfl rfl ?_ ?_ ?_ ?_ ?_ ?_ ?_ ?_ ?_ ?_ ?_ ?_ ?_ ?_ ?_ ?_ ?_ ?_ ?_ ?_ ?_ ?_ ?_)

theorem laneAdd_kept {fr : Nat} {z0 : State} (n : Nat) (b : Nat) (e : Nat) {s : State}  (hm : Within 0x200000 fr) (hk : Kept fr z0 s) : Kept fr z0 (laneAdd s n b e) := by
  unfold laneAdd
  repeat' first
    | with_reducible assumption
    | with_reducible exact Stands.same
    | ((with_reducible refine Stands.hit (Within.trans ?_ hm)); rfl)
    | with_reducible refine Kept.ite (fun _ => ?_) (fun _ => ?_)
    | with_reducible refine Kept.foldl (fun _ _ _ => ?_) ?_
    | (fail_if_success with_reducible refine Kept.eta ?_); (with_reducible refine Kept.build ?_ rfl rfl ?_ ?_ ?_ ?_ ?_ ?_ ?_ ?_ ?_ ?_ ?_ ?_ ?_ ?_ ?_ ?_ ?_ ?_ ?_ ?_ ?_ ?_ ?_)

theorem afterPort_kept {fr : Nat} {z0 : State} (s0 : State) (w : RegWrite) {s : State}  (hm : Within 0x800e00220400020e0007e00d000000000000000000000000006c000000000001b80082400200000000000008000063079f fr) (hk : Kept fr z0 s) : Kept fr z0 (afterPort s0 s w) := by
  unfold afterPort
  repeat' first
    | with_reducible assumption
    | with_reducible exact Stands.same
    | ((with_reducible refine Within.trans ?_ hm); rfl)
    | with_reducible apply adminOff_kept
    | with_reducible apply State.setPort_kept
    | with_reducible apply declareDown_kept
    | with_reducible apply linkJudge_kept
    | with_reducible apply latchCfg_kept
    | with_reducible apply flushStart_kept
    | with_reducible apply pfcJudge_kept
    | with_reducible apply State.fset_kept
    | with_reducible apply laneLatch_kept
    | with_reducible apply laneClear_kept
    | with_reducible refine Kept.ite (fun _ => ?_) (fun _ => ?_)
    | with_reducible refine Kept.foldl (fun _ _ _ => ?_) ?_
    | (with_reducible refine Kept.snd (by assumption) ?_)
    | dsimp only
    | split

theorem afterSep_kept {fr : Nat} {z0 : State} (s0 : State) (w : RegWrite) {s : State}  (hm : Within 0xa000000000000000000000000000080 fr) (hk : Kept fr z0 s) : Kept fr z0 (afterSep s0 s w) := by
  unfold afterSep
  repeat' first
    | with_reducible assumption
    | with_reducible exact Stands.same
    | ((with_reducible refine Within.trans ?_ hm); rfl)
    | with_reducible apply setPunt_kept
    | with_reducible apply State.fset_kept
    | with_reducible refine Kept.ite (fun _ => ?_) (fun _ => ?_)
    | with_reducible refine Kept.foldl (fun _ _ _ => ?_) ?_
    | (with_reducible refine Kept.snd (by assumption) ?_)
    | dsimp only
    | split

theorem carvePool_kept {fr : Nat} {z0 : State} (k : Nat) {s : State}  (hm : Within 0x1400000000000000000000000000000000 fr) (hk : Kept fr z0 s) : Kept fr z0 (carvePool s k) := by
  unfold carvePool
  repeat' first
    | with_reducible assumption
    | with_reducible exact Stands.same
    | ((with_reducible refine Within.trans ?_ hm); rfl)
    | with_reducible apply State.fset_kept

theorem afterBuf_kept {fr : Nat} {z0 : State} (s0 : State) (w : RegWrite) {s : State}  (hm : Within 0x9400000000000000000000000000000200 fr) (hk : Kept fr z0 s) : Kept fr z0 (afterBuf s0 s w) := by
  unfold afterBuf
  repeat' first
    | with_reducible assumption
    | with_reducible exact Stands.same
    | ((with_reducible refine Within.trans ?_ hm); rfl)
    | with_reducible apply carvePool_kept
    | with_reducible apply State.fset_kept
    | with_reducible apply schedWrite_kept
    | with_reducible refine Kept.ite (fun _ => ?_) (fun _ => ?_)
    | with_reducible refine Kept.foldl (fun _ _ _ => ?_) ?_
    | (with_reducible refine Kept.snd (by assumption) ?_)
    | dsimp only
    | split

theorem purgeGo_kept {fr : Nat} {z0 : State} {s : State}  (hm : Within 0x1000000080000410804 fr) (hk : Kept fr z0 s) : Kept fr z0 (purgeGo s) := by
  unfold purgeGo
  repeat' first
    | with_reducible assumption
    | with_reducible exact Stands.same
    | ((with_reducible refine Within.trans ?_ hm); rfl)
    | ((with_reducible refine Stands.hit (Within.trans ?_ hm)); rfl)
    | with_reducible apply State.event_kept
    | with_reducible apply State.fset_kept
    | with_reducible refine Kept.ite (fun _ => ?_) (fun _ => ?_)
    | with_reducible refine Kept.foldl (fun _ _ _ => ?_) ?_
    | (fail_if_success with_reducible refine Kept.eta ?_); (with_reducible refine Kept.build ?_ rfl rfl ?_ ?_ ?_ ?_ ?_ ?_ ?_ ?_ ?_ ?_ ?_ ?_ ?_ ?_ ?_ ?_ ?_ ?_ ?_ ?_ ?_ ?_ ?_)

theorem vatCutShow_kept {fr : Nat} {z0 : State} {s : State}  (hm : Within 0x8000000000000 fr) (hk : Kept fr z0 s) : Kept fr z0 (vatCutShow s) := by
  unfold vatCutShow
  repeat' first
    | with_reducible assumption
    | with_reducible exact Stands.same
    | ((with_reducible refine Within.trans ?_ hm); rfl)
    | with_reducible apply State.fset_kept

theorem afterFlow_kept {fr : Nat} {z0 : State} (s0 : State) (w : RegWrite) {s : State}  (hm : Within 0x4000000000000000000000000000000000000000000000014001000008080000414807 fr) (hk : Kept fr z0 s) : Kept fr z0 (afterFlow s0 s w) := by
  unfold afterFlow
  repeat' first
    | with_reducible assumption
    | with_reducible exact Stands.same
    | ((with_reducible refine Within.trans ?_ hm); rfl)
    | with_reducible apply setNat_kept
    | with_reducible apply vatCutShow_kept
    | with_reducible apply State.fset_kept
    | with_reducible apply sweepStart_kept
    | with_reducible apply purgeGo_kept
    | with_reducible apply rekeyBegin_kept
    | with_reducible refine Kept.ite (fun _ => ?_) (fun _ => ?_)
    | with_reducible refine Kept.foldl (fun _ _ _ => ?_) ?_
    | (with_reducible refine Kept.snd (by assumption) ?_)
    | dsimp only
    | split

theorem afterTime_kept {fr : Nat} {z0 : State} (w : RegWrite) {s : State}  (hm : Within 0x440000000008000 fr) (hk : Kept fr z0 s) : Kept fr z0 (afterTime s w) := by
  unfold afterTime
  repeat' first
    | with_reducible assumption
    | with_reducible exact Stands.same
    | ((with_reducible refine Within.trans ?_ hm); rfl)
    | ((with_reducible refine Stands.hit (Within.trans ?_ hm)); rfl)
    | with_reducible apply State.fset_kept
    | with_reducible apply rateShow_kept
    | with_reducible apply setSlew_kept
    | with_reducible refine Kept.ite (fun _ => ?_) (fun _ => ?_)
    | with_reducible refine Kept.foldl (fun _ _ _ => ?_) ?_
    | (fail_if_success with_reducible refine Kept.eta ?_); (with_reducible refine Kept.build ?_ rfl rfl ?_ ?_ ?_ ?_ ?_ ?_ ?_ ?_ ?_ ?_ ?_ ?_ ?_ ?_ ?_ ?_ ?_ ?_ ?_ ?_ ?_ ?_ ?_)
    | (with_reducible refine Kept.snd (by assumption) ?_)
    | dsimp only
    | split

theorem afterWhey_kept {fr : Nat} {z0 : State} (s0 : State) (w : RegWrite) {s : State}  (hm : Within 0x1ffffffffffffffffffffffffffffffffffffffffffffffffffffffffffff00001b800000906080000000000080000470b8f fr) (hk : Kept fr z0 s) : Kept fr z0 (afterWhey s0 s w) := by
  unfold afterWhey
  repeat' first
    | with_reducible assumption
    | with_reducible exact Stands.same
    | ((with_reducible refine Within.trans ?_ hm); rfl)
    | ((with_reducible refine Stands.hit (Within.trans ?_ hm)); rfl)
    | with_reducible apply wheyClose_kept
    | with_reducible apply sendTemplates_kept
    | with_reducible apply snapRequest_kept
    | with_reducible apply State.fset_kept
    | with_reducible refine Kept.ite (fun _ => ?_) (fun _ => ?_)
    | with_reducible refine Kept.foldl (fun _ _ _ => ?_) ?_
    | (fail_if_success with_reducible refine Kept.eta ?_); (with_reducible refine Kept.build ?_ rfl rfl ?_ ?_ ?_ ?_ ?_ ?_ ?_ ?_ ?_ ?_ ?_ ?_ ?_ ?_ ?_ ?_ ?_ ?_ ?_ ?_ ?_ ?_ ?_)
    | (with_reducible refine Kept.snd (by assumption) ?_)
    | dsimp only
    | split

theorem ringStart_kept {fr : Nat} {z0 : State} (set : Nat) (k : Nat) {s : State}  (hm : Within 0x100000000000000000000000000000000115108 fr) (hk : Kept fr z0 s) : Kept fr z0 (ringStart s set k) := by
  unfold ringStart
  repeat' first
    | with_reducible assumption
    | with_reducible exact Stands.same
    | ((with_reducible refine Within.trans ?_ hm); rfl)
    | with_reducible apply cmdRelabel_kept
    | with_reducible apply injRelabel_kept
    | with_reducible apply State.setRing_kept
    | with_reducible apply State.fset_kept
    | with_reducible refine Kept.ite (fun _ => ?_) (fun _ => ?_)

theorem setSwitch_kept {fr : Nat} {z0 : State} (s0 : State) (set : Nat) {s : State}  (hm : Within 0x2040000000000000000000000000000000000000000000000000000000000000000000000000000480000410006 fr) (hk : Kept fr z0 s) : Kept fr z0 (setSwitch s0 s set) := by
  unfold setSwitch
  repeat' first
    | with_reducible assumption
    | with_reducible exact Stands.same
    | ((with_reducible refine Stands.hit (Within.trans ?_ hm)); rfl)
    | with_reducible apply hostFlush_kept
    | with_reducible refine Kept.ite (fun _ => ?_) (fun _ => ?_)
    | with_reducible refine Kept.foldl (fun _ _ _ => ?_) ?_
    | (fail_if_success with_reducible refine Kept.eta ?_); (with_reducible refine Kept.build ?_ rfl rfl ?_ ?_ ?_ ?_ ?_ ?_ ?_ ?_ ?_ ?_ ?_ ?_ ?_ ?_ ?_ ?_ ?_ ?_ ?_ ?_ ?_ ?_ ?_)

theorem ringEnd_kept {fr : Nat} {z0 : State} (set : Nat) (k : Nat) {s : State}  (hm : Within 0x2040000000000000000000000000000000000000000000000000100000000000000000000000000480000410006 fr) (hk : Kept fr z0 s) : Kept fr z0 (ringEnd s set k) := by
  unfold ringEnd
  repeat' first
    | with_reducible assumption
    | with_reducible exact Stands.same
    | ((with_reducible refine Within.trans ?_ hm); rfl)
    | with_reducible apply State.fset_kept
    | with_reducible apply State.setRing_kept
    | with_reducible apply hostFlush_kept

theorem afterHost_kept {fr : Nat} {z0 : State} (s0 : State) (w : RegWrite) {s : State}  (hm : Within 0x204000000000000000000000000000000000000000000000000010000000000000000000000000048001851510e fr) (hk : Kept fr z0 s) : Kept fr z0 (afterHost s0 s w) := by
  unfold afterHost
  repeat' first
    | with_reducible assumption
    | with_reducible exact Stands.same
    | ((with_reducible refine Within.trans ?_ hm); rfl)
    | with_reducible apply State.fset_kept
    | with_reducible apply setMessage_kept
    | with_reducible apply ringStart_kept
    | with_reducible apply ringEnd_kept
    | with_reducible apply setSwitch_kept
    | with_reducible refine Kept.ite (fun _ => ?_) (fun _ => ?_)
    | with_reducible refine Kept.foldl (fun _ _ _ => ?_) ?_
    | (with_reducible refine Kept.snd (by assumption) ?_)
    | dsimp only
    | split

theorem acceptWrite_kept {fr : Nat} {z0 : State} (w : RegWrite) {s0 : State}  (hm : Within 0x1ffffffffffffffffffffffffffffffffffffffffffffffffffffffffffffffffffffffffffffffffffffffffffffff7df9f fr) (hk : Kept fr z0 s0) : Kept fr z0 (acceptWrite s0 w) := by
  unfold acceptWrite
  repeat' first
    | with_reducible assumption
    | with_reducible exact Stands.same
    | ((with_reducible refine Within.trans ?_ hm); rfl)
    | with_reducible apply applyFields_kept
    | with_reducible apply evtUpdate_kept
    | with_reducible apply afterHost_kept
    | with_reducible apply afterWhey_kept
    | with_reducible apply afterTime_kept
    | with_reducible apply afterFlow_kept
    | with_reducible apply afterBuf_kept
    | with_reducible apply afterSep_kept
    | with_reducible apply afterPort_kept

theorem tallyStage_kept {fr : Nat} {z0 : State} (i : Nat) (v : Nat) (mask : Nat) {s : State}  (hm : Within 0x100000000000000080000450004 fr) (hk : Kept fr z0 s) : Kept fr z0 (tallyStage s i v mask) := by
  unfold tallyStage
  repeat' first
    | with_reducible assumption
    | with_reducible exact Stands.same
    | ((with_reducible refine Within.trans ?_ hm); rfl)
    | ((with_reducible refine Stands.hit (Within.trans ?_ hm)); rfl)
    | with_reducible apply State.event_kept
    | with_reducible refine Kept.ite (fun _ => ?_) (fun _ => ?_)
    | with_reducible refine Kept.foldl (fun _ _ _ => ?_) ?_
    | (fail_if_success with_reducible refine Kept.eta ?_); (with_reducible refine Kept.build ?_ rfl rfl ?_ ?_ ?_ ?_ ?_ ?_ ?_ ?_ ?_ ?_ ?_ ?_ ?_ ?_ ?_ ?_ ?_ ?_ ?_ ?_ ?_ ?_ ?_)

theorem regStore_kept {fr : Nat} {z0 : State} (req : Requester) (r : Reg) (i : Nat) (off : Nat) (v : Nat) (mask : Nat) {s : State}  (hm : Within 0x1ffffffffffffffffffffffffffffffffffffffffffffffffffffffffffffffffffffffffffffffffffffffffffffff7ff9f fr) (hk : Kept fr z0 s) : Kept fr z0 (regStore s req r i off v mask) := by
  unfold regStore
  repeat' first
    | with_reducible assumption
    | with_reducible exact Stands.same
    | ((with_reducible refine Within.trans ?_ hm); rfl)
    | with_reducible apply lockLog_kept
    | with_reducible apply State.event_kept
    | with_reducible apply evtUpdate_kept
    | with_reducible apply timeCtlWrite_kept
    | with_reducible apply trigCtlWrite_kept
    | with_reducible apply tallyStage_kept
    | with_reducible apply refuseWrite_kept
    | with_reducible apply acceptWrite_kept
    | with_reducible refine Kept.ite (fun _ => ?_) (fun _ => ?_)
    | with_reducible refine Kept.foldl (fun _ _ _ => ?_) ?_
    | (with_reducible refine Kept.snd (by assumption) ?_)
    | dsimp only
    | split

theorem gather_kept {fr : Nat} {z0 : State} (req : Requester) (r : Reg) (i : Nat) (last : Nat) {s : State}  (hm : Within 0x200000 fr) (hk : Kept fr z0 s) : Kept fr z0 (gather s req r i last).2 := by
  unfold gather
  repeat' first
    | with_reducible assumption
    | with_reducible exact Stands.same
    | ((with_reducible refine Stands.hit (Within.trans ?_ hm)); rfl)
    | with_reducible refine Kept.ite (fun _ => ?_) (fun _ => ?_)
    | with_reducible refine Kept.foldl (fun _ _ _ => ?_) ?_
    | (fail_if_success with_reducible refine Kept.eta ?_); (with_reducible refine Kept.build ?_ rfl rfl ?_ ?_ ?_ ?_ ?_ ?_ ?_ ?_ ?_ ?_ ?_ ?_ ?_ ?_ ?_ ?_ ?_ ?_ ?_ ?_ ?_ ?_ ?_)

theorem wordWrite_kept {fr : Nat} {z0 : State} (req : Requester) (r : Reg) (i : Nat) (word : Nat) (off : Nat) (v : Nat) (mask : Nat) {s : State}  (hm : Within 0x1ffffffffffffffffffffffffffffffffffffffffffffffffffffffffffffffffffffffffffffffffffffffffffffff7ff9f fr) (hk : Kept fr z0 s) : Kept fr z0 (wordWrite s req r i word off v mask) := by
  unfold wordWrite
  repeat' first
    | with_reducible assumption
    | with_reducible exact Stands.same
    | ((with_reducible refine Within.trans ?_ hm); rfl)
    | ((with_reducible refine Stands.hit (Within.trans ?_ hm)); rfl)
    | with_reducible apply gather_kept
    | with_reducible apply regStore_kept
    | with_reducible refine Kept.ite (fun _ => ?_) (fun _ => ?_)
    | with_reducible refine Kept.foldl (fun _ _ _ => ?_) ?_
    | with_reducible refine Kept.foldlSnd (fun _ _ _ => ?_) ?_
    | with_reducible refine Kept.iteSnd (fun _ => ?_) (fun _ => ?_)
    | (fail_if_success with_reducible refine Kept.eta ?_); (with_reducible refine Kept.build ?_ rfl rfl ?_ ?_ ?_ ?_ ?_ ?_ ?_ ?_ ?_ ?_ ?_ ?_ ?_ ?_ ?_ ?_ ?_ ?_ ?_ ?_ ?_ ?_ ?_)

theorem reg8_kept {fr : Nat} {z0 : State} (req : Requester) (r : Reg) (i : Nat) (word : Nat) (v : Nat) {s : State}  (hm : Within 0x1ffffffffffffffffffffffffffffffffffffffffffffffffffffffffffffffffffffffffffffffffffffffffffffff7ff9f fr) (hk : Kept fr z0 s) : Kept fr z0 (reg8 s req r i word v) := by
  unfold reg8
  repeat' first
    | with_reducible assumption
    | with_reducible exact Stands.same
    | with_reducible apply wordWrite_kept
    | with_reducible refine Kept.ite (fun _ => ?_) (fun _ => ?_)

theorem badAccess_kept {fr : Nat} {z0 : State} (req : Requester) (off : Nat) {s : State}  (hm : Within 0x80028410004 fr) (hk : Kept fr z0 s) : Kept fr z0 (badAccess s req off) := by
  unfold badAccess
  repeat' first
    | with_reducible assumption
    | with_reducible exact Stands.same
    | ((with_reducible refine Within.trans ?_ hm); rfl)
    | with_reducible apply lockLog_kept
    | with_reducible apply State.event_kept

theorem tenantWrite_kept {fr : Nat} {z0 : State} (req : Requester) (off : Nat) (n : Nat) (v : Nat) {s : State}  (hm : Within 0x1ffffffffffffffffffffffffffffffffffffffffffffffffffffffffffffffffffffffffffffffffffffffffffffff7ff9f fr) (hk : Kept fr z0 s) : Kept fr z0 (tenantWrite s req off n v) := by
  unfold tenantWrite
  repeat' first
    | with_reducible assumption
    | with_reducible exact Stands.same
    | with_reducible apply regStore_kept
    | with_reducible refine Kept.ite (fun _ => ?_) (fun _ => ?_)
    | with_reducible refine Kept.foldl (fun _ _ _ => ?_) ?_

theorem busWrite_kept {fr : Nat} {z0 : State} (req : Requester) (bar : Nat) (off : Nat) (size : Nat) (v : Nat) {s : State}  (hm : Within 0x1ffffffffffffffffffffffffffffffffffffffffffffffffffffffffffffffffffffffffffffffffffffffffffffff7ff9f fr) (hk : Kept fr z0 s) : Kept fr z0 (busWrite s req bar off size v) := by
  unfold busWrite
  repeat' first
    | with_reducible assumption
    | with_reducible exact Stands.same
    | ((with_reducible refine Stands.hit (Within.trans ?_ hm)); rfl)
    | with_reducible apply wordWrite_kept
    | with_reducible refine Kept.ite (fun _ => ?_) (fun _ => ?_)
    | with_reducible refine Kept.foldl (fun _ _ _ => ?_) ?_
    | (fail_if_success with_reducible refine Kept.eta ?_); (with_reducible refine Kept.build ?_ rfl rfl ?_ ?_ ?_ ?_ ?_ ?_ ?_ ?_ ?_ ?_ ?_ ?_ ?_ ?_ ?_ ?_ ?_ ?_ ?_ ?_ ?_ ?_ ?_)
    | (with_reducible refine Kept.snd (by assumption) ?_)
    | dsimp only
    | split

theorem doorbell_kept {fr : Nat} {z0 : State} (set : Nat) (k : Nat) (size : Nat) (v : Nat) {s : State}  (hm : Within 0x8e040000000000000000000000000000000000000000000000000900000000000000000000000000480000410006 fr) (hk : Kept fr z0 s) : Kept fr z0 (doorbell s set k size v) := by
  unfold doorbell
  repeat' first
    | with_reducible assumption
    | with_reducible exact Stands.same
    | ((with_reducible refine Within.trans ?_ hm); rfl)
    | with_reducible apply State.count_kept
    | with_reducible apply State.setRing_kept
    | with_reducible apply hostFlush_kept
    | with_reducible apply ringStop_kept
    | with_reducible refine Kept.ite (fun _ => ?_) (fun _ => ?_)

theorem bar2Write_kept {fr : Nat} {z0 : State} (fn : Nat) (off : Nat) (size : Nat) (v : Nat) {s : State}  (hm : Within 0x1ffffffffffffffffffffffffffffffffffffffffffffffffffffffffffffffffffffffffffffffffffffffffffffff7ff9f fr) (hk : Kept fr z0 s) : Kept fr z0 (bar2Write s fn off size v) := by
  unfold bar2Write
  repeat' first
    | with_reducible assumption
    | with_reducible exact Stands.same
    | ((with_reducible refine Within.trans ?_ hm); rfl)
    | with_reducible apply doorbell_kept
    | with_reducible apply busWrite_kept
    | with_reducible refine Kept.ite (fun _ => ?_) (fun _ => ?_)
    | with_reducible refine Kept.foldl (fun _ _ _ => ?_) ?_
    | (with_reducible refine Kept.snd (by assumption) ?_)
    | dsimp only
    | split

theorem bar0Write_kept {fr : Nat} {z0 : State} (req : Requester) (off : Nat) (size : Nat) (v : Nat) {s : State}  (hm : Within 0x1ffffffffffffffffffffffffffffffffffffffffffffffffffffffffffffffffffffffffffffffffffffffffffffff7ff9f fr) (hk : Kept fr z0 s) : Kept fr z0 (bar0Write s req off size v) := by
  unfold bar0Write
  repeat' first
    | with_reducible assumption
    | with_reducible exact Stands.same
    | ((with_reducible refine Within.trans ?_ hm); rfl)
    | with_reducible apply badAccess_kept
    | with_reducible apply tenantWrite_kept
    | with_reducible apply busWrite_kept
    | with_reducible refine Kept.ite (fun _ => ?_) (fun _ => ?_)

theorem execRegisterWrite_kept {fr : Nat} {z0 : State} (req : Requester) (bar : Nat) (offset : Nat) (size : Nat) (value : Word) {s : State}  (hm : Within 0x1ffffffffffffffffffffffffffffffffffffffffffffffffffffffffffffffffffffffffffffffffffffffffffffff7ff9f fr) (hk : Kept fr z0 s) : KeptO fr z0 (execRegisterWrite req bar offset size value s) := by
  unfold execRegisterWrite
  repeat' first
    | with_reducible assumption
    | with_reducible exact Stands.same
    | with_reducible apply bar0Write_kept
    | with_reducible apply bar2Write_kept
    | with_reducible apply KeptO.next
    | with_reducible refine KeptO.ite (fun _ => ?_) (fun _ => ?_)
    | with_reducible refine Kept.ite (fun _ => ?_) (fun _ => ?_)

theorem execOctetLayoutWrite_kept {fr : Nat} {z0 : State} (req : Requester) (octet : Nat) (value : Word) {s : State}  (hm : Within 0x1ffffffffffffffffffffffffffffffffffffffffffffffffffffffffffffffffffffffffffffffffffffffffffffff7ff9f fr) (hk : Kept fr z0 s) : KeptO fr z0 (execOctetLayoutWrite req octet value s) := by
  unfold execOctetLayoutWrite
  repeat' first
    | with_reducible assumption
    | with_reducible exact Stands.same
    | with_reducible apply reg8_kept
    | with_reducible apply KeptO.next

theorem execPortCfgWrite_kept {fr : Nat} {z0 : State} (req : Requester) (port : Nat) (value : Word) {s : State}  (hm : Within 0x1ffffffffffffffffffffffffffffffffffffffffffffffffffffffffffffffffffffffffffffffffffffffffffffff7ff9f fr) (hk : Kept fr z0 s) : KeptO fr z0 (execPortCfgWrite req port value s) := by
  unfold execPortCfgWrite
  repeat' first
    | with_reducible assumption
    | with_reducible exact Stands.same
    | with_reducible apply reg8_kept
    | with_reducible apply KeptO.next

theorem execPortAdminDisable_kept {fr : Nat} {z0 : State} (req : Requester) (port : Nat) {s : State}  (hm : Within 0x1ffffffffffffffffffffffffffffffffffffffffffffffffffffffffffffffffffffffffffffffffffffffffffffff7ff9f fr) (hk : Kept fr z0 s) : KeptO fr z0 (execPortAdminDisable req port s) := by
  unfold execPortAdminDisable
  repeat' first
    | with_reducible assumption
    | with_reducible exact Stands.same
    | with_reducible apply reg8_kept
    | with_reducible apply KeptO.next

theorem execPortHoldWrite_kept {fr : Nat} {z0 : State} (req : Requester) (port : Nat) (value : Word) {s : State}  (hm : Within 0x1ffffffffffffffffffffffffffffffffffffffffffffffffffffffffffffffffffffffffffffffffffffffffffffff7ff9f fr) (hk : Kept fr z0 s) : KeptO fr z0 (execPortHoldWrite req port value s) := by
  unfold execPortHoldWrite
  repeat' first
    | with_reducible assumption
    | with_reducible exact Stands.same
    | with_reducible apply reg8_kept
    | with_reducible apply KeptO.next

theorem execSelEntryWrite_kept {fr : Nat} {z0 : State} (req : Requester) (entry : Nat) (value : Word) {s : State}  (hm : Within 0x1ffffffffffffffffffffffffffffffffffffffffffffffffffffffffffffffffffffffffffffffffffffffffffffff7ff9f fr) (hk : Kept fr z0 s) : KeptO fr z0 (execSelEntryWrite req entry value s) := by
  unfold execSelEntryWrite
  repeat' first
    | with_reducible assumption
    | with_reducible exact Stands.same
    | with_reducible apply reg8_kept
    | with_reducible apply KeptO.next

theorem execProfileWrite_kept {fr : Nat} {z0 : State} (req : Requester) (profile : Nat) (value : Word) {s : State}  (hm : Within 0x1ffffffffffffffffffffffffffffffffffffffffffffffffffffffffffffffffffffffffffffffffffffffffffffff7ff9f fr) (hk : Kept fr z0 s) : KeptO fr z0 (execProfileWrite req profile value s) := by
  unfold execProfileWrite
  repeat' first
    | with_reducible assumption
    | with_reducible exact Stands.same
    | with_reducible apply reg8_kept
    | with_reducible apply KeptO.next

theorem execLbKeyApply_kept {fr : Nat} {z0 : State} (req : Requester) {s : State}  (hm : Within 0x1ffffffffffffffffffffffffffffffffffffffffffffffffffffffffffffffffffffffffffffffffffffffffffffff7ff9f fr) (hk : Kept fr z0 s) : KeptO fr z0 (execLbKeyApply req s) := by
  unfold execLbKeyApply
  repeat' first
    | with_reducible assumption
    | with_reducible exact Stands.same
    | with_reducible apply reg8_kept
    | with_reducible apply KeptO.next

theorem execLbKeySwitch_kept {fr : Nat} {z0 : State} {s : State}  (hm : Within 0x2000000000000000000000000200000 fr) (hk : Kept fr z0 s) : KeptO fr z0 (execLbKeySwitch s) := by
  unfold execLbKeySwitch
  repeat' first
    | with_reducible assumption
    | with_reducible exact Stands.same
    | ((with_reducible refine Within.trans ?_ hm); rfl)
    | ((with_reducible refine Stands.hit (Within.trans ?_ hm)); rfl)
    | with_reducible apply State.fset_kept
    | with_reducible apply KeptO.next
    | with_reducible refine KeptO.ite (fun _ => ?_) (fun _ => ?_)
    | with_reducible refine Kept.ite (fun _ => ?_) (fun _ => ?_)
    | with_reducible refine Kept.foldl (fun _ _ _ => ?_) ?_
    | (fail_if_success with_reducible refine Kept.eta ?_); (with_reducible refine Kept.build ?_ rfl rfl ?_ ?_ ?_ ?_ ?_ ?_ ?_ ?_ ?_ ?_ ?_ ?_ ?_ ?_ ?_ ?_ ?_ ?_ ?_ ?_ ?_ ?_ ?_)

theorem execIndirWrite_kept {fr : Nat} {z0 : State} (req : Requester) (table : Nat) (entry : Nat) (value : Word) {s : State}  (hm : Within 0x1ffffffffffffffffffffffffffffffffffffffffffffffffffffffffffffffffffffffffffffffffffffffffffffff7ff9f fr) (hk : Kept fr z0 s) : KeptO fr z0 (execIndirWrite req table entry value s) := by
  unfold execIndirWrite
  repeat' first
    | with_reducible assumption
    | with_reducible exact Stands.same
    | with_reducible apply reg8_kept
    | with_reducible apply KeptO.next
    | with_reducible refine KeptO.ite (fun _ => ?_) (fun _ => ?_)
    | with_reducible refine Kept.ite (fun _ => ?_) (fun _ => ?_)

theorem execPoolCarveWrite_kept {fr : Nat} {z0 : State} (req : Requester) (value : Word) {s : State}  (hm : Within 0x1ffffffffffffffffffffffffffffffffffffffffffffffffffffffffffffffffffffffffffffffffffffffffffffff7ff9f fr) (hk : Kept fr z0 s) : KeptO fr z0 (execPoolCarveWrite req value s) := by
  unfold execPoolCarveWrite
  repeat' first
    | with_reducible assumption
    | with_reducible exact Stands.same
    | with_reducible apply reg8_kept
    | with_reducible apply KeptO.next

theorem execPoolQuotaWrite_kept {fr : Nat} {z0 : State} (req : Requester) (requester : Nat) (pool : Nat) (value : Word) {s : State}  (hm : Within 0x1ffffffffffffffffffffffffffffffffffffffffffffffffffffffffffffffffffffffffffffffffffffffffffffff7ff9f fr) (hk : Kept fr z0 s) : KeptO fr z0 (execPoolQuotaWrite req requester pool value s) := by
  unfold execPoolQuotaWrite
  repeat' first
    | with_reducible assumption
    | with_reducible exact Stands.same
    | with_reducible apply reg8_kept
    | with_reducible apply KeptO.next
    | with_reducible refine KeptO.ite (fun _ => ?_) (fun _ => ?_)
    | with_reducible refine Kept.ite (fun _ => ?_) (fun _ => ?_)

theorem execVatCfgWrite_kept {fr : Nat} {z0 : State} (req : Requester) (value : Word) {s : State}  (hm : Within 0x1ffffffffffffffffffffffffffffffffffffffffffffffffffffffffffffffffffffffffffffffffffffffffffffff7ff9f fr) (hk : Kept fr z0 s) : KeptO fr z0 (execVatCfgWrite req value s) := by
  unfold execVatCfgWrite
  repeat' first
    | with_reducible assumption
    | with_reducible exact Stands.same
    | with_reducible apply reg8_kept
    | with_reducible apply KeptO.next

theorem execStrBlockCfgWrite_kept {fr : Nat} {z0 : State} (req : Requester) (value : Word) {s : State}  (hm : Within 0x1ffffffffffffffffffffffffffffffffffffffffffffffffffffffffffffffffffffffffffffffffffffffffffffff7ff9f fr) (hk : Kept fr z0 s) : KeptO fr z0 (execStrBlockCfgWrite req value s) := by
  unfold execStrBlockCfgWrite
  repeat' first
    | with_reducible assumption
    | with_reducible exact Stands.same
    | with_reducible apply reg8_kept
    | with_reducible apply KeptO.next

theorem execStrLkpWrite_kept {fr : Nat} {z0 : State} (req : Requester) (profile : Nat) (value : Word) {s : State}  (hm : Within 0x1ffffffffffffffffffffffffffffffffffffffffffffffffffffffffffffffffffffffffffffffffffffffffffffff7ff9f fr) (hk : Kept fr z0 s) : KeptO fr z0 (execStrLkpWrite req profile value s) := by
  unfold execStrLkpWrite
  repeat' first
    | with_reducible assumption
    | with_reducible exact Stands.same
    | with_reducible apply reg8_kept
    | with_reducible apply KeptO.next

theorem execPurgeStart_kept {fr : Nat} {z0 : State} (req : Requester) (addr : Nat) {s : State}  (hm : Within 0x1ffffffffffffffffffffffffffffffffffffffffffffffffffffffffffffffffffffffffffffffffffffffffffffff7ff9f fr) (hk : Kept fr z0 s) : KeptO fr z0 (execPurgeStart req addr s) := by
  unfold execPurgeStart
  repeat' first
    | with_reducible assumption
    | with_reducible exact Stands.same
    | with_reducible apply reg8_kept
    | with_reducible apply KeptO.next

theorem execSweepNow_kept {fr : Nat} {z0 : State} (req : Requester) {s : State}  (hm : Within 0x1ffffffffffffffffffffffffffffffffffffffffffffffffffffffffffffffffffffffffffffffffffffffffffffff7ff9f fr) (hk : Kept fr z0 s) : KeptO fr z0 (execSweepNow req s) := by
  unfold execSweepNow
  repeat' first
    | with_reducible assumption
    | with_reducible exact Stands.same
    | with_reducible apply reg8_kept
    | with_reducible apply KeptO.next

theorem execRekeyStart_kept {fr : Nat} {z0 : State} (req : Requester) {s : State}  (hm : Within 0x1ffffffffffffffffffffffffffffffffffffffffffffffffffffffffffffffffffffffffffffffffffffffffffffff7ff9f fr) (hk : Kept fr z0 s) : KeptO fr z0 (execRekeyStart req s) := by
  unfold execRekeyStart
  repeat' first
    | with_reducible assumption
    | with_reducible exact Stands.same
    | with_reducible apply reg8_kept
    | with_reducible apply KeptO.next

theorem execDoorbellWrite_kept {fr : Nat} {z0 : State} (set : Nat) (ring : Nat) (size : Nat) (value : BitVec 32) {s : State}  (hm : Within 0x8e040000000000000000000000000000000000000000000000000900000000000000000000000000480000410006 fr) (hk : Kept fr z0 s) : KeptO fr z0 (execDoorbellWrite set ring size value s) := by
  unfold execDoorbellWrite
  repeat' first
    | with_reducible assumption
    | with_reducible exact Stands.same
    | with_reducible apply doorbell_kept
    | with_reducible apply KeptO.next

theorem execEvtRearmWrite_kept {fr : Nat} {z0 : State} (req : Requester) (value : Word) {s : State}  (hm : Within 0x1ffffffffffffffffffffffffffffffffffffffffffffffffffffffffffffffffffffffffffffffffffffffffffffff7ff9f fr) (hk : Kept fr z0 s) : KeptO fr z0 (execEvtRearmWrite req value s) := by
  unfold execEvtRearmWrite
  repeat' first
    | with_reducible assumption
    | with_reducible exact Stands.same
    | with_reducible apply reg8_kept
    | with_reducible apply KeptO.next

theorem execRingEnable_kept {fr : Nat} {z0 : State} (set : Nat) (ring : Nat) (value : Word) {s : State}  (hm : Within 0x1ffffffffffffffffffffffffffffffffffffffffffffffffffffffffffffffffffffffffffffffffffffffffffffff7ff9f fr) (hk : Kept fr z0 s) : KeptO fr z0 (execRingEnable set ring value s) := by
  unfold execRingEnable
  repeat' first
    | with_reducible assumption
    | with_reducible exact Stands.same
    | with_reducible apply reg8_kept
    | with_reducible apply KeptO.next
    | with_reducible refine KeptO.ite (fun _ => ?_) (fun _ => ?_)
    | with_reducible refine Kept.ite (fun _ => ?_) (fun _ => ?_)

theorem execRingDisable_kept {fr : Nat} {z0 : State} (set : Nat) (ring : Nat) (value : Word) {s : State}  (hm : Within 0x1ffffffffffffffffffffffffffffffffffffffffffffffffffffffffffffffffffffffffffffffffffffffffffffff7ff9f fr) (hk : Kept fr z0 s) : KeptO fr z0 (execRingDisable set ring value s) := by
  unfold execRingDisable
  repeat' first
    | with_reducible assumption
    | with_reducible exact Stands.same
    | with_reducible apply reg8_kept
    | with_reducible apply KeptO.next
    | with_reducible refine KeptO.ite (fun _ => ?_) (fun _ => ?_)
    | with_reducible refine Kept.ite (fun _ => ?_) (fun _ => ?_)

theorem execRsetOwnerWrite_kept {fr : Nat} {z0 : State} (req : Requester) (set : Nat) (value : Word) {s : State}  (hm : Within 0x1ffffffffffffffffffffffffffffffffffffffffffffffffffffffffffffffffffffffffffffffffffffffffffffff7ff9f fr) (hk : Kept fr z0 s) : KeptO fr z0 (execRsetOwnerWrite req set value s) := by
  unfold execRsetOwnerWrite
  repeat' first
    | with_reducible assumption
    | with_reducible exact Stands.same
    | with_reducible apply reg8_kept
    | with_reducible apply KeptO.next

theorem execTimeRateWrite_kept {fr : Nat} {z0 : State} (req : Requester) (value : Word) {s : State}  (hm : Within 0x1ffffffffffffffffffffffffffffffffffffffffffffffffffffffffffffffffffffffffffffffffffffffffffffff7ff9f fr) (hk : Kept fr z0 s) : KeptO fr z0 (execTimeRateWrite req value s) := by
  unfold execTimeRateWrite
  repeat' first
    | with_reducible assumption
    | with_reducible exact Stands.same
    | with_reducible apply reg8_kept
    | with_reducible apply KeptO.next

theorem execTimeSlewWrite_kept {fr : Nat} {z0 : State} (req : Requester) (value : Word) {s : State}  (hm : Within 0x1ffffffffffffffffffffffffffffffffffffffffffffffffffffffffffffffffffffffffffffffffffffffffffffff7ff9f fr) (hk : Kept fr z0 s) : KeptO fr z0 (execTimeSlewWrite req value s) := by
  unfold execTimeSlewWrite
  repeat' first
    | with_reducible assumption
    | with_reducible exact Stands.same
    | with_reducible apply reg8_kept
    | with_reducible apply KeptO.next

theorem execTimeStep_kept {fr : Nat} {z0 : State} (req : Requester) (atPps : Bool) {s : State}  (hm : Within 0x1ffffffffffffffffffffffffffffffffffffffffffffffffffffffffffffffffffffffffffffffffffffffffffffff7ff9f fr) (hk : Kept fr z0 s) : KeptO fr z0 (execTimeStep req atPps s) := by
  unfold execTimeStep
  repeat' first
    | with_reducible assumption
    | with_reducible exact Stands.same
    | with_reducible apply reg8_kept
    | with_reducible apply KeptO.next

theorem execReepoch_kept {fr : Nat} {z0 : State} (req : Requester) {s : State}  (hm : Within 0x1ffffffffffffffffffffffffffffffffffffffffffffffffffffffffffffffffffffffffffffffffffffffffffffff7ff9f fr) (hk : Kept fr z0 s) : KeptO fr z0 (execReepoch req s) := by
  unfold execReepoch
  repeat' first
    | with_reducible assumption
    | with_reducible exact Stands.same
    | with_reducible apply reg8_kept
    | with_reducible apply KeptO.next

theorem execRefSelectWrite_kept {fr : Nat} {z0 : State} (req : Requester) (value : Word) {s : State}  (hm : Within 0x1ffffffffffffffffffffffffffffffffffffffffffffffffffffffffffffffffffffffffffffffffffffffffffffff7ff9f fr) (hk : Kept fr z0 s) : KeptO fr z0 (execRefSelectWrite req value s) := by
  unfold execRefSelectWrite
  repeat' first
    | with_reducible assumption
    | with_reducible exact Stands.same
    | with_reducible apply reg8_kept
    | with_reducible apply KeptO.next

theorem execTriggerArm_kept {fr : Nat} {z0 : State} (req : Requester) (unit : Nat) (value : Word) {s : State}  (hm : Within 0x1ffffffffffffffffffffffffffffffffffffffffffffffffffffffffffffffffffffffffffffffffffffffffffffff7ff9f fr) (hk : Kept fr z0 s) : KeptO fr z0 (execTriggerArm req unit value s) := by
  unfold execTriggerArm
  repeat' first
    | with_reducible assumption
    | with_reducible exact Stands.same
    | with_reducible apply reg8_kept
    | with_reducible apply KeptO.next

theorem execWheyEpochNow_kept {fr : Nat} {z0 : State} (req : Requester) {s : State}  (hm : Within 0x1ffffffffffffffffffffffffffffffffffffffffffffffffffffffffffffffffffffffffffffffffffffffffffffff7ff9f fr) (hk : Kept fr z0 s) : KeptO fr z0 (execWheyEpochNow req s) := by
  unfold execWheyEpochNow
  repeat' first
    | with_reducible assumption
    | with_reducible exact Stands.same
    | with_reducible apply reg8_kept
    | with_reducible apply KeptO.next

theorem execIpfixEnable_kept {fr : Nat} {z0 : State} (req : Requester) (exporter : Nat) (value : Word) {s : State}  (hm : Within 0x1ffffffffffffffffffffffffffffffffffffffffffffffffffffffffffffffffffffffffffffffffffffffffffffff7ff9f fr) (hk : Kept fr z0 s) : KeptO fr z0 (execIpfixEnable req exporter value s) := by
  unfold execIpfixEnable
  repeat' first
    | with_reducible assumption
    | with_reducible exact Stands.same
    | with_reducible apply reg8_kept
    | with_reducible apply KeptO.next

theorem execQwmWrite_kept {fr : Nat} {z0 : State} (req : Requester) (port : Nat) (cls : Nat) (value : Word) {s : State}  (hm : Within 0x1ffffffffffffffffffffffffffffffffffffffffffffffffffffffffffffffffffffffffffffffffffffffffffffff7ff9f fr) (hk : Kept fr z0 s) : KeptO fr z0 (execQwmWrite req port cls value s) := by
  unfold execQwmWrite
  repeat' first
    | with_reducible assumption
    | with_reducible exact Stands.same
    | with_reducible apply reg8_kept
    | with_reducible apply KeptO.next
    | with_reducible refine KeptO.ite (fun _ => ?_) (fun _ => ?_)
    | with_reducible refine Kept.ite (fun _ => ?_) (fun _ => ?_)

theorem execTallySnapNow_kept {fr : Nat} {z0 : State} (req : Requester) {s : State}  (hm : Within 0x1ffffffffffffffffffffffffffffffffffffffffffffffffffffffffffffffffffffffffffffffffffffffffffffff7ff9f fr) (hk : Kept fr z0 s) : KeptO fr z0 (execTallySnapNow req s) := by
  unfold execTallySnapNow
  repeat' first
    | with_reducible assumption
    | with_reducible exact Stands.same
    | with_reducible apply reg8_kept
    | with_reducible apply KeptO.next

theorem execLaneTestWrite_kept {fr : Nat} {z0 : State} (req : Requester) (octet : Nat) (lane : Nat) (value : Word) {s : State}  (hm : Within 0x1ffffffffffffffffffffffffffffffffffffffffffffffffffffffffffffffffffffffffffffffffffffffffffffff7ff9f fr) (hk : Kept fr z0 s) : KeptO fr z0 (execLaneTestWrite req octet lane value s) := by
  unfold execLaneTestWrite
  repeat' first
    | with_reducible assumption
    | with_reducible exact Stands.same
    | with_reducible apply reg8_kept
    | with_reducible apply KeptO.next
    | with_reducible refine KeptO.ite (fun _ => ?_) (fun _ => ?_)
    | with_reducible refine Kept.ite (fun _ => ?_) (fun _ => ?_)

theorem execLaneTestLatch_kept {fr : Nat} {z0 : State} (req : Requester) (octet : Nat) (lane : Nat) (nbits : Nat) (errs : Nat) {s : State}  (hm : Within 0x1ffffffffffffffffffffffffffffffffffffffffffffffffffffffffffffffffffffffffffffffffffffffffffffff7ff9f fr) (hk : Kept fr z0 s) : KeptO fr z0 (execLaneTestLatch req octet lane nbits errs s) := by
  unfold execLaneTestLatch
  repeat' first
    | with_reducible assumption
    | with_reducible exact Stands.same
    | ((with_reducible refine Within.trans ?_ hm); rfl)
    | with_reducible apply laneAdd_kept
    | with_reducible apply reg8_kept
    | with_reducible apply KeptO.next
    | with_reducible refine KeptO.ite (fun _ => ?_) (fun _ => ?_)
    | with_reducible refine Kept.ite (fun _ => ?_) (fun _ => ?_)

theorem execLaneTestClear_kept {fr : Nat} {z0 : State} (req : Requester) (octet : Nat) (lane : Nat) {s : State}  (hm : Within 0x1ffffffffffffffffffffffffffffffffffffffffffffffffffffffffffffffffffffffffffffffffffffffffffffff7ff9f fr) (hk : Kept fr z0 s) : KeptO fr z0 (execLaneTestClear req octet lane s) := by
  unfold execLaneTestClear
  repeat' first
    | with_reducible assumption
    | with_reducible exact Stands.same
    | with_reducible apply reg8_kept
    | with_reducible apply KeptO.next
    | with_reducible refine KeptO.ite (fun _ => ?_) (fun _ => ?_)
    | with_reducible refine Kept.ite (fun _ => ?_) (fun _ => ?_)

theorem execPortTestWrite_kept {fr : Nat} {z0 : State} (req : Requester) (port : Nat) (value : Word) {s : State}  (hm : Within 0x1ffffffffffffffffffffffffffffffffffffffffffffffffffffffffffffffffffffffffffffffffffffffffffffff7ff9f fr) (hk : Kept fr z0 s) : KeptO fr z0 (execPortTestWrite req port value s) := by
  unfold execPortTestWrite
  repeat' first
    | with_reducible assumption
    | with_reducible exact Stands.same
    | with_reducible apply reg8_kept
    | with_reducible apply KeptO.next

theorem execSetupLockWrite_kept {fr : Nat} {z0 : State} (req : Requester) (value : Word) {s : State}  (hm : Within 0x1ffffffffffffffffffffffffffffffffffffffffffffffffffffffffffffffffffffffffffffffffffffffffffffff7ff9f fr) (hk : Kept fr z0 s) : KeptO fr z0 (execSetupLockWrite req value s) := by
  unfold execSetupLockWrite
  repeat' first
    | with_reducible assumption
    | with_reducible exact Stands.same
    | with_reducible apply reg8_kept
    | with_reducible apply KeptO.next

theorem readLeaves_kept {fr : Nat} {z0 : State} (req : Requester) (r : Reg) {s : State}  (hm : Within 0x8000 fr) (hk : Kept fr z0 s) : Kept fr z0 (readLeaves s req r) := by
  unfold readLeaves
  repeat' first
    | with_reducible assumption
    | with_reducible exact Stands.same
    | with_reducible apply timeLatch_kept
    | with_reducible refine Kept.ite (fun _ => ?_) (fun _ => ?_)

theorem busRead_kept {fr : Nat} {z0 : State} (req : Requester) (bar : Nat) (off : Nat) (size : Nat) {s : State}  (hm : Within 0x8000 fr) (hk : Kept fr z0 s) : Kept fr z0 (busRead s req bar off size).2 := by
  unfold busRead
  repeat' first
    | with_reducible assumption
    | with_reducible exact Stands.same
    | with_reducible apply readLeaves_kept
    | with_reducible refine Kept.ite (fun _ => ?_) (fun _ => ?_)
    | with_reducible refine Kept.foldl (fun _ _ _ => ?_) ?_
    | (with_reducible refine Kept.snd (by assumption) ?_)
    | dsimp only
    | split

theorem bar0Read_kept {fr : Nat} {z0 : State} (req : Requester) (off : Nat) (size : Nat) {s : State}  (hm : Within 0x80008418004 fr) (hk : Kept fr z0 s) : Kept fr z0 (bar0Read s req off size).2 := by
  unfold bar0Read
  repeat' first
    | with_reducible assumption
    | with_reducible exact Stands.same
    | ((with_reducible refine Within.trans ?_ hm); rfl)
    | with_reducible apply State.event_kept
    | with_reducible apply busRead_kept
    | with_reducible refine Kept.ite (fun _ => ?_) (fun _ => ?_)
    | with_reducible refine Kept.foldl (fun _ _ _ => ?_) ?_
    | with_reducible refine Kept.foldlSnd (fun _ _ _ => ?_) ?_
    | with_reducible refine Kept.iteSnd (fun _ => ?_) (fun _ => ?_)

theorem bar2Read_kept {fr : Nat} {z0 : State} (fn : Nat) (off : Nat) (size : Nat) {s : State}  (hm : Within 0x8000 fr) (hk : Kept fr z0 s) : Kept fr z0 (bar2Read s fn off size).2 := by
  unfold bar2Read
  repeat' first
    | with_reducible assumption
    | with_reducible exact Stands.same
    | with_reducible apply busRead_kept
    | with_reducible refine Kept.ite (fun _ => ?_) (fun _ => ?_)
    | with_reducible refine Kept.foldl (fun _ _ _ => ?_) ?_
    | with_reducible refine Kept.foldlSnd (fun _ _ _ => ?_) ?_
    | with_reducible refine Kept.iteSnd (fun _ => ?_) (fun _ => ?_)
    | (with_reducible refine Kept.snd (by assumption) ?_)
    | dsimp only
    | split

theorem barRead_kept {fr : Nat} {z0 : State} (req : Requester) (fn : Nat) (bar : Nat) (off : Nat) (size : Nat) {s : State}  (hm : Within 0x80008418004 fr) (hk : Kept fr z0 s) : Kept fr z0 (barRead s req fn bar off size).2 := by
  unfold barRead
  repeat' first
    | with_reducible assumption
    | with_reducible exact Stands.same
    | ((with_reducible refine Within.trans ?_ hm); rfl)
    | with_reducible apply bar0Read_kept
    | with_reducible apply bar2Read_kept
    | with_reducible refine Kept.ite (fun _ => ?_) (fun _ => ?_)
    | with_reducible refine Kept.foldl (fun _ _ _ => ?_) ?_
    | with_reducible refine Kept.foldlSnd (fun _ _ _ => ?_) ?_
    | with_reducible refine Kept.iteSnd (fun _ => ?_) (fun _ => ?_)
    | (with_reducible refine Kept.snd (by assumption) ?_)
    | dsimp only
    | split

theorem wideRead_kept {fr : Nat} {z0 : State} (req : Requester) (off : Nat) (n : Nat) {s : State}  (hm : Within 0x80008418004 fr) (hk : Kept fr z0 s) : Kept fr z0 (wideRead s req off n).2 := by
  induction n generalizing s req off with
  | zero =>
    unfold wideRead
    repeat' first
      | with_reducible assumption
  | succ y ih =>
    unfold wideRead
    repeat' first
      | with_reducible assumption
      | with_reducible exact Stands.same
      | with_reducible apply bar0Read_kept
      | with_reducible apply ih

theorem tablesEnter_kept {fr : Nat} {z0 : State} (l : List (List Byte)) (epoch : Nat) {s : State}  (hm : Within 0x2001 fr) (hk : Kept fr z0 s) : Kept fr z0 (tablesEnter s l epoch) := by
  induction l generalizing s epoch with
  | nil =>
    unfold tablesEnter
    repeat' first
      | with_reducible assumption
  | cons y ys ih =>
    unfold tablesEnter
    repeat' first
      | with_reducible assumption
      | with_reducible exact Stands.same
      | ((with_reducible refine Within.trans ?_ hm); rfl)
      | with_reducible apply State.draw_kept
      | with_reducible apply setEntry_kept
      | with_reducible apply ih
      | with_reducible refine Kept.ite (fun _ => ?_) (fun _ => ?_)
      | with_reducible refine Kept.foldl (fun _ _ _ => ?_) ?_
      | with_reducible refine Kept.foldlSnd (fun _ _ _ => ?_) ?_
      | with_reducible refine Kept.iteSnd (fun _ => ?_) (fun _ => ?_)
      | (with_reducible refine Kept.snd (by assumption) ?_)
      | dsimp only
      | split

theorem modesLoad_kept {fr : Nat} {z0 : State} (modes : Nat) {s : State}  (hm : Within 0x800000000000000000 fr) (hk : Kept fr z0 s) : Kept fr z0 (modesLoad s modes) := by
  unfold modesLoad
  repeat' first
    | with_reducible assumption
    | with_reducible exact Stands.same
    | ((with_reducible refine Within.trans ?_ hm); rfl)
    | with_reducible apply State.fset_kept
    | with_reducible refine Kept.ite (fun _ => ?_) (fun _ => ?_)
    | with_reducible refine Kept.foldl (fun _ _ _ => ?_) ?_

theorem wordsLoad_kept {fr : Nat} {z0 : State} (b : List Byte) (pick : Nat → Bool) {s : State}  (hm : Within 0x1ffffffffffffffffffffffffffffffffffffffffffffffffffffffffffffffffffffffffffffffffffffffffffffff7ff9f fr) (hk : Kept fr z0 s) : Kept fr z0 (wordsLoad s b pick) := by
  unfold wordsLoad
  repeat' first
    | with_reducible assumption
    | with_reducible exact Stands.same
    | with_reducible apply bar0Write_kept
    | with_reducible refine Kept.ite (fun _ => ?_) (fun _ => ?_)
    | with_reducible refine Kept.foldl (fun _ _ _ => ?_) ?_

theorem loadDefaults_kept {fr : Nat} {z0 : State} {s : State}  (hm : Within 0x1ffffffffffffffffffffffffffffffffffffffffffffffffffffffffffffffffffffffffffffffffffffffffffffff7ff9f fr) (hk : Kept fr z0 s) : Kept fr z0 (loadDefaults s) := by
  unfold loadDefaults
  repeat' first
    | with_reducible assumption
    | with_reducible exact Stands.same
    | ((with_reducible refine Within.trans ?_ hm); rfl)
    | with_reducible apply tablesEnter_kept
    | with_reducible apply wordsLoad_kept
    | with_reducible apply modesLoad_kept

theorem reloadTelem_kept {fr : Nat} {z0 : State} {s : State}  (hm : Within 0x1ffffffffffffffffffffffffffffffffffffffffffffffffffffffffffffffffffffffffffffffffffffffffffffff7ff9f fr) (hk : Kept fr z0 s) : Kept fr z0 (reloadTelem s) := by
  unfold reloadTelem
  repeat' first
    | with_reducible assumption
    | with_reducible exact Stands.same
    | with_reducible apply wordsLoad_kept

end Sys2Proof.Machine
end

