-- ==== Sys2Proof/Laws/KeptLinks.lean ====
section
/-! SUPPORT. No function of Machine/Links, Receive, Fabric, Slots, BufErrors takes back what no command takes back: one lemma each. -/

namespace Sys2Proof.Machine

theorem execLinkConditionChange_kept {fr : Nat} {z0 : State} (port : Nat) (lock : Bool) (localFault : Bool) (remoteFault : Bool) {s : State}  (hm : Within 0x80000000000000000020000000000000000000000000012 fr) (hk : Kept fr z0 s) : KeptO fr z0 (execLinkConditionChange port lock localFault remoteFault s) := by
  unfold execLinkConditionChange
  repeat' first
    | with_reducible assumption
    | with_reducible exact Stands.same
    | ((with_reducible refine Within.trans ?_ hm); rfl)
    | with_reducible apply State.fset_kept
    | with_reducible apply linkJudge_kept
    | with_reducible apply KeptO.next
    | with_reducible refine KeptO.ite (fun _ => ?_) (fun _ => ?_)
    | with_reducible refine Kept.ite (fun _ => ?_) (fun _ => ?_)

theorem execPortUpDebounceExpire_kept {fr : Nat} {z0 : State} (port : Nat) {s : State}  (hm : Within 0x860e00220400000e090fe00d0000000000000000000000000010000000000001b80002000208000000000008000047039f fr) (hk : Kept fr z0 s) : KeptO fr z0 (execPortUpDebounceExpire port s) := by
  unfold execPortUpDebounceExpire
  repeat' first
    | with_reducible assumption
    | with_reducible exact Stands.same
    | ((with_reducible refine Within.trans ?_ hm); rfl)
    | with_reducible apply portUpTemplates_kept
    | with_reducible apply declareUp_kept
    | with_reducible apply KeptO.next
    | with_reducible refine KeptO.ite (fun _ => ?_) (fun _ => ?_)
    | with_reducible refine Kept.ite (fun _ => ?_) (fun _ => ?_)
    | with_reducible refine Kept.foldl (fun _ _ _ => ?_) ?_
    | (with_reducible refine Kept.snd (by assumption) ?_)
    | dsimp only
    | split

theorem execPortDownDebounceExpire_kept {fr : Nat} {z0 : State} (port : Nat) {s : State}  (hm : Within 0x800e00220400020e0007e00d0000000000000000000000000064000000000001b80002000200000000000008000043079f fr) (hk : Kept fr z0 s) : KeptO fr z0 (execPortDownDebounceExpire port s) := by
  unfold execPortDownDebounceExpire
  repeat' first
    | with_reducible assumption
    | with_reducible exact Stands.same
    | with_reducible apply declareDown_kept
    | with_reducible apply KeptO.next
    | with_reducible refine KeptO.ite (fun _ => ?_) (fun _ => ?_)
    | with_reducible refine Kept.ite (fun _ => ?_) (fun _ => ?_)
    | with_reducible refine Kept.foldl (fun _ _ _ => ?_) ?_
    | (with_reducible refine Kept.snd (by assumption) ?_)
    | dsimp only
    | split

theorem execAutonegComplete_kept {fr : Nat} {z0 : State} (port : Nat) {s : State}  (hm : Within 0x80000000000000000020000000000000000000000000012 fr) (hk : Kept fr z0 s) : KeptO fr z0 (execAutonegComplete port s) := by
  unfold execAutonegComplete
  repeat' first
    | with_reducible assumption
    | with_reducible exact Stands.same
    | ((with_reducible refine Within.trans ?_ hm); rfl)
    | with_reducible apply linkJudge_kept
    | with_reducible apply State.fset_kept
    | with_reducible apply KeptO.next
    | with_reducible refine KeptO.ite (fun _ => ?_) (fun _ => ?_)
    | with_reducible refine Kept.ite (fun _ => ?_) (fun _ => ?_)

theorem execLinkTrainingComplete_kept {fr : Nat} {z0 : State} (port : Nat) {s : State}  (hm : Within 0x80000000000000000020000000000000000000000000012 fr) (hk : Kept fr z0 s) : KeptO fr z0 (execLinkTrainingComplete port s) := by
  unfold execLinkTrainingComplete
  repeat' first
    | with_reducible assumption
    | with_reducible exact Stands.same
    | ((with_reducible refine Within.trans ?_ hm); rfl)
    | with_reducible apply linkJudge_kept
    | with_reducible apply State.fset_kept
    | with_reducible apply KeptO.next
    | with_reducible refine KeptO.ite (fun _ => ?_) (fun _ => ?_)
    | with_reducible refine Kept.ite (fun _ => ?_) (fun _ => ?_)

theorem symCount_kept {fr : Nat} {z0 : State} (lane : Nat) (l : List Nat) {s : State}  (hm : Within 0x20000000000000000000000000000000000000000002 fr) (hk : Kept fr z0 s) : Kept fr z0 (symCount s lane l) := by
  induction l generalizing s lane with
  | nil =>
    unfold symCount
    repeat' first
      | with_reducible assumption
  | cons y ys ih =>
    unfold symCount
    repeat' first
      | with_reducible assumption
      | with_reducible exact Stands.same
      | ((with_reducible refine Within.trans ?_ hm); rfl)
      | with_reducible apply State.count_kept
      | with_reducible apply ih

theorem execFecCodewordDecode_kept {fr : Nat} {z0 : State} (port : Nat) (corrected : List Nat) (uncorrectable : Bool) {s : State}  (hm : Within 0x3ffff000000000000000000000000000000000000012 fr) (hk : Kept fr z0 s) : KeptO fr z0 (execFecCodewordDecode port corrected uncorrectable s) := by
  unfold execFecCodewordDecode
  repeat' first
    | with_reducible assumption
    | with_reducible exact Stands.same
    | ((with_reducible refine Within.trans ?_ hm); rfl)
    | with_reducible apply State.setPort_kept
    | with_reducible apply State.count_kept
    | with_reducible apply symCount_kept
    | with_reducible apply KeptO.next
    | with_reducible refine KeptO.ite (fun _ => ?_) (fun _ => ?_)
    | unfold fecBin
    | with_reducible refine Kept.ite (fun _ => ?_) (fun _ => ?_)
    | with_reducible refine Kept.foldl (fun _ _ _ => ?_) ?_
    | (fail_if_success with_reducible refine Kept.eta ?_); (with_reducible refine Kept.build ?_ rfl rfl ?_ ?_ ?_ ?_ ?_ ?_ ?_ ?_ ?_ ?_ ?_ ?_ ?_ ?_ ?_ ?_ ?_ ?_ ?_ ?_ ?_ ?_ ?_)
    | (with_reducible refine Kept.snd (by assumption) ?_)
    | dsimp only
    | split

theorem execFecDegradeWindowEnd_kept {fr : Nat} {z0 : State} (port : Nat) {s : State}  (hm : Within 0x800e00220400020e0007e00d0000000000000000000000000064000000000001b80002000200000000000008000043079f fr) (hk : Kept fr z0 s) : KeptO fr z0 (execFecDegradeWindowEnd port s) := by
  unfold execFecDegradeWindowEnd
  repeat' first
    | with_reducible assumption
    | with_reducible exact Stands.same
    | ((with_reducible refine Within.trans ?_ hm); rfl)
    | with_reducible apply State.setPort_kept
    | with_reducible apply State.fset_kept
    | with_reducible apply State.event_kept
    | with_reducible apply declareDown_kept
    | with_reducible apply KeptO.next
    | with_reducible refine KeptO.ite (fun _ => ?_) (fun _ => ?_)
    | with_reducible refine Kept.ite (fun _ => ?_) (fun _ => ?_)

theorem execPauseTimerExpire_kept {fr : Nat} {z0 : State} (port : Nat) (prio : Nat) {s : State}  (hm : Within 0x100 fr) (hk : Kept fr z0 s) : KeptO fr z0 (execPauseTimerExpire port prio s) := by
  unfold execPauseTimerExpire
  repeat' first
    | with_reducible assumption
    | with_reducible exact Stands.same
    | ((with_reducible refine Stands.hit (Within.trans ?_ hm)); rfl)
    | with_reducible apply KeptO.next
    | with_reducible refine KeptO.ite (fun _ => ?_) (fun _ => ?_)
    | with_reducible refine Kept.ite (fun _ => ?_) (fun _ => ?_)
    | with_reducible refine Kept.foldl (fun _ _ _ => ?_) ?_
    | (fail_if_success with_reducible refine Kept.eta ?_); (with_reducible refine Kept.build ?_ rfl rfl ?_ ?_ ?_ ?_ ?_ ?_ ?_ ?_ ?_ ?_ ?_ ?_ ?_ ?_ ?_ ?_ ?_ ?_ ?_ ?_ ?_ ?_ ?_)

theorem execHoldExpire_kept {fr : Nat} {z0 : State} (port : Nat) {s : State}  (hm : Within 0x800e00220400000e0000200d0000000000000000000000000060000000000001b80002000200000000000008000043039f fr) (hk : Kept fr z0 s) : KeptO fr z0 (execHoldExpire port s) := by
  unfold execHoldExpire
  repeat' first
    | with_reducible assumption
    | with_reducible exact Stands.same
    | with_reducible apply flushStart_kept
    | with_reducible apply KeptO.next
    | with_reducible refine KeptO.ite (fun _ => ?_) (fun _ => ?_)
    | with_reducible refine Kept.ite (fun _ => ?_) (fun _ => ?_)
    | with_reducible refine Kept.foldl (fun _ _ _ => ?_) ?_
    | (with_reducible refine Kept.snd (by assumption) ?_)
    | dsimp only
    | split

theorem execFlushComplete_kept {fr : Nat} {z0 : State} (port : Nat) {s : State}  (hm : Within 0x20000000000000000000000000100 fr) (hk : Kept fr z0 s) : KeptO fr z0 (execFlushComplete port s) := by
  unfold execFlushComplete
  repeat' first
    | with_reducible assumption
    | with_reducible exact Stands.same
    | ((with_reducible refine Within.trans ?_ hm); rfl)
    | with_reducible apply State.fset_kept
    | with_reducible apply pfcAgain_kept
    | with_reducible apply KeptO.next
    | with_reducible refine KeptO.ite (fun _ => ?_) (fun _ => ?_)
    | with_reducible refine Kept.ite (fun _ => ?_) (fun _ => ?_)

theorem callBack_kept {fr : Nat} {z0 : State} (id : Nat) (keep : Bool) {s : State}  (hm : Within 0x4000000000100000e0000200d00000000000000013022004c0000000000000081b8000000000018000000000800004157ce fr) (hk : Kept fr z0 s) : Kept fr z0 (callBack s id keep) := by
  unfold callBack
  repeat' first
    | with_reducible assumption
    | with_reducible exact Stands.same
    | ((with_reducible refine Within.trans ?_ hm); rfl)
    | with_reducible apply cancelTask_kept
    | with_reducible apply takeBack_kept
    | with_reducible apply stompTx_kept
    | with_reducible apply State.modFrame_kept
    | with_reducible refine Kept.ite (fun _ => ?_) (fun _ => ?_)

theorem discard_kept {fr : Nat} {z0 : State} (id : Nat) {s : State}  (hm : Within 0x4000000220500000e0000200d00000000000000013022004c0000000000000081b8000000000018000000000800004157ce fr) (hk : Kept fr z0 s) : Kept fr z0 (discard s id) := by
  unfold discard
  repeat' first
    | with_reducible assumption
    | with_reducible exact Stands.same
    | ((with_reducible refine Within.trans ?_ hm); rfl)
    | with_reducible apply injEnd_kept
    | with_reducible apply callBack_kept
    | with_reducible apply frameRelease1_kept
    | with_reducible apply slotSettle_kept
    | with_reducible apply State.modFrame_kept
    | with_reducible refine Kept.ite (fun _ => ?_) (fun _ => ?_)

theorem lenCount_kept {fr : Nat} {z0 : State} (id : Nat) (c : Ctr) {s : State}  (hm : Within 0xa fr) (hk : Kept fr z0 s) (hc : Within (Part.bit (.ctr c)) fr) : Kept fr z0 (lenCount s id c) := by
  unfold lenCount
  repeat' first
    | with_reducible assumption
    | with_reducible exact Stands.same
    | ((with_reducible refine Within.trans ?_ hm); rfl)
    | with_reducible apply State.modFrame_kept
    | with_reducible apply State.count_kept
    | with_reducible refine Kept.ite (fun _ => ?_) (fun _ => ?_)

theorem applyVerdict_kept {fr : Nat} {z0 : State} (id : Nat) {s : State}  (hm : Within 0x4800e00220500000e0000200d00000000000000013022004dc000000000000081b8000000020018000000000800004357cf fr) (hk : Kept fr z0 s) : Kept fr z0 (applyVerdict s id).2 := by
  unfold applyVerdict
  repeat' first
    | with_reducible assumption
    | with_reducible exact Stands.same
    | ((with_reducible refine Within.trans ?_ hm); rfl)
    | with_reducible apply callBack_kept
    | with_reducible apply lenCount_kept
    | with_reducible apply endDrop_kept
    | with_reducible apply endPunt_kept
    | with_reducible refine Kept.ite (fun _ => ?_) (fun _ => ?_)
    | with_reducible refine Kept.foldl (fun _ _ _ => ?_) ?_
    | (fail_if_success with_reducible refine Kept.eta ?_); (with_reducible refine Kept.build ?_ rfl rfl ?_ ?_ ?_ ?_ ?_ ?_ ?_ ?_ ?_ ?_ ?_ ?_ ?_ ?_ ?_ ?_ ?_ ?_ ?_ ?_ ?_ ?_ ?_)
    | (with_reducible refine Kept.snd (by assumption) ?_)
    | dsimp only
    | split

theorem setStaging_kept {fr : Nat} {z0 : State} (o : Nat) (l : List Staged) {s : State}  (hm : Within 0x20 fr) (hk : Kept fr z0 s) : Kept fr z0 (setStaging s o l) := by
  unfold setStaging
  repeat' first
    | with_reducible assumption
    | with_reducible exact Stands.same
    | ((with_reducible refine Stands.hit (Within.trans ?_ hm)); rfl)
    | with_reducible refine Kept.ite (fun _ => ?_) (fun _ => ?_)
    | with_reducible refine Kept.foldl (fun _ _ _ => ?_) ?_
    | (fail_if_success with_reducible refine Kept.eta ?_); (with_reducible refine Kept.build ?_ rfl rfl ?_ ?_ ?_ ?_ ?_ ?_ ?_ ?_ ?_ ?_ ?_ ?_ ?_ ?_ ?_ ?_ ?_ ?_ ?_ ?_ ?_ ?_ ?_)

theorem stagingRenew_kept {fr : Nat} {z0 : State} (q : Nat) (id : Nat) (limit : Nat) (got : Nat) (whole : Bool) {s : State}  (hm : Within 0x20 fr) (hk : Kept fr z0 s) : Kept fr z0 (stagingRenew s q id limit got whole) := by
  unfold stagingRenew
  repeat' first
    | with_reducible assumption
    | with_reducible exact Stands.same
    | with_reducible apply setStaging_kept
    | with_reducible refine Kept.ite (fun _ => ?_) (fun _ => ?_)

theorem setPause_kept {fr : Nat} {z0 : State} (q : Nat) (p : Nat) (quanta : Nat) {s : State}  (hm : Within 0x100 fr) (hk : Kept fr z0 s) : Kept fr z0 (setPause s q p quanta) := by
  unfold setPause
  repeat' first
    | with_reducible assumption
    | with_reducible exact Stands.same
    | ((with_reducible refine Stands.hit (Within.trans ?_ hm)); rfl)
    | with_reducible refine Kept.ite (fun _ => ?_) (fun _ => ?_)
    | with_reducible refine Kept.foldl (fun _ _ _ => ?_) ?_
    | (fail_if_success with_reducible refine Kept.eta ?_); (with_reducible refine Kept.build ?_ rfl rfl ?_ ?_ ?_ ?_ ?_ ?_ ?_ ?_ ?_ ?_ ?_ ?_ ?_ ?_ ?_ ?_ ?_ ?_ ?_ ?_ ?_ ?_ ?_)

theorem obeyPfc_kept {fr : Nat} {z0 : State} (q : Nat) (b : List Byte) {s : State}  (hm : Within 0x100 fr) (hk : Kept fr z0 s) : Kept fr z0 (obeyPfc s q b) := by
  unfold obeyPfc
  repeat' first
    | with_reducible assumption
    | with_reducible exact Stands.same
    | with_reducible apply setPause_kept
    | with_reducible refine Kept.ite (fun _ => ?_) (fun _ => ?_)
    | with_reducible refine Kept.foldl (fun _ _ _ => ?_) ?_

theorem obeyPause_kept {fr : Nat} {z0 : State} (q : Nat) (b : List Byte) {s : State}  (hm : Within 0x100 fr) (hk : Kept fr z0 s) : Kept fr z0 (obeyPause s q b) := by
  unfold obeyPause
  repeat' first
    | with_reducible assumption
    | with_reducible exact Stands.same
    | with_reducible apply setPause_kept
    | with_reducible refine Kept.ite (fun _ => ?_) (fun _ => ?_)

theorem chkAdd_kept {fr : Nat} {z0 : State} (f : Fld) (q : Nat) (n : Nat) {s : State}  (hm : Within 0x0 fr) (hk : Kept fr z0 s) (hf : Within (Part.bit (.reg f.reg)) fr) : Kept fr z0 (chkAdd s f q n) := by
  unfold chkAdd
  repeat' first
    | with_reducible assumption
    | with_reducible exact Stands.same
    | with_reducible apply State.fset_kept

theorem checkFrame_kept {fr : Nat} {z0 : State} (q : Nat) (b : List Byte) {s : State}  (hm : Within 0x800000000000000000000000000010 fr) (hk : Kept fr z0 s) : Kept fr z0 (checkFrame s q b) := by
  unfold checkFrame
  repeat' first
    | with_reducible assumption
    | with_reducible exact Stands.same
    | ((with_reducible refine Within.trans ?_ hm); rfl)
    | with_reducible apply chkAdd_kept
    | with_reducible apply State.setPort_kept
    | with_reducible refine Kept.ite (fun _ => ?_) (fun _ => ?_)
    | with_reducible refine Kept.foldl (fun _ _ _ => ?_) ?_
    | (fail_if_success with_reducible refine Kept.eta ?_); (with_reducible refine Kept.build ?_ rfl rfl ?_ ?_ ?_ ?_ ?_ ?_ ?_ ?_ ?_ ?_ ?_ ?_ ?_ ?_ ?_ ?_ ?_ ?_ ?_ ?_ ?_ ?_ ?_)
    | (with_reducible refine Kept.snd (by assumption) ?_)
    | dsimp only
    | split

theorem tileDrop_kept {fr : Nat} {z0 : State} (id : Nat) {s : State}  (hm : Within 0x4000000220500000e0000200d00000000000000013022004c0000000000000081b8000000000018000000000800004157ce fr) (hk : Kept fr z0 s) : Kept fr z0 (tileDrop s id) := by
  unfold tileDrop
  repeat' first
    | with_reducible assumption
    | with_reducible exact Stands.same
    | ((with_reducible refine Within.trans ?_ hm); rfl)
    | with_reducible apply discard_kept
    | with_reducible apply State.delFrame_kept
    | with_reducible refine Kept.ite (fun _ => ?_) (fun _ => ?_)

theorem tileFabric_kept {fr : Nat} {z0 : State} (q : Nat) (id : Nat) (b : List Byte) {s : State}  (hm : Within 0x40000002205980c0e0000200d00000000000000013022004c0000000000000081b8000000000018000000000800004157ce fr) (hk : Kept fr z0 s) : Kept fr z0 (tileFabric s q id b) := by
  unfold tileFabric
  repeat' first
    | with_reducible assumption
    | with_reducible exact Stands.same
    | ((with_reducible refine Within.trans ?_ hm); rfl)
    | with_reducible apply tileDrop_kept
    | with_reducible apply State.count_kept
    | with_reducible apply State.emit_kept
    | with_reducible apply State.gmax_kept
    | with_reducible apply State.setFrame_kept
    | with_reducible refine Kept.ite (fun _ => ?_) (fun _ => ?_)

theorem slotTake_kept {fr : Nat} {z0 : State} (id : Nat) (sl : Nat) {s : State}  (hm : Within 0x4000000000000000000000000000000000000000000000040008 fr) (hk : Kept fr z0 s) : Kept fr z0 (slotTake s id sl) := by
  unfold slotTake
  repeat' first
    | with_reducible assumption
    | with_reducible exact Stands.same
    | ((with_reducible refine Within.trans ?_ hm); rfl)
    | with_reducible apply slotAhead_kept
    | with_reducible apply State.modFrame_kept
    | with_reducible apply State.gset_kept

theorem takeBuffer_kept {fr : Nat} {z0 : State} (id : Nat) {s : State}  (hm : Within 0x800e00220400000200002e0d80000000000000000000004c0000000000000001380000000200000000000008000043018f fr) (hk : Kept fr z0 s) : Kept fr z0 (takeBuffer s id).2 := by
  unfold takeBuffer
  repeat' first
    | with_reducible assumption
    | with_reducible exact Stands.same
    | ((with_reducible refine Within.trans ?_ hm); rfl)
    | with_reducible apply endDrop_kept
    | with_reducible apply State.count_kept
    | with_reducible apply emptyPool_kept
    | with_reducible apply bufTake_kept
    | with_reducible apply State.modFrame_kept
    | with_reducible refine Kept.ite (fun _ => ?_) (fun _ => ?_)
    | with_reducible refine Kept.foldl (fun _ _ _ => ?_) ?_
    | (with_reducible refine Kept.snd (by assumption) ?_)
    | dsimp only
    | split

theorem stepTwo_kept {fr : Nat} {z0 : State} (id : Nat) {s : State}  (hm : Within 0x4800e00220500000e00002e0d80000000000000013022004c0380000000000081b8000000020018000000000800004357cf fr) (hk : Kept fr z0 s) : Kept fr z0 (stepTwo s id).2 := by
  unfold stepTwo
  repeat' first
    | with_reducible assumption
    | with_reducible exact Stands.same
    | ((with_reducible refine Within.trans ?_ hm); rfl)
    | with_reducible apply State.setFrame_kept
    | with_reducible apply State.count_kept
    | with_reducible apply takeBuffer_kept
    | with_reducible apply discard_kept
    | with_reducible apply endPunt_kept
    | with_reducible refine Kept.ite (fun _ => ?_) (fun _ => ?_)
    | with_reducible refine Kept.foldl (fun _ _ _ => ?_) ?_
    | with_reducible refine Kept.foldlSnd (fun _ _ _ => ?_) ?_
    | with_reducible refine Kept.iteSnd (fun _ => ?_) (fun _ => ?_)

theorem stepFour_kept {fr : Nat} {z0 : State} (id : Nat) {s : State}  (hm : Within 0x1008 fr) (hk : Kept fr z0 s) : Kept fr z0 (stepFour s id) := by
  unfold stepFour
  repeat' first
    | with_reducible assumption
    | with_reducible exact Stands.same
    | ((with_reducible refine Within.trans ?_ hm); rfl)
    | with_reducible apply takePlace_kept
    | with_reducible apply State.modFrame_kept
    | with_reducible apply toLookup_kept

theorem stepThree_kept {fr : Nat} {z0 : State} (id : Nat) {s : State}  (hm : Within 0x4800e00220500000e0000200d00000000000000013022004dec80000000000081b8000000020018000000000800004357cf fr) (hk : Kept fr z0 s) : Kept fr z0 (stepThree s id) := by
  unfold stepThree
  repeat' first
    | with_reducible assumption
    | with_reducible exact Stands.same
    | ((with_reducible refine Within.trans ?_ hm); rfl)
    | with_reducible apply State.setFrame_kept
    | with_reducible apply State.count_kept
    | with_reducible apply applyVerdict_kept
    | with_reducible apply stepFour_kept
    | with_reducible apply endPunt_kept
    | with_reducible apply endDrop_kept
    | with_reducible apply State.modFrame_kept
    | with_reducible refine Kept.ite (fun _ => ?_) (fun _ => ?_)
    | with_reducible refine Kept.foldl (fun _ _ _ => ?_) ?_
    | with_reducible refine Kept.foldlSnd (fun _ _ _ => ?_) ?_
    | with_reducible refine Kept.iteSnd (fun _ => ?_) (fun _ => ?_)
    | (with_reducible refine Kept.snd (by assumption) ?_)
    | dsimp only
    | split

theorem judgeEnd_kept {fr : Nat} {z0 : State} (id : Nat) (n : Nat) {s : State}  (hm : Within 0x4800e00220500000e0000200d00000000000000013022004dee80000000000081b8000000020018000000000800004357cf fr) (hk : Kept fr z0 s) : Kept fr z0 (judgeEnd s id n) := by
  unfold judgeEnd
  repeat' first
    | with_reducible assumption
    | with_reducible exact Stands.same
    | ((with_reducible refine Within.trans ?_ hm); rfl)
    | with_reducible apply discard_kept
    | with_reducible apply State.count_kept
    | with_reducible apply stepThree_kept
    | with_reducible apply applyVerdict_kept
    | with_reducible refine Kept.ite (fun _ => ?_) (fun _ => ?_)

theorem rxEnd_kept {fr : Nat} {z0 : State} (q : Nat) {s : State}  (hm : Within 0x4800e002205980c0e0000200d00000000000000013022004dee80ffc000000081b8008000020018000000000800004357ff fr) (hk : Kept fr z0 s) : Kept fr z0 (rxEnd s q) := by
  unfold rxEnd
  repeat' first
    | with_reducible assumption
    | with_reducible exact Stands.same
    | ((with_reducible refine Within.trans ?_ hm); rfl)
    | with_reducible apply State.setPort_kept
    | with_reducible apply State.count_kept
    | with_reducible apply discard_kept
    | with_reducible apply State.delFrame_kept
    | with_reducible apply obeyPfc_kept
    | with_reducible apply tileDrop_kept
    | with_reducible apply obeyPause_kept
    | with_reducible apply checkFrame_kept
    | with_reducible apply tileFabric_kept
    | with_reducible apply State.modFrame_kept
    | with_reducible apply judgeEnd_kept
    | with_reducible apply stagingRenew_kept
    | with_reducible refine Kept.ite (fun _ => ?_) (fun _ => ?_)
    | with_reducible refine Kept.foldl (fun _ _ _ => ?_) ?_
    | (fail_if_success with_reducible refine Kept.eta ?_); (with_reducible refine Kept.build ?_ rfl rfl ?_ ?_ ?_ ?_ ?_ ?_ ?_ ?_ ?_ ?_ ?_ ?_ ?_ ?_ ?_ ?_ ?_ ?_ ?_ ?_ ?_ ?_ ?_)
    | (with_reducible refine Kept.snd (by assumption) ?_)
    | dsimp only
    | split

theorem rxBegin_kept {fr : Nat} {z0 : State} (q : Nat) {s : State}  (hm : Within 0x100000000000000000000000000039 fr) (hk : Kept fr z0 s) : Kept fr z0 (rxBegin s q) := by
  unfold rxBegin
  repeat' first
    | with_reducible assumption
    | with_reducible exact Stands.same
    | ((with_reducible refine Within.trans ?_ hm); rfl)
    | with_reducible apply State.setPort_kept
    | with_reducible apply portStamp_kept
    | with_reducible apply setStaging_kept
    | with_reducible apply State.newFrame_kept
    | with_reducible refine Kept.ite (fun _ => ?_) (fun _ => ?_)

theorem rxBytes_kept {fr : Nat} {z0 : State} (q : Nat) (bytes : List Byte) (bad : Bool) {s : State}  (hm : Within 0x38 fr) (hk : Kept fr z0 s) : Kept fr z0 (rxBytes s q bytes bad) := by
  unfold rxBytes
  repeat' first
    | with_reducible assumption
    | with_reducible exact Stands.same
    | ((with_reducible refine Within.trans ?_ hm); rfl)
    | with_reducible apply State.setPort_kept
    | with_reducible apply stagingRenew_kept
    | with_reducible apply State.modFrame_kept
    | with_reducible refine Kept.ite (fun _ => ?_) (fun _ => ?_)
    | with_reducible refine Kept.foldl (fun _ _ _ => ?_) ?_
    | (with_reducible refine Kept.snd (by assumption) ?_)
    | dsimp only
    | split

theorem windowStep_kept {fr : Nat} {z0 : State} (q : Nat) {s : State}  (hm : Within 0x4800e00220500000e0000200d00000000000000013022004dec80000000000081b8000000020018000000000800004357cf fr) (hk : Kept fr z0 s) : Kept fr z0 (windowStep s q) := by
  unfold windowStep
  repeat' first
    | with_reducible assumption
    | with_reducible exact Stands.same
    | with_reducible apply stepThree_kept
    | with_reducible refine Kept.ite (fun _ => ?_) (fun _ => ?_)
    | with_reducible refine Kept.foldl (fun _ _ _ => ?_) ?_
    | (with_reducible refine Kept.snd (by assumption) ?_)
    | dsimp only
    | split

theorem execFrameReceive_kept {fr : Nat} {z0 : State} (port : Nat) (first : Bool) (last : Bool) (bytes : List Byte) (fecBad : Bool) {s : State}  (hm : Within 0x4800e002205980c0e0000200d00000000000000013022004dee80ffc000000081b8009000020018000000000800004357ff fr) (hk : Kept fr z0 s) : KeptO fr z0 (execFrameReceive port first last bytes fecBad s) := by
  unfold execFrameReceive
  repeat' first
    | with_reducible assumption
    | with_reducible exact Stands.same
    | ((with_reducible refine Within.trans ?_ hm); rfl)
    | with_reducible apply windowStep_kept
    | with_reducible apply rxBytes_kept
    | with_reducible apply rxBegin_kept
    | with_reducible apply rxEnd_kept
    | with_reducible apply KeptO.next
    | with_reducible refine KeptO.ite (fun _ => ?_) (fun _ => ?_)
    | with_reducible refine Kept.ite (fun _ => ?_) (fun _ => ?_)

theorem uplinkFor_kept {fr : Nat} {z0 : State} (d : Nat) (c : Nat) (sel : Nat) (pinned : Bool) {s : State}  (hm : Within 0x1800000000000000000000000000000000000000000000000000000000000000000000000000000000402 fr) (hk : Kept fr z0 s) : KeptP fr z0 (uplinkFor s d c sel pinned) := by
  unfold uplinkFor
  repeat' first
    | with_reducible assumption
    | with_reducible exact Stands.same
    | ((with_reducible refine Within.trans ?_ hm); rfl)
    | with_reducible apply State.count_kept
    | with_reducible apply spray_kept
    | with_reducible exact KeptP.none
    | with_reducible apply KeptP.some
    | with_reducible refine KeptP.ite (fun _ => ?_) (fun _ => ?_)
    | with_reducible refine Kept.ite (fun _ => ?_) (fun _ => ?_)
    | with_reducible refine Kept.foldl (fun _ _ _ => ?_) ?_
    | with_reducible refine Kept.foldlSnd (fun _ _ _ => ?_) ?_
    | with_reducible refine Kept.iteSnd (fun _ => ?_) (fun _ => ?_)
    | (fail_if_success with_reducible refine Kept.eta ?_); (with_reducible refine Kept.build ?_ rfl rfl ?_ ?_ ?_ ?_ ?_ ?_ ?_ ?_ ?_ ?_ ?_ ?_ ?_ ?_ ?_ ?_ ?_ ?_ ?_ ?_ ?_ ?_ ?_)
    | (with_reducible refine Kept.snd (by assumption) ?_)
    | (with_reducible refine KeptP.elim (by assumption) ?_)
    | with_reducible refine KeptP.mapSnd (fun _ _ _ => ?_) ?_
    | with_reducible refine KeptP.map (fun _ => ?_)

theorem pinUplink_kept {fr : Nat} {z0 : State} (d : Nat) (c : Nat) (pinned : Bool) {s : State}  (hm : Within 0x1800000000000000000000000000000000000000000000000000000000000000000000000000000000402 fr) (hk : Kept fr z0 s) : KeptP fr z0 (pinUplink s d c pinned) := by
  unfold pinUplink
  repeat' first
    | with_reducible assumption
    | with_reducible exact Stands.same
    | with_reducible apply uplinkFor_kept
    | with_reducible exact KeptP.none
    | with_reducible apply KeptP.some
    | with_reducible refine KeptP.ite (fun _ => ?_) (fun _ => ?_)

theorem sendPin_kept {fr : Nat} {z0 : State} (src : Nat) (cls : Nat) (epoch : Nat) {s : State}  (hm : Within 0x800e00220420118e090fe00d0000000000000000000000000010000000000001b80000000208000000000008000043078f fr) (hk : Kept fr z0 s) : Kept fr z0 (sendPin s src cls epoch) := by
  unfold sendPin
  repeat' first
    | with_reducible assumption
    | with_reducible exact Stands.same
    | ((with_reducible refine Within.trans ?_ hm); rfl)
    | with_reducible apply State.draw_kept
    | with_reducible apply State.count_kept
    | with_reducible apply State.newFrame_kept
    | with_reducible apply pinUplink_kept
    | with_reducible apply dropFrame_kept
    | with_reducible apply enqueue_kept
    | with_reducible refine Kept.ite (fun _ => ?_) (fun _ => ?_)
    | with_reducible refine Kept.foldl (fun _ _ _ => ?_) ?_
    | with_reducible refine Kept.foldlSnd (fun _ _ _ => ?_) ?_
    | with_reducible refine Kept.iteSnd (fun _ => ?_) (fun _ => ?_)
    | (with_reducible refine Kept.snd (by assumption) ?_)
    | (with_reducible refine KeptP.elim (by assumption) ?_)
    | with_reducible refine KeptP.mapSnd (fun _ _ _ => ?_) ?_
    | with_reducible refine KeptP.map (fun _ => ?_)
    | with_reducible refine KeptP.ite (fun _ => ?_) (fun _ => ?_)
    | dsimp only
    | split

theorem State.setStream_kept {fr : Nat} {z0 : State} (src : Nat) (cls : Nat) (v : Stream) {s : State}  (hm : Within 0x400 fr) (hk : Kept fr z0 s) : Kept fr z0 (State.setStream s src cls v) := by
  unfold State.setStream
  repeat' first
    | with_reducible assumption
    | with_reducible exact Stands.same
    | ((with_reducible refine Stands.hit (Within.trans ?_ hm)); rfl)
    | with_reducible refine Kept.ite (fun _ => ?_) (fun _ => ?_)
    | with_reducible refine Kept.foldl (fun _ _ _ => ?_) ?_
    | (fail_if_success with_reducible refine Kept.eta ?_); (with_reducible refine Kept.build ?_ rfl rfl ?_ ?_ ?_ ?_ ?_ ?_ ?_ ?_ ?_ ?_ ?_ ?_ ?_ ?_ ?_ ?_ ?_ ?_ ?_ ?_ ?_ ?_ ?_)

theorem flushHeld_kept {fr : Nat} {z0 : State} (src : Nat) (cls : Nat) (l : List (Nat × Nat × Nat)) {s : State}  (hm : Within 0x4800e00220500200e0000200d00000000000000013022004dec80000000000081b8000000020018000000000800004357cf fr) (hk : Kept fr z0 s) : Kept fr z0 (flushHeld s src cls l) := by
  induction l generalizing s src cls with
  | nil =>
    unfold flushHeld
    repeat' first
      | with_reducible assumption
  | cons y ys ih =>
    unfold flushHeld
    repeat' first
      | with_reducible assumption
      | with_reducible exact Stands.same
      | ((with_reducible refine Within.trans ?_ hm); rfl)
      | with_reducible apply State.count_kept
      | with_reducible apply State.setStream_kept
      | with_reducible apply stepThree_kept
      | with_reducible apply ih

theorem passHeld_kept {fr : Nat} {z0 : State} (src : Nat) (cls : Nat) {s : State}  (hm : Within 0x4800e00220500200e0000200d00000000000000013022004dec80000000000081b8000000020018000000000800004357cf fr) (hk : Kept fr z0 s) : Kept fr z0 (passHeld s src cls) := by
  unfold passHeld
  repeat' first
    | with_reducible assumption
    | with_reducible exact Stands.same
    | ((with_reducible refine Within.trans ?_ hm); rfl)
    | with_reducible apply heldShow_kept
    | with_reducible apply flushHeld_kept
    | with_reducible apply State.setStream_kept

theorem overflow_kept {fr : Nat} {z0 : State} (id : Nat) (m : Shim) {s : State}  (hm : Within 0x4800e00220520b18e090fe00d00000000000000013022004dec90000000000081b8000000020818000000000800004357cf fr) (hk : Kept fr z0 s) : Kept fr z0 (overflow s id m) := by
  unfold overflow
  repeat' first
    | with_reducible assumption
    | with_reducible exact Stands.same
    | ((with_reducible refine Within.trans ?_ hm); rfl)
    | with_reducible apply passHeld_kept
    | with_reducible apply State.count_kept
    | with_reducible apply stepThree_kept
    | with_reducible apply State.setStream_kept
    | with_reducible apply sendPin_kept
    | with_reducible apply State.event_kept
    | with_reducible refine Kept.ite (fun _ => ?_) (fun _ => ?_)

theorem lateFrame_kept {fr : Nat} {z0 : State} (id : Nat) (m : Shim) {s : State}  (hm : Within 0x4800e00220501600e0000200d00000000000000013022004dec80000000000081b8000000020018000000000800004357cf fr) (hk : Kept fr z0 s) : Kept fr z0 (lateFrame s id m) := by
  unfold lateFrame
  repeat' first
    | with_reducible assumption
    | with_reducible exact Stands.same
    | ((with_reducible refine Within.trans ?_ hm); rfl)
    | with_reducible apply State.count_kept
    | with_reducible apply passHeld_kept
    | with_reducible apply State.setStream_kept
    | with_reducible apply stepThree_kept
    | with_reducible apply endDrop_kept
    | with_reducible refine Kept.ite (fun _ => ?_) (fun _ => ?_)

theorem syncStream_kept {fr : Nat} {z0 : State} (m : Shim) {s : State}  (hm : Within 0x4800e00220500200e0000200d00000000000000013022004dec80000000000081b8000000020018000000000800004357cf fr) (hk : Kept fr z0 s) : Kept fr z0 (syncStream s m) := by
  unfold syncStream
  repeat' first
    | with_reducible assumption
    | with_reducible exact Stands.same
    | ((with_reducible refine Within.trans ?_ hm); rfl)
    | with_reducible apply State.setStream_kept
    | with_reducible apply passHeld_kept
    | with_reducible refine Kept.ite (fun _ => ?_) (fun _ => ?_)

theorem pinnedFrame_kept {fr : Nat} {z0 : State} (id : Nat) (m : Shim) {s : State}  (hm : Within 0x4800e00220500000e0000200d00000000000000013022004dec80000000000081b8000000020018000000000800004357cf fr) (hk : Kept fr z0 s) : Kept fr z0 (pinnedFrame s id m) := by
  unfold pinnedFrame
  repeat' first
    | with_reducible assumption
    | with_reducible exact Stands.same
    | ((with_reducible refine Within.trans ?_ hm); rfl)
    | with_reducible apply stepThree_kept
    | with_reducible apply State.setStream_kept
    | with_reducible apply heldShow_kept
    | with_reducible refine Kept.ite (fun _ => ?_) (fun _ => ?_)
    | with_reducible refine Kept.foldl (fun _ _ _ => ?_) ?_

theorem judgeData_kept {fr : Nat} {z0 : State} (id : Nat) (m : Shim) {s : State}  (hm : Within 0x4800e00220521f18e090fe00d00000000000000013022004dec90000000000081b8000000020818000000000800004357cf fr) (hk : Kept fr z0 s) : Kept fr z0 (judgeData s id m) := by
  unfold judgeData
  repeat' first
    | with_reducible assumption
    | with_reducible exact Stands.same
    | ((with_reducible refine Within.trans ?_ hm); rfl)
    | with_reducible apply syncStream_kept
    | with_reducible apply pinnedFrame_kept
    | with_reducible apply stepThree_kept
    | with_reducible apply State.setStream_kept
    | with_reducible apply overflow_kept
    | with_reducible apply heldShow_kept
    | with_reducible apply lateFrame_kept
    | with_reducible refine Kept.ite (fun _ => ?_) (fun _ => ?_)

theorem transitSend_kept {fr : Nat} {z0 : State} (id : Nat) (m : Shim) {s : State}  (hm : Within 0x800e00220406118e090fe00d00000000000000000000004c0010000000000001b80000000208000000000008000043078f fr) (hk : Kept fr z0 s) : Kept fr z0 (transitSend s id m) := by
  unfold transitSend
  repeat' first
    | with_reducible assumption
    | with_reducible exact Stands.same
    | ((with_reducible refine Within.trans ?_ hm); rfl)
    | with_reducible apply endDrop_kept
    | with_reducible apply State.count_kept
    | with_reducible apply uplinkFor_kept
    | with_reducible apply slotSettle_kept
    | with_reducible apply State.modFrame_kept
    | with_reducible apply enqueue_kept
    | with_reducible apply setCopies_kept
    | with_reducible refine Kept.ite (fun _ => ?_) (fun _ => ?_)
    | with_reducible refine Kept.foldl (fun _ _ _ => ?_) ?_
    | with_reducible refine Kept.foldlSnd (fun _ _ _ => ?_) ?_
    | with_reducible refine Kept.iteSnd (fun _ => ?_) (fun _ => ?_)
    | (with_reducible refine Kept.snd (by assumption) ?_)
    | (with_reducible refine KeptP.elim (by assumption) ?_)
    | with_reducible refine KeptP.mapSnd (fun _ _ _ => ?_) ?_
    | with_reducible refine KeptP.map (fun _ => ?_)
    | with_reducible refine KeptP.ite (fun _ => ?_) (fun _ => ?_)
    | dsimp only
    | split

theorem fabricArrive_kept {fr : Nat} {z0 : State} (id : Nat) (m : Shim) {s : State}  (hm : Within 0x4800e00220527f18e090fe00d00000000000000013022004dec90000000000081b8000000020818000000000800004357cf fr) (hk : Kept fr z0 s) : Kept fr z0 (fabricArrive s id m) := by
  unfold fabricArrive
  repeat' first
    | with_reducible assumption
    | with_reducible exact Stands.same
    | ((with_reducible refine Within.trans ?_ hm); rfl)
    | with_reducible apply transitSend_kept
    | with_reducible apply judgeData_kept
    | with_reducible apply State.modFrame_kept
    | with_reducible apply endPunt_kept
    | with_reducible refine Kept.ite (fun _ => ?_) (fun _ => ?_)

theorem execReseqRelease_kept {fr : Nat} {z0 : State} (src : Nat) (cls : Nat) {s : State}  (hm : Within 0x4800e00220500000e0000200d00000000000000013022004dec80000000000081b8000000020018000000000800004357cf fr) (hk : Kept fr z0 s) : KeptO fr z0 (execReseqRelease src cls s) := by
  unfold execReseqRelease
  repeat' first
    | with_reducible assumption
    | with_reducible exact Stands.same
    | ((with_reducible refine Within.trans ?_ hm); rfl)
    | with_reducible apply heldShow_kept
    | with_reducible apply stepThree_kept
    | with_reducible apply State.setStream_kept
    | with_reducible apply KeptO.next
    | with_reducible refine KeptO.ite (fun _ => ?_) (fun _ => ?_)
    | with_reducible refine Kept.ite (fun _ => ?_) (fun _ => ?_)
    | with_reducible refine Kept.foldl (fun _ _ _ => ?_) ?_
    | (with_reducible refine Kept.snd (by assumption) ?_)
    | dsimp only
    | split

theorem execReseqGapTimeout_kept {fr : Nat} {z0 : State} (src : Nat) (cls : Nat) {s : State}  (hm : Within 0x20000000000000000000000000000000000000000000000000000000000000000000000000000000000402 fr) (hk : Kept fr z0 s) : KeptO fr z0 (execReseqGapTimeout src cls s) := by
  unfold execReseqGapTimeout
  repeat' first
    | with_reducible assumption
    | with_reducible exact Stands.same
    | ((with_reducible refine Within.trans ?_ hm); rfl)
    | with_reducible apply State.count_kept
    | with_reducible apply State.setStream_kept
    | with_reducible apply KeptO.next
    | with_reducible refine KeptO.ite (fun _ => ?_) (fun _ => ?_)
    | with_reducible refine Kept.ite (fun _ => ?_) (fun _ => ?_)
    | with_reducible refine Kept.foldl (fun _ _ _ => ?_) ?_
    | (with_reducible refine Kept.snd (by assumption) ?_)
    | dsimp only
    | split

theorem execPinRequest_kept {fr : Nat} {z0 : State} (frame : Nat) {s : State}  (hm : Within 0x4000020000200d00000000000000000000004c0000000000000081380000000000000000000008000041058e fr) (hk : Kept fr z0 s) : KeptO fr z0 (execPinRequest frame s) := by
  unfold execPinRequest
  repeat' first
    | with_reducible assumption
    | with_reducible exact Stands.same
    | ((with_reducible refine Within.trans ?_ hm); rfl)
    | ((with_reducible refine Stands.hit (Within.trans ?_ hm)); rfl)
    | with_reducible apply frameRelease1_kept
    | with_reducible apply slotSettle_kept
    | with_reducible apply State.count_kept
    | with_reducible apply State.event_kept
    | with_reducible apply KeptO.next
    | with_reducible refine KeptO.ite (fun _ => ?_) (fun _ => ?_)
    | with_reducible refine Kept.ite (fun _ => ?_) (fun _ => ?_)
    | with_reducible refine Kept.foldl (fun _ _ _ => ?_) ?_
    | (fail_if_success with_reducible refine Kept.eta ?_); (with_reducible refine Kept.build ?_ rfl rfl ?_ ?_ ?_ ?_ ?_ ?_ ?_ ?_ ?_ ?_ ?_ ?_ ?_ ?_ ?_ ?_ ?_ ?_ ?_ ?_ ?_ ?_ ?_)
    | (with_reducible refine Kept.snd (by assumption) ?_)
    | dsimp only
    | split

theorem execPinRequestResend_kept {fr : Nat} {z0 : State} (src : Nat) (cls : Nat) {s : State}  (hm : Within 0x800e00220420118e090fe00d0000000000000000000000000010000000000001b80000000208000000000008000043078f fr) (hk : Kept fr z0 s) : KeptO fr z0 (execPinRequestResend src cls s) := by
  unfold execPinRequestResend
  repeat' first
    | with_reducible assumption
    | with_reducible exact Stands.same
    | ((with_reducible refine Within.trans ?_ hm); rfl)
    | with_reducible apply sendPin_kept
    | with_reducible apply State.setStream_kept
    | with_reducible apply KeptO.next
    | with_reducible refine KeptO.ite (fun _ => ?_) (fun _ => ?_)
    | with_reducible refine Kept.ite (fun _ => ?_) (fun _ => ?_)
    | with_reducible refine Kept.foldl (fun _ _ _ => ?_) ?_
    | (with_reducible refine Kept.snd (by assumption) ?_)
    | dsimp only
    | split

theorem execPinExpire_kept {fr : Nat} {z0 : State} (dst : Nat) (cls : Nat) {s : State}  (hm : Within 0x400 fr) (hk : Kept fr z0 s) : KeptO fr z0 (execPinExpire dst cls s) := by
  unfold execPinExpire
  repeat' first
    | with_reducible assumption
    | with_reducible exact Stands.same
    | ((with_reducible refine Stands.hit (Within.trans ?_ hm)); rfl)
    | with_reducible apply KeptO.next
    | with_reducible refine KeptO.ite (fun _ => ?_) (fun _ => ?_)
    | with_reducible refine Kept.ite (fun _ => ?_) (fun _ => ?_)
    | with_reducible refine Kept.foldl (fun _ _ _ => ?_) ?_
    | (fail_if_success with_reducible refine Kept.eta ?_); (with_reducible refine Kept.build ?_ rfl rfl ?_ ?_ ?_ ?_ ?_ ?_ ?_ ?_ ?_ ?_ ?_ ?_ ?_ ?_ ?_ ?_ ?_ ?_ ?_ ?_ ?_ ?_ ?_)

theorem grantFront_kept {fr : Nat} {z0 : State} (sl : Nat) (e : Staged) {s : State}  (hm : Within 0x4800e00220527f18e090fee0d80000000000000013022004def90000000000081b8000000020818000000000800004757ef fr) (hk : Kept fr z0 s) : Kept fr z0 (grantFront s sl e) := by
  unfold grantFront
  repeat' first
    | with_reducible assumption
    | with_reducible exact Stands.same
    | ((with_reducible refine Within.trans ?_ hm); rfl)
    | with_reducible apply slotTake_kept
    | with_reducible apply State.modFrame_kept
    | with_reducible apply stagingRenew_kept
    | with_reducible apply stepTwo_kept
    | with_reducible apply fabricArrive_kept
    | with_reducible apply stepThree_kept
    | with_reducible refine Kept.ite (fun _ => ?_) (fun _ => ?_)
    | with_reducible refine Kept.foldl (fun _ _ _ => ?_) ?_
    | with_reducible refine Kept.foldlSnd (fun _ _ _ => ?_) ?_
    | with_reducible refine Kept.iteSnd (fun _ => ?_) (fun _ => ?_)
    | (with_reducible refine Kept.snd (by assumption) ?_)
    | dsimp only
    | split

theorem grantRecirc_kept {fr : Nat} {z0 : State} (sl : Nat) (id : Nat) {s : State}  (hm : Within 0x4800e00220500000e00002e0d80000000000000013022004def80000000000081b8000000020018000000000800004757cf fr) (hk : Kept fr z0 s) : Kept fr z0 (grantRecirc s sl id) := by
  unfold grantRecirc
  repeat' first
    | with_reducible assumption
    | with_reducible exact Stands.same
    | ((with_reducible refine Within.trans ?_ hm); rfl)
    | with_reducible apply slotTake_kept
    | with_reducible apply State.modFrame_kept
    | with_reducible apply stepTwo_kept
    | with_reducible apply stepThree_kept
    | with_reducible apply endPunt_kept
    | with_reducible apply State.count_kept
    | with_reducible refine Kept.ite (fun _ => ?_) (fun _ => ?_)
    | with_reducible refine Kept.foldl (fun _ _ _ => ?_) ?_
    | with_reducible refine Kept.foldlSnd (fun _ _ _ => ?_) ?_
    | with_reducible refine Kept.iteSnd (fun _ => ?_) (fun _ => ?_)
    | (with_reducible refine Kept.snd (by assumption) ?_)
    | dsimp only
    | split

theorem slotStall_kept {fr : Nat} {z0 : State} (sl : Nat) {s : State}  (hm : Within 0x2200000000000000000000000000000000000000000000040002 fr) (hk : Kept fr z0 s) : Kept fr z0 (slotStall s sl) := by
  unfold slotStall
  repeat' first
    | with_reducible assumption
    | with_reducible exact Stands.same
    | ((with_reducible refine Within.trans ?_ hm); rfl)
    | with_reducible apply slotAhead_kept
    | with_reducible apply slotEvent_kept
    | with_reducible apply State.count_kept

theorem execHeaderSlotGrant_kept {fr : Nat} {z0 : State} (slice : Nat) (source : Nat) {s : State}  (hm : Within 0x4800e00220527f18e090fee0d80000000000000013022006fef90000000000081b8000000020818000000000800004757ef fr) (hk : Kept fr z0 s) : KeptO fr z0 (execHeaderSlotGrant slice source s) := by
  unfold execHeaderSlotGrant
  repeat' first
    | with_reducible assumption
    | with_reducible exact Stands.same
    | ((with_reducible refine Within.trans ?_ hm); rfl)
    | ((with_reducible refine Stands.hit (Within.trans ?_ hm)); rfl)
    | with_reducible apply slotStall_kept
    | with_reducible apply grantFront_kept
    | with_reducible apply grantRecirc_kept
    | with_reducible apply KeptO.next
    | with_reducible refine KeptO.ite (fun _ => ?_) (fun _ => ?_)
    | with_reducible refine Kept.ite (fun _ => ?_) (fun _ => ?_)
    | with_reducible refine Kept.foldl (fun _ _ _ => ?_) ?_
    | (fail_if_success with_reducible refine Kept.eta ?_); (with_reducible refine Kept.build ?_ rfl rfl ?_ ?_ ?_ ?_ ?_ ?_ ?_ ?_ ?_ ?_ ?_ ?_ ?_ ?_ ?_ ?_ ?_ ?_ ?_ ?_ ?_ ?_ ?_)
    | (with_reducible refine Kept.snd (by assumption) ?_)
    | dsimp only
    | split

theorem splitCopies_kept {fr : Nat} {z0 : State} (id : Nat) {s : State}  (hm : Within 0x288 fr) (hk : Kept fr z0 s) : Kept fr z0 (splitCopies s id) := by
  unfold splitCopies
  repeat' first
    | with_reducible assumption
    | with_reducible exact Stands.same
    | ((with_reducible refine Within.trans ?_ hm); rfl)
    | ((with_reducible refine Stands.hit (Within.trans ?_ hm)); rfl)
    | with_reducible apply State.newFrame_kept
    | with_reducible refine Kept.ite (fun _ => ?_) (fun _ => ?_)
    | with_reducible refine Kept.foldl (fun _ _ _ => ?_) ?_
    | (fail_if_success with_reducible refine Kept.eta ?_); (with_reducible refine Kept.build ?_ rfl rfl ?_ ?_ ?_ ?_ ?_ ?_ ?_ ?_ ?_ ?_ ?_ ?_ ?_ ?_ ?_ ?_ ?_ ?_ ?_ ?_ ?_ ?_ ?_)

theorem execRecirculate_kept {fr : Nat} {z0 : State} (frame : Nat) {s : State}  (hm : Within 0x100000000000000000000000000000000000000000000002ca fr) (hk : Kept fr z0 s) : KeptO fr z0 (execRecirculate frame s) := by
  unfold execRecirculate
  repeat' first
    | with_reducible assumption
    | with_reducible exact Stands.same
    | ((with_reducible refine Within.trans ?_ hm); rfl)
    | ((with_reducible refine Stands.hit (Within.trans ?_ hm)); rfl)
    | with_reducible apply State.count_kept
    | with_reducible apply splitCopies_kept
    | with_reducible apply State.setFrame_kept
    | with_reducible apply KeptO.next
    | with_reducible refine KeptO.ite (fun _ => ?_) (fun _ => ?_)
    | with_reducible refine Kept.ite (fun _ => ?_) (fun _ => ?_)
    | with_reducible refine Kept.foldl (fun _ _ _ => ?_) ?_
    | (fail_if_success with_reducible refine Kept.eta ?_); (with_reducible refine Kept.build ?_ rfl rfl ?_ ?_ ?_ ?_ ?_ ?_ ?_ ?_ ?_ ?_ ?_ ?_ ?_ ?_ ?_ ?_ ?_ ?_ ?_ ?_ ?_ ?_ ?_)
    | (with_reducible refine Kept.snd (by assumption) ?_)
    | dsimp only
    | split

theorem execFrameRelease_kept {fr : Nat} {z0 : State} (domain : Nat) {s : State}  (hm : Within 0x10800e0022040011ee090fe00d0000000000000000000000000010000000000001b800000002090100000008080000430f8f fr) (hk : Kept fr z0 s) : KeptO fr z0 (execFrameRelease domain s) := by
  unfold execFrameRelease
  repeat' first
    | with_reducible assumption
    | with_reducible exact Stands.same
    | ((with_reducible refine Within.trans ?_ hm); rfl)
    | with_reducible apply drainRefresh_kept
    | with_reducible apply rekeySettle_kept
    | with_reducible apply releaseFrame_kept
    | with_reducible apply KeptO.next
    | with_reducible refine KeptO.ite (fun _ => ?_) (fun _ => ?_)
    | with_reducible refine Kept.ite (fun _ => ?_) (fun _ => ?_)
    | with_reducible refine Kept.foldl (fun _ _ _ => ?_) ?_
    | (with_reducible refine Kept.snd (by assumption) ?_)
    | dsimp only
    | split

theorem slotsLeft_kept {fr : Nat} {z0 : State} (g : Nat) (j : Nat) (n : Nat) {s : State}  (hm : Within 0x40000 fr) (hk : Kept fr z0 s) : Kept fr z0 (slotsLeft s g j n).2 := by
  unfold slotsLeft
  repeat' first
    | with_reducible assumption
    | with_reducible exact Stands.same
    | ((with_reducible refine Stands.hit (Within.trans ?_ hm)); rfl)
    | with_reducible refine Kept.ite (fun _ => ?_) (fun _ => ?_)
    | with_reducible refine Kept.foldl (fun _ _ _ => ?_) ?_
    | (fail_if_success with_reducible refine Kept.eta ?_); (with_reducible refine Kept.build ?_ rfl rfl ?_ ?_ ?_ ?_ ?_ ?_ ?_ ?_ ?_ ?_ ?_ ?_ ?_ ?_ ?_ ?_ ?_ ?_ ?_ ?_ ?_ ?_ ?_)

theorem sliceTick_kept {fr : Nat} {z0 : State} (k : Nat) (i : Nat) {s : State}  (hm : Within 0x3200000000000000000000000000000000000000000000040002 fr) (hk : Kept fr z0 s) : Kept fr z0 (sliceTick k s i) := by
  unfold sliceTick
  repeat' first
    | with_reducible assumption
    | with_reducible exact Stands.same
    | ((with_reducible refine Within.trans ?_ hm); rfl)
    | with_reducible apply slotsLeft_kept
    | with_reducible apply slotEvent_kept
    | with_reducible apply State.count_kept
    | with_reducible refine Kept.ite (fun _ => ?_) (fun _ => ?_)

theorem engineBack_kept {fr : Nat} {z0 : State} (c : Nat) (left : Nat) (r : Nat) (n : Nat) {s : State}  (hm : Within 0x8000000000000000000000000000000000000000000000000000000002 fr) (hk : Kept fr z0 s) : Kept fr z0 (engineBack c left s r n).2 := by
  unfold engineBack
  repeat' first
    | with_reducible assumption
    | with_reducible exact Stands.same
    | ((with_reducible refine Within.trans ?_ hm); rfl)
    | with_reducible apply slotEvent_kept
    | with_reducible apply State.count_kept

theorem clusterTick_kept {fr : Nat} {z0 : State} (k : Nat) (l : List (Nat × Task)) (c : Nat) {s : State}  (hm : Within 0xc000000000000000000000000000000000000000000000000000040002 fr) (hk : Kept fr z0 s) : Kept fr z0 (clusterTick k l s c) := by
  unfold clusterTick
  repeat' first
    | with_reducible assumption
    | with_reducible exact Stands.same
    | ((with_reducible refine Within.trans ?_ hm); rfl)
    | with_reducible apply slotsLeft_kept
    | with_reducible apply engineBack_kept
    | with_reducible apply slotEvent_kept
    | with_reducible apply State.count_kept
    | with_reducible refine Kept.ite (fun _ => ?_) (fun _ => ?_)
    | with_reducible refine Kept.foldl (fun _ _ _ => ?_) ?_
    | with_reducible refine Kept.foldlSnd (fun _ _ _ => ?_) ?_

theorem slotTick_kept {fr : Nat} {z0 : State} {s : State}  (hm : Within 0xc000003200000000000000000000000000000000000000000000040002 fr) (hk : Kept fr z0 s) : Kept fr z0 (slotTick s) := by
  unfold slotTick
  repeat' first
    | with_reducible assumption
    | with_reducible exact Stands.same
    | ((with_reducible refine Within.trans ?_ hm); rfl)
    | with_reducible apply sliceTick_kept
    | with_reducible apply clusterTick_kept
    | with_reducible refine Kept.ite (fun _ => ?_) (fun _ => ?_)
    | with_reducible refine Kept.foldl (fun _ _ _ => ?_) ?_

theorem vatCut_kept {fr : Nat} {z0 : State} (q : Nat) (c : Nat) (lo : Nat) (hi : Nat) {s : State}  (hm : Within 0x220400000e0000200d0000000000000000000000000000000000000001b80000000000000000000008000041038e fr) (hk : Kept fr z0 s) : Kept fr z0 (vatCut s q c lo hi) := by
  unfold vatCut
  repeat' first
    | with_reducible assumption
    | with_reducible exact Stands.same
    | ((with_reducible refine Within.trans ?_ hm); rfl)
    | with_reducible apply putQueue_kept
    | with_reducible apply injEnd_kept
    | with_reducible apply copyEnd_kept
    | with_reducible refine Kept.ite (fun _ => ?_) (fun _ => ?_)
    | with_reducible refine Kept.foldl (fun _ _ _ => ?_) ?_
    | (with_reducible refine Kept.snd (by assumption) ?_)
    | dsimp only
    | split

theorem retire_kept {fr : Nat} {z0 : State} (b : Nat × Nat) {s : State}  (hm : Within 0x2000020000000000000000000000000000000000000000001180000000000000000000000000000010a fr) (hk : Kept fr z0 s) : Kept fr z0 (retire s b) := by
  unfold retire
  repeat' first
    | with_reducible assumption
    | with_reducible exact Stands.same
    | ((with_reducible refine Within.trans ?_ hm); rfl)
    | with_reducible apply bufUncharge_kept
    | with_reducible apply State.setBuf_kept
    | with_reducible apply setPoolFree_kept
    | with_reducible apply State.fset_kept
    | with_reducible refine Kept.ite (fun _ => ?_) (fun _ => ?_)
    | with_reducible refine Kept.foldl (fun _ _ _ => ?_) ?_
    | (with_reducible refine Kept.snd (by assumption) ?_)
    | dsimp only
    | split

theorem execBufEccError_kept {fr : Nat} {z0 : State} (err : BufErr) {s : State}  (hm : Within 0x4000000220500000e000021fd00000000000000013022004c0000000000000081b8000000000018000000000800004157ce fr) (hk : Kept fr z0 s) : KeptO fr z0 (execBufEccError err s) := by
  unfold execBufEccError
  repeat' first
    | with_reducible assumption
    | with_reducible exact Stands.same
    | ((with_reducible refine Within.trans ?_ hm); rfl)
    | with_reducible apply State.count_kept
    | with_reducible apply discard_kept
    | with_reducible apply State.event_kept
    | with_reducible apply vatCut_kept
    | with_reducible apply retire_kept
    | with_reducible apply KeptO.next
    | with_reducible refine KeptO.ite (fun _ => ?_) (fun _ => ?_)
    | with_reducible refine Kept.ite (fun _ => ?_) (fun _ => ?_)
    | with_reducible refine Kept.foldl (fun _ _ _ => ?_) ?_
    | (fail_if_success with_reducible refine Kept.eta ?_); (with_reducible refine Kept.build ?_ rfl rfl ?_ ?_ ?_ ?_ ?_ ?_ ?_ ?_ ?_ ?_ ?_ ?_ ?_ ?_ ?_ ?_ ?_ ?_ ?_ ?_ ?_ ?_ ?_)
    | (with_reducible refine Kept.snd (by assumption) ?_)
    | dsimp only
    | split

end Sys2Proof.Machine
end

