-- ==== Sys2Proof/Laws/KeptHost.lean ====
section
/-! SUPPORT. No function of Machine/HostRows takes back what no command takes back: one lemma each. -/

namespace Sys2Proof.Machine

theorem ringRead_kept {fr : Nat} {z0 : State} (set : Nat) (k : Nat) {s : State}  (hm : Within 0x10000 fr) (hk : Kept fr z0 s) : Kept fr z0 (ringRead s set k) := by
  unfold ringRead
  repeat' first
    | with_reducible assumption
    | with_reducible exact Stands.same
    | with_reducible apply sbMark_kept
    | with_reducible apply State.setRing_kept

theorem fetchCmd_kept {fr : Nat} {z0 : State} (set : Nat) (d : HostDesc) {s : State}  (hm : Within 0x22060000000000000000000000000000000000000000000000000900000000000000000000000000080000410006 fr) (hk : Kept fr z0 s) : Kept fr z0 (fetchCmd s set d) := by
  unfold fetchCmd
  repeat' first
    | with_reducible assumption
    | with_reducible exact Stands.same
    | ((with_reducible refine Within.trans ?_ hm); rfl)
    | ((with_reducible refine Stands.hit (Within.trans ?_ hm)); rfl)
    | with_reducible apply ringRead_kept
    | with_reducible apply State.count_kept
    | with_reducible apply cmdComplete_kept
    | with_reducible apply ringStop_kept
    | with_reducible refine Kept.ite (fun _ => ?_) (fun _ => ?_)
    | with_reducible refine Kept.foldl (fun _ _ _ => ?_) ?_
    | (fail_if_success with_reducible refine Kept.eta ?_); (with_reducible refine Kept.build ?_ rfl rfl ?_ ?_ ?_ ?_ ?_ ?_ ?_ ?_ ?_ ?_ ?_ ?_ ?_ ?_ ?_ ?_ ?_ ?_ ?_ ?_ ?_ ?_ ?_)

theorem injFrame_kept {fr : Nat} {z0 : State} (v : Nat) (data : List Byte) {s : State}  (hm : Within 0x1 fr) (hk : Kept fr z0 s) : Kept fr z0 (injFrame s v data).2 := by
  unfold injFrame
  repeat' first
    | with_reducible assumption
    | with_reducible exact Stands.same
    | with_reducible apply State.draw_kept

theorem fetchInj_kept {fr : Nat} {z0 : State} (set : Nat) (d : HostDesc) {s : State}  (hm : Within 0x800e0022240000000000000000000000000000000000000000000000000900000000000002000000000000080000430007 fr) (hk : Kept fr z0 s) : Kept fr z0 (fetchInj s set d) := by
  unfold fetchInj
  repeat' first
    | with_reducible assumption
    | with_reducible exact Stands.same
    | ((with_reducible refine Within.trans ?_ hm); rfl)
    | ((with_reducible refine Stands.hit (Within.trans ?_ hm)); rfl)
    | with_reducible apply injFrame_kept
    | with_reducible apply ringRead_kept
    | with_reducible apply injComplete_kept
    | with_reducible apply dropSample_kept
    | with_reducible apply ringStop_kept
    | with_reducible apply State.count_kept
    | with_reducible refine Kept.ite (fun _ => ?_) (fun _ => ?_)
    | with_reducible refine Kept.foldl (fun _ _ _ => ?_) ?_
    | with_reducible refine Kept.foldlSnd (fun _ _ _ => ?_) ?_
    | with_reducible refine Kept.iteSnd (fun _ => ?_) (fun _ => ?_)
    | (fail_if_success with_reducible refine Kept.eta ?_); (with_reducible refine Kept.build ?_ rfl rfl ?_ ?_ ?_ ?_ ?_ ?_ ?_ ?_ ?_ ?_ ?_ ?_ ?_ ?_ ?_ ?_ ?_ ?_ ?_ ?_ ?_ ?_ ?_)

theorem fetchAll_kept {fr : Nat} {z0 : State} (set : Nat) (k : Nat) (l : List HostDesc) {s : State}  (hm : Within 0x800e0022260000000000000000000000000000000000000000000000000900000000000002000000000000080000430007 fr) (hk : Kept fr z0 s) : Kept fr z0 (fetchAll s set k l) := by
  induction l generalizing s set k with
  | nil =>
    unfold fetchAll
    repeat' first
      | with_reducible assumption
  | cons y ys ih =>
    unfold fetchAll
    repeat' first
      | with_reducible assumption
      | with_reducible exact Stands.same
      | ((with_reducible refine Within.trans ?_ hm); rfl)
      | with_reducible apply ringStop_kept
      | with_reducible apply fetchCmd_kept
      | with_reducible apply fetchInj_kept
      | with_reducible apply ih
      | with_reducible refine Kept.ite (fun _ => ?_) (fun _ => ?_)

theorem execDescriptorFetch_kept {fr : Nat} {z0 : State} (set : Nat) (ring : Nat) (descs : List HostDesc) {s : State}  (hm : Within 0x800e0022260000000000000000000000000000000000000000000000000900000000000002000000000000080000430007 fr) (hk : Kept fr z0 s) : KeptO fr z0 (execDescriptorFetch set ring descs s) := by
  unfold execDescriptorFetch
  repeat' first
    | with_reducible assumption
    | with_reducible exact Stands.same
    | with_reducible apply fetchAll_kept
    | with_reducible apply KeptO.next
    | with_reducible refine KeptO.ite (fun _ => ?_) (fun _ => ?_)
    | with_reducible refine Kept.ite (fun _ => ?_) (fun _ => ?_)

theorem injEnter_kept {fr : Nat} {z0 : State} (w : Work) {s : State}  (hm : Within 0x800e00220400000e090fe00d8000000000000000000000000010000000000001b8000000020800000000000800004303cf fr) (hk : Kept fr z0 s) : Kept fr z0 (injEnter s w) := by
  unfold injEnter
  repeat' first
    | with_reducible assumption
    | with_reducible exact Stands.same
    | ((with_reducible refine Within.trans ?_ hm); rfl)
    | ((with_reducible refine Stands.hit (Within.trans ?_ hm)); rfl)
    | with_reducible apply injFrame_kept
    | with_reducible apply State.newFrame_kept
    | with_reducible apply enqueue_kept
    | with_reducible apply bufTake_kept
    | with_reducible apply workSet_kept
    | with_reducible apply injComplete_kept
    | with_reducible refine Kept.ite (fun _ => ?_) (fun _ => ?_)
    | with_reducible refine Kept.foldl (fun _ _ _ => ?_) ?_
    | with_reducible refine Kept.foldlSnd (fun _ _ _ => ?_) ?_
    | with_reducible refine Kept.iteSnd (fun _ => ?_) (fun _ => ?_)
    | (fail_if_success with_reducible refine Kept.eta ?_); (with_reducible refine Kept.build ?_ rfl rfl ?_ ?_ ?_ ?_ ?_ ?_ ?_ ?_ ?_ ?_ ?_ ?_ ?_ ?_ ?_ ?_ ?_ ?_ ?_ ?_ ?_ ?_ ?_)

theorem injGo_kept {fr : Nat} {z0 : State} (set : Nat) (index : Nat) (mode : Nat) {s : State}  (hm : Within 0x800e00220400000e090fe00f8000000000000000000000000010000000000001b8000000020800000000000800004303cf fr) (hk : Kept fr z0 s) : Kept fr z0 (injGo s set index mode) := by
  unfold injGo
  repeat' first
    | with_reducible assumption
    | with_reducible exact Stands.same
    | ((with_reducible refine Within.trans ?_ hm); rfl)
    | ((with_reducible refine Stands.hit (Within.trans ?_ hm)); rfl)
    | with_reducible apply injEnter_kept
    | with_reducible apply State.count_kept
    | with_reducible refine Kept.ite (fun _ => ?_) (fun _ => ?_)
    | with_reducible refine Kept.foldl (fun _ _ _ => ?_) ?_
    | (fail_if_success with_reducible refine Kept.eta ?_); (with_reducible refine Kept.build ?_ rfl rfl ?_ ?_ ?_ ?_ ?_ ?_ ?_ ?_ ?_ ?_ ?_ ?_ ?_ ?_ ?_ ?_ ?_ ?_ ?_ ?_ ?_ ?_ ?_)
    | (with_reducible refine Kept.snd (by assumption) ?_)
    | dsimp only
    | split

theorem execInjDirect_kept {fr : Nat} {z0 : State} (set : Nat) (index : Nat) {s : State}  (hm : Within 0x800e00220400000e090fe00f8000000000000000000000000010000000000001b8000000020800000000000800004303cf fr) (hk : Kept fr z0 s) : KeptO fr z0 (execInjDirect set index s) := by
  unfold execInjDirect
  repeat' first
    | with_reducible assumption
    | with_reducible exact Stands.same
    | with_reducible apply injGo_kept
    | with_reducible apply KeptO.next

theorem execInjProcess_kept {fr : Nat} {z0 : State} (set : Nat) (index : Nat) {s : State}  (hm : Within 0x800e00220400000e090fe00f8000000000000000000000000010000000000001b8000000020800000000000800004303cf fr) (hk : Kept fr z0 s) : KeptO fr z0 (execInjProcess set index s) := by
  unfold execInjProcess
  repeat' first
    | with_reducible assumption
    | with_reducible exact Stands.same
    | with_reducible apply injGo_kept
    | with_reducible apply KeptO.next

theorem execInjBufferRetry_kept {fr : Nat} {z0 : State} (set : Nat) {s : State}  (hm : Within 0x800e00220400000e090fe00d8000000000000000000000000010000000000001b8000000020800000000000800004303cf fr) (hk : Kept fr z0 s) : KeptO fr z0 (execInjBufferRetry set s) := by
  unfold execInjBufferRetry
  repeat' first
    | with_reducible assumption
    | with_reducible exact Stands.same
    | with_reducible apply injEnter_kept
    | with_reducible apply KeptO.next
    | with_reducible refine KeptO.ite (fun _ => ?_) (fun _ => ?_)
    | with_reducible refine Kept.ite (fun _ => ?_) (fun _ => ?_)
    | with_reducible refine Kept.foldl (fun _ _ _ => ?_) ?_
    | (with_reducible refine Kept.snd (by assumption) ?_)
    | dsimp only
    | split

theorem puntPolice_kept {fr : Nat} {z0 : State} (p : Punt) {s : State}  (hm : Within 0x300000000000000000000000000000000000000000000000000000000000000000000000000000000000000000000000082 fr) (hk : Kept fr z0 s) : Kept fr z0 (puntPolice s p).2 := by
  unfold puntPolice
  repeat' first
    | with_reducible assumption
    | with_reducible exact Stands.same
    | ((with_reducible refine Within.trans ?_ hm); rfl)
    | with_reducible apply State.count_kept
    | with_reducible apply setPunt_kept
    | with_reducible refine Kept.ite (fun _ => ?_) (fun _ => ?_)
    | with_reducible refine Kept.foldl (fun _ _ _ => ?_) ?_
    | (with_reducible refine Kept.snd (by assumption) ?_)
    | dsimp only
    | split

theorem puntProf_kept {fr : Nat} {z0 : State} (f : Frame) {s : State}  (hm : Within 0x1 fr) (hk : Kept fr z0 s) : Kept fr z0 (puntProf s f).2 := by
  unfold puntProf
  repeat' first
    | with_reducible assumption
    | with_reducible exact Stands.same
    | with_reducible apply State.draw_kept
    | with_reducible refine Kept.ite (fun _ => ?_) (fun _ => ?_)
    | with_reducible refine Kept.foldl (fun _ _ _ => ?_) ?_
    | with_reducible refine Kept.foldlSnd (fun _ _ _ => ?_) ?_
    | with_reducible refine Kept.iteSnd (fun _ => ?_) (fun _ => ?_)

theorem puntWrite_kept {fr : Nat} {z0 : State} (set : Nat) (p : Punt) (d : Nat) {s : State}  (hm : Within 0x80000000000000000000000000000000000000000000000000000000000000000000000000000000000010007 fr) (hk : Kept fr z0 s) : Kept fr z0 (puntWrite s set p d) := by
  unfold puntWrite
  repeat' first
    | with_reducible assumption
    | with_reducible exact Stands.same
    | ((with_reducible refine Within.trans ?_ hm); rfl)
    | with_reducible apply State.emit_kept
    | with_reducible apply puntProf_kept
    | with_reducible apply ringWrite_kept
    | with_reducible apply State.count_kept
    | with_reducible refine Kept.ite (fun _ => ?_) (fun _ => ?_)
    | with_reducible refine Kept.foldl (fun _ _ _ => ?_) ?_

theorem execPuntDeliver_kept {fr : Nat} {z0 : State} (desc : BitVec 512) {s : State}  (hm : Within 0x3800e0010180000020000200d0000000000000000000000000000000000090001380000000200000000000008000043018f fr) (hk : Kept fr z0 s) : KeptO fr z0 (execPuntDeliver desc s) := by
  unfold execPuntDeliver
  repeat' first
    | with_reducible assumption
    | with_reducible exact Stands.same
    | ((with_reducible refine Within.trans ?_ hm); rfl)
    | ((with_reducible refine Stands.hit (Within.trans ?_ hm)); rfl)
    | with_reducible apply puntPolice_kept
    | with_reducible apply dropSample_kept
    | with_reducible apply State.count_kept
    | with_reducible apply ringStop_kept
    | with_reducible apply puntWrite_kept
    | with_reducible apply frameRelease1_kept
    | with_reducible apply KeptO.next
    | with_reducible refine KeptO.ite (fun _ => ?_) (fun _ => ?_)
    | with_reducible refine Kept.ite (fun _ => ?_) (fun _ => ?_)
    | with_reducible refine Kept.foldl (fun _ _ _ => ?_) ?_
    | with_reducible refine Kept.foldlSnd (fun _ _ _ => ?_) ?_
    | with_reducible refine Kept.iteSnd (fun _ => ?_) (fun _ => ?_)
    | (fail_if_success with_reducible refine Kept.eta ?_); (with_reducible refine Kept.build ?_ rfl rfl ?_ ?_ ?_ ?_ ?_ ?_ ?_ ?_ ?_ ?_ ?_ ?_ ?_ ?_ ?_ ?_ ?_ ?_ ?_ ?_ ?_ ?_ ?_)
    | (with_reducible refine Kept.snd (by assumption) ?_)
    | dsimp only
    | split

theorem execStatusBlockWrite_kept {fr : Nat} {z0 : State} (set : Nat) {s : State}  (hm : Within 0x10004 fr) (hk : Kept fr z0 s) : KeptO fr z0 (execStatusBlockWrite set s) := by
  unfold execStatusBlockWrite
  repeat' first
    | with_reducible assumption
    | with_reducible exact Stands.same
    | with_reducible apply sbWrite_kept
    | with_reducible apply KeptO.next
    | with_reducible refine KeptO.ite (fun _ => ?_) (fun _ => ?_)
    | with_reducible refine Kept.ite (fun _ => ?_) (fun _ => ?_)

theorem execIrqModTimer_kept {fr : Nat} {z0 : State} (set : Nat) (ring : Nat) {s : State}  (hm : Within 0x10004 fr) (hk : Kept fr z0 s) : KeptO fr z0 (execIrqModTimer set ring s) := by
  unfold execIrqModTimer
  repeat' first
    | with_reducible assumption
    | with_reducible exact Stands.same
    | with_reducible apply ringMessage_kept
    | with_reducible apply KeptO.next
    | with_reducible refine KeptO.ite (fun _ => ?_) (fun _ => ?_)
    | with_reducible refine Kept.ite (fun _ => ?_) (fun _ => ?_)
    | with_reducible refine Kept.foldl (fun _ _ _ => ?_) ?_
    | (with_reducible refine Kept.snd (by assumption) ?_)
    | dsimp only
    | split

theorem execRingQuiesced_kept {fr : Nat} {z0 : State} (set : Nat) (ring : Nat) {s : State}  (hm : Within 0x100000000000000000000000000000000010000 fr) (hk : Kept fr z0 s) : KeptO fr z0 (execRingQuiesced set ring s) := by
  unfold execRingQuiesced
  repeat' first
    | with_reducible assumption
    | with_reducible exact Stands.same
    | ((with_reducible refine Within.trans ?_ hm); rfl)
    | with_reducible apply State.setRing_kept
    | with_reducible apply State.fset_kept
    | with_reducible apply KeptO.next
    | with_reducible refine KeptO.ite (fun _ => ?_) (fun _ => ?_)
    | with_reducible refine Kept.ite (fun _ => ?_) (fun _ => ?_)

theorem execRingDmaError_kept {fr : Nat} {z0 : State} (set : Nat) (ring : Nat) {s : State}  (hm : Within 0x900000000000000000000000000080000410004 fr) (hk : Kept fr z0 s) : KeptO fr z0 (execRingDmaError set ring s) := by
  unfold execRingDmaError
  repeat' first
    | with_reducible assumption
    | with_reducible exact Stands.same
    | ((with_reducible refine Within.trans ?_ hm); rfl)
    | with_reducible apply ringStop_kept
    | with_reducible apply KeptO.next
    | with_reducible refine KeptO.ite (fun _ => ?_) (fun _ => ?_)
    | with_reducible refine Kept.ite (fun _ => ?_) (fun _ => ?_)

theorem regReset_kept {fr : Nat} {z0 : State} (r : Reg) (i : Nat) {s : State}  (hm : Within 0xfffffffffffffffffffffffffffffffff800000 fr) (hk : Kept fr z0 s) : Kept fr z0 (regReset s r i) := by
  unfold regReset
  repeat' first
    | with_reducible assumption
    | with_reducible exact Stands.same
    | ((with_reducible refine Within.trans ?_ hm); rfl)
    | with_reducible apply State.fset_kept
    | with_reducible refine Kept.ite (fun _ => ?_) (fun _ => ?_)
    | with_reducible refine Kept.foldl (fun _ _ _ => ?_) ?_
    | (fail_if_success with_reducible refine Kept.eta ?_); (with_reducible refine Kept.build ?_ rfl rfl ?_ ?_ ?_ ?_ ?_ ?_ ?_ ?_ ?_ ?_ ?_ ?_ ?_ ?_ ?_ ?_ ?_ ?_ ?_ ?_ ?_ ?_ ?_)
    | (with_reducible refine Kept.snd (by assumption) ?_)
    | dsimp only
    | split
    | ((with_reducible refine Within.anyReg _ (Within.trans ?_ hm)); rfl)

theorem workReset_kept {fr : Nat} {z0 : State} (set : Nat) {s : State}  (hm : Within 0x4000000000000000000000000000000000000000000000000000000000000000000000000000000000000011510a fr) (hk : Kept fr z0 s) : Kept fr z0 (workReset s set) := by
  unfold workReset
  repeat' first
    | with_reducible assumption
    | with_reducible exact Stands.same
    | ((with_reducible refine Within.trans ?_ hm); rfl)
    | ((with_reducible refine Stands.hit (Within.trans ?_ hm)); rfl)
    | with_reducible apply State.count_kept
    | with_reducible apply injRelabel_kept
    | with_reducible apply cmdRelabel_kept
    | with_reducible refine Kept.ite (fun _ => ?_) (fun _ => ?_)
    | with_reducible refine Kept.foldl (fun _ _ _ => ?_) ?_
    | (fail_if_success with_reducible refine Kept.eta ?_); (with_reducible refine Kept.build ?_ rfl rfl ?_ ?_ ?_ ?_ ?_ ?_ ?_ ?_ ?_ ?_ ?_ ?_ ?_ ?_ ?_ ?_ ?_ ?_ ?_ ?_ ?_ ?_ ?_)

theorem setReset_kept {fr : Nat} {z0 : State} (set : Nat) {s : State}  (hm : Within 0x42000000000000000000000000000000000000000000000000000ffffffffffffffffffffffffffffffffff9510e fr) (hk : Kept fr z0 s) : Kept fr z0 (setReset s set) := by
  unfold setReset
  repeat' first
    | with_reducible assumption
    | with_reducible exact Stands.same
    | ((with_reducible refine Within.trans ?_ hm); rfl)
    | ((with_reducible refine Stands.hit (Within.trans ?_ hm)); rfl)
    | with_reducible apply workReset_kept
    | with_reducible apply State.count_kept
    | with_reducible apply regReset_kept
    | with_reducible apply State.setRing_kept
    | with_reducible apply evtUpdate_kept
    | with_reducible refine Kept.ite (fun _ => ?_) (fun _ => ?_)
    | with_reducible refine Kept.foldl (fun _ _ _ => ?_) ?_
    | (fail_if_success with_reducible refine Kept.eta ?_); (with_reducible refine Kept.build ?_ rfl rfl ?_ ?_ ?_ ?_ ?_ ?_ ?_ ?_ ?_ ?_ ?_ ?_ ?_ ?_ ?_ ?_ ?_ ?_ ?_ ?_ ?_ ?_ ?_)
    | (with_reducible refine Kept.snd (by assumption) ?_)
    | dsimp only
    | split

theorem vfReset_kept {fr : Nat} {z0 : State} (fn : Nat) {s : State}  (hm : Within 0x42000000000000000000000000000000000000000000000000000ffffffffffffffffffffffffffffffffff9510e fr) (hk : Kept fr z0 s) : Kept fr z0 (vfReset s fn) := by
  unfold vfReset
  repeat' first
    | with_reducible assumption
    | with_reducible exact Stands.same
    | ((with_reducible refine Stands.hit (Within.trans ?_ hm)); rfl)
    | with_reducible apply setReset_kept
    | with_reducible refine Kept.ite (fun _ => ?_) (fun _ => ?_)
    | with_reducible refine Kept.foldl (fun _ _ _ => ?_) ?_
    | (fail_if_success with_reducible refine Kept.eta ?_); (with_reducible refine Kept.build ?_ rfl rfl ?_ ?_ ?_ ?_ ?_ ?_ ?_ ?_ ?_ ?_ ?_ ?_ ?_ ?_ ?_ ?_ ?_ ?_ ?_ ?_ ?_ ?_ ?_)

theorem levelC_kept {fr : Nat} {z0 : State} {s : State}  (hm : Within 0x42000000000000000000000000000000000000000000000000000ffffffffffffffffffffffffffffffffff9510e fr) (hk : Kept fr z0 s) : Kept fr z0 (levelC s) := by
  unfold levelC
  repeat' first
    | with_reducible assumption
    | with_reducible exact Stands.same
    | ((with_reducible refine Within.trans ?_ hm); rfl)
    | ((with_reducible refine Stands.hit (Within.trans ?_ hm)); rfl)
    | with_reducible apply setReset_kept
    | with_reducible apply State.fset_kept
    | with_reducible apply State.event_kept
    | with_reducible refine Kept.ite (fun _ => ?_) (fun _ => ?_)
    | with_reducible refine Kept.foldl (fun _ _ _ => ?_) ?_
    | (fail_if_success with_reducible refine Kept.eta ?_); (with_reducible refine Kept.build ?_ rfl rfl ?_ ?_ ?_ ?_ ?_ ?_ ?_ ?_ ?_ ?_ ?_ ?_ ?_ ?_ ?_ ?_ ?_ ?_ ?_ ?_ ?_ ?_ ?_)

theorem execHostReset_kept {fr : Nat} {z0 : State} (cause : HostResetCause) {s : State}  (hm : Within 0x42000000000000000000000000000000000000000000000000000ffffffffffffffffffffffffffffffffff9510e fr) (hk : Kept fr z0 s) : KeptO fr z0 (execHostReset cause s) := by
  unfold execHostReset
  repeat' first
    | with_reducible assumption
    | with_reducible exact Stands.same
    | ((with_reducible refine Within.trans ?_ hm); rfl)
    | ((with_reducible refine Stands.hit (Within.trans ?_ hm)); rfl)
    | with_reducible apply levelC_kept
    | with_reducible apply State.fset_kept
    | with_reducible apply KeptO.next
    | with_reducible refine KeptO.ite (fun _ => ?_) (fun _ => ?_)
    | with_reducible refine Kept.ite (fun _ => ?_) (fun _ => ?_)
    | with_reducible refine Kept.foldl (fun _ _ _ => ?_) ?_
    | (fail_if_success with_reducible refine Kept.eta ?_); (with_reducible refine Kept.build ?_ rfl rfl ?_ ?_ ?_ ?_ ?_ ?_ ?_ ?_ ?_ ?_ ?_ ?_ ?_ ?_ ?_ ?_ ?_ ?_ ?_ ?_ ?_ ?_ ?_)
    | (with_reducible refine Kept.snd (by assumption) ?_)
    | dsimp only
    | split

theorem execFunctionLevelReset_kept {fr : Nat} {z0 : State} (fn : Nat) {s : State}  (hm : Within 0x42000000000000000000000000000000000000000000000000000ffffffffffffffffffffffffffffffffff9510e fr) (hk : Kept fr z0 s) : KeptO fr z0 (execFunctionLevelReset fn s) := by
  unfold execFunctionLevelReset
  repeat' first
    | with_reducible assumption
    | with_reducible exact Stands.same
    | with_reducible apply levelC_kept
    | with_reducible apply vfReset_kept
    | with_reducible apply KeptO.next
    | with_reducible refine KeptO.ite (fun _ => ?_) (fun _ => ?_)
    | with_reducible refine Kept.ite (fun _ => ?_) (fun _ => ?_)

theorem execVfEnableClear_kept {fr : Nat} {z0 : State} {s : State}  (hm : Within 0x42000000000000000000000000000000000000000000000000000ffffffffffffffffffffffffffffffffff9510e fr) (hk : Kept fr z0 s) : KeptO fr z0 (execVfEnableClear s) := by
  unfold execVfEnableClear
  repeat' first
    | with_reducible assumption
    | with_reducible exact Stands.same
    | ((with_reducible refine Stands.hit (Within.trans ?_ hm)); rfl)
    | with_reducible apply vfReset_kept
    | with_reducible apply KeptO.next
    | with_reducible refine KeptO.ite (fun _ => ?_) (fun _ => ?_)
    | with_reducible refine Kept.ite (fun _ => ?_) (fun _ => ?_)
    | with_reducible refine Kept.foldl (fun _ _ _ => ?_) ?_
    | (fail_if_success with_reducible refine Kept.eta ?_); (with_reducible refine Kept.build ?_ rfl rfl ?_ ?_ ?_ ?_ ?_ ?_ ?_ ?_ ?_ ?_ ?_ ?_ ?_ ?_ ?_ ?_ ?_ ?_ ?_ ?_ ?_ ?_ ?_)

theorem execVfEnableSet_kept {fr : Nat} {z0 : State} {s : State}  (hm : Within 0x10000 fr) (hk : Kept fr z0 s) : KeptO fr z0 (execVfEnableSet s) := by
  unfold execVfEnableSet
  repeat' first
    | with_reducible assumption
    | with_reducible exact Stands.same
    | ((with_reducible refine Stands.hit (Within.trans ?_ hm)); rfl)
    | with_reducible apply KeptO.next
    | with_reducible refine KeptO.ite (fun _ => ?_) (fun _ => ?_)
    | with_reducible refine Kept.ite (fun _ => ?_) (fun _ => ?_)
    | with_reducible refine Kept.foldl (fun _ _ _ => ?_) ?_
    | (fail_if_success with_reducible refine Kept.eta ?_); (with_reducible refine Kept.build ?_ rfl rfl ?_ ?_ ?_ ?_ ?_ ?_ ?_ ?_ ?_ ?_ ?_ ?_ ?_ ?_ ?_ ?_ ?_ ?_ ?_ ?_ ?_ ?_ ?_)

theorem execPerstRelease_kept {fr : Nat} {z0 : State} {s : State}  (hm : Within 0x90000 fr) (hk : Kept fr z0 s) : KeptO fr z0 (execPerstRelease s) := by
  unfold execPerstRelease
  repeat' first
    | with_reducible assumption
    | with_reducible exact Stands.same
    | ((with_reducible refine Stands.hit (Within.trans ?_ hm)); rfl)
    | with_reducible apply KeptO.next
    | with_reducible refine KeptO.ite (fun _ => ?_) (fun _ => ?_)
    | with_reducible refine Kept.ite (fun _ => ?_) (fun _ => ?_)
    | with_reducible refine Kept.foldl (fun _ _ _ => ?_) ?_
    | (fail_if_success with_reducible refine Kept.eta ?_); (with_reducible refine Kept.build ?_ rfl rfl ?_ ?_ ?_ ?_ ?_ ?_ ?_ ?_ ?_ ?_ ?_ ?_ ?_ ?_ ?_ ?_ ?_ ?_ ?_ ?_ ?_ ?_ ?_)

theorem execPcieEnterCompliance_kept {fr : Nat} {z0 : State} {s : State}  (hm : Within 0x10000 fr) (hk : Kept fr z0 s) : KeptO fr z0 (execPcieEnterCompliance s) := by
  unfold execPcieEnterCompliance
  repeat' first
    | with_reducible assumption
    | with_reducible exact Stands.same
    | ((with_reducible refine Stands.hit (Within.trans ?_ hm)); rfl)
    | with_reducible apply KeptO.next
    | with_reducible refine KeptO.ite (fun _ => ?_) (fun _ => ?_)
    | with_reducible refine Kept.ite (fun _ => ?_) (fun _ => ?_)
    | with_reducible refine Kept.foldl (fun _ _ _ => ?_) ?_
    | (fail_if_success with_reducible refine Kept.eta ?_); (with_reducible refine Kept.build ?_ rfl rfl ?_ ?_ ?_ ?_ ?_ ?_ ?_ ?_ ?_ ?_ ?_ ?_ ?_ ?_ ?_ ?_ ?_ ?_ ?_ ?_ ?_ ?_ ?_)

theorem execBusMasterEnableChange_kept {fr : Nat} {z0 : State} (fn : Nat) (enable : Bool) {s : State}  (hm : Within 0x2040000000000000000000000000000000000000000000000000000000000000000000000000000480000410006 fr) (hk : Kept fr z0 s) : KeptO fr z0 (execBusMasterEnableChange fn enable s) := by
  unfold execBusMasterEnableChange
  repeat' first
    | with_reducible assumption
    | with_reducible exact Stands.same
    | ((with_reducible refine Stands.hit (Within.trans ?_ hm)); rfl)
    | with_reducible apply hostFlush_kept
    | with_reducible apply KeptO.next
    | with_reducible refine KeptO.ite (fun _ => ?_) (fun _ => ?_)
    | with_reducible refine Kept.ite (fun _ => ?_) (fun _ => ?_)
    | with_reducible refine Kept.foldl (fun _ _ _ => ?_) ?_
    | (fail_if_success with_reducible refine Kept.eta ?_); (with_reducible refine Kept.build ?_ rfl rfl ?_ ?_ ?_ ?_ ?_ ?_ ?_ ?_ ?_ ?_ ?_ ?_ ?_ ?_ ?_ ?_ ?_ ?_ ?_ ?_ ?_ ?_ ?_)

end Sys2Proof.Machine
end

