-- ==== Sys2Proof/Laws/KeptRind.lean ====
section
/-! SUPPORT. No function of Machine/Rind, Mailbox, RindRows takes back what no command takes back: one lemma each. -/

namespace Sys2Proof.Machine

theorem fuseSense_kept {fr : Nat} {z0 : State} {s : State}  (hm : Within 0x940000000 fr) (hk : Kept fr z0 s) : Kept fr z0 (fuseSense s) := by
  unfold fuseSense
  repeat' first
    | with_reducible assumption
    | with_reducible exact Stands.same
    | ((with_reducible refine Within.trans ?_ hm); rfl)
    | with_reducible apply State.fset_kept

theorem bootCut_kept {fr : Nat} {z0 : State} {s : State}  (hm : Within 0x100001 fr) (hk : Kept fr z0 s) : Kept fr z0 (bootCut s) := by
  unfold bootCut
  repeat' first
    | with_reducible assumption
    | with_reducible exact Stands.same
    | ((with_reducible refine Within.trans ?_ hm); rfl)
    | ((with_reducible refine Stands.hit (Within.trans ?_ hm)); rfl)
    | with_reducible apply State.draw_kept
    | with_reducible apply bootPut_kept
    | with_reducible refine Kept.ite (fun _ => ?_) (fun _ => ?_)
    | with_reducible refine Kept.foldl (fun _ _ _ => ?_) ?_
    | with_reducible refine Kept.foldlSnd (fun _ _ _ => ?_) ?_
    | with_reducible refine Kept.iteSnd (fun _ => ?_) (fun _ => ?_)
    | (fail_if_success with_reducible refine Kept.eta ?_); (with_reducible refine Kept.build ?_ rfl rfl ?_ ?_ ?_ ?_ ?_ ?_ ?_ ?_ ?_ ?_ ?_ ?_ ?_ ?_ ?_ ?_ ?_ ?_ ?_ ?_ ?_ ?_ ?_)
    | (with_reducible refine Kept.snd (by assumption) ?_)
    | dsimp only
    | split

/-- What a level A or B reset keeps of the banks is a part of them. -/
theorem resetKeep_kept {fr : Nat} {z0 s : State} (keep : List Nat) (hm : Within 0x1fffffffffffffffffffffffffffffffffffffffffffffffffffffffffffffffffffffffffffffffffffffffffffffffffff fr) (h : Kept fr z0 s) : Kept fr z0 (resetKeep s keep) := by
  unfold resetKeep
  apply updShow_kept (Within.trans rfl hm)
  apply fuseSense_kept (Within.trans rfl hm)
  refine State.fset_kept _ _ _ (Within.trans rfl hm) ?_ (Within.trans rfl hm)
  have b : Kept fr z0 (bootCut s) := bootCut_kept (Within.trans rfl hm) h
  refine Kept.ite (fun _ => State.fset_kept _ _ _ (Within.trans rfl hm) ?_ (Within.trans rfl hm)) (fun _ => ?_)
  all_goals
    refine Kept.wiped b (Within.trans rfl hm) rfl rfl rfl rfl rfl rfl (fun e => ?_)
    simp only [State.banksOk, Bool.and_eq_true] at *
    exact ⟨⟨regOk_filter _ e.1.1, ctrOk_nil⟩, ctrOk_nil⟩

theorem resetA_kept {fr : Nat} {z0 : State} {s : State}  (hm : Within 0x1fffffffffffffffffffffffffffffffffffffffffffffffffffffffffffffffffffffffffffffffffffffffffffffffffff fr) (hk : Kept fr z0 s) : Kept fr z0 (resetA s) := by
  unfold resetA
  repeat' first
    | with_reducible assumption
    | with_reducible exact Stands.same
    | with_reducible apply resetKeep_kept

theorem resetB_kept {fr : Nat} {z0 : State} {s : State}  (hm : Within 0x1fffffffffffffffffffffffffffffffffffffffffffffffffffffffffffffffffffffffffffffffffffffffffffffffffff fr) (hk : Kept fr z0 s) : Kept fr z0 (resetB s) := by
  unfold resetB
  repeat' first
    | with_reducible assumption
    | with_reducible exact Stands.same
    | ((with_reducible refine Stands.hit (Within.trans ?_ hm)); rfl)
    | with_reducible apply resetKeep_kept
    | with_reducible refine Kept.ite (fun _ => ?_) (fun _ => ?_)
    | with_reducible refine Kept.foldl (fun _ _ _ => ?_) ?_
    | (fail_if_success with_reducible refine Kept.eta ?_); (with_reducible refine Kept.build ?_ rfl rfl ?_ ?_ ?_ ?_ ?_ ?_ ?_ ?_ ?_ ?_ ?_ ?_ ?_ ?_ ?_ ?_ ?_ ?_ ?_ ?_ ?_ ?_ ?_)

theorem assertSource_kept {fr : Nat} {z0 : State} (r : ResetSource) {s : State}  (hm : Within 0x1fffffffffffffffffffffffffffffffffffffffffffffffffffffffffffffffffffffffffffffffffffffffffffffffffff fr) (hk : Kept fr z0 s) : Kept fr z0 (assertSource s r) := by
  unfold assertSource
  repeat' first
    | with_reducible assumption
    | with_reducible exact Stands.same
    | ((with_reducible refine Within.trans ?_ hm); rfl)
    | ((with_reducible refine Stands.hit (Within.trans ?_ hm)); rfl)
    | with_reducible apply resetA_kept
    | with_reducible apply resetB_kept
    | with_reducible apply State.fset_kept
    | with_reducible refine Kept.ite (fun _ => ?_) (fun _ => ?_)
    | with_reducible refine Kept.foldl (fun _ _ _ => ?_) ?_
    | (fail_if_success with_reducible refine Kept.eta ?_); (with_reducible refine Kept.build ?_ rfl rfl ?_ ?_ ?_ ?_ ?_ ?_ ?_ ?_ ?_ ?_ ?_ ?_ ?_ ?_ ?_ ?_ ?_ ?_ ?_ ?_ ?_ ?_ ?_)
    | (with_reducible refine Kept.snd (by assumption) ?_)
    | dsimp only
    | split
    | ((with_reducible refine Within.anyReg _ (Within.trans ?_ hm)); rfl)

theorem aheadClear_kept {fr : Nat} {z0 : State} (g : Nat) {s : State}  (hm : Within 0x40000 fr) (hk : Kept fr z0 s) : Kept fr z0 (aheadClear s g) := by
  unfold aheadClear
  repeat' first
    | with_reducible assumption
    | with_reducible exact Stands.same
    | ((with_reducible refine Stands.hit (Within.trans ?_ hm)); rfl)
    | with_reducible refine Kept.ite (fun _ => ?_) (fun _ => ?_)
    | with_reducible refine Kept.foldl (fun _ _ _ => ?_) ?_
    | (fail_if_success with_reducible refine Kept.eta ?_); (with_reducible refine Kept.build ?_ rfl rfl ?_ ?_ ?_ ?_ ?_ ?_ ?_ ?_ ?_ ?_ ?_ ?_ ?_ ?_ ?_ ?_ ?_ ?_ ?_ ?_ ?_ ?_ ?_)

theorem groupClear_kept {fr : Nat} {z0 : State} (g : Nat) {s : State}  (hm : Within 0x1ffffffffffffffffffffffffffffffffffffffffffffffffffffffffffff000000000000000000000000000000000040002 fr) (hk : Kept fr z0 s) : Kept fr z0 (groupClear s g) := by
  unfold groupClear
  repeat' first
    | with_reducible assumption
    | with_reducible exact Stands.same
    | ((with_reducible refine Within.trans ?_ hm); rfl)
    | with_reducible apply aheadClear_kept
    | with_reducible refine Kept.groupStep _ _ ?_ (Within.trans rfl hm)

theorem portReset_kept {fr : Nat} {z0 : State} (off : Bool) (q : Nat) {s : State}  (hm : Within 0x800e00220400020e0007e00d0000000000000000000000000064000000000001b80082000200000000000008000043079f fr) (hk : Kept fr z0 s) : Kept fr z0 (portReset s off q) := by
  unfold portReset
  repeat' first
    | with_reducible assumption
    | with_reducible exact Stands.same
    | ((with_reducible refine Within.trans ?_ hm); rfl)
    | with_reducible apply adminOff_kept
    | with_reducible apply declareDown_kept
    | with_reducible apply State.fset_kept
    | with_reducible apply State.setPort_kept
    | simp only [portCleared, List.foldl_cons, List.foldl_nil]
    | with_reducible refine Kept.ite (fun _ => ?_) (fun _ => ?_)

theorem stagedLost_kept {fr : Nat} {z0 : State} (e : Staged) {s : State}  (hm : Within 0x4000000220500000e0000200d00000000000000013022004c0000000000000081b8000000000018000000000800004157ce fr) (hk : Kept fr z0 s) : Kept fr z0 (stagedLost s e) := by
  unfold stagedLost
  repeat' first
    | with_reducible assumption
    | with_reducible exact Stands.same
    | ((with_reducible refine Within.trans ?_ hm); rfl)
    | with_reducible apply State.delFrame_kept
    | with_reducible apply discard_kept
    | with_reducible refine Kept.ite (fun _ => ?_) (fun _ => ?_)

theorem egressReset_kept {fr : Nat} {z0 : State} (q : Nat) {s : State}  (hm : Within 0x200 fr) (hk : Kept fr z0 s) : Kept fr z0 (egressReset s q) := by
  unfold egressReset
  repeat' first
    | with_reducible assumption
    | with_reducible exact Stands.same
    | ((with_reducible refine Stands.hit (Within.trans ?_ hm)); rfl)
    | with_reducible refine Kept.ite (fun _ => ?_) (fun _ => ?_)
    | with_reducible refine Kept.foldl (fun _ _ _ => ?_) ?_
    | (fail_if_success with_reducible refine Kept.eta ?_); (with_reducible refine Kept.build ?_ rfl rfl ?_ ?_ ?_ ?_ ?_ ?_ ?_ ?_ ?_ ?_ ?_ ?_ ?_ ?_ ?_ ?_ ?_ ?_ ?_ ?_ ?_ ?_ ?_)

theorem octetReset_kept {fr : Nat} {z0 : State} (off : Bool) (o : Nat) {s : State}  (hm : Within 0x1ffffffffffffffffffffffffffffffffffffffffffffffffffffffffffff00081b8008260020018000000000800006757ff fr) (hk : Kept fr z0 s) : Kept fr z0 (octetReset s off o) := by
  unfold octetReset
  repeat' first
    | with_reducible assumption
    | with_reducible exact Stands.same
    | ((with_reducible refine Within.trans ?_ hm); rfl)
    | with_reducible apply egressReset_kept
    | with_reducible apply portReset_kept
    | with_reducible apply State.fset_kept
    | with_reducible apply stagedLost_kept
    | with_reducible apply setStaging_kept
    | with_reducible apply laneClear_kept
    | with_reducible apply evtUpdate_kept
    | with_reducible apply groupClear_kept
    | with_reducible refine Kept.ite (fun _ => ?_) (fun _ => ?_)
    | with_reducible refine Kept.foldl (fun _ _ _ => ?_) ?_

theorem sliceReset_kept {fr : Nat} {z0 : State} (i : Nat) {s : State}  (hm : Within 0x1ffffffffffffffffffffffffffffffffffffffffffffffffffffffffffff00000000000000000000000000000000004000a fr) (hk : Kept fr z0 s) : Kept fr z0 (sliceReset s i) := by
  unfold sliceReset
  repeat' first
    | with_reducible assumption
    | with_reducible exact Stands.same
    | ((with_reducible refine Within.trans ?_ hm); rfl)
    | ((with_reducible refine Stands.hit (Within.trans ?_ hm)); rfl)
    | with_reducible apply groupClear_kept
    | with_reducible refine Kept.ite (fun _ => ?_) (fun _ => ?_)
    | with_reducible refine Kept.foldl (fun _ _ _ => ?_) ?_
    | (fail_if_success with_reducible refine Kept.eta ?_); (with_reducible refine Kept.build ?_ rfl rfl ?_ ?_ ?_ ?_ ?_ ?_ ?_ ?_ ?_ ?_ ?_ ?_ ?_ ?_ ?_ ?_ ?_ ?_ ?_ ?_ ?_ ?_ ?_)

theorem clusterReset_kept {fr : Nat} {z0 : State} (c : Nat) {s : State}  (hm : Within 0x1ffffffffffffffffffffffffffffffffffffffffffffffffffffffffffff00000000000000000180000000000000005500a fr) (hk : Kept fr z0 s) : Kept fr z0 (clusterReset s c) := by
  unfold clusterReset
  repeat' first
    | with_reducible assumption
    | with_reducible exact Stands.same
    | ((with_reducible refine Within.trans ?_ hm); rfl)
    | ((with_reducible refine Stands.hit (Within.trans ?_ hm)); rfl)
    | with_reducible apply groupClear_kept
    | with_reducible apply emptyCluster_kept
    | with_reducible refine Kept.ite (fun _ => ?_) (fun _ => ?_)
    | with_reducible refine Kept.foldl (fun _ _ _ => ?_) ?_
    | (fail_if_success with_reducible refine Kept.eta ?_); (with_reducible refine Kept.build ?_ rfl rfl ?_ ?_ ?_ ?_ ?_ ?_ ?_ ?_ ?_ ?_ ?_ ?_ ?_ ?_ ?_ ?_ ?_ ?_ ?_ ?_ ?_ ?_ ?_)

theorem bankHold_kept {fr : Nat} {z0 : State} (b : Nat) {s : State}  (hm : Within 0x4000000000000 fr) (hk : Kept fr z0 s) : Kept fr z0 (bankHold s b) := by
  unfold bankHold
  repeat' first
    | with_reducible assumption
    | with_reducible exact Stands.same
    | ((with_reducible refine Within.trans ?_ hm); rfl)
    | with_reducible apply State.fset_kept

theorem bankFlush_kept {fr : Nat} {z0 : State} (b : Nat) {s : State}  (hm : Within 0x1ffffffffffffffffffffffffffffffffffffffffffffffffffffffffffff000000000000000000000000000000000041802 fr) (hk : Kept fr z0 s) : Kept fr z0 (bankFlush s b) := by
  unfold bankFlush
  repeat' first
    | with_reducible assumption
    | with_reducible exact Stands.same
    | ((with_reducible refine Within.trans ?_ hm); rfl)
    | ((with_reducible refine Stands.hit (Within.trans ?_ hm)); rfl)
    | with_reducible apply writeRecord_kept
    | with_reducible apply groupClear_kept
    | with_reducible refine Kept.ite (fun _ => ?_) (fun _ => ?_)
    | with_reducible refine Kept.foldl (fun _ _ _ => ?_) ?_
    | (fail_if_success with_reducible refine Kept.eta ?_); (with_reducible refine Kept.build ?_ rfl rfl ?_ ?_ ?_ ?_ ?_ ?_ ?_ ?_ ?_ ?_ ?_ ?_ ?_ ?_ ?_ ?_ ?_ ?_ ?_ ?_ ?_ ?_ ?_)

theorem bankOff_kept {fr : Nat} {z0 : State} (b : Nat) {s : State}  (hm : Within 0x1ffffffffffffffffffffffffffffffffffffffffffffffffffffffffffff000000000000000000000000004000000041802 fr) (hk : Kept fr z0 s) : Kept fr z0 (bankOff s b) := by
  unfold bankOff
  repeat' first
    | with_reducible assumption
    | with_reducible exact Stands.same
    | ((with_reducible refine Within.trans ?_ hm); rfl)
    | with_reducible apply bankFlush_kept
    | with_reducible apply State.fset_kept

theorem blockReload_kept {fr : Nat} {z0 : State} (b : Nat) {s : State}  (hm : Within 0x2000 fr) (hk : Kept fr z0 s) : Kept fr z0 (blockReload s b) := by
  unfold blockReload
  repeat' first
    | with_reducible assumption
    | with_reducible exact Stands.same
    | ((with_reducible refine Stands.hit (Within.trans ?_ hm)); rfl)
    | with_reducible refine Kept.ite (fun _ => ?_) (fun _ => ?_)
    | with_reducible refine Kept.foldl (fun _ _ _ => ?_) ?_
    | (fail_if_success with_reducible refine Kept.eta ?_); (with_reducible refine Kept.build ?_ rfl rfl ?_ ?_ ?_ ?_ ?_ ?_ ?_ ?_ ?_ ?_ ?_ ?_ ?_ ?_ ?_ ?_ ?_ ?_ ?_ ?_ ?_ ?_ ?_)

theorem blockLose_kept {fr : Nat} {z0 : State} (b : Nat) {s : State}  (hm : Within 0x2000000000000002000 fr) (hk : Kept fr z0 s) : Kept fr z0 (blockLose s b) := by
  unfold blockLose
  repeat' first
    | with_reducible assumption
    | with_reducible exact Stands.same
    | ((with_reducible refine Within.trans ?_ hm); rfl)
    | ((with_reducible refine Stands.hit (Within.trans ?_ hm)); rfl)
    | with_reducible apply poisonCount_kept
    | with_reducible refine Kept.ite (fun _ => ?_) (fun _ => ?_)
    | with_reducible refine Kept.foldl (fun _ _ _ => ?_) ?_
    | (fail_if_success with_reducible refine Kept.eta ?_); (with_reducible refine Kept.build ?_ rfl rfl ?_ ?_ ?_ ?_ ?_ ?_ ?_ ?_ ?_ ?_ ?_ ?_ ?_ ?_ ?_ ?_ ?_ ?_ ?_ ?_ ?_ ?_ ?_)

theorem loseRecordOf_kept {fr : Nat} {z0 : State} (e : Nat × Task) {s : State}  (hm : Within 0x13020200000000000000000000000000000001800000000000000015002 fr) (hk : Kept fr z0 s) : Kept fr z0 (loseRecordOf s e) := by
  unfold loseRecordOf
  repeat' first
    | with_reducible assumption
    | with_reducible exact Stands.same
    | ((with_reducible refine Within.trans ?_ hm); rfl)
    | with_reducible apply returnTask_kept
    | with_reducible apply State.setTask_kept
    | with_reducible apply loseTask_kept
    | with_reducible refine Kept.ite (fun _ => ?_) (fun _ => ?_)
    | with_reducible refine Kept.foldl (fun _ _ _ => ?_) ?_
    | (with_reducible refine Kept.snd (by assumption) ?_)
    | dsimp only
    | split

theorem fldClear_kept {fr : Nat} {z0 s : State} (f : Fld) (hm : Within 0x0 fr) (h : Kept fr z0 s) (hf : Within (Part.bit (.reg f.reg)) fr) :
    Kept fr z0 (fldClear s f) :=
  Kept.fieldClear f h hf

theorem cellarEmpty_kept {fr : Nat} {z0 : State} {s : State}  (hm : Within 0x807801302020000000000000000000000000000006580000000000000001580a fr) (hk : Kept fr z0 s) : Kept fr z0 (cellarEmpty s) := by
  unfold cellarEmpty
  repeat' first
    | with_reducible assumption
    | with_reducible exact Stands.same
    | ((with_reducible refine Within.trans ?_ hm); rfl)
    | ((with_reducible refine Stands.hit (Within.trans ?_ hm)); rfl)
    | with_reducible apply fldClear_kept
    | with_reducible apply settle_kept
    | with_reducible apply loseRecordOf_kept
    | with_reducible apply orphan_kept
    | with_reducible apply dropCopies_kept
    | with_reducible refine Kept.ite (fun _ => ?_) (fun _ => ?_)
    | with_reducible refine Kept.foldl (fun _ _ _ => ?_) ?_
    | (fail_if_success with_reducible refine Kept.eta ?_); (with_reducible refine Kept.build ?_ rfl rfl ?_ ?_ ?_ ?_ ?_ ?_ ?_ ?_ ?_ ?_ ?_ ?_ ?_ ?_ ?_ ?_ ?_ ?_ ?_ ?_ ?_ ?_ ?_)

theorem vatLose_kept {fr : Nat} {z0 : State} (k : Key) {s : State}  (hm : Within 0x800e00220400000e0000200d0000000000000000000000000060000000000001b80002000200000000000008000043039f fr) (hk : Kept fr z0 s) : Kept fr z0 (vatLose s k) := by
  unfold vatLose
  repeat' first
    | with_reducible assumption
    | with_reducible exact Stands.same
    | ((with_reducible refine Within.trans ?_ hm); rfl)
    | with_reducible apply flushEntries_kept
    | with_reducible apply putQueue_kept
    | with_reducible apply flushMark_kept
    | with_reducible refine Kept.ite (fun _ => ?_) (fun _ => ?_)

theorem vatEmpty_kept {fr : Nat} {z0 : State} {s : State}  (hm : Within 0x800e00220400000e0000200d0000000000000000000000000060000000000001b80002000200000000000008000043039f fr) (hk : Kept fr z0 s) : Kept fr z0 (vatEmpty s) := by
  unfold vatEmpty
  repeat' first
    | with_reducible assumption
    | with_reducible exact Stands.same
    | with_reducible apply vatLose_kept
    | with_reducible refine Kept.ite (fun _ => ?_) (fun _ => ?_)
    | with_reducible refine Kept.foldl (fun _ _ _ => ?_) ?_

theorem buffersGone_kept {fr : Nat} {z0 : State} {s : State}  (hm : Within 0x108 fr) (hk : Kept fr z0 s) : Kept fr z0 (buffersGone s).2 := by
  unfold buffersGone
  repeat' first
    | with_reducible assumption
    | with_reducible exact Stands.same
    | ((with_reducible refine Stands.hit (Within.trans ?_ hm)); rfl)
    | with_reducible refine Kept.ite (fun _ => ?_) (fun _ => ?_)
    | with_reducible refine Kept.foldl (fun _ _ _ => ?_) ?_
    | (fail_if_success with_reducible refine Kept.eta ?_); (with_reducible refine Kept.build ?_ rfl rfl ?_ ?_ ?_ ?_ ?_ ?_ ?_ ?_ ?_ ?_ ?_ ?_ ?_ ?_ ?_ ?_ ?_ ?_ ?_ ?_ ?_ ?_ ?_)

theorem bufferLost_kept {fr : Nat} {z0 : State} (id : Nat) {s : State}  (hm : Within 0x4000000220500000e0000200d00000000000000013022004c0000000000000081b8000000000018000000000800004157ce fr) (hk : Kept fr z0 s) : Kept fr z0 (bufferLost s id) := by
  unfold bufferLost
  repeat' first
    | with_reducible assumption
    | with_reducible exact Stands.same
    | with_reducible apply discard_kept
    | with_reducible refine Kept.ite (fun _ => ?_) (fun _ => ?_)

theorem streamLost_kept {fr : Nat} {z0 : State} (k : Key) {s : State}  (hm : Within 0x20000000000000000000000000000000000000000000000000000000000000000000000000000000000402 fr) (hk : Kept fr z0 s) : Kept fr z0 (streamLost s k) := by
  unfold streamLost
  repeat' first
    | with_reducible assumption
    | with_reducible exact Stands.same
    | ((with_reducible refine Within.trans ?_ hm); rfl)
    | ((with_reducible refine Stands.hit (Within.trans ?_ hm)); rfl)
    | with_reducible apply State.count_kept
    | with_reducible refine Kept.ite (fun _ => ?_) (fun _ => ?_)
    | with_reducible refine Kept.foldl (fun _ _ _ => ?_) ?_
    | (fail_if_success with_reducible refine Kept.eta ?_); (with_reducible refine Kept.build ?_ rfl rfl ?_ ?_ ?_ ?_ ?_ ?_ ?_ ?_ ?_ ?_ ?_ ?_ ?_ ?_ ?_ ?_ ?_ ?_ ?_ ?_ ?_ ?_ ?_)

theorem streamsLost_kept {fr : Nat} {z0 : State} {s : State}  (hm : Within 0x10020000000000000000000000000000000000000000000000000800000000000000000000000000000000402 fr) (hk : Kept fr z0 s) : Kept fr z0 (streamsLost s) := by
  unfold streamsLost
  repeat' first
    | with_reducible assumption
    | with_reducible exact Stands.same
    | ((with_reducible refine Within.trans ?_ hm); rfl)
    | with_reducible apply heldShow_kept
    | with_reducible apply streamLost_kept
    | with_reducible refine Kept.ite (fun _ => ?_) (fun _ => ?_)
    | with_reducible refine Kept.foldl (fun _ _ _ => ?_) ?_

theorem queuesFlush_kept {fr : Nat} {z0 : State} {s : State}  (hm : Within 0x800e00220400000e0000200d0000000000000000000000000060000000000001b80002000200000000000008000043039f fr) (hk : Kept fr z0 s) : Kept fr z0 (queuesFlush s) := by
  unfold queuesFlush
  repeat' first
    | with_reducible assumption
    | with_reducible exact Stands.same
    | ((with_reducible refine Within.trans ?_ hm); rfl)
    | with_reducible apply flushPort_kept
    | with_reducible apply flushStart_kept
    | with_reducible refine Kept.ite (fun _ => ?_) (fun _ => ?_)
    | with_reducible refine Kept.foldl (fun _ _ _ => ?_) ?_

theorem buffersEmpty_kept {fr : Nat} {z0 : State} {s : State}  (hm : Within 0x4800e00220500200e0000200d00000000000000013022004c0060000000000081b8000200020018000000000800004357df fr) (hk : Kept fr z0 s) : Kept fr z0 (buffersEmpty s) := by
  unfold buffersEmpty
  repeat' first
    | with_reducible assumption
    | with_reducible exact Stands.same
    | ((with_reducible refine Within.trans ?_ hm); rfl)
    | with_reducible apply buffersGone_kept
    | with_reducible apply pfcOwe_kept
    | with_reducible apply setPaused_kept
    | with_reducible apply bufferLost_kept
    | with_reducible apply queuesFlush_kept
    | with_reducible apply streamsLost_kept
    | with_reducible apply State.fset_kept
    | with_reducible apply fldClear_kept
    | with_reducible refine Kept.ite (fun _ => ?_) (fun _ => ?_)
    | with_reducible refine Kept.foldl (fun _ _ _ => ?_) ?_

theorem telemReset_kept {fr : Nat} {z0 : State} {s : State}  (hm : Within 0x100000000000000000000000000000000000000000000000000000000000000000000102000000000000000000060002 fr) (hk : Kept fr z0 s) : Kept fr z0 (telemReset s) := by
  unfold telemReset
  repeat' first
    | with_reducible assumption
    | with_reducible exact Stands.same
    | ((with_reducible refine Within.trans ?_ hm); rfl)
    | ((with_reducible refine Stands.hit (Within.trans ?_ hm)); rfl)
    | with_reducible apply State.count_kept
    | with_reducible apply State.fset_kept
    | with_reducible refine Kept.ite (fun _ => ?_) (fun _ => ?_)
    | with_reducible refine Kept.foldl (fun _ _ _ => ?_) ?_
    | (fail_if_success with_reducible refine Kept.eta ?_); (with_reducible refine Kept.build ?_ rfl rfl ?_ ?_ ?_ ?_ ?_ ?_ ?_ ?_ ?_ ?_ ?_ ?_ ?_ ?_ ?_ ?_ ?_ ?_ ?_ ?_ ?_ ?_ ?_)

theorem progLose_kept {fr : Nat} {z0 : State} {s : State}  (hm : Within 0x2 fr) (hk : Kept fr z0 s) : Kept fr z0 (progLose s) := by
  unfold progLose
  repeat' first
    | with_reducible assumption
    | with_reducible exact Stands.same
    | with_reducible refine Kept.progsLost ?_ (Within.trans rfl hm)

theorem telemLose_kept {fr : Nat} {z0 : State} {s : State}  (hm : Within 0x1fffffffffffffffffffffffffffffffffffffffffffffffffffffffffffffffffffffffffffffffffffffffffffff860002 fr) (hk : Kept fr z0 s) : Kept fr z0 (telemLose s) := by
  unfold telemLose
  repeat' first
    | with_reducible assumption
    | with_reducible exact Stands.same
    | ((with_reducible refine Within.trans ?_ hm); rfl)
    | ((with_reducible refine Stands.hit (Within.trans ?_ hm)); rfl)
    | with_reducible apply progLose_kept
    | with_reducible apply regsReset_kept
    | with_reducible apply groupClear_kept
    | with_reducible refine Kept.ite (fun _ => ?_) (fun _ => ?_)
    | with_reducible refine Kept.foldl (fun _ _ _ => ?_) ?_
    | (fail_if_success with_reducible refine Kept.eta ?_); (with_reducible refine Kept.build ?_ rfl rfl ?_ ?_ ?_ ?_ ?_ ?_ ?_ ?_ ?_ ?_ ?_ ?_ ?_ ?_ ?_ ?_ ?_ ?_ ?_ ?_ ?_ ?_ ?_)

theorem mgmtReset_kept {fr : Nat} {z0 : State} {s : State}  (hm : Within 0x280000 fr) (hk : Kept fr z0 s) : Kept fr z0 (mgmtReset s) := by
  unfold mgmtReset
  repeat' first
    | with_reducible assumption
    | with_reducible exact Stands.same
    | ((with_reducible refine Stands.hit (Within.trans ?_ hm)); rfl)
    | with_reducible refine Kept.ite (fun _ => ?_) (fun _ => ?_)
    | with_reducible refine Kept.foldl (fun _ _ _ => ?_) ?_
    | (fail_if_success with_reducible refine Kept.eta ?_); (with_reducible refine Kept.build ?_ rfl rfl ?_ ?_ ?_ ?_ ?_ ?_ ?_ ?_ ?_ ?_ ?_ ?_ ?_ ?_ ?_ ?_ ?_ ?_ ?_ ?_ ?_ ?_ ?_)

theorem setHeld_kept {fr : Nat} {z0 : State} (pd : Nat) (b : Bool) {s : State}  (hm : Within 0x400000000 fr) (hk : Kept fr z0 s) : Kept fr z0 (setHeld s pd b) := by
  unfold setHeld
  repeat' first
    | with_reducible assumption
    | with_reducible exact Stands.same
    | ((with_reducible refine Within.trans ?_ hm); rfl)
    | with_reducible apply State.fset_kept

theorem blockReset_kept {fr : Nat} {z0 : State} (off : Bool) (pd : Nat) {s : State}  (hm : Within 0x1fffffffffffffffffffffffffffffffffffffffffffffffffffffffffffffffffffffffffffffffffffffffffffffffffff fr) (hk : Kept fr z0 s) : Kept fr z0 (blockReset s off pd) := by
  unfold blockReset
  repeat' first
    | with_reducible assumption
    | with_reducible exact Stands.same
    | ((with_reducible refine Within.trans ?_ hm); rfl)
    | with_reducible apply octetReset_kept
    | with_reducible apply sliceReset_kept
    | with_reducible apply clusterReset_kept
    | with_reducible apply bankOff_kept
    | with_reducible apply bankHold_kept
    | with_reducible apply groupClear_kept
    | with_reducible apply blockLose_kept
    | with_reducible apply vatEmpty_kept
    | with_reducible apply cellarEmpty_kept
    | with_reducible apply buffersEmpty_kept
    | with_reducible apply mgmtReset_kept
    | with_reducible apply timeReset_kept
    | with_reducible apply telemLose_kept
    | with_reducible apply telemReset_kept
    | with_reducible refine Kept.ite (fun _ => ?_) (fun _ => ?_)

theorem domainReset_kept {fr : Nat} {z0 : State} (pd : Nat) {s : State}  (hm : Within 0x1fffffffffffffffffffffffffffffffffffffffffffffffffffffffffffffffffffffffffffffffffffffffffffffffffff fr) (hk : Kept fr z0 s) : Kept fr z0 (domainReset s pd) := by
  unfold domainReset
  repeat' first
    | with_reducible assumption
    | with_reducible exact Stands.same
    | ((with_reducible refine Within.trans ?_ hm); rfl)
    | ((with_reducible refine Stands.hit (Within.trans ?_ hm)); rfl)
    | with_reducible apply blockReset_kept
    | with_reducible apply setHeld_kept
    | with_reducible refine Kept.ite (fun _ => ?_) (fun _ => ?_)
    | with_reducible refine Kept.foldl (fun _ _ _ => ?_) ?_
    | (fail_if_success with_reducible refine Kept.eta ?_); (with_reducible refine Kept.build ?_ rfl rfl ?_ ?_ ?_ ?_ ?_ ?_ ?_ ?_ ?_ ?_ ?_ ?_ ?_ ?_ ?_ ?_ ?_ ?_ ?_ ?_ ?_ ?_ ?_)

theorem domainOpen_kept {fr : Nat} {z0 : State} (pd : Nat) {s : State}  (hm : Within 0x400080000 fr) (hk : Kept fr z0 s) : Kept fr z0 (domainOpen s pd) := by
  unfold domainOpen
  repeat' first
    | with_reducible assumption
    | with_reducible exact Stands.same
    | ((with_reducible refine Within.trans ?_ hm); rfl)
    | ((with_reducible refine Stands.hit (Within.trans ?_ hm)); rfl)
    | with_reducible apply setHeld_kept
    | with_reducible refine Kept.ite (fun _ => ?_) (fun _ => ?_)
    | with_reducible refine Kept.foldl (fun _ _ _ => ?_) ?_
    | (fail_if_success with_reducible refine Kept.eta ?_); (with_reducible refine Kept.build ?_ rfl rfl ?_ ?_ ?_ ?_ ?_ ?_ ?_ ?_ ?_ ?_ ?_ ?_ ?_ ?_ ?_ ?_ ?_ ?_ ?_ ?_ ?_ ?_ ?_)

theorem domainOff_kept {fr : Nat} {z0 : State} (pd : Nat) {s : State}  (hm : Within 0x1fffffffffffffffffffffffffffffffffffffffffffffffffffffffffffffffffffffffffffffffffffffffffffffffffff fr) (hk : Kept fr z0 s) : Kept fr z0 (domainOff s pd) := by
  unfold domainOff
  repeat' first
    | with_reducible assumption
    | with_reducible exact Stands.same
    | ((with_reducible refine Within.trans ?_ hm); rfl)
    | with_reducible apply setHeld_kept
    | with_reducible apply blockReset_kept
    | with_reducible apply State.fset_kept
    | with_reducible apply State.event_kept

theorem domainOn_kept {fr : Nat} {z0 : State} (pd : Nat) {s : State}  (hm : Within 0x1fffffffffffffffffffffffffffffffffffffffffffffffffffffffffffffffffffffffffffffffffffffffffffffffffff fr) (hk : Kept fr z0 s) : Kept fr z0 (domainOn s pd) := by
  unfold domainOn
  repeat' first
    | with_reducible assumption
    | with_reducible exact Stands.same
    | ((with_reducible refine Within.trans ?_ hm); rfl)
    | with_reducible apply domainReset_kept
    | with_reducible apply State.fset_kept
    | with_reducible apply reloadTelem_kept
    | with_reducible apply State.event_kept
    | with_reducible refine Kept.ite (fun _ => ?_) (fun _ => ?_)

theorem spdmReply_kept {fr : Nat} {z0 : State} (q : SpdmReq) {s : State}  (hm : Within 0x80004 fr) (hk : Kept fr z0 s) : Kept fr z0 (spdmReply s q) := by
  unfold spdmReply
  repeat' first
    | with_reducible assumption
    | with_reducible exact Stands.same
    | ((with_reducible refine Within.trans ?_ hm); rfl)
    | ((with_reducible refine Stands.hit (Within.trans ?_ hm)); rfl)
    | with_reducible apply State.emit_kept
    | with_reducible refine Kept.ite (fun _ => ?_) (fun _ => ?_)
    | with_reducible refine Kept.foldl (fun _ _ _ => ?_) ?_
    | (fail_if_success with_reducible refine Kept.eta ?_); (with_reducible refine Kept.build ?_ rfl rfl ?_ ?_ ?_ ?_ ?_ ?_ ?_ ?_ ?_ ?_ ?_ ?_ ?_ ?_ ?_ ?_ ?_ ?_ ?_ ?_ ?_ ?_ ?_)
    | (with_reducible refine Kept.snd (by assumption) ?_)
    | dsimp only
    | split

theorem spdmTake_kept {fr : Nat} {z0 : State} (q : SpdmReq) {s : State}  (hm : Within 0x80004 fr) (hk : Kept fr z0 s) : Kept fr z0 (spdmTake s q) := by
  unfold spdmTake
  repeat' first
    | with_reducible assumption
    | with_reducible exact Stands.same
    | ((with_reducible refine Stands.hit (Within.trans ?_ hm)); rfl)
    | with_reducible apply spdmReply_kept
    | with_reducible refine Kept.ite (fun _ => ?_) (fun _ => ?_)
    | with_reducible refine Kept.foldl (fun _ _ _ => ?_) ?_
    | (fail_if_success with_reducible refine Kept.eta ?_); (with_reducible refine Kept.build ?_ rfl rfl ?_ ?_ ?_ ?_ ?_ ?_ ?_ ?_ ?_ ?_ ?_ ?_ ?_ ?_ ?_ ?_ ?_ ?_ ?_ ?_ ?_ ?_ ?_)

theorem execGetVersion_kept {fr : Nat} {z0 : State} {s : State}  (hm : Within 0x80004 fr) (hk : Kept fr z0 s) : KeptO fr z0 (execGetVersion s) := by
  unfold execGetVersion
  repeat' first
    | with_reducible assumption
    | with_reducible exact Stands.same
    | with_reducible apply spdmTake_kept
    | with_reducible apply KeptO.next

theorem execGetCapabilities_kept {fr : Nat} {z0 : State} {s : State}  (hm : Within 0x80004 fr) (hk : Kept fr z0 s) : KeptO fr z0 (execGetCapabilities s) := by
  unfold execGetCapabilities
  repeat' first
    | with_reducible assumption
    | with_reducible exact Stands.same
    | with_reducible apply spdmTake_kept
    | with_reducible apply KeptO.next

theorem execNegotiateAlgorithms_kept {fr : Nat} {z0 : State} (offersP384 : Bool) (offersP256 : Bool) {s : State}  (hm : Within 0x80004 fr) (hk : Kept fr z0 s) : KeptO fr z0 (execNegotiateAlgorithms offersP384 offersP256 s) := by
  unfold execNegotiateAlgorithms
  repeat' first
    | with_reducible assumption
    | with_reducible exact Stands.same
    | with_reducible apply spdmTake_kept
    | with_reducible apply KeptO.next

theorem execGetDigests_kept {fr : Nat} {z0 : State} {s : State}  (hm : Within 0x80004 fr) (hk : Kept fr z0 s) : KeptO fr z0 (execGetDigests s) := by
  unfold execGetDigests
  repeat' first
    | with_reducible assumption
    | with_reducible exact Stands.same
    | with_reducible apply spdmTake_kept
    | with_reducible apply KeptO.next

theorem execGetCertificate_kept {fr : Nat} {z0 : State} (slot : Nat) (offset : Nat) (length : Nat) {s : State}  (hm : Within 0x80004 fr) (hk : Kept fr z0 s) : KeptO fr z0 (execGetCertificate slot offset length s) := by
  unfold execGetCertificate
  repeat' first
    | with_reducible assumption
    | with_reducible exact Stands.same
    | with_reducible apply spdmTake_kept
    | with_reducible apply KeptO.next

theorem execChallenge_kept {fr : Nat} {z0 : State} (slot : Nat) (nonce : List Byte) {s : State}  (hm : Within 0x80004 fr) (hk : Kept fr z0 s) : KeptO fr z0 (execChallenge slot nonce s) := by
  unfold execChallenge
  repeat' first
    | with_reducible assumption
    | with_reducible exact Stands.same
    | with_reducible apply spdmTake_kept
    | with_reducible apply KeptO.next

theorem execGetMeasurements_kept {fr : Nat} {z0 : State} (index : Nat) (nonce : List Byte) {s : State}  (hm : Within 0x80004 fr) (hk : Kept fr z0 s) : KeptO fr z0 (execGetMeasurements index nonce s) := by
  unfold execGetMeasurements
  repeat' first
    | with_reducible assumption
    | with_reducible exact Stands.same
    | with_reducible apply spdmTake_kept
    | with_reducible apply KeptO.next

theorem mbxEnd_kept {fr : Nat} {z0 : State} (internal : Bool) (lost : Bool) (cmd : Nat) (tag : Nat) (status : Nat) (r0 : Nat) (r1 : Nat) {s : State}  (hm : Within 0x2000000000000000000000000000000000000000000000000000000000000000000000000000000480040490006 fr) (hk : Kept fr z0 s) : Kept fr z0 (mbxEnd s internal lost cmd tag status r0 r1) := by
  unfold mbxEnd
  repeat' first
    | with_reducible assumption
    | with_reducible exact Stands.same
    | ((with_reducible refine Within.trans ?_ hm); rfl)
    | ((with_reducible refine Stands.hit (Within.trans ?_ hm)); rfl)
    | with_reducible apply State.fset_kept
    | with_reducible apply State.emit_kept
    | with_reducible apply rspFlush_kept
    | with_reducible apply spdmReply_kept
    | with_reducible refine Kept.ite (fun _ => ?_) (fun _ => ?_)
    | with_reducible refine Kept.foldl (fun _ _ _ => ?_) ?_
    | (fail_if_success with_reducible refine Kept.eta ?_); (with_reducible refine Kept.build ?_ rfl rfl ?_ ?_ ?_ ?_ ?_ ?_ ?_ ?_ ?_ ?_ ?_ ?_ ?_ ?_ ?_ ?_ ?_ ?_ ?_ ?_ ?_ ?_ ?_)

theorem mbxDone_kept {fr : Nat} {z0 : State} (m : MbxReq) (status : Nat) (r0 : Nat) (r1 : Nat) {s : State}  (hm : Within 0x2000000000000000000000000000000000000000000000000000000000000000000000000000000480040490006 fr) (hk : Kept fr z0 s) : Kept fr z0 (mbxDone s m status r0 r1) := by
  unfold mbxDone
  repeat' first
    | with_reducible assumption
    | with_reducible exact Stands.same
    | with_reducible apply mbxEnd_kept

theorem mbxWait_kept {fr : Nat} {z0 : State} (m : MbxReq) (w : MbxWaits) {s : State}  (hm : Within 0x40080000 fr) (hk : Kept fr z0 s) : Kept fr z0 (mbxWait s m w) := by
  unfold mbxWait
  repeat' first
    | with_reducible assumption
    | with_reducible exact Stands.same
    | ((with_reducible refine Within.trans ?_ hm); rfl)
    | ((with_reducible refine Stands.hit (Within.trans ?_ hm)); rfl)
    | with_reducible apply State.fset_kept
    | with_reducible refine Kept.ite (fun _ => ?_) (fun _ => ?_)
    | with_reducible refine Kept.foldl (fun _ _ _ => ?_) ?_
    | (fail_if_success with_reducible refine Kept.eta ?_); (with_reducible refine Kept.build ?_ rfl rfl ?_ ?_ ?_ ?_ ?_ ?_ ?_ ?_ ?_ ?_ ?_ ?_ ?_ ?_ ?_ ?_ ?_ ?_ ?_ ?_ ?_ ?_ ?_)

theorem mbxFinish_kept {fr : Nat} {z0 : State} (status : Nat) (r0 : Nat) (r1 : Nat) {s : State}  (hm : Within 0x2000000000000000000000000000000000000000000000000000000000000000000000000000000480040490006 fr) (hk : Kept fr z0 s) : Kept fr z0 (mbxFinish s status r0 r1) := by
  unfold mbxFinish
  repeat' first
    | with_reducible assumption
    | with_reducible exact Stands.same
    | with_reducible apply mbxEnd_kept
    | with_reducible refine Kept.ite (fun _ => ?_) (fun _ => ?_)
    | with_reducible refine Kept.foldl (fun _ _ _ => ?_) ?_
    | (with_reducible refine Kept.snd (by assumption) ?_)
    | dsimp only
    | split

theorem mbxRow_kept {fr : Nat} {z0 : State} (code : Nat) (m : MbxReq) (f : State → State) {s : State}  (hm : Within 0x2000000000000000000000000000000000000000000000000000000000000000000000000000000480040490006 fr) (hk : Kept fr z0 s) (hf : ∀ s, Kept fr z0 s → Kept fr z0 (f s)) : Kept fr z0 (mbxRow code m f s) := by
  unfold mbxRow
  repeat' first
    | with_reducible assumption
    | with_reducible exact Stands.same
    | ((with_reducible refine Within.trans ?_ hm); rfl)
    | with_reducible apply ringRead_kept
    | with_reducible apply mbxDone_kept
    | with_reducible apply hf
    | with_reducible refine Kept.ite (fun _ => ?_) (fun _ => ?_)

theorem mbxData_kept {fr : Nat} {z0 : State} (m : MbxReq) (b : List Byte) {s : State}  (hm : Within 0x4 fr) (hk : Kept fr z0 s) : Kept fr z0 (mbxData s m b) := by
  unfold mbxData
  repeat' first
    | with_reducible assumption
    | with_reducible exact Stands.same
    | with_reducible apply State.emit_kept

theorem envAccept_kept {fr : Nat} {z0 : State} (m : MbxReq) {s : State}  (hm : Within 0x100000 fr) (hk : Kept fr z0 s) : Kept fr z0 (envAccept s m) := by
  unfold envAccept
  repeat' first
    | with_reducible assumption
    | with_reducible exact Stands.same
    | ((with_reducible refine Stands.hit (Within.trans ?_ hm)); rfl)
    | with_reducible refine Kept.ite (fun _ => ?_) (fun _ => ?_)
    | with_reducible refine Kept.foldl (fun _ _ _ => ?_) ?_
    | (fail_if_success with_reducible refine Kept.eta ?_); (with_reducible refine Kept.build ?_ rfl rfl ?_ ?_ ?_ ?_ ?_ ?_ ?_ ?_ ?_ ?_ ?_ ?_ ?_ ?_ ?_ ?_ ?_ ?_ ?_ ?_ ?_ ?_ ?_)

theorem execGetStatus_kept {fr : Nat} {z0 : State} (m : MbxReq) {s : State}  (hm : Within 0x2000000000000000000000000000000000000000000000000000000000000000000000000000000480040490006 fr) (hk : Kept fr z0 s) : KeptO fr z0 (execGetStatus m s) := by
  unfold execGetStatus
  repeat' first
    | with_reducible assumption
    | with_reducible exact Stands.same
    | with_reducible refine mbxRow_kept _ _ _ ?_ ?_ (fun _ _ => ?_)
    | with_reducible apply mbxDone_kept
    | with_reducible apply KeptO.next

theorem execGetHistory_kept {fr : Nat} {z0 : State} (m : MbxReq) {s : State}  (hm : Within 0x2000000000000000000000000000000000000000000000000000000000000000000000000000000480040490006 fr) (hk : Kept fr z0 s) : KeptO fr z0 (execGetHistory m s) := by
  unfold execGetHistory
  repeat' first
    | with_reducible assumption
    | with_reducible exact Stands.same
    | ((with_reducible refine Within.trans ?_ hm); rfl)
    | with_reducible refine mbxRow_kept _ _ _ ?_ ?_ (fun _ _ => ?_)
    | with_reducible apply mbxDone_kept
    | with_reducible apply mbxData_kept
    | with_reducible apply KeptO.next
    | with_reducible refine KeptO.ite (fun _ => ?_) (fun _ => ?_)
    | with_reducible refine Kept.ite (fun _ => ?_) (fun _ => ?_)

theorem execCauseClear_kept {fr : Nat} {z0 : State} (m : MbxReq) {s : State}  (hm : Within 0x20000000000000000000000000000000000000000000000000000000000000000000000000000004800c0490006 fr) (hk : Kept fr z0 s) : KeptO fr z0 (execCauseClear m s) := by
  unfold execCauseClear
  repeat' first
    | with_reducible assumption
    | with_reducible exact Stands.same
    | ((with_reducible refine Within.trans ?_ hm); rfl)
    | with_reducible refine mbxRow_kept _ _ _ ?_ ?_ (fun _ _ => ?_)
    | with_reducible apply mbxDone_kept
    | with_reducible apply State.fset_kept
    | with_reducible apply KeptO.next
    | with_reducible refine KeptO.ite (fun _ => ?_) (fun _ => ?_)
    | exact Kept.foldlMem (fun s x hx hs => Kept.ite (fun _ => State.fset_kept _ _ _ (Within.trans rfl hm) hs (by
        rw [show x.1.reg = .RESET_CAUSE from (by decide : ∀ x ∈ causeFlds.zipIdx, x.1.reg = .RESET_CAUSE) x hx]
        exact Within.trans rfl hm)) (fun _ => hs)) (by assumption)
    | with_reducible refine Kept.ite (fun _ => ?_) (fun _ => ?_)

theorem execResetChip_kept {fr : Nat} {z0 : State} (m : MbxReq) {s : State}  (hm : Within 0x2000000000000000000000000000000000000000000000000000000000000000000000000000000480040490006 fr) (hk : Kept fr z0 s) : KeptO fr z0 (execResetChip m s) := by
  unfold execResetChip
  repeat' first
    | with_reducible assumption
    | with_reducible exact Stands.same
    | ((with_reducible refine Stands.hit (Within.trans ?_ hm)); rfl)
    | with_reducible refine mbxRow_kept _ _ _ ?_ ?_ (fun _ _ => ?_)
    | with_reducible apply mbxDone_kept
    | with_reducible apply KeptO.next
    | with_reducible refine KeptO.ite (fun _ => ?_) (fun _ => ?_)
    | with_reducible refine Kept.ite (fun _ => ?_) (fun _ => ?_)
    | with_reducible refine Kept.foldl (fun _ _ _ => ?_) ?_
    | (fail_if_success with_reducible refine Kept.eta ?_); (with_reducible refine Kept.build ?_ rfl rfl ?_ ?_ ?_ ?_ ?_ ?_ ?_ ?_ ?_ ?_ ?_ ?_ ?_ ?_ ?_ ?_ ?_ ?_ ?_ ?_ ?_ ?_ ?_)

theorem execResetChipAssert_kept {fr : Nat} {z0 : State} {s : State}  (hm : Within 0x1fffffffffffffffffffffffffffffffffffffffffffffffffffffffffffffffffffffffffffffffffffffffffffffffffff fr) (hk : Kept fr z0 s) : KeptO fr z0 (execResetChipAssert s) := by
  unfold execResetChipAssert
  repeat' first
    | with_reducible assumption
    | with_reducible exact Stands.same
    | with_reducible apply assertSource_kept
    | with_reducible apply KeptO.next
    | with_reducible refine KeptO.ite (fun _ => ?_) (fun _ => ?_)
    | with_reducible refine Kept.ite (fun _ => ?_) (fun _ => ?_)
    | with_reducible refine Kept.foldl (fun _ _ _ => ?_) ?_
    | (with_reducible refine Kept.snd (by assumption) ?_)
    | dsimp only
    | split

theorem execMbxInvalidCommand_kept {fr : Nat} {z0 : State} (m : MbxReq) {s : State}  (hm : Within 0x2000000000000000000000000000000000000000000000000000000000000000000000000000000480040490006 fr) (hk : Kept fr z0 s) : KeptO fr z0 (execMbxInvalidCommand m s) := by
  unfold execMbxInvalidCommand
  repeat' first
    | with_reducible assumption
    | with_reducible exact Stands.same
    | ((with_reducible refine Within.trans ?_ hm); rfl)
    | with_reducible apply mbxDone_kept
    | with_reducible apply ringRead_kept
    | with_reducible apply KeptO.next
    | with_reducible refine KeptO.ite (fun _ => ?_) (fun _ => ?_)
    | with_reducible refine Kept.ite (fun _ => ?_) (fun _ => ?_)

theorem execResetDomain_kept {fr : Nat} {z0 : State} (m : MbxReq) {s : State}  (hm : Within 0x1fffffffffffffffffffffffffffffffffffffffffffffffffffffffffffffffffffffffffffffffffffffffffffffffffff fr) (hk : Kept fr z0 s) : KeptO fr z0 (execResetDomain m s) := by
  unfold execResetDomain
  repeat' first
    | with_reducible assumption
    | with_reducible exact Stands.same
    | ((with_reducible refine Within.trans ?_ hm); rfl)
    | with_reducible refine mbxRow_kept _ _ _ ?_ ?_ (fun _ _ => ?_)
    | with_reducible apply mbxDone_kept
    | with_reducible apply State.fset_kept
    | with_reducible apply mbxWait_kept
    | with_reducible apply domainReset_kept
    | with_reducible apply KeptO.next
    | with_reducible refine KeptO.ite (fun _ => ?_) (fun _ => ?_)
    | with_reducible refine Kept.ite (fun _ => ?_) (fun _ => ?_)

theorem execDomainHold_kept {fr : Nat} {z0 : State} (m : MbxReq) {s : State}  (hm : Within 0x1fffffffffffffffffffffffffffffffffffffffffffffffffffffffffffffffffffffffffffffffffffffffffffffffffff fr) (hk : Kept fr z0 s) : KeptO fr z0 (execDomainHold m s) := by
  unfold execDomainHold
  repeat' first
    | with_reducible assumption
    | with_reducible exact Stands.same
    | ((with_reducible refine Within.trans ?_ hm); rfl)
    | ((with_reducible refine Stands.hit (Within.trans ?_ hm)); rfl)
    | with_reducible refine mbxRow_kept _ _ _ ?_ ?_ (fun _ _ => ?_)
    | with_reducible apply mbxDone_kept
    | with_reducible apply State.fset_kept
    | with_reducible apply domainReset_kept
    | with_reducible apply setHeld_kept
    | with_reducible apply KeptO.next
    | with_reducible refine KeptO.ite (fun _ => ?_) (fun _ => ?_)
    | with_reducible refine Kept.ite (fun _ => ?_) (fun _ => ?_)
    | with_reducible refine Kept.foldl (fun _ _ _ => ?_) ?_
    | (fail_if_success with_reducible refine Kept.eta ?_); (with_reducible refine Kept.build ?_ rfl rfl ?_ ?_ ?_ ?_ ?_ ?_ ?_ ?_ ?_ ?_ ?_ ?_ ?_ ?_ ?_ ?_ ?_ ?_ ?_ ?_ ?_ ?_ ?_)

theorem stepAsk_kept {fr : Nat} {z0 : State} (pd : Nat) (on : Bool) {s : State}  (hm : Within 0x80000 fr) (hk : Kept fr z0 s) : Kept fr z0 (stepAsk s pd on) := by
  unfold stepAsk
  repeat' first
    | with_reducible assumption
    | with_reducible exact Stands.same
    | ((with_reducible refine Stands.hit (Within.trans ?_ hm)); rfl)
    | with_reducible refine Kept.ite (fun _ => ?_) (fun _ => ?_)
    | with_reducible refine Kept.foldl (fun _ _ _ => ?_) ?_
    | (fail_if_success with_reducible refine Kept.eta ?_); (with_reducible refine Kept.build ?_ rfl rfl ?_ ?_ ?_ ?_ ?_ ?_ ?_ ?_ ?_ ?_ ?_ ?_ ?_ ?_ ?_ ?_ ?_ ?_ ?_ ?_ ?_ ?_ ?_)

theorem offHold_kept {fr : Nat} {z0 : State} (pd : Nat) (on : Bool) {s : State}  (hm : Within 0x4000000000000 fr) (hk : Kept fr z0 s) : Kept fr z0 (offHold s pd on) := by
  unfold offHold
  repeat' first
    | with_reducible assumption
    | with_reducible exact Stands.same
    | with_reducible apply bankHold_kept
    | with_reducible refine Kept.ite (fun _ => ?_) (fun _ => ?_)

theorem execPowerSet_kept {fr : Nat} {z0 : State} (m : MbxReq) {s : State}  (hm : Within 0x2000000000000000000000000000000000000000000000000000000000000000000000000000004480040490006 fr) (hk : Kept fr z0 s) : KeptO fr z0 (execPowerSet m s) := by
  unfold execPowerSet
  repeat' first
    | with_reducible assumption
    | with_reducible exact Stands.same
    | ((with_reducible refine Within.trans ?_ hm); rfl)
    | ((with_reducible refine Stands.hit (Within.trans ?_ hm)); rfl)
    | with_reducible refine mbxRow_kept _ _ _ ?_ ?_ (fun _ _ => ?_)
    | with_reducible apply mbxDone_kept
    | with_reducible apply stepAsk_kept
    | with_reducible apply offHold_kept
    | with_reducible apply mbxWait_kept
    | with_reducible apply KeptO.next
    | with_reducible refine KeptO.ite (fun _ => ?_) (fun _ => ?_)
    | with_reducible refine Kept.ite (fun _ => ?_) (fun _ => ?_)
    | with_reducible refine Kept.foldl (fun _ _ _ => ?_) ?_
    | (fail_if_success with_reducible refine Kept.eta ?_); (with_reducible refine Kept.build ?_ rfl rfl ?_ ?_ ?_ ?_ ?_ ?_ ?_ ?_ ?_ ?_ ?_ ?_ ?_ ?_ ?_ ?_ ?_ ?_ ?_ ?_ ?_ ?_ ?_)

theorem switchAnswer_kept {fr : Nat} {z0 : State} (pd : Nat) {s : State}  (hm : Within 0x2000000000000000000000000000000000000000000000000000000000000000000000000000000480040490006 fr) (hk : Kept fr z0 s) : Kept fr z0 (switchAnswer s pd) := by
  unfold switchAnswer
  repeat' first
    | with_reducible assumption
    | with_reducible exact Stands.same
    | with_reducible apply mbxFinish_kept
    | with_reducible refine Kept.ite (fun _ => ?_) (fun _ => ?_)

theorem execDomainSwitchComplete_kept {fr : Nat} {z0 : State} (pd : Nat) {s : State}  (hm : Within 0x1fffffffffffffffffffffffffffffffffffffffffffffffffffffffffffffffffffffffffffffffffffffffffffffffffff fr) (hk : Kept fr z0 s) : KeptO fr z0 (execDomainSwitchComplete pd s) := by
  unfold execDomainSwitchComplete
  repeat' first
    | with_reducible assumption
    | with_reducible exact Stands.same
    | ((with_reducible refine Within.trans ?_ hm); rfl)
    | ((with_reducible refine Stands.hit (Within.trans ?_ hm)); rfl)
    | with_reducible apply switchAnswer_kept
    | with_reducible apply domainOn_kept
    | with_reducible apply domainOff_kept
    | with_reducible apply KeptO.next
    | with_reducible refine KeptO.ite (fun _ => ?_) (fun _ => ?_)
    | with_reducible refine Kept.ite (fun _ => ?_) (fun _ => ?_)
    | with_reducible refine Kept.foldl (fun _ _ _ => ?_) ?_
    | (fail_if_success with_reducible refine Kept.eta ?_); (with_reducible refine Kept.build ?_ rfl rfl ?_ ?_ ?_ ?_ ?_ ?_ ?_ ?_ ?_ ?_ ?_ ?_ ?_ ?_ ?_ ?_ ?_ ?_ ?_ ?_ ?_ ?_ ?_)
    | (with_reducible refine Kept.snd (by assumption) ?_)
    | dsimp only
    | split

theorem execThrottleSet_kept {fr : Nat} {z0 : State} (m : MbxReq) {s : State}  (hm : Within 0x2000000000000000000000000000000000000000000000000000000000000000000000000000000482844490006 fr) (hk : Kept fr z0 s) : KeptO fr z0 (execThrottleSet m s) := by
  unfold execThrottleSet
  repeat' first
    | with_reducible assumption
    | with_reducible exact Stands.same
    | ((with_reducible refine Within.trans ?_ hm); rfl)
    | with_reducible refine mbxRow_kept _ _ _ ?_ ?_ (fun _ _ => ?_)
    | with_reducible apply mbxDone_kept
    | with_reducible apply updShow_kept
    | with_reducible apply State.fset_kept
    | with_reducible apply KeptO.next
    | with_reducible refine KeptO.ite (fun _ => ?_) (fun _ => ?_)
    | with_reducible refine Kept.ite (fun _ => ?_) (fun _ => ?_)

theorem pinShow_kept {fr : Nat} {z0 : State} (b : Bool) {s : State}  (hm : Within 0x10000000000000040000000 fr) (hk : Kept fr z0 s) : Kept fr z0 (pinShow s b) := by
  unfold pinShow
  repeat' first
    | with_reducible assumption
    | with_reducible exact Stands.same
    | ((with_reducible refine Within.trans ?_ hm); rfl)
    | with_reducible apply State.fset_kept

theorem execKeyPin_kept {fr : Nat} {z0 : State} (m : MbxReq) {s : State}  (hm : Within 0x2000000000000000000000000000000000000000000000000000000000000000000010000000000480040590006 fr) (hk : Kept fr z0 s) : KeptO fr z0 (execKeyPin m s) := by
  unfold execKeyPin
  repeat' first
    | with_reducible assumption
    | with_reducible exact Stands.same
    | ((with_reducible refine Within.trans ?_ hm); rfl)
    | ((with_reducible refine Stands.hit (Within.trans ?_ hm)); rfl)
    | with_reducible refine mbxRow_kept _ _ _ ?_ ?_ (fun _ _ => ?_)
    | with_reducible apply mbxDone_kept
    | with_reducible apply envAccept_kept
    | with_reducible apply mbxWait_kept
    | with_reducible apply pinShow_kept
    | with_reducible apply KeptO.next
    | with_reducible refine KeptO.ite (fun _ => ?_) (fun _ => ?_)
    | with_reducible refine Kept.ite (fun _ => ?_) (fun _ => ?_)
    | with_reducible refine Kept.foldl (fun _ _ _ => ?_) ?_
    | (fail_if_success with_reducible refine Kept.eta ?_); (with_reducible refine Kept.build ?_ rfl rfl ?_ ?_ ?_ ?_ ?_ ?_ ?_ ?_ ?_ ?_ ?_ ?_ ?_ ?_ ?_ ?_ ?_ ?_ ?_ ?_ ?_ ?_ ?_)

theorem execKeyUnpin_kept {fr : Nat} {z0 : State} (m : MbxReq) {s : State}  (hm : Within 0x2000000000000000000000000000000000000000000000000000000000000000000010000000000480040590006 fr) (hk : Kept fr z0 s) : KeptO fr z0 (execKeyUnpin m s) := by
  unfold execKeyUnpin
  repeat' first
    | with_reducible assumption
    | with_reducible exact Stands.same
    | ((with_reducible refine Within.trans ?_ hm); rfl)
    | ((with_reducible refine Stands.hit (Within.trans ?_ hm)); rfl)
    | with_reducible refine mbxRow_kept _ _ _ ?_ ?_ (fun _ _ => ?_)
    | with_reducible apply mbxDone_kept
    | with_reducible apply mbxWait_kept
    | with_reducible apply pinShow_kept
    | with_reducible apply envAccept_kept
    | with_reducible apply KeptO.next
    | with_reducible refine KeptO.ite (fun _ => ?_) (fun _ => ?_)
    | with_reducible refine Kept.ite (fun _ => ?_) (fun _ => ?_)
    | with_reducible refine Kept.foldl (fun _ _ _ => ?_) ?_
    | (fail_if_success with_reducible refine Kept.eta ?_); (with_reducible refine Kept.build ?_ rfl rfl ?_ ?_ ?_ ?_ ?_ ?_ ?_ ?_ ?_ ?_ ?_ ?_ ?_ ?_ ?_ ?_ ?_ ?_ ?_ ?_ ?_ ?_ ?_)

theorem execLogRegionWriteDone_kept {fr : Nat} {z0 : State} {s : State}  (hm : Within 0x2000000000000000000000000000000000000000000000000000000000000000000000000000000480040490006 fr) (hk : Kept fr z0 s) : KeptO fr z0 (execLogRegionWriteDone s) := by
  unfold execLogRegionWriteDone
  repeat' first
    | with_reducible assumption
    | with_reducible exact Stands.same
    | with_reducible apply mbxFinish_kept
    | with_reducible apply KeptO.next
    | with_reducible refine KeptO.ite (fun _ => ?_) (fun _ => ?_)
    | with_reducible refine Kept.ite (fun _ => ?_) (fun _ => ?_)
    | with_reducible refine Kept.foldl (fun _ _ _ => ?_) ?_
    | (with_reducible refine Kept.snd (by assumption) ?_)
    | dsimp only
    | split

theorem execRecoveryComplete_kept {fr : Nat} {z0 : State} (m : MbxReq) {s : State}  (hm : Within 0x1fffffffffffffffffffffffffffffffffffffffffffffffffffffffffffffffffffffffffffffffffffffffffffffffffff fr) (hk : Kept fr z0 s) : KeptO fr z0 (execRecoveryComplete m s) := by
  unfold execRecoveryComplete
  repeat' first
    | with_reducible assumption
    | with_reducible exact Stands.same
    | ((with_reducible refine Within.trans ?_ hm); rfl)
    | with_reducible refine mbxRow_kept _ _ _ ?_ ?_ (fun _ _ => ?_)
    | with_reducible apply mbxDone_kept
    | with_reducible apply State.fset_kept
    | with_reducible apply resetB_kept
    | with_reducible apply KeptO.next
    | with_reducible refine KeptO.ite (fun _ => ?_) (fun _ => ?_)
    | with_reducible refine Kept.ite (fun _ => ?_) (fun _ => ?_)

theorem strapSample_kept {fr : Nat} {z0 : State} (known : Bool) {s : State}  (hm : Within 0x80001 fr) (hk : Kept fr z0 s) : Kept fr z0 (strapSample s known) := by
  unfold strapSample
  repeat' first
    | with_reducible assumption
    | with_reducible exact Stands.same
    | ((with_reducible refine Within.trans ?_ hm); rfl)
    | ((with_reducible refine Stands.hit (Within.trans ?_ hm)); rfl)
    | with_reducible apply State.draw_kept
    | with_reducible refine Kept.ite (fun _ => ?_) (fun _ => ?_)
    | with_reducible refine Kept.foldl (fun _ _ _ => ?_) ?_
    | with_reducible refine Kept.foldlSnd (fun _ _ _ => ?_) ?_
    | with_reducible refine Kept.iteSnd (fun _ => ?_) (fun _ => ?_)
    | (fail_if_success with_reducible refine Kept.eta ?_); (with_reducible refine Kept.build ?_ rfl rfl ?_ ?_ ?_ ?_ ?_ ?_ ?_ ?_ ?_ ?_ ?_ ?_ ?_ ?_ ?_ ?_ ?_ ?_ ?_ ?_ ?_ ?_ ?_)

theorem sourcesLeft_kept {fr : Nat} {z0 : State} (l : List ResetSource) (known : Bool) {s : State}  (hm : Within 0x40080001 fr) (hk : Kept fr z0 s) : Kept fr z0 (sourcesLeft s l known) := by
  unfold sourcesLeft
  repeat' first
    | with_reducible assumption
    | with_reducible exact Stands.same
    | ((with_reducible refine Within.trans ?_ hm); rfl)
    | ((with_reducible refine Stands.hit (Within.trans ?_ hm)); rfl)
    | with_reducible apply strapSample_kept
    | with_reducible apply State.fset_kept
    | with_reducible refine Kept.ite (fun _ => ?_) (fun _ => ?_)
    | with_reducible refine Kept.foldl (fun _ _ _ => ?_) ?_
    | (fail_if_success with_reducible refine Kept.eta ?_); (with_reducible refine Kept.build ?_ rfl rfl ?_ ?_ ?_ ?_ ?_ ?_ ?_ ?_ ?_ ?_ ?_ ?_ ?_ ?_ ?_ ?_ ?_ ?_ ?_ ?_ ?_ ?_ ?_)

theorem releaseSource_kept {fr : Nat} {z0 : State} (r : ResetSource) {s : State}  (hm : Within 0x40080001 fr) (hk : Kept fr z0 s) : Kept fr z0 (releaseSource s r) := by
  unfold releaseSource
  repeat' first
    | with_reducible assumption
    | with_reducible exact Stands.same
    | with_reducible apply sourcesLeft_kept
    | with_reducible refine Kept.ite (fun _ => ?_) (fun _ => ?_)

theorem execPowerOn_kept {fr : Nat} {z0 : State} (compatHiz : Bool) {s : State}  (hm : Within 0x40280001 fr) (hk : Kept fr z0 s) : KeptO fr z0 (execPowerOn compatHiz s) := by
  unfold execPowerOn
  repeat' first
    | with_reducible assumption
    | with_reducible exact Stands.same
    | ((with_reducible refine Within.trans ?_ hm); rfl)
    | ((with_reducible refine Stands.hit (Within.trans ?_ hm)); rfl)
    | with_reducible apply releaseSource_kept
    | with_reducible apply KeptO.next
    | with_reducible refine KeptO.ite (fun _ => ?_) (fun _ => ?_)
    | with_reducible refine Kept.ite (fun _ => ?_) (fun _ => ?_)
    | with_reducible refine Kept.foldl (fun _ _ _ => ?_) ?_
    | (fail_if_success with_reducible refine Kept.eta ?_); (with_reducible refine Kept.build ?_ rfl rfl ?_ ?_ ?_ ?_ ?_ ?_ ?_ ?_ ?_ ?_ ?_ ?_ ?_ ?_ ?_ ?_ ?_ ?_ ?_ ?_ ?_ ?_ ?_)

theorem execPowerRailFall_kept {fr : Nat} {z0 : State} (rails : List Nat) {s : State}  (hm : Within 0x1fffffffffffffffffffffffffffffffffffffffffffffffffffffffffffffffffffffffffffffffffffffffffffffffffff fr) (hk : Kept fr z0 s) : KeptO fr z0 (execPowerRailFall rails s) := by
  unfold execPowerRailFall
  repeat' first
    | with_reducible assumption
    | with_reducible exact Stands.same
    | with_reducible apply assertSource_kept
    | with_reducible apply KeptO.next
    | with_reducible refine KeptO.ite (fun _ => ?_) (fun _ => ?_)
    | with_reducible refine Kept.ite (fun _ => ?_) (fun _ => ?_)

theorem execRstNAssert_kept {fr : Nat} {z0 : State} (widthNs : Nat) {s : State}  (hm : Within 0x1fffffffffffffffffffffffffffffffffffffffffffffffffffffffffffffffffffffffffffffffffffffffffffffffffff fr) (hk : Kept fr z0 s) : KeptO fr z0 (execRstNAssert widthNs s) := by
  unfold execRstNAssert
  repeat' first
    | with_reducible assumption
    | with_reducible exact Stands.same
    | ((with_reducible refine Within.trans ?_ hm); rfl)
    | ((with_reducible refine Stands.hit (Within.trans ?_ hm)); rfl)
    | with_reducible apply assertSource_kept
    | with_reducible apply State.draw_kept
    | with_reducible apply KeptO.next
    | with_reducible refine KeptO.ite (fun _ => ?_) (fun _ => ?_)
    | with_reducible refine Kept.ite (fun _ => ?_) (fun _ => ?_)
    | with_reducible refine Kept.foldl (fun _ _ _ => ?_) ?_
    | with_reducible refine Kept.foldlSnd (fun _ _ _ => ?_) ?_
    | with_reducible refine Kept.iteSnd (fun _ => ?_) (fun _ => ?_)
    | (fail_if_success with_reducible refine Kept.eta ?_); (with_reducible refine Kept.build ?_ rfl rfl ?_ ?_ ?_ ?_ ?_ ?_ ?_ ?_ ?_ ?_ ?_ ?_ ?_ ?_ ?_ ?_ ?_ ?_ ?_ ?_ ?_ ?_ ?_)

theorem execResetSourceRelease_kept {fr : Nat} {z0 : State} (source : ResetSource) {s : State}  (hm : Within 0x40290001 fr) (hk : Kept fr z0 s) : KeptO fr z0 (execResetSourceRelease source s) := by
  unfold execResetSourceRelease
  repeat' first
    | with_reducible assumption
    | with_reducible exact Stands.same
    | ((with_reducible refine Within.trans ?_ hm); rfl)
    | ((with_reducible refine Stands.hit (Within.trans ?_ hm)); rfl)
    | with_reducible apply execPerstRelease_kept
    | with_reducible apply releaseSource_kept
    | with_reducible apply KeptO.next
    | with_reducible refine KeptO.ite (fun _ => ?_) (fun _ => ?_)
    | with_reducible refine Kept.ite (fun _ => ?_) (fun _ => ?_)
    | with_reducible refine Kept.foldl (fun _ _ _ => ?_) ?_
    | (fail_if_success with_reducible refine Kept.eta ?_); (with_reducible refine Kept.build ?_ rfl rfl ?_ ?_ ?_ ?_ ?_ ?_ ?_ ?_ ?_ ?_ ?_ ?_ ?_ ?_ ?_ ?_ ?_ ?_ ?_ ?_ ?_ ?_ ?_)
    | (with_reducible refine Kept.snd (by assumption) ?_)
    | dsimp only
    | split

theorem execBrownout_kept {fr : Nat} {z0 : State} (vcoreMv : Nat) {s : State}  (hm : Within 0x1fffffffffffffffffffffffffffffffffffffffffffffffffffffffffffffffffffffffffffffffffffffffffffffffffff fr) (hk : Kept fr z0 s) : KeptO fr z0 (execBrownout vcoreMv s) := by
  unfold execBrownout
  repeat' first
    | with_reducible assumption
    | with_reducible exact Stands.same
    | with_reducible apply assertSource_kept
    | with_reducible apply KeptO.next
    | with_reducible refine KeptO.ite (fun _ => ?_) (fun _ => ?_)
    | with_reducible refine Kept.ite (fun _ => ?_) (fun _ => ?_)

theorem execThermalTrip_kept {fr : Nat} {z0 : State} {s : State}  (hm : Within 0x1fffffffffffffffffffffffffffffffffffffffffffffffffffffffffffffffffffffffffffffffffffffffffffffffffff fr) (hk : Kept fr z0 s) : KeptO fr z0 (execThermalTrip s) := by
  unfold execThermalTrip
  repeat' first
    | with_reducible assumption
    | with_reducible exact Stands.same
    | ((with_reducible refine Stands.hit (Within.trans ?_ hm)); rfl)
    | with_reducible apply assertSource_kept
    | with_reducible apply KeptO.next
    | with_reducible refine KeptO.ite (fun _ => ?_) (fun _ => ?_)
    | with_reducible refine Kept.ite (fun _ => ?_) (fun _ => ?_)
    | with_reducible refine Kept.foldl (fun _ _ _ => ?_) ?_
    | (fail_if_success with_reducible refine Kept.eta ?_); (with_reducible refine Kept.build ?_ rfl rfl ?_ ?_ ?_ ?_ ?_ ?_ ?_ ?_ ?_ ?_ ?_ ?_ ?_ ?_ ?_ ?_ ?_ ?_ ?_ ?_ ?_ ?_ ?_)

theorem execThermalTripRelease_kept {fr : Nat} {z0 : State} {s : State}  (hm : Within 0x40080001 fr) (hk : Kept fr z0 s) : KeptO fr z0 (execThermalTripRelease s) := by
  unfold execThermalTripRelease
  repeat' first
    | with_reducible assumption
    | with_reducible exact Stands.same
    | ((with_reducible refine Stands.hit (Within.trans ?_ hm)); rfl)
    | with_reducible apply releaseSource_kept
    | with_reducible apply KeptO.next
    | with_reducible refine KeptO.ite (fun _ => ?_) (fun _ => ?_)
    | with_reducible refine Kept.ite (fun _ => ?_) (fun _ => ?_)
    | with_reducible refine Kept.foldl (fun _ _ _ => ?_) ?_
    | (fail_if_success with_reducible refine Kept.eta ?_); (with_reducible refine Kept.build ?_ rfl rfl ?_ ?_ ?_ ?_ ?_ ?_ ?_ ?_ ?_ ?_ ?_ ?_ ?_ ?_ ?_ ?_ ?_ ?_ ?_ ?_ ?_ ?_ ?_)

theorem execCriticalStateError_kept {fr : Nat} {z0 : State} (place : Nat) {s : State}  (hm : Within 0x1fffffffffffffffffffffffffffffffffffffffffffffffffffffffffffffffffffffffffffffffffffffffffffffffffff fr) (hk : Kept fr z0 s) : KeptO fr z0 (execCriticalStateError place s) := by
  unfold execCriticalStateError
  repeat' first
    | with_reducible assumption
    | with_reducible exact Stands.same
    | ((with_reducible refine Within.trans ?_ hm); rfl)
    | with_reducible apply assertSource_kept
    | with_reducible apply State.fset_kept
    | with_reducible apply KeptO.next
    | with_reducible refine KeptO.ite (fun _ => ?_) (fun _ => ?_)
    | with_reducible refine Kept.ite (fun _ => ?_) (fun _ => ?_)

theorem startFail_kept {fr : Nat} {z0 : State} (kind : Nat) (step : Nat) {s : State}  (hm : Within 0x1fffffffffffffffffffffffffffffffffffffffffffffffffffffffffffffffffffffffffffffffffffffffffffffffffff fr) (hk : Kept fr z0 s) : Kept fr z0 (startFail s kind step) := by
  unfold startFail
  repeat' first
    | with_reducible assumption
    | with_reducible exact Stands.same
    | ((with_reducible refine Within.trans ?_ hm); rfl)
    | ((with_reducible refine Stands.hit (Within.trans ?_ hm)); rfl)
    | with_reducible apply assertSource_kept
    | with_reducible apply State.fset_kept
    | with_reducible refine Kept.ite (fun _ => ?_) (fun _ => ?_)
    | with_reducible refine Kept.foldl (fun _ _ _ => ?_) ?_
    | (fail_if_success with_reducible refine Kept.eta ?_); (with_reducible refine Kept.build ?_ rfl rfl ?_ ?_ ?_ ?_ ?_ ?_ ?_ ?_ ?_ ?_ ?_ ?_ ?_ ?_ ?_ ?_ ?_ ?_ ?_ ?_ ?_ ?_ ?_)

theorem bootStart_kept {fr : Nat} {z0 : State} {s : State}  (hm : Within 0x2000100000 fr) (hk : Kept fr z0 s) : Kept fr z0 (bootStart s) := by
  unfold bootStart
  repeat' first
    | with_reducible assumption
    | with_reducible exact Stands.same
    | ((with_reducible refine Within.trans ?_ hm); rfl)
    | ((with_reducible refine Stands.hit (Within.trans ?_ hm)); rfl)
    | with_reducible apply bootWrite_kept
    | with_reducible apply State.fset_kept
    | with_reducible refine Kept.ite (fun _ => ?_) (fun _ => ?_)
    | with_reducible refine Kept.foldl (fun _ _ _ => ?_) ?_
    | (fail_if_success with_reducible refine Kept.eta ?_); (with_reducible refine Kept.build ?_ rfl rfl ?_ ?_ ?_ ?_ ?_ ?_ ?_ ?_ ?_ ?_ ?_ ?_ ?_ ?_ ?_ ?_ ?_ ?_ ?_ ?_ ?_ ?_ ?_)

theorem bootTake_kept {fr : Nat} {z0 : State} (slot : Nat) {s : State}  (hm : Within 0x2004180000 fr) (hk : Kept fr z0 s) : Kept fr z0 (bootTake s slot) := by
  unfold bootTake
  repeat' first
    | with_reducible assumption
    | with_reducible exact Stands.same
    | ((with_reducible refine Within.trans ?_ hm); rfl)
    | ((with_reducible refine Stands.hit (Within.trans ?_ hm)); rfl)
    | with_reducible apply updShow_kept
    | with_reducible apply fuseSvn_kept
    | with_reducible refine Kept.ite (fun _ => ?_) (fun _ => ?_)
    | with_reducible refine Kept.foldl (fun _ _ _ => ?_) ?_
    | (fail_if_success with_reducible refine Kept.eta ?_); (with_reducible refine Kept.build ?_ rfl rfl ?_ ?_ ?_ ?_ ?_ ?_ ?_ ?_ ?_ ?_ ?_ ?_ ?_ ?_ ?_ ?_ ?_ ?_ ?_ ?_ ?_ ?_ ?_)

theorem loadBanks_kept {fr : Nat} {z0 : State} {s : State}  (hm : Within 0x4000 fr) (hk : Kept fr z0 s) : Kept fr z0 (loadBanks s) := by
  unfold loadBanks
  repeat' first
    | with_reducible assumption
    | with_reducible exact Stands.same
    | ((with_reducible refine Stands.hit (Within.trans ?_ hm)); rfl)
    | with_reducible refine Kept.ite (fun _ => ?_) (fun _ => ?_)
    | with_reducible refine Kept.foldl (fun _ _ _ => ?_) ?_
    | (fail_if_success with_reducible refine Kept.eta ?_); (with_reducible refine Kept.build ?_ rfl rfl ?_ ?_ ?_ ?_ ?_ ?_ ?_ ?_ ?_ ?_ ?_ ?_ ?_ ?_ ?_ ?_ ?_ ?_ ?_ ?_ ?_ ?_ ?_)

theorem clockOn_kept {fr : Nat} {z0 : State} (n : Nat) {s : State}  (hm : Within 0x80000 fr) (hk : Kept fr z0 s) : Kept fr z0 (clockOn s n) := by
  unfold clockOn
  repeat' first
    | with_reducible assumption
    | with_reducible exact Stands.same
    | ((with_reducible refine Stands.hit (Within.trans ?_ hm)); rfl)
    | with_reducible refine Kept.ite (fun _ => ?_) (fun _ => ?_)
    | with_reducible refine Kept.foldl (fun _ _ _ => ?_) ?_
    | (fail_if_success with_reducible refine Kept.eta ?_); (with_reducible refine Kept.build ?_ rfl rfl ?_ ?_ ?_ ?_ ?_ ?_ ?_ ?_ ?_ ?_ ?_ ?_ ?_ ?_ ?_ ?_ ?_ ?_ ?_ ?_ ?_ ?_ ?_)

theorem memQuarantine_kept {fr : Nat} {z0 : State} (c : Nat) {s : State}  (hm : Within 0xc0000000080000410004 fr) (hk : Kept fr z0 s) : Kept fr z0 (memQuarantine s c) := by
  unfold memQuarantine
  repeat' first
    | with_reducible assumption
    | with_reducible exact Stands.same
    | ((with_reducible refine Within.trans ?_ hm); rfl)
    | with_reducible apply State.fset_kept
    | with_reducible apply State.event_kept

theorem startTests_kept {fr : Nat} {z0 : State} (n : Nat) (t : StartTests) {s : State}  (hm : Within 0xc0000000098000490004 fr) (hk : Kept fr z0 s) : Kept fr z0 (startTests s n t) := by
  unfold startTests
  repeat' first
    | with_reducible assumption
    | with_reducible exact Stands.same
    | ((with_reducible refine Within.trans ?_ hm); rfl)
    | ((with_reducible refine Stands.hit (Within.trans ?_ hm)); rfl)
    | with_reducible apply State.fset_kept
    | with_reducible apply memQuarantine_kept
    | with_reducible refine Kept.ite (fun _ => ?_) (fun _ => ?_)
    | with_reducible refine Kept.foldl (fun _ _ _ => ?_) ?_
    | (fail_if_success with_reducible refine Kept.eta ?_); (with_reducible refine Kept.build ?_ rfl rfl ?_ ?_ ?_ ?_ ?_ ?_ ?_ ?_ ?_ ?_ ?_ ?_ ?_ ?_ ?_ ?_ ?_ ?_ ?_ ?_ ?_ ?_ ?_)
    | (with_reducible refine Kept.snd (by assumption) ?_)
    | dsimp only
    | split

theorem execDomainRelease_kept {fr : Nat} {z0 : State} (step : Nat) (tests : StartTests) {s : State}  (hm : Within 0x1fffffffffffffffffffffffffffffffffffffffffffffffffffffffffffffffffffffffffffffffffffffffffffffffffff fr) (hk : Kept fr z0 s) : KeptO fr z0 (execDomainRelease step tests s) := by
  unfold execDomainRelease
  repeat' first
    | with_reducible assumption
    | with_reducible exact Stands.same
    | ((with_reducible refine Within.trans ?_ hm); rfl)
    | with_reducible apply clockOn_kept
    | with_reducible apply bootTake_kept
    | with_reducible apply startFail_kept
    | with_reducible apply loadDefaults_kept
    | with_reducible apply loadBanks_kept
    | with_reducible apply startTests_kept
    | with_reducible apply KeptO.next
    | with_reducible refine KeptO.ite (fun _ => ?_) (fun _ => ?_)
    | with_reducible refine Kept.ite (fun _ => ?_) (fun _ => ?_)
    | with_reducible refine Kept.foldl (fun _ _ _ => ?_) ?_
    | (with_reducible refine Kept.snd (by assumption) ?_)
    | dsimp only
    | split

theorem recoveryHold_kept {fr : Nat} {z0 : State} {s : State}  (hm : Within 0x2444000000 fr) (hk : Kept fr z0 s) : Kept fr z0 (recoveryHold s) := by
  unfold recoveryHold
  repeat' first
    | with_reducible assumption
    | with_reducible exact Stands.same
    | ((with_reducible refine Within.trans ?_ hm); rfl)
    | with_reducible apply updShow_kept
    | with_reducible apply setHeld_kept
    | with_reducible apply State.fset_kept
    | with_reducible refine Kept.ite (fun _ => ?_) (fun _ => ?_)
    | with_reducible refine Kept.foldl (fun _ _ _ => ?_) ?_

theorem avsStart_kept {fr : Nat} {z0 : State} {s : State}  (hm : Within 0x1000080001 fr) (hk : Kept fr z0 s) : Kept fr z0 (avsStart s) := by
  unfold avsStart
  repeat' first
    | with_reducible assumption
    | with_reducible exact Stands.same
    | ((with_reducible refine Within.trans ?_ hm); rfl)
    | ((with_reducible refine Stands.hit (Within.trans ?_ hm)); rfl)
    | with_reducible apply State.draw_kept
    | with_reducible apply State.fset_kept
    | with_reducible refine Kept.ite (fun _ => ?_) (fun _ => ?_)
    | with_reducible refine Kept.foldl (fun _ _ _ => ?_) ?_
    | with_reducible refine Kept.foldlSnd (fun _ _ _ => ?_) ?_
    | with_reducible refine Kept.iteSnd (fun _ => ?_) (fun _ => ?_)
    | (fail_if_success with_reducible refine Kept.eta ?_); (with_reducible refine Kept.build ?_ rfl rfl ?_ ?_ ?_ ?_ ?_ ?_ ?_ ?_ ?_ ?_ ?_ ?_ ?_ ?_ ?_ ?_ ?_ ?_ ?_ ?_ ?_ ?_ ?_)

theorem rindUp_kept {fr : Nat} {z0 : State} {s : State}  (hm : Within 0x10000000000003444380c01 fr) (hk : Kept fr z0 s) : Kept fr z0 (rindUp s) := by
  unfold rindUp
  repeat' first
    | with_reducible assumption
    | with_reducible exact Stands.same
    | ((with_reducible refine Within.trans ?_ hm); rfl)
    | ((with_reducible refine Stands.hit (Within.trans ?_ hm)); rfl)
    | with_reducible apply State.draw_kept
    | with_reducible apply pinShow_kept
    | with_reducible apply avsStart_kept
    | with_reducible apply recoveryHold_kept
    | with_reducible apply bootStart_kept
    | with_reducible refine Kept.ite (fun _ => ?_) (fun _ => ?_)
    | with_reducible refine Kept.foldl (fun _ _ _ => ?_) ?_
    | with_reducible refine Kept.foldlSnd (fun _ _ _ => ?_) ?_
    | with_reducible refine Kept.iteSnd (fun _ => ?_) (fun _ => ?_)
    | (fail_if_success with_reducible refine Kept.eta ?_); (with_reducible refine Kept.build ?_ rfl rfl ?_ ?_ ?_ ?_ ?_ ?_ ?_ ?_ ?_ ?_ ?_ ?_ ?_ ?_ ?_ ?_ ?_ ?_ ?_ ?_ ?_ ?_ ?_)

theorem domainUp_kept {fr : Nat} {z0 : State} (pd : Nat) {s : State}  (hm : Within 0x600000000 fr) (hk : Kept fr z0 s) : Kept fr z0 (domainUp s pd) := by
  unfold domainUp
  repeat' first
    | with_reducible assumption
    | with_reducible exact Stands.same
    | ((with_reducible refine Within.trans ?_ hm); rfl)
    | with_reducible apply setHeld_kept
    | with_reducible apply State.fset_kept
    | with_reducible refine Kept.ite (fun _ => ?_) (fun _ => ?_)

theorem stepRelease_kept {fr : Nat} {z0 : State} (n : Nat) {s : State}  (hm : Within 0x10000000000003744390c01 fr) (hk : Kept fr z0 s) : Kept fr z0 (stepRelease s n) := by
  unfold stepRelease
  repeat' first
    | with_reducible assumption
    | with_reducible exact Stands.same
    | ((with_reducible refine Within.trans ?_ hm); rfl)
    | ((with_reducible refine Stands.hit (Within.trans ?_ hm)); rfl)
    | with_reducible apply State.fset_kept
    | with_reducible apply domainUp_kept
    | with_reducible apply rindUp_kept
    | with_reducible refine Kept.ite (fun _ => ?_) (fun _ => ?_)
    | with_reducible refine Kept.foldl (fun _ _ _ => ?_) ?_
    | (fail_if_success with_reducible refine Kept.eta ?_); (with_reducible refine Kept.build ?_ rfl rfl ?_ ?_ ?_ ?_ ?_ ?_ ?_ ?_ ?_ ?_ ?_ ?_ ?_ ?_ ?_ ?_ ?_ ?_ ?_ ?_ ?_ ?_ ?_)
    | (with_reducible refine Kept.snd (by assumption) ?_)
    | dsimp only
    | split

theorem execClockGood_kept {fr : Nat} {z0 : State} (step : Nat) {s : State}  (hm : Within 0x10000000000003744390c01 fr) (hk : Kept fr z0 s) : KeptO fr z0 (execClockGood step s) := by
  unfold execClockGood
  repeat' first
    | with_reducible assumption
    | with_reducible exact Stands.same
    | with_reducible apply stepRelease_kept
    | with_reducible apply KeptO.next
    | with_reducible refine KeptO.ite (fun _ => ?_) (fun _ => ?_)
    | with_reducible refine Kept.ite (fun _ => ?_) (fun _ => ?_)
    | with_reducible refine Kept.foldl (fun _ _ _ => ?_) ?_
    | (with_reducible refine Kept.snd (by assumption) ?_)
    | dsimp only
    | split

theorem execReleaseWindowExpire_kept {fr : Nat} {z0 : State} (step : Nat) {s : State}  (hm : Within 0x1fffffffffffffffffffffffffffffffffffffffffffffffffffffffffffffffffffffffffffffffffffffffffffffffffff fr) (hk : Kept fr z0 s) : KeptO fr z0 (execReleaseWindowExpire step s) := by
  unfold execReleaseWindowExpire
  repeat' first
    | with_reducible assumption
    | with_reducible exact Stands.same
    | with_reducible apply startFail_kept
    | with_reducible apply KeptO.next
    | with_reducible refine KeptO.ite (fun _ => ?_) (fun _ => ?_)
    | with_reducible refine Kept.ite (fun _ => ?_) (fun _ => ?_)
    | with_reducible refine Kept.foldl (fun _ _ _ => ?_) ?_
    | (with_reducible refine Kept.snd (by assumption) ?_)
    | dsimp only
    | split

theorem execStartWindowExpire_kept {fr : Nat} {z0 : State} {s : State}  (hm : Within 0x1fffffffffffffffffffffffffffffffffffffffffffffffffffffffffffffffffffffffffffffffffffffffffffffffffff fr) (hk : Kept fr z0 s) : KeptO fr z0 (execStartWindowExpire s) := by
  unfold execStartWindowExpire
  repeat' first
    | with_reducible assumption
    | with_reducible exact Stands.same
    | ((with_reducible refine Within.trans ?_ hm); rfl)
    | with_reducible apply State.draw_kept
    | with_reducible apply startFail_kept
    | with_reducible apply KeptO.next
    | with_reducible refine KeptO.ite (fun _ => ?_) (fun _ => ?_)
    | with_reducible refine Kept.ite (fun _ => ?_) (fun _ => ?_)
    | with_reducible refine Kept.foldl (fun _ _ _ => ?_) ?_
    | with_reducible refine Kept.foldlSnd (fun _ _ _ => ?_) ?_
    | with_reducible refine Kept.iteSnd (fun _ => ?_) (fun _ => ?_)
    | (with_reducible refine Kept.snd (by assumption) ?_)
    | dsimp only
    | split

theorem execWatchdogKick_kept {fr : Nat} {z0 : State} {s : State}  (hm : Within 0x80000 fr) (hk : Kept fr z0 s) : KeptO fr z0 (execWatchdogKick s) := by
  unfold execWatchdogKick
  repeat' first
    | with_reducible assumption
    | with_reducible exact Stands.same
    | ((with_reducible refine Stands.hit (Within.trans ?_ hm)); rfl)
    | with_reducible apply KeptO.next
    | with_reducible refine KeptO.ite (fun _ => ?_) (fun _ => ?_)
    | with_reducible refine Kept.ite (fun _ => ?_) (fun _ => ?_)
    | with_reducible refine Kept.foldl (fun _ _ _ => ?_) ?_
    | (fail_if_success with_reducible refine Kept.eta ?_); (with_reducible refine Kept.build ?_ rfl rfl ?_ ?_ ?_ ?_ ?_ ?_ ?_ ?_ ?_ ?_ ?_ ?_ ?_ ?_ ?_ ?_ ?_ ?_ ?_ ?_ ?_ ?_ ?_)

theorem execWatchdogStage1_kept {fr : Nat} {z0 : State} {s : State}  (hm : Within 0x1fffffffffffffffffffffffffffffffffffffffffffffffffffffffffffffffffffffffffffffffffffffffffffffffffff fr) (hk : Kept fr z0 s) : KeptO fr z0 (execWatchdogStage1 s) := by
  unfold execWatchdogStage1
  repeat' first
    | with_reducible assumption
    | with_reducible exact Stands.same
    | ((with_reducible refine Within.trans ?_ hm); rfl)
    | ((with_reducible refine Stands.hit (Within.trans ?_ hm)); rfl)
    | with_reducible apply domainReset_kept
    | with_reducible apply State.fset_kept
    | with_reducible apply KeptO.next
    | with_reducible refine KeptO.ite (fun _ => ?_) (fun _ => ?_)
    | with_reducible refine Kept.ite (fun _ => ?_) (fun _ => ?_)
    | with_reducible refine Kept.foldl (fun _ _ _ => ?_) ?_
    | (fail_if_success with_reducible refine Kept.eta ?_); (with_reducible refine Kept.build ?_ rfl rfl ?_ ?_ ?_ ?_ ?_ ?_ ?_ ?_ ?_ ?_ ?_ ?_ ?_ ?_ ?_ ?_ ?_ ?_ ?_ ?_ ?_ ?_ ?_)

theorem execWatchdogStage2_kept {fr : Nat} {z0 : State} {s : State}  (hm : Within 0x1fffffffffffffffffffffffffffffffffffffffffffffffffffffffffffffffffffffffffffffffffffffffffffffffffff fr) (hk : Kept fr z0 s) : KeptO fr z0 (execWatchdogStage2 s) := by
  unfold execWatchdogStage2
  repeat' first
    | with_reducible assumption
    | with_reducible exact Stands.same
    | with_reducible apply assertSource_kept
    | with_reducible apply KeptO.next
    | with_reducible refine KeptO.ite (fun _ => ?_) (fun _ => ?_)
    | with_reducible refine Kept.ite (fun _ => ?_) (fun _ => ?_)

theorem stageSet_kept {fr : Nat} {z0 : State} (k : Nat) {s : State}  (hm : Within 0x2000008480800410004 fr) (hk : Kept fr z0 s) : Kept fr z0 (stageSet s k) := by
  unfold stageSet
  repeat' first
    | with_reducible assumption
    | with_reducible exact Stands.same
    | ((with_reducible refine Within.trans ?_ hm); rfl)
    | with_reducible apply State.fset_kept
    | with_reducible apply vatCutShow_kept
    | with_reducible apply State.event_kept
    | with_reducible refine Kept.ite (fun _ => ?_) (fun _ => ?_)

theorem execThermalReport_kept {fr : Nat} {z0 : State} (readings : List Int) {s : State}  (hm : Within 0x2000008482804490005 fr) (hk : Kept fr z0 s) : KeptO fr z0 (execThermalReport readings s) := by
  unfold execThermalReport
  repeat' first
    | with_reducible assumption
    | with_reducible exact Stands.same
    | ((with_reducible refine Within.trans ?_ hm); rfl)
    | ((with_reducible refine Stands.hit (Within.trans ?_ hm)); rfl)
    | with_reducible apply State.fset_kept
    | with_reducible apply State.event_kept
    | with_reducible apply State.draw_kept
    | with_reducible apply updShow_kept
    | with_reducible apply stageSet_kept
    | with_reducible apply KeptO.next
    | with_reducible refine KeptO.ite (fun _ => ?_) (fun _ => ?_)
    | with_reducible refine Kept.ite (fun _ => ?_) (fun _ => ?_)
    | with_reducible refine Kept.foldl (fun _ _ _ => ?_) ?_
    | with_reducible refine Kept.foldlSnd (fun _ _ _ => ?_) ?_
    | with_reducible refine Kept.iteSnd (fun _ => ?_) (fun _ => ?_)
    | (fail_if_success with_reducible refine Kept.eta ?_); (with_reducible refine Kept.build ?_ rfl rfl ?_ ?_ ?_ ?_ ?_ ?_ ?_ ?_ ?_ ?_ ?_ ?_ ?_ ?_ ?_ ?_ ?_ ?_ ?_ ?_ ?_ ?_ ?_)
    | (with_reducible refine Kept.snd (by assumption) ?_)
    | dsimp only
    | split

theorem marginShow_kept {fr : Nat} {z0 : State} {s : State}  (hm : Within 0x483004410004 fr) (hk : Kept fr z0 s) : Kept fr z0 (marginShow s) := by
  unfold marginShow
  repeat' first
    | with_reducible assumption
    | with_reducible exact Stands.same
    | ((with_reducible refine Within.trans ?_ hm); rfl)
    | with_reducible apply State.fset_kept
    | with_reducible apply updShow_kept
    | with_reducible apply State.event_kept
    | with_reducible refine Kept.ite (fun _ => ?_) (fun _ => ?_)

theorem execRailMarginLow_kept {fr : Nat} {z0 : State} (byPin : Bool) (vcoreMv : Nat) {s : State}  (hm : Within 0x483004490004 fr) (hk : Kept fr z0 s) : KeptO fr z0 (execRailMarginLow byPin vcoreMv s) := by
  unfold execRailMarginLow
  repeat' first
    | with_reducible assumption
    | with_reducible exact Stands.same
    | ((with_reducible refine Within.trans ?_ hm); rfl)
    | ((with_reducible refine Stands.hit (Within.trans ?_ hm)); rfl)
    | with_reducible apply marginShow_kept
    | with_reducible apply State.fset_kept
    | with_reducible apply KeptO.next
    | with_reducible refine KeptO.ite (fun _ => ?_) (fun _ => ?_)
    | with_reducible refine Kept.ite (fun _ => ?_) (fun _ => ?_)
    | with_reducible refine Kept.foldl (fun _ _ _ => ?_) ?_
    | (fail_if_success with_reducible refine Kept.eta ?_); (with_reducible refine Kept.build ?_ rfl rfl ?_ ?_ ?_ ?_ ?_ ?_ ?_ ?_ ?_ ?_ ?_ ?_ ?_ ?_ ?_ ?_ ?_ ?_ ?_ ?_ ?_ ?_ ?_)

theorem execRailMarginRestore_kept {fr : Nat} {z0 : State} (vcoreMv : Nat) {s : State}  (hm : Within 0x483004490004 fr) (hk : Kept fr z0 s) : KeptO fr z0 (execRailMarginRestore vcoreMv s) := by
  unfold execRailMarginRestore
  repeat' first
    | with_reducible assumption
    | with_reducible exact Stands.same
    | ((with_reducible refine Within.trans ?_ hm); rfl)
    | ((with_reducible refine Stands.hit (Within.trans ?_ hm)); rfl)
    | with_reducible apply marginShow_kept
    | with_reducible apply State.fset_kept
    | with_reducible apply KeptO.next
    | with_reducible refine KeptO.ite (fun _ => ?_) (fun _ => ?_)
    | with_reducible refine Kept.ite (fun _ => ?_) (fun _ => ?_)
    | with_reducible refine Kept.foldl (fun _ _ _ => ?_) ?_
    | (fail_if_success with_reducible refine Kept.eta ?_); (with_reducible refine Kept.build ?_ rfl rfl ?_ ?_ ?_ ?_ ?_ ?_ ?_ ?_ ?_ ?_ ?_ ?_ ?_ ?_ ?_ ?_ ?_ ?_ ?_ ?_ ?_ ?_ ?_)

theorem avsMiss_kept {fr : Nat} {z0 : State} {s : State}  (hm : Within 0x481000490004 fr) (hk : Kept fr z0 s) : Kept fr z0 (avsMiss s) := by
  unfold avsMiss
  repeat' first
    | with_reducible assumption
    | with_reducible exact Stands.same
    | ((with_reducible refine Within.trans ?_ hm); rfl)
    | ((with_reducible refine Stands.hit (Within.trans ?_ hm)); rfl)
    | with_reducible apply State.fset_kept
    | with_reducible apply State.event_kept
    | with_reducible refine Kept.ite (fun _ => ?_) (fun _ => ?_)
    | with_reducible refine Kept.foldl (fun _ _ _ => ?_) ?_
    | (fail_if_success with_reducible refine Kept.eta ?_); (with_reducible refine Kept.build ?_ rfl rfl ?_ ?_ ?_ ?_ ?_ ?_ ?_ ?_ ?_ ?_ ?_ ?_ ?_ ?_ ?_ ?_ ?_ ?_ ?_ ?_ ?_ ?_ ?_)

theorem execAvsTargetRevise_kept {fr : Nat} {z0 : State} (targetMv : Nat) (answered : Bool) {s : State}  (hm : Within 0x481000490004 fr) (hk : Kept fr z0 s) : KeptO fr z0 (execAvsTargetRevise targetMv answered s) := by
  unfold execAvsTargetRevise
  repeat' first
    | with_reducible assumption
    | with_reducible exact Stands.same
    | ((with_reducible refine Within.trans ?_ hm); rfl)
    | ((with_reducible refine Stands.hit (Within.trans ?_ hm)); rfl)
    | with_reducible apply State.fset_kept
    | with_reducible apply avsMiss_kept
    | with_reducible apply KeptO.next
    | with_reducible refine KeptO.ite (fun _ => ?_) (fun _ => ?_)
    | with_reducible refine Kept.ite (fun _ => ?_) (fun _ => ?_)
    | with_reducible refine Kept.foldl (fun _ _ _ => ?_) ?_
    | (fail_if_success with_reducible refine Kept.eta ?_); (with_reducible refine Kept.build ?_ rfl rfl ?_ ?_ ?_ ?_ ?_ ?_ ?_ ?_ ?_ ?_ ?_ ?_ ?_ ?_ ?_ ?_ ?_ ?_ ?_ ?_ ?_ ?_ ?_)

theorem execAvsRetry_kept {fr : Nat} {z0 : State} (answered : Bool) (vcoreMv : Nat) (icoreA : Nat) {s : State}  (hm : Within 0x1000080000 fr) (hk : Kept fr z0 s) : KeptO fr z0 (execAvsRetry answered vcoreMv icoreA s) := by
  unfold execAvsRetry
  repeat' first
    | with_reducible assumption
    | with_reducible exact Stands.same
    | ((with_reducible refine Within.trans ?_ hm); rfl)
    | ((with_reducible refine Stands.hit (Within.trans ?_ hm)); rfl)
    | with_reducible apply State.fset_kept
    | with_reducible apply KeptO.next
    | with_reducible refine KeptO.ite (fun _ => ?_) (fun _ => ?_)
    | with_reducible refine Kept.ite (fun _ => ?_) (fun _ => ?_)
    | with_reducible refine Kept.foldl (fun _ _ _ => ?_) ?_
    | (fail_if_success with_reducible refine Kept.eta ?_); (with_reducible refine Kept.build ?_ rfl rfl ?_ ?_ ?_ ?_ ?_ ?_ ?_ ?_ ?_ ?_ ?_ ?_ ?_ ?_ ?_ ?_ ?_ ?_ ?_ ?_ ?_ ?_ ?_)

theorem execSliceRestoreDone_kept {fr : Nat} {z0 : State} (slice : Nat) {s : State}  (hm : Within 0x400080000 fr) (hk : Kept fr z0 s) : KeptO fr z0 (execSliceRestoreDone slice s) := by
  unfold execSliceRestoreDone
  repeat' first
    | with_reducible assumption
    | with_reducible exact Stands.same
    | with_reducible apply domainOpen_kept
    | with_reducible apply KeptO.next
    | with_reducible refine KeptO.ite (fun _ => ?_) (fun _ => ?_)
    | with_reducible refine Kept.ite (fun _ => ?_) (fun _ => ?_)

theorem bankResume_kept {fr : Nat} {z0 : State} (bank : Nat) {s : State}  (hm : Within 0x4000000000000 fr) (hk : Kept fr z0 s) : Kept fr z0 (bankResume s bank) := by
  unfold bankResume
  repeat' first
    | with_reducible assumption
    | with_reducible exact Stands.same
    | ((with_reducible refine Within.trans ?_ hm); rfl)
    | with_reducible apply State.fset_kept
    | with_reducible refine Kept.ite (fun _ => ?_) (fun _ => ?_)

theorem execSkimBankFlushDone_kept {fr : Nat} {z0 : State} (bank : Nat) {s : State}  (hm : Within 0x1ffffffffffffffffffffffffffffffffffffffffffffffffffffffffffff0000000000000000000000000044800404d1806 fr) (hk : Kept fr z0 s) : KeptO fr z0 (execSkimBankFlushDone bank s) := by
  unfold execSkimBankFlushDone
  repeat' first
    | with_reducible assumption
    | with_reducible exact Stands.same
    | ((with_reducible refine Within.trans ?_ hm); rfl)
    | with_reducible apply bankResume_kept
    | with_reducible apply bankFlush_kept
    | with_reducible apply mbxFinish_kept
    | with_reducible apply KeptO.next
    | with_reducible refine KeptO.ite (fun _ => ?_) (fun _ => ?_)
    | with_reducible refine Kept.ite (fun _ => ?_) (fun _ => ?_)

theorem execStrainerBlockReloadDone_kept {fr : Nat} {z0 : State} (block : Nat) {s : State}  (hm : Within 0x400082000 fr) (hk : Kept fr z0 s) : KeptO fr z0 (execStrainerBlockReloadDone block s) := by
  unfold execStrainerBlockReloadDone
  repeat' first
    | with_reducible assumption
    | with_reducible exact Stands.same
    | ((with_reducible refine Within.trans ?_ hm); rfl)
    | with_reducible apply domainOpen_kept
    | with_reducible apply blockReload_kept
    | with_reducible apply KeptO.next
    | with_reducible refine KeptO.ite (fun _ => ?_) (fun _ => ?_)
    | with_reducible refine Kept.ite (fun _ => ?_) (fun _ => ?_)

theorem execClusterReloadDone_kept {fr : Nat} {z0 : State} (cluster : Nat) {s : State}  (hm : Within 0x40000000000400084000 fr) (hk : Kept fr z0 s) : KeptO fr z0 (execClusterReloadDone cluster s) := by
  unfold execClusterReloadDone
  repeat' first
    | with_reducible assumption
    | with_reducible exact Stands.same
    | ((with_reducible refine Within.trans ?_ hm); rfl)
    | ((with_reducible refine Stands.hit (Within.trans ?_ hm)); rfl)
    | with_reducible apply domainOpen_kept
    | with_reducible apply State.fset_kept
    | with_reducible apply KeptO.next
    | with_reducible refine KeptO.ite (fun _ => ?_) (fun _ => ?_)
    | with_reducible refine Kept.ite (fun _ => ?_) (fun _ => ?_)
    | with_reducible refine Kept.foldl (fun _ _ _ => ?_) ?_
    | (fail_if_success with_reducible refine Kept.eta ?_); (with_reducible refine Kept.build ?_ rfl rfl ?_ ?_ ?_ ?_ ?_ ?_ ?_ ?_ ?_ ?_ ?_ ?_ ?_ ?_ ?_ ?_ ?_ ?_ ?_ ?_ ?_ ?_ ?_)

end Sys2Proof.Machine
end

