-- ==== Sys2Proof/Laws/KeptImages.lean ====
section
/-! SUPPORT. No function of Machine/MilkOps, Images, Milk, Tickets, LinkTest takes back what no command takes back: one lemma each. -/

namespace Sys2Proof.Machine

theorem imgCount_kept {fr : Nat} {z0 : State} (i : Nat) {s : State}  (hm : Within 0x100000 fr) (hk : Kept fr z0 s) : Kept fr z0 (imgCount s i) := by
  unfold imgCount
  repeat' first
    | with_reducible assumption
    | with_reducible exact Stands.same
    | ((with_reducible refine Stands.hit (Within.trans ?_ hm)); rfl)
    | with_reducible refine Kept.ite (fun _ => ?_) (fun _ => ?_)
    | with_reducible refine Kept.foldl (fun _ _ _ => ?_) ?_
    | (fail_if_success with_reducible refine Kept.eta ?_); (with_reducible refine Kept.build ?_ rfl rfl ?_ ?_ ?_ ?_ ?_ ?_ ?_ ?_ ?_ ?_ ?_ ?_ ?_ ?_ ?_ ?_ ?_ ?_ ?_ ?_ ?_ ?_ ?_)

theorem milkFrame_kept {fr : Nat} {z0 : State} (q : Nat) (op : Nat) (piece : Nat) (chunk : Nat) (reason : Nat) (session : List Byte) (data : List Byte) {s : State}  (hm : Within 0x800e00220400000e090fe00d0000000000000000000000000010000000000001b80000000208000000000008000043038f fr) (hk : Kept fr z0 s) : Kept fr z0 (milkFrame s q op piece chunk reason session data) := by
  unfold milkFrame
  repeat' first
    | with_reducible assumption
    | with_reducible exact Stands.same
    | ((with_reducible refine Within.trans ?_ hm); rfl)
    | with_reducible apply State.draw_kept
    | with_reducible apply enqueue_kept
    | with_reducible apply State.newFrame_kept

theorem needFrame_kept {fr : Nat} {z0 : State} {s : State}  (hm : Within 0x800e00220400000e090fe00d0000000000000000000000000010000000000001b80000000208000000000008000053038f fr) (hk : Kept fr z0 s) : Kept fr z0 (needFrame s) := by
  unfold needFrame
  repeat' first
    | with_reducible assumption
    | with_reducible exact Stands.same
    | ((with_reducible refine Within.trans ?_ hm); rfl)
    | ((with_reducible refine Stands.hit (Within.trans ?_ hm)); rfl)
    | with_reducible apply milkFrame_kept
    | with_reducible refine Kept.ite (fun _ => ?_) (fun _ => ?_)
    | with_reducible refine Kept.foldl (fun _ _ _ => ?_) ?_
    | (fail_if_success with_reducible refine Kept.eta ?_); (with_reducible refine Kept.build ?_ rfl rfl ?_ ?_ ?_ ?_ ?_ ?_ ?_ ?_ ?_ ?_ ?_ ?_ ?_ ?_ ?_ ?_ ?_ ?_ ?_ ?_ ?_ ?_ ?_)

theorem sendNeed_kept {fr : Nat} {z0 : State} {s : State}  (hm : Within 0x800e00220400000e090fe00d0000000000000000000000000010000000000001b80000000208000000000008000053038f fr) (hk : Kept fr z0 s) : Kept fr z0 (sendNeed s) := by
  unfold sendNeed
  repeat' first
    | with_reducible assumption
    | with_reducible exact Stands.same
    | with_reducible apply needFrame_kept
    | with_reducible refine Kept.ite (fun _ => ?_) (fun _ => ?_)

theorem sendAck_kept {fr : Nat} {z0 : State} (k : Nat) {s : State}  (hm : Within 0x800e00220400000e090fe00d0000000000000000000000000010000000000001b80000000208000000000008000043038f fr) (hk : Kept fr z0 s) : Kept fr z0 (sendAck s k) := by
  unfold sendAck
  repeat' first
    | with_reducible assumption
    | with_reducible exact Stands.same
    | with_reducible apply milkFrame_kept
    | with_reducible refine Kept.ite (fun _ => ?_) (fun _ => ?_)

theorem sendRefuse_kept {fr : Nat} {z0 : State} (reason : Nat) (session : List Byte) {s : State}  (hm : Within 0x800e00220400000e090fe00d0000000000000000000000000010000000000001b80000000208000000000008000043038f fr) (hk : Kept fr z0 s) : Kept fr z0 (sendRefuse s reason session) := by
  unfold sendRefuse
  repeat' first
    | with_reducible assumption
    | with_reducible exact Stands.same
    | with_reducible apply milkFrame_kept
    | with_reducible refine Kept.ite (fun _ => ?_) (fun _ => ?_)

theorem sendChunk_kept {fr : Nat} {z0 : State} (k : Nat) {s : State}  (hm : Within 0x800e00220400000e090fe00d0000000000000000000000000010000000000001b80000000208000000000008000043038f fr) (hk : Kept fr z0 s) : Kept fr z0 (sendChunk s k) := by
  unfold sendChunk
  repeat' first
    | with_reducible assumption
    | with_reducible exact Stands.same
    | with_reducible apply milkFrame_kept
    | with_reducible refine Kept.ite (fun _ => ?_) (fun _ => ?_)
    | with_reducible refine Kept.foldl (fun _ _ _ => ?_) ?_

theorem milkPump_kept {fr : Nat} {z0 : State} (n : Nat) {s : State}  (hm : Within 0x800e00220400000e090fe00d0000000000000000000000000010000000000001b80000000208000000000008000053038f fr) (hk : Kept fr z0 s) : Kept fr z0 (milkPump n s) := by
  induction n generalizing s with
  | zero =>
    unfold milkPump
    repeat' first
      | with_reducible assumption
  | succ y ih =>
    unfold milkPump
    repeat' first
      | with_reducible assumption
      | with_reducible exact Stands.same
      | ((with_reducible refine Within.trans ?_ hm); rfl)
      | ((with_reducible refine Stands.hit (Within.trans ?_ hm)); rfl)
      | with_reducible apply imgCount_kept
      | with_reducible apply sendChunk_kept
      | with_reducible apply ih
      | with_reducible refine Kept.ite (fun _ => ?_) (fun _ => ?_)
      | with_reducible refine Kept.foldl (fun _ _ _ => ?_) ?_
      | (fail_if_success with_reducible refine Kept.eta ?_); (with_reducible refine Kept.build ?_ rfl rfl ?_ ?_ ?_ ?_ ?_ ?_ ?_ ?_ ?_ ?_ ?_ ?_ ?_ ?_ ?_ ?_ ?_ ?_ ?_ ?_ ?_ ?_ ?_)
      | (with_reducible refine Kept.snd (by assumption) ?_)
      | dsimp only
      | split

theorem milkOffer_kept {fr : Nat} {z0 : State} {s : State}  (hm : Within 0x800e00220400000e090fe00d0000000000000000000000000010000000000001b80000000208000000000008000053038f fr) (hk : Kept fr z0 s) : Kept fr z0 (milkOffer s) := by
  unfold milkOffer
  repeat' first
    | with_reducible assumption
    | with_reducible exact Stands.same
    | ((with_reducible refine Stands.hit (Within.trans ?_ hm)); rfl)
    | with_reducible apply milkPump_kept
    | with_reducible refine Kept.ite (fun _ => ?_) (fun _ => ?_)
    | with_reducible refine Kept.foldl (fun _ _ _ => ?_) ?_
    | (fail_if_success with_reducible refine Kept.eta ?_); (with_reducible refine Kept.build ?_ rfl rfl ?_ ?_ ?_ ?_ ?_ ?_ ?_ ?_ ?_ ?_ ?_ ?_ ?_ ?_ ?_ ?_ ?_ ?_ ?_ ?_ ?_ ?_ ?_)

theorem imgRow_kept {fr : Nat} {z0 : State} (op : Nat) (code : Nat) (via : ImgPath) (f : State → State) {s : State}  (hm : Within 0x22040000000000000000000000000000000000000000000000000000000000000000000000000000480040490006 fr) (hk : Kept fr z0 s) (hf : ∀ s, Kept fr z0 s → Kept fr z0 (f s)) : Kept fr z0 (imgRow op code via f s) := by
  unfold imgRow
  repeat' first
    | with_reducible assumption
    | with_reducible exact Stands.same
    | ((with_reducible refine Within.trans ?_ hm); rfl)
    | with_reducible apply cmdComplete_kept
    | with_reducible apply workSet_kept
    | with_reducible refine mbxRow_kept _ _ _ ?_ ?_ (fun _ _ => ?_)
    | with_reducible apply mbxWait_kept
    | with_reducible apply hf
    | with_reducible refine Kept.ite (fun _ => ?_) (fun _ => ?_)
    | with_reducible refine Kept.foldl (fun _ _ _ => ?_) ?_
    | (with_reducible refine Kept.snd (by assumption) ?_)
    | dsimp only
    | split

theorem imgAnswer_kept {fr : Nat} {z0 : State} (src : ChunkSrc) (cmd : Nat) (mbx : Nat) (r0 : Nat) {s : State}  (hm : Within 0x22040000000000000000000000000000000000000000000000000000000000000000000000000000480040490006 fr) (hk : Kept fr z0 s) : Kept fr z0 (imgAnswer s src cmd mbx r0) := by
  unfold imgAnswer
  repeat' first
    | with_reducible assumption
    | with_reducible exact Stands.same
    | ((with_reducible refine Within.trans ?_ hm); rfl)
    | with_reducible apply cmdComplete_kept
    | with_reducible apply mbxFinish_kept
    | with_reducible refine Kept.ite (fun _ => ?_) (fun _ => ?_)
    | with_reducible refine Kept.foldl (fun _ _ _ => ?_) ?_
    | (with_reducible refine Kept.snd (by assumption) ?_)
    | dsimp only
    | split

theorem imgEnd_kept {fr : Nat} {z0 : State} (via : ImgPath) (status : Nat) {s : State}  (hm : Within 0x22040000000000000000000000000000000000000000000000000000000000000000000000000000480040490006 fr) (hk : Kept fr z0 s) : Kept fr z0 (imgEnd s via status) := by
  unfold imgEnd
  repeat' first
    | with_reducible assumption
    | with_reducible exact Stands.same
    | with_reducible apply imgAnswer_kept

theorem slotErase_kept {fr : Nat} {z0 : State} (n : Nat) {s : State}  (hm : Within 0x100000 fr) (hk : Kept fr z0 s) : Kept fr z0 (slotErase s n) := by
  unfold slotErase
  repeat' first
    | with_reducible assumption
    | with_reducible exact Stands.same
    | ((with_reducible refine Stands.hit (Within.trans ?_ hm)); rfl)
    | with_reducible refine Kept.ite (fun _ => ?_) (fun _ => ?_)
    | with_reducible refine Kept.foldl (fun _ _ _ => ?_) ?_
    | (fail_if_success with_reducible refine Kept.eta ?_); (with_reducible refine Kept.build ?_ rfl rfl ?_ ?_ ?_ ?_ ?_ ?_ ?_ ?_ ?_ ?_ ?_ ?_ ?_ ?_ ?_ ?_ ?_ ?_ ?_ ?_ ?_ ?_ ?_)

theorem slotEmpty_kept {fr : Nat} {z0 : State} (n : Nat) {s : State}  (hm : Within 0x2000100000 fr) (hk : Kept fr z0 s) : Kept fr z0 (slotEmpty s n) := by
  unfold slotEmpty
  repeat' first
    | with_reducible assumption
    | with_reducible exact Stands.same
    | ((with_reducible refine Within.trans ?_ hm); rfl)
    | with_reducible apply slotErase_kept
    | with_reducible apply State.fset_kept

theorem sessionOpen_kept {fr : Nat} {z0 : State} (b : List Byte) (owner : Nat) {s : State}  (hm : Within 0x2000100000 fr) (hk : Kept fr z0 s) : Kept fr z0 (sessionOpen s b owner) := by
  unfold sessionOpen
  repeat' first
    | with_reducible assumption
    | with_reducible exact Stands.same
    | ((with_reducible refine Within.trans ?_ hm); rfl)
    | ((with_reducible refine Stands.hit (Within.trans ?_ hm)); rfl)
    | with_reducible apply slotErase_kept
    | with_reducible apply State.fset_kept
    | with_reducible refine Kept.ite (fun _ => ?_) (fun _ => ?_)
    | with_reducible refine Kept.foldl (fun _ _ _ => ?_) ?_
    | (fail_if_success with_reducible refine Kept.eta ?_); (with_reducible refine Kept.build ?_ rfl rfl ?_ ?_ ?_ ?_ ?_ ?_ ?_ ?_ ?_ ?_ ?_ ?_ ?_ ?_ ?_ ?_ ?_ ?_ ?_ ?_ ?_ ?_ ?_)

theorem chunkRefuse_kept {fr : Nat} {z0 : State} (src : ChunkSrc) (row : Nat) (session : List Byte) {s : State}  (hm : Within 0x800e00220400000e090fe00d0000000000000000000000000010000000000001b8000000020800000000004800405b038f fr) (hk : Kept fr z0 s) : Kept fr z0 (chunkRefuse s src row session) := by
  unfold chunkRefuse
  repeat' first
    | with_reducible assumption
    | with_reducible exact Stands.same
    | ((with_reducible refine Within.trans ?_ hm); rfl)
    | with_reducible apply sendRefuse_kept
    | with_reducible apply imgCount_kept
    | with_reducible apply imgAnswer_kept
    | with_reducible refine Kept.ite (fun _ => ?_) (fun _ => ?_)

theorem chunkHomeless_kept {fr : Nat} {z0 : State} (src : ChunkSrc) (session : List Byte) {s : State}  (hm : Within 0x800e00220400000e090fe00d0000000000000000000000000010000000000001b8000000020800000000004800405b038f fr) (hk : Kept fr z0 s) : Kept fr z0 (chunkHomeless s src session) := by
  unfold chunkHomeless
  repeat' first
    | with_reducible assumption
    | with_reducible exact Stands.same
    | ((with_reducible refine Within.trans ?_ hm); rfl)
    | with_reducible apply sendRefuse_kept
    | with_reducible apply imgCount_kept
    | with_reducible apply imgAnswer_kept
    | with_reducible refine Kept.ite (fun _ => ?_) (fun _ => ?_)

theorem chunkDone_kept {fr : Nat} {z0 : State} (src : ChunkSrc) (k : Nat) {s : State}  (hm : Within 0x800e00220400000e090fe00d0000000000000000000000000010000000000001b8000000020800000000004800404b038f fr) (hk : Kept fr z0 s) : Kept fr z0 (chunkDone s src k) := by
  unfold chunkDone
  repeat' first
    | with_reducible assumption
    | with_reducible exact Stands.same
    | ((with_reducible refine Within.trans ?_ hm); rfl)
    | with_reducible apply sendAck_kept
    | with_reducible apply imgAnswer_kept
    | with_reducible refine Kept.ite (fun _ => ?_) (fun _ => ?_)

theorem chunkBad_kept {fr : Nat} {z0 : State} (src : ChunkSrc) {s : State}  (hm : Within 0x22040000000000000000000000000000000000000000000000000000000000000000000000000000480040490006 fr) (hk : Kept fr z0 s) : Kept fr z0 (chunkBad s src) := by
  unfold chunkBad
  repeat' first
    | with_reducible assumption
    | with_reducible exact Stands.same
    | with_reducible apply imgAnswer_kept

theorem chunkQueue_kept {fr : Nat} {z0 : State} (src : ChunkSrc) (k : Nat) (b : List Byte) {s : State}  (hm : Within 0x100000 fr) (hk : Kept fr z0 s) : Kept fr z0 (chunkQueue s src k b) := by
  unfold chunkQueue
  repeat' first
    | with_reducible assumption
    | with_reducible exact Stands.same
    | ((with_reducible refine Stands.hit (Within.trans ?_ hm)); rfl)
    | with_reducible refine Kept.ite (fun _ => ?_) (fun _ => ?_)
    | with_reducible refine Kept.foldl (fun _ _ _ => ?_) ?_
    | (fail_if_success with_reducible refine Kept.eta ?_); (with_reducible refine Kept.build ?_ rfl rfl ?_ ?_ ?_ ?_ ?_ ?_ ?_ ?_ ?_ ?_ ?_ ?_ ?_ ?_ ?_ ?_ ?_ ?_ ?_ ?_ ?_ ?_ ?_)

theorem takeSession_kept {fr : Nat} {z0 : State} (owner : Nat) {s : State}  (hm : Within 0x2000100000 fr) (hk : Kept fr z0 s) : Kept fr z0 (takeSession s owner) := by
  unfold takeSession
  repeat' first
    | with_reducible assumption
    | with_reducible exact Stands.same
    | ((with_reducible refine Within.trans ?_ hm); rfl)
    | ((with_reducible refine Stands.hit (Within.trans ?_ hm)); rfl)
    | with_reducible apply State.fset_kept
    | with_reducible refine Kept.ite (fun _ => ?_) (fun _ => ?_)
    | with_reducible refine Kept.foldl (fun _ _ _ => ?_) ?_
    | (fail_if_success with_reducible refine Kept.eta ?_); (with_reducible refine Kept.build ?_ rfl rfl ?_ ?_ ?_ ?_ ?_ ?_ ?_ ?_ ?_ ?_ ?_ ?_ ?_ ?_ ?_ ?_ ?_ ?_ ?_ ?_ ?_ ?_ ?_)

theorem chunkIn_kept {fr : Nat} {z0 : State} (src : ChunkSrc) (k : Nat) (b : List Byte) (session : List Byte) {s : State}  (hm : Within 0x800e00220400000e090fe00d0000000000000000000000000010000000000001b8000000020800000000004820445b038f fr) (hk : Kept fr z0 s) : Kept fr z0 (chunkIn s src k b session) := by
  unfold chunkIn
  repeat' first
    | with_reducible assumption
    | with_reducible exact Stands.same
    | ((with_reducible refine Within.trans ?_ hm); rfl)
    | ((with_reducible refine Stands.hit (Within.trans ?_ hm)); rfl)
    | with_reducible apply chunkRefuse_kept
    | with_reducible apply takeSession_kept
    | with_reducible apply sessionOpen_kept
    | with_reducible apply needFrame_kept
    | with_reducible apply updShow_kept
    | with_reducible apply milkOffer_kept
    | with_reducible apply chunkDone_kept
    | with_reducible apply chunkQueue_kept
    | with_reducible apply chunkHomeless_kept
    | with_reducible apply chunkBad_kept
    | with_reducible apply imgCount_kept
    | with_reducible refine Kept.ite (fun _ => ?_) (fun _ => ?_)
    | with_reducible refine Kept.foldl (fun _ _ _ => ?_) ?_
    | (fail_if_success with_reducible refine Kept.eta ?_); (with_reducible refine Kept.build ?_ rfl rfl ?_ ?_ ?_ ?_ ?_ ?_ ?_ ?_ ?_ ?_ ?_ ?_ ?_ ?_ ?_ ?_ ?_ ?_ ?_ ?_ ?_ ?_ ?_)

theorem execImgChunk_kept {fr : Nat} {z0 : State} (via : ImgPath) {s : State}  (hm : Within 0x800e00220400000e090fe00d0000000000000000000000000010000000000001b8000000020800000000004820445b038f fr) (hk : Kept fr z0 s) : KeptO fr z0 (execImgChunk via s) := by
  unfold execImgChunk
  repeat' first
    | with_reducible assumption
    | with_reducible exact Stands.same
    | ((with_reducible refine Within.trans ?_ hm); rfl)
    | with_reducible refine imgRow_kept _ _ _ _ ?_ ?_ (fun _ _ => ?_)
    | with_reducible apply chunkIn_kept
    | with_reducible apply imgEnd_kept
    | with_reducible apply KeptO.next
    | with_reducible refine KeptO.ite (fun _ => ?_) (fun _ => ?_)
    | with_reducible refine Kept.ite (fun _ => ?_) (fun _ => ?_)
    | with_reducible refine Kept.foldl (fun _ _ _ => ?_) ?_
    | (with_reducible refine Kept.snd (by assumption) ?_)
    | dsimp only
    | split

theorem chunkMark_kept {fr : Nat} {z0 : State} (j : ChunkJob) {s : State}  (hm : Within 0x100000 fr) (hk : Kept fr z0 s) : Kept fr z0 (chunkMark s j) := by
  unfold chunkMark
  repeat' first
    | with_reducible assumption
    | with_reducible exact Stands.same
    | ((with_reducible refine Stands.hit (Within.trans ?_ hm)); rfl)
    | with_reducible refine Kept.ite (fun _ => ?_) (fun _ => ?_)
    | with_reducible refine Kept.foldl (fun _ _ _ => ?_) ?_
    | (fail_if_success with_reducible refine Kept.eta ?_); (with_reducible refine Kept.build ?_ rfl rfl ?_ ?_ ?_ ?_ ?_ ?_ ?_ ?_ ?_ ?_ ?_ ?_ ?_ ?_ ?_ ?_ ?_ ?_ ?_ ?_ ?_ ?_ ?_)

theorem chunkForward_kept {fr : Nat} {z0 : State} (j : ChunkJob) {s : State}  (hm : Within 0x800e00220400000e090fe00d0000000000000000000000000010000000000001b8000000020800000000004800405b038f fr) (hk : Kept fr z0 s) : Kept fr z0 (chunkForward s j) := by
  unfold chunkForward
  repeat' first
    | with_reducible assumption
    | with_reducible exact Stands.same
    | ((with_reducible refine Within.trans ?_ hm); rfl)
    | with_reducible apply chunkDone_kept
    | with_reducible apply milkOffer_kept
    | with_reducible apply milkPump_kept
    | with_reducible refine Kept.ite (fun _ => ?_) (fun _ => ?_)

theorem jobsStart_kept {fr : Nat} {z0 : State} (l : List ChunkJob) {s : State}  (hm : Within 0x800e00220400000e090fe00d0000000000000000000000000010000000000001b8000000020800000000004800405b038f fr) (hk : Kept fr z0 s) : Kept fr z0 (jobsStart s l) := by
  induction l generalizing s with
  | nil =>
    unfold jobsStart
    repeat' first
      | with_reducible assumption
      | with_reducible exact Stands.same
      | ((with_reducible refine Stands.hit (Within.trans ?_ hm)); rfl)
      | with_reducible apply chunkRefuse_kept
      | with_reducible refine Kept.ite (fun _ => ?_) (fun _ => ?_)
      | with_reducible refine Kept.foldl (fun _ _ _ => ?_) ?_
      | (fail_if_success with_reducible refine Kept.eta ?_); (with_reducible refine Kept.build ?_ rfl rfl ?_ ?_ ?_ ?_ ?_ ?_ ?_ ?_ ?_ ?_ ?_ ?_ ?_ ?_ ?_ ?_ ?_ ?_ ?_ ?_ ?_ ?_ ?_)
  | cons y ys ih =>
    unfold jobsStart
    repeat' first
      | with_reducible assumption
      | with_reducible exact Stands.same
      | ((with_reducible refine Stands.hit (Within.trans ?_ hm)); rfl)
      | with_reducible apply chunkRefuse_kept
      | with_reducible apply ih
      | with_reducible refine Kept.ite (fun _ => ?_) (fun _ => ?_)
      | with_reducible refine Kept.foldl (fun _ _ _ => ?_) ?_
      | (fail_if_success with_reducible refine Kept.eta ?_); (with_reducible refine Kept.build ?_ rfl rfl ?_ ?_ ?_ ?_ ?_ ?_ ?_ ?_ ?_ ?_ ?_ ?_ ?_ ?_ ?_ ?_ ?_ ?_ ?_ ?_ ?_ ?_ ?_)

theorem execChunkWriteComplete_kept {fr : Nat} {z0 : State} (readbackOk : Bool) {s : State}  (hm : Within 0x800e00220400000e090fe00d0000000000000000000000000010000000000001b8000000020800000000004820445b038f fr) (hk : Kept fr z0 s) : KeptO fr z0 (execChunkWriteComplete readbackOk s) := by
  unfold execChunkWriteComplete
  repeat' first
    | with_reducible assumption
    | with_reducible exact Stands.same
    | ((with_reducible refine Within.trans ?_ hm); rfl)
    | ((with_reducible refine Stands.hit (Within.trans ?_ hm)); rfl)
    | with_reducible apply updShow_kept
    | with_reducible apply jobsStart_kept
    | with_reducible apply chunkHomeless_kept
    | with_reducible apply chunkBad_kept
    | with_reducible apply chunkForward_kept
    | with_reducible apply chunkMark_kept
    | with_reducible apply imgCount_kept
    | with_reducible apply imgAnswer_kept
    | with_reducible apply KeptO.next
    | with_reducible refine KeptO.ite (fun _ => ?_) (fun _ => ?_)
    | with_reducible refine Kept.ite (fun _ => ?_) (fun _ => ?_)
    | with_reducible refine Kept.foldl (fun _ _ _ => ?_) ?_
    | (fail_if_success with_reducible refine Kept.eta ?_); (with_reducible refine Kept.build ?_ rfl rfl ?_ ?_ ?_ ?_ ?_ ?_ ?_ ?_ ?_ ?_ ?_ ?_ ?_ ?_ ?_ ?_ ?_ ?_ ?_ ?_ ?_ ?_ ?_)
    | (with_reducible refine Kept.snd (by assumption) ?_)
    | dsimp only
    | split

theorem recoveryRecord_kept {fr : Nat} {z0 : State} (n : Nat) {s : State}  (hm : Within 0x100000 fr) (hk : Kept fr z0 s) : Kept fr z0 (recoveryRecord s n) := by
  unfold recoveryRecord
  repeat' first
    | with_reducible assumption
    | with_reducible exact Stands.same
    | with_reducible apply bootWrite_kept
    | with_reducible refine Kept.ite (fun _ => ?_) (fun _ => ?_)

theorem execSlotVerifyComplete_kept {fr : Nat} {z0 : State} {s : State}  (hm : Within 0x2004100000 fr) (hk : Kept fr z0 s) : KeptO fr z0 (execSlotVerifyComplete s) := by
  unfold execSlotVerifyComplete
  repeat' first
    | with_reducible assumption
    | with_reducible exact Stands.same
    | ((with_reducible refine Within.trans ?_ hm); rfl)
    | ((with_reducible refine Stands.hit (Within.trans ?_ hm)); rfl)
    | with_reducible apply updShow_kept
    | with_reducible apply recoveryRecord_kept
    | with_reducible apply slotEmpty_kept
    | with_reducible apply State.fset_kept
    | with_reducible apply KeptO.next
    | with_reducible refine KeptO.ite (fun _ => ?_) (fun _ => ?_)
    | with_reducible refine Kept.ite (fun _ => ?_) (fun _ => ?_)
    | with_reducible refine Kept.foldl (fun _ _ _ => ?_) ?_
    | (fail_if_success with_reducible refine Kept.eta ?_); (with_reducible refine Kept.build ?_ rfl rfl ?_ ?_ ?_ ?_ ?_ ?_ ?_ ?_ ?_ ?_ ?_ ?_ ?_ ?_ ?_ ?_ ?_ ?_ ?_ ?_ ?_ ?_ ?_)

theorem execSessionOwnerTimeout_kept {fr : Nat} {z0 : State} {s : State}  (hm : Within 0x2000000000 fr) (hk : Kept fr z0 s) : KeptO fr z0 (execSessionOwnerTimeout s) := by
  unfold execSessionOwnerTimeout
  repeat' first
    | with_reducible assumption
    | with_reducible exact Stands.same
    | ((with_reducible refine Within.trans ?_ hm); rfl)
    | with_reducible apply State.fset_kept
    | with_reducible apply KeptO.next
    | with_reducible refine KeptO.ite (fun _ => ?_) (fun _ => ?_)
    | with_reducible refine Kept.ite (fun _ => ?_) (fun _ => ?_)

theorem execImgBitmap_kept {fr : Nat} {z0 : State} (via : ImgPath) {s : State}  (hm : Within 0x22040000000000000000000000000000000000000000000000000000000000000000000000000000480040490006 fr) (hk : Kept fr z0 s) : KeptO fr z0 (execImgBitmap via s) := by
  unfold execImgBitmap
  repeat' first
    | with_reducible assumption
    | with_reducible exact Stands.same
    | ((with_reducible refine Within.trans ?_ hm); rfl)
    | with_reducible refine imgRow_kept _ _ _ _ ?_ ?_ (fun _ _ => ?_)
    | with_reducible apply imgEnd_kept
    | with_reducible apply State.emit_kept
    | with_reducible apply mbxData_kept
    | with_reducible apply KeptO.next
    | with_reducible refine KeptO.ite (fun _ => ?_) (fun _ => ?_)
    | with_reducible refine Kept.ite (fun _ => ?_) (fun _ => ?_)
    | with_reducible refine Kept.foldl (fun _ _ _ => ?_) ?_
    | (with_reducible refine Kept.snd (by assumption) ?_)
    | dsimp only
    | split

theorem execImgAbort_kept {fr : Nat} {z0 : State} (via : ImgPath) {s : State}  (hm : Within 0x22040000000000000000000000000000000000000000000000000000000000000000000000000000482044590006 fr) (hk : Kept fr z0 s) : KeptO fr z0 (execImgAbort via s) := by
  unfold execImgAbort
  repeat' first
    | with_reducible assumption
    | with_reducible exact Stands.same
    | ((with_reducible refine Within.trans ?_ hm); rfl)
    | with_reducible refine imgRow_kept _ _ _ _ ?_ ?_ (fun _ _ => ?_)
    | with_reducible apply imgEnd_kept
    | with_reducible apply updShow_kept
    | with_reducible apply slotEmpty_kept
    | with_reducible apply KeptO.next
    | with_reducible refine KeptO.ite (fun _ => ?_) (fun _ => ?_)
    | with_reducible refine Kept.ite (fun _ => ?_) (fun _ => ?_)

theorem imgConfirm_kept {fr : Nat} {z0 : State} {s : State}  (hm : Within 0x100000 fr) (hk : Kept fr z0 s) : Kept fr z0 (imgConfirm s).1 := by
  unfold imgConfirm
  repeat' first
    | with_reducible assumption
    | with_reducible exact Stands.same
    | ((with_reducible refine Stands.hit (Within.trans ?_ hm)); rfl)
    | with_reducible apply bootWrite_kept
    | with_reducible refine Kept.ite (fun _ => ?_) (fun _ => ?_)
    | with_reducible refine Kept.foldl (fun _ _ _ => ?_) ?_
    | (fail_if_success with_reducible refine Kept.eta ?_); (with_reducible refine Kept.build ?_ rfl rfl ?_ ?_ ?_ ?_ ?_ ?_ ?_ ?_ ?_ ?_ ?_ ?_ ?_ ?_ ?_ ?_ ?_ ?_ ?_ ?_ ?_ ?_ ?_)
    | (with_reducible refine Kept.snd (by assumption) ?_)
    | dsimp only
    | split

theorem execImgConfirm_kept {fr : Nat} {z0 : State} (via : ImgPath) {s : State}  (hm : Within 0x22040000000000000000000000000000000000000000000000000000000000000000000000000000480040590006 fr) (hk : Kept fr z0 s) : KeptO fr z0 (execImgConfirm via s) := by
  unfold execImgConfirm
  repeat' first
    | with_reducible assumption
    | with_reducible exact Stands.same
    | ((with_reducible refine Within.trans ?_ hm); rfl)
    | with_reducible refine imgRow_kept _ _ _ _ ?_ ?_ (fun _ _ => ?_)
    | with_reducible apply imgEnd_kept
    | with_reducible apply imgConfirm_kept
    | with_reducible apply KeptO.next

theorem execAutoConfirm_kept {fr : Nat} {z0 : State} {s : State}  (hm : Within 0x100000 fr) (hk : Kept fr z0 s) : KeptO fr z0 (execAutoConfirm s) := by
  unfold execAutoConfirm
  repeat' first
    | with_reducible assumption
    | with_reducible exact Stands.same
    | ((with_reducible refine Stands.hit (Within.trans ?_ hm)); rfl)
    | with_reducible apply imgConfirm_kept
    | with_reducible apply KeptO.next
    | with_reducible refine KeptO.ite (fun _ => ?_) (fun _ => ?_)
    | with_reducible refine Kept.ite (fun _ => ?_) (fun _ => ?_)
    | with_reducible refine Kept.foldl (fun _ _ _ => ?_) ?_
    | (fail_if_success with_reducible refine Kept.eta ?_); (with_reducible refine Kept.build ?_ rfl rfl ?_ ?_ ?_ ?_ ?_ ?_ ?_ ?_ ?_ ?_ ?_ ?_ ?_ ?_ ?_ ?_ ?_ ?_ ?_ ?_ ?_ ?_ ?_)
    | (with_reducible refine Kept.snd (by assumption) ?_)
    | dsimp only
    | split

theorem execOwnerSet_kept {fr : Nat} {z0 : State} (m : MbxReq) {s : State}  (hm : Within 0x2000000000000000000000000000000000000000000000000000000000000000000000000000000482044590006 fr) (hk : Kept fr z0 s) : KeptO fr z0 (execOwnerSet m s) := by
  unfold execOwnerSet
  repeat' first
    | with_reducible assumption
    | with_reducible exact Stands.same
    | ((with_reducible refine Within.trans ?_ hm); rfl)
    | with_reducible refine mbxRow_kept _ _ _ ?_ ?_ (fun _ _ => ?_)
    | with_reducible apply mbxDone_kept
    | with_reducible apply State.fset_kept
    | with_reducible apply mbxWait_kept
    | with_reducible apply updShow_kept
    | with_reducible apply envAccept_kept
    | with_reducible apply KeptO.next
    | with_reducible refine KeptO.ite (fun _ => ?_) (fun _ => ?_)
    | with_reducible refine Kept.ite (fun _ => ?_) (fun _ => ?_)

theorem otpProgram_kept {fr : Nat} {z0 : State} {s : State} (lsb w v : Nat) (hm : Within 0x80000 fr) (h : Kept fr z0 s) :
    Kept fr z0 (otpProgram s lsb w v) :=
  Kept.otpStep h (fun i e => by rw [Nat.testBit_or, e, Bool.true_or]) hm

theorem execOwnerEnroll_kept {fr : Nat} {z0 : State} (m : MbxReq) {s : State}  (hm : Within 0x2000000000000000000000000000000000000000000000000000000000000000000000000000000482044490006 fr) (hk : Kept fr z0 s) : KeptO fr z0 (execOwnerEnroll m s) := by
  unfold execOwnerEnroll
  repeat' first
    | with_reducible assumption
    | with_reducible exact Stands.same
    | ((with_reducible refine Within.trans ?_ hm); rfl)
    | with_reducible refine mbxRow_kept _ _ _ ?_ ?_ (fun _ _ => ?_)
    | with_reducible apply mbxDone_kept
    | with_reducible apply otpProgram_kept
    | with_reducible apply mbxWait_kept
    | with_reducible apply updShow_kept
    | with_reducible apply KeptO.next
    | with_reducible refine KeptO.ite (fun _ => ?_) (fun _ => ?_)
    | with_reducible refine Kept.ite (fun _ => ?_) (fun _ => ?_)

theorem execMilkSet_kept {fr : Nat} {z0 : State} (m : MbxReq) {s : State}  (hm : Within 0x2000000000000000000000000000000000000000000000000000000000000000000000000000000484040490006 fr) (hk : Kept fr z0 s) : KeptO fr z0 (execMilkSet m s) := by
  unfold execMilkSet
  repeat' first
    | with_reducible assumption
    | with_reducible exact Stands.same
    | ((with_reducible refine Within.trans ?_ hm); rfl)
    | with_reducible refine mbxRow_kept _ _ _ ?_ ?_ (fun _ _ => ?_)
    | with_reducible apply mbxDone_kept
    | with_reducible apply State.fset_kept
    | with_reducible apply KeptO.next
    | with_reducible refine KeptO.ite (fun _ => ?_) (fun _ => ?_)
    | with_reducible refine Kept.ite (fun _ => ?_) (fun _ => ?_)

theorem piecePut_kept {fr : Nat} {z0 : State} (chunk : Nat) (piece : Nat) (data : List Byte) {s : State}  (hm : Within 0x100000 fr) (hk : Kept fr z0 s) : Kept fr z0 (piecePut s chunk piece data) := by
  unfold piecePut
  repeat' first
    | with_reducible assumption
    | with_reducible exact Stands.same
    | ((with_reducible refine Stands.hit (Within.trans ?_ hm)); rfl)
    | with_reducible refine Kept.ite (fun _ => ?_) (fun _ => ?_)
    | with_reducible refine Kept.foldl (fun _ _ _ => ?_) ?_
    | (fail_if_success with_reducible refine Kept.eta ?_); (with_reducible refine Kept.build ?_ rfl rfl ?_ ?_ ?_ ?_ ?_ ?_ ?_ ?_ ?_ ?_ ?_ ?_ ?_ ?_ ?_ ?_ ?_ ?_ ?_ ?_ ?_ ?_ ?_)

theorem execMilkChunk_kept {fr : Nat} {z0 : State} (port : Nat) (piece : Nat) (chunk : Nat) (session : List Byte) (data : List Byte) {s : State}  (hm : Within 0x800e00220400000e090fe00d0000000000000000000000000010000000000001b8000000020800000000004820445b038f fr) (hk : Kept fr z0 s) : KeptO fr z0 (execMilkChunk port piece chunk session data s) := by
  unfold execMilkChunk
  repeat' first
    | with_reducible assumption
    | with_reducible exact Stands.same
    | ((with_reducible refine Within.trans ?_ hm); rfl)
    | ((with_reducible refine Stands.hit (Within.trans ?_ hm)); rfl)
    | with_reducible apply imgCount_kept
    | with_reducible apply piecePut_kept
    | with_reducible apply chunkHomeless_kept
    | with_reducible apply chunkIn_kept
    | with_reducible apply KeptO.next
    | with_reducible refine KeptO.ite (fun _ => ?_) (fun _ => ?_)
    | with_reducible refine Kept.ite (fun _ => ?_) (fun _ => ?_)
    | with_reducible refine Kept.foldl (fun _ _ _ => ?_) ?_
    | (fail_if_success with_reducible refine Kept.eta ?_); (with_reducible refine Kept.build ?_ rfl rfl ?_ ?_ ?_ ?_ ?_ ?_ ?_ ?_ ?_ ?_ ?_ ?_ ?_ ?_ ?_ ?_ ?_ ?_ ?_ ?_ ?_ ?_ ?_)

theorem execMilkNeed_kept {fr : Nat} {z0 : State} (port : Nat) (session : List Byte) (bitmap : List Byte) {s : State}  (hm : Within 0x800e00220400000e090fe00d0000000000000000000000000010000000000001b80000000208000000000008400053038f fr) (hk : Kept fr z0 s) : KeptO fr z0 (execMilkNeed port session bitmap s) := by
  unfold execMilkNeed
  repeat' first
    | with_reducible assumption
    | with_reducible exact Stands.same
    | ((with_reducible refine Within.trans ?_ hm); rfl)
    | ((with_reducible refine Stands.hit (Within.trans ?_ hm)); rfl)
    | with_reducible apply imgCount_kept
    | with_reducible apply milkPump_kept
    | with_reducible apply State.fset_kept
    | with_reducible apply KeptO.next
    | with_reducible refine KeptO.ite (fun _ => ?_) (fun _ => ?_)
    | with_reducible refine Kept.ite (fun _ => ?_) (fun _ => ?_)
    | with_reducible refine Kept.foldl (fun _ _ _ => ?_) ?_
    | (fail_if_success with_reducible refine Kept.eta ?_); (with_reducible refine Kept.build ?_ rfl rfl ?_ ?_ ?_ ?_ ?_ ?_ ?_ ?_ ?_ ?_ ?_ ?_ ?_ ?_ ?_ ?_ ?_ ?_ ?_ ?_ ?_ ?_ ?_)

theorem execMilkAck_kept {fr : Nat} {z0 : State} (port : Nat) (chunk : Nat) (session : List Byte) {s : State}  (hm : Within 0x800e00220400000e090fe00d0000000000000000000000000010000000000001b80000000208000000000008000053038f fr) (hk : Kept fr z0 s) : KeptO fr z0 (execMilkAck port chunk session s) := by
  unfold execMilkAck
  repeat' first
    | with_reducible assumption
    | with_reducible exact Stands.same
    | ((with_reducible refine Within.trans ?_ hm); rfl)
    | ((with_reducible refine Stands.hit (Within.trans ?_ hm)); rfl)
    | with_reducible apply imgCount_kept
    | with_reducible apply milkPump_kept
    | with_reducible apply KeptO.next
    | with_reducible refine KeptO.ite (fun _ => ?_) (fun _ => ?_)
    | with_reducible refine Kept.ite (fun _ => ?_) (fun _ => ?_)
    | with_reducible refine Kept.foldl (fun _ _ _ => ?_) ?_
    | (fail_if_success with_reducible refine Kept.eta ?_); (with_reducible refine Kept.build ?_ rfl rfl ?_ ?_ ?_ ?_ ?_ ?_ ?_ ?_ ?_ ?_ ?_ ?_ ?_ ?_ ?_ ?_ ?_ ?_ ?_ ?_ ?_ ?_ ?_)

theorem execMilkRefuse_kept {fr : Nat} {z0 : State} (port : Nat) (_reason : Nat) (_session : List Byte) {s : State}  (hm : Within 0x100000 fr) (hk : Kept fr z0 s) : KeptO fr z0 (execMilkRefuse port _reason _session s) := by
  unfold execMilkRefuse
  repeat' first
    | with_reducible assumption
    | with_reducible exact Stands.same
    | ((with_reducible refine Stands.hit (Within.trans ?_ hm)); rfl)
    | with_reducible apply imgCount_kept
    | with_reducible apply KeptO.next
    | with_reducible refine KeptO.ite (fun _ => ?_) (fun _ => ?_)
    | with_reducible refine Kept.ite (fun _ => ?_) (fun _ => ?_)
    | with_reducible refine Kept.foldl (fun _ _ _ => ?_) ?_
    | (fail_if_success with_reducible refine Kept.eta ?_); (with_reducible refine Kept.build ?_ rfl rfl ?_ ?_ ?_ ?_ ?_ ?_ ?_ ?_ ?_ ?_ ?_ ?_ ?_ ?_ ?_ ?_ ?_ ?_ ?_ ?_ ?_ ?_ ?_)

theorem execMilkResendTimeout_kept {fr : Nat} {z0 : State} (chunk : Nat) {s : State}  (hm : Within 0x800e00220400000e090fe00d0000000000000000000000000010000000000001b80000000208000000000008400053038f fr) (hk : Kept fr z0 s) : KeptO fr z0 (execMilkResendTimeout chunk s) := by
  unfold execMilkResendTimeout
  repeat' first
    | with_reducible assumption
    | with_reducible exact Stands.same
    | ((with_reducible refine Within.trans ?_ hm); rfl)
    | ((with_reducible refine Stands.hit (Within.trans ?_ hm)); rfl)
    | with_reducible apply imgCount_kept
    | with_reducible apply sendChunk_kept
    | with_reducible apply State.fset_kept
    | with_reducible apply KeptO.next
    | with_reducible refine KeptO.ite (fun _ => ?_) (fun _ => ?_)
    | with_reducible refine Kept.ite (fun _ => ?_) (fun _ => ?_)
    | with_reducible refine Kept.foldl (fun _ _ _ => ?_) ?_
    | (fail_if_success with_reducible refine Kept.eta ?_); (with_reducible refine Kept.build ?_ rfl rfl ?_ ?_ ?_ ?_ ?_ ?_ ?_ ?_ ?_ ?_ ?_ ?_ ?_ ?_ ?_ ?_ ?_ ?_ ?_ ?_ ?_ ?_ ?_)
    | (with_reducible refine Kept.snd (by assumption) ?_)
    | dsimp only
    | split

theorem execMilkNeedTimer_kept {fr : Nat} {z0 : State} {s : State}  (hm : Within 0x800e00220400000e090fe00d0000000000000000000000000010000000000001b80000000208000000000008000053038f fr) (hk : Kept fr z0 s) : KeptO fr z0 (execMilkNeedTimer s) := by
  unfold execMilkNeedTimer
  repeat' first
    | with_reducible assumption
    | with_reducible exact Stands.same
    | with_reducible apply sendNeed_kept
    | with_reducible apply KeptO.next
    | with_reducible refine KeptO.ite (fun _ => ?_) (fun _ => ?_)
    | with_reducible refine Kept.ite (fun _ => ?_) (fun _ => ?_)
    | with_reducible refine Kept.foldl (fun _ _ _ => ?_) ?_
    | (with_reducible refine Kept.snd (by assumption) ?_)
    | dsimp only
    | split

theorem tablesStage_kept {fr : Nat} {z0 : State} (b : List Byte) {s : State}  (hm : Within 0x2001 fr) (hk : Kept fr z0 s) : Kept fr z0 (tablesStage s b) := by
  unfold tablesStage
  repeat' first
    | with_reducible assumption
    | with_reducible exact Stands.same
    | ((with_reducible refine Within.trans ?_ hm); rfl)
    | with_reducible apply tablesEnter_kept
    | with_reducible apply mapEpoch_kept

theorem ticketUnit_kept {fr : Nat} {z0 : State} (u : Nat) (t : Nat) (pub : Bool) {s : State}  (hm : Within 0x1ffffffffffffffffffffffffffffffffffffffffffffffffffffffffffff00001b8000009020841003c000008200057eb8f fr) (hk : Kept fr z0 s) : Kept fr z0 (ticketUnit s u t pub) := by
  unfold ticketUnit
  repeat' first
    | with_reducible assumption
    | with_reducible exact Stands.same
    | ((with_reducible refine Within.trans ?_ hm); rfl)
    | with_reducible apply State.fset_kept
    | with_reducible apply trigArm_kept

theorem ticketAccept_kept {fr : Nat} {z0 : State} (b : List Byte) {s : State}  (hm : Within 0x1ffffffffffffffffffffffffffffffffffffffffffffffffffffffffffff00001b8000009020841003c000008200057eb8f fr) (hk : Kept fr z0 s) : Kept fr z0 (ticketAccept s b) := by
  unfold ticketAccept
  repeat' first
    | with_reducible assumption
    | with_reducible exact Stands.same
    | ((with_reducible refine Within.trans ?_ hm); rfl)
    | ((with_reducible refine Stands.hit (Within.trans ?_ hm)); rfl)
    | with_reducible apply State.draw_kept
    | with_reducible apply ticketUnit_kept
    | with_reducible apply State.fset_kept
    | with_reducible apply tablesStage_kept
    | with_reducible apply bankIdle_kept
    | with_reducible refine Kept.ite (fun _ => ?_) (fun _ => ?_)
    | with_reducible refine Kept.foldl (fun _ _ _ => ?_) ?_
    | with_reducible refine Kept.foldlSnd (fun _ _ _ => ?_) ?_
    | with_reducible refine Kept.iteSnd (fun _ => ?_) (fun _ => ?_)
    | (fail_if_success with_reducible refine Kept.eta ?_); (with_reducible refine Kept.build ?_ rfl rfl ?_ ?_ ?_ ?_ ?_ ?_ ?_ ?_ ?_ ?_ ?_ ?_ ?_ ?_ ?_ ?_ ?_ ?_ ?_ ?_ ?_ ?_ ?_)

theorem execTicketSubmit_kept {fr : Nat} {z0 : State} (m : MbxReq) {s : State}  (hm : Within 0x1ffffffffffffffffffffffffffffffffffffffffffffffffffffffffffff00001b8000009020841003c00004820405feb8f fr) (hk : Kept fr z0 s) : KeptO fr z0 (execTicketSubmit m s) := by
  unfold execTicketSubmit
  repeat' first
    | with_reducible assumption
    | with_reducible exact Stands.same
    | ((with_reducible refine Within.trans ?_ hm); rfl)
    | with_reducible refine mbxRow_kept _ _ _ ?_ ?_ (fun _ _ => ?_)
    | with_reducible apply mbxDone_kept
    | with_reducible apply mbxWait_kept
    | with_reducible apply ticketAccept_kept
    | with_reducible apply envAccept_kept
    | with_reducible apply KeptO.next
    | with_reducible refine KeptO.ite (fun _ => ?_) (fun _ => ?_)
    | with_reducible refine Kept.ite (fun _ => ?_) (fun _ => ?_)

theorem execTicketCancel_kept {fr : Nat} {z0 : State} (m : MbxReq) {s : State}  (hm : Within 0x200000000000000000000000000000000000000000000000000000000000000000000010020000048204059e006 fr) (hk : Kept fr z0 s) : KeptO fr z0 (execTicketCancel m s) := by
  unfold execTicketCancel
  repeat' first
    | with_reducible assumption
    | with_reducible exact Stands.same
    | ((with_reducible refine Within.trans ?_ hm); rfl)
    | with_reducible refine mbxRow_kept _ _ _ ?_ ?_ (fun _ _ => ?_)
    | with_reducible apply mbxDone_kept
    | with_reducible apply ticketDrop_kept
    | with_reducible apply KeptO.next
    | with_reducible refine KeptO.ite (fun _ => ?_) (fun _ => ?_)
    | with_reducible refine Kept.ite (fun _ => ?_) (fun _ => ?_)
    | with_reducible refine Kept.foldl (fun _ _ _ => ?_) ?_
    | (with_reducible refine Kept.snd (by assumption) ?_)
    | dsimp only
    | split

theorem execActivationCheck_kept {fr : Nat} {z0 : State} {s : State}  (hm : Within 0x10020000000200010e000 fr) (hk : Kept fr z0 s) : KeptO fr z0 (execActivationCheck s) := by
  unfold execActivationCheck
  repeat' first
    | with_reducible assumption
    | with_reducible exact Stands.same
    | ((with_reducible refine Stands.hit (Within.trans ?_ hm)); rfl)
    | with_reducible apply ticketDrop_kept
    | with_reducible apply KeptO.next
    | with_reducible refine KeptO.ite (fun _ => ?_) (fun _ => ?_)
    | with_reducible refine Kept.ite (fun _ => ?_) (fun _ => ?_)
    | with_reducible refine Kept.foldl (fun _ _ _ => ?_) ?_
    | (fail_if_success with_reducible refine Kept.eta ?_); (with_reducible refine Kept.build ?_ rfl rfl ?_ ?_ ?_ ?_ ?_ ?_ ?_ ?_ ?_ ?_ ?_ ?_ ?_ ?_ ?_ ?_ ?_ ?_ ?_ ?_ ?_ ?_ ?_)
    | (with_reducible refine Kept.snd (by assumption) ?_)
    | dsimp only
    | split

theorem activationEnd_kept {fr : Nat} {z0 : State} (a : Activation) {s : State}  (hm : Within 0x2004100000 fr) (hk : Kept fr z0 s) : Kept fr z0 (activationEnd s a) := by
  unfold activationEnd
  repeat' first
    | with_reducible assumption
    | with_reducible exact Stands.same
    | ((with_reducible refine Within.trans ?_ hm); rfl)
    | ((with_reducible refine Stands.hit (Within.trans ?_ hm)); rfl)
    | with_reducible apply updShow_kept
    | with_reducible apply State.fset_kept
    | with_reducible refine Kept.ite (fun _ => ?_) (fun _ => ?_)
    | with_reducible refine Kept.foldl (fun _ _ _ => ?_) ?_
    | (fail_if_success with_reducible refine Kept.eta ?_); (with_reducible refine Kept.build ?_ rfl rfl ?_ ?_ ?_ ?_ ?_ ?_ ?_ ?_ ?_ ?_ ?_ ?_ ?_ ?_ ?_ ?_ ?_ ?_ ?_ ?_ ?_ ?_ ?_)

theorem octetRetrain_kept {fr : Nat} {z0 : State} (a : Activation) (n : Nat) {s : State}  (hm : Within 0x1fffffffffffffffffffffffffffffffffffffffffffffffffffffffffffffffffffffffffffffffffffffffffffffffffff fr) (hk : Kept fr z0 s) : Kept fr z0 (octetRetrain s a n) := by
  unfold octetRetrain
  repeat' first
    | with_reducible assumption
    | with_reducible exact Stands.same
    | ((with_reducible refine Stands.hit (Within.trans ?_ hm)); rfl)
    | with_reducible apply domainReset_kept
    | with_reducible refine Kept.ite (fun _ => ?_) (fun _ => ?_)
    | with_reducible refine Kept.foldl (fun _ _ _ => ?_) ?_
    | (fail_if_success with_reducible refine Kept.eta ?_); (with_reducible refine Kept.build ?_ rfl rfl ?_ ?_ ?_ ?_ ?_ ?_ ?_ ?_ ?_ ?_ ?_ ?_ ?_ ?_ ?_ ?_ ?_ ?_ ?_ ?_ ?_ ?_ ?_)

theorem runsNow_kept {fr : Nat} {z0 : State} (slot : Nat) (t : Nat) {s : State}  (hm : Within 0x100000 fr) (hk : Kept fr z0 s) : Kept fr z0 (runsNow s slot t) := by
  unfold runsNow
  repeat' first
    | with_reducible assumption
    | with_reducible exact Stands.same
    | ((with_reducible refine Stands.hit (Within.trans ?_ hm)); rfl)
    | with_reducible refine Kept.ite (fun _ => ?_) (fun _ => ?_)
    | with_reducible refine Kept.foldl (fun _ _ _ => ?_) ?_
    | (fail_if_success with_reducible refine Kept.eta ?_); (with_reducible refine Kept.build ?_ rfl rfl ?_ ?_ ?_ ?_ ?_ ?_ ?_ ?_ ?_ ?_ ?_ ?_ ?_ ?_ ?_ ?_ ?_ ?_ ?_ ?_ ?_ ?_ ?_)

theorem activationPorts_kept {fr : Nat} {z0 : State} (a : Activation) {s : State}  (hm : Within 0x1fffffffffffffffffffffffffffffffffffffffffffffffffffffffffffffffffffffffffffffffffffffffffffffffffff fr) (hk : Kept fr z0 s) : Kept fr z0 (activationPorts s a) := by
  unfold activationPorts
  repeat' first
    | with_reducible assumption
    | with_reducible exact Stands.same
    | ((with_reducible refine Within.trans ?_ hm); rfl)
    | with_reducible apply octetRetrain_kept
    | with_reducible apply activationEnd_kept
    | with_reducible refine Kept.ite (fun _ => ?_) (fun _ => ?_)

theorem activationSettle_kept {fr : Nat} {z0 : State} {s : State}  (hm : Within 0x1fffffffffffffffffffffffffffffffffffffffffffffffffffffffffffffffffffffffffffffffffffffffffffffffffff fr) (hk : Kept fr z0 s) : Kept fr z0 (activationSettle s) := by
  unfold activationSettle
  repeat' first
    | with_reducible assumption
    | with_reducible exact Stands.same
    | ((with_reducible refine Within.trans ?_ hm); rfl)
    | ((with_reducible refine Stands.hit (Within.trans ?_ hm)); rfl)
    | with_reducible apply tablesDone_kept
    | with_reducible apply domainReset_kept
    | with_reducible apply activationPorts_kept
    | with_reducible refine Kept.ite (fun _ => ?_) (fun _ => ?_)
    | with_reducible refine Kept.foldl (fun _ _ _ => ?_) ?_
    | (fail_if_success with_reducible refine Kept.eta ?_); (with_reducible refine Kept.build ?_ rfl rfl ?_ ?_ ?_ ?_ ?_ ?_ ?_ ?_ ?_ ?_ ?_ ?_ ?_ ?_ ?_ ?_ ?_ ?_ ?_ ?_ ?_ ?_ ?_)
    | (with_reducible refine Kept.snd (by assumption) ?_)
    | dsimp only
    | split

theorem execMladundRestartDone_kept {fr : Nat} {z0 : State} {s : State}  (hm : Within 0x1fffffffffffffffffffffffffffffffffffffffffffffffffffffffffffffffffffffffffffffffffffffffffffffffffff fr) (hk : Kept fr z0 s) : KeptO fr z0 (execMladundRestartDone s) := by
  unfold execMladundRestartDone
  repeat' first
    | with_reducible assumption
    | with_reducible exact Stands.same
    | ((with_reducible refine Within.trans ?_ hm); rfl)
    | with_reducible apply domainOpen_kept
    | with_reducible apply activationPorts_kept
    | with_reducible apply runsNow_kept
    | with_reducible apply sendNeed_kept
    | with_reducible apply KeptO.next
    | with_reducible refine KeptO.ite (fun _ => ?_) (fun _ => ?_)
    | with_reducible refine Kept.ite (fun _ => ?_) (fun _ => ?_)
    | with_reducible refine Kept.foldl (fun _ _ _ => ?_) ?_
    | (with_reducible refine Kept.snd (by assumption) ?_)
    | dsimp only
    | split

theorem execOctetRetrainNext_kept {fr : Nat} {z0 : State} {s : State}  (hm : Within 0x1fffffffffffffffffffffffffffffffffffffffffffffffffffffffffffffffffffffffffffffffffffffffffffffffffff fr) (hk : Kept fr z0 s) : KeptO fr z0 (execOctetRetrainNext s) := by
  unfold execOctetRetrainNext
  repeat' first
    | with_reducible assumption
    | with_reducible exact Stands.same
    | ((with_reducible refine Within.trans ?_ hm); rfl)
    | with_reducible apply octetRetrain_kept
    | with_reducible apply activationEnd_kept
    | with_reducible apply runsNow_kept
    | with_reducible apply KeptO.next
    | with_reducible refine KeptO.ite (fun _ => ?_) (fun _ => ?_)
    | with_reducible refine Kept.ite (fun _ => ?_) (fun _ => ?_)
    | with_reducible refine Kept.foldl (fun _ _ _ => ?_) ?_
    | (with_reducible refine Kept.snd (by assumption) ?_)
    | dsimp only
    | split

theorem execBootRecordWriteDone_kept {fr : Nat} {z0 : State} {s : State}  (hm : Within 0x1fffffffffffffffffffffffffffffffffffffffffffffffffffffffffffffffffffffffffffffffffffffffffffffffffff fr) (hk : Kept fr z0 s) : KeptO fr z0 (execBootRecordWriteDone s) := by
  unfold execBootRecordWriteDone
  repeat' first
    | with_reducible assumption
    | with_reducible exact Stands.same
    | ((with_reducible refine Within.trans ?_ hm); rfl)
    | ((with_reducible refine Stands.hit (Within.trans ?_ hm)); rfl)
    | with_reducible apply updShow_kept
    | with_reducible apply bootPut_kept
    | with_reducible apply activationRecord_kept
    | with_reducible apply assertSource_kept
    | with_reducible apply activationSettle_kept
    | with_reducible apply fuseSvn_kept
    | with_reducible apply State.fset_kept
    | with_reducible apply KeptO.next
    | with_reducible refine KeptO.ite (fun _ => ?_) (fun _ => ?_)
    | with_reducible refine Kept.ite (fun _ => ?_) (fun _ => ?_)
    | with_reducible refine Kept.foldl (fun _ _ _ => ?_) ?_
    | (fail_if_success with_reducible refine Kept.eta ?_); (with_reducible refine Kept.build ?_ rfl rfl ?_ ?_ ?_ ?_ ?_ ?_ ?_ ?_ ?_ ?_ ?_ ?_ ?_ ?_ ?_ ?_ ?_ ?_ ?_ ?_ ?_ ?_ ?_)
    | (with_reducible refine Kept.snd (by assumption) ?_)
    | dsimp only
    | split

theorem execDrainComplete_kept {fr : Nat} {z0 : State} {s : State}  (hm : Within 0x1fffffffffffffffffffffffffffffffffffffffffffffffffffffffffffffffffffffffffffffffffffffffffffffffffff fr) (hk : Kept fr z0 s) : KeptO fr z0 (execDrainComplete s) := by
  unfold execDrainComplete
  repeat' first
    | with_reducible assumption
    | with_reducible exact Stands.same
    | ((with_reducible refine Within.trans ?_ hm); rfl)
    | with_reducible apply activationSettle_kept
    | with_reducible apply drainDone_kept
    | with_reducible apply KeptO.next
    | with_reducible refine KeptO.ite (fun _ => ?_) (fun _ => ?_)
    | with_reducible refine Kept.ite (fun _ => ?_) (fun _ => ?_)

theorem execBankMirrorComplete_kept {fr : Nat} {z0 : State} {s : State}  (hm : Within 0x1fffffffffffffffffffffffffffffffffffffffffffffffffffffffffffffffffffffffffffffffffffffffffffffffffff fr) (hk : Kept fr z0 s) : KeptO fr z0 (execBankMirrorComplete s) := by
  unfold execBankMirrorComplete
  repeat' first
    | with_reducible assumption
    | with_reducible exact Stands.same
    | ((with_reducible refine Within.trans ?_ hm); rfl)
    | with_reducible apply activationSettle_kept
    | with_reducible apply mirrorDone_kept
    | with_reducible apply KeptO.next
    | with_reducible refine KeptO.ite (fun _ => ?_) (fun _ => ?_)
    | with_reducible refine Kept.ite (fun _ => ?_) (fun _ => ?_)

theorem execBundleStagingComplete_kept {fr : Nat} {z0 : State} {s : State}  (hm : Within 0x100000000000000104000 fr) (hk : Kept fr z0 s) : KeptO fr z0 (execBundleStagingComplete s) := by
  unfold execBundleStagingComplete
  repeat' first
    | with_reducible assumption
    | with_reducible exact Stands.same
    | ((with_reducible refine Within.trans ?_ hm); rfl)
    | ((with_reducible refine Stands.hit (Within.trans ?_ hm)); rfl)
    | with_reducible apply bankIdle_kept
    | with_reducible apply KeptO.next
    | with_reducible refine KeptO.ite (fun _ => ?_) (fun _ => ?_)
    | with_reducible refine Kept.ite (fun _ => ?_) (fun _ => ?_)
    | with_reducible refine Kept.foldl (fun _ _ _ => ?_) ?_
    | (fail_if_success with_reducible refine Kept.eta ?_); (with_reducible refine Kept.build ?_ rfl rfl ?_ ?_ ?_ ?_ ?_ ?_ ?_ ?_ ?_ ?_ ?_ ?_ ?_ ?_ ?_ ?_ ?_ ?_ ?_ ?_ ?_ ?_ ?_)
    | (with_reducible refine Kept.snd (by assumption) ?_)
    | dsimp only
    | split

theorem execStartComplete_kept {fr : Nat} {z0 : State} {s : State}  (hm : Within 0x800e00220400000e090fe00d0000000000000000000000000010000000000001b8000000020800000000000801485b038f fr) (hk : Kept fr z0 s) : KeptO fr z0 (execStartComplete s) := by
  unfold execStartComplete
  repeat' first
    | with_reducible assumption
    | with_reducible exact Stands.same
    | ((with_reducible refine Within.trans ?_ hm); rfl)
    | ((with_reducible refine Stands.hit (Within.trans ?_ hm)); rfl)
    | with_reducible apply State.fset_kept
    | with_reducible apply sendNeed_kept
    | with_reducible apply KeptO.next
    | with_reducible refine KeptO.ite (fun _ => ?_) (fun _ => ?_)
    | with_reducible refine Kept.ite (fun _ => ?_) (fun _ => ?_)
    | with_reducible refine Kept.foldl (fun _ _ _ => ?_) ?_
    | (fail_if_success with_reducible refine Kept.eta ?_); (with_reducible refine Kept.build ?_ rfl rfl ?_ ?_ ?_ ?_ ?_ ?_ ?_ ?_ ?_ ?_ ?_ ?_ ?_ ?_ ?_ ?_ ?_ ?_ ?_ ?_ ?_ ?_ ?_)

theorem execCheckerLock_kept {fr : Nat} {z0 : State} (octet : Nat) (lane : Nat) {s : State}  (hm : Within 0x4000000000000000000000000000 fr) (hk : Kept fr z0 s) : KeptO fr z0 (execCheckerLock octet lane s) := by
  unfold execCheckerLock
  repeat' first
    | with_reducible assumption
    | with_reducible exact Stands.same
    | ((with_reducible refine Within.trans ?_ hm); rfl)
    | with_reducible apply State.fset_kept
    | with_reducible apply KeptO.next
    | with_reducible refine KeptO.ite (fun _ => ?_) (fun _ => ?_)
    | with_reducible refine Kept.ite (fun _ => ?_) (fun _ => ?_)

theorem execCheckerLockLoss_kept {fr : Nat} {z0 : State} (octet : Nat) (lane : Nat) (bits : Nat) (errs : Nat) {s : State}  (hm : Within 0x4000000000000000080000610004 fr) (hk : Kept fr z0 s) : KeptO fr z0 (execCheckerLockLoss octet lane bits errs s) := by
  unfold execCheckerLockLoss
  repeat' first
    | with_reducible assumption
    | with_reducible exact Stands.same
    | ((with_reducible refine Within.trans ?_ hm); rfl)
    | ((with_reducible refine Stands.hit (Within.trans ?_ hm)); rfl)
    | with_reducible apply laneAdd_kept
    | with_reducible apply State.fset_kept
    | with_reducible apply State.event_kept
    | with_reducible apply KeptO.next
    | with_reducible refine KeptO.ite (fun _ => ?_) (fun _ => ?_)
    | with_reducible refine Kept.ite (fun _ => ?_) (fun _ => ?_)
    | with_reducible refine Kept.foldl (fun _ _ _ => ?_) ?_
    | (fail_if_success with_reducible refine Kept.eta ?_); (with_reducible refine Kept.build ?_ rfl rfl ?_ ?_ ?_ ?_ ?_ ?_ ?_ ?_ ?_ ?_ ?_ ?_ ?_ ?_ ?_ ?_ ?_ ?_ ?_ ?_ ?_ ?_ ?_)

theorem execCheckerSaturate_kept {fr : Nat} {z0 : State} (octet : Nat) (lane : Nat) (bits : Nat) (errs : Nat) {s : State}  (hm : Within 0x4000000000000000080000610004 fr) (hk : Kept fr z0 s) : KeptO fr z0 (execCheckerSaturate octet lane bits errs s) := by
  unfold execCheckerSaturate
  repeat' first
    | with_reducible assumption
    | with_reducible exact Stands.same
    | ((with_reducible refine Within.trans ?_ hm); rfl)
    | with_reducible apply laneAdd_kept
    | with_reducible apply State.event_kept
    | with_reducible apply KeptO.next
    | with_reducible refine KeptO.ite (fun _ => ?_) (fun _ => ?_)
    | with_reducible refine Kept.ite (fun _ => ?_) (fun _ => ?_)

theorem execGenFrameSend_kept {fr : Nat} {z0 : State} (port : Nat) {s : State}  (hm : Within 0x10000000000000000a00000000000000000000000000016 fr) (hk : Kept fr z0 s) : KeptO fr z0 (execGenFrameSend port s) := by
  unfold execGenFrameSend
  repeat' first
    | with_reducible assumption
    | with_reducible exact Stands.same
    | ((with_reducible refine Within.trans ?_ hm); rfl)
    | with_reducible apply State.emit_kept
    | with_reducible apply State.count_kept
    | with_reducible apply State.fset_kept
    | with_reducible apply State.setPort_kept
    | with_reducible apply KeptO.next
    | with_reducible refine KeptO.ite (fun _ => ?_) (fun _ => ?_)
    | with_reducible refine Kept.ite (fun _ => ?_) (fun _ => ?_)
    | with_reducible refine Kept.foldl (fun _ _ _ => ?_) ?_
    | (with_reducible refine Kept.snd (by assumption) ?_)
    | dsimp only
    | split

theorem tapLoad_kept {fr : Nat} {z0 : State} (i : TapInstr) {s : State}  (hm : Within 0x200000 fr) (hk : Kept fr z0 s) : Kept fr z0 (tapLoad s i) := by
  unfold tapLoad
  repeat' first
    | with_reducible assumption
    | with_reducible exact Stands.same
    | ((with_reducible refine Stands.hit (Within.trans ?_ hm)); rfl)
    | with_reducible refine Kept.ite (fun _ => ?_) (fun _ => ?_)
    | with_reducible refine Kept.foldl (fun _ _ _ => ?_) ?_
    | (fail_if_success with_reducible refine Kept.eta ?_); (with_reducible refine Kept.build ?_ rfl rfl ?_ ?_ ?_ ?_ ?_ ?_ ?_ ?_ ?_ ?_ ?_ ?_ ?_ ?_ ?_ ?_ ?_ ?_ ?_ ?_ ?_ ?_ ?_)

theorem execBypass_kept {fr : Nat} {z0 : State} {s : State}  (hm : Within 0x200000 fr) (hk : Kept fr z0 s) : KeptO fr z0 (execBypass s) := by
  unfold execBypass
  repeat' first
    | with_reducible assumption
    | with_reducible exact Stands.same
    | with_reducible apply tapLoad_kept
    | with_reducible apply KeptO.next

theorem execIdcode_kept {fr : Nat} {z0 : State} {s : State}  (hm : Within 0x200004 fr) (hk : Kept fr z0 s) : KeptO fr z0 (execIdcode s) := by
  unfold execIdcode
  repeat' first
    | with_reducible assumption
    | with_reducible exact Stands.same
    | ((with_reducible refine Within.trans ?_ hm); rfl)
    | with_reducible apply tapLoad_kept
    | with_reducible apply State.emit_kept
    | with_reducible apply KeptO.next

theorem execSamplePreload_kept {fr : Nat} {z0 : State} {s : State}  (hm : Within 0x200000 fr) (hk : Kept fr z0 s) : KeptO fr z0 (execSamplePreload s) := by
  unfold execSamplePreload
  repeat' first
    | with_reducible assumption
    | with_reducible exact Stands.same
    | with_reducible apply tapLoad_kept
    | with_reducible apply KeptO.next

theorem execExtest_kept {fr : Nat} {z0 : State} {s : State}  (hm : Within 0x200000 fr) (hk : Kept fr z0 s) : KeptO fr z0 (execExtest s) := by
  unfold execExtest
  repeat' first
    | with_reducible assumption
    | with_reducible exact Stands.same
    | with_reducible apply tapLoad_kept
    | with_reducible apply KeptO.next

theorem execClamp_kept {fr : Nat} {z0 : State} {s : State}  (hm : Within 0x200000 fr) (hk : Kept fr z0 s) : KeptO fr z0 (execClamp s) := by
  unfold execClamp
  repeat' first
    | with_reducible assumption
    | with_reducible exact Stands.same
    | with_reducible apply tapLoad_kept
    | with_reducible apply KeptO.next

theorem execHighz_kept {fr : Nat} {z0 : State} {s : State}  (hm : Within 0x200000 fr) (hk : Kept fr z0 s) : KeptO fr z0 (execHighz s) := by
  unfold execHighz
  repeat' first
    | with_reducible assumption
    | with_reducible exact Stands.same
    | with_reducible apply tapLoad_kept
    | with_reducible apply KeptO.next

theorem execExtestPulse_kept {fr : Nat} {z0 : State} {s : State}  (hm : Within 0x200000 fr) (hk : Kept fr z0 s) : KeptO fr z0 (execExtestPulse s) := by
  unfold execExtestPulse
  repeat' first
    | with_reducible assumption
    | with_reducible exact Stands.same
    | with_reducible apply tapLoad_kept
    | with_reducible apply KeptO.next

theorem execExtestTrain_kept {fr : Nat} {z0 : State} {s : State}  (hm : Within 0x200000 fr) (hk : Kept fr z0 s) : KeptO fr z0 (execExtestTrain s) := by
  unfold execExtestTrain
  repeat' first
    | with_reducible assumption
    | with_reducible exact Stands.same
    | with_reducible apply tapLoad_kept
    | with_reducible apply KeptO.next

theorem execTapReset_kept {fr : Nat} {z0 : State} {s : State}  (hm : Within 0x200000 fr) (hk : Kept fr z0 s) : KeptO fr z0 (execTapReset s) := by
  unfold execTapReset
  repeat' first
    | with_reducible assumption
    | with_reducible exact Stands.same
    | with_reducible apply tapLoad_kept
    | with_reducible apply KeptO.next

end Sys2Proof.Machine
end

