-- ==== Sys2Proof/Laws/State.lean ====
section
/-! SUPPORT. Each plain update of the state, field by field, and what its own reader answers after it. -/

namespace Sys2Proof.Machine

/-! ### fset -/

@[simp] theorem fset_pending (s : State) (f : Fld) (i v : Nat) : (s.fset f i v).pending = s.pending := rfl
@[simp] theorem fset_now (s : State) (f : Fld) (i v : Nat) : (s.fset f i v).now = s.now := rfl
@[simp] theorem fset_draws (s : State) (f : Fld) (i v : Nat) : (s.fset f i v).draws = s.draws := rfl
@[simp] theorem fset_reg (s : State) (f : Fld) (i v : Nat) : (s.fset f i v).reg = tset (fldReset f i) s.reg (f.ctorIdx, i) (v % 2 ^ f.info.width) := rfl
@[simp] theorem fset_ctr (s : State) (f : Fld) (i v : Nat) : (s.fset f i v).ctr = s.ctr := rfl
@[simp] theorem fset_prog (s : State) (f : Fld) (i v : Nat) : (s.fset f i v).prog = s.prog := rfl
@[simp] theorem fset_out (s : State) (f : Fld) (i v : Nat) : (s.fset f i v).out = s.out := rfl
@[simp] theorem fset_frames (s : State) (f : Fld) (i v : Nat) : (s.fset f i v).frames = s.frames := rfl
@[simp] theorem fset_nextFrame (s : State) (f : Fld) (i v : Nat) : (s.fset f i v).nextFrame = s.nextFrame := rfl
@[simp] theorem fset_nextPlace (s : State) (f : Fld) (i v : Nat) : (s.fset f i v).nextPlace = s.nextPlace := rfl
@[simp] theorem fset_ports (s : State) (f : Fld) (i v : Nat) : (s.fset f i v).ports = s.ports := rfl
@[simp] theorem fset_staging (s : State) (f : Fld) (i v : Nat) : (s.fset f i v).staging = s.staging := rfl
@[simp] theorem fset_recirc (s : State) (f : Fld) (i v : Nat) : (s.fset f i v).recirc = s.recirc := rfl
@[simp] theorem fset_punts (s : State) (f : Fld) (i v : Nat) : (s.fset f i v).punts = s.punts := rfl
@[simp] theorem fset_puntBuckets (s : State) (f : Fld) (i v : Nat) : (s.fset f i v).puntBuckets = s.puntBuckets := rfl
@[simp] theorem fset_buffers (s : State) (f : Fld) (i v : Nat) : (s.fset f i v).buffers = s.buffers := rfl
@[simp] theorem fset_egress (s : State) (f : Fld) (i v : Nat) : (s.fset f i v).egress = s.egress := rfl
@[simp] theorem fset_fabric (s : State) (f : Fld) (i v : Nat) : (s.fset f i v).fabric = s.fabric := rfl
@[simp] theorem fset_cellar (s : State) (f : Fld) (i v : Nat) : (s.fset f i v).cellar = s.cellar := rfl
@[simp] theorem fset_skim (s : State) (f : Fld) (i v : Nat) : (s.fset f i v).skim = s.skim := rfl
@[simp] theorem fset_strainer (s : State) (f : Fld) (i v : Nat) : (s.fset f i v).strainer = s.strainer := rfl
@[simp] theorem fset_churn (s : State) (f : Fld) (i v : Nat) : (s.fset f i v).churn = s.churn := rfl
@[simp] theorem fset_time (s : State) (f : Fld) (i v : Nat) : (s.fset f i v).time = s.time := rfl
@[simp] theorem fset_host (s : State) (f : Fld) (i v : Nat) : (s.fset f i v).host = s.host := rfl
@[simp] theorem fset_whey (s : State) (f : Fld) (i v : Nat) : (s.fset f i v).whey = s.whey := rfl
@[simp] theorem fset_telem (s : State) (f : Fld) (i v : Nat) : (s.fset f i v).telem = s.telem := rfl
@[simp] theorem fset_rind (s : State) (f : Fld) (i v : Nat) : (s.fset f i v).rind = s.rind := rfl
@[simp] theorem fset_images (s : State) (f : Fld) (i v : Nat) : (s.fset f i v).images = s.images := rfl
@[simp] theorem fset_setup (s : State) (f : Fld) (i v : Nat) : (s.fset f i v).setup = s.setup := rfl
@[simp] theorem fset_evtLevel (s : State) (f : Fld) (i v : Nat) : (s.fset f i v).evtLevel = s.evtLevel := rfl

/-! ### gset -/

@[simp] theorem gset_pending (s : State) (c : Ctr) (i v : Nat) : (s.gset c i v).pending = s.pending := rfl
@[simp] theorem gset_now (s : State) (c : Ctr) (i v : Nat) : (s.gset c i v).now = s.now := rfl
@[simp] theorem gset_draws (s : State) (c : Ctr) (i v : Nat) : (s.gset c i v).draws = s.draws := rfl
@[simp] theorem gset_reg (s : State) (c : Ctr) (i v : Nat) : (s.gset c i v).reg = s.reg := rfl
@[simp] theorem gset_ctr (s : State) (c : Ctr) (i v : Nat) : (s.gset c i v).ctr = tset 0 s.ctr (c.ctorIdx, i) (v % 2 ^ 48) := rfl
@[simp] theorem gset_prog (s : State) (c : Ctr) (i v : Nat) : (s.gset c i v).prog = s.prog := rfl
@[simp] theorem gset_out (s : State) (c : Ctr) (i v : Nat) : (s.gset c i v).out = s.out := rfl
@[simp] theorem gset_frames (s : State) (c : Ctr) (i v : Nat) : (s.gset c i v).frames = s.frames := rfl
@[simp] theorem gset_nextFrame (s : State) (c : Ctr) (i v : Nat) : (s.gset c i v).nextFrame = s.nextFrame := rfl
@[simp] theorem gset_nextPlace (s : State) (c : Ctr) (i v : Nat) : (s.gset c i v).nextPlace = s.nextPlace := rfl
@[simp] theorem gset_ports (s : State) (c : Ctr) (i v : Nat) : (s.gset c i v).ports = s.ports := rfl
@[simp] theorem gset_staging (s : State) (c : Ctr) (i v : Nat) : (s.gset c i v).staging = s.staging := rfl
@[simp] theorem gset_recirc (s : State) (c : Ctr) (i v : Nat) : (s.gset c i v).recirc = s.recirc := rfl
@[simp] theorem gset_punts (s : State) (c : Ctr) (i v : Nat) : (s.gset c i v).punts = s.punts := rfl
@[simp] theorem gset_puntBuckets (s : State) (c : Ctr) (i v : Nat) : (s.gset c i v).puntBuckets = s.puntBuckets := rfl
@[simp] theorem gset_buffers (s : State) (c : Ctr) (i v : Nat) : (s.gset c i v).buffers = s.buffers := rfl
@[simp] theorem gset_egress (s : State) (c : Ctr) (i v : Nat) : (s.gset c i v).egress = s.egress := rfl
@[simp] theorem gset_fabric (s : State) (c : Ctr) (i v : Nat) : (s.gset c i v).fabric = s.fabric := rfl
@[simp] theorem gset_cellar (s : State) (c : Ctr) (i v : Nat) : (s.gset c i v).cellar = s.cellar := rfl
@[simp] theorem gset_skim (s : State) (c : Ctr) (i v : Nat) : (s.gset c i v).skim = s.skim := rfl
@[simp] theorem gset_strainer (s : State) (c : Ctr) (i v : Nat) : (s.gset c i v).strainer = s.strainer := rfl
@[simp] theorem gset_churn (s : State) (c : Ctr) (i v : Nat) : (s.gset c i v).churn = s.churn := rfl
@[simp] theorem gset_time (s : State) (c : Ctr) (i v : Nat) : (s.gset c i v).time = s.time := rfl
@[simp] theorem gset_host (s : State) (c : Ctr) (i v : Nat) : (s.gset c i v).host = s.host := rfl
@[simp] theorem gset_whey (s : State) (c : Ctr) (i v : Nat) : (s.gset c i v).whey = s.whey := rfl
@[simp] theorem gset_telem (s : State) (c : Ctr) (i v : Nat) : (s.gset c i v).telem = s.telem := rfl
@[simp] theorem gset_rind (s : State) (c : Ctr) (i v : Nat) : (s.gset c i v).rind = s.rind := rfl
@[simp] theorem gset_images (s : State) (c : Ctr) (i v : Nat) : (s.gset c i v).images = s.images := rfl
@[simp] theorem gset_setup (s : State) (c : Ctr) (i v : Nat) : (s.gset c i v).setup = s.setup := rfl
@[simp] theorem gset_evtLevel (s : State) (c : Ctr) (i v : Nat) : (s.gset c i v).evtLevel = s.evtLevel := rfl

/-! ### emit -/

@[simp] theorem emit_pending (s : State) (o : Out) : (s.emit o).pending = s.pending := rfl
@[simp] theorem emit_now (s : State) (o : Out) : (s.emit o).now = s.now := rfl
@[simp] theorem emit_draws (s : State) (o : Out) : (s.emit o).draws = s.draws := rfl
@[simp] theorem emit_reg (s : State) (o : Out) : (s.emit o).reg = s.reg := rfl
@[simp] theorem emit_ctr (s : State) (o : Out) : (s.emit o).ctr = s.ctr := rfl
@[simp] theorem emit_prog (s : State) (o : Out) : (s.emit o).prog = s.prog := rfl
@[simp] theorem emit_out (s : State) (o : Out) : (s.emit o).out = s.out ++ [o] := rfl
@[simp] theorem emit_frames (s : State) (o : Out) : (s.emit o).frames = s.frames := rfl
@[simp] theorem emit_nextFrame (s : State) (o : Out) : (s.emit o).nextFrame = s.nextFrame := rfl
@[simp] theorem emit_nextPlace (s : State) (o : Out) : (s.emit o).nextPlace = s.nextPlace := rfl
@[simp] theorem emit_ports (s : State) (o : Out) : (s.emit o).ports = s.ports := rfl
@[simp] theorem emit_staging (s : State) (o : Out) : (s.emit o).staging = s.staging := rfl
@[simp] theorem emit_recirc (s : State) (o : Out) : (s.emit o).recirc = s.recirc := rfl
@[simp] theorem emit_punts (s : State) (o : Out) : (s.emit o).punts = s.punts := rfl
@[simp] theorem emit_puntBuckets (s : State) (o : Out) : (s.emit o).puntBuckets = s.puntBuckets := rfl
@[simp] theorem emit_buffers (s : State) (o : Out) : (s.emit o).buffers = s.buffers := rfl
@[simp] theorem emit_egress (s : State) (o : Out) : (s.emit o).egress = s.egress := rfl
@[simp] theorem emit_fabric (s : State) (o : Out) : (s.emit o).fabric = s.fabric := rfl
@[simp] theorem emit_cellar (s : State) (o : Out) : (s.emit o).cellar = s.cellar := rfl
@[simp] theorem emit_skim (s : State) (o : Out) : (s.emit o).skim = s.skim := rfl
@[simp] theorem emit_strainer (s : State) (o : Out) : (s.emit o).strainer = s.strainer := rfl
@[simp] theorem emit_churn (s : State) (o : Out) : (s.emit o).churn = s.churn := rfl
@[simp] theorem emit_time (s : State) (o : Out) : (s.emit o).time = s.time := rfl
@[simp] theorem emit_host (s : State) (o : Out) : (s.emit o).host = s.host := rfl
@[simp] theorem emit_whey (s : State) (o : Out) : (s.emit o).whey = s.whey := rfl
@[simp] theorem emit_telem (s : State) (o : Out) : (s.emit o).telem = s.telem := rfl
@[simp] theorem emit_rind (s : State) (o : Out) : (s.emit o).rind = s.rind := rfl
@[simp] theorem emit_images (s : State) (o : Out) : (s.emit o).images = s.images := rfl
@[simp] theorem emit_setup (s : State) (o : Out) : (s.emit o).setup = s.setup := rfl
@[simp] theorem emit_evtLevel (s : State) (o : Out) : (s.emit o).evtLevel = s.evtLevel := rfl

/-! ### draw -/

@[simp] theorem draw_pending (s : State) : (s.draw.2).pending = s.pending := rfl
@[simp] theorem draw_now (s : State) : (s.draw.2).now = s.now := rfl
@[simp] theorem draw_draws (s : State) : (s.draw.2).draws = s.draws + 1 := rfl
@[simp] theorem draw_reg (s : State) : (s.draw.2).reg = s.reg := rfl
@[simp] theorem draw_ctr (s : State) : (s.draw.2).ctr = s.ctr := rfl
@[simp] theorem draw_prog (s : State) : (s.draw.2).prog = s.prog := rfl
@[simp] theorem draw_out (s : State) : (s.draw.2).out = s.out := rfl
@[simp] theorem draw_frames (s : State) : (s.draw.2).frames = s.frames := rfl
@[simp] theorem draw_nextFrame (s : State) : (s.draw.2).nextFrame = s.nextFrame := rfl
@[simp] theorem draw_nextPlace (s : State) : (s.draw.2).nextPlace = s.nextPlace := rfl
@[simp] theorem draw_ports (s : State) : (s.draw.2).ports = s.ports := rfl
@[simp] theorem draw_staging (s : State) : (s.draw.2).staging = s.staging := rfl
@[simp] theorem draw_recirc (s : State) : (s.draw.2).recirc = s.recirc := rfl
@[simp] theorem draw_punts (s : State) : (s.draw.2).punts = s.punts := rfl
@[simp] theorem draw_puntBuckets (s : State) : (s.draw.2).puntBuckets = s.puntBuckets := rfl
@[simp] theorem draw_buffers (s : State) : (s.draw.2).buffers = s.buffers := rfl
@[simp] theorem draw_egress (s : State) : (s.draw.2).egress = s.egress := rfl
@[simp] theorem draw_fabric (s : State) : (s.draw.2).fabric = s.fabric := rfl
@[simp] theorem draw_cellar (s : State) : (s.draw.2).cellar = s.cellar := rfl
@[simp] theorem draw_skim (s : State) : (s.draw.2).skim = s.skim := rfl
@[simp] theorem draw_strainer (s : State) : (s.draw.2).strainer = s.strainer := rfl
@[simp] theorem draw_churn (s : State) : (s.draw.2).churn = s.churn := rfl
@[simp] theorem draw_time (s : State) : (s.draw.2).time = s.time := rfl
@[simp] theorem draw_host (s : State) : (s.draw.2).host = s.host := rfl
@[simp] theorem draw_whey (s : State) : (s.draw.2).whey = s.whey := rfl
@[simp] theorem draw_telem (s : State) : (s.draw.2).telem = s.telem := rfl
@[simp] theorem draw_rind (s : State) : (s.draw.2).rind = s.rind := rfl
@[simp] theorem draw_images (s : State) : (s.draw.2).images = s.images := rfl
@[simp] theorem draw_setup (s : State) : (s.draw.2).setup = s.setup := rfl
@[simp] theorem draw_evtLevel (s : State) : (s.draw.2).evtLevel = s.evtLevel := rfl

/-! ### setFrame -/

@[simp] theorem setFrame_pending (s : State) (id : Nat) (f : Frame) : (s.setFrame id f).pending = s.pending := rfl
@[simp] theorem setFrame_now (s : State) (id : Nat) (f : Frame) : (s.setFrame id f).now = s.now := rfl
@[simp] theorem setFrame_draws (s : State) (id : Nat) (f : Frame) : (s.setFrame id f).draws = s.draws := rfl
@[simp] theorem setFrame_reg (s : State) (id : Nat) (f : Frame) : (s.setFrame id f).reg = s.reg := rfl
@[simp] theorem setFrame_ctr (s : State) (id : Nat) (f : Frame) : (s.setFrame id f).ctr = s.ctr := rfl
@[simp] theorem setFrame_prog (s : State) (id : Nat) (f : Frame) : (s.setFrame id f).prog = s.prog := rfl
@[simp] theorem setFrame_out (s : State) (id : Nat) (f : Frame) : (s.setFrame id f).out = s.out := rfl
@[simp] theorem setFrame_frames (s : State) (id : Nat) (f : Frame) : (s.setFrame id f).frames = tput s.frames (id, 0) f := rfl
@[simp] theorem setFrame_nextFrame (s : State) (id : Nat) (f : Frame) : (s.setFrame id f).nextFrame = s.nextFrame := rfl
@[simp] theorem setFrame_nextPlace (s : State) (id : Nat) (f : Frame) : (s.setFrame id f).nextPlace = s.nextPlace := rfl
@[simp] theorem setFrame_ports (s : State) (id : Nat) (f : Frame) : (s.setFrame id f).ports = s.ports := rfl
@[simp] theorem setFrame_staging (s : State) (id : Nat) (f : Frame) : (s.setFrame id f).staging = s.staging := rfl
@[simp] theorem setFrame_recirc (s : State) (id : Nat) (f : Frame) : (s.setFrame id f).recirc = s.recirc := rfl
@[simp] theorem setFrame_punts (s : State) (id : Nat) (f : Frame) : (s.setFrame id f).punts = s.punts := rfl
@[simp] theorem setFrame_puntBuckets (s : State) (id : Nat) (f : Frame) : (s.setFrame id f).puntBuckets = s.puntBuckets := rfl
@[simp] theorem setFrame_buffers (s : State) (id : Nat) (f : Frame) : (s.setFrame id f).buffers = s.buffers := rfl
@[simp] theorem setFrame_egress (s : State) (id : Nat) (f : Frame) : (s.setFrame id f).egress = s.egress := rfl
@[simp] theorem setFrame_fabric (s : State) (id : Nat) (f : Frame) : (s.setFrame id f).fabric = s.fabric := rfl
@[simp] theorem setFrame_cellar (s : State) (id : Nat) (f : Frame) : (s.setFrame id f).cellar = s.cellar := rfl
@[simp] theorem setFrame_skim (s : State) (id : Nat) (f : Frame) : (s.setFrame id f).skim = s.skim := rfl
@[simp] theorem setFrame_strainer (s : State) (id : Nat) (f : Frame) : (s.setFrame id f).strainer = s.strainer := rfl
@[simp] theorem setFrame_churn (s : State) (id : Nat) (f : Frame) : (s.setFrame id f).churn = s.churn := rfl
@[simp] theorem setFrame_time (s : State) (id : Nat) (f : Frame) : (s.setFrame id f).time = s.time := rfl
@[simp] theorem setFrame_host (s : State) (id : Nat) (f : Frame) : (s.setFrame id f).host = s.host := rfl
@[simp] theorem setFrame_whey (s : State) (id : Nat) (f : Frame) : (s.setFrame id f).whey = s.whey := rfl
@[simp] theorem setFrame_telem (s : State) (id : Nat) (f : Frame) : (s.setFrame id f).telem = s.telem := rfl
@[simp] theorem setFrame_rind (s : State) (id : Nat) (f : Frame) : (s.setFrame id f).rind = s.rind := rfl
@[simp] theorem setFrame_images (s : State) (id : Nat) (f : Frame) : (s.setFrame id f).images = s.images := rfl
@[simp] theorem setFrame_setup (s : State) (id : Nat) (f : Frame) : (s.setFrame id f).setup = s.setup := rfl
@[simp] theorem setFrame_evtLevel (s : State) (id : Nat) (f : Frame) : (s.setFrame id f).evtLevel = s.evtLevel := rfl

/-! ### newFrame -/

@[simp] theorem newFrame_pending (s : State) (f : Frame) : (s.newFrame f).pending = s.pending := rfl
@[simp] theorem newFrame_now (s : State) (f : Frame) : (s.newFrame f).now = s.now := rfl
@[simp] theorem newFrame_draws (s : State) (f : Frame) : (s.newFrame f).draws = s.draws := rfl
@[simp] theorem newFrame_reg (s : State) (f : Frame) : (s.newFrame f).reg = s.reg := rfl
@[simp] theorem newFrame_ctr (s : State) (f : Frame) : (s.newFrame f).ctr = s.ctr := rfl
@[simp] theorem newFrame_prog (s : State) (f : Frame) : (s.newFrame f).prog = s.prog := rfl
@[simp] theorem newFrame_out (s : State) (f : Frame) : (s.newFrame f).out = s.out := rfl
@[simp] theorem newFrame_frames (s : State) (f : Frame) : (s.newFrame f).frames = tput s.frames (s.nextFrame, 0) f := rfl
@[simp] theorem newFrame_nextFrame (s : State) (f : Frame) : (s.newFrame f).nextFrame = s.nextFrame + 1 := rfl
@[simp] theorem newFrame_nextPlace (s : State) (f : Frame) : (s.newFrame f).nextPlace = s.nextPlace := rfl
@[simp] theorem newFrame_ports (s : State) (f : Frame) : (s.newFrame f).ports = s.ports := rfl
@[simp] theorem newFrame_staging (s : State) (f : Frame) : (s.newFrame f).staging = s.staging := rfl
@[simp] theorem newFrame_recirc (s : State) (f : Frame) : (s.newFrame f).recirc = s.recirc := rfl
@[simp] theorem newFrame_punts (s : State) (f : Frame) : (s.newFrame f).punts = s.punts := rfl
@[simp] theorem newFrame_puntBuckets (s : State) (f : Frame) : (s.newFrame f).puntBuckets = s.puntBuckets := rfl
@[simp] theorem newFrame_buffers (s : State) (f : Frame) : (s.newFrame f).buffers = s.buffers := rfl
@[simp] theorem newFrame_egress (s : State) (f : Frame) : (s.newFrame f).egress = s.egress := rfl
@[simp] theorem newFrame_fabric (s : State) (f : Frame) : (s.newFrame f).fabric = s.fabric := rfl
@[simp] theorem newFrame_cellar (s : State) (f : Frame) : (s.newFrame f).cellar = s.cellar := rfl
@[simp] theorem newFrame_skim (s : State) (f : Frame) : (s.newFrame f).skim = s.skim := rfl
@[simp] theorem newFrame_strainer (s : State) (f : Frame) : (s.newFrame f).strainer = s.strainer := rfl
@[simp] theorem newFrame_churn (s : State) (f : Frame) : (s.newFrame f).churn = s.churn := rfl
@[simp] theorem newFrame_time (s : State) (f : Frame) : (s.newFrame f).time = s.time := rfl
@[simp] theorem newFrame_host (s : State) (f : Frame) : (s.newFrame f).host = s.host := rfl
@[simp] theorem newFrame_whey (s : State) (f : Frame) : (s.newFrame f).whey = s.whey := rfl
@[simp] theorem newFrame_telem (s : State) (f : Frame) : (s.newFrame f).telem = s.telem := rfl
@[simp] theorem newFrame_rind (s : State) (f : Frame) : (s.newFrame f).rind = s.rind := rfl
@[simp] theorem newFrame_images (s : State) (f : Frame) : (s.newFrame f).images = s.images := rfl
@[simp] theorem newFrame_setup (s : State) (f : Frame) : (s.newFrame f).setup = s.setup := rfl
@[simp] theorem newFrame_evtLevel (s : State) (f : Frame) : (s.newFrame f).evtLevel = s.evtLevel := rfl

/-! ### delFrame -/

@[simp] theorem delFrame_pending (s : State) (id : Nat) : (s.delFrame id).pending = s.pending := rfl
@[simp] theorem delFrame_now (s : State) (id : Nat) : (s.delFrame id).now = s.now := rfl
@[simp] theorem delFrame_draws (s : State) (id : Nat) : (s.delFrame id).draws = s.draws := rfl
@[simp] theorem delFrame_reg (s : State) (id : Nat) : (s.delFrame id).reg = s.reg := rfl
@[simp] theorem delFrame_ctr (s : State) (id : Nat) : (s.delFrame id).ctr = s.ctr := rfl
@[simp] theorem delFrame_prog (s : State) (id : Nat) : (s.delFrame id).prog = s.prog := rfl
@[simp] theorem delFrame_out (s : State) (id : Nat) : (s.delFrame id).out = s.out := rfl
@[simp] theorem delFrame_frames (s : State) (id : Nat) : (s.delFrame id).frames = tdel s.frames (id, 0) := rfl
@[simp] theorem delFrame_nextFrame (s : State) (id : Nat) : (s.delFrame id).nextFrame = s.nextFrame := rfl
@[simp] theorem delFrame_nextPlace (s : State) (id : Nat) : (s.delFrame id).nextPlace = s.nextPlace := rfl
@[simp] theorem delFrame_ports (s : State) (id : Nat) : (s.delFrame id).ports = s.ports := rfl
@[simp] theorem delFrame_staging (s : State) (id : Nat) : (s.delFrame id).staging = s.staging := rfl
@[simp] theorem delFrame_recirc (s : State) (id : Nat) : (s.delFrame id).recirc = s.recirc := rfl
@[simp] theorem delFrame_punts (s : State) (id : Nat) : (s.delFrame id).punts = s.punts.filter (fun p => p.frame ≠ id) := rfl
@[simp] theorem delFrame_puntBuckets (s : State) (id : Nat) : (s.delFrame id).puntBuckets = s.puntBuckets := rfl
@[simp] theorem delFrame_buffers (s : State) (id : Nat) : (s.delFrame id).buffers = s.buffers := rfl
@[simp] theorem delFrame_egress (s : State) (id : Nat) : (s.delFrame id).egress = s.egress := rfl
@[simp] theorem delFrame_fabric (s : State) (id : Nat) : (s.delFrame id).fabric = s.fabric := rfl
@[simp] theorem delFrame_cellar (s : State) (id : Nat) : (s.delFrame id).cellar = s.cellar := rfl
@[simp] theorem delFrame_skim (s : State) (id : Nat) : (s.delFrame id).skim = s.skim := rfl
@[simp] theorem delFrame_strainer (s : State) (id : Nat) : (s.delFrame id).strainer = s.strainer := rfl
@[simp] theorem delFrame_churn (s : State) (id : Nat) : (s.delFrame id).churn = s.churn := rfl
@[simp] theorem delFrame_time (s : State) (id : Nat) : (s.delFrame id).time = s.time := rfl
@[simp] theorem delFrame_host (s : State) (id : Nat) : (s.delFrame id).host = s.host := rfl
@[simp] theorem delFrame_whey (s : State) (id : Nat) : (s.delFrame id).whey = s.whey := rfl
@[simp] theorem delFrame_telem (s : State) (id : Nat) : (s.delFrame id).telem = s.telem := rfl
@[simp] theorem delFrame_rind (s : State) (id : Nat) : (s.delFrame id).rind = s.rind := rfl
@[simp] theorem delFrame_images (s : State) (id : Nat) : (s.delFrame id).images = s.images := rfl
@[simp] theorem delFrame_setup (s : State) (id : Nat) : (s.delFrame id).setup = s.setup := rfl
@[simp] theorem delFrame_evtLevel (s : State) (id : Nat) : (s.delFrame id).evtLevel = s.evtLevel := rfl

/-! ### setPort -/

@[simp] theorem setPort_pending (s : State) (q : Nat) (p : PortSt) : (s.setPort q p).pending = s.pending := rfl
@[simp] theorem setPort_now (s : State) (q : Nat) (p : PortSt) : (s.setPort q p).now = s.now := rfl
@[simp] theorem setPort_draws (s : State) (q : Nat) (p : PortSt) : (s.setPort q p).draws = s.draws := rfl
@[simp] theorem setPort_reg (s : State) (q : Nat) (p : PortSt) : (s.setPort q p).reg = s.reg := rfl
@[simp] theorem setPort_ctr (s : State) (q : Nat) (p : PortSt) : (s.setPort q p).ctr = s.ctr := rfl
@[simp] theorem setPort_prog (s : State) (q : Nat) (p : PortSt) : (s.setPort q p).prog = s.prog := rfl
@[simp] theorem setPort_out (s : State) (q : Nat) (p : PortSt) : (s.setPort q p).out = s.out := rfl
@[simp] theorem setPort_frames (s : State) (q : Nat) (p : PortSt) : (s.setPort q p).frames = s.frames := rfl
@[simp] theorem setPort_nextFrame (s : State) (q : Nat) (p : PortSt) : (s.setPort q p).nextFrame = s.nextFrame := rfl
@[simp] theorem setPort_nextPlace (s : State) (q : Nat) (p : PortSt) : (s.setPort q p).nextPlace = s.nextPlace := rfl
@[simp] theorem setPort_ports (s : State) (q : Nat) (p : PortSt) : (s.setPort q p).ports = tset {} s.ports (q, 0) p := rfl
@[simp] theorem setPort_staging (s : State) (q : Nat) (p : PortSt) : (s.setPort q p).staging = s.staging := rfl
@[simp] theorem setPort_recirc (s : State) (q : Nat) (p : PortSt) : (s.setPort q p).recirc = s.recirc := rfl
@[simp] theorem setPort_punts (s : State) (q : Nat) (p : PortSt) : (s.setPort q p).punts = s.punts := rfl
@[simp] theorem setPort_puntBuckets (s : State) (q : Nat) (p : PortSt) : (s.setPort q p).puntBuckets = s.puntBuckets := rfl
@[simp] theorem setPort_buffers (s : State) (q : Nat) (p : PortSt) : (s.setPort q p).buffers = s.buffers := rfl
@[simp] theorem setPort_egress (s : State) (q : Nat) (p : PortSt) : (s.setPort q p).egress = s.egress := rfl
@[simp] theorem setPort_fabric (s : State) (q : Nat) (p : PortSt) : (s.setPort q p).fabric = s.fabric := rfl
@[simp] theorem setPort_cellar (s : State) (q : Nat) (p : PortSt) : (s.setPort q p).cellar = s.cellar := rfl
@[simp] theorem setPort_skim (s : State) (q : Nat) (p : PortSt) : (s.setPort q p).skim = s.skim := rfl
@[simp] theorem setPort_strainer (s : State) (q : Nat) (p : PortSt) : (s.setPort q p).strainer = s.strainer := rfl
@[simp] theorem setPort_churn (s : State) (q : Nat) (p : PortSt) : (s.setPort q p).churn = s.churn := rfl
@[simp] theorem setPort_time (s : State) (q : Nat) (p : PortSt) : (s.setPort q p).time = s.time := rfl
@[simp] theorem setPort_host (s : State) (q : Nat) (p : PortSt) : (s.setPort q p).host = s.host := rfl
@[simp] theorem setPort_whey (s : State) (q : Nat) (p : PortSt) : (s.setPort q p).whey = s.whey := rfl
@[simp] theorem setPort_telem (s : State) (q : Nat) (p : PortSt) : (s.setPort q p).telem = s.telem := rfl
@[simp] theorem setPort_rind (s : State) (q : Nat) (p : PortSt) : (s.setPort q p).rind = s.rind := rfl
@[simp] theorem setPort_images (s : State) (q : Nat) (p : PortSt) : (s.setPort q p).images = s.images := rfl
@[simp] theorem setPort_setup (s : State) (q : Nat) (p : PortSt) : (s.setPort q p).setup = s.setup := rfl
@[simp] theorem setPort_evtLevel (s : State) (q : Nat) (p : PortSt) : (s.setPort q p).evtLevel = s.evtLevel := rfl

/-! ### setBuf -/

@[simp] theorem setBuf_pending (s : State) (b : Nat × Nat) (v : Option Buf) : (s.setBuf b v).pending = s.pending := rfl
@[simp] theorem setBuf_now (s : State) (b : Nat × Nat) (v : Option Buf) : (s.setBuf b v).now = s.now := rfl
@[simp] theorem setBuf_draws (s : State) (b : Nat × Nat) (v : Option Buf) : (s.setBuf b v).draws = s.draws := rfl
@[simp] theorem setBuf_reg (s : State) (b : Nat × Nat) (v : Option Buf) : (s.setBuf b v).reg = s.reg := rfl
@[simp] theorem setBuf_ctr (s : State) (b : Nat × Nat) (v : Option Buf) : (s.setBuf b v).ctr = s.ctr := rfl
@[simp] theorem setBuf_prog (s : State) (b : Nat × Nat) (v : Option Buf) : (s.setBuf b v).prog = s.prog := rfl
@[simp] theorem setBuf_out (s : State) (b : Nat × Nat) (v : Option Buf) : (s.setBuf b v).out = s.out := rfl
@[simp] theorem setBuf_frames (s : State) (b : Nat × Nat) (v : Option Buf) : (s.setBuf b v).frames = s.frames := rfl
@[simp] theorem setBuf_nextFrame (s : State) (b : Nat × Nat) (v : Option Buf) : (s.setBuf b v).nextFrame = s.nextFrame := rfl
@[simp] theorem setBuf_nextPlace (s : State) (b : Nat × Nat) (v : Option Buf) : (s.setBuf b v).nextPlace = s.nextPlace := rfl
@[simp] theorem setBuf_ports (s : State) (b : Nat × Nat) (v : Option Buf) : (s.setBuf b v).ports = s.ports := rfl
@[simp] theorem setBuf_staging (s : State) (b : Nat × Nat) (v : Option Buf) : (s.setBuf b v).staging = s.staging := rfl
@[simp] theorem setBuf_recirc (s : State) (b : Nat × Nat) (v : Option Buf) : (s.setBuf b v).recirc = s.recirc := rfl
@[simp] theorem setBuf_punts (s : State) (b : Nat × Nat) (v : Option Buf) : (s.setBuf b v).punts = s.punts := rfl
@[simp] theorem setBuf_puntBuckets (s : State) (b : Nat × Nat) (v : Option Buf) : (s.setBuf b v).puntBuckets = s.puntBuckets := rfl
@[simp] theorem setBuf_buffers (s : State) (b : Nat × Nat) (v : Option Buf) : (s.setBuf b v).buffers = { s.buffers with bufs := tset none s.buffers.bufs b v } := rfl
@[simp] theorem setBuf_egress (s : State) (b : Nat × Nat) (v : Option Buf) : (s.setBuf b v).egress = s.egress := rfl
@[simp] theorem setBuf_fabric (s : State) (b : Nat × Nat) (v : Option Buf) : (s.setBuf b v).fabric = s.fabric := rfl
@[simp] theorem setBuf_cellar (s : State) (b : Nat × Nat) (v : Option Buf) : (s.setBuf b v).cellar = s.cellar := rfl
@[simp] theorem setBuf_skim (s : State) (b : Nat × Nat) (v : Option Buf) : (s.setBuf b v).skim = s.skim := rfl
@[simp] theorem setBuf_strainer (s : State) (b : Nat × Nat) (v : Option Buf) : (s.setBuf b v).strainer = s.strainer := rfl
@[simp] theorem setBuf_churn (s : State) (b : Nat × Nat) (v : Option Buf) : (s.setBuf b v).churn = s.churn := rfl
@[simp] theorem setBuf_time (s : State) (b : Nat × Nat) (v : Option Buf) : (s.setBuf b v).time = s.time := rfl
@[simp] theorem setBuf_host (s : State) (b : Nat × Nat) (v : Option Buf) : (s.setBuf b v).host = s.host := rfl
@[simp] theorem setBuf_whey (s : State) (b : Nat × Nat) (v : Option Buf) : (s.setBuf b v).whey = s.whey := rfl
@[simp] theorem setBuf_telem (s : State) (b : Nat × Nat) (v : Option Buf) : (s.setBuf b v).telem = s.telem := rfl
@[simp] theorem setBuf_rind (s : State) (b : Nat × Nat) (v : Option Buf) : (s.setBuf b v).rind = s.rind := rfl
@[simp] theorem setBuf_images (s : State) (b : Nat × Nat) (v : Option Buf) : (s.setBuf b v).images = s.images := rfl
@[simp] theorem setBuf_setup (s : State) (b : Nat × Nat) (v : Option Buf) : (s.setBuf b v).setup = s.setup := rfl
@[simp] theorem setBuf_evtLevel (s : State) (b : Nat × Nat) (v : Option Buf) : (s.setBuf b v).evtLevel = s.evtLevel := rfl

/-! ### setRing -/

@[simp] theorem setRing_pending (s : State) (n k : Nat) (r : RingSt) : (s.setRing n k r).pending = s.pending := rfl
@[simp] theorem setRing_now (s : State) (n k : Nat) (r : RingSt) : (s.setRing n k r).now = s.now := rfl
@[simp] theorem setRing_draws (s : State) (n k : Nat) (r : RingSt) : (s.setRing n k r).draws = s.draws := rfl
@[simp] theorem setRing_reg (s : State) (n k : Nat) (r : RingSt) : (s.setRing n k r).reg = s.reg := rfl
@[simp] theorem setRing_ctr (s : State) (n k : Nat) (r : RingSt) : (s.setRing n k r).ctr = s.ctr := rfl
@[simp] theorem setRing_prog (s : State) (n k : Nat) (r : RingSt) : (s.setRing n k r).prog = s.prog := rfl
@[simp] theorem setRing_out (s : State) (n k : Nat) (r : RingSt) : (s.setRing n k r).out = s.out := rfl
@[simp] theorem setRing_frames (s : State) (n k : Nat) (r : RingSt) : (s.setRing n k r).frames = s.frames := rfl
@[simp] theorem setRing_nextFrame (s : State) (n k : Nat) (r : RingSt) : (s.setRing n k r).nextFrame = s.nextFrame := rfl
@[simp] theorem setRing_nextPlace (s : State) (n k : Nat) (r : RingSt) : (s.setRing n k r).nextPlace = s.nextPlace := rfl
@[simp] theorem setRing_ports (s : State) (n k : Nat) (r : RingSt) : (s.setRing n k r).ports = s.ports := rfl
@[simp] theorem setRing_staging (s : State) (n k : Nat) (r : RingSt) : (s.setRing n k r).staging = s.staging := rfl
@[simp] theorem setRing_recirc (s : State) (n k : Nat) (r : RingSt) : (s.setRing n k r).recirc = s.recirc := rfl
@[simp] theorem setRing_punts (s : State) (n k : Nat) (r : RingSt) : (s.setRing n k r).punts = s.punts := rfl
@[simp] theorem setRing_puntBuckets (s : State) (n k : Nat) (r : RingSt) : (s.setRing n k r).puntBuckets = s.puntBuckets := rfl
@[simp] theorem setRing_buffers (s : State) (n k : Nat) (r : RingSt) : (s.setRing n k r).buffers = s.buffers := rfl
@[simp] theorem setRing_egress (s : State) (n k : Nat) (r : RingSt) : (s.setRing n k r).egress = s.egress := rfl
@[simp] theorem setRing_fabric (s : State) (n k : Nat) (r : RingSt) : (s.setRing n k r).fabric = s.fabric := rfl
@[simp] theorem setRing_cellar (s : State) (n k : Nat) (r : RingSt) : (s.setRing n k r).cellar = s.cellar := rfl
@[simp] theorem setRing_skim (s : State) (n k : Nat) (r : RingSt) : (s.setRing n k r).skim = s.skim := rfl
@[simp] theorem setRing_strainer (s : State) (n k : Nat) (r : RingSt) : (s.setRing n k r).strainer = s.strainer := rfl
@[simp] theorem setRing_churn (s : State) (n k : Nat) (r : RingSt) : (s.setRing n k r).churn = s.churn := rfl
@[simp] theorem setRing_time (s : State) (n k : Nat) (r : RingSt) : (s.setRing n k r).time = s.time := rfl
@[simp] theorem setRing_host (s : State) (n k : Nat) (r : RingSt) : (s.setRing n k r).host = { s.host with rings := tset {} s.host.rings (n, k) r } := rfl
@[simp] theorem setRing_whey (s : State) (n k : Nat) (r : RingSt) : (s.setRing n k r).whey = s.whey := rfl
@[simp] theorem setRing_telem (s : State) (n k : Nat) (r : RingSt) : (s.setRing n k r).telem = s.telem := rfl
@[simp] theorem setRing_rind (s : State) (n k : Nat) (r : RingSt) : (s.setRing n k r).rind = s.rind := rfl
@[simp] theorem setRing_images (s : State) (n k : Nat) (r : RingSt) : (s.setRing n k r).images = s.images := rfl
@[simp] theorem setRing_setup (s : State) (n k : Nat) (r : RingSt) : (s.setRing n k r).setup = s.setup := rfl
@[simp] theorem setRing_evtLevel (s : State) (n k : Nat) (r : RingSt) : (s.setRing n k r).evtLevel = s.evtLevel := rfl

/-! ### setQueue -/

@[simp] theorem setQueue_pending (s : State) (q c : Nat) (v : Queue) : (s.setQueue q c v).pending = s.pending := rfl
@[simp] theorem setQueue_now (s : State) (q c : Nat) (v : Queue) : (s.setQueue q c v).now = s.now := rfl
@[simp] theorem setQueue_draws (s : State) (q c : Nat) (v : Queue) : (s.setQueue q c v).draws = s.draws := rfl
@[simp] theorem setQueue_reg (s : State) (q c : Nat) (v : Queue) : (s.setQueue q c v).reg = s.reg := rfl
@[simp] theorem setQueue_ctr (s : State) (q c : Nat) (v : Queue) : (s.setQueue q c v).ctr = s.ctr := rfl
@[simp] theorem setQueue_prog (s : State) (q c : Nat) (v : Queue) : (s.setQueue q c v).prog = s.prog := rfl
@[simp] theorem setQueue_out (s : State) (q c : Nat) (v : Queue) : (s.setQueue q c v).out = s.out := rfl
@[simp] theorem setQueue_frames (s : State) (q c : Nat) (v : Queue) : (s.setQueue q c v).frames = s.frames := rfl
@[simp] theorem setQueue_nextFrame (s : State) (q c : Nat) (v : Queue) : (s.setQueue q c v).nextFrame = s.nextFrame := rfl
@[simp] theorem setQueue_nextPlace (s : State) (q c : Nat) (v : Queue) : (s.setQueue q c v).nextPlace = s.nextPlace := rfl
@[simp] theorem setQueue_ports (s : State) (q c : Nat) (v : Queue) : (s.setQueue q c v).ports = s.ports := rfl
@[simp] theorem setQueue_staging (s : State) (q c : Nat) (v : Queue) : (s.setQueue q c v).staging = s.staging := rfl
@[simp] theorem setQueue_recirc (s : State) (q c : Nat) (v : Queue) : (s.setQueue q c v).recirc = s.recirc := rfl
@[simp] theorem setQueue_punts (s : State) (q c : Nat) (v : Queue) : (s.setQueue q c v).punts = s.punts := rfl
@[simp] theorem setQueue_puntBuckets (s : State) (q c : Nat) (v : Queue) : (s.setQueue q c v).puntBuckets = s.puntBuckets := rfl
@[simp] theorem setQueue_buffers (s : State) (q c : Nat) (v : Queue) : (s.setQueue q c v).buffers = s.buffers := rfl
@[simp] theorem setQueue_egress (s : State) (q c : Nat) (v : Queue) : (s.setQueue q c v).egress = { s.egress with queues := tset {} s.egress.queues (q, c) v } := rfl
@[simp] theorem setQueue_fabric (s : State) (q c : Nat) (v : Queue) : (s.setQueue q c v).fabric = s.fabric := rfl
@[simp] theorem setQueue_cellar (s : State) (q c : Nat) (v : Queue) : (s.setQueue q c v).cellar = s.cellar := rfl
@[simp] theorem setQueue_skim (s : State) (q c : Nat) (v : Queue) : (s.setQueue q c v).skim = s.skim := rfl
@[simp] theorem setQueue_strainer (s : State) (q c : Nat) (v : Queue) : (s.setQueue q c v).strainer = s.strainer := rfl
@[simp] theorem setQueue_churn (s : State) (q c : Nat) (v : Queue) : (s.setQueue q c v).churn = s.churn := rfl
@[simp] theorem setQueue_time (s : State) (q c : Nat) (v : Queue) : (s.setQueue q c v).time = s.time := rfl
@[simp] theorem setQueue_host (s : State) (q c : Nat) (v : Queue) : (s.setQueue q c v).host = s.host := rfl
@[simp] theorem setQueue_whey (s : State) (q c : Nat) (v : Queue) : (s.setQueue q c v).whey = s.whey := rfl
@[simp] theorem setQueue_telem (s : State) (q c : Nat) (v : Queue) : (s.setQueue q c v).telem = s.telem := rfl
@[simp] theorem setQueue_rind (s : State) (q c : Nat) (v : Queue) : (s.setQueue q c v).rind = s.rind := rfl
@[simp] theorem setQueue_images (s : State) (q c : Nat) (v : Queue) : (s.setQueue q c v).images = s.images := rfl
@[simp] theorem setQueue_setup (s : State) (q c : Nat) (v : Queue) : (s.setQueue q c v).setup = s.setup := rfl
@[simp] theorem setQueue_evtLevel (s : State) (q c : Nat) (v : Queue) : (s.setQueue q c v).evtLevel = s.evtLevel := rfl

/-! ### setTask -/

@[simp] theorem setTask_pending (s : State) (id : Nat) (t : Option Task) : (s.setTask id t).pending = s.pending := rfl
@[simp] theorem setTask_now (s : State) (id : Nat) (t : Option Task) : (s.setTask id t).now = s.now := rfl
@[simp] theorem setTask_draws (s : State) (id : Nat) (t : Option Task) : (s.setTask id t).draws = s.draws := rfl
@[simp] theorem setTask_reg (s : State) (id : Nat) (t : Option Task) : (s.setTask id t).reg = s.reg := rfl
@[simp] theorem setTask_ctr (s : State) (id : Nat) (t : Option Task) : (s.setTask id t).ctr = s.ctr := rfl
@[simp] theorem setTask_prog (s : State) (id : Nat) (t : Option Task) : (s.setTask id t).prog = s.prog := rfl
@[simp] theorem setTask_out (s : State) (id : Nat) (t : Option Task) : (s.setTask id t).out = s.out := rfl
@[simp] theorem setTask_frames (s : State) (id : Nat) (t : Option Task) : (s.setTask id t).frames = s.frames := rfl
@[simp] theorem setTask_nextFrame (s : State) (id : Nat) (t : Option Task) : (s.setTask id t).nextFrame = s.nextFrame := rfl
@[simp] theorem setTask_nextPlace (s : State) (id : Nat) (t : Option Task) : (s.setTask id t).nextPlace = s.nextPlace := rfl
@[simp] theorem setTask_ports (s : State) (id : Nat) (t : Option Task) : (s.setTask id t).ports = s.ports := rfl
@[simp] theorem setTask_staging (s : State) (id : Nat) (t : Option Task) : (s.setTask id t).staging = s.staging := rfl
@[simp] theorem setTask_recirc (s : State) (id : Nat) (t : Option Task) : (s.setTask id t).recirc = s.recirc := rfl
@[simp] theorem setTask_punts (s : State) (id : Nat) (t : Option Task) : (s.setTask id t).punts = s.punts := rfl
@[simp] theorem setTask_puntBuckets (s : State) (id : Nat) (t : Option Task) : (s.setTask id t).puntBuckets = s.puntBuckets := rfl
@[simp] theorem setTask_buffers (s : State) (id : Nat) (t : Option Task) : (s.setTask id t).buffers = s.buffers := rfl
@[simp] theorem setTask_egress (s : State) (id : Nat) (t : Option Task) : (s.setTask id t).egress = s.egress := rfl
@[simp] theorem setTask_fabric (s : State) (id : Nat) (t : Option Task) : (s.setTask id t).fabric = s.fabric := rfl
@[simp] theorem setTask_cellar (s : State) (id : Nat) (t : Option Task) : (s.setTask id t).cellar = s.cellar := rfl
@[simp] theorem setTask_skim (s : State) (id : Nat) (t : Option Task) : (s.setTask id t).skim = s.skim := rfl
@[simp] theorem setTask_strainer (s : State) (id : Nat) (t : Option Task) : (s.setTask id t).strainer = s.strainer := rfl
@[simp] theorem setTask_churn (s : State) (id : Nat) (t : Option Task) : (s.setTask id t).churn = { s.churn with tasks := tset none s.churn.tasks (id, 0) t } := rfl
@[simp] theorem setTask_time (s : State) (id : Nat) (t : Option Task) : (s.setTask id t).time = s.time := rfl
@[simp] theorem setTask_host (s : State) (id : Nat) (t : Option Task) : (s.setTask id t).host = s.host := rfl
@[simp] theorem setTask_whey (s : State) (id : Nat) (t : Option Task) : (s.setTask id t).whey = s.whey := rfl
@[simp] theorem setTask_telem (s : State) (id : Nat) (t : Option Task) : (s.setTask id t).telem = s.telem := rfl
@[simp] theorem setTask_rind (s : State) (id : Nat) (t : Option Task) : (s.setTask id t).rind = s.rind := rfl
@[simp] theorem setTask_images (s : State) (id : Nat) (t : Option Task) : (s.setTask id t).images = s.images := rfl
@[simp] theorem setTask_setup (s : State) (id : Nat) (t : Option Task) : (s.setTask id t).setup = s.setup := rfl
@[simp] theorem setTask_evtLevel (s : State) (id : Nat) (t : Option Task) : (s.setTask id t).evtLevel = s.evtLevel := rfl

/-! ### setNat -/

@[simp] theorem setNat_pending (s : State) (p : Nat) (v : NatPool) : (setNat s p v).pending = s.pending := rfl
@[simp] theorem setNat_now (s : State) (p : Nat) (v : NatPool) : (setNat s p v).now = s.now := rfl
@[simp] theorem setNat_draws (s : State) (p : Nat) (v : NatPool) : (setNat s p v).draws = s.draws := rfl
@[simp] theorem setNat_reg (s : State) (p : Nat) (v : NatPool) : (setNat s p v).reg = s.reg := rfl
@[simp] theorem setNat_ctr (s : State) (p : Nat) (v : NatPool) : (setNat s p v).ctr = s.ctr := rfl
@[simp] theorem setNat_prog (s : State) (p : Nat) (v : NatPool) : (setNat s p v).prog = s.prog := rfl
@[simp] theorem setNat_out (s : State) (p : Nat) (v : NatPool) : (setNat s p v).out = s.out := rfl
@[simp] theorem setNat_frames (s : State) (p : Nat) (v : NatPool) : (setNat s p v).frames = s.frames := rfl
@[simp] theorem setNat_nextFrame (s : State) (p : Nat) (v : NatPool) : (setNat s p v).nextFrame = s.nextFrame := rfl
@[simp] theorem setNat_nextPlace (s : State) (p : Nat) (v : NatPool) : (setNat s p v).nextPlace = s.nextPlace := rfl
@[simp] theorem setNat_ports (s : State) (p : Nat) (v : NatPool) : (setNat s p v).ports = s.ports := rfl
@[simp] theorem setNat_staging (s : State) (p : Nat) (v : NatPool) : (setNat s p v).staging = s.staging := rfl
@[simp] theorem setNat_recirc (s : State) (p : Nat) (v : NatPool) : (setNat s p v).recirc = s.recirc := rfl
@[simp] theorem setNat_punts (s : State) (p : Nat) (v : NatPool) : (setNat s p v).punts = s.punts := rfl
@[simp] theorem setNat_puntBuckets (s : State) (p : Nat) (v : NatPool) : (setNat s p v).puntBuckets = s.puntBuckets := rfl
@[simp] theorem setNat_buffers (s : State) (p : Nat) (v : NatPool) : (setNat s p v).buffers = s.buffers := rfl
@[simp] theorem setNat_egress (s : State) (p : Nat) (v : NatPool) : (setNat s p v).egress = s.egress := rfl
@[simp] theorem setNat_fabric (s : State) (p : Nat) (v : NatPool) : (setNat s p v).fabric = s.fabric := rfl
@[simp] theorem setNat_cellar (s : State) (p : Nat) (v : NatPool) : (setNat s p v).cellar = s.cellar := rfl
@[simp] theorem setNat_skim (s : State) (p : Nat) (v : NatPool) : (setNat s p v).skim = s.skim := rfl
@[simp] theorem setNat_strainer (s : State) (p : Nat) (v : NatPool) : (setNat s p v).strainer = s.strainer := rfl
@[simp] theorem setNat_churn (s : State) (p : Nat) (v : NatPool) : (setNat s p v).churn = { s.churn with nat := tset {} s.churn.nat (p, 0) v } := rfl
@[simp] theorem setNat_time (s : State) (p : Nat) (v : NatPool) : (setNat s p v).time = s.time := rfl
@[simp] theorem setNat_host (s : State) (p : Nat) (v : NatPool) : (setNat s p v).host = s.host := rfl
@[simp] theorem setNat_whey (s : State) (p : Nat) (v : NatPool) : (setNat s p v).whey = s.whey := rfl
@[simp] theorem setNat_telem (s : State) (p : Nat) (v : NatPool) : (setNat s p v).telem = s.telem := rfl
@[simp] theorem setNat_rind (s : State) (p : Nat) (v : NatPool) : (setNat s p v).rind = s.rind := rfl
@[simp] theorem setNat_images (s : State) (p : Nat) (v : NatPool) : (setNat s p v).images = s.images := rfl
@[simp] theorem setNat_setup (s : State) (p : Nat) (v : NatPool) : (setNat s p v).setup = s.setup := rfl
@[simp] theorem setNat_evtLevel (s : State) (p : Nat) (v : NatPool) : (setNat s p v).evtLevel = s.evtLevel := rfl

/-! ### setRecord -/

@[simp] theorem setRecord_pending (s : State) (n : Nat) (r : Option Rec) : (s.setRecord n r).pending = s.pending := rfl
@[simp] theorem setRecord_now (s : State) (n : Nat) (r : Option Rec) : (s.setRecord n r).now = s.now := rfl
@[simp] theorem setRecord_draws (s : State) (n : Nat) (r : Option Rec) : (s.setRecord n r).draws = s.draws := rfl
@[simp] theorem setRecord_reg (s : State) (n : Nat) (r : Option Rec) : (s.setRecord n r).reg = s.reg := rfl
@[simp] theorem setRecord_ctr (s : State) (n : Nat) (r : Option Rec) : (s.setRecord n r).ctr = s.ctr := rfl
@[simp] theorem setRecord_prog (s : State) (n : Nat) (r : Option Rec) : (s.setRecord n r).prog = s.prog := rfl
@[simp] theorem setRecord_out (s : State) (n : Nat) (r : Option Rec) : (s.setRecord n r).out = s.out := rfl
@[simp] theorem setRecord_frames (s : State) (n : Nat) (r : Option Rec) : (s.setRecord n r).frames = s.frames := rfl
@[simp] theorem setRecord_nextFrame (s : State) (n : Nat) (r : Option Rec) : (s.setRecord n r).nextFrame = s.nextFrame := rfl
@[simp] theorem setRecord_nextPlace (s : State) (n : Nat) (r : Option Rec) : (s.setRecord n r).nextPlace = s.nextPlace := rfl
@[simp] theorem setRecord_ports (s : State) (n : Nat) (r : Option Rec) : (s.setRecord n r).ports = s.ports := rfl
@[simp] theorem setRecord_staging (s : State) (n : Nat) (r : Option Rec) : (s.setRecord n r).staging = s.staging := rfl
@[simp] theorem setRecord_recirc (s : State) (n : Nat) (r : Option Rec) : (s.setRecord n r).recirc = s.recirc := rfl
@[simp] theorem setRecord_punts (s : State) (n : Nat) (r : Option Rec) : (s.setRecord n r).punts = s.punts := rfl
@[simp] theorem setRecord_puntBuckets (s : State) (n : Nat) (r : Option Rec) : (s.setRecord n r).puntBuckets = s.puntBuckets := rfl
@[simp] theorem setRecord_buffers (s : State) (n : Nat) (r : Option Rec) : (s.setRecord n r).buffers = s.buffers := rfl
@[simp] theorem setRecord_egress (s : State) (n : Nat) (r : Option Rec) : (s.setRecord n r).egress = s.egress := rfl
@[simp] theorem setRecord_fabric (s : State) (n : Nat) (r : Option Rec) : (s.setRecord n r).fabric = s.fabric := rfl
@[simp] theorem setRecord_cellar (s : State) (n : Nat) (r : Option Rec) : (s.setRecord n r).cellar = { s.cellar with recs := tset none s.cellar.recs (n, 0) r } := rfl
@[simp] theorem setRecord_skim (s : State) (n : Nat) (r : Option Rec) : (s.setRecord n r).skim = s.skim := rfl
@[simp] theorem setRecord_strainer (s : State) (n : Nat) (r : Option Rec) : (s.setRecord n r).strainer = s.strainer := rfl
@[simp] theorem setRecord_churn (s : State) (n : Nat) (r : Option Rec) : (s.setRecord n r).churn = s.churn := rfl
@[simp] theorem setRecord_time (s : State) (n : Nat) (r : Option Rec) : (s.setRecord n r).time = s.time := rfl
@[simp] theorem setRecord_host (s : State) (n : Nat) (r : Option Rec) : (s.setRecord n r).host = s.host := rfl
@[simp] theorem setRecord_whey (s : State) (n : Nat) (r : Option Rec) : (s.setRecord n r).whey = s.whey := rfl
@[simp] theorem setRecord_telem (s : State) (n : Nat) (r : Option Rec) : (s.setRecord n r).telem = s.telem := rfl
@[simp] theorem setRecord_rind (s : State) (n : Nat) (r : Option Rec) : (s.setRecord n r).rind = s.rind := rfl
@[simp] theorem setRecord_images (s : State) (n : Nat) (r : Option Rec) : (s.setRecord n r).images = s.images := rfl
@[simp] theorem setRecord_setup (s : State) (n : Nat) (r : Option Rec) : (s.setRecord n r).setup = s.setup := rfl
@[simp] theorem setRecord_evtLevel (s : State) (n : Nat) (r : Option Rec) : (s.setRecord n r).evtLevel = s.evtLevel := rfl

/-! ### setSlot -/

@[simp] theorem setSlot_pending (s : State) (b i w : Nat) : (setSlot s b i w).pending = s.pending := rfl
@[simp] theorem setSlot_now (s : State) (b i w : Nat) : (setSlot s b i w).now = s.now := rfl
@[simp] theorem setSlot_draws (s : State) (b i w : Nat) : (setSlot s b i w).draws = s.draws := rfl
@[simp] theorem setSlot_reg (s : State) (b i w : Nat) : (setSlot s b i w).reg = s.reg := rfl
@[simp] theorem setSlot_ctr (s : State) (b i w : Nat) : (setSlot s b i w).ctr = s.ctr := rfl
@[simp] theorem setSlot_prog (s : State) (b i w : Nat) : (setSlot s b i w).prog = s.prog := rfl
@[simp] theorem setSlot_out (s : State) (b i w : Nat) : (setSlot s b i w).out = s.out := rfl
@[simp] theorem setSlot_frames (s : State) (b i w : Nat) : (setSlot s b i w).frames = s.frames := rfl
@[simp] theorem setSlot_nextFrame (s : State) (b i w : Nat) : (setSlot s b i w).nextFrame = s.nextFrame := rfl
@[simp] theorem setSlot_nextPlace (s : State) (b i w : Nat) : (setSlot s b i w).nextPlace = s.nextPlace := rfl
@[simp] theorem setSlot_ports (s : State) (b i w : Nat) : (setSlot s b i w).ports = s.ports := rfl
@[simp] theorem setSlot_staging (s : State) (b i w : Nat) : (setSlot s b i w).staging = s.staging := rfl
@[simp] theorem setSlot_recirc (s : State) (b i w : Nat) : (setSlot s b i w).recirc = s.recirc := rfl
@[simp] theorem setSlot_punts (s : State) (b i w : Nat) : (setSlot s b i w).punts = s.punts := rfl
@[simp] theorem setSlot_puntBuckets (s : State) (b i w : Nat) : (setSlot s b i w).puntBuckets = s.puntBuckets := rfl
@[simp] theorem setSlot_buffers (s : State) (b i w : Nat) : (setSlot s b i w).buffers = s.buffers := rfl
@[simp] theorem setSlot_egress (s : State) (b i w : Nat) : (setSlot s b i w).egress = s.egress := rfl
@[simp] theorem setSlot_fabric (s : State) (b i w : Nat) : (setSlot s b i w).fabric = s.fabric := rfl
@[simp] theorem setSlot_cellar (s : State) (b i w : Nat) : (setSlot s b i w).cellar = { s.cellar with slots := tset 0 s.cellar.slots (b, i) w } := rfl
@[simp] theorem setSlot_skim (s : State) (b i w : Nat) : (setSlot s b i w).skim = s.skim := rfl
@[simp] theorem setSlot_strainer (s : State) (b i w : Nat) : (setSlot s b i w).strainer = s.strainer := rfl
@[simp] theorem setSlot_churn (s : State) (b i w : Nat) : (setSlot s b i w).churn = s.churn := rfl
@[simp] theorem setSlot_time (s : State) (b i w : Nat) : (setSlot s b i w).time = s.time := rfl
@[simp] theorem setSlot_host (s : State) (b i w : Nat) : (setSlot s b i w).host = s.host := rfl
@[simp] theorem setSlot_whey (s : State) (b i w : Nat) : (setSlot s b i w).whey = s.whey := rfl
@[simp] theorem setSlot_telem (s : State) (b i w : Nat) : (setSlot s b i w).telem = s.telem := rfl
@[simp] theorem setSlot_rind (s : State) (b i w : Nat) : (setSlot s b i w).rind = s.rind := rfl
@[simp] theorem setSlot_images (s : State) (b i w : Nat) : (setSlot s b i w).images = s.images := rfl
@[simp] theorem setSlot_setup (s : State) (b i w : Nat) : (setSlot s b i w).setup = s.setup := rfl
@[simp] theorem setSlot_evtLevel (s : State) (b i w : Nat) : (setSlot s b i w).evtLevel = s.evtLevel := rfl

/-! ### setWay -/

@[simp] theorem setWay_pending (s : State) (k : Key) (w : Option Way) : (setWay s k w).pending = s.pending := rfl
@[simp] theorem setWay_now (s : State) (k : Key) (w : Option Way) : (setWay s k w).now = s.now := rfl
@[simp] theorem setWay_draws (s : State) (k : Key) (w : Option Way) : (setWay s k w).draws = s.draws := rfl
@[simp] theorem setWay_reg (s : State) (k : Key) (w : Option Way) : (setWay s k w).reg = s.reg := rfl
@[simp] theorem setWay_ctr (s : State) (k : Key) (w : Option Way) : (setWay s k w).ctr = s.ctr := rfl
@[simp] theorem setWay_prog (s : State) (k : Key) (w : Option Way) : (setWay s k w).prog = s.prog := rfl
@[simp] theorem setWay_out (s : State) (k : Key) (w : Option Way) : (setWay s k w).out = s.out := rfl
@[simp] theorem setWay_frames (s : State) (k : Key) (w : Option Way) : (setWay s k w).frames = s.frames := rfl
@[simp] theorem setWay_nextFrame (s : State) (k : Key) (w : Option Way) : (setWay s k w).nextFrame = s.nextFrame := rfl
@[simp] theorem setWay_nextPlace (s : State) (k : Key) (w : Option Way) : (setWay s k w).nextPlace = s.nextPlace := rfl
@[simp] theorem setWay_ports (s : State) (k : Key) (w : Option Way) : (setWay s k w).ports = s.ports := rfl
@[simp] theorem setWay_staging (s : State) (k : Key) (w : Option Way) : (setWay s k w).staging = s.staging := rfl
@[simp] theorem setWay_recirc (s : State) (k : Key) (w : Option Way) : (setWay s k w).recirc = s.recirc := rfl
@[simp] theorem setWay_punts (s : State) (k : Key) (w : Option Way) : (setWay s k w).punts = s.punts := rfl
@[simp] theorem setWay_puntBuckets (s : State) (k : Key) (w : Option Way) : (setWay s k w).puntBuckets = s.puntBuckets := rfl
@[simp] theorem setWay_buffers (s : State) (k : Key) (w : Option Way) : (setWay s k w).buffers = s.buffers := rfl
@[simp] theorem setWay_egress (s : State) (k : Key) (w : Option Way) : (setWay s k w).egress = s.egress := rfl
@[simp] theorem setWay_fabric (s : State) (k : Key) (w : Option Way) : (setWay s k w).fabric = s.fabric := rfl
@[simp] theorem setWay_cellar (s : State) (k : Key) (w : Option Way) : (setWay s k w).cellar = s.cellar := rfl
@[simp] theorem setWay_skim (s : State) (k : Key) (w : Option Way) : (setWay s k w).skim = { s.skim with ways := tset none s.skim.ways k w } := rfl
@[simp] theorem setWay_strainer (s : State) (k : Key) (w : Option Way) : (setWay s k w).strainer = s.strainer := rfl
@[simp] theorem setWay_churn (s : State) (k : Key) (w : Option Way) : (setWay s k w).churn = s.churn := rfl
@[simp] theorem setWay_time (s : State) (k : Key) (w : Option Way) : (setWay s k w).time = s.time := rfl
@[simp] theorem setWay_host (s : State) (k : Key) (w : Option Way) : (setWay s k w).host = s.host := rfl
@[simp] theorem setWay_whey (s : State) (k : Key) (w : Option Way) : (setWay s k w).whey = s.whey := rfl
@[simp] theorem setWay_telem (s : State) (k : Key) (w : Option Way) : (setWay s k w).telem = s.telem := rfl
@[simp] theorem setWay_rind (s : State) (k : Key) (w : Option Way) : (setWay s k w).rind = s.rind := rfl
@[simp] theorem setWay_images (s : State) (k : Key) (w : Option Way) : (setWay s k w).images = s.images := rfl
@[simp] theorem setWay_setup (s : State) (k : Key) (w : Option Way) : (setWay s k w).setup = s.setup := rfl
@[simp] theorem setWay_evtLevel (s : State) (k : Key) (w : Option Way) : (setWay s k w).evtLevel = s.evtLevel := rfl

/-! ### setMiss -/

@[simp] theorem setMiss_pending (s : State) (k : Key) (m : Option Miss) : (setMiss s k m).pending = s.pending := rfl
@[simp] theorem setMiss_now (s : State) (k : Key) (m : Option Miss) : (setMiss s k m).now = s.now := rfl
@[simp] theorem setMiss_draws (s : State) (k : Key) (m : Option Miss) : (setMiss s k m).draws = s.draws := rfl
@[simp] theorem setMiss_reg (s : State) (k : Key) (m : Option Miss) : (setMiss s k m).reg = s.reg := rfl
@[simp] theorem setMiss_ctr (s : State) (k : Key) (m : Option Miss) : (setMiss s k m).ctr = s.ctr := rfl
@[simp] theorem setMiss_prog (s : State) (k : Key) (m : Option Miss) : (setMiss s k m).prog = s.prog := rfl
@[simp] theorem setMiss_out (s : State) (k : Key) (m : Option Miss) : (setMiss s k m).out = s.out := rfl
@[simp] theorem setMiss_frames (s : State) (k : Key) (m : Option Miss) : (setMiss s k m).frames = s.frames := rfl
@[simp] theorem setMiss_nextFrame (s : State) (k : Key) (m : Option Miss) : (setMiss s k m).nextFrame = s.nextFrame := rfl
@[simp] theorem setMiss_nextPlace (s : State) (k : Key) (m : Option Miss) : (setMiss s k m).nextPlace = s.nextPlace := rfl
@[simp] theorem setMiss_ports (s : State) (k : Key) (m : Option Miss) : (setMiss s k m).ports = s.ports := rfl
@[simp] theorem setMiss_staging (s : State) (k : Key) (m : Option Miss) : (setMiss s k m).staging = s.staging := rfl
@[simp] theorem setMiss_recirc (s : State) (k : Key) (m : Option Miss) : (setMiss s k m).recirc = s.recirc := rfl
@[simp] theorem setMiss_punts (s : State) (k : Key) (m : Option Miss) : (setMiss s k m).punts = s.punts := rfl
@[simp] theorem setMiss_puntBuckets (s : State) (k : Key) (m : Option Miss) : (setMiss s k m).puntBuckets = s.puntBuckets := rfl
@[simp] theorem setMiss_buffers (s : State) (k : Key) (m : Option Miss) : (setMiss s k m).buffers = s.buffers := rfl
@[simp] theorem setMiss_egress (s : State) (k : Key) (m : Option Miss) : (setMiss s k m).egress = s.egress := rfl
@[simp] theorem setMiss_fabric (s : State) (k : Key) (m : Option Miss) : (setMiss s k m).fabric = s.fabric := rfl
@[simp] theorem setMiss_cellar (s : State) (k : Key) (m : Option Miss) : (setMiss s k m).cellar = s.cellar := rfl
@[simp] theorem setMiss_skim (s : State) (k : Key) (m : Option Miss) : (setMiss s k m).skim = { s.skim with misses := tset none s.skim.misses k m } := rfl
@[simp] theorem setMiss_strainer (s : State) (k : Key) (m : Option Miss) : (setMiss s k m).strainer = s.strainer := rfl
@[simp] theorem setMiss_churn (s : State) (k : Key) (m : Option Miss) : (setMiss s k m).churn = s.churn := rfl
@[simp] theorem setMiss_time (s : State) (k : Key) (m : Option Miss) : (setMiss s k m).time = s.time := rfl
@[simp] theorem setMiss_host (s : State) (k : Key) (m : Option Miss) : (setMiss s k m).host = s.host := rfl
@[simp] theorem setMiss_whey (s : State) (k : Key) (m : Option Miss) : (setMiss s k m).whey = s.whey := rfl
@[simp] theorem setMiss_telem (s : State) (k : Key) (m : Option Miss) : (setMiss s k m).telem = s.telem := rfl
@[simp] theorem setMiss_rind (s : State) (k : Key) (m : Option Miss) : (setMiss s k m).rind = s.rind := rfl
@[simp] theorem setMiss_images (s : State) (k : Key) (m : Option Miss) : (setMiss s k m).images = s.images := rfl
@[simp] theorem setMiss_setup (s : State) (k : Key) (m : Option Miss) : (setMiss s k m).setup = s.setup := rfl
@[simp] theorem setMiss_evtLevel (s : State) (k : Key) (m : Option Miss) : (setMiss s k m).evtLevel = s.evtLevel := rfl

/-! ### setWb -/

@[simp] theorem setWb_pending (s : State) (b : Nat) (l : List WbEntry) : (setWb s b l).pending = s.pending := rfl
@[simp] theorem setWb_now (s : State) (b : Nat) (l : List WbEntry) : (setWb s b l).now = s.now := rfl
@[simp] theorem setWb_draws (s : State) (b : Nat) (l : List WbEntry) : (setWb s b l).draws = s.draws := rfl
@[simp] theorem setWb_reg (s : State) (b : Nat) (l : List WbEntry) : (setWb s b l).reg = s.reg := rfl
@[simp] theorem setWb_ctr (s : State) (b : Nat) (l : List WbEntry) : (setWb s b l).ctr = s.ctr := rfl
@[simp] theorem setWb_prog (s : State) (b : Nat) (l : List WbEntry) : (setWb s b l).prog = s.prog := rfl
@[simp] theorem setWb_out (s : State) (b : Nat) (l : List WbEntry) : (setWb s b l).out = s.out := rfl
@[simp] theorem setWb_frames (s : State) (b : Nat) (l : List WbEntry) : (setWb s b l).frames = s.frames := rfl
@[simp] theorem setWb_nextFrame (s : State) (b : Nat) (l : List WbEntry) : (setWb s b l).nextFrame = s.nextFrame := rfl
@[simp] theorem setWb_nextPlace (s : State) (b : Nat) (l : List WbEntry) : (setWb s b l).nextPlace = s.nextPlace := rfl
@[simp] theorem setWb_ports (s : State) (b : Nat) (l : List WbEntry) : (setWb s b l).ports = s.ports := rfl
@[simp] theorem setWb_staging (s : State) (b : Nat) (l : List WbEntry) : (setWb s b l).staging = s.staging := rfl
@[simp] theorem setWb_recirc (s : State) (b : Nat) (l : List WbEntry) : (setWb s b l).recirc = s.recirc := rfl
@[simp] theorem setWb_punts (s : State) (b : Nat) (l : List WbEntry) : (setWb s b l).punts = s.punts := rfl
@[simp] theorem setWb_puntBuckets (s : State) (b : Nat) (l : List WbEntry) : (setWb s b l).puntBuckets = s.puntBuckets := rfl
@[simp] theorem setWb_buffers (s : State) (b : Nat) (l : List WbEntry) : (setWb s b l).buffers = s.buffers := rfl
@[simp] theorem setWb_egress (s : State) (b : Nat) (l : List WbEntry) : (setWb s b l).egress = s.egress := rfl
@[simp] theorem setWb_fabric (s : State) (b : Nat) (l : List WbEntry) : (setWb s b l).fabric = s.fabric := rfl
@[simp] theorem setWb_cellar (s : State) (b : Nat) (l : List WbEntry) : (setWb s b l).cellar = s.cellar := rfl
@[simp] theorem setWb_skim (s : State) (b : Nat) (l : List WbEntry) : (setWb s b l).skim = { s.skim with wb := tset [] s.skim.wb (b, 0) l } := rfl
@[simp] theorem setWb_strainer (s : State) (b : Nat) (l : List WbEntry) : (setWb s b l).strainer = s.strainer := rfl
@[simp] theorem setWb_churn (s : State) (b : Nat) (l : List WbEntry) : (setWb s b l).churn = s.churn := rfl
@[simp] theorem setWb_time (s : State) (b : Nat) (l : List WbEntry) : (setWb s b l).time = s.time := rfl
@[simp] theorem setWb_host (s : State) (b : Nat) (l : List WbEntry) : (setWb s b l).host = s.host := rfl
@[simp] theorem setWb_whey (s : State) (b : Nat) (l : List WbEntry) : (setWb s b l).whey = s.whey := rfl
@[simp] theorem setWb_telem (s : State) (b : Nat) (l : List WbEntry) : (setWb s b l).telem = s.telem := rfl
@[simp] theorem setWb_rind (s : State) (b : Nat) (l : List WbEntry) : (setWb s b l).rind = s.rind := rfl
@[simp] theorem setWb_images (s : State) (b : Nat) (l : List WbEntry) : (setWb s b l).images = s.images := rfl
@[simp] theorem setWb_setup (s : State) (b : Nat) (l : List WbEntry) : (setWb s b l).setup = s.setup := rfl
@[simp] theorem setWb_evtLevel (s : State) (b : Nat) (l : List WbEntry) : (setWb s b l).evtLevel = s.evtLevel := rfl

/-! ### setRow -/

@[simp] theorem setRow_pending (s : State) (a : Nat) (e : Option StrEntry) : (setRow s a e).pending = s.pending := rfl
@[simp] theorem setRow_now (s : State) (a : Nat) (e : Option StrEntry) : (setRow s a e).now = s.now := rfl
@[simp] theorem setRow_draws (s : State) (a : Nat) (e : Option StrEntry) : (setRow s a e).draws = s.draws := rfl
@[simp] theorem setRow_reg (s : State) (a : Nat) (e : Option StrEntry) : (setRow s a e).reg = s.reg := rfl
@[simp] theorem setRow_ctr (s : State) (a : Nat) (e : Option StrEntry) : (setRow s a e).ctr = s.ctr := rfl
@[simp] theorem setRow_prog (s : State) (a : Nat) (e : Option StrEntry) : (setRow s a e).prog = s.prog := rfl
@[simp] theorem setRow_out (s : State) (a : Nat) (e : Option StrEntry) : (setRow s a e).out = s.out := rfl
@[simp] theorem setRow_frames (s : State) (a : Nat) (e : Option StrEntry) : (setRow s a e).frames = s.frames := rfl
@[simp] theorem setRow_nextFrame (s : State) (a : Nat) (e : Option StrEntry) : (setRow s a e).nextFrame = s.nextFrame := rfl
@[simp] theorem setRow_nextPlace (s : State) (a : Nat) (e : Option StrEntry) : (setRow s a e).nextPlace = s.nextPlace := rfl
@[simp] theorem setRow_ports (s : State) (a : Nat) (e : Option StrEntry) : (setRow s a e).ports = s.ports := rfl
@[simp] theorem setRow_staging (s : State) (a : Nat) (e : Option StrEntry) : (setRow s a e).staging = s.staging := rfl
@[simp] theorem setRow_recirc (s : State) (a : Nat) (e : Option StrEntry) : (setRow s a e).recirc = s.recirc := rfl
@[simp] theorem setRow_punts (s : State) (a : Nat) (e : Option StrEntry) : (setRow s a e).punts = s.punts := rfl
@[simp] theorem setRow_puntBuckets (s : State) (a : Nat) (e : Option StrEntry) : (setRow s a e).puntBuckets = s.puntBuckets := rfl
@[simp] theorem setRow_buffers (s : State) (a : Nat) (e : Option StrEntry) : (setRow s a e).buffers = s.buffers := rfl
@[simp] theorem setRow_egress (s : State) (a : Nat) (e : Option StrEntry) : (setRow s a e).egress = s.egress := rfl
@[simp] theorem setRow_fabric (s : State) (a : Nat) (e : Option StrEntry) : (setRow s a e).fabric = s.fabric := rfl
@[simp] theorem setRow_cellar (s : State) (a : Nat) (e : Option StrEntry) : (setRow s a e).cellar = s.cellar := rfl
@[simp] theorem setRow_skim (s : State) (a : Nat) (e : Option StrEntry) : (setRow s a e).skim = s.skim := rfl
@[simp] theorem setRow_strainer (s : State) (a : Nat) (e : Option StrEntry) : (setRow s a e).strainer = tset none s.strainer (a, 0) e := rfl
@[simp] theorem setRow_churn (s : State) (a : Nat) (e : Option StrEntry) : (setRow s a e).churn = s.churn := rfl
@[simp] theorem setRow_time (s : State) (a : Nat) (e : Option StrEntry) : (setRow s a e).time = s.time := rfl
@[simp] theorem setRow_host (s : State) (a : Nat) (e : Option StrEntry) : (setRow s a e).host = s.host := rfl
@[simp] theorem setRow_whey (s : State) (a : Nat) (e : Option StrEntry) : (setRow s a e).whey = s.whey := rfl
@[simp] theorem setRow_telem (s : State) (a : Nat) (e : Option StrEntry) : (setRow s a e).telem = s.telem := rfl
@[simp] theorem setRow_rind (s : State) (a : Nat) (e : Option StrEntry) : (setRow s a e).rind = s.rind := rfl
@[simp] theorem setRow_images (s : State) (a : Nat) (e : Option StrEntry) : (setRow s a e).images = s.images := rfl
@[simp] theorem setRow_setup (s : State) (a : Nat) (e : Option StrEntry) : (setRow s a e).setup = s.setup := rfl
@[simp] theorem setRow_evtLevel (s : State) (a : Nat) (e : Option StrEntry) : (setRow s a e).evtLevel = s.evtLevel := rfl

/-! ### setStream -/

@[simp] theorem setStream_pending (s : State) (a c : Nat) (v : Stream) : (s.setStream a c v).pending = s.pending := rfl
@[simp] theorem setStream_now (s : State) (a c : Nat) (v : Stream) : (s.setStream a c v).now = s.now := rfl
@[simp] theorem setStream_draws (s : State) (a c : Nat) (v : Stream) : (s.setStream a c v).draws = s.draws := rfl
@[simp] theorem setStream_reg (s : State) (a c : Nat) (v : Stream) : (s.setStream a c v).reg = s.reg := rfl
@[simp] theorem setStream_ctr (s : State) (a c : Nat) (v : Stream) : (s.setStream a c v).ctr = s.ctr := rfl
@[simp] theorem setStream_prog (s : State) (a c : Nat) (v : Stream) : (s.setStream a c v).prog = s.prog := rfl
@[simp] theorem setStream_out (s : State) (a c : Nat) (v : Stream) : (s.setStream a c v).out = s.out := rfl
@[simp] theorem setStream_frames (s : State) (a c : Nat) (v : Stream) : (s.setStream a c v).frames = s.frames := rfl
@[simp] theorem setStream_nextFrame (s : State) (a c : Nat) (v : Stream) : (s.setStream a c v).nextFrame = s.nextFrame := rfl
@[simp] theorem setStream_nextPlace (s : State) (a c : Nat) (v : Stream) : (s.setStream a c v).nextPlace = s.nextPlace := rfl
@[simp] theorem setStream_ports (s : State) (a c : Nat) (v : Stream) : (s.setStream a c v).ports = s.ports := rfl
@[simp] theorem setStream_staging (s : State) (a c : Nat) (v : Stream) : (s.setStream a c v).staging = s.staging := rfl
@[simp] theorem setStream_recirc (s : State) (a c : Nat) (v : Stream) : (s.setStream a c v).recirc = s.recirc := rfl
@[simp] theorem setStream_punts (s : State) (a c : Nat) (v : Stream) : (s.setStream a c v).punts = s.punts := rfl
@[simp] theorem setStream_puntBuckets (s : State) (a c : Nat) (v : Stream) : (s.setStream a c v).puntBuckets = s.puntBuckets := rfl
@[simp] theorem setStream_buffers (s : State) (a c : Nat) (v : Stream) : (s.setStream a c v).buffers = s.buffers := rfl
@[simp] theorem setStream_egress (s : State) (a c : Nat) (v : Stream) : (s.setStream a c v).egress = s.egress := rfl
@[simp] theorem setStream_fabric (s : State) (a c : Nat) (v : Stream) : (s.setStream a c v).fabric = { s.fabric with streams := tset {} s.fabric.streams (a, c) v } := rfl
@[simp] theorem setStream_cellar (s : State) (a c : Nat) (v : Stream) : (s.setStream a c v).cellar = s.cellar := rfl
@[simp] theorem setStream_skim (s : State) (a c : Nat) (v : Stream) : (s.setStream a c v).skim = s.skim := rfl
@[simp] theorem setStream_strainer (s : State) (a c : Nat) (v : Stream) : (s.setStream a c v).strainer = s.strainer := rfl
@[simp] theorem setStream_churn (s : State) (a c : Nat) (v : Stream) : (s.setStream a c v).churn = s.churn := rfl
@[simp] theorem setStream_time (s : State) (a c : Nat) (v : Stream) : (s.setStream a c v).time = s.time := rfl
@[simp] theorem setStream_host (s : State) (a c : Nat) (v : Stream) : (s.setStream a c v).host = s.host := rfl
@[simp] theorem setStream_whey (s : State) (a c : Nat) (v : Stream) : (s.setStream a c v).whey = s.whey := rfl
@[simp] theorem setStream_telem (s : State) (a c : Nat) (v : Stream) : (s.setStream a c v).telem = s.telem := rfl
@[simp] theorem setStream_rind (s : State) (a c : Nat) (v : Stream) : (s.setStream a c v).rind = s.rind := rfl
@[simp] theorem setStream_images (s : State) (a c : Nat) (v : Stream) : (s.setStream a c v).images = s.images := rfl
@[simp] theorem setStream_setup (s : State) (a c : Nat) (v : Stream) : (s.setStream a c v).setup = s.setup := rfl
@[simp] theorem setStream_evtLevel (s : State) (a c : Nat) (v : Stream) : (s.setStream a c v).evtLevel = s.evtLevel := rfl

/-! ### setExporter -/

@[simp] theorem setExporter_pending (s : State) (x : Nat) (e : Exporter) : (s.setExporter x e).pending = s.pending := rfl
@[simp] theorem setExporter_now (s : State) (x : Nat) (e : Exporter) : (s.setExporter x e).now = s.now := rfl
@[simp] theorem setExporter_draws (s : State) (x : Nat) (e : Exporter) : (s.setExporter x e).draws = s.draws := rfl
@[simp] theorem setExporter_reg (s : State) (x : Nat) (e : Exporter) : (s.setExporter x e).reg = s.reg := rfl
@[simp] theorem setExporter_ctr (s : State) (x : Nat) (e : Exporter) : (s.setExporter x e).ctr = s.ctr := rfl
@[simp] theorem setExporter_prog (s : State) (x : Nat) (e : Exporter) : (s.setExporter x e).prog = s.prog := rfl
@[simp] theorem setExporter_out (s : State) (x : Nat) (e : Exporter) : (s.setExporter x e).out = s.out := rfl
@[simp] theorem setExporter_frames (s : State) (x : Nat) (e : Exporter) : (s.setExporter x e).frames = s.frames := rfl
@[simp] theorem setExporter_nextFrame (s : State) (x : Nat) (e : Exporter) : (s.setExporter x e).nextFrame = s.nextFrame := rfl
@[simp] theorem setExporter_nextPlace (s : State) (x : Nat) (e : Exporter) : (s.setExporter x e).nextPlace = s.nextPlace := rfl
@[simp] theorem setExporter_ports (s : State) (x : Nat) (e : Exporter) : (s.setExporter x e).ports = s.ports := rfl
@[simp] theorem setExporter_staging (s : State) (x : Nat) (e : Exporter) : (s.setExporter x e).staging = s.staging := rfl
@[simp] theorem setExporter_recirc (s : State) (x : Nat) (e : Exporter) : (s.setExporter x e).recirc = s.recirc := rfl
@[simp] theorem setExporter_punts (s : State) (x : Nat) (e : Exporter) : (s.setExporter x e).punts = s.punts := rfl
@[simp] theorem setExporter_puntBuckets (s : State) (x : Nat) (e : Exporter) : (s.setExporter x e).puntBuckets = s.puntBuckets := rfl
@[simp] theorem setExporter_buffers (s : State) (x : Nat) (e : Exporter) : (s.setExporter x e).buffers = s.buffers := rfl
@[simp] theorem setExporter_egress (s : State) (x : Nat) (e : Exporter) : (s.setExporter x e).egress = s.egress := rfl
@[simp] theorem setExporter_fabric (s : State) (x : Nat) (e : Exporter) : (s.setExporter x e).fabric = s.fabric := rfl
@[simp] theorem setExporter_cellar (s : State) (x : Nat) (e : Exporter) : (s.setExporter x e).cellar = s.cellar := rfl
@[simp] theorem setExporter_skim (s : State) (x : Nat) (e : Exporter) : (s.setExporter x e).skim = s.skim := rfl
@[simp] theorem setExporter_strainer (s : State) (x : Nat) (e : Exporter) : (s.setExporter x e).strainer = s.strainer := rfl
@[simp] theorem setExporter_churn (s : State) (x : Nat) (e : Exporter) : (s.setExporter x e).churn = s.churn := rfl
@[simp] theorem setExporter_time (s : State) (x : Nat) (e : Exporter) : (s.setExporter x e).time = s.time := rfl
@[simp] theorem setExporter_host (s : State) (x : Nat) (e : Exporter) : (s.setExporter x e).host = s.host := rfl
@[simp] theorem setExporter_whey (s : State) (x : Nat) (e : Exporter) : (s.setExporter x e).whey = s.whey := rfl
@[simp] theorem setExporter_telem (s : State) (x : Nat) (e : Exporter) : (s.setExporter x e).telem = { s.telem with exporters := tset {} s.telem.exporters (x, 0) e } := rfl
@[simp] theorem setExporter_rind (s : State) (x : Nat) (e : Exporter) : (s.setExporter x e).rind = s.rind := rfl
@[simp] theorem setExporter_images (s : State) (x : Nat) (e : Exporter) : (s.setExporter x e).images = s.images := rfl
@[simp] theorem setExporter_setup (s : State) (x : Nat) (e : Exporter) : (s.setExporter x e).setup = s.setup := rfl
@[simp] theorem setExporter_evtLevel (s : State) (x : Nat) (e : Exporter) : (s.setExporter x e).evtLevel = s.evtLevel := rfl

/-! ### setStaging -/

@[simp] theorem setStaging_pending (s : State) (o : Nat) (l : List Staged) : (setStaging s o l).pending = s.pending := rfl
@[simp] theorem setStaging_now (s : State) (o : Nat) (l : List Staged) : (setStaging s o l).now = s.now := rfl
@[simp] theorem setStaging_draws (s : State) (o : Nat) (l : List Staged) : (setStaging s o l).draws = s.draws := rfl
@[simp] theorem setStaging_reg (s : State) (o : Nat) (l : List Staged) : (setStaging s o l).reg = s.reg := rfl
@[simp] theorem setStaging_ctr (s : State) (o : Nat) (l : List Staged) : (setStaging s o l).ctr = s.ctr := rfl
@[simp] theorem setStaging_prog (s : State) (o : Nat) (l : List Staged) : (setStaging s o l).prog = s.prog := rfl
@[simp] theorem setStaging_out (s : State) (o : Nat) (l : List Staged) : (setStaging s o l).out = s.out := rfl
@[simp] theorem setStaging_frames (s : State) (o : Nat) (l : List Staged) : (setStaging s o l).frames = s.frames := rfl
@[simp] theorem setStaging_nextFrame (s : State) (o : Nat) (l : List Staged) : (setStaging s o l).nextFrame = s.nextFrame := rfl
@[simp] theorem setStaging_nextPlace (s : State) (o : Nat) (l : List Staged) : (setStaging s o l).nextPlace = s.nextPlace := rfl
@[simp] theorem setStaging_ports (s : State) (o : Nat) (l : List Staged) : (setStaging s o l).ports = s.ports := rfl
@[simp] theorem setStaging_staging (s : State) (o : Nat) (l : List Staged) : (setStaging s o l).staging = tset [] s.staging (o, 0) l := rfl
@[simp] theorem setStaging_recirc (s : State) (o : Nat) (l : List Staged) : (setStaging s o l).recirc = s.recirc := rfl
@[simp] theorem setStaging_punts (s : State) (o : Nat) (l : List Staged) : (setStaging s o l).punts = s.punts := rfl
@[simp] theorem setStaging_puntBuckets (s : State) (o : Nat) (l : List Staged) : (setStaging s o l).puntBuckets = s.puntBuckets := rfl
@[simp] theorem setStaging_buffers (s : State) (o : Nat) (l : List Staged) : (setStaging s o l).buffers = s.buffers := rfl
@[simp] theorem setStaging_egress (s : State) (o : Nat) (l : List Staged) : (setStaging s o l).egress = s.egress := rfl
@[simp] theorem setStaging_fabric (s : State) (o : Nat) (l : List Staged) : (setStaging s o l).fabric = s.fabric := rfl
@[simp] theorem setStaging_cellar (s : State) (o : Nat) (l : List Staged) : (setStaging s o l).cellar = s.cellar := rfl
@[simp] theorem setStaging_skim (s : State) (o : Nat) (l : List Staged) : (setStaging s o l).skim = s.skim := rfl
@[simp] theorem setStaging_strainer (s : State) (o : Nat) (l : List Staged) : (setStaging s o l).strainer = s.strainer := rfl
@[simp] theorem setStaging_churn (s : State) (o : Nat) (l : List Staged) : (setStaging s o l).churn = s.churn := rfl
@[simp] theorem setStaging_time (s : State) (o : Nat) (l : List Staged) : (setStaging s o l).time = s.time := rfl
@[simp] theorem setStaging_host (s : State) (o : Nat) (l : List Staged) : (setStaging s o l).host = s.host := rfl
@[simp] theorem setStaging_whey (s : State) (o : Nat) (l : List Staged) : (setStaging s o l).whey = s.whey := rfl
@[simp] theorem setStaging_telem (s : State) (o : Nat) (l : List Staged) : (setStaging s o l).telem = s.telem := rfl
@[simp] theorem setStaging_rind (s : State) (o : Nat) (l : List Staged) : (setStaging s o l).rind = s.rind := rfl
@[simp] theorem setStaging_images (s : State) (o : Nat) (l : List Staged) : (setStaging s o l).images = s.images := rfl
@[simp] theorem setStaging_setup (s : State) (o : Nat) (l : List Staged) : (setStaging s o l).setup = s.setup := rfl
@[simp] theorem setStaging_evtLevel (s : State) (o : Nat) (l : List Staged) : (setStaging s o l).evtLevel = s.evtLevel := rfl

/-! ### What the readers answer -/

theorem Fld.eq_of_ctorIdx {f g : Fld} (h : f.ctorIdx = g.ctorIdx) : f = g := by
  have a : Fld.ofNat f.ctorIdx = f := Fld.ofNat_ctorIdx f
  rw [h, Fld.ofNat_ctorIdx] at a
  exact a.symm

theorem Ctr.eq_of_ctorIdx {c d : Ctr} (h : c.ctorIdx = d.ctorIdx) : c = d := by
  have a : Ctr.ofNat c.ctorIdx = c := Ctr.ofNat_ctorIdx c
  rw [h, Ctr.ofNat_ctorIdx] at a
  exact a.symm

@[simp] theorem fget_fset_same (s : State) (f : Fld) (i v : Nat) : (s.fset f i v).fget f i = v % 2 ^ f.info.width :=
  tget_tset_same _ _ _ _

theorem fget_fset_other (s : State) (f g : Fld) (i j v : Nat) (h : (g, j) ≠ (f, i)) : (s.fset f i v).fget g j = s.fget g j :=
  tget_tset_other _ _ _ _ _ _ (fun e => h (by
    obtain ⟨a, b⟩ := Prod.mk.inj e
    rw [Fld.eq_of_ctorIdx a, b]))

@[simp] theorem cget_gset_same (s : State) (c : Ctr) (i v : Nat) : (s.gset c i v).cget c i = v % 2 ^ 48 := tget_tset_same _ _ _ _

theorem cget_gset_other (s : State) (c d : Ctr) (i j v : Nat) (h : (d, j) ≠ (c, i)) : (s.gset c i v).cget d j = s.cget d j :=
  tget_tset_other _ _ _ _ _ _ (fun e => h (by
    obtain ⟨a, b⟩ := Prod.mk.inj e
    rw [Ctr.eq_of_ctorIdx a, b]))

@[simp] theorem cget_fset (s : State) (f : Fld) (i v : Nat) (d : Ctr) (j : Nat) : (s.fset f i v).cget d j = s.cget d j := rfl
@[simp] theorem fget_gset (s : State) (c : Ctr) (i v : Nat) (g : Fld) (j : Nat) : (s.gset c i v).fget g j = s.fget g j := rfl
@[simp] theorem fget_emit (s : State) (o : Out) (g : Fld) (j : Nat) : (s.emit o).fget g j = s.fget g j := rfl
@[simp] theorem cget_emit (s : State) (o : Out) (d : Ctr) (j : Nat) : (s.emit o).cget d j = s.cget d j := rfl
@[simp] theorem fget_draw (s : State) (g : Fld) (j : Nat) : (s.draw.2).fget g j = s.fget g j := rfl
@[simp] theorem cget_draw (s : State) (d : Ctr) (j : Nat) : (s.draw.2).cget d j = s.cget d j := rfl
@[simp] theorem fget_setFrame (s : State) (id : Nat) (f : Frame) (g : Fld) (j : Nat) : (s.setFrame id f).fget g j = s.fget g j := rfl
@[simp] theorem cget_setFrame (s : State) (id : Nat) (f : Frame) (d : Ctr) (j : Nat) : (s.setFrame id f).cget d j = s.cget d j := rfl
@[simp] theorem fget_newFrame (s : State) (f : Frame) (g : Fld) (j : Nat) : (s.newFrame f).fget g j = s.fget g j := rfl
@[simp] theorem cget_newFrame (s : State) (f : Frame) (d : Ctr) (j : Nat) : (s.newFrame f).cget d j = s.cget d j := rfl
@[simp] theorem fget_delFrame (s : State) (id : Nat) (g : Fld) (j : Nat) : (s.delFrame id).fget g j = s.fget g j := rfl
@[simp] theorem cget_delFrame (s : State) (id : Nat) (d : Ctr) (j : Nat) : (s.delFrame id).cget d j = s.cget d j := rfl
@[simp] theorem fget_setPort (s : State) (q : Nat) (p : PortSt) (g : Fld) (j : Nat) : (s.setPort q p).fget g j = s.fget g j := rfl
@[simp] theorem cget_setPort (s : State) (q : Nat) (p : PortSt) (d : Ctr) (j : Nat) : (s.setPort q p).cget d j = s.cget d j := rfl
@[simp] theorem fget_setBuf (s : State) (b : Nat × Nat) (v : Option Buf) (g : Fld) (j : Nat) : (s.setBuf b v).fget g j = s.fget g j := rfl
@[simp] theorem cget_setBuf (s : State) (b : Nat × Nat) (v : Option Buf) (d : Ctr) (j : Nat) : (s.setBuf b v).cget d j = s.cget d j := rfl
@[simp] theorem fget_setRing (s : State) (n k : Nat) (r : RingSt) (g : Fld) (j : Nat) : (s.setRing n k r).fget g j = s.fget g j := rfl
@[simp] theorem cget_setRing (s : State) (n k : Nat) (r : RingSt) (d : Ctr) (j : Nat) : (s.setRing n k r).cget d j = s.cget d j := rfl
@[simp] theorem fget_setQueue (s : State) (q c : Nat) (v : Queue) (g : Fld) (j : Nat) : (s.setQueue q c v).fget g j = s.fget g j := rfl
@[simp] theorem cget_setQueue (s : State) (q c : Nat) (v : Queue) (d : Ctr) (j : Nat) : (s.setQueue q c v).cget d j = s.cget d j := rfl
@[simp] theorem fget_setTask (s : State) (id : Nat) (t : Option Task) (g : Fld) (j : Nat) : (s.setTask id t).fget g j = s.fget g j := rfl
@[simp] theorem cget_setTask (s : State) (id : Nat) (t : Option Task) (d : Ctr) (j : Nat) : (s.setTask id t).cget d j = s.cget d j := rfl
@[simp] theorem fget_setNat (s : State) (p : Nat) (v : NatPool) (g : Fld) (j : Nat) : (setNat s p v).fget g j = s.fget g j := rfl
@[simp] theorem cget_setNat (s : State) (p : Nat) (v : NatPool) (d : Ctr) (j : Nat) : (setNat s p v).cget d j = s.cget d j := rfl
@[simp] theorem fget_setRecord (s : State) (n : Nat) (r : Option Rec) (g : Fld) (j : Nat) : (s.setRecord n r).fget g j = s.fget g j := rfl
@[simp] theorem cget_setRecord (s : State) (n : Nat) (r : Option Rec) (d : Ctr) (j : Nat) : (s.setRecord n r).cget d j = s.cget d j := rfl
@[simp] theorem fget_setSlot (s : State) (b i w : Nat) (g : Fld) (j : Nat) : (setSlot s b i w).fget g j = s.fget g j := rfl
@[simp] theorem cget_setSlot (s : State) (b i w : Nat) (d : Ctr) (j : Nat) : (setSlot s b i w).cget d j = s.cget d j := rfl
@[simp] theorem fget_setWay (s : State) (k : Key) (w : Option Way) (g : Fld) (j : Nat) : (setWay s k w).fget g j = s.fget g j := rfl
@[simp] theorem cget_setWay (s : State) (k : Key) (w : Option Way) (d : Ctr) (j : Nat) : (setWay s k w).cget d j = s.cget d j := rfl
@[simp] theorem fget_setMiss (s : State) (k : Key) (m : Option Miss) (g : Fld) (j : Nat) : (setMiss s k m).fget g j = s.fget g j := rfl
@[simp] theorem cget_setMiss (s : State) (k : Key) (m : Option Miss) (d : Ctr) (j : Nat) : (setMiss s k m).cget d j = s.cget d j := rfl
@[simp] theorem fget_setWb (s : State) (b : Nat) (l : List WbEntry) (g : Fld) (j : Nat) : (setWb s b l).fget g j = s.fget g j := rfl
@[simp] theorem cget_setWb (s : State) (b : Nat) (l : List WbEntry) (d : Ctr) (j : Nat) : (setWb s b l).cget d j = s.cget d j := rfl
@[simp] theorem fget_setRow (s : State) (a : Nat) (e : Option StrEntry) (g : Fld) (j : Nat) : (setRow s a e).fget g j = s.fget g j := rfl
@[simp] theorem cget_setRow (s : State) (a : Nat) (e : Option StrEntry) (d : Ctr) (j : Nat) : (setRow s a e).cget d j = s.cget d j := rfl
@[simp] theorem fget_setStream (s : State) (a c : Nat) (v : Stream) (g : Fld) (j : Nat) : (s.setStream a c v).fget g j = s.fget g j := rfl
@[simp] theorem cget_setStream (s : State) (a c : Nat) (v : Stream) (d : Ctr) (j : Nat) : (s.setStream a c v).cget d j = s.cget d j := rfl
@[simp] theorem fget_setExporter (s : State) (x : Nat) (e : Exporter) (g : Fld) (j : Nat) : (s.setExporter x e).fget g j = s.fget g j := rfl
@[simp] theorem cget_setExporter (s : State) (x : Nat) (e : Exporter) (d : Ctr) (j : Nat) : (s.setExporter x e).cget d j = s.cget d j := rfl
@[simp] theorem fget_setStaging (s : State) (o : Nat) (l : List Staged) (g : Fld) (j : Nat) : (setStaging s o l).fget g j = s.fget g j := rfl
@[simp] theorem cget_setStaging (s : State) (o : Nat) (l : List Staged) (d : Ctr) (j : Nat) : (setStaging s o l).cget d j = s.cget d j := rfl

@[simp] theorem setPort_same (s : State) (q : Nat) (p : PortSt) : (s.setPort q p).port q = p := tget_tset_same _ _ _ _
theorem setPort_other (s : State) (q : Nat) (p : PortSt) (r : Nat) (h : r ≠ q) : (s.setPort q p).port r = s.port r :=
  tget_tset_other _ _ _ _ _ _ (fun e => h (Prod.mk.inj e).1)
@[simp] theorem setRing_same (s : State) (n k : Nat) (r : RingSt) : (s.setRing n k r).ring n k = r := tget_tset_same _ _ _ _
theorem setRing_other (s : State) (n k : Nat) (r : RingSt) (m j : Nat) (h : (m, j) ≠ (n, k)) : (s.setRing n k r).ring m j = s.ring m j :=
  tget_tset_other _ _ _ _ _ _ h
@[simp] theorem setQueue_same (s : State) (q c : Nat) (v : Queue) : (s.setQueue q c v).queue q c = v := tget_tset_same _ _ _ _
theorem setQueue_other (s : State) (q c : Nat) (v : Queue) (m j : Nat) (h : (m, j) ≠ (q, c)) : (s.setQueue q c v).queue m j = s.queue m j :=
  tget_tset_other _ _ _ _ _ _ h
@[simp] theorem setTask_same (s : State) (id : Nat) (t : Option Task) : (s.setTask id t).task? id = t := tget_tset_same _ _ _ _
theorem setTask_other (s : State) (id : Nat) (t : Option Task) (j : Nat) (h : j ≠ id) : (s.setTask id t).task? j = s.task? j :=
  tget_tset_other _ _ _ _ _ _ (fun e => h (Prod.mk.inj e).1)
@[simp] theorem setRecord_same (s : State) (n : Nat) (r : Option Rec) : (s.setRecord n r).record n = r := tget_tset_same _ _ _ _
theorem setRecord_other (s : State) (n : Nat) (r : Option Rec) (j : Nat) (h : j ≠ n) : (s.setRecord n r).record j = s.record j :=
  tget_tset_other _ _ _ _ _ _ (fun e => h (Prod.mk.inj e).1)
@[simp] theorem setRow_same (s : State) (a : Nat) (e : Option StrEntry) : (setRow s a e).strEntry a = e := tget_tset_same _ _ _ _
theorem setRow_other (s : State) (a : Nat) (e : Option StrEntry) (j : Nat) (h : j ≠ a) : (setRow s a e).strEntry j = s.strEntry j :=
  tget_tset_other _ _ _ _ _ _ (fun e => h (Prod.mk.inj e).1)
@[simp] theorem setStream_same (s : State) (a c : Nat) (v : Stream) : (s.setStream a c v).stream a c = v := tget_tset_same _ _ _ _
theorem setStream_other (s : State) (a c : Nat) (v : Stream) (m j : Nat) (h : (m, j) ≠ (a, c)) : (s.setStream a c v).stream m j = s.stream m j :=
  tget_tset_other _ _ _ _ _ _ h
@[simp] theorem setExporter_same (s : State) (x : Nat) (e : Exporter) : (s.setExporter x e).exporter x = e := tget_tset_same _ _ _ _
theorem setExporter_other (s : State) (x : Nat) (e : Exporter) (j : Nat) (h : j ≠ x) : (s.setExporter x e).exporter j = s.exporter j :=
  tget_tset_other _ _ _ _ _ _ (fun e => h (Prod.mk.inj e).1)
@[simp] theorem setBuf_same (s : State) (b : Nat × Nat) (v : Option Buf) : (s.setBuf b v).buf b = v := tget_tset_same _ _ _ _
theorem setBuf_other (s : State) (b : Nat × Nat) (v : Option Buf) (j : Nat × Nat) (h : j ≠ b) : (s.setBuf b v).buf j = s.buf j :=
  tget_tset_other _ _ _ _ _ _ h

theorem find?_tput_same {α : Type} (t : Tab α) (k : Key) (v : α) : (tput t k v).find? (fun e => e.1 == k) = some (k, v) := by
  induction t with
  | nil => simp [tput]
  | cons x t ih =>
    unfold tput
    split
    · simp
    · split
      · simp
      · next n _ =>
        rw [List.find?_cons_of_neg (by simpa using n)]
        exact ih

theorem find?_tput_other {α : Type} (t : Tab α) (k j : Key) (v : α) (h : j ≠ k) :
    (tput t k v).find? (fun e => e.1 == j) = t.find? (fun e => e.1 == j) := by
  have hk : (k == j) = false := by simpa using Ne.symm h
  induction t with
  | nil => simp [tput, Ne.symm h]
  | cons x t ih =>
    unfold tput
    split
    · next e =>
      simp only [List.find?_cons, hk, e]
    · split
      · simp only [List.find?_cons, hk]
      · simp only [List.find?_cons, ih]

@[simp] theorem frame?_setFrame_same (s : State) (id : Nat) (f : Frame) : (s.setFrame id f).frame? id = some f := by
  show ((tput s.frames (id, 0) f).find? (fun e => e.1 == (id, 0))).map (fun e => e.2) = some f
  rw [find?_tput_same]
  rfl

theorem frame?_setFrame_other (s : State) (id j : Nat) (f : Frame) (h : j ≠ id) : (s.setFrame id f).frame? j = s.frame? j := by
  show ((tput s.frames (id, 0) f).find? (fun e => e.1 == (j, 0))).map (fun e => e.2) = _
  rw [find?_tput_other _ _ _ _ (fun e => h (Prod.mk.inj e).1)]
  rfl

end Sys2Proof.Machine
end

