-- ==== Sys2Proof/Machine/Flash.lean ====
section
/-! DEFINITION. The flash as it is laid out (R340): its regions, the bytes of a slot state region, and the bytes of a boot
record with its CRC (R341). State holds what these bytes say; an erased byte reads 0xFF (PRESUMED, log entry 54). -/

namespace Sys2Proof.Machine

/-- The regions of the flash, with the offset inside one (R340). -/
inductive FlashRegion where
  | slot (n : Nat)
  | golden
  | boot (copy : Nat)
  | slotState (n : Nat)
  | log
  deriving DecidableEq, Repr

/-- The region and the offset in it of a byte of the 128 MiB; none beyond them. -/
def flashRegion (a : Nat) : Option (FlashRegion × Nat) :=
  if a < 0x3000000 then some (.slot 0, a)
  else if a < 0x6000000 then some (.slot 1, a - 0x3000000)
  else if a < 0x7000000 then some (.golden, a - 0x6000000)
  else if a < 0x7010000 then some (.boot 0, a - 0x7000000)
  else if a < 0x7020000 then some (.boot 1, a - 0x7010000)
  else if a < 0x7030000 then some (.slotState 0, a - 0x7020000)
  else if a < 0x7040000 then some (.slotState 1, a - 0x7030000)
  else if a < 0x8000000 then some (.log, a - 0x7040000)
  else none

/-- The 832 bytes of a slot state region: magic, digest, the verified byte and the chunk map. An EMPTY slot's is erased. -/
def slotStateBytes (s : State) (n : Nat) : List Byte :=
  match slotDigest s n with
  | none => List.replicate 832 0xFF
  | some d =>
    leBytes 4 0x53545646 ++ leBytes 48 d ++ [if tget false s.images.verified (n, 0) then 0x00 else 0xFF] ++
      List.replicate 11 0xFF ++ (List.range 768).map (fun k => if (marksOf s n).contains k then 0x00 else 0xFF)

/-- What a slot state region says: the session's digest, the chunks marked and whether the slot is verified. A byte of the
map or the verified byte means done only at 0x00. -/
def slotStateRead (b : List Byte) : Option (Nat × List Nat × Bool) :=
  if leAt b 0 4 = 0x53545646 then
    some (leAt b 4 48, (List.range 768).filter (fun k => leAt b (64 + k) 1 == 0), leAt b 52 1 == 0)
  else none

/-- Bytes 0 to 123 of a boot record. -/
def bootBody (r : BootRec) : List Byte :=
  leBytes 124 (0x52425646 + r.seq % 2 ^ 32 * 2 ^ 32 + r.active % 2 * 2 ^ 64 + bit r.trial * 2 ^ 65 + r.trialStarts % 4 * 2 ^ 66 +
    r.previous % 2 * 2 ^ 72 + r.activeDigest % 2 ^ 384 * 2 ^ 96 + r.previousDigest % 2 ^ 384 * 2 ^ 480 + r.auto % 2 ^ 16 * 2 ^ 864)

/-- The 128 bytes of a boot record: the last four are the CRC-32 over bytes 0 to 123. -/
def bootBytes (r : BootRec) : List Byte := bootBody r ++ leBytes 4 (crc32 (bootBody r))

/-- The record in the bytes of a copy; it is valid when its magic and CRC are correct. -/
def bootRead (b : List Byte) : Option BootRec :=
  let v := leNat (b.take 124)
  if leAt b 0 4 = 0x52425646 ∧ leAt b 124 4 = crc32 (b.take 124) then
    some ⟨bits v 32 32, bits v 64 1, bits v 65 1 == 1, bits v 66 2, bits v 72 1, bits v 96 384, bits v 480 384, bits v 864 16⟩
  else none

/-- A byte of the flash, where the spec gives it: of the slots, the slot states and the copies of the boot record. The golden
image and the log's own layout it does not give. -/
def flashByte (s : State) (a : Nat) : Option Byte :=
  match flashRegion a with
  | some (.slot n, o) => some ((chunkBytes s n (o / 65536)).getD (o % 65536) 0xFF)
  | some (.boot c, o) => some (((if c = 0 then s.images.boot0 else s.images.boot1).map bootBytes).getD [] |>.getD o 0xFF)
  | some (.slotState n, o) => some ((slotStateBytes s n).getD o 0xFF)
  | _ => none

end Sys2Proof.Machine
end

