-- ==== Sys2Proof/WellFormed.lean ====
section
/-! DEFINITION. Well-formed commands: every operand that names a part of the device names one that exists. A command that is not
well formed names nothing, and its meaning leaves the state as it is or refuses it as the spec says. -/

namespace Sys2Proof

/-- The words of a store of a cluster (R138). -/
def storeWords (store : Nat) : Nat := [16384, 2048, 256].getD store 0

/-- The ring set of a CMD path; the mailbox is set 0's. -/
def ImgPath.set (p : ImgPath) : Nat :=
  match p with
  | .cmd set _ => set
  | .mbx _ => 0

/-- The operands that name a part, each with the number of such parts (R27, R138, R155, R254, R330). -/
def Instr.bounds (i : Instr) : List (Nat × Nat) :=
  match i with
  | .frameReceive port _ _ _ _ => [(port, 256)]
  | .linkConditionChange port _ _ _ => [(port, 256)]
  | .portUpDebounceExpire port | .portDownDebounceExpire port | .autonegComplete port | .linkTrainingComplete port
  | .fecDegradeWindowEnd port | .holdExpire port | .flushComplete port | .pfcFrameSend port | .genFrameSend port
    => [(port, 256)]
  | .fecCodewordDecode port _ _ | .milkNeed port _ _ => [(port, 256)]
  | .pauseTimerExpire port prio => [(port, 256), (prio, 9)]
  | .octetLayoutWrite _ octet _ => [(octet, 32)]
  | .portCfgWrite _ port _ | .portHoldWrite _ port _ | .portTestWrite _ port _ => [(port, 256)]
  | .portAdminDisable _ port => [(port, 256)]
  | .headerSlotGrant slice source => [(slice, 16), (source, 3)]
  | .recirculate _ | .lbKeyApply _ | .taskDispatch _ | .taskCommit _ | .teardown _ | .frameRelease _ | .bufEccError _
  | .hbmEccError _ | .skimEccError _ | .sweepNow _ | .rekeyStart _ | .puntDeliver _ | .hostReset _ | .getStatus _
  | .getHistory _ | .causeClear _ | .resetChip _ | .resetDomain _ | .domainHold _ | .powerSet _ | .throttleSet _
  | .keyPin _ | .keyUnpin _ | .recoveryComplete _ | .ticketSubmit _ | .ticketCancel _ | .ownerSet _ | .ownerEnroll _
  | .milkSet _ | .chunkWriteComplete _ | .pinRequest _ | .timeNowLatch _ | .reepoch _ | .triggerFire _
  | .wheyEpochNow _ | .tallySnapNow _ | .powerOn _ | .powerRailFall _ | .rstNAssert _ | .resetSourceRelease _
  | .brownout _ | .thermalReport _ | .railMarginRestore _ | .mbxInvalidCommand _ => []
  | .selEntryWrite _ entry _ => [(entry, 64)]
  | .profileWrite _ profile _ | .strLkpWrite _ profile _ => [(profile, 64)]
  | .lbKeySwitch | .hintRewrite | .hintSkip | .scrubPass | .purgeVisit | .sweepVisit | .sweepEnd | .rekeyMigrateVisit
  | .rekeySwitch | .drainComplete | .drainLimitExpire | .bankMirrorComplete | .wheyDeliver | .vfEnableClear
  | .perstRelease | .pcieEnterCompliance | .getVersion | .getCapabilities | .getDigests | .resetChipAssert
  | .slotVerifyComplete | .sessionOwnerTimeout | .milkNeedTimer | .activationCheck | .bootRecordWriteDone
  | .mladundRestartDone | .octetRetrainNext | .autoConfirm | .slewComplete | .reepochHoldExpire | .refLost
  | .ppsCapture | .ppsMissing | .periodicVisit | .tallyWriteoutComplete | .thermalTrip | .thermalTripRelease
  | .watchdogKick | .watchdogStage1 | .watchdogStage2 | .startWindowExpire | .startComplete | .bypass | .idcode
  | .samplePreload | .extest | .clamp | .highz | .extestPulse | .extestTrain | .vfEnableSet | .logRegionWriteDone
  | .bundleStagingComplete | .tapReset => []
  | .skimLookup _ bank => [(bank, 16)]
  | .cellarLookupComplete bank _ | .skimBypass bank _ | .bypassExit bank _ => [(bank, 16)]
  | .strainerProbeIssue bank | .writeback bank | .skimBankFlushDone bank => [(bank, 16)]
  | .strainerSearchComplete bank _ _ => [(bank, 16)]
  | .recordWindowComplete ctx | .routineIssueLimit ctx | .contextEccError ctx | .natTakeAnswer ctx
    => [(ctx.cluster, 64), (ctx.engine, 16), (ctx.context, 8)]
  | .next ctx _ | .jump ctx _ | .branch ctx _ | .branchn ctx _ | .call ctx _ | .ret ctx _ | .dispatch ctx _
  | .wait ctx _ | .checkpoint ctx _ | .yield ctx _ | .commit ctx _ | .abort ctx _ | .end_ ctx _
    => [(ctx.cluster, 64), (ctx.engine, 16), (ctx.context, 8)]
  | .storeWordRewrite word
    => [(word.cluster, 64), (word.store, 3), (word.bank, 2), (word.addr, storeWords word.store)]
  | .vatWriteComplete port cls | .vatReadIssue port cls | .vatReadComplete port cls => [(port, 257), (cls, 16)]
  | .frameTransmitStart port | .frameTransmitEnd port | .launchDue port | .gateEntryExpire port => [(port, 257)]
  | .pfcRefresh port prio => [(port, 256), (prio, 8)]
  | .indirWrite _ table entry _ => [(table, 16), (entry, 65536)]
  | .poolCarveWrite _ _ | .vatCfgWrite _ _ | .strBlockCfgWrite _ _ | .evtRearmWrite _ _ | .negotiateAlgorithms _ _
  | .challenge _ _ | .getMeasurements _ _ | .timeRateWrite _ _ | .timeSlewWrite _ _ | .timeStep _ _
  | .refSelectWrite _ _ | .railMarginLow _ _ | .avsTargetRevise _ _ | .setupLockWrite _ _ => []
  | .poolQuotaWrite _ requester pool _ => [(requester, 274), (pool, 4)]
  | .injBufferRetry set | .statusBlockWrite set => [(set, 64)]
  | .poisonBucketRebuildDone bucket => [(bucket, 2 ^ 25)]
  | .purgeStart _ addr => [(addr, 2 ^ 18)]
  | .cmdNop set _ | .flowInsert set _ | .flowUpdate set _ | .flowDelete set _ | .flowRead set _
  | .strainerWrite set _ | .strainerRead set _ | .epochPublish set _ | .drainSet set _ | .injDirect set _
  | .injProcess set _ => [(set, 64)]
  | .doorbellWrite set ring size _ => [(set, 64), (ring, 8), (size, 9)]
  | .descriptorFetch set ring _ | .ringEnable set ring _ | .ringDisable set ring _ => [(set, 64), (ring, 8)]
  | .irqModTimer set ring | .ringQuiesced set ring | .ringDmaError set ring => [(set, 64), (ring, 8)]
  | .rsetOwnerWrite _ set _ => [(set, 64)]
  | .functionLevelReset fn => [(fn, 64)]
  | .getCertificate _ _ _ | .avsRetry _ _ _ => []
  | .domainSwitchComplete pd => [(pd, 160)]
  | .imgChunk via | .imgBitmap via | .imgAbort via | .imgConfirm via => [(via.set, 64)]
  | .milkChunk port piece chunk _ _ => [(port, 256), (piece, 8), (chunk, 768)]
  | .milkAck port chunk _ => [(port, 256), (chunk, 768)]
  | .milkRefuse port reason _ => [(port, 256), (reason, 65536)]
  | .milkResendTimeout chunk => [(chunk, 768)]
  | .reseqRelease src cls | .reseqGapTimeout src cls | .pinRequestResend src cls => [(src, 4096), (cls, 16)]
  | .pinExpire dst cls => [(dst, 4096), (cls, 16)]
  | .triggerArm _ unit _ => [(unit, 8)]
  | .trigOutFall pin => [(pin, 4)]
  | .ipfixEnable _ exporter _ => [(exporter, 4)]
  | .ipfixMessageTimeout exporter | .ipfixTemplateRefresh exporter => [(exporter, 4)]
  | .qwmWrite _ port cls _ => [(port, 257), (cls, 16)]
  | .tallyProgWrite _ group counter _ => [(group, 395), (counter, 8)]
  | .criticalStateError place => [(place, 9)]
  | .domainRelease step _ | .clockGood step | .releaseWindowExpire step => [(step, 11)]
  | .sliceRestoreDone slice => [(slice, 16)]
  | .strainerBlockReloadDone block => [(block, 8)]
  | .clusterReloadDone cluster => [(cluster, 64)]
  | .laneTestWrite _ octet lane _ => [(octet, 32), (lane, 8)]
  | .laneTestLatch _ octet lane _ _ => [(octet, 32), (lane, 8)]
  | .laneTestClear _ octet lane => [(octet, 32), (lane, 8)]
  | .checkerLock octet lane => [(octet, 32), (lane, 8)]
  | .checkerLockLoss octet lane _ _ | .checkerSaturate octet lane _ _ => [(octet, 32), (lane, 8)]
  | .registerWrite _ _ _ size _ => [(size, 9)]
  | .busMasterEnableChange fn _ => [(fn, 64)]

/-- The number of sensor readings that a report carries (R332); other commands carry none. -/
def Instr.sensorsOk (i : Instr) : Bool :=
  match i with
  | .thermalReport readings => readings.length == 64
  | _ => true

/-- The tests that a release reports (R365, R366): links that exist, each named once, and memories of domains that exist. -/
def StartTests.ok (t : StartTests) : Bool :=
  t.hbm.all (fun x => decide (x.1 < 4 ∧ x.2.1 < 32)) && t.d2d.all (fun x => decide (x.1 < 8 ∧ x.2.1 < 16)) &&
    decide ((t.hbm.map (fun x => (x.1, x.2.1))).Nodup) && decide ((t.d2d.map (fun x => (x.1, x.2.1))).Nodup) &&
    t.memFailed.all (fun p => decide (p < 160 ∨ p = 255))

/-- The test report that a command carries is well formed; other commands carry none. -/
def Instr.testsOk (i : Instr) : Bool :=
  match i with
  | .domainRelease _ tests => tests.ok
  | _ => true

/-- A well-formed command. -/
def Instr.wf (i : Instr) : Bool := i.bounds.all (fun b => decide (b.1 < b.2)) && i.sensorsOk && i.testsOk

end Sys2Proof
end

