-- ==== Sys2Proof/Tests/Slice0.lean ====
section
/-! SUPPORT. Tests: for each statement states and operands that meet its premises (the theorems wit_…, each saying whose), the
worked examples of the spec, and an ill-formed term for each check of WellFormed. Where a premise is a verdict on a signature
or a digest, which is a free value (log entry 9), the witness takes the favourable verdict as its own premise. -/

namespace Sys2Proof.Tests

set_option Elab.async false

open Sys2Proof Sys2Proof.Machine

/-- The state after reset with register fields set: field, instance, value. -/
def st (l : List (Fld × Nat × Nat)) : State := l.foldl (fun s e => s.fset e.1 e.2.1 e.2.2) State.reset

/-- Domains that are on. -/
def on (l : List Nat) : List (Fld × Nat × Nat) := l.map (fun d => (.PD_STATE_on, d, 1))

/-- Port 0 of an octet that runs, eight lanes wide. -/
def port0 : List (Fld × Nat × Nat) := [(.PD_STATE_on, 0, 1), (.OCTET_LAYOUT_start_width, 0, 4)]

/-- The same port enabled and declared up. -/
def up0 : List (Fld × Nat × Nat) :=
  port0 ++ [(.PORT_CFG_admin_en, 0, 1), (.PORT_STATUS_link_up, 0, 1), (.PORT_STATUS_align_lock, 0, 1)]

/-- Bytes of zero. -/
def zeros (n : Nat) : List Byte := List.replicate n 0

/-! ### Links (R33 to R45) -/

/-- Port 0 down, every condition of R34 met but the lock. -/
def sDown : State := st (port0 ++ [(.PORT_CFG_admin_en, 0, 1), (.PORT_STATUS_an_done, 0, 1), (.PORT_STATUS_lt_done, 0, 1)])

/-- The same, the lock there and the count begun at 0, 100 ms later. -/
def sRise : State :=
  { st (port0 ++ [(.PORT_CFG_admin_en, 0, 1), (.PORT_STATUS_an_done, 0, 1), (.PORT_STATUS_lt_done, 0, 1), (.PORT_STATUS_align_lock, 0, 1)])
    with ports := [((0, 0), { upFrom := some 0 })], now := 100000000 }

/-- Port 0 up. -/
def sUp : State := { st up0 with now := 100000000 }

/-- Port 0 up with a loss since 0. -/
def sLoss : State := { sUp with ports := [((0, 0), { downFrom := some 0 })] }

/-- Meets premises of LinkConditionsAndDebounces. -/
theorem wit_linkCondition :
    0 < 256 ∧ portExists sDown 0 = true ∧ sDown.runs (pdOctet (0 / 8)) = true ∧ portUp sDown 0 = false ∧ portUp sUp 0 = true ∧ sUp.runs (pdOctet (0 / 8)) = true ∧ (sLoss.port 0).downFrom.isSome = true ∧ portUp sLoss 0 = true := by
  decide

/-- Meets premises of LinkConditionsAndDebounces. -/
theorem wit_anLtDone :
    sDown.fbit .PORT_CFG_admin_en 0 = true ∧ (sDown.port 0).anEn = true ∧ (sDown.port 0).ltEn = true := by
  decide

/-- Meets premises of LinkConditionsAndDebounces. -/
theorem wit_upDebounce :
    (sRise.port 0).upFrom = some 0 ∧ portUp sRise 0 = false ∧ upConditions sRise 0 = true ∧ 0 + 1000 * sRise.fget .PORT_CFG_up_debounce_us 0 ≤ sRise.now := by
  decide

/-- Meets premises of LinkConditionsAndDebounces. -/
theorem wit_downDebounce :
    (sLoss.port 0).downFrom = some 0 ∧ portUp sLoss 0 = true ∧ 0 + 1000 * sLoss.fget .PORT_CFG_down_debounce_us 0 ≤ sLoss.now ∧ sLoss.fget .PORT_HOLD_port_hold_us 0 = 0 ∧ (sLoss.fset .PORT_HOLD_port_hold_us 0 5).fget .PORT_HOLD_port_hold_us 0 ≠ 0 := by
  decide

/-- Meets premises of CodewordsPausesAndHolds. -/
theorem wit_codeword :
    portExists sUp 0 = true ∧ sUp.fbit .PORT_STATUS_align_lock 0 = true ∧ sUp.runs (pdOctet (0 / 8)) = true ∧ (sUp.port 0).fecFrom + 1000 * sUp.fget .FEC_DEGRADE_degrade_window_us 0 ≤ sUp.now ∧ sUp.fbit .PORT_STATUS_fec_degraded 0 = false := by
  decide

/-- Port 0 holds since 0, for 5 us. -/
def sHold : State := { (sUp.fset .PORT_HOLD_port_hold_us 0 5) with ports := [((0, 0), { holdFrom := some 0 })] }

/-- Meets premises of CodewordsPausesAndHolds. -/
theorem wit_pauseHoldFlush :
    tget 0 sUp.buffers.rxPause (0, 3) ≤ sUp.now ∧ holdEnd sHold 0 = some 5000 ∧ 5000 ≤ sHold.now ∧ (sUp.fset .PORT_STATUS_flushing 0 1).fbit .PORT_STATUS_flushing 0 = true := by
  decide

/-- A frame: twelve address bytes, an EtherType, a payload, its FCS. -/
def fr (ty : Nat) (p : List Byte) : List Byte :=
  let b := zeros 12 ++ beBytes 2 ty ++ p
  b ++ fcsOf b

/-- Meets premises of FrameCountedOnce. -/
theorem wit_frameReceive : portUp sUp 0 = true ∧ (sUp.port 0).rx = none := by decide

/-! ### Streams, slots and release (R18 to R21, R157, R243 to R248) -/

/-- Slice 0 and port 0 up, with one frame. -/
def withFrame (f : Frame) : State := { st (up0 ++ on [32, 112]) with frames := [((5, 0), f)], nextFrame := 6, now := 100000000 }

/-- A stream in order with frame 5 held at its next number, and one with a gap. -/
def sHeld (e : Nat) : State :=
  let s := withFrame { stage := .reseq, bytes := zeros 128, whole := true }
  s.setStream 3 1 { mode := .reseq, exp := e, held := [(7, 5, 1000)] }

/-- Meets premises of StreamsReleaseAndPin. -/
theorem wit_reseq :
    (sHeld 7).stream 3 1 = { mode := .reseq, exp := 7, held := [(7, 5, 1000)] } ∧ ((sHeld 4).stream 3 1).held = [(7, 5, 1000)] ∧ (((sHeld 4).stream 3 1).held.map (fun x => x.2.2)).min? = some 1000 ∧ 7 ≠ ((sHeld 4).stream 3 1).exp ∧ 1000 + 1000 * (sHeld 4).fget .FAB_CFG_gap_timeout_us 0 ≤ (sHeld 4).now := by
  decide

/-- A pin request of source 3, class 1, epoch 0, with the stream used or not. -/
def sPin (used : Nat) : State :=
  let s := withFrame { stage := .reseq, bytes := zeros 16 ++ [1, 0] ++ zeros 110, whole := true, shim := some { typ := 2, src := 3 } }
  { s with fabric := { s.fabric with seq := tset 0 [] (3, 1) used } }

/-- A stream in PASS whose last pin request is 10 ms old. -/
def sPass : State := (withFrame {}).setStream 3 1 { mode := .pass, lastPin := some 0 }

/-- Meets premises of StreamsReleaseAndPin. -/
theorem wit_pinRequest :
    (sPin 0).frame? 5 = some ((sPin 0).frame 5) ∧ ((sPin 0).frame 5).shim = some { typ := 2, src := 3 } ∧ ((sPin 0).frame 5).stage = .reseq ∧ ((sPin 0).frame 5).transit = false ∧ tget 0 (sPin 9).fabric.seq (3, 1) ≠ 0 ∧ byteAt ((sPin 9).frame 5).bytes 17 = (sPin 9).fabric.epoch := by
  decide

/-- Meets premises of StreamsReleaseAndPin. -/
theorem wit_pinTimers :
    (sPass.stream 3 1).mode = .pass ∧ (sPass.stream 3 1).lastPin = some 0 ∧ 0 + 10000000 ≤ sPass.now ∧ tget 0 sPass.fabric.pinEnd (2, 1) ≤ sPass.now := by
  decide

/-- A whole frame at the head of octet 0, with the request queue of slice 0 for bank 0 holding `n` lookups. -/
def sSlot (n : Nat) : State :=
  let s := withFrame { bytes := fr 0x0800 (zeros 80), whole := true }
  { s with staging := [((0, 0), [⟨5, 0, 98⟩])], skim := { s.skim with requests := tset [] [] (0, 0) (List.replicate n ⟨.frame 1, false⟩) } }

/-- The same frame at the recirculation port. -/
def sRecirc : State :=
  { withFrame { bytes := fr 0x0800 (zeros 80), whole := true, pass := 2, stage := .recirc } with recirc := [((0, 0), [5])] }

/-- A frame that is to recirculate. -/
def sTurn : State := withFrame { bytes := fr 0x0800 (zeros 80), whole := true, stage := .recirc, slice := 0, tenant := 9, epochTag := 1, stamp := 77 }

/-- Meets premises of SlotsAndRecirculation. -/
theorem wit_headerSlot :
    (sSlot 0).runs (pdSlice 0) = true ∧ stagingHead (sSlot 0) (2 * 0 + 0) = some ⟨5, 0, 98⟩ ∧ slotReady (sSlot 0) 5 = true ∧ sliceStalled (sSlot 0) 0 = false ∧ stagingHead (sSlot 32) 0 = some ⟨5, 0, 98⟩ ∧ slotReady (sSlot 32) 5 = true ∧ sliceStalled (sSlot 32) 0 = true ∧ tget [] sRecirc.recirc (0, 0) = [5] ∧ sliceStalled sRecirc 0 = false := by
  decide

/-- Meets premises of SlotsAndRecirculation. -/
theorem wit_recirculate :
    sTurn.frame? 5 = some (sTurn.frame 5) ∧ (sTurn.frame 5).stage = .recirc ∧ (sTurn.frame 5).whole = true ∧ sTurn.recirc.all (fun e => !e.2.contains 5) = true := by
  decide +kernel

/-- Two frames of domain 4, the earlier one committed or not, with its egress. -/
def sDom (g : Stage) (d : Dest) : State :=
  let s := withFrame { bytes := fr 0x0800 (zeros 80), whole := true, stage := g, domain := 4, place := some 8, dest := d, received := true }
  { s with frames := s.frames ++ [((6, 0), { stage := .committed, domain := 4, place := some 9, whole := true })], nextFrame := 7 }

/-- Meets premises of ReleaseFollowsArrivalInADomain. -/
theorem wit_release :
    ((domainFrames (sDom .committed (.port 257 0)) 4).map (fun x => x.1)).min? = some 8 ∧ (domainFrames (sDom .committed (.port 257 0)) 4).find? (fun x => x.1 == 8) = some (8, 5) ∧ ((sDom .committed (.port 257 0)).frame 5).stage = .committed ∧ switchHolds (sDom .committed (.port 257 0)) 8 = false ∧ ((sDom .waiting .unset).frame 5).stage ≠ .committed ∧ ((domainFrames (sDom .waiting .unset) 4).map (fun x => x.1)).min? = some 8 ∧ ((sDom .committed (.port 257 0)).frame 5).dest = .port 257 0 ∧ ((sDom .committed (.port 257 0)).frame 5).pass < 3 ∧ ((sDom .committed (.port 257 0)).frame 5).mirror = none := by
  decide

/-! ### Soft errors (R77, R92, R104, R117, R209) -/

/-- Frame 5 in buffer (1, 7), and queued behind another frame in the Vat of port 0, class 2. -/
def sVat : State :=
  let s := withFrame { bytes := fr 0x0800 (zeros 80), whole := true, stage := .released, buf := some (1, 7), copies := 1 }
  let e : Copy := { frame := 5, kind := .main, cells := 0, stored := 128, ce := false, launch := none, late := false, loc := .vat }
  { s with buffers := { s.buffers with bufs := [((1, 7), some { frame := 5, owner := 0, refs := 1, retired := false })] },
           egress := { s.egress with queues := [((0, 2), { entries := [e], spilling := true, vatTail := 128, vatHead := 0 })] } }

/-- The same frame with its Vat write complete, its copy alone. -/
def sVatOnly : State := { sVat with frames := [((5, 0), { bytes := fr 0x0800 (zeros 80), whole := true, stage := .released, copies := 1 })] }

/-- Meets premises of SoftErrorsOfBuffersAndRecords. -/
theorem wit_bufEcc :
    (sVat.frame? 5).isSome = true ∧ (vatStarts (sVat.queue 0 2).vatHead (sVat.queue 0 2).entries)[0]?.isSome = true ∧ 0 < (sVat.queue 0 2).segs ∧ (sVat.fset .POOL_STATUS_buffers 1 100).fget .POOL_STATUS_buffers 1 = 100 ∧ ((sVat.buf (1, 7)).map (fun v => v.retired)).getD false = false := by
  decide

/-- Bank 0 runs, with a miss entry in its Cellar lookup, and record 3 in the Cellar. -/
def sMiss : State :=
  let s := st (on [32, 112, 136, 137, 138, 139])
  { s with
    now := 500
    skim := { s.skim with misses := [((0, 4), some { key := zeros 48, stage := .lookup, opened := 100, waiting := [], buffer := none, search := none })] }
    cellar := { s.cellar with recs := [((3, 0), some { words := List.replicate 16 0, loc := .slot 1 2 })] } }

/-- The same record in way 0 of set 9 of bank 0, dirty or not, and another in the bank's write-back queue. -/
def sWay (d : Bool) : State :=
  { sMiss with skim := { sMiss.skim with ways := [((9, 0), some { recNo := 3, words := List.replicate 16 1, dirty := d, used := 0 })],
                                         wb := [((0, 0), [⟨8, List.replicate 16 2⟩])] } }

/-- The rebuild of bucket 6 has its context. -/
def sRebuild : State :=
  let t := taskOf (.rebuild 6) none none none [] 0 0 0 0 0 0 true
  { sMiss with cellar := { sMiss.cellar with poisoned := [6, 7] },
               churn := { sMiss.churn with tasks := [((0, 0), some { t with pos := .running ⟨0, 0, 0⟩ })], nextTask := 1 } }

/-- Meets premises of SoftErrorsOfBuffersAndRecords. -/
theorem wit_cellarLookup :
    sMiss.miss (0, 4) = some { key := zeros 48, stage := .lookup, opened := 100, waiting := [], buffer := none, search := none } ∧ keyPoisoned sMiss (zeros 48) = false ∧ (cellarLookup sMiss (zeros 48)).1 = none := by
  decide +kernel

/-- Meets premises of SoftErrorsOfBuffersAndRecords. -/
theorem wit_hbmEcc :
    sMiss.cellar.poisoned.contains 6 = false ∧ ((runningTask sRebuild (.rebuild 6)).map (fun e => e.1)) = some 0 ∧ (sMiss.record 3).isSome = true ∧ findWay sMiss 3 = none ∧ findBuffer sMiss 3 = none ∧ findWb sMiss 3 = none ∧ (findWay (sWay true) 3).isSome = true ∧ tget none (sWay false).skim.ways (0 * 8192 + 9, 0) = some { recNo := 3, words := List.replicate 16 1, dirty := false, used := 0 } ∧ (wbQueue (sWay true) 0)[0]? = some ⟨8, List.replicate 16 2⟩ := by
  decide

/-! ### Egress and the Vat (R199 to R223) -/

/-- A copy of frame 5. -/
def cp (l : Loc) (n : Option Nat) : Copy :=
  { frame := 5, kind := .main, cells := 1, stored := 128, ce := false, launch := n, late := false, loc := l }

/-- Frame 5 at the head of class 2 of port 0. -/
def sQ (e : Copy) (v : Queue := {}) : State :=
  let s := withFrame { bytes := fr 0x0800 (zeros 80), whole := true, stage := .released, copies := 1 }
  { s with egress := { s.egress with queues := [((0, 2), { v with entries := [e] })] }, time := { s.time with dt := 100000000 * 2 ^ 40 } }

/-- The class timed, the launch instant there. -/
def sDue : State := (sQ (cp .onDie (some 100000000))).fset .SCHED_Q_timed 2 1

/-- Frame 5 in transmission. -/
def sTx (w b : Bool) : State :=
  let s := withFrame { bytes := fr 0x0800 (zeros 80), whole := w, stage := .released, copies := 1 }
  { s with egress := { s.egress with tx := [((0, 0), some { copy := cp .onDie none, cls := 2, start := 0, stamp := 0, ptp := 0, stomp := b, nh := none })] } }

/-- Meets premises of DueLaunchesThenPriority. -/
theorem wit_dueLaunch :
    portReady sDue 0 = true ∧ (firstDue (dueHeads (lateAll sDue 0) 0)).map (fun x => x.2) = some 2 ∧ headOf (lateAll sDue 0) 0 2 = some (cp .onDie (some 100000000)) := by
  decide

/-- Meets premises of DueLaunchesThenPriority. -/
theorem wit_dwrr :
    portReady (sQ (cp .onDie none)) 0 = true ∧ (serveDue (lateAll (sQ (cp .onDie none)) 0) 0).isNone = true ∧ sendable (sQ (cp .onDie none)) 0 2 = true ∧ (serveDwrr (sQ (cp .onDie none)) 0).isSome = true ∧ (∀ c ∈ List.range 16, sendable sUp 0 c = false) := by
  decide

/-- Meets premises of TransmittedFramesAreCounted. -/
theorem wit_txEnd :
    (tget none (sTx true false).egress.tx (0, 0)).isSome = true ∧ ((sTx true false).frame 5).whole = true ∧ ((sTx false false).frame 5).whole = false ∧ (true || ((sTx true true).frame 5).errored) = true := by
  decide

/-- A gate list of port 0 whose entry has run, a PFC frame owed, and priority 3 paused with its refresh due. -/
def sGate : State :=
  { sUp with
    egress := { sUp.egress with gates := [((0, 0), { entries := [5, 6], pos := 0, endsAt := some 0, mask := 5 })] }
    buffers := { sUp.buffers with owed := [((0, 0), [(50, 8, 0), (60, 0, 8)])], paused := [((0, 3), true)], refresh := [((0, 3), 70)] } }

/-- Meets premises of GatesAndPfcFollowTheirTimers. -/
theorem wit_gatesPfc :
    (tget {} sGate.egress.gates (0, 0)).endsAt = some 0 ∧ 0 ≤ sGate.devNs ∧ tget [] sGate.buffers.owed (0, 0) = [(50, 8, 0), (60, 0, 8)] ∧ portClear sGate 0 = true ∧ tget none sGate.egress.tx (0, 0) = none ∧ tget false sGate.buffers.paused (0, 3) = true ∧ tget 0 sGate.buffers.refresh (0, 3) = 70 ∧ 70 ≤ sGate.now := by
  decide

/-- Meets premises of VatKeepsQueueOrder. -/
theorem wit_vat :
    ((sQ (cp .vatWait none) { spilling := true }).queue 0 2).entries.find? (fun x => x.loc == .vatWait) = some (cp .vatWait none) ∧ ((sQ (cp .vatWait none)).frame 5).whole = true ∧ ((sQ (cp .vat none) { spilling := true }).queue 0 2).entries.find? (fun x => x.loc == .vatWait || x.loc == .vat) = some (cp .vat none) ∧ raWants (sQ (cp .vat none) { spilling := true }) 0 2 = true ∧ raUsed (sQ (cp .vat none) { spilling := true }) (0 / 8) + ((cp .vat none).stored - 16) ≤ 131072 ∧ ((sQ (cp .vat none) { spilling := true }).queue 0 2).entries.filter (fun x => x.loc == .reading || x.loc == .readAhead) = [] ∧ ((sQ (cp .reading none) { spilling := true }).queue 0 2).entries.find? (fun x => x.loc == .reading) = some (cp .reading none) := by
  decide

/-! ### Searches and the Skim (R86 to R135) -/

/-- An entry of width mode 0 that matches every key, in both parities. -/
def ent (p a : Nat) : StrEntry :=
  { width := 0, data := 0, care := 0, shadowData := 0, shadowCare := 0, prio := p, epoch := 3, action := a, poisoned := false }

/-- A search queued at bank 0, or issued over two entries. -/
def sSearch (g : MissStage) (v : Tab (Option StrEntry)) : State :=
  let s := st (on [32, 48, 112, 128, 129, 130, 131, 132, 133, 134, 135])
  { s with
    frames := [((5, 0), { bytes := fr 0x0800 (zeros 80), whole := true, stage := .waiting, place := some 0, key := zeros 48 })], nextFrame := 6,
    strainer := v
    skim := { s.skim with
      searches := [((0, 0), [4])]
      misses := [((0, 4), some { key := zeros 48, stage := g, opened := 100, waiting := [.frame 5], buffer := none,
                                 search := some { frame := 5, prof := 0, width0 := 0, width1 := 0, two := false, dflt := 0, parity := 0, key0 := 0, key1 := 0, view := v } })] } }

/-- Meets premises of ProbesAndSearchesDecide. -/
theorem wit_probeBest :
    trising [((3, 0), some (ent 1 0)), ((9, 0), some (ent 2 0))] = true ∧ (probeBest [((3, 0), some (ent 1 0)), ((9, 0), some (ent 2 0))] 0 0 7 none) = some (9, ent 2 0) ∧ probeBest [((3, 0), some (ent 1 0))] 1 0 7 none = none ∧ probeBest [((3, 0), some (ent 1 0)), ((9, 0), some (ent 1 0))] 0 0 7 none = some (3, ent 1 0) := by
  decide

/-- Meets premises of ProbesAndSearchesDecide. -/
theorem wit_search :
    tget [] (sSearch .queued []).skim.searches (0, 0) = [4] ∧ (((sSearch .queued []).miss (0, 4)).bind (fun m => m.search)).isSome = true ∧ (((sSearch .queued []).miss (0, 4)).bind (fun m => m.search)).map (fun v => (widthReady (sSearch .queued []) v.width0, v.two)) = some (true, false) ∧ rowPoisoned [((3, 0), some (ent 1 4))] 3 = false ∧ ((sSearch (.searching 9) []).miss (0, 4)).map (fun m => m.stage) = some (.searching 9) := by
  decide

/-- The row of the key of 48 zeros. -/
def lookRow : Nat := skimRow ((hashesOf State.reset (zeros 48)).headD 0)

/-- Its bank. -/
def lookBank : Nat := lookRow / 8192

/-- One lookup of frame 5 waits at bank `skimBank`; the Skim as given. -/
def sLook (f : Skim → Skim) : State :=
  let s := st (on ([32] ++ (List.range 16).map (fun b => 112 + b)))
  let s := { s with frames := [((5, 0), { bytes := fr 0x0800 (zeros 80), whole := true, stage := .waiting, place := some 0, key := zeros 48,
                                          hash := (hashesOf s (zeros 48)).headD 0 })], nextFrame := 6 }
  { s with skim := f { s.skim with requests := [((0, lookBank), [⟨.frame 5, false⟩])] } }

/-- A way that holds the key. -/
def lookHit : State := sLook fun k => { k with ways := [((lookRow, 0), some { recNo := 3, words := List.replicate 16 0, dirty := false, used := 0 })] }

/-- A miss of the key is open. -/
def lookJoin : State := sLook fun k =>
  { k with misses := [((lookBank, 4), some { key := zeros 48, stage := .lookup, opened := 0, waiting := [], buffer := none, search := none })] }

/-- A miss of another key. -/
def otherMiss : Miss := { key := [1], stage := .lookup, opened := 0, waiting := [], buffer := none, search := none }

/-- Every miss entry of the bank is taken by other keys. -/
def lookFull : State := sLook fun k => { k with misses := (List.range 512).map (fun i => ((lookBank, i), some otherMiss)) }

/-- Meets premises of SkimLookupOutcomes. -/
theorem wit_skimLookup :
    requestQueue (sLook id) 0 lookBank = [⟨.frame 5, false⟩] ∧ bankOpen (sLook id) lookBank = true ∧ keyPoisoned (sLook id) (waiterKey (sLook id) (.frame 5)) = false ∧ (findHit lookHit (waiterKey lookHit (.frame 5))).isSome = true ∧ findHit lookJoin (waiterKey lookJoin (.frame 5)) = none ∧ (findMiss lookJoin (waiterKey lookJoin (.frame 5))).isSome = true ∧ waitersUsed lookJoin lookBank < 4096 ∧ findHit (sLook id) (waiterKey (sLook id) (.frame 5)) = none ∧ findMiss (sLook id) (waiterKey (sLook id) (.frame 5)) = none ∧ freeMiss (sLook id) lookBank = some 0 := by
  decide +kernel

/-- A table with an entry at each number of a list reads it there. -/
theorem tget_run {α : Type} (b : Nat) (v : α) (l : List Nat) (i : Nat) (h : i ∈ l) :
    tget none (l.map (fun i => ((b, i), some v))) (b, i) = some v := by
  induction l with
  | nil => cases h
  | cons x l ih =>
    simp only [List.map_cons, tget]
    split
    · rfl
    · next e => exact ih ((List.mem_cons.1 h).resolve_left (fun c => e (by rw [c])))

/-- What misses a test state has. -/
theorem sLook_misses (m : Tab (Option Miss)) : (sLook (fun k => { k with misses := m })).skim.misses = m := rfl

/-- No miss entry of the bank is free. -/
theorem lookFull_full : freeMiss lookFull lookBank = none := by
  refine List.find?_eq_none.2 (fun i hi => ?_)
  have e : lookFull.skim.misses = (List.range 512).map (fun i => ((lookBank, i), some otherMiss)) := sLook_misses _
  have h : lookFull.miss (lookBank, i) = some otherMiss := by
    unfold State.miss
    rw [e]
    exact tget_run lookBank otherMiss _ i hi
  simp [h]

/-- Meets premises of SkimLookupOutcomes. -/
theorem wit_skimFull : findMiss lookFull (waiterKey lookFull (.frame 5)) = none ∧ freeMiss lookFull lookBank = none ∧
    (⟨.frame 5, false⟩ : Request).counted = false :=
  ⟨by decide +kernel, lookFull_full, rfl⟩

/-- Record 3 waits to be written back, and a hint of it to be rewritten. -/
def sWb : State :=
  { sWay true with skim := { (sWay true).skim with wb := [((0, 0), [⟨3, List.replicate 16 2⟩])], ways := [] }
                   cellar := { (sWay true).cellar with hints := [⟨3, 0x5A, 0⟩] }, now := 10000 }

/-- Record 3 in a miss entry of bank 0 whose set has no way free. -/
def sByp (g : MissStage) (d : Bool) : State :=
  let w (i : Nat) : Option Way := some { recNo := 100 + i, words := List.replicate 16 (i + 7), dirty := true, used := 0 }
  let row := lookRow
  let s := { sMiss with now := 1000000 }
  { s with skim := { s.skim with
      wb := [((0, 0), List.replicate 255 ⟨9, List.replicate 16 0⟩)]
      ways := (List.range 8).map (fun i => ((row, i), w i))
      misses := [((0, 4), some { key := zeros 48, stage := g, opened := 100, waiting := [], buffer := some (3, List.replicate 16 0, d), search := none })] } }

/-- A task of kind packet for frame 5 in context 0 of engine 0 of cluster 0, its microword at address 10. -/
def tk (c : Ctx) (lvl : Nat := 1) : Task :=
  { kind := .packet, frame := some 5, cmd := none, recNo := none, key := zeros 48, domain := 0, place := 0, level := lvl, opcode := 0, parity := 0,
    tenant := 0, pos := .running ⟨0, 0, 0⟩, nonspec := false, squashes := 0, committed := false, resumes := false, saved := none, ctx := c }

/-- The tasks that hold its ways. -/
def holders : Tab (Option Task) :=
  (List.range 8).map (fun i => ((i, 0), some { tk {} with frame := none, recNo := some (100 + i), key := [], pos := .running ⟨0, 0, i⟩, dispatched := true }))

/-- The same with every way of the set in use by a task. -/
def sHeldWays (g : MissStage) (d : Bool) : State := { sByp g d with churn := { (sByp g d).churn with tasks := holders } }

/-- Meets premises of WriteBackBypassAndHints. -/
theorem wit_writeback :
    wbQueue sWb 0 = [⟨3, List.replicate 16 2⟩] ∧ (sWb.record 3).isSome = true ∧ sWb.cellar.hints = [⟨3, 0x5A, 0⟩] ∧ (sWb.record 3).map (fun r => r.loc) = some (.slot 1 2) ∧ 0 + 10000 ≤ sWb.now := by
  decide

/-- Meets premises of WriteBackBypassAndHints. -/
theorem wit_bypass :
    ((sHeldWays (.fill 0) true).miss (0, 4)).map (fun m => m.stage) = some (.fill 0) ∧ 0 ≤ (sHeldWays (.fill 0) true).now ∧ (((sHeldWays (.fill 0) true).miss (0, 4)).bind (tryFill (sHeldWays (.fill 0) true) (0, 4))).isNone = true ∧ inTask (sHeldWays .bypass true) 3 = false ∧ (((sHeldWays .bypass true).miss (0, 4)).bind (tryFill (sHeldWays .bypass true) (0, 4))).isNone = true ∧ (wbQueue (sHeldWays .bypass true) 0).length < 256 := by
  decide +kernel

/-- The walkers at a position. -/
def sWalk (p : Nat) : State :=
  let s := st (on [112, 136, 137, 138, 139, 159] ++ [(.STR_CTL_purge_running, 0, 1), (.WHEY_STATUS_periodic_running, 0, 1), (.AGE_CTL_sweep_running, 0, 1),
    (.CELLAR_REKEY_rekey_running, 0, 1)])
  { s with cellar := { s.cellar with sweepAt := some p, purgeAt := some p, periodicAt := some p, migrateAt := some p, kNew := some (1, 2) } }

/-- The same past the last position, with a sweep pending. -/
def sWalkEnd : State := (sWalk walkEnd).fset .AGE_CTL_sweep_pending 0 1

/-- A walker's visit of record 3 has its context; the record is due for the purge and for a periodic record. -/
def sVisit (w : Walker) : State :=
  let t := taskOf (.visit w) none none (some 3) [] 0 0 3 0 0 0 true
  let s := sWalk 5
  { s with
    cellar := { s.cellar with recs := [((3, 0), some { words := ((List.replicate 16 0).set 6 (2 ^ 22)).set 7 (2 ^ 58), loc := .slot 1 2 })] }
    churn := { s.churn with tasks := [((0, 0), some { t with pos := .running ⟨0, 0, 0⟩ })], nextTask := 1 }, nextPlace := 1 }

/-- Meets premises of WalkersVisitEveryPosition. -/
theorem wit_visits :
    ((runningTask (sVisit .sweep) (.visit .sweep)).bind (fun e => e.2.recNo)) = some 3 ∧ ((runningTask (sVisit .purge) (.visit .purge)).bind (fun e => e.2.recNo)) = some 3 ∧ ((runningTask (sVisit .periodic) (.visit .periodic)).bind (fun e => e.2.recNo)) = some 3 ∧ ((authCopy (sVisit .periodic) 3).map recReportPeriodic) = some true ∧ (sVisit .periodic).whey.length < 32768 := by
  decide

/-- Meets premises of WalkersVisitEveryPosition. -/
theorem wit_walkers :
    runningTask (sWalk 5) (.visit .sweep) = none ∧ visitsOpen (sWalk 5) .sweep = false ∧ runningTask (sWalk walkEnd) (.visit .purge) = none ∧ visitsOpen (sWalk walkEnd) .migrate = false ∧ unmoved (sWalk 5) 5 = [] ∧ (sWalk 5).whey.length < 32768 ∧ walkEnd ≤ walkEnd ∧ sWalkEnd.fbit .AGE_CTL_sweep_pending 0 = true ∧ (sWalk walkEnd).fbit .AGE_CTL_sweep_pending 0 = false ∧ (sWalk walkEnd).cellar.kNew = some (1, 2) := by
  decide

/-! ### Churn (R144 to R168) -/

/-- A microword with a sequencing op and a target, its condition and its nanoword 0. -/
def mw (seq tgt : Nat) (cond : Nat := 0) : Nat := seq * 2 ^ 27 + tgt * 2 ^ 2 + cond

/-- A task at a microword, its frame waiting. -/
def sCh (w : Nat) (t : Task) : State :=
  let s := st (up0 ++ on ([32, 48, 112] ++ (List.range 16).map (fun i => 140 + i)))
  { s with
    frames := [((5, 0), { bytes := fr 0x0800 (zeros 80), whole := true, stage := .waiting, place := some 0, key := zeros 48 })], nextFrame := 6
    churn := { s.churn with tasks := [((0, 0), some t)], nextTask := 1, bank0 := { s.churn.bank0 with micro := [((10, 0), w)], disp := [((0, 0), 0x400A)] } } }

/-- A context at address 10. -/
def cx (st : List Nat := []) (y : Bool := false) : Ctx := { pc := 10, windowReady := true, stack := st, issues := 3, mayYield := y }

/-- The premises that every plain slot shares, with a decidable part of SlotPlain. -/
def plainAt (s : State) (t : Task) (seq : Nat) : Bool :=
  (taskAt s ⟨0, 0, 0⟩ == some (0, t)) && t.pos == .running ⟨0, 0, 0⟩ && !t.kind.fixed && s.runs (pdCluster 0) && t.ctx.take.isNone &&
    decide (t.ctx.issues < 4096) && seqOf (microAt s t.parity t.ctx.pc) == seq

/-- A slot of the empty nanoword with its window there and nothing marked is plain. -/
theorem plain_of (s : State) (t : Task) (hn : nanoAt s t.parity (bits (microAt s t.parity t.ctx.pc) 16 11) = nanoOf 0)
    (h1 : isFaulty s ⟨0, 0, t.parity, t.ctx.pc⟩ = false)
    (h2 : isFaulty s ⟨0, 1, t.parity, bits (microAt s t.parity t.ctx.pc) 16 11⟩ = false) (hw : t.ctx.windowReady = true)
    (hm : t.ctx.m = 0) : SlotPlain s ⟨0, 0, 0⟩ t := by
  have hx : (nanoOf 0).fxOp = 0 := by decide
  have he : (nanoOf 0).edKind = 0 := by decide
  unfold SlotPlain
  dsimp only
  rw [hn]
  refine ⟨h1, h2, by decide, Or.inl hw, by decide, by simp [hm], fun v => ?_, fun p v _ => ?_⟩
  · exact ⟨t.ctx.posted, by simp [postFx, hx]⟩
  · exact ⟨p, by unfold postEdit; rw [he]; cases t.frame.bind (fun i => s.frame? i) <;> simp⟩

theorem slot_next : SlotPlain (sCh (mw 0 0 0) (tk (cx) 1)) ⟨0, 0, 0⟩ (tk (cx) 1) :=
  plain_of _ _ (by decide) (by decide) (by decide) rfl rfl

theorem slot_jump : SlotPlain (sCh (mw 1 500 0) (tk (cx) 1)) ⟨0, 0, 0⟩ (tk (cx) 1) :=
  plain_of _ _ (by decide) (by decide) (by decide) rfl rfl

theorem slot_branch : SlotPlain (sCh (mw 2 500 1) (tk (cx) 1)) ⟨0, 0, 0⟩ (tk (cx) 1) :=
  plain_of _ _ (by decide) (by decide) (by decide) rfl rfl

theorem slot_branchn : SlotPlain (sCh (mw 3 500 3) (tk (cx) 1)) ⟨0, 0, 0⟩ (tk (cx) 1) :=
  plain_of _ _ (by decide) (by decide) (by decide) rfl rfl

theorem slot_call : SlotPlain (sCh (mw 4 500 0) (tk (cx [7]) 1)) ⟨0, 0, 0⟩ (tk (cx [7]) 1) :=
  plain_of _ _ (by decide) (by decide) (by decide) rfl rfl

theorem slot_ret : SlotPlain (sCh (mw 5 0 0) (tk (cx [7, 8]) 1)) ⟨0, 0, 0⟩ (tk (cx [7, 8]) 1) :=
  plain_of _ _ (by decide) (by decide) (by decide) rfl rfl

theorem slot_dispatch : SlotPlain (sCh (mw 6 500 0) (tk (cx) 1)) ⟨0, 0, 0⟩ (tk (cx) 1) :=
  plain_of _ _ (by decide) (by decide) (by decide) rfl rfl

theorem slot_wait : SlotPlain (sCh (mw 7 0 0) (tk (cx) 1)) ⟨0, 0, 0⟩ (tk (cx) 1) :=
  plain_of _ _ (by decide) (by decide) (by decide) rfl rfl

theorem slot_yield : SlotPlain (sCh (mw 9 0 0) (tk (cx) 1)) ⟨0, 0, 0⟩ (tk (cx) 1) :=
  plain_of _ _ (by decide) (by decide) (by decide) rfl rfl

theorem slot_checkpoint : SlotPlain (sCh (mw 8 0 0) (tk (cx) 1)) ⟨0, 0, 0⟩ (tk (cx) 1) :=
  plain_of _ _ (by decide) (by decide) (by decide) rfl rfl

theorem slot_commit : SlotPlain (sCh (mw 10 0 0) (tk (cx) 1)) ⟨0, 0, 0⟩ (tk (cx) 1) :=
  plain_of _ _ (by decide) (by decide) (by decide) rfl rfl

theorem slot_end : SlotPlain (sCh (mw 12 0 0) (tk (cx) 1)) ⟨0, 0, 0⟩ (tk (cx) 1) :=
  plain_of _ _ (by decide) (by decide) (by decide) rfl rfl

theorem slot_abort : SlotPlain (sCh (mw 11 34 0) (tk (cx) 1)) ⟨0, 0, 0⟩ (tk (cx) 1) :=
  plain_of _ _ (by decide) (by decide) (by decide) rfl rfl

/-- Meets premises of PlainSlotsSequence. -/
theorem wit_op_next :
    plainAt (sCh (mw 0 0 0) (tk (cx) 1)) (tk (cx) 1) 0 = true ∧ nanoAt (sCh (mw 0 0 0) (tk (cx) 1)) 0 0 = nanoOf 0 := by
  decide

/-- Meets premises of PlainSlotsSequence. -/
theorem wit_op_jump :
    plainAt (sCh (mw 1 500 0) (tk (cx) 1)) (tk (cx) 1) 1 = true ∧ nanoAt (sCh (mw 1 500 0) (tk (cx) 1)) 0 0 = nanoOf 0 := by
  decide

/-- Meets premises of PlainSlotsSequence. -/
theorem wit_op_branch :
    plainAt (sCh (mw 2 500 1) (tk (cx) 1)) (tk (cx) 1) 2 = true ∧ nanoAt (sCh (mw 2 500 1) (tk (cx) 1)) 0 0 = nanoOf 0 := by
  decide

/-- Meets premises of PlainSlotsSequence. -/
theorem wit_op_branchn :
    plainAt (sCh (mw 3 500 3) (tk (cx) 1)) (tk (cx) 1) 3 = true ∧ nanoAt (sCh (mw 3 500 3) (tk (cx) 1)) 0 0 = nanoOf 0 := by
  decide

/-- Meets premises of PlainSlotsSequence. -/
theorem wit_op_call :
    plainAt (sCh (mw 4 500 0) (tk (cx [7]) 1)) (tk (cx [7]) 1) 4 = true ∧ nanoAt (sCh (mw 4 500 0) (tk (cx [7]) 1)) 0 0 = nanoOf 0 := by
  decide

/-- Meets premises of PlainSlotsSequence. -/
theorem wit_op_ret :
    plainAt (sCh (mw 5 0 0) (tk (cx [7, 8]) 1)) (tk (cx [7, 8]) 1) 5 = true ∧ nanoAt (sCh (mw 5 0 0) (tk (cx [7, 8]) 1)) 0 0 = nanoOf 0 := by
  decide

/-- Meets premises of PlainSlotsSequence. -/
theorem wit_op_dispatch :
    plainAt (sCh (mw 6 500 0) (tk (cx) 1)) (tk (cx) 1) 6 = true ∧ nanoAt (sCh (mw 6 500 0) (tk (cx) 1)) 0 0 = nanoOf 0 := by
  decide

/-- Meets premises of PlainSlotsSequence. -/
theorem wit_op_wait :
    plainAt (sCh (mw 7 0 0) (tk (cx) 1)) (tk (cx) 1) 7 = true ∧ nanoAt (sCh (mw 7 0 0) (tk (cx) 1)) 0 0 = nanoOf 0 := by
  decide

/-- Meets premises of PlainSlotsSequence. -/
theorem wit_op_yield :
    plainAt (sCh (mw 9 0 0) (tk (cx) 1)) (tk (cx) 1) 9 = true ∧ nanoAt (sCh (mw 9 0 0) (tk (cx) 1)) 0 0 = nanoOf 0 := by
  decide

/-- Meets premises of CommitsCheckpointsAndAborts. -/
theorem wit_op_checkpoint :
    plainAt (sCh (mw 8 0 0) (tk (cx) 1)) (tk (cx) 1) 8 = true ∧ nanoAt (sCh (mw 8 0 0) (tk (cx) 1)) 0 0 = nanoOf 0 ∧ predsDone (sCh (mw 8 0 0) (tk (cx) 1)) 0 (tk (cx) 1) = true := by
  decide

/-- Meets premises of CommitsCheckpointsAndAborts. -/
theorem wit_op_commit :
    plainAt (sCh (mw 10 0 0) (tk (cx) 1)) (tk (cx) 1) 10 = true ∧ nanoAt (sCh (mw 10 0 0) (tk (cx) 1)) 0 0 = nanoOf 0 ∧ predsDone (sCh (mw 10 0 0) (tk (cx) 1)) 0 (tk (cx) 1) = true := by
  decide

/-- Meets premises of CommitsCheckpointsAndAborts. -/
theorem wit_op_end :
    plainAt (sCh (mw 12 0 0) (tk (cx) 1)) (tk (cx) 1) 12 = true ∧ nanoAt (sCh (mw 12 0 0) (tk (cx) 1)) 0 0 = nanoOf 0 ∧ predsDone (sCh (mw 12 0 0) (tk (cx) 1)) 0 (tk (cx) 1) = true := by
  decide

/-- Meets premises of CommitsCheckpointsAndAborts. -/
theorem wit_op_abort :
    plainAt (sCh (mw 11 34 0) (tk (cx) 1)) (tk (cx) 1) 11 = true ∧ nanoAt (sCh (mw 11 34 0) (tk (cx) 1)) 0 0 = nanoOf 0 ∧ reasonOk (0x22 % 256) = true := by
  decide

/-- A level-3 task that may yield and is asked to. -/
def sYield : State :=
  let s := sCh (mw 9 0) (tk (cx [] true) 3)
  { s with churn := { s.churn with preempt := true } }

/-- A committed task at COMMIT. -/
def sPast : State := sCh (mw 10 0) { tk cx with committed := true }

/-- Meets premises of CommitsCheckpointsAndAborts. -/
theorem wit_yieldLeaves :
    taskAt sYield ⟨0, 0, 0⟩ = some (0, tk (cx [] true) 3) ∧ sYield.churn.preempt = true ∧ seqOf (microAt sYield 0 10) = 9 ∧ taskAt sPast ⟨0, 0, 0⟩ = some (0, { tk cx with committed := true }) := by
  decide

/-- A task past its issue limit, one at a NAT take with its answer at hand, one with none. -/
def sLim : State := sCh 0 (tk { cx with issues := 4096 })
def sTake (p : Option Nat) : State := (sCh 0 (tk { cx with take := some ⟨2, p, false⟩ })).fset .NAT_POOL_tag 2 5

/-- Meets premises of RoutineLimitsWindowsAndPorts. -/
theorem wit_limits :
    taskAt sLim ⟨0, 0, 0⟩ = some (0, tk { cx with issues := 4096 }) ∧ 4096 ≤ (tk { cx with issues := 4096 }).ctx.issues ∧ taskAt (sTake (some 1025)) ⟨0, 0, 0⟩ = some (0, tk { cx with take := some ⟨2, some 1025, false⟩ }) ∧ taskAt (sTake none) ⟨0, 0, 0⟩ = some (0, tk { cx with take := some ⟨2, none, false⟩ }) := by
  decide

/-- A ready task. -/
def sReady : State := sCh 0 { tk cx with pos := .ready 0 }

/-- A task that waits in its context, or in the commit buffer. -/
def sWait (p : TaskAt) : State := sCh 0 { tk cx with pos := p }

/-- A teardown whose routine has committed, of record 3. -/
def sTorn : State :=
  let s := sCh 0 { tk cx with pos := .torn, kind := .teardown 1, recNo := some 3, frame := none }
  { s with cellar := { s.cellar with recs := [((3, 0), some { words := List.replicate 16 0, loc := .slot 1 2 })], slots := [((1, 2), 3)] } }

/-- A faulty store word. -/
def sFaulty : State := { sReady with churn := { sReady.churn with faulty := [(⟨0, 1, 0, 7⟩, [0]), (⟨2, 0, 1, 9⟩, [])] } }

/-- Meets premises of DispatchOrder. -/
theorem wit_dispatch :
    readyHead sReady = some (0, { tk cx with pos := .ready 0 }) ∧ chooseCtx sReady (busyCtxs sReady) [] 1 = some ⟨0, 0, 0⟩ ∧ readyHead sLim = none ∧ argMax (fun x => [3, 5, 5].getD x 0) 3 = some 1 := by
  decide +kernel

/-- Meets premises of WaitingCommitsAndTeardownsComplete. -/
theorem wit_waitingCommits :
    (sWait (.waiting ⟨0, 0, 0⟩ 8)).task? 0 = some { tk cx with pos := .waiting ⟨0, 0, 0⟩ 8 } ∧ predsDone (sWait (.waiting ⟨0, 0, 0⟩ 8)) 0 { tk cx with pos := .waiting ⟨0, 0, 0⟩ 8 } = true ∧ (sWait (.buffered 0 0x0C)).task? 0 = some { tk cx with pos := .buffered 0 0x0C } ∧ (sTorn.task? 0).map (fun x => (x.kind, x.pos, x.recNo)) = some (.teardown 1, .torn, some 3) ∧ (taskAt sLim ⟨0, 0, 0⟩).isSome = true := by
  decide

/-! ### Host commands (R83, R121, R184 to R187, R258 to R267) -/

/-- Every ring of set 0 runs with 64 entries. -/
def rings0 : List (Fld × Nat × Nat) :=
  (.SET_CTL_set_en, 0, 1) :: (List.range 8).flatMap (fun k =>
    [(.RING_CTL_en, k, 1), (.RING_CTL_log2_size, k, 6), (.RING_BASE_addr, k, 4096 * (k + 1))])

/-- The host side of such a state. -/
def hostUp (s : State) : State := { s with host := { s.host with busMaster := [((0, 0), true)], linkUp := true } }

/-- A state of everything on, with the rings of set 0 running. -/
def sHost (l : List (Fld × Nat × Nat) := []) : State :=
  { hostUp (st (up0 ++ on ([32, 48, 112] ++ (List.range 32).map (fun i => 128 + i)) ++ rings0 ++ l)) with now := 100000000 }

/-- A CMD descriptor's work, index 9. -/
def wk (desc : Nat) (data : List Byte := []) (g : WorkStage := .fetched) (lost : Bool := false) : Work :=
  { set := 0, ring := 0, index := 9, desc := desc, data := data, stage := g, lost := lost, hash := 0, place := 0 }

/-- It waits in the device. -/
def sCmd (w : Work) (l : List (Fld × Nat × Nat) := []) : State := let s := sHost l; { s with host := { s.host with work := [w] } }

/-- Meets premises of CompletionsAreWritten. -/
theorem wit_nop :
    cmdWork (sCmd (wk 0)) 0 9 0x00 .fetched = some (wk 0) ∧ (wk 0).lost = false ∧ bits (wk 0).desc 8 1 = 0 ∧ ringRuns (sCmd (wk 0)) 0 1 = true ∧ (sCmd (wk 0)).host.cpls = [] ∧ cmdWork (sCmd (wk 256)) 0 9 0x00 .fetched = some (wk 256) ∧ bits (wk 256).desc 8 1 = 1 ∧ cmdWork (sCmd (wk 0 [] .fetched true)) 0 9 0x00 .fetched = some (wk 0 [] .fetched true) := by
  decide

/-- Meets premises of FlowCommandsExecute. -/
theorem wit_flowHash :
    workOf (sCmd (wk 1)) 0 0 9 = some (wk 1) ∧ nextToHash (sCmd (wk 1)) (wk 1) = true ∧ updBad (wk (2 + 65536)) = true ∧ updBad (wk 2) = false ∧ nextToHash (sCmd (wk 2)) (wk 2) = true ∧ nextToHash (sCmd (wk (2 + 65536))) (wk (2 + 65536)) = true ∧ nextToHash (sCmd (wk 3)) (wk 3) = true ∧ nextToHash (sCmd (wk 4)) (wk 4) = true := by
  decide

/-- Meets premises of FlowCommandsExecute. -/
theorem wit_flowNotFound :
    workOf (sCmd (wk 3 [] .ready)) 0 0 9 = some (wk 3 [] .ready) ∧ ((taskList (sCmd (wk 3 [] .ready))).find? (fun e => e.2.cmd == some (0, 9) && e.2.kind == .command)) = none := by
  decide

/-- The task of a flow command on record 3, whose words are `i` in word i. -/
def cmdTask : Task :=
  { kind := .command, frame := none, cmd := some (0, 9), recNo := some 3, key := zeros 48, domain := 0, place := 0, level := 1, opcode := 0,
    parity := 0, tenant := 0, pos := .running ⟨0, 0, 0⟩, nonspec := true, squashes := 0, committed := false, resumes := false, saved := none, ctx := {} }

/-- Its state: the record is in a way. -/
def sRec (w : Work) : State :=
  let s := sCmd w
  { s with churn := { s.churn with tasks := [((0, 0), some cmdTask)], nextTask := 1 }
           cellar := { s.cellar with recs := [((3, 0), some { words := List.range 16, loc := .slot 1 2 })], slots := [((1, 2), 3)] }
           skim := { s.skim with ways := [((9, 0), some { recNo := 3, words := List.range 16, dirty := false, used := 0 })] } }

/-- A FLOW_INSERT at the front of its miss entry. -/
def sIns : State :=
  let s := sCmd (wk 1 (zeros 128) .missing)
  { s with skim := { s.skim with misses := [((0, 4), some { key := zeros 48, stage := .insert, opened := 0, waiting := [.cmd 0 9], buffer := none,
                                                            search := none })] } }

/-- Meets premises of FlowCommandsExecute. -/
theorem wit_flowRecord :
    ((taskList (sRec (wk 4 [] .ready))).find? (fun e => e.2.cmd == some (0, 9) && e.2.kind == .command)) = some (0, cmdTask) ∧ cmdTask.pos = .running ⟨0, 0, 0⟩ ∧ cmdTask.recNo = some 3 ∧ tenantHidden (sRec (wk 4 [] .ready)) 0 ((authCopy (sRec (wk 4 [] .ready)) 3).getD []) = false ∧ authCopy (sRec (wk 4 [] .ready)) 3 = some (List.range 16) := by
  decide

/-- Meets premises of FlowCommandsExecute. -/
theorem wit_flowInsertNew :
    workOf sIns 0 0 9 = some (wk 1 (zeros 128) .missing) ∧ (insertEntry sIns 0 9).map (fun x => x.1) = some (0, 4) ∧ (learnCheck sIns (insertTenant sIns (wk 1 (zeros 128) .missing)) (hNew sIns (cmdKey 1))).1 = 0 ∧ (learnCheck sIns (insertTenant sIns (wk 1 (zeros 128) .missing)) (hNew sIns (cmdKey 1))).2.isSome = true := by
  decide

/-- Meets premises of FlowCommandsExecute. -/
theorem wit_authCopy :
    (authCopy (sRec (wk 4)) 3).isSome = true ∧ authCopy (authWrite (sRec (wk 4)) 3 (List.replicate 16 7)) 3 = some (List.replicate 16 7) ∧ (authCopy sMiss 3).isSome = true ∧ authCopy (authWrite sMiss 3 [7]) 3 = some [7] ∧ authCopy (authWrite sWb 3 [7]) 3 = some [7] ∧ authCopy (authWrite (sByp .bypass false) 3 [7]) 3 = some [7] := by
  decide

/-- A STRAINER_WRITE of an entry of mode 0 at address 5. -/
def strW (data : List Byte) : Work := wk (0x10 + 5 * 2 ^ 16) data

/-- An image that cares for nothing, of priority 9 in both epochs, with action 0. -/
def img : List Byte := leBytes 64 (9 * 2 ^ 320 + 3 * 2 ^ 336)

/-- Set 0 locked to a tenant. -/
def locked : List (Fld × Nat × Nat) := [(.RSET_OWNER_tenant_lock, 0, 1)]

/-- Meets premises of StrainerCommandsWriteAndRead. -/
theorem wit_strainer :
    cmdWork (sCmd (strW img)) 0 9 0x10 .fetched = some (strW img) ∧ setLimited (sCmd (strW img)) 0 = false ∧ setLimited (sCmd (strW img) locked) 0 = true ∧ strMode (sCmd (strW img)) 5 = some 0 ∧ strWriteOk img 0 = true ∧ strWriteOk [] 0 = false ∧ cmdWork (sCmd (wk (0x11 + 5 * 2 ^ 16))) 0 9 0x11 .fetched = some (wk (0x11 + 5 * 2 ^ 16)) ∧ strMode (sCmd (wk 0x11) [(.STR_BLOCK_CFG_mode, 0, 3)]) 5 = none := by
  decide +kernel

/-- A publish that is ready, or not, or draining. -/
def pub (r d g : Nat) : List (Fld × Nat × Nat) :=
  [(.PUBLISH_STATUS_ready, 0, r), (.PUBLISH_STATUS_draining, 0, d), (.PUBLISH_STATUS_staging, 0, g)]

/-- A drain begun at 0 with a ready level-3 task of the old parity. -/
def sDrain : State :=
  let s := { sHost (pub 0 1 0) with now := 1000000000000 }
  { s with churn := { s.churn with drainFrom := some 0, tasks := [((0, 0), some { tk {} 3 with frame := none, pos := .ready 0, parity := 1 })], nextTask := 1 } }

/-- A bank being staged, mirrored or with an incoming bundle. -/
def sStage (b : Option Bundle) : State := let s := sHost (pub 0 0 1); { s with churn := { s.churn with incoming := b } }

/-- Meets premises of PublishesFlipAndDrain. -/
theorem wit_publish :
    cmdWork (sCmd (wk 0x18) (pub 1 0 0)) 0 9 0x18 .fetched = some (wk 0x18) ∧ setLimited (sCmd (wk 0x18) (pub 1 0 0)) 0 = false ∧ (sCmd (wk 0x18) (pub 1 0 0)).fbit .PUBLISH_STATUS_ready 0 = true ∧ (sCmd (wk 0x18) (pub 0 0 0)).fbit .PUBLISH_STATUS_ready 0 = false ∧ cmdWork (sCmd (wk (0x20 + 2 ^ 32))) 0 9 0x20 .fetched = some (wk (0x20 + 2 ^ 32)) ∧ sDrain.churn.drainFrom = some 0 ∧ 0 + 1000 * sDrain.fget .PUBLISH_CFG_drain_limit_us 0 ≤ sDrain.now ∧ (taskList sDrain).any (fun e => e.2.level == 3 && e.2.parity != parityNow sDrain && e.2.frame.isNone && e.2.pos == .ready 0) = true := by
  decide

/-- Meets premises of PublishesFlipAndDrain. -/
theorem wit_drainsAndBanks :
    (sHost (pub 0 1 0)).fbit .PUBLISH_STATUS_draining 0 = true ∧ drainCount (sHost (pub 0 1 0)) = 0 ∧ (sHost (pub 0 1 0)).images.activation = none ∧ (sStage none).fbit .PUBLISH_STATUS_staging 0 = true ∧ (sStage none).churn.incoming = none ∧ (sStage none).runs pdMgmt = true ∧ (sStage none).images.ticket = none ∧ (sStage (some ⟨[((1, 0), 2)], [], []⟩)).churn.incoming = some ⟨[((1, 0), 2)], [], []⟩ := by
  decide

/-! ### Whey, Tally, time (R268 to R311) -/

/-- A WHEY_ROUTE word with exporter 2. -/
def whr (ring ipfix : Nat) : Nat := regRaw (st [(.WHEY_ROUTE_ring_en, 0, ring), (.WHEY_ROUTE_ipfix_en, 0, ipfix), (.WHEY_ROUTE_exporter, 0, 2)]) .WHEY_ROUTE 0

/-- Records of types 1 and 2, the first with a route to set 0 and exporter 2. -/
def wheyRecs (ring ipfix : Nat) : List WheyRec := [⟨1, 77, 3, whr ring ipfix, 0, true⟩, ⟨2, 5, 0, 0, 0, false⟩]

/-- A record of type 1 at the head of the Whey queue, with its route. -/
def sWhey (ring ipfix : Nat) : State :=
  { sHost [(.WHEY_ROUTE_ring_en, 1, ring), (.WHEY_ROUTE_ipfix_en, 1, ipfix), (.WHEY_ROUTE_exporter, 1, 2), (.IPFIX_CFG_en, 2, 1), (.IPFIX_CFG_mtu, 2, 1500),
      (.IPFIX_CFG_template_refresh_s, 2, 1)]
    with whey := wheyRecs ring ipfix, now := 2000000000 }

/-- The same with ring 4 full, and with an open message in exporter 2. -/
def sWheyFull : State := (sWhey 1 0).setRing 0 4 { devIdx := 64, hostIdx := 0 }
def sMsg : State := (sWhey 0 0).setExporter 2 { recs := [(256, [1, 2])], since := 0 }

/-- Meets premises of WheyRecordsAreDelivered. -/
theorem wit_wheyDeliver :
    (sWhey 1 0).whey = wheyRecs 1 0 ∧ (sWhey 1 0).runs pdTelem = true ∧ fldIn (whr 1 0) .WHEY_ROUTE_ring_en = 1 ∧ fldIn (whr 1 0) .WHEY_ROUTE_ipfix_en = 0 ∧ fldIn (whr 0 1) .WHEY_ROUTE_ipfix_en = 1 ∧ fldIn (whr 0 1) .WHEY_ROUTE_exporter = 2 ∧ routeSet (sWhey 1 0) (fldIn (whr 1 0) .WHEY_ROUTE_set) (fldIn (whr 1 0) .WHEY_ROUTE_tenant_route == 1 && wheyTenanted 1) 3 = 0 ∧ ringRuns (sWhey 1 0) 0 4 = true ∧ ringFull (sWhey 1 0) 0 4 = false ∧ ringFull sWheyFull 0 4 = true ∧ packetLen (setsOf (((sWhey 0 1).exporter 2).recs ++ [dataRecord 0 77])).length ≤ (sWhey 0 1).fget .IPFIX_CFG_mtu 2 := by
  decide

/-- Meets premises of WheyRecordsAreDelivered. -/
theorem wit_ipfixTimers :
    (sMsg.exporter 2).recs ≠ [] ∧ (sMsg.exporter 2).since + 100000 ≤ sMsg.now ∧ sMsg.fbit .IPFIX_CFG_en 2 = true ∧ (sMsg.exporter 2).tmplAt + 1000000000 * sMsg.fget .IPFIX_CFG_template_refresh_s 2 ≤ sMsg.now := by
  decide

/-- A snapshot in write-out, with a request pending or not. -/
def sSnap (p : Nat) : State :=
  let s := sHost [(.TALLY_CTL_snap_busy, 0, 1), (.TALLY_CTL_snap_pending, 0, p), (.TALLY_CTL_snap_seq, 0, 65535)]
  { s with telem := { s.telem with snap := some { ctr := [], prog := [], seq := 65535, epoch := 4, ns := 77, cause := 1 } } }

/-- Meets premises of SnapshotsAreWrittenOut. -/
theorem wit_snapshot :
    (sSnap 0).telem.snap.isSome = true ∧ (sSnap 0).runs pdTelem = true ∧ (tallySets (sSnap 0)).any (fun x => ringWaits (sSnap 0) x 5) = false ∧ (sSnap 0).fbit .TALLY_CTL_snap_pending 0 = false ∧ (sSnap 1).fbit .TALLY_CTL_snap_pending 0 = true ∧ (tallySets (sSnap 1)).any (fun x => ringWaits (sSnap 1) x 5) = false ∧ progOk 32 0 8 = true ∧ progOk 32 0 7 = false := by
  decide

/-- Units 1 and 2 armed for ns 50: unit 1 once, unit 2 every 30. Unit 3 for later. -/
def sTrig : State :=
  let s := sHost [(.TRIG_CTL_arm, 1, 1), (.TRIG_CTL_arm, 2, 1), (.TRIG_CTL_arm, 3, 1), (.TRIG_PERIOD_period_ns, 2, 30), (.TRIG_CTL_pulse_ns, 1, 9)]
  { s with time := { s.time with dt := 60 * 2 ^ 40, trigNext := [((1, 0), some 50), ((2, 0), some 50), ((3, 0), some 90)], outEnd := [((2, 0), 55)] } }

/-- Meets premises of TriggersFireAtTheirInstants. -/
theorem wit_trigger :
    ((List.range 8).filter (fun u => [1, 2, 3].contains u && sTrig.fbit .TRIG_CTL_arm u && (match trigNext sTrig u with | some t => decide (t ≤ sTrig.devNs) | none => false))) = [1, 2] ∧ sTrig.runs pdTime = true ∧ ticketFires sTrig [1, 2] = false ∧ tget 0 sTrig.time.outEnd (2, 0) ≤ sTrig.devNs := by
  decide

/-- A re-epoch window that has run out, a slew with nothing left, an external reference, a PPS edge at 0. -/
def sTime : State :=
  let s := st (on [158] ++ [(.TIME_STATUS_reepoch_pending, 0, 1), (.TIME_STATUS_step_allowed, 0, 1), (.TIME_STATUS_slew_active, 0, 1), (.TIME_STATUS_ref_active, 0, 1),
    (.TIME_CFG_pps_en, 0, 1)])
  { s with now := 1100000000, time := { s.time with dt := 3000000007 * 2 ^ 40, epoch := 255, reepochEnd := some 5, ppsAt := some 0 } }

/-- Meets premises of TimeEventsAct. -/
theorem wit_timeEvents :
    sTime.time.reepochEnd = some 5 ∧ 5 ≤ sTime.now ∧ sTime.fbit .TIME_STATUS_slew_active 0 = true ∧ sTime.time.slew = 0 ∧ sTime.fbit .TIME_STATUS_ref_active 0 = true ∧ sTime.fbit .TIME_CFG_pps_en 0 = true ∧ sTime.runs pdTime = true ∧ sTime.time.ppsAt = some 0 ∧ 0 + 500000000 ≤ sTime.now ∧ ({ sTime with now := 499999999 } : State).now < 0 + 500000000 ∧ sTime.fbit .TIME_STATUS_step_pending 0 = false ∧ sTime.time.ppsMissed = false ∧ 0 + 1100000000 ≤ sTime.now := by
  decide

/-! ### Register writes (R8, R53, R256, R257, R357 to R373) -/

/-- Meets premises of RefusedWritesChangeNothing. -/
theorem wit_locked :
    writeLands sUp .POOL_CARVE 0 = true ∧ writeLocked (sUp.fset .SETUP_LOCK_lock 0 1) .POOL_CARVE 0 (wordVal (sUp.fset .SETUP_LOCK_lock 0 1) .POOL_CARVE 0 5) = true := by
  decide +kernel

/-- Meets premises of RefusedWritesChangeNothing. -/
theorem wit_refused :
    writeLands (sHost []) .RING_CTL 1 = true ∧ writeLocked (sHost []) .RING_CTL 1 (wordVal (sHost []) .RING_CTL 1 (setBits 7 5 1 1)) = false ∧ regRefused (sHost []) .RING_CTL 1 (wordVal (sHost []) .RING_CTL 1 (setBits 7 5 1 1)) (2 ^ 64 - 1) = true ∧ regErrBit .RING_CTL 1 = some (.SET_ERR_cfg_err, 0) := by
  decide +kernel

/-- Meets premises of AcceptedWritesReadBack. -/
theorem wit_okLayout : WriteOk (st []) .OCTET_LAYOUT 0 (wordVal (st []) .OCTET_LAYOUT 0 0) := ⟨by decide +kernel, by decide +kernel, by decide +kernel⟩

/-- Meets premises of AcceptedWritesReadBack. -/
theorem wit_okHold : WriteOk (sUp) .PORT_HOLD 0 (wordVal (sUp) .PORT_HOLD 0 5) := ⟨by decide +kernel, by decide +kernel, by decide +kernel⟩

/-- Meets premises of AcceptedWritesReadBack. -/
theorem wit_okIndir : WriteOk (st []) .INDIR (1 * 65536 + 3) (wordVal (st []) .INDIR (1 * 65536 + 3) (3 * 2 ^ 60 + 3)) := ⟨by decide +kernel, by decide +kernel, by decide +kernel⟩

/-- Meets premises of AcceptedWritesReadBack. -/
theorem wit_okCarve : WriteOk (st []) .POOL_CARVE 0 (wordVal (st []) .POOL_CARVE 0 0x01010101) := ⟨by decide +kernel, by decide +kernel, by decide +kernel⟩

/-- Meets premises of AcceptedWritesReadBack. -/
theorem wit_okQuota : WriteOk (st []) .POOL_QUOTA (273 * 4 + 2) (wordVal (st []) .POOL_QUOTA (273 * 4 + 2) 100) := ⟨by decide, by decide, by decide⟩

/-- The Vat settings listed, so that nothing reads their defaults, which follow the ordering code. -/
def sVatCfg : State :=
  { st [] with reg := [((Fld.VAT_CFG_vat_gib.ctorIdx, 0), 8), ((Fld.VAT_STATUS_segments.ctorIdx, 0), 9), ((Fld.VAT_STATUS_segments_free.ctorIdx, 0), 9)] }

/-- Meets premises of AcceptedWritesReadBack. -/
theorem wit_okVat : WriteOk (sVatCfg) .VAT_CFG 0 (wordVal (sVatCfg) .VAT_CFG 0 0) := ⟨by decide, by decide, by
    have h : badBuf sVatCfg .VAT_CFG 0 (wordVal sVatCfg .VAT_CFG 0 0) = false := by
      have hv : fldIn (wordVal sVatCfg .VAT_CFG 0 0) .VAT_CFG_vat_gib = 0 := by decide +kernel
      unfold badBuf
      simp only [hv]
      rw [decide_eq_false (Nat.not_lt_zero _)]
      decide +kernel
    unfold regRefused
    rw [h]
    decide +kernel⟩

/-- Meets premises of AcceptedWritesReadBack. -/
theorem wit_okBlocks : WriteOk (st []) .STR_BLOCK_CFG 0 (wordVal (st []) .STR_BLOCK_CFG 0 5) := ⟨by decide +kernel, by decide +kernel, by decide +kernel⟩

/-- Meets premises of AcceptedWritesReadBack. -/
theorem wit_okOwner : WriteOk (st []) .RSET_OWNER 3 (wordVal (st []) .RSET_OWNER 3 7) := ⟨by decide +kernel, by decide +kernel, by decide +kernel⟩

/-- Meets premises of AcceptedWritesReadBack. -/
theorem wit_okRate : WriteOk (st []) .TIME_RATE 0 (wordVal (st []) .TIME_RATE 0 0xFFFFFFF0) := ⟨by decide +kernel, by decide +kernel, by decide +kernel⟩

/-- Meets premises of AcceptedWritesReadBack. -/
theorem wit_okRef : WriteOk (st []) .TIME_CFG 0 (wordVal (st []) .TIME_CFG 0 0x3201) := ⟨by decide +kernel, by decide +kernel, by decide +kernel⟩

/-- Meets premises of AcceptedWritesReadBack. -/
theorem wit_okQwm : WriteOk (st []) .QWM (0 * 16 + 15) (wordVal (st []) .QWM (0 * 16 + 15) (2 ^ 63)) := ⟨by decide +kernel, by decide +kernel, by decide +kernel⟩

/-- Meets premises of AcceptedWritesReadBack. -/
theorem wit_okSelEntry : WriteOk (st []) .SEL_ENTRY 3 (wholeVal (st []) .host .SEL_ENTRY 3 0) := ⟨by decide, by decide, by decide⟩

/-- Meets premises of AcceptedWritesReadBack. -/
theorem wit_okProfile : WriteOk (st []) .PROFILE 3 (wholeVal (st []) .host .PROFILE 3 0) := ⟨by decide +kernel, by decide +kernel, by decide +kernel⟩

/-- Meets premises of AcceptedWritesReadBack. -/
theorem wit_okStrLkp : WriteOk (st []) .STR_LKP 3 (wholeVal (st []) .host .STR_LKP 3 0) := ⟨by decide, by decide, by decide⟩

/-- Meets premises of PortAndLaneWritesAct. -/
theorem wit_okPort : WriteOk (sUp) .PORT_CFG 0 (wordVal (sUp) .PORT_CFG 0 (9728 * 2 ^ 8 + 10 * 2 ^ 22 + 10000 * 2 ^ 32 + 2)) := ⟨by decide +kernel, by decide +kernel, by decide +kernel⟩

/-- Meets premises of PortAndLaneWritesAct. -/
theorem wit_okAdmin : WriteOk (sUp) .PORT_CFG 0 (wordVal sUp .PORT_CFG 0 (setBits (regRaw sUp .PORT_CFG 0) 0 1 0)) := ⟨by decide +kernel, by decide +kernel, by decide +kernel⟩

/-- A lane checker that is locked on a running octet, near its last bit, its port disabled. -/
def sLane : State :=
  let s := st [(.PD_STATE_on, 0, 1), (.LANE_TEST_rx_pattern, 2, 1), (.LANE_TEST_lock, 2, 1)]
  { s with setup := { s.setup with lanes := [((2, 0), { bits := 2 ^ 48 - 9, errs := 3, loss := 1 })] } }

/-- Meets premises of PortAndLaneWritesAct. -/
theorem wit_okLane : WriteOk (sLane) .LANE_TEST (0 * 8 + 2) (wordVal sLane .LANE_TEST (0 * 8 + 2) 0) := ⟨by decide +kernel, by decide +kernel, by decide +kernel⟩

/-- Meets premises of PortAndLaneWritesAct. -/
theorem wit_okLatch : WriteOk (sLane) .LANE_TEST (0 * 8 + 2) (wordVal sLane .LANE_TEST (0 * 8 + 2) (laneWord sLane (0 * 8 + 2) 10)) := ⟨by decide +kernel, by decide +kernel, by decide +kernel⟩

/-- Meets premises of PortAndLaneWritesAct. -/
theorem wit_okClear : WriteOk (sLane) .LANE_TEST (0 * 8 + 2) (wordVal sLane .LANE_TEST (0 * 8 + 2) (laneWord sLane (0 * 8 + 2) 11)) := ⟨by decide +kernel, by decide +kernel, by decide +kernel⟩

/-- Meets premises of PortAndLaneWritesAct. -/
theorem wit_okPortTest : WriteOk (sUp) .PORT_TEST 0 (wordVal sUp .PORT_TEST 0 (setBits (setBits (regRaw sUp .PORT_TEST 0) (Fld.PORT_TEST_gen_en.info.lsb) 1 1) (Fld.PORT_TEST_chk_en.info.lsb) 1 1)) := ⟨by decide +kernel, by decide +kernel, by decide +kernel⟩

/-! ### Requests of the flow, time and telemetry pages (R65 to R309) -/

/-- Meets premises of FlowAndKeyRequestsAct. -/
theorem wit_okLbKey : WriteOk (st []) .LB_KEY_CTL 0 (wordVal (st []) .LB_KEY_CTL 0 1) := ⟨by decide, by decide, by decide⟩

/-- Meets premises of FlowAndKeyRequestsAct. -/
theorem wit_keysAndWalks :
    (st [(.SEP_STATUS_lb_key_pending, 0, 1)]).fbit .SEP_STATUS_lb_key_pending 0 = true ∧ (st []).fbit .STR_CTL_purge_running 0 = false ∧ addrLowest (st []) (5 % 2 ^ 18) = true ∧ (sWalk 5).fbit .STR_CTL_purge_running 0 = true ∧ (st []).fbit .AGE_CTL_sweep_now 0 = false ∧ (st []).banksOk = true ∧ (st []).cellar.sweepAt = none ∧ (sWalk 5).banksOk = true ∧ (sWalk 5).cellar.sweepAt ≠ none ∧ (sWalk 5).fbit .AGE_CTL_sweep_pending 0 = false ∧ (st []).fbit .CELLAR_REKEY_rekey_running 0 = false ∧ (st []).fbit .CELLAR_REKEY_key_pinned 0 = false ∧ (sWalk 5).fbit .CELLAR_REKEY_rekey_running 0 = true := by
  decide

/-- Meets premises of TimeRequestsAct. -/
theorem wit_okSlew : WriteOk (st []) .TIME_SLEW 0 (wordVal (st []) .TIME_SLEW 0 (2 ^ 40 - 5 + 7 * 2 ^ 40)) := ⟨by decide +kernel, by decide +kernel, by decide +kernel⟩

/-- A step to second 4 is allowed, at once or at the next PPS edge. -/
def sStep : State :=
  st (on [158] ++ [(.TIME_STATUS_step_allowed, 0, 1), (.TIME_STEP_HI_sec, 0, 4), (.TIME_CFG_pps_en, 0, 1)])

/-- Unit 2 idle, for ns 90, once or every 30 ns, at device time 200 ns. -/
def sArm (p : Nat) : State :=
  let s := st (on [158] ++ [(.TRIG_START_LO_ns, 2, 90), (.TRIG_PERIOD_period_ns, 2, p)])
  { s with time := { s.time with dt := if p = 0 then 0 else 200 * 2 ^ 40 } }

/-- A close of the export epoch at this instant. -/
def sShut : State := { sMsg with telem := { sMsg.telem with closed := some sMsg.now } }

/-- Meets premises of TimeRequestsAct. -/
theorem wit_timeRequests :
    sMsg.telem.closed ≠ some sMsg.now ∧ sShut.telem.closed = some sShut.now ∧ sStep.fbit .TIME_CTL_step_go 0 = false ∧ stepOk sStep false = true ∧ sStep.images.ticket = none ∧ stepOk sStep true = true ∧ stepOk (st [(.TIME_STATUS_step_allowed, 0, 0)]) false = false ∧ stalled sStep = false ∧ stalled sTime = true ∧ (sArm 0).fbit .TRIG_CTL_fw_owned 2 = false ∧ 8 ≤ bits (2 ^ 28 + 8 * 2 ^ 12) 12 16 ∧ bits (2 ^ 28 + 8 * 2 ^ 12) 4 1 = 0 ∧ (sArm 0).fbit .TRIG_CTL_arm 2 = false ∧ bits (2 ^ 28 + 8 * 2 ^ 12) 28 1 = 1 ∧ trigPeriod (sArm 0) 2 = 0 ∧ (sArm 0).time.dt ≤ trigStart (sArm 0) 2 * 2 ^ 40 ∧ trigPeriod (sArm 30) 2 ≠ 0 ∧ sTrig.fbit .TRIG_CTL_arm 2 = true ∧ sTrig.fbit .TRIG_CTL_fw_owned 2 = false := by
  decide

/-- A snapshot idle, busy, or busy with one waiting. -/
def sTally (b p : Nat) : State := st (on [159] ++ [(.TALLY_CTL_snap_busy, 0, b), (.TALLY_CTL_snap_pending, 0, p)])

/-- A snapshot that was latched at this instant. -/
def sLatched : State := let s := sTally 1 0; { s with telem := { s.telem with asked := some s.now } }

/-- Meets premises of TimeRequestsAct. -/
theorem wit_snapNow :
    (sTally 0 0).fbit .TALLY_CTL_snap_now 0 = false ∧ (sTally 0 0).fbit .TALLY_CTL_snap_busy 0 = false ∧ (sTally 1 0).fbit .TALLY_CTL_snap_busy 0 = true ∧ (sTally 1 0).fbit .TALLY_CTL_snap_pending 0 = false ∧ (sTally 1 1).fbit .TALLY_CTL_snap_pending 0 = true ∧ snapMerges (sTally 1 0) = false ∧ snapMerges (sTally 1 1) = false ∧ sLatched.fbit .TALLY_CTL_snap_now 0 = false ∧ snapMerges sLatched = true := by
  decide

/-- Meets premises of TimeRequestsAct. -/
theorem wit_okIpfix : WriteOk (sUp) .IPFIX_CFG 2 (wordVal sUp .IPFIX_CFG 2 (setBits (setBits (setBits (regRaw sUp .IPFIX_CFG 2) (Fld.IPFIX_CFG_mtu.info.lsb) (Fld.IPFIX_CFG_mtu.info.width) 1500) (Fld.IPFIX_CFG_template_refresh_s.info.lsb) (Fld.IPFIX_CFG_template_refresh_s.info.width) 60) (Fld.IPFIX_CFG_en.info.lsb) 1 1)) := ⟨by decide +kernel, by decide +kernel, by decide +kernel⟩

/-! ### Rings and accesses (R53, R256, R257, R260, R370 to R373) -/

/-- Ring 1 of set 0 with all but the enable of its settings. -/
def sOff : State := (sHost []).fset .RING_CTL_en 1 0

/-- Meets premises of HostRegisterWritesAct. -/
theorem wit_okRingOn : WriteOk (sOff) .RING_CTL (0 * 8 + 1) (wordVal sOff .RING_CTL (0 * 8 + 1) (setBits 6 5 1 1)) := ⟨by decide +kernel, by decide +kernel, by decide +kernel⟩

/-- Meets premises of HostRegisterWritesAct. -/
theorem wit_okRingOff : WriteOk (sHost []) .RING_CTL (0 * 8 + 1) (wordVal (sHost []) .RING_CTL (0 * 8 + 1) (setBits (regRaw (sHost []) .RING_CTL 1) 5 1 0)) := ⟨by decide +kernel, by decide +kernel, by decide +kernel⟩

/-- Meets premises of HostRegisterWritesAct. -/
theorem wit_doorbell :
    (sHost []).fbit .SET_CTL_set_en 0 = true ∧ (sHost []).fbit .RING_CTL_en (0 * 8 + 2) = true ∧ (5 + 2 ^ 32 - ((sHost []).ring 0 2).hostIdx) % 2 ^ 32 ≤ ringSize (sHost []) 0 2 ∧ ringSize (sHost []) 0 2 < (65 + 2 ^ 32 - ((sHost []).ring 0 2).hostIdx) % 2 ^ 32 ∧ (st []).fbit .SET_CTL_set_en 0 = false := by
  decide

/-- Meets premises of HostRegisterWritesAct. -/
theorem wit_rearmAndAccess :
    evtCause (st [(.EVT_MASK_mask, 0, 2 ^ 40 - 1), (.SEP_STATUS_arg_err, 0, 1)]) &&& (st [(.EVT_MASK_mask, 0, 2 ^ 40 - 1), (.SEP_STATUS_arg_err, 0, 1)]).fget .EVT_MASK_mask 0 ≠ 0 ∧ evtCause (st []) &&& (st []).fget .EVT_MASK_mask 0 = 0 ∧ bits 1 0 1 = 1 ∧ regAt 0 (regOffset .EVT_MASK 0 0) = some (.EVT_MASK, 0, 0) ∧ regOffset .EVT_MASK 0 0 % 8 = 0 ∧ regOffset .EVT_MASK 0 0 < 0xD0000 ∧ offPage (st []) .EVT_MASK 0 = false ∧ 64 ≤ Reg.EVT_MASK.info.bits ∧ (st []).fbit .SETUP_LOCK_lock 0 = false ∧ regAt 0 40960 = none := by
  decide

/-! ### The host interface (R252 to R272) -/

/-- The rings of set 0 with three descriptors posted on CMD and INJ, and one on PUNT. -/
def sPost (l : List (Fld × Nat × Nat) := []) : State :=
  (((sHost l).setRing 0 0 { hostIdx := 3 }).setRing 0 3 { hostIdx := 3 }).setRing 0 2 { hostIdx := 1 }

/-- A descriptor that is read without error, or with one. -/
def hd (v : Nat) (data : List Byte := []) (bad : Bool := false) : HostDesc := ⟨BitVec.ofNat 512 v, data, bad, false⟩

/-- An INJ descriptor of 64 bytes in a mode. -/
def injD (mode : Nat) : Nat := 64 * 2 ^ 256 + mode * 2 ^ 320

/-- Its work waits at the head of its ring, with room for `n` buffers. -/
def sInj (mode n : Nat) : State :=
  let s := sHost ((List.range 4).flatMap (fun k => [(.POOL_STATUS_free, k, n), (.POOL_QUOTA_limit, 273 * 4 + k, 10)]))
  { s with host := { s.host with work := [{ wk (injD mode) (zeros 64) with ring := 3 }] } }

/-- It has waited. -/
def sInjWait : State := let s := sInj 0 9; { s with buffers := { s.buffers with injWait := [⟨0, 9⟩] } }

/-- Meets premises of DescriptorsAreFetchedAndInjected. -/
theorem wit_fetch :
    ringRuns (sPost []) 0 0 = true ∧ 1 ≤ fetchRoom (sPost []) 0 0 ∧ cmdListed (cmdOp (hd 0).desc.toNat) = true ∧ cmdListed (cmdOp (hd 0x77).desc.toNat) = false ∧ ringRuns (sPost []) 0 3 = true ∧ 1 ≤ fetchRoom (sPost []) 0 3 ∧ injRefusal (sPost []) 0 (hd (injD 0)).desc.toNat = 0 ∧ injRefusal (sPost []) 0 (hd (injD 1)).desc.toNat = 0 := by
  decide +kernel

/-- Meets premises of DescriptorsAreFetchedAndInjected. -/
theorem wit_inject :
    (injNext (sInj 0 9) 0).map (fun w => w.index) = some 9 ∧ injMode (injD 0) = 0 ∧ injMode (injD 1) = 1 ∧ injRoom (sInj 0 9) { wk (injD 0) (zeros 64) with ring := 3 } = true ∧ injRoom (sInj 1 9) { wk (injD 1) (zeros 64) with ring := 3 } = true ∧ injRoom (sInj 0 0) { wk (injD 0) (zeros 64) with ring := 3 } = false ∧ (sInj 0 0).buffers.injWait.any (fun x => x.set == 0) = false ∧ sInjWait.buffers.injWait.find? (fun x => x.set == 0) = some ⟨0, 9⟩ ∧ injRoom sInjWait { wk (injD 0) (zeros 64) with ring := 3 } = true := by
  decide

/-- A punt of frame 5 for a reason, its policers at a rate. -/
def sPunt (r rate host : Nat) : State :=
  let s := sPost [(.PUNT_POLICER_rate_pps, r, rate), (.PUNT_POLICER_burst, r, 4), (.PUNT_AGG_rate_pps, 0, 9), (.PUNT_AGG_burst, 0, 4)]
  let s := s.setRing 0 2 { hostIdx := host }
  { s with frames := [((5, 0), { bytes := zeros 128, whole := true, selected := true, stage := .released, copies := 1 })], nextFrame := 6,
           punts := [⟨5, r, 0, 0, none, none⟩] }

/-- A posted PUNT descriptor: one fragment of 256 bytes. -/
def puntD : BitVec 512 := BitVec.ofNat 512 (0x9000 + 256 * 2 ^ 256)

/-- Meets premises of PuntsAreDelivered. -/
theorem wit_punt :
    puntNext (sPunt 3 0 1) = some ⟨5, 3, 0, 0, none, none⟩ ∧ (sPunt 3 0 1).fget .PUNT_POLICER_rate_pps 3 = 0 ∧ (puntPolice (sPunt 3 7 1) ⟨5, 3, 0, 0, none, none⟩).1 = true ∧ ringDead (sPunt 3 7 1) 0 2 = false ∧ puntSet (sPunt 3 7 1) ⟨5, 3, 0, 0, none, none⟩ = 0 ∧ ((sPunt 3 7 1).ring 0 2).hostIdx ≠ ((sPunt 3 7 1).ring 0 2).devIdx ∧ ((sPunt 3 7 0).ring 0 2).hostIdx = ((sPunt 3 7 0).ring 0 2).devIdx ∧ (fragLens puntD.toNat).isEmpty = false ∧ ringDead ((sPunt 3 7 1).fset .RING_CTL_stopped 2 1) 0 2 = true := by
  decide +kernel

/-- A status block is due; ring 4 holds a message back; ring 2 is to quiesce; PCIe is released. -/
def sRing : State :=
  let s := (sHost [(.RING_CTL_irq_en, 4, 1), (.RING_CTL_vector, 4, 6), (.RING_CTL_mod_time_us, 4, 20), (.SB_ADDR_addr, 0, 0x7000)])
  let s := (s.setRing 0 4 { devIdx := 1, since := 1, oldest := some 0 }).setRing 0 2 { quiescing := true }
  { s with host := { s.host with sbDirty := [((0, 0), true)] }, rind := { s.rind with pcieUp := true, sources := [] } }

/-- PERST# is asserted. -/
def sPerst : State := { sRing with host := { sRing.host with perst := true } }

/-- VF 3 owns set 5. -/
def sVf : State :=
  let s := sHost [(.RSET_OWNER_owner, 5, 3), (.SET_CTL_set_en, 5, 1), (.RING_CTL_en, 41, 1)]
  { s with host := { s.host with vfEnable := true, busMaster := [((0, 0), true), ((3, 0), true)] }, rind := { s.rind with sources := [] } }

/-- Meets premises of RingEndsAndMessages. -/
theorem wit_ringEnds :
    tget false sRing.host.sbDirty (0, 0) = true ∧ sRing.fbit .SET_CTL_set_en 0 = true ∧ tget false sRing.host.busMaster (setOwner sRing 0, 0) = true ∧ (sRing.ring 0 4).oldest = some 0 ∧ ringToHost 4 = true ∧ ringRuns sRing 0 4 = true ∧ sRing.fbit .RING_CTL_irq_en 4 = true ∧ 0 + 1000 * sRing.fget .RING_CTL_mod_time_us 4 ≤ sRing.now ∧ (sRing.ring 0 2).quiescing = true ∧ ringRuns sRing 0 6 = true ∧ sPerst.host.perst = true ∧ pcieReady sRing = true := by
  decide

/-- Meets premises of HostResetsReachTheirSets. -/
theorem wit_hostResets :
    sVf.rind.sources = [] ∧ sVf.host.vfEnable = true ∧ setOwner sVf 5 = 3 ∧ setOwner sVf 0 ≠ 3 ∧ inRecovery sVf = false := by
  decide

/-! ### The mailbox and SPDM (R253, R316 to R331) -/

/-- The Rind and PCIe run, one mailbox request is posted, and nothing is asserted. -/
def sRun (l : List (Fld × Nat × Nat) := []) : State :=
  let s := (sHost ((.START_STATUS_step_reached, 0, 10) :: (.RIND_STATUS_mode, 0, 1) :: on [0, 157, 159, 160] ++ l)).setRing 0 6 { hostIdx := 1 }
  { s with rind := { s.rind with sources := [], pcieUp := true } }

/-- A request of the host with tag 7 and its data. -/
def rq (cmd a0 a1 : Nat) (data : List Byte := []) : MbxReq :=
  ⟨false, BitVec.ofNat 512 (cmd + 7 * 2 ^ 16 + a0 * 2 ^ 32 + a1 * 2 ^ 64 + 0x9000 * 2 ^ 128 + 128 * 2 ^ 192), data, false⟩

/-- A mailbox request of a command is in execution. -/
def sMbx (w : MbxWaits) : State :=
  let s := sRun; { s with rind := { s.rind with mbx := some ⟨false, false, 0x20, 7, w⟩ } }

/-- Recovery mode, with a mailbox history. -/
def sRecov : State := let s := sRun [(.RIND_STATUS_mode, 0, 2), (.START_STATUS_recovery, 0, 1)]; { s with rind := { s.rind with history := [5, 6] } }

/-- Meets premises of SpdmRequestsAreAnswered. -/
theorem wit_spdm :
    rindRuns sRun = true ∧ pcieReady sRun = true ∧ sRun.rind.mbx = none ∧ (sMbx .chunk).rind.mbx.isSome = true ∧ rindRuns (sMbx .chunk) = true ∧ pcieReady (sMbx .chunk) = true := by
  decide

/-- Meets premises of MailboxRequestsAreAnswered. -/
theorem wit_mailbox :
    mbxReady sRun (rq 1 0 0) = true ∧ mbxReady sRecov (rq 0x20 0 0) = true ∧ mbxCmd (rq 0x20 0 0) = 0x20 ∧ inRecovery sRecov = true ∧ mbxRecovery 0x20 = false ∧ inRecovery sRun = false ∧ mbxReserved (rq 257 0 0) = true ∧ mbxCmd (rq 257 0 0) = 1 ∧ mbxReserved (rq 1 0 0) = false ∧ 128 ≤ mbxLen (rq 2 0 0) ∧ mbxLen { rq 2 0 0 with desc := 2#512 } < 128 ∧ mbxArg0 (rq 3 5 0) < 2 ^ 14 ∧ thrMin sRun ≤ mbxArg0 (rq 48 95 0) ∧ mbxArg0 (rq 48 95 0) ≤ thrMax sRun ∧ mbxArg0 (rq 48 89 0) < thrMin sRun ∧ envCheck sRun (rq 64 0 0) 3 ≠ 0 ∧ mbxReady sRun (rq 0x60 0 0) = true := by
  decide +kernel

/-- Meets premises of MailboxRequestsAreAnswered. -/
theorem wit_chipReset :
    ({ sRun with rind := { sRun.rind with chipResetAt := some 5 } } : State).rind.chipResetAt = some 5 ∧ 5 ≤ sRun.now ∧ (sMbx (.logWrite 3 0 0)).rind.mbx = some ⟨false, false, 0x20, 7, .logWrite 3 0 0⟩ := by
  decide

/-- An enrolled owner whose key hash is 5. -/
def sEnv : State := let s := sRun; { s with rind := { s.rind with otp := 5 * 2 ^ 4864 } }

/-- An envelope of a kind with this body, nonce 9, for any device. -/
def env (kind : Nat) (body : List Byte) : List Byte :=
  leBytes 4 0x454F5646 ++ leBytes 2 kind ++ leBytes 2 body.length ++ leBytes 8 0 ++ leBytes 16 9 ++ leBytes 32 0 ++ body ++
    leBytes 4 1 ++ leBytes 4 201 ++ zeros 193

/-- An owner's signature over such an envelope verifies. The verdict is a free value (log entry 9): this is the premise that
the statements about accepted envelopes need beside the states here. -/
def Verified (s : State) (kind : Nat) (body : List Byte) : Prop :=
  sigOk s (otpAt s 4864 384) (otpAt s 5248 384) ((env kind body).take (64 + envLen kind)) ((env kind body).drop (64 + envLen kind)) = true

theorem envCheck_zero (s : State) (m : MbxReq) (kind : Nat) (body : List Byte) (h : Verified s kind body) (hd : m.data = env kind body)
    (hf : m.dataFailed = false) (ho : ownerEnrolled s = true) (hn : s.images.nonces = [])
    (hk : ((env kind body).length < 64 + envLen kind + 8 || leAt (env kind body) 0 4 != 0x454F5646 ||
      leAt (env kind body) 4 2 != kind || leAt (env kind body) 6 2 != envLen kind || leAt (env kind body) 32 32 != 0 ||
      envBodyBad (env kind body) kind ||
      ((env kind body).drop (64 + envLen kind)).length != leAt ((env kind body).drop (64 + envLen kind)) 4 4 ||
      (leAt (env kind body) 8 8 != 0 && leAt (env kind body) 8 8 != Config.deviceUid.toNat)) = false) :
    envCheck s m kind = 0 := by
  unfold Verified at h
  unfold envCheck
  simp only [hd, hf, ho, hn, hk, h]
  simp

/-- Meets premises of MailboxRequestsAreAnswered. -/
theorem wit_envPinKey (h : Verified sEnv 3 (leBytes 16 77)) : envCheck sEnv (rq 64 0 0 (env 3 (leBytes 16 77))) 3 = 0 :=
  envCheck_zero _ _ _ _ h rfl rfl (by decide +kernel) (by decide +kernel) (by decide +kernel)

/-- Meets premises of MailboxRequestsAreAnswered. -/
theorem wit_envUnpinKey (h : Verified sEnv 4 ([])) : envCheck sEnv (rq 65 0 0 (env 4 ([]))) 4 = 0 :=
  envCheck_zero _ _ _ _ h rfl rfl (by decide +kernel) (by decide +kernel) (by decide +kernel)

/-- Meets premises of OwnersAndTheChainAreSet. -/
theorem wit_envOwnerState (h : Verified sEnv 2 (leBytes 8 5)) : envCheck sEnv (rq 118 0 0 (env 2 (leBytes 8 5))) 2 = 0 :=
  envCheck_zero _ _ _ _ h rfl rfl (by decide +kernel) (by decide +kernel) (by decide +kernel)

/-- Meets premises of DomainRequestsAct. -/
theorem wit_domains :
    mbxReady sRun (rq 0x11 0 0) = true ∧ mbxReserved (rq 0x11 0 0) = false ∧ inRecovery sRun = false ∧ pdQuarantined sRun 0 = false ∧ resetAllowed sRun 0 = true ∧ resetAllowed sRun 156 = false ∧ pdQuarantined (sRun [(.CLUSTER_QUARANTINE_bits, 2, 1)]) 50 = true ∧ mbxArg0 (rq 0x11 160 0) = 160 ∧ mbxArg1 (rq 0x12 0 1) = 1 ∧ mbxArg1 (rq 0x12 0 0) = 0 ∧ sRun.fbit .PD_STATE_on 0 = true ∧ sRun.fbit .PD_STATE_on 1 = false ∧ offAllowed sRun 0 = true ∧ sRun.fbit .PD_STATE_on 157 = true ∧ offAllowed sRun 157 = false ∧ mbxReserved (rq 0x50 0 0) = false ∧ slotAuth sRecov 0 = false ∧ slotAuth sRecov 1 = false ∧ mbxReady sRecov (rq 0x50 0 0) = true := by
  decide +kernel

/-- Domain 1's switch is next, in time. -/
def sSwitch : State := let s := sMbx (.domain 1); { s with rind := { s.rind with switching := [(1, true)], lastSwitch := some 0 } }

/-- Meets premises of DomainRequestsAct. -/
theorem wit_switch :
    sSwitch.rind.switching = [(1, true)] ∧ sSwitch.rind.lastSwitch = some 0 ∧ 0 + 10000 ≤ sSwitch.now ∧ pdQuarantined sSwitch 1 = false ∧ sSwitch.rind.mbx = some ⟨false, false, 0x20, 7, .domain 1⟩ := by
  decide

/-! ### Resets and the release order (R319 to R335, R383) -/

/-- Sources asserted, with some of the state that a reset clears. -/
def sSrc (l : List ResetSource) : State :=
  let s := sRun [(.START_STATUS_failed_count, 0, 2), (.RESET_CAUSE_perst, 0, 1)]; { s with rind := { s.rind with sources := l, history := [5] } }

/-- The watchdog runs out at its first or second stage. -/
def sDog (b : Bool) : State := let s := sRun [(.RIND_STATUS_wdog_ms, 0, 50)]; { s with rind := { s.rind with stage1 := b } }

/-- Meets premises of ResetSourcesAssertAndRelease and IdentityAndSetupLockStand. -/
theorem wit_sources :
    (sSrc [.powerOn]).rind.sources.contains .powerOn = true ∧ (sSrc [.thermTrip, .rstN]).rind.sources.contains .thermTrip = true ∧ (sSrc [.rstN]).rind.sources.contains .rstN = true ∧ wdogRuns (sDog false) = true ∧ (sDog false).rind.stage1 = false ∧ (sDog false).rind.kickAt + wdogNs (sDog false) ≤ (sDog false).now ∧ (sDog true).rind.stage1 = true ∧ (sDog true).rind.kickAt + wdogNs (sDog true) ≤ (sDog true).now ∧ wdogRuns (sDog true) = true := by
  decide

/-- A start that has released `n` steps, the clock of step `c` enabled at 0 (0: none). -/
def sStart (n c now : Nat) : State :=
  let s := sRun [(.START_STATUS_step_reached, 0, n)]
  { s with now := now, rind := { s.rind with clocks := if c = 0 then [] else [(c, 0)], windowFrom := some 0, pcieUp := false } }

/-- Meets premises of TheReleaseOrder. -/
theorem wit_starts :
    stepDue (sStart 2 0 100000000) 3 = true ∧ stepDue (sStart 8 0 100000000) 9 = true ∧ stepDue (sStart 1 0 100000000) 2 = true ∧ recoveryLatched (sStart 1 0 100000000) = false ∧ (sStart 1 0 100000000).images.writing = none ∧ bootSlot (sStart 1 0 100000000) = none ∧ clockOf (sStart 7 8 1000) 8 = some 0 ∧ 1000 ≤ 0 + windowNs (sStart 7 8 1000) 8 ∧ clockOf (sStart 6 7 1000) 7 = some 0 ∧ (sStart 6 7 1000).host.perst = false ∧ 0 + windowNs (sStart 7 8 100000000) 8 ≤ 100000000 ∧ (bootNow (sStart 7 8 100000000)).trial = false ∧ (sStart 2 0 4000000000).rind.windowFrom = some 0 ∧ (sStart 2 0 4000000000).fbit .START_STATUS_start_complete 0 = false ∧ 0 + startWindowNs (sStart 2 0 4000000000) ≤ (sStart 2 0 4000000000).now := by
  decide

/-- Meets premises of TheTestsOfAStart. -/
theorem wit_tests :
    stepDue (sStart 3 0 100000000) 4 = true ∧ stepDue (sStart 4 0 100000000) 5 = true ∧ stepDue (sStart 9 0 100000000) 10 = true ∧ stepDue (sStart 7 0 100000000) 8 = true ∧ (sStart 7 0 100000000).fget .REPAIR_LINKS_hbm_failed 0 = 0 ∧ bits ((sRun [(.REPAIR_LINKS_d2d_failed, 0, 8)]).fget .REPAIR_LINKS_d2d_failed 0) (12 / 4) 1 = 1 := by
  decide

/-- Sensor 5 reads `t` quarters of a degree above 60 degrees, the others 60 degrees. -/
def hot (t : Nat) : List Int := (List.range 64).map (fun i => if i = 5 then 240 + (t : Int) else 240)

/-- Blocks that wait for their rows. -/
def sWaits : State :=
  let s := sRun [(.PD_HELD_held, 33, 1), (.PD_STATE_on, 33, 1), (.SKIM_STATUS_bank_held, 0, 6), (.PD_HELD_held, 130, 1), (.PD_HELD_held, 50, 1)]
  { s with churn := { s.churn with reloading := [2, 3] },
           strainer := [((5, 0), some { strEntryOf img 0 with data := 1, shadowData := 2 }),
                        ((65536, 0), some { strEntryOf img 0 with data := 1, shadowData := 2 })] }

/-- The AVSBus after missed transactions, or after a fault. -/
def sAvs (n f : Nat) : State := let s := sRun [(.RAIL_avs_fault, 0, f)]; { s with rind := { s.rind with avsMissed := n, avsAt := some 0 } }

/-- Meets premises of ThermalRailAndRestoreRows. -/
theorem wit_guards :
    rindRuns sRun = true ∧ (hot 160).length = 64 ∧ (hot 160).max? = some 400 ∧ (hot 160)[5]? = some 400 ∧ (∀ k ∈ List.range 5, (hot 160)[k]? ≠ some 400) ∧ (∀ k ∈ List.range 64, (senseOne sRun (hot 160) k).2 = true) ∧ stageFor sRun 400 ≠ sRun.fget .THERMAL_stage 0 ∧ 700 + 30 < (sRun [(.RAIL_target_mv, 0, 750)]).fget .RAIL_target_mv 0 ∧ (sAvs 2 0).rind.avsMissed = 2 ∧ (sAvs 2 0).rind.avsAt = some 0 ∧ 0 + 10000000 ≤ (sAvs 2 0).now ∧ (sAvs 2 0).fbit .RAIL_avs_fault 0 = false ∧ (sAvs 3 1).fbit .RAIL_avs_fault 0 = true ∧ rindRuns (sAvs 2 0) = true := by
  decide +kernel

/-- Meets premises of ThermalRailAndRestoreRows. -/
theorem wit_restores :
    sWaits.fbit .PD_STATE_on (pdSlice 1) = true ∧ sWaits.rind.holds = [] ∧ hasBit (sWaits.fget .SKIM_STATUS_bank_held 0) 2 = true ∧ bankIdleNow sWaits 2 = true ∧ sWaits.fbit .PD_HELD_held 130 = true ∧ sWaits.churn.reloading.contains 2 = true := by
  decide

/-! ### Images, owners, the Milk Run and tickets (R337 to R355) -/

/-- A chunk 0 of two chunks: component 4 is 100 bytes in chunk 1, the others are empty; every digest is 5. -/
def chunk0 : List Byte :=
  leBytes 4 0x49564546 ++ leBytes 2 1 ++ leBytes 2 64 ++ leBytes 4 432 ++ leBytes 4 496 ++ leBytes 4 201 ++ leBytes 2 2 ++ zeros 2 ++
    leBytes 4 131072 ++ zeros 36 ++
    (leBytes 2 0 ++ leBytes 2 5 ++ leBytes 8 777 ++ zeros 52) ++
    (List.range 5).flatMap (fun i => leBytes 2 (i + 1) ++ leBytes 2 1 ++ leBytes 4 (if i = 3 then 1 else 0) ++
      leBytes 8 (if i = 3 then 100 else 0) ++ leBytes 48 5) ++
    leBytes 48 5 ++ leBytes 4 1 ++ leBytes 4 201 ++ zeros 193

/-- Chunk 1: a bundle of format 1, its stores empty. -/
def chunk1 : List Byte := leBytes 4 1 ++ zeros 96

/-- Slots 0 and 1 hold that image, slot 1's chunks `l` marked, with a session of digest `d`. -/
def sImg (l : List Nat) (d : Option Nat) (r : List (Fld × Nat × Nat) := []) : State :=
  let s := sRun ((.START_STATUS_start_complete, 0, 1) :: (.UPD_STATUS_owner, 0, 1) :: r)
  { s with rind := { s.rind with otp := 5 * 2 ^ 4096 + 5 * 2 ^ 4864 },
           images := { s.images with
             chunks := [((0, 0), chunk0), ((0, 1), chunk1), ((1, 0), chunk0), ((1, 1), chunk1)],
             marks := [((0, 0), [0, 1]), ((1, 0), l)], digest := [((0, 0), some 5), ((1, 0), d)] } }

theorem chunk0_form : headOk chunk0 = true ∧ manifestOk chunk0 = true ∧ imgChunks chunk0 = 2 ∧ chunkDigest chunk0 1 = 5 ∧
    imgSvn chunk0 = 0 ∧ comps chunk0 = [⟨1, 1, 0, 0, 5⟩, ⟨2, 1, 0, 0, 5⟩, ⟨3, 1, 0, 0, 5⟩, ⟨4, 1, 1, 100, 5⟩, ⟨5, 1, 0, 0, 5⟩] := by
  decide +kernel

/-- Meets premises of TheReleaseOrder, DomainRequestsAct and SessionsAndSlotsGoOn: the slot authenticates when the three verdicts on it, free values (log entry 9), are favourable. -/
theorem wit_slotAuth (l : List Nat) (d : Option Nat) (k : Nat) (hk : k = 0 ∨ k = 1) (hs : imageSigned (sImg l d) chunk0 = true)
    (h1 : digestIs (chunk1) 5 = true) (h0 : digestIs [] 5 = true) : slotAuth (sImg l d) k = true := by
  have hc : chunkBytes (sImg l d) k 0 = chunk0 ∧ chunkBytes (sImg l d) k 1 = chunk1 := by
    rcases hk with rfl | rfl <;> exact ⟨rfl, rfl⟩
  have hf : fusedSvn (sImg l d) = 0 := by
    show ((List.range 64).filter (fun i => bits (5 * 2 ^ 4096 + 5 * 2 ^ 4864) (5632 + i) 1 == 1)).length = 0
    decide +kernel
  obtain ⟨f1, f2, f3, f4, f5, f6⟩ := chunk0_form
  have ht : chunk1.take 100 = chunk1 := by decide
  have hr : List.range 1 = [0] := rfl
  have hb : bundleOk chunk1 = true := by decide
  have h4 : compOf chunk0 4 = some ⟨4, 1, 1, 100, 5⟩ := by decide +kernel
  simp [slotAuth, hc.1, hc.2, f1, f2, f3, f4, f5, f6, hf, hs, h1, h0, compBytes, ht, hr, hb, h4]

/-- Meets premises of ImageCommandsAnswerOnBothPaths and SessionsAndSlotsGoOn: a chunk 0 that opens a session, a chunk 1 of one. -/
theorem wit_open (hs : imageSigned (sImg [] none) chunk0 = true) : openCheck (sImg [] none) false chunk0 = 0 := by
  obtain ⟨f1, f2, _, _, f5, _⟩ := chunk0_form
  have hf : fusedSvn (sImg [] none) = 0 := by
    show ((List.range 64).filter (fun i => bits (5 * 2 ^ 4096 + 5 * 2 ^ 4864) (5632 + i) 1 == 1)).length = 0
    decide +kernel
  have hr : refusalOf (sImg [] none) false = 0 ∧ updBusy (sImg [] none) = false ∧ slotState (sImg [] none) (inactiveSlot (sImg [] none)) = 0 := by
    decide +kernel
  simp [openCheck, f1, f2, f5, hs, hf, hr.1, hr.2.1, hr.2.2]

theorem wit_chunk (h : digestIs (chunk1) 5 = true) : jobFits (sImg [0] (some 5)) ⟨1, chunk1, .milk, false⟩ = true := by
  have hi : inactiveSlot (sImg [0] (some 5)) = 1 := by decide +kernel
  have hc : chunkBytes (sImg [0] (some 5)) 1 0 = chunk0 := rfl
  obtain ⟨_, _, f3, f4, _, _⟩ := chunk0_form
  simp [jobFits, hi, hc, f3, f4, h]

/-- Meets premises of ImageCommandsAnswerOnBothPaths. -/
theorem wit_image :
    slotState (sImg [0] none) 1 = 0 ∧ inactiveSlot (sImg [0] none) = 1 ∧ slotState (sImg [0] (some 5)) 1 = 1 ∧ marksOf (sImg [0, 1] (some 5)) 1 = [0, 1] ∧ refusalOf (sImg [0] (some 5)) false = 0 ∧ refusalOf (sImg [0] (some 5) [(.UPD_STATUS_owner_lock, 0, 1)]) false ≠ 0 ∧ mbxReady (sImg [0] (some 5)) (rq 0x70 1 0 (chunk1)) = true ∧ mbxReserved (rq 0x70 1 0 (chunk1)) = false ∧ mbxArg0 (rq 0x70 1 0 (chunk1)) = 1 ∧ mbxReady (sImg [0] none) (rq 0x71 0 0) = true ∧ updBusy (sImg [0] none) = false ∧ slotState (sImg [0, 1] (some 5)) 1 = 2 ∧ cmdWork (sCmd (wk 0x31)) 0 9 0x31 .fetched = some (wk 0x31) ∧ setLimited (sCmd (wk 0x31)) 0 = false := by
  decide +kernel

/-- A trial image's record, and one of it in writing for a reason. -/
def trialRec : BootRec := ⟨3, 0, true, 1, 1, 5, 5, 0⟩
def sTrial (w : Option BootWhy) : State :=
  let s := sImg [0, 1] (some 5)
  { s with images := { s.images with boot0 := some trialRec, confirmAt := some 0,
                                     writing := w.map (fun y => ({ trialRec with seq := 4, trial := false }, y)) } }

/-- Chunk 1 is being written, for the first or the second time. -/
def sJob (b : Bool) : State := let s := sImg [0] (some 5); { s with images := { s.images with jobs := [⟨1, chunk1, .milk, b⟩] } }

/-- Meets premises of SessionsAndSlotsGoOn and TicketsAndActivationsGoOn. -/
theorem wit_record :
    (sTrial none).images.confirmAt = some 0 ∧ (sTrial none).runs pdMgmt = true ∧ (imgConfirm (sTrial none)).2 = 0 ∧ (sTrial (some .confirm)).images.writing = some ({ trialRec with seq := 4, trial := false }, .confirm) ∧ (sTrial (some .start)).images.activation = none ∧ (sImg [0] (some 5)).images.lastChunk + 600000000000 ≤ ({ sImg [0] (some 5) with now := 600000000000 } : State).now ∧ (sJob false).images.jobs = [⟨1, chunk1, .milk, false⟩] ∧ slotState (sJob false) 1 ≠ 0 ∧ (marksOf (sJob false) 1).contains 1 = false := by
  decide

/-- The chain is set: upstream on port 0, downstream on port 0, with a chunk sent at 0 after `n` resends. -/
def sMilk (n : Nat) (l : List (Fld × Nat × Nat) := []) : State :=
  let s := sImg [0] (some 5) ([(.PORT_CFG_fabric_port, 0, 1), (.UPD_MILK_up_en, 0, 1), (.UPD_MILK_down_en, 0, 1), (.UPD_MILK_chain_stalled, 0, 1)] ++ l)
  { s with now := 3000000000, images := { s.images with unacked := [(0, 0, n)], refused := true,
                                                        pieces := (List.range 7).map (fun p => ((p + 1, 0), zeros 8192)), pieceChunk := 1 } }

/-- Meets premises of OwnersAndTheChainAreSet. -/
theorem wit_owners :
    ownerEnrolled sRun = false ∧ ((rq 0x77 0 0 (zeros 97)).data).length = 97 ∧ milkPort (sMilk 0) 1 0 = true ∧ milkPort sRun 1 0 = false ∧ milkPort sRun 0 9 = true ∧ mbxArg0 (rq 0x78 (2 ^ 24) 0) = 2 ^ 24 ∧ mbxReserved (rq 0x76 0 0) = false := by
  decide +kernel

/-- Meets premises of TheMilkRunRunsBothWays. -/
theorem wit_milkRun :
    (sMilk 0).runs pdMgmt = true ∧ ((sMilk 0).fbit .UPD_MILK_up_en 0 && (sMilk 0).fget .UPD_MILK_up_port 0 == 3) = false ∧ ((sMilk 0).fbit .UPD_MILK_up_en 0 && (sMilk 0).fget .UPD_MILK_up_port 0 == 0) = true ∧ fromDown (sMilk 0) 0 = true ∧ (sMilk 2).images.unacked.find? (fun u => u.1 == 0) = some (0, 0, 2) ∧ milkDown (sMilk 2) = true ∧ 0 + 2000000000 ≤ (sMilk 2).now ∧ (sMilk 2).images.needAt = none ∧ milkUp (sMilk 2) = true ∧ slotState (sMilk 2) 1 = 1 ∧ (sMilk 2).images.wanted = [] := by
  decide

/-- A ticket body for digest 5, at second 1 of the time, scope CHIP; a state that takes it; and its units. -/
def tkBody : List Byte := leBytes 48 5 ++ leBytes 6 1 ++ leBytes 4 0 ++ leBytes 2 0 ++ leBytes 8 1 ++ leBytes 1 2 ++ zeros 59
def sTk (l : List (Fld × Nat × Nat) := []) : State :=
  let s := sImg [0, 1] (some 5) (on [158] ++ l)
  { s with images := { s.images with verified := [((1, 0), true)] } }

/-- A ticket is pending on unit 2, or its activation is in a phase. -/
def tkt (i : Nat) : Ticket :=
  { digest := 5, instant := i, scope := 2, tables := false, auto := 0, unit := 2, bundle := false, staged := false, checked := false }
def sTkt (i : Nat) (l : List (Fld × Nat × Nat) := []) : State :=
  let s := sTk ([(.TRIG_CTL_arm, 2, 1), (.TRIG_CTL_fw_owned, 2, 1), (.UPD_STATUS_ticket_pending, 0, 1)] ++ l)
  { s with images := { s.images with ticket := some (tkt i) } }
def act (p : ActPhase) (r : Bool) : Activation := { slot := 1, scope := 2, auto := 7, tables := false, recorded := r, phase := p }
def sAct (p : ActPhase) (w : Option BootWhy) : State :=
  let s := sTrial w; { s with images := { s.images with activation := some (act p false) } }

/-- Meets premises of TicketsAndActivationsGoOn. -/
theorem wit_ticket :
    mbxReady (sTk []) (rq 0x74 0 0 (env 1 tkBody)) = true ∧ envBody (env 1 tkBody) 1 = tkBody ∧ (sTkt 200000 []).images.ticket = some (tkt 200000) ∧ (sTkt 200000 []).devNs + 100000 < 200000 ∧ 90000 ≤ (sTkt 90000 []).devNs + 100000 ∧ ticketOk (sTkt 90000 []) (tkt 90000) = true ∧ ticketOk (sTkt 90000 [(.UPD_STATUS_owner_lock, 0, 1)]) (tkt 90000) = false ∧ (sAct .drain (some .activate)).images.activation = some (act .drain false) ∧ octetUp (sAct (.octet 5 0) none) 5 = true ∧ slotState (sTk []) 1 = 3 := by
  decide +kernel

/-- Meets premises of TicketsAndActivationsGoOn: an accepted ticket. -/
theorem wit_ticketSubmit (h : Verified (sTk []) 1 tkBody) : envCheck (sTk []) (rq 0x74 0 0 (env 1 tkBody)) 1 = 0 ∧
    ticketCheck (sTk []) (envBody (rq 0x74 0 0 (env 1 tkBody)).data 1) = 0 :=
  ⟨envCheck_zero _ _ _ _ h rfl rfl (by decide +kernel) (by decide +kernel) (by decide +kernel), by decide +kernel⟩

/-! ### Link tests and the TAP (R357 to R368) -/

/-- A lane checker runs, locked; and a generator with one frame to send on port 0. -/
def sTest : State :=
  st (up0 ++ [(.LANE_TEST_rx_pattern, 3, 1), (.LANE_TEST_lock, 3, 1), (.PORT_TEST_gen_en, 0, 1), (.PORT_TEST_gen_len, 0, 100), (.PORT_TEST_gen_count, 0, 1),
    (.PORT_TEST_gen_rate, 0, 100)])

/-- Meets premises of LinkTestsAndTheTap. -/
theorem wit_linkTests :
    checkerOn sTest 0 3 = true ∧ sTest.fbit .LANE_TEST_lock 3 = true ∧ (tget {} sTest.setup.lanes (3, 0)).bits < 2 ^ 48 - 1 ∧ 2 ^ 48 - 1 ≤ (tget {} sTest.setup.lanes (3, 0)).bits + 2 ^ 48 ∧ sTest.runs (pdOctet 0) = true ∧ portUp sTest 0 = true ∧ sTest.fbit .PORT_TEST_gen_en 0 = true ∧ tget none sTest.egress.tx (0, 0) = none ∧ genDue sTest 0 = true := by
  decide

/-! ### The whole machine (R1, R12, R306, R374) -/

/-- A machine check about to be the third at an address. -/
def stAt : StoreAddr := ⟨2, 0, 0, 5⟩
def sMck : State := let s := sRun (on [50]); { s with churn := { s.churn with repeats := [(stAt, 2)] } }

/-- Meets premises of StepRunsTheFrontCommand, IdentityAndSetupLockStand, BanksStayCanonical, RegisterWritesTouchOneInstance and WaitingCommitsAndTeardownsComplete. -/
theorem wit_whole :
    (sMck.churn.faulty.any (fun x => x.1 == stAt)) = false ∧ errorsOf sMck stAt = 2 ∧ stAt.cluster < 64 ∧ ({ sUp with pending := [.bypass, .idcode] } : State).pending = Instr.bypass :: [.idcode] ∧ sUp.pending = [] ∧ ((st [(.SETUP_LOCK_lock, 0, 1)]).fget .SETUP_LOCK_lock 0 = 1) ∧ (st []).fget .DEV_ID_part 0 = fldReset .DEV_ID_part 0 ∧ sUp.banksOk = true ∧ writeTarget (.poolQuotaWrite .host 273 2 100) = some (.POOL_QUOTA, 273 * 4 + 2) := by
  decide

/-! ### Worked examples of the spec, and two published vectors -/

/-- The outer headers of the VXLAN frame of the worked example of 03, IPv4 total length 130. -/
def vx : List Byte :=
  zeros 12 ++ [8#8, 0#8] ++ ([0x45#8, 0#8] ++ beBytes 2 130 ++ zeros 5 ++ [0x11#8] ++ zeros 10) ++ (beBytes 2 5 ++ beBytes 2 4789 ++ beBytes 2 110 ++ zeros 2) ++
    (zeros 4 ++ [0#8, 0x2A#8, 0x31#8, 0#8]) ++ (zeros 12 ++ [8#8, 0#8]) ++
    ([0x45#8, 0#8] ++ beBytes 2 80 ++ zeros 5 ++ [6#8] ++ zeros 2 ++ [198#8, 51#8, 100#8, 7#8, 203#8, 0#8, 113#8, 20#8]) ++
    (beBytes 2 49152 ++ beBytes 2 443 ++ zeros 16) ++ zeros 40 ++ zeros 4

/-- The selection entries and profiles of that example. -/
def sVx : State :=
  let off : List (Fld × Nat × Nat) := [12, 13, 14, 23, 36, 37].zipIdx.map (fun x => (Fld.SEL_OFFSETS_off, x.2, x.1))
  let p5 : List (Fld × Nat × Nat) := [(.PROFILE_probe_en, 5, 1), (.PROFILE_probe_off, 5, 16), (.PROFILE_probe_w, 5, 1), (.PROFILE_probe_adj, 5, 18), (.PROFILE_l3_off, 5, 14),
    (.PROFILE_l3_kind, 5, 1), (.PROFILE_l4_off, 5, 34), (.PROFILE_l4_kind, 5, 2), (.PROFILE_ip_len_check, 5, 1), (.PROFILE_udp_len_check, 5, 1),
    (.PROFILE_tsrc_mode, 5, 2), (.PROFILE_tsrc_off, 5, 46), (.PROFILE_tsrc_bits_m1, 5, 15), (.PROFILE_ext_en, 80, 1), (.PROFILE_ext_src_off, 80, 46),
    (.PROFILE_ext_width_m1, 80, 2), (.PROFILE_chain_en, 5, 1), (.PROFILE_chain_base, 5, 50), (.PROFILE_tenant_key, 5, 1), (.PROFILE_valid, 5, 1)]
  let e (i src w dst : Nat) : List (Fld × Nat × Nat) := [(Fld.PROFILE_ext_en, 144 + i, 1), (.PROFILE_ext_src_off, 144 + i, src), (.PROFILE_ext_width_m1, 144 + i, w - 1), (.PROFILE_ext_dst_off, 144 + i, dst)]
  let p9 : List (Fld × Nat × Nat) := [(.PROFILE_l3_off, 9, 14), (.PROFILE_l3_kind, 9, 1), (.PROFILE_l4_off, 9, 34), (.PROFILE_l4_kind, 9, 1), (.PROFILE_ip_len_check, 9, 1), (.PROFILE_valid, 9, 1)] ++
    e 0 26 4 4 ++ e 1 30 4 8 ++ e 2 23 1 12 ++ e 3 34 4 13
  let sel : List (Fld × Nat × Nat) := [(.SEL_ENTRY_valid, 4, 1), (.SEL_ENTRY_pass_mask, 4, 1), (.SEL_ENTRY_set_mask, 4, 65535), (.SEL_ENTRY_profile_id, 4, 5), (.SEL_ENTRY_sel_data, 4, 0xB512114500 * 256 + 8),
    (.SEL_ENTRY_sel_care, 4, 2 ^ 48 - 1), (.SEL_ENTRY_valid, 5, 1), (.SEL_ENTRY_inner, 5, 1), (.SEL_ENTRY_pass_mask, 5, 1), (.SEL_ENTRY_set_mask, 5, 65535), (.SEL_ENTRY_profile_id, 5, 9),
    (.SEL_ENTRY_sel_data, 5, 0x06450008), (.SEL_ENTRY_sel_care, 5, 2 ^ 32 - 1)]
  st (off ++ p5 ++ p9 ++ sel ++ [(.TENANT_MAP_valid, 0x2A31, 1), (.TENANT_MAP_tenant, 0x2A31, 2711)])

/-- The frame as received by port 32. -/
def vxF : Frame := { bytes := vx, whole := true, len := 148, ingPort := 32 }

/-- The command answers a next state, of which this holds. -/
def after (c : Instr) (s : State) (p : State → Bool) : Bool :=
  match exec c s with
  | .next t => p t
  | _ => false

/-- The published check value of CRC-32, and the published vector of SipHash-2-4. -/
theorem test_crc_and_sip : crc32 ((List.range 9).map (fun i => BitVec.ofNat 8 (0x31 + i))) = 0xCBF43926 ∧
    sipHash 0x0706050403020100 0x0f0e0d0c0b0a0908 ((List.range 15).map (BitVec.ofNat 8)) = 0xa129ca6149be45e5 := by decide +kernel

/-- Worked example 1 of 18: three addresses. -/
theorem test_addresses : regOffset .PORT_HOLD 64 0 = 0xB4008 ∧ regOffset .EGR_Q (128 * 16 + 5) 1 = 0x118058 ∧
    regOffset .INDIR (3 * 65536 + 0x1234) 0 = 0x9891A0 ∧ regAt 0 0x118058 = some (.EGR_Q, 128 * 16 + 5, 1) := by decide +kernel

/-- Worked example 2 of 04: one key from hash to slot. -/
theorem test_hash_to_slot : let h := 0x9E3751C40B6D2F8A
    bankOf h = 10 ∧ setOf h = 4856 ∧ domainOf h = 12170 ∧ bktA h = 23932810 ∧ bktB h = 27845125 ∧ tagOf h = 0x9E375 ∧
      slotWord (tagOf h) 0x0513C07 0x1A = 0x001A8513C079E375 := by decide +kernel

/-- The example of 02: rx_ok of the port whose lowest lane is at offset 4; and a late sequence number of the example of 11. -/
theorem test_places : Ctr.place .rxOk (8 * 8 + 4) = (8, 228) ∧ ahead 1003 1008 = 16777211 ∧ ahead 1005 1003 = 2 := by decide +kernel

/-- Worked example 1 of 12: the phases of a CPL ring of 128 entries. -/
theorem test_phases : phaseOf 255 128 = 0 ∧ phaseOf 256 128 = 1 := by decide

/-- Worked example 1 of 03: the profiles, the probe, the key, the tenant and the headers. -/
theorem test_vxlan_key : selectProfile sVx vxF false 0 = some 5 ∧ lengthProbe sVx vxF (some 5) = (148, true) ∧
    let x := parse sVx (0, 0) { vxF with prof := 5, entry := regRaw sVx .PROFILE 5 }
    x.fin = .flow ∧ x.frame.tenant = 2711 ∧ x.frame.prof = 9 ∧ x.frame.outer = some 5 ∧ x.frame.l3 = (64, 1) ∧ x.frame.l4 = (84, 1) ∧
      x.frame.key = [0#8, 0x2A#8, 0x31#8, 0#8, 198#8, 51#8, 100#8, 7#8, 203#8, 0#8, 113#8, 20#8, 6#8, 0xC0#8, 0#8, 1#8, 0xBB#8] ++ zeros 29 ++
        [0x0A#8, 0x97#8] := by decide +kernel

/-- The same example: the length checks of the frame, of it with six bytes more, and of it claiming 1,400 bytes. -/
theorem test_vxlan_lengths : let f := { vxF with checks := [(regRaw sVx .PROFILE 9, 50), (regRaw sVx .PROFILE 5, 0)] }
    lengthVerdict f = none ∧ lengthVerdict { f with bytes := vx ++ zeros 6 } = some (2, 2) ∧
      lengthVerdict { f with bytes := (vx.set 16 5#8).set 17 0x78#8 } = some (1, 0) := by decide +kernel

/-- Worked example 1 of 06: the segments of STR_LKP[9]. -/
def sLkp : State :=
  let seg (i src len dst pr : Nat) := [(Fld.STR_LKP_seg_en, 72 + i, 1), (.STR_LKP_seg_src, 72 + i, src), (.STR_LKP_seg_len_m1, 72 + i, len - 1),
    (.STR_LKP_seg_dst, 72 + i, dst), (.STR_LKP_seg_probe, 72 + i, pr)]
  st (seg 0 306 2 0 0 ++ seg 1 4 13 2 0 ++ seg 2 312 1 19 0 ++ seg 3 306 2 0 1 ++ seg 4 8 4 2 1 ++ seg 5 312 1 19 1)

/-- The two keys of that example. -/
theorem test_strainer_keys : let f := { (parse sVx (0, 0) { vxF with prof := 5, entry := regRaw sVx .PROFILE 5 }).frame with ingPort := 32 }
    leBytes 20 (probeKey sLkp f 9 0 0) = [0x0A#8, 0x97#8, 0xC6#8, 0x33#8, 0x64#8, 7#8, 0xCB#8, 0#8, 0x71#8, 0x14#8, 6#8, 0xC0#8, 0#8, 1#8, 0xBB#8,
      0#8, 0#8, 0#8, 0#8, 0#8] ∧
    leBytes 20 (probeKey sLkp f 9 1 0) = [0x0A#8, 0x97#8, 0xCB#8, 0#8, 0x71#8, 0x14#8] ++ zeros 13 ++ [1#8] := by decide +kernel

/-- Its entries N1 and N3 for probe 1: N3 wins by its cared bits. -/
theorem test_strainer_cared_bits :
    let k := leNat ([0x0A#8, 0x97#8, 0xCB#8, 0#8, 0x71#8, 0x14#8] ++ zeros 13 ++ [1#8])
    let n1 := { strEntryOf img 0 with data := 2 ^ 152, care := 255 * 2 ^ 152, prio := 10 }
    let n3 := { strEntryOf img 0 with data := leNat ([0x0A#8, 0x97#8, 0xCB#8, 0#8, 0x71#8, 0x10#8] ++ zeros 13 ++ [1#8]),
                                      care := leNat ([0xFF#8, 0xFF#8, 0xFF#8, 0xFF#8, 0xFF#8, 0xF0#8] ++ zeros 13 ++ [0xFF#8]), prio := 10 }
    (probeBest [((0x20000, 0), some n1), ((0x20400, 0), some n3)] 0 0 k none).map (fun x => x.1) = some 0x20400 := by decide +kernel

/-- Worked example 1 of 04: the hint test at epochs 7,000 and 7,318. -/
theorem test_hint : hintDue (st [(.AGE_CTL_hint_min, 0, 2), (.AGE_CTL_age_epoch, 0, 7000)]) (slotWord 0 0 0x1A) = false ∧
    hintDue (st [(.AGE_CTL_hint_min, 0, 2), (.AGE_CTL_age_epoch, 0, 7318)]) (slotWord 0 0 0x1A) = true := by decide +kernel

/-! ### One step each -/

theorem test_call : after (.call ⟨0, 0, 0⟩ .good) (sCh (mw 4 500) (tk (cx [7]))) (fun t => (t.task? 0).map (fun y => (y.ctx.pc, y.ctx.stack)) = some (500, [11, 7])) = true := by decide +kernel

theorem test_doorbell : after (.doorbellWrite 0 2 4 65) (sHost) (fun t => t.fget .RING_CTL_stopped 2 = 1 ∧ t.fget .SET_ERR_db_err 0 = 1 ∧ t.ring 0 2 = {}) = true := by decide +kernel

theorem test_step : after (.timeStep .host false) (sStep) (fun t => t.time.dt = 4000000000 * 2 ^ 40 ∧ t.fget .TIME_STATUS_step_allowed 0 = 0) = true := by decide +kernel

theorem test_resetChip : after (.resetChip (rq 16 0 0)) (sRun) (fun t => t.rind.chipResetAt = some (t.now + 1000000) ∧ t.fget .RIND_STATUS_mbx_busy 0 = 0) = true := by decide +kernel

theorem test_clockGood : after (.clockGood 8) (sStart 7 8 1000) (fun t => t.fget .PD_STATE_on 47 = 1 ∧ t.fget .PD_STATE_on 48 = 1) = true := by decide +kernel

theorem test_tap : after (.extest) (sTest) (fun t => t.setup.tap = .extest ∧ tapActs t = .bypass) = true := by decide +kernel

theorem test_purge : after (.purgeStart .host 5) (st []) (fun t => t.cellar.purgeAt = some 0 ∧ t.fget .STR_CTL_purge_running 0 = 1) = true := by decide +kernel

theorem test_holdFrom : after (.portDownDebounceExpire 0) (sLoss) (fun t => portUp t 0 = false) = true := by decide +kernel

/-- The printed parity of every word of the shipped library is what the loader computes (R166, R169, R182, R190). -/
theorem test_library : libNano.all (fun r => nanoStored (r.word % 2 ^ 256) == r.word) = true ∧
    libMicro.all (fun r => microStored r.word == r.stored) = true ∧ libDisp.all (fun e => dispStored e.2 == e.2) = true ∧
    holdsLibrary library = true := by decide +kernel

/-- LB_KEY is written and reads 0; PORT_CFG reads what it holds (R8). -/
theorem test_write_only : regRead (st [(.LB_KEY_key, 0, 5)]) .host .LB_KEY 0 = 0 ∧
    regRead (st [(.PORT_CFG_admin_en, 3, 1)]) .host .PORT_CFG 3 = 2 ^ Fld.PORT_CFG_admin_en.info.lsb + regRead (st []) .host .PORT_CFG 3 := by
  decide +kernel

/-! ### Invariants and frames -/

/-- Commands of both frames that answer; a register bank out of form is told; a link up stays an up port in the frame's reach. -/
theorem wit_frames : after (.linkConditionChange 0 true false false) sLoss (fun t => t.cget .linkGlitch 0 = 1) = true ∧
    after (.wheyEpochNow .host) sMsg (fun t => t.fget .WHEY_STATUS_export_epoch 0 = 1) = true ∧
    after (.registerWrite .host 0 (regOffset .EVT_MASK 0 0) 8 5) (st []) (fun t => t.fget .EVT_MASK_mask 0 = 5) = true ∧
    (Instr.linkConditionChange 0 true false false).ctorIdx < Instr.scrubPass.ctorIdx ∧
    Instr.scrubPass.ctorIdx ≤ (Instr.wheyEpochNow .host).ctorIdx := by decide +kernel

/-- The canonical form refuses a field at its reset value, one too wide, and a counter at 0. -/
theorem test_banks : State.reset.banksOk = true ∧ ({ State.reset with reg := [((Fld.PORT_CFG_an_en.ctorIdx, 0), 2)] } : State).banksOk = false ∧
    ({ State.reset with ctr := [((Ctr.txOk.ctorIdx, 0), 0)] } : State).banksOk = false ∧
    ({ State.reset with ctr := [((Ctr.txOk.ctorIdx, 0), 2 ^ 48)] } : State).banksOk = false := by decide +kernel

/-! ### Ill-formed commands are refused, one for each check -/

theorem test_wf1 :
    (Instr.frameReceive 256 false false [] false).wf = false ∧ (Instr.frameReceive 255 false false [] false).wf = true ∧
    (Instr.linkConditionChange 256 true true true).wf = false ∧ (Instr.linkConditionChange 255 true true true).wf = true ∧
    (Instr.portUpDebounceExpire 256).wf = false ∧ (Instr.portUpDebounceExpire 255).wf = true ∧
    (Instr.fecCodewordDecode 256 [] false).wf = false ∧ (Instr.fecCodewordDecode 255 [] false).wf = true ∧
    (Instr.milkNeed 256 [] []).wf = false ∧ (Instr.milkNeed 255 [] []).wf = true ∧
    (Instr.pauseTimerExpire 256 0).wf = false ∧ (Instr.pauseTimerExpire 0 9).wf = false ∧ (Instr.pauseTimerExpire 255 8).wf = true ∧
    (Instr.octetLayoutWrite .host 32 0).wf = false ∧ (Instr.octetLayoutWrite .host 31 0).wf = true ∧
    (Instr.portCfgWrite .host 256 0).wf = false ∧ (Instr.portCfgWrite .host 255 0).wf = true ∧
    (Instr.portAdminDisable .host 256).wf = false ∧ (Instr.portAdminDisable .host 255).wf = true ∧
    (Instr.headerSlotGrant 16 0).wf = false ∧ (Instr.headerSlotGrant 0 3).wf = false ∧ (Instr.headerSlotGrant 15 2).wf = true := by
  decide

theorem test_wf2 :
    (Instr.selEntryWrite .host 64 0).wf = false ∧ (Instr.selEntryWrite .host 63 0).wf = true ∧
    (Instr.profileWrite .host 64 0).wf = false ∧ (Instr.profileWrite .host 63 0).wf = true ∧
    (Instr.skimLookup 0 16).wf = false ∧ (Instr.skimLookup 0 15).wf = true ∧
    (Instr.skimBypass 16 0).wf = false ∧ (Instr.skimBypass 15 0).wf = true ∧
    (Instr.writeback 16).wf = false ∧ (Instr.writeback 15).wf = true ∧
    (Instr.strainerSearchComplete 16 0 []).wf = false ∧ (Instr.strainerSearchComplete 15 0 []).wf = true ∧
    (Instr.vatWriteComplete 257 0).wf = false ∧ (Instr.vatWriteComplete 0 16).wf = false ∧ (Instr.vatWriteComplete 256 15).wf = true ∧
    (Instr.frameTransmitStart 257).wf = false ∧ (Instr.frameTransmitStart 256).wf = true ∧
    (Instr.pfcRefresh 256 0).wf = false ∧ (Instr.pfcRefresh 0 8).wf = false ∧ (Instr.pfcRefresh 255 7).wf = true ∧
    (Instr.indirWrite .host 16 0 0).wf = false ∧ (Instr.indirWrite .host 0 65536 0).wf = false ∧ (Instr.indirWrite .host 15 65535 0).wf = true := by
  decide

theorem test_wf3 :
    (Instr.poolQuotaWrite .host 274 0 0).wf = false ∧ (Instr.poolQuotaWrite .host 0 4 0).wf = false ∧ (Instr.poolQuotaWrite .host 273 3 0).wf = true ∧
    (Instr.injBufferRetry 64).wf = false ∧ (Instr.injBufferRetry 63).wf = true ∧
    (Instr.poisonBucketRebuildDone 33554432).wf = false ∧ (Instr.poisonBucketRebuildDone 33554431).wf = true ∧
    (Instr.purgeStart .host 262144).wf = false ∧ (Instr.purgeStart .host 262143).wf = true ∧
    (Instr.cmdNop 64 0).wf = false ∧ (Instr.cmdNop 63 0).wf = true ∧
    (Instr.doorbellWrite 64 0 0 0).wf = false ∧ (Instr.doorbellWrite 0 8 0 0).wf = false ∧ (Instr.doorbellWrite 0 0 9 0).wf = false ∧ (Instr.doorbellWrite 63 7 8 0).wf = true ∧
    (Instr.ringEnable 64 0 0).wf = false ∧ (Instr.ringEnable 0 8 0).wf = false ∧ (Instr.ringEnable 63 7 0).wf = true ∧
    (Instr.irqModTimer 64 0).wf = false ∧ (Instr.irqModTimer 0 8).wf = false ∧ (Instr.irqModTimer 63 7).wf = true ∧
    (Instr.rsetOwnerWrite .host 64 0).wf = false ∧ (Instr.rsetOwnerWrite .host 63 0).wf = true ∧
    (Instr.functionLevelReset 64).wf = false ∧ (Instr.functionLevelReset 63).wf = true := by
  decide

theorem test_wf4 :
    (Instr.domainSwitchComplete 160).wf = false ∧ (Instr.domainSwitchComplete 159).wf = true ∧
    (Instr.milkChunk 256 0 0 [] []).wf = false ∧ (Instr.milkChunk 0 8 0 [] []).wf = false ∧ (Instr.milkChunk 0 0 768 [] []).wf = false ∧ (Instr.milkChunk 255 7 767 [] []).wf = true ∧
    (Instr.milkAck 256 0 []).wf = false ∧ (Instr.milkAck 0 768 []).wf = false ∧ (Instr.milkAck 255 767 []).wf = true ∧
    (Instr.milkRefuse 256 0 []).wf = false ∧ (Instr.milkRefuse 0 65536 []).wf = false ∧ (Instr.milkRefuse 255 65535 []).wf = true ∧
    (Instr.milkResendTimeout 768).wf = false ∧ (Instr.milkResendTimeout 767).wf = true ∧
    (Instr.reseqRelease 4096 0).wf = false ∧ (Instr.reseqRelease 0 16).wf = false ∧ (Instr.reseqRelease 4095 15).wf = true ∧
    (Instr.pinExpire 4096 0).wf = false ∧ (Instr.pinExpire 0 16).wf = false ∧ (Instr.pinExpire 4095 15).wf = true ∧
    (Instr.triggerArm .host 8 0).wf = false ∧ (Instr.triggerArm .host 7 0).wf = true ∧
    (Instr.trigOutFall 4).wf = false ∧ (Instr.trigOutFall 3).wf = true ∧
    (Instr.ipfixEnable .host 4 0).wf = false ∧ (Instr.ipfixEnable .host 3 0).wf = true := by
  decide

theorem test_wf5 :
    (Instr.ipfixMessageTimeout 4).wf = false ∧ (Instr.ipfixMessageTimeout 3).wf = true ∧
    (Instr.qwmWrite .host 257 0 0).wf = false ∧ (Instr.qwmWrite .host 0 16 0).wf = false ∧ (Instr.qwmWrite .host 256 15 0).wf = true ∧
    (Instr.tallyProgWrite .host 395 0 0).wf = false ∧ (Instr.tallyProgWrite .host 0 8 0).wf = false ∧ (Instr.tallyProgWrite .host 394 7 0).wf = true ∧
    (Instr.criticalStateError 9).wf = false ∧ (Instr.criticalStateError 8).wf = true ∧
    (Instr.domainRelease 11 {}).wf = false ∧ (Instr.domainRelease 10 {}).wf = true ∧
    (Instr.sliceRestoreDone 16).wf = false ∧ (Instr.sliceRestoreDone 15).wf = true ∧
    (Instr.strainerBlockReloadDone 8).wf = false ∧ (Instr.strainerBlockReloadDone 7).wf = true ∧
    (Instr.clusterReloadDone 64).wf = false ∧ (Instr.clusterReloadDone 63).wf = true ∧
    (Instr.laneTestWrite .host 32 0 0).wf = false ∧ (Instr.laneTestWrite .host 0 8 0).wf = false ∧ (Instr.laneTestWrite .host 31 7 0).wf = true ∧
    (Instr.laneTestLatch .host 32 0 0 0).wf = false ∧ (Instr.laneTestLatch .host 0 8 0 0).wf = false ∧ (Instr.laneTestLatch .host 31 7 0 0).wf = true := by
  decide

theorem test_wf6 :
    (Instr.laneTestClear .host 32 0).wf = false ∧ (Instr.laneTestClear .host 0 8).wf = false ∧ (Instr.laneTestClear .host 31 7).wf = true ∧
    (Instr.checkerLock 32 0).wf = false ∧ (Instr.checkerLock 0 8).wf = false ∧ (Instr.checkerLock 31 7).wf = true ∧
    (Instr.checkerLockLoss 32 0 0 0).wf = false ∧ (Instr.checkerLockLoss 0 8 0 0).wf = false ∧ (Instr.checkerLockLoss 31 7 0 0).wf = true ∧
    (Instr.registerWrite .host 0 0 9 0).wf = false ∧ (Instr.registerWrite .host 0 0 8 0).wf = true ∧
    (Instr.busMasterEnableChange 64 true).wf = false ∧ (Instr.busMasterEnableChange 63 true).wf = true ∧
    (Instr.next ⟨64, 0, 0⟩ .good).wf = false ∧ (Instr.next ⟨0, 16, 0⟩ .good).wf = false ∧ (Instr.next ⟨0, 0, 8⟩ .good).wf = false ∧ (Instr.next ⟨63, 15, 7⟩ .good).wf = true ∧
    (Instr.contextEccError ⟨64, 0, 0⟩).wf = false ∧
    (Instr.storeWordRewrite ⟨64, 0, 0, 0⟩).wf = false ∧ (Instr.storeWordRewrite ⟨0, 3, 0, 0⟩).wf = false ∧ (Instr.storeWordRewrite ⟨0, 0, 2, 0⟩).wf = false ∧ (Instr.storeWordRewrite ⟨0, 1, 0, 2048⟩).wf = false ∧ (Instr.storeWordRewrite ⟨63, 0, 1, 16383⟩).wf = true ∧
    (Instr.imgAbort (.cmd 64 0)).wf = false ∧ (Instr.thermalReport [1]).wf = false ∧ (Instr.thermalReport (List.replicate 64 0)).wf = true ∧
    (Instr.domainRelease 4 { memFailed := [160] }).wf = false ∧ (Instr.domainRelease 5 { hbm := [(4, 0, 1)] }).wf = false ∧ (Instr.domainRelease 5 { hbm := [(0, 32, 1)] }).wf = false ∧ (Instr.domainRelease 10 { d2d := [(8, 0, 1)] }).wf = false ∧ (Instr.domainRelease 10 { d2d := [(0, 16, 1)] }).wf = false ∧ (Instr.domainRelease 5 { hbm := [(0, 1, 1), (0, 1, 2)] }).wf = false ∧ (Instr.domainRelease 10 { d2d := [(1, 1, 1), (1, 1, 2)] }).wf = false ∧ (Instr.domainRelease 4 { memFailed := [255] }).wf = true := by
  decide

/-! ### The flash: its regions and its bytes (R340, R341) -/

/-- The corners of the regions. -/
theorem test_flash_regions : flashRegion 0x2FFFFFF = some (.slot 0, 0x2FFFFFF) ∧ flashRegion 0x3000000 = some (.slot 1, 0) ∧
    flashRegion 0x6FFFFFF = some (.golden, 0xFFFFFF) ∧ flashRegion 0x701FFFF = some (.boot 1, 0xFFFF) ∧
    flashRegion 0x7030000 = some (.slotState 1, 0) ∧ flashRegion 0x7FFFFFF = some (.log, 0xFBFFFF) ∧ flashRegion 0x8000000 = none := by
  decide

/-- A record's bytes open with "FVBR", and say what the record says. -/
theorem test_boot_bytes : (bootBytes ⟨7, 1, true, 2, 0, 5, 9, 600⟩).take 9 = [0x46, 0x56, 0x42, 0x52, 7, 0, 0, 0, 0x0B] ∧
    (bootBytes ⟨7, 1, true, 2, 0, 5, 9, 600⟩).length = 128 ∧
    bootRead (bootBytes ⟨7, 1, true, 2, 0, 5, 9, 600⟩) = some ⟨7, 1, true, 2, 0, 5, 9, 600⟩ ∧
    bootRead ((bootBytes ⟨7, 1, true, 2, 0, 5, 9, 600⟩).set 4 8) = none := by
  decide +kernel

/-- A slot state region says the digest, the chunks marked and whether the slot is verified. -/
theorem test_slot_state_bytes : slotStateRead (slotStateBytes (sImg [0, 1] (some 5)) 1) =
      some ((slotDigest (sImg [0, 1] (some 5)) 1).getD 0, [0, 1], false) ∧
    slotStateRead (slotStateBytes State.reset 1) = none := by
  decide +kernel

end Sys2Proof.Tests
end

section
/-! SUPPORT. Sets of parts as lists of parts: what is in the set of a list, and how `Kept` under such a set states a frame. -/

namespace Sys2Proof.Machine

/-- The set of the parts of a list. -/
def partsMask (l : List Part) : Nat := l.foldr (fun p n => Nat.lor p.bit n) 0

/-- The set of every part outside a list. -/
def maskBut (l : List Part) : Nat := Nat.xor (2 ^ 200 * 2 ^ 197 - 1) (partsMask l)

theorem Part.idx_lt (p : Part) : p.idx < 200 + 197 := by
  cases p
  case reg r => have := Reg.lt_all r; simp only [Part.idx]; omega
  case ctr c => have := Ctr.lt_all c; simp only [Part.idx]; omega
  all_goals decide

/-- The parts in the order of their numbers. -/
theorem allParts_getElem_idx (p : Part) : allParts[p.idx]? = some p := by
  cases p
  case reg r => cases r <;> rfl
  case ctr c => cases c <;> rfl
  all_goals rfl

theorem Part.idx_inj {p q : Part} (h : p.idx = q.idx) : p = q :=
  Option.some.inj ((allParts_getElem_idx p).symm.trans (h ▸ allParts_getElem_idx q))

theorem partsMask_testBit (l : List Part) (p : Part) : (partsMask l).testBit p.idx = true ↔ p ∈ l := by
  induction l with
  | nil => simp [partsMask]
  | cons q l ih =>
    have e : partsMask (q :: l) = q.bit ||| partsMask l := rfl
    rw [e, Nat.testBit_or, Bool.or_eq_true, ih, Part.bit_eq, Nat.testBit_two_pow, decide_eq_true_eq, List.mem_cons]
    exact or_congr_left ⟨fun h => (Part.idx_inj h).symm, fun h => h ▸ rfl⟩

theorem maskBut_testBit (l : List Part) (p : Part) : (maskBut l).testBit p.idx = true ↔ p ∉ l := by
  have k := partsMask_testBit l p
  have e : (maskBut l).testBit p.idx = !(partsMask l).testBit p.idx := by
    have a : (2 ^ 200 * 2 ^ 197 - 1).testBit p.idx = true := by
      obtain ⟨n, hn⟩ : ∃ n, n = 200 + 197 := ⟨_, rfl⟩
      rw [← Nat.pow_add, ← hn, Nat.testBit_two_pow_sub_one, hn]
      exact decide_eq_true p.idx_lt
    show ((2 ^ 200 * 2 ^ 197 - 1) ^^^ partsMask l).testBit p.idx = _
    rw [Nat.testBit_xor, a, Bool.true_xor]
  rw [e, Bool.not_eq_true', ← k, Bool.not_eq_true]

/-- A set whose bits are those of another lies within it. -/
theorem Within.of_beq {a b : Nat} (h : Nat.beq (Nat.lor a b) b = true) : Within a b := Nat.eq_of_beq_eq_true h

theorem Within.bit_of_testBit {p : Part} {fr : Nat} (h : fr.testBit p.idx = true) : Within p.bit fr := by
  refine Nat.eq_of_testBit_eq fun i => ?_
  show (p.bit ||| fr).testBit i = fr.testBit i
  rw [Nat.testBit_or, Part.bit_eq, Nat.testBit_two_pow]
  by_cases e : p.idx = i
  · rw [← e, h, Bool.or_true]
  · simp [e]

theorem Within.part {l : List Part} {p : Part} {fr : Nat} (hm : Within (partsMask l) fr) (hp : p ∈ l) : Within p.bit fr :=
  .bit_of_testBit (hm.testBit ((partsMask_testBit l p).2 hp))

/-- A part outside a list is in the set of what is outside it. -/
theorem Within.but {l : List Part} {p : Part} {fr : Nat} (hm : Within (maskBut l) fr) (hp : p ∉ l) : Within p.bit fr :=
  .bit_of_testBit (hm.testBit ((maskBut_testBit l p).2 hp))

theorem Within.all_parts {l : List Part} {fr : Nat} (h : ∀ p ∈ l, Within p.bit fr) : Within (partsMask l) fr := by
  induction l with
  | nil => exact Nat.zero_or fr
  | cons p l ih =>
    show (p.bit ||| partsMask l) ||| fr = fr
    rw [Nat.or_assoc, show partsMask l ||| fr = fr from ih fun q hq => h q (List.mem_cons_of_mem _ hq)]
    exact h p List.mem_cons_self

theorem Within.sublist {l m : List Part} {fr : Nat} (hm : Within (partsMask m) fr) (h : ∀ p ∈ l, p ∈ m) : Within (partsMask l) fr :=
  .all_parts fun p hp => hm.part (h p hp)

theorem Kept.changesOnly {l : List Part} {s t : State} (h : Kept (partsMask l) s t) : ChangesOnly l s t :=
  fun p hp => h.same p (by rw [← Bool.not_eq_true, partsMask_testBit]; exact hp)

/-- What a set leaves out stands. -/
theorem Kept.same_of_but {l : List Part} {s t : State} {p : Part} (h : Kept (maskBut l) s t) (hp : p ∈ l) : p.same s t :=
  h.same p (by rw [← Bool.not_eq_true, maskBut_testBit]; exact fun k => k hp)

/-! ### The block states one by one -/

section
variable {fr : Nat} {z0 t : State}

theorem Kept.setRind (h : Kept fr z0 t) (r : Rind) (ho : r.otp = t.rind.otp) (hf : r.fuses = t.rind.fuses)
    (hm : Within (2 ^ 19) fr) : Kept fr z0 { t with rind := r } :=
  h.build ho hf .same .same .same .same .same .same .same .same .same .same .same .same .same .same .same .same .same .same .same
    (.hit hm) .same .same .same

theorem Kept.setHost (h : Kept fr z0 t) (v : HostSt) (hm : Within (2 ^ 16) fr) : Kept fr z0 { t with host := v } :=
  h.build rfl rfl .same .same .same .same .same .same .same .same .same .same .same .same .same .same .same .same (.hit hm) .same .same
    .same .same .same .same

theorem Kept.setSetup (h : Kept fr z0 t) (v : SetupSt) (hm : Within (2 ^ 21) fr) : Kept fr z0 { t with setup := v } :=
  h.build rfl rfl .same .same .same .same .same .same .same .same .same .same .same .same .same .same .same .same .same .same .same
    .same .same (.hit hm) .same

end

end Sys2Proof.Machine
end

section
/-! SUPPORT. The write of one register: what it can change is its own fields, the bit that reports a refusal, the log of a locked
write, and what the write does beyond its fields. -/

namespace Sys2Proof.Machine

/-- An access under which a written value reaches the field itself, in a register. -/
def Reg.takes (r : Reg) (a : Acc) : Bool := a == .rw || a == .rwp || a == .w1c || (a == .wo && r == .LB_KEY)

/-- A register with a field that a write reaches. -/
def Reg.taken (r : Reg) : Bool := r.table.any (fun p => r.takes p.2.acc)

/-- A register without an action of its own in `regStore`. -/
def Reg.plain (r : Reg) : Bool := r != .TIME_CTL && r != .TRIG_CTL && r != .TALLY_PROG

/-- The parts that a write of a register can change, but for what it does beyond its fields. -/
def writeParts (r : Reg) : List Part :=
  evtParts ++ [.reg .GLOBAL_STATUS, .reg .LOCK_LOG] ++ (if r.taken then [.reg r] else []) ++
    (regErrBit r 0).toList.map (fun e => .reg e.1.reg) ++ (if r.whole then [.setup] else [])

/-- What an accepted write does beyond its fields, page by page. -/
def afterWrite (s0 s : State) (w : RegWrite) : State :=
  afterHost s0 (afterWhey s0 (afterTime (afterFlow s0 (afterBuf s0 (afterSep s0 (afterPort s0 s w) w) w) w) w) w) w

theorem acceptWrite_eq (s0 : State) (w : RegWrite) :
    acceptWrite s0 w = evtUpdate (afterWrite s0 (applyFields s0 w) w) := rfl

/-- A register's table lists its own fields. -/
theorem table_reg (r : Reg) : ∀ p ∈ r.table, p.1.reg = r := by cases r <;> decide

/-- The bit that reports a refusal is one field for all instances of a register. -/
theorem regErrBit_map_fst (r : Reg) (i j : Nat) : (regErrBit r i).map Prod.fst = (regErrBit r j).map Prod.fst := by
  cases r <;> rfl

theorem regStore_of_plain {r : Reg} (h : r.plain = true) (s : State) (req : Requester) (i off v mask : Nat) :
    regStore s req r i off v mask =
      let w : RegWrite := ⟨r, i, merged (regRaw s r i) v mask, v &&& mask⟩
      if s.fbit .SETUP_LOCK_lock 0 && changesRwp s w then (lockLog s req off 0).event .GLOBAL_STATUS_lock_violation 0
      else if regRefused s r i w.v mask then refuseWrite s r i else acceptWrite s w := by
  unfold regStore
  split
  case h_1 | h_2 | h_3 => cases h
  case h_4 => rfl

section
variable {fr : Nat} {z0 s : State} {r : Reg}

theorem applyField_of_not_takes (s : State) (w : RegWrite) {p : Fld × FldInfo} (h : w.r.takes p.2.acc = false) :
    applyField s w p = s := by
  refine List.foldl_fixed' (fun c => ?_) _
  cases k : p.2.acc <;> rw [k] at h
  case rw | rwp | w1c => cases h
  case wo => exact if_neg fun e => by rw [e] at h; cases h

theorem applyField_keptAt {w : RegWrite} {p : Fld × FldInfo} (hp : Within (Part.bit (.reg p.1.reg)) fr) (h : Kept fr z0 s) :
    Kept fr z0 (applyField s w p) := by
  refine Kept.foldl (fun s c h => ?_) h
  have k (v : Nat) : Kept fr z0 (s.fset p.1 (w.i * p.2.reps + c) v) := Kept.field _ _ _ h hp
  dsimp only
  split
  · exact k _
  · exact k _
  · exact Kept.ite (fun _ => k _) (fun _ => h)
  · exact Kept.ite (fun _ => k _) (fun _ => h)
  all_goals exact h

theorem applyFields_keptAt {w : RegWrite} (hw : w.r.taken = true → Within (Part.bit (.reg w.r)) fr) (h : Kept fr z0 s) :
    Kept fr z0 (applyFields s w) := by
  refine Kept.foldlMem (fun s p hp h => ?_) h
  cases ht : w.r.takes p.2.acc with
  | false => rw [applyField_of_not_takes s w ht]; exact h
  | true =>
    refine applyField_keptAt ?_ h
    rw [table_reg w.r p hp]
    exact hw (List.any_eq_true.2 ⟨p, hp, ht⟩)

/-- What the event bits need of a write's parts. -/
theorem Within.writeEvt (hm : Within (partsMask (writeParts r)) fr) : Within 0x80000410004 fr :=
  Within.trans rfl (hm.sublist (l := evtParts) fun p hp => by simp [writeParts, hp])

theorem refuseWrite_keptAt {i : Nat} (hm : Within (partsMask (writeParts r)) fr) (h : Kept fr z0 s) : Kept fr z0 (refuseWrite s r i) := by
  unfold refuseWrite
  cases e : regErrBit r i with
  | none => exact h
  | some x =>
    obtain ⟨f, n⟩ := x
    have k : (regErrBit r 0).map Prod.fst = some f := by rw [regErrBit_map_fst r 0 i, e]; rfl
    have hf : Within (Part.bit (.reg f.reg)) fr := by
      obtain ⟨y, hy, rfl⟩ := Option.map_eq_some_iff.1 k
      exact hm.part (by simp [writeParts, hy])
    refine State.event_kept _ _ hm.writeEvt ?_ hf
    split
    · obtain ⟨rfl, -⟩ := Prod.mk.inj (Option.some.inj e)
      exact Kept.field _ _ _ h hf
    · obtain ⟨rfl, -⟩ := Prod.mk.inj (Option.some.inj e)
      exact Kept.field _ _ _ h hf
    · exact h

theorem lockRefuse_keptAt {req : Requester} {off : Nat} (hm : Within (partsMask (writeParts r)) fr) (h : Kept fr z0 s) :
    Kept fr z0 ((lockLog s req off 0).event .GLOBAL_STATUS_lock_violation 0) := by
  have hl : Within (Part.bit (.reg .LOCK_LOG)) fr := hm.part (by simp [writeParts])
  have hg : Within (Part.bit (.reg .GLOBAL_STATUS)) fr := hm.part (by simp [writeParts])
  exact State.event_kept _ _ hm.writeEvt (lockLog_kept _ _ _ (Within.trans rfl hl) h) hg

theorem acceptWrite_keptAt {w : RegWrite} (hm : Within (partsMask (writeParts w.r)) fr)
    (ha : Kept fr z0 (applyFields s w) → Kept fr z0 (afterWrite s (applyFields s w) w)) (h : Kept fr z0 s) :
    Kept fr z0 (acceptWrite s w) := by
  rw [acceptWrite_eq]
  refine evtUpdate_kept hm.writeEvt (ha (applyFields_keptAt (fun ht => hm.part ?_) h))
  simp [writeParts, ht]

/-- A store keeps what its further effects keep, of the value that it leaves. -/
theorem regStore_keptOf {req : Requester} {i off v mask : Nat} (hr : r.plain = true) (hm : Within (partsMask (writeParts r)) fr)
    (ha : ∀ a, let w : RegWrite := ⟨r, i, merged (regRaw s r i) v mask, a⟩;
      Kept fr z0 (applyFields s w) → Kept fr z0 (afterWrite s (applyFields s w) w)) (h : Kept fr z0 s) :
    Kept fr z0 (regStore s req r i off v mask) := by
  rw [regStore_of_plain hr]
  refine Kept.ite (fun _ => lockRefuse_keptAt hm h) (fun _ => ?_)
  exact Kept.ite (fun _ => refuseWrite_keptAt hm h) (fun _ => acceptWrite_keptAt hm (ha _) h)

/-- A store keeps what its further effects keep, whatever value it leaves. -/
theorem regStore_keptAt {req : Requester} {i off v mask : Nat} (hr : r.plain = true) (hm : Within (partsMask (writeParts r)) fr)
    (ha : ∀ t x a, Kept fr z0 t → Kept fr z0 (afterWrite s t ⟨r, i, x, a⟩)) (h : Kept fr z0 s) :
    Kept fr z0 (regStore s req r i off v mask) :=
  regStore_keptOf hr hm (fun _ => ha _ _ _) h

theorem regStore_timeCtl_kept {req : Requester} {i off v mask : Nat} (hm : Within (partsMask (writeParts .TIME_CTL)) fr)
    (ht : Kept fr z0 (timeCtlWrite s (merged (regRaw s .TIME_CTL i) v mask))) (h : Kept fr z0 s) :
    Kept fr z0 (regStore s req .TIME_CTL i off v mask) :=
  Kept.ite (fun _ => lockRefuse_keptAt hm h) (fun _ => evtUpdate_kept hm.writeEvt ht)

theorem regStore_trigCtl_kept {req : Requester} {i off v mask : Nat} (hm : Within (partsMask (writeParts .TRIG_CTL)) fr)
    (ht : ∀ x, Kept fr z0 (trigCtlWrite s req i x)) (h : Kept fr z0 s) : Kept fr z0 (regStore s req .TRIG_CTL i off v mask) :=
  Kept.ite (fun _ => lockRefuse_keptAt hm h) (fun _ => ht _)

/-- A write of an instance that is not there does nothing. -/
theorem reg8_of_not_lands {req : Requester} {i word v : Nat} (hl : writeLands s r i = false) : reg8 s req r i word v = s := by
  rw [writeLands, Bool.and_eq_false_iff, decide_eq_false_iff_not, Nat.not_lt, Bool.not_eq_false'] at hl
  exact if_pos (hl.elim .inl fun k => .inr (.inr k))

/-- A write of the first word of a register that takes effect word by word. -/
theorem reg8_eq_regStore {req : Requester} {i v : Nat} (hw : r.whole = false) (hl : writeLands s r i = true) :
    reg8 s req r i 0 v = regStore s req r i (regOffset r i 0) v (2 ^ 64 - 1) := by
  have hb : 0 < r.info.bits := by cases r <;> decide
  simp only [writeLands, Bool.and_eq_true, decide_eq_true_eq, Bool.not_eq_true'] at hl
  rw [reg8, if_neg (by rw [hl.2]; simp; omega), wordWrite, hw]
  simp

/-- The words staged by a write. -/
theorem stageWords_kept {x : Tab (Option Nat)} (hm : Within (2 ^ 21) fr) (h : Kept fr z0 s) :
    Kept fr z0 { s with setup := { s.setup with words := x } } := h.setSetup _ hm

theorem wordWrite_keptBy {req : Requester} {i word off v mask : Nat} (hw : r.whole = true → Within (2 ^ 21) fr)
    (hs : ∀ t x m, Kept fr z0 t → Kept fr z0 (regStore t req r i off x m)) (h : Kept fr z0 s) :
    Kept fr z0 (wordWrite s req r i word off v mask) := by
  unfold wordWrite
  refine Kept.ite (fun k => ?_) (fun _ => hs _ _ _ h)
  exact Kept.ite (fun _ => stageWords_kept (hw k) h) (fun _ => hs _ _ _ (stageWords_kept (hw k) h))

theorem reg8_keptBy {req : Requester} {i word v : Nat} (hw : r.whole = true → Within (2 ^ 21) fr)
    (hs : ∀ t off x m, Kept fr z0 t → Kept fr z0 (regStore t req r i off x m)) (h : Kept fr z0 s) :
    Kept fr z0 (reg8 s req r i word v) :=
  Kept.ite (fun _ => h) (fun _ => wordWrite_keptBy hw (fun t => hs t _) h)

/-- A command that writes a register keeps what the write and its further effects keep. -/
theorem reg8_keptAt {req : Requester} {i word v : Nat} (hr : r.plain = true) (hm : Within (partsMask (writeParts r)) fr)
    (ha : ∀ s t x a, Kept fr z0 t → Kept fr z0 (afterWrite s t ⟨r, i, x, a⟩)) (h : Kept fr z0 s) :
    Kept fr z0 (reg8 s req r i word v) :=
  reg8_keptBy (fun k => Within.trans rfl (hm.part (p := .setup) (by simp [writeParts, k])))
    (fun _ _ _ _ => regStore_keptAt hr hm (ha _)) h

/-- A write of the first word of a register that takes effect word by word keeps what its store keeps. -/
theorem reg8_kept_of_regStore {req : Requester} {i v : Nat} (hw : r.whole = false)
    (hs : Kept fr z0 (regStore s req r i (regOffset r i 0) v (2 ^ 64 - 1))) (h : Kept fr z0 s) : Kept fr z0 (reg8 s req r i 0 v) := by
  cases hl : writeLands s r i with
  | true => rw [reg8_eq_regStore hw hl]; exact hs
  | false => rw [reg8_of_not_lands hl]; exact h

/-- A command that writes the first word of a register keeps what the further effects of the value that it leaves keep. -/
theorem reg8_keptOf {req : Requester} {i v : Nat} (hr : r.plain = true) (hw : r.whole = false)
    (hm : Within (partsMask (writeParts r)) fr)
    (ha : ∀ a, let w : RegWrite := ⟨r, i, merged (regRaw s r i) v (2 ^ 64 - 1), a⟩;
      Kept fr z0 (applyFields s w) → Kept fr z0 (afterWrite s (applyFields s w) w)) (h : Kept fr z0 s) :
    Kept fr z0 (reg8 s req r i 0 v) :=
  reg8_kept_of_regStore hw (regStore_keptOf hr hm ha h) h

end

end Sys2Proof.Machine
end

section
/-! SUPPORT. The value that an accepted write leaves: its bits, and the fields that then read it. -/

namespace Sys2Proof.Machine

theorem bits_lt (v l w : Nat) : bits v l w < 2 ^ w := Nat.mod_lt _ (Nat.two_pow_pos w)

theorem bits_testBit (v l w i : Nat) : (bits v l w).testBit i = (decide (i < w) && v.testBit (l + i)) := by
  rw [bits, Nat.testBit_mod_two_pow, Nat.testBit_div_two_pow, Nat.add_comm i l]

/-- A field of a value depends on the value's low bits alone. -/
theorem bits_of_mod {x y l w n : Nat} (h : x % 2 ^ n = y % 2 ^ n) (hl : l + w ≤ n) : bits x l w = bits y l w := by
  refine Nat.eq_of_testBit_eq fun i => ?_
  rw [bits_testBit, bits_testBit]
  by_cases hi : i < w
  · have k (z : Nat) : z.testBit (l + i) = (z % 2 ^ n).testBit (l + i) := by
      rw [Nat.testBit_mod_two_pow, decide_eq_true (by omega), Bool.true_and]
    rw [k x, k y, h]
  · simp [hi]

/-- A write that supplies the low bits of a register leaves them there. -/
theorem merged_mod (old v : Nat) {m : Nat} (h : m ≤ 1024) : merged old v (2 ^ m - 1) % 2 ^ m = v % 2 ^ m := by
  refine Nat.eq_of_testBit_eq fun i => ?_
  rw [Nat.testBit_mod_two_pow, Nat.testBit_mod_two_pow]
  by_cases hi : i < m
  · have hm : (2 ^ m - 1).testBit i = true := by rw [Nat.testBit_two_pow_sub_one]; exact decide_eq_true hi
    have hl (n : Nat) (hn : m ≤ n) : 2 ^ m - 1 < 2 ^ n :=
      Nat.lt_of_lt_of_le (Nat.sub_lt (Nat.two_pow_pos m) Nat.one_pos) (Nat.pow_le_pow_right (by decide) hn)
    obtain ⟨n, hn⟩ : ∃ n, n = 1024 := ⟨_, rfl⟩
    rw [← hn] at h
    rw [merged, ← hn, Nat.sub_sub, Nat.add_comm 1, Nat.testBit_or, Nat.testBit_and, Nat.testBit_and, hm,
      Nat.testBit_two_pow_sub_succ (hl _ h), hm, Bool.not_true, Bool.and_false, Bool.and_false, Bool.false_or, Bool.and_true]
  · simp [hi]

/-- A write of the lowest word leaves what it supplies there. -/
theorem bits_merged_word (old v : Nat) {l w : Nat} (h : l + w ≤ 64) : bits (merged old v (2 ^ 64 - 1)) l w = bits v l w :=
  bits_of_mod (merged_mod old v (by decide)) h

theorem bits_setBits_same (v l w x : Nat) : bits (setBits v l w x) l w = x % 2 ^ w := by
  have k : v = 2 ^ l * (2 ^ w * (v / 2 ^ l / 2 ^ w)) + bits v l w * 2 ^ l + v % 2 ^ l := by
    rw [bits, Nat.mul_comm _ (2 ^ l), ← Nat.mul_add, Nat.div_add_mod, Nat.div_add_mod]
  have e : setBits v l w x = 2 ^ l * (2 ^ w * (v / 2 ^ l / 2 ^ w) + x % 2 ^ w) + v % 2 ^ l := by
    rw [setBits, Nat.mul_add, Nat.mul_comm (2 ^ l) (x % 2 ^ w)]
    omega
  rw [bits, e, Nat.mul_add_div (Nat.two_pow_pos l), Nat.div_eq_of_lt (Nat.mod_lt v (Nat.two_pow_pos l)), Nat.add_zero,
    Nat.mul_add_mod, Nat.mod_mod]

/-! ### The fields that read back -/

/-- A register's table lists each field once. -/
theorem table_nodup (r : Reg) : (r.table.map Prod.fst).Nodup := by cases r <;> decide

/-- Software writes the field itself. -/
def FldInfo.written (x : FldInfo) : Prop := x.acc = .rw ∨ x.acc = .rwp

theorem applyField_fget_other {s : State} {w : RegWrite} {p : Fld × FldInfo} {f : Fld} {j : Nat} (h : f ≠ p.1) :
    (applyField s w p).fget f j = s.fget f j := by
  refine List.foldlRecOn (List.range p.2.reps) _ (motive := fun t : State => t.fget f j = s.fget f j) rfl fun t ht c _ => ?_
  have k (n v : Nat) : (t.fset p.1 n v).fget f j = s.fget f j := by
    rw [fget_fset_other _ _ _ _ _ _ (fun e => h (congrArg Prod.fst e))]
    exact ht
  dsimp only
  split
  · exact k _ _
  · exact k _ _
  · split
    · exact k _ _
    · exact ht
  · split
    · exact k _ _
    · exact ht
  all_goals exact ht

/-- A field that software writes reads what the write leaves in it. -/
theorem applyField_fget_same {s : State} {w : RegWrite} {p : Fld × FldInfo} (ha : p.2.written) {c : Nat}
    (hc : c < p.2.reps) : (applyField s w p).fget p.1 (w.i * p.2.reps + c) = fldIn w.v p.1 c := by
  have hw (v k : Nat) : fldIn v p.1 k % 2 ^ p.1.info.width = fldIn v p.1 k := Nat.mod_mod _ _
  have e : applyField s w p =
      (List.range p.2.reps).foldl (fun t k => t.fset p.1 (w.i * p.2.reps + k) (fldIn w.v p.1 k)) s := by
    obtain h | h := ha <;> simp only [applyField, h]
  have k (n : Nat) (hn : c < n) :
      ((List.range n).foldl (fun t k => t.fset p.1 (w.i * p.2.reps + k) (fldIn w.v p.1 k)) s).fget p.1 (w.i * p.2.reps + c) =
        fldIn w.v p.1 c := by
    induction n with
    | zero => omega
    | succ n ih =>
      rw [List.range_succ, List.foldl_append, List.foldl_cons, List.foldl_nil]
      by_cases h : c = n
      · rw [h, fget_fset_same, hw]
      · rw [fget_fset_other _ _ _ _ _ _ (fun x => h (by have := (Prod.mk.inj x).2; omega)), ih (by omega)]
  rw [e, k _ hc]

/-- Every field that software writes reads what the write leaves in it, after all fields are written. -/
theorem applyFields_fget {s : State} {r : Reg} {i v a : Nat} {p : Fld × FldInfo} (hp : p ∈ r.table) (ha : p.2.written) {c : Nat}
    (hc : c < p.2.reps) : (applyFields s ⟨r, i, v, a⟩).fget p.1 (i * p.2.reps + c) = fldIn v p.1 c := by
  have hn := table_nodup r
  show (r.table.foldl (fun t q => applyField t ⟨r, i, v, a⟩ q) s).fget p.1 _ = _
  generalize r.table = l at hp hn
  induction l generalizing s with
  | nil => cases hp
  | cons q l ih =>
    obtain ⟨hq, hn⟩ := List.nodup_cons.1 hn
    obtain rfl | hp := List.mem_cons.1 hp
    · refine List.foldlRecOn l _ (motive := fun t : State => t.fget p.1 (i * p.2.reps + c) = fldIn v p.1 c)
        (applyField_fget_same ha hc) fun t ht x hx => ?_
      have hne : p.1 ≠ x.1 := fun e => hq (e ▸ List.mem_map_of_mem hx)
      rw [applyField_fget_other hne, ht]
    · exact ih hp hn

/-- Accepted fields read back as long as what follows leaves the register. -/
theorem readsBack_of_same {s t : State} {r : Reg} {i v a : Nat} (h : (Part.reg r).same (applyFields s ⟨r, i, v, a⟩) t) :
    ReadsBack t r i v :=
  fun p hp ha _ hc => (h p.1 _ (table_reg r p hp)).trans (applyFields_fget hp ha hc)

end Sys2Proof.Machine
end

section
/-! SUPPORT. What the write of each register does beyond its fields, and the resets of the host interface, each with the parts that
it can change. -/

namespace Sys2Proof.Machine

-- A proof that evaluates in the kernel waits for every declaration before it, and holds a thread while it waits.
set_option Elab.async false

section
variable {fr : Nat} {z0 t : State}

theorem Kept.setEgress (h : Kept fr z0 t) (v : Egress) (hm : Within (2 ^ 9) fr) : Kept fr z0 { t with egress := v } :=
  h.build rfl rfl .same .same .same .same .same .same .same .same .same (.hit hm) .same .same .same .same .same .same .same .same .same
    .same .same .same .same

theorem Kept.setTime (h : Kept fr z0 t) (v : TimeSt) (hm : Within (2 ^ 15) fr) : Kept fr z0 { t with time := v } :=
  h.build rfl rfl .same .same .same .same .same .same .same .same .same .same .same .same .same .same .same (.hit hm) .same .same .same
    .same .same .same .same

theorem Kept.setImages (h : Kept fr z0 t) (v : Images) (hm : Within (2 ^ 20) fr) : Kept fr z0 { t with images := v } :=
  h.build rfl rfl .same .same .same .same .same .same .same .same .same .same .same .same .same .same .same .same .same .same .same
    .same (.hit hm) .same .same

theorem Kept.setHostRindSetup {v : HostSt} {r : Rind} {u : SetupSt} (h : Kept fr z0 t) (hv : Within (2 ^ 16) fr) (hr : Within (2 ^ 19) fr)
    (hu : Within (2 ^ 21) fr) (ho : r.otp = t.rind.otp) (hf : r.fuses = t.rind.fuses) :
    Kept fr z0 { t with host := v, rind := r, setup := u } :=
  h.build ho hf .same .same .same .same .same .same .same .same .same .same .same .same .same .same .same .same (.hit hv) .same .same
    (.hit hr) .same (.hit hu) .same

theorem Kept.setWheyTelem {v : List WheyRec} {u : Telemetry} (h : Kept fr z0 t) (hv : Within (2 ^ 17) fr) (hu : Within (2 ^ 18) fr) :
    Kept fr z0 { t with whey := v, telem := u } :=
  h.build rfl rfl .same .same .same .same .same .same .same .same .same .same .same .same .same .same .same .same .same (.hit hv) (.hit hu)
    .same .same .same .same

/-- A choice between two states by a test. -/
theorem Kept.cond {b : Bool} {x y : State} (hx : Kept fr z0 x) (hy : Kept fr z0 y) : Kept fr z0 (if b then x else y) :=
  .ite (fun _ => hx) (fun _ => hy)

end

/-! ### After the write of one register -/

section
variable {fr : Nat} {z0 s t : State} {i v a : Nat}

theorem portCfg_after_kept
    (hm : Within 0x800e00220400020e0007e00d000000000000000000000000006c000000000001b80002000200000000000008000043079f fr)
    (h : Kept fr z0 t) : Kept fr z0 (afterWrite s t ⟨.PORT_CFG, i, v, a⟩) := by
  have hp : Within 0x10 fr := .trans rfl hm
  have hd : Within 0x800e00220400020e0007e00d0000000000000000000000000064000000000001b80002000200000000000008000043079f fr :=
    .trans rfl hm
  refine linkJudge_kept i (.trans rfl hm) (Kept.cond ?_ (latchCfg_kept i hp ?_)) <;>
  · refine Kept.cond (declareDown_kept i false hd ?_) ?_ <;>
    refine Kept.cond (State.setPort_kept _ _ hp ?_) ?_ <;>
    exact Kept.cond (adminOff_kept i hd h) h

theorem portHold_after_kept
    (hm : Within 0x800e00220400000e0000200d0000000000000000000000000060000000000001b80002000200000000000008000043039f fr)
    (h : Kept fr z0 t) : Kept fr z0 (afterWrite s t ⟨.PORT_HOLD, i, v, a⟩) := by
  show Kept fr z0 (match holdEnd t i with | some e => if e ≤ t.now then flushStart t i else t | none => t)
  split
  · exact .ite (fun _ => flushStart_kept i hm h) (fun _ => h)
  · exact h

theorem portTest_after_kept (hm : Within (2 ^ 4) fr) (hl : Within 0x80000000000000000000000000000000000000000000012 fr)
    (hc : Within (Part.bit (.reg .PORT_CHK)) fr) (h : Kept fr z0 t) : Kept fr z0 (afterWrite s t ⟨.PORT_TEST, i, v, a⟩) := by
  have k {x : State} (f : Fld) (hf : f.reg = .PORT_CHK) (hx : Kept fr z0 x) : Kept fr z0 (x.fset f i 0) := .field _ _ _ hx (hf ▸ hc)
  have kg : Kept fr z0 (if !s.fbit .PORT_TEST_gen_en i && t.fbit .PORT_TEST_gen_en i then t.fset .PORT_CHK_gen_sent i 0 else t) :=
    .cond (k _ rfl h) h
  exact linkJudge_kept i hl (State.setPort_kept i _ hm (.cond (k _ rfl (k _ rfl (k _ rfl (k _ rfl kg)))) kg))

theorem laneTest_after_kept (hm : Within 0x4000000000000000000000000000 fr) (hs : Within (2 ^ 21) fr) (h : Kept fr z0 t) :
    Kept fr z0 (afterWrite s t ⟨.LANE_TEST, i, v, a⟩) := by
  let w : RegWrite := ⟨.LANE_TEST, i, v, a⟩
  have h1 : Kept fr z0 (if w.hit .LANE_TEST_latch then laneLatch t i else t) := .cond (laneLatch_kept i hm h) h
  have h2 := Kept.cond (b := w.hit .LANE_TEST_clear) (laneClear_kept i (.trans rfl hs) h1) h1
  exact .cond (.field _ _ _ h2 (.trans rfl hm)) h2

theorem lbKeyCtl_after_kept (hm : Within (Part.bit (.reg .SEP_STATUS)) fr) (h : Kept fr z0 t) :
    Kept fr z0 (afterWrite s t ⟨.LB_KEY_CTL, i, v, a⟩) :=
  .cond (.field _ _ _ h hm) h

theorem carvePool_keptAt {k : Nat} (hm : Within (Part.bit (.reg .POOL_STATUS)) fr) (h : Kept fr z0 t) : Kept fr z0 (carvePool t k) :=
  .field _ _ _ (.field _ _ _ (.field _ _ _ h hm) hm) hm

theorem poolCarve_after_kept (hm : Within (Part.bit (.reg .POOL_STATUS)) fr) (h : Kept fr z0 t) :
    Kept fr z0 (afterWrite s t ⟨.POOL_CARVE, i, v, a⟩) :=
  Kept.foldl (fun _ _ hx => carvePool_keptAt hm hx) h

theorem vatCfg_after_kept (hm : Within (Part.bit (.reg .VAT_STATUS)) fr) (h : Kept fr z0 t) :
    Kept fr z0 (afterWrite s t ⟨.VAT_CFG, i, v, a⟩) :=
  .field _ _ _ (.field _ _ _ (.field _ _ _ h hm) hm) hm

theorem strCtl_after_kept (hm : Within 0x1000000080000410804 fr) (h : Kept fr z0 t) : Kept fr z0 (afterWrite s t ⟨.STR_CTL, i, v, a⟩) :=
  .cond (purgeGo_kept hm h) h

theorem ageCtl_after_kept (hm : Within 0x4000000000000000000000000000000000000000000000004000000000000000000802 fr) (h : Kept fr z0 t) :
    Kept fr z0 (afterWrite s t ⟨.AGE_CTL, i, v, a⟩) :=
  .cond (sweepStart_kept false hm (.field _ _ _ h (.trans rfl hm))) h

theorem cellarRekey_after_kept (hm : Within 0x10000000008080000410805 fr) (h : Kept fr z0 t) :
    Kept fr z0 (afterWrite s t ⟨.CELLAR_REKEY, i, v, a⟩) :=
  .cond (rekeyBegin_kept hm h) h

theorem timeCfg_after_kept (hm : Within (Part.bit (.reg .TIME_STATUS)) fr) (ht : Within (2 ^ 15) fr) (h : Kept fr z0 t) :
    Kept fr z0 (afterWrite s t ⟨.TIME_CFG, i, v, a⟩) := by
  have k : Kept fr z0 (t.fset .TIME_STATUS_ref_active 0 (t.fget .TIME_CFG_ref_sel 0)) := .field _ _ _ h hm
  exact .cond k (k.setTime _ ht)

theorem timeRate_after_kept (hm : Within 0x40000000000000 fr) (h : Kept fr z0 t) : Kept fr z0 (afterWrite s t ⟨.TIME_RATE, i, v, a⟩) :=
  rateShow_kept hm h

theorem timeSlew_after_kept (hm : Within 0x40000000000000 fr) (hs : Within 0x400000000008000 fr) (h : Kept fr z0 t) :
    Kept fr z0 (afterWrite s t ⟨.TIME_SLEW, i, v, a⟩) :=
  rateShow_kept hm (.field _ _ _ (setSlew_kept _ hs h) (.trans rfl hm))

theorem wheyCtl_after_kept
    (hm : Within 0x834e00220400000e090fe00d0000000000000000000000000010000000000001b800000002080000000000080000470b8f fr)
    (h : Kept fr z0 t) : Kept fr z0 (afterWrite s t ⟨.WHEY_CTL, i, v, a⟩) :=
  .cond (wheyClose_kept hm h) h

theorem ipfixCfg_after_kept
    (hm : Within 0x860e00220400000e090fe00d0000000000000000000000000010000000000001b80000000208000000000008000047038f fr)
    (h : Kept fr z0 t) : Kept fr z0 (afterWrite s t ⟨.IPFIX_CFG, i, v, a⟩) :=
  .cond (sendTemplates_kept i hm h) h

theorem qwm_after_kept (hm : Within (2 ^ 9) fr) (h : Kept fr z0 t) : Kept fr z0 (afterWrite s t ⟨.QWM, i, v, a⟩) :=
  .cond (h.setEgress _ hm) h

theorem tallyCtl_after_kept
    (hm : Within 0x1ffffffffffffffffffffffffffffffffffffffffffffffffffffffffffff000009000000900000000000000080000450006 fr)
    (h : Kept fr z0 t) : Kept fr z0 (afterWrite s t ⟨.TALLY_CTL, i, v, a⟩) :=
  .cond (snapRequest_kept 1 hm (.field _ _ _ h (.trans rfl hm))) h

theorem evtRearm_after_kept (hm : Within 0x10004 fr) (h : Kept fr z0 t) : Kept fr z0 (afterWrite s t ⟨.EVT_REARM, i, v, a⟩) :=
  .ite (fun _ => setMessage_kept 0 31 hm h) (fun _ => h)

/-- A ring that is enabled, or was disabled, does not end. -/
theorem ringCtl_after_kept_of_en (he : t.fbit .RING_CTL_en i = true) (hs : Within 0x100000000000000000000000000000000115108 fr)
    (h : Kept fr z0 t) : Kept fr z0 (afterWrite s t ⟨.RING_CTL, i, v, a⟩) := by
  show Kept fr z0 (if t.fbit .RING_CTL_en i && !s.fbit .RING_CTL_en i then _ else if s.fbit .RING_CTL_en i && !t.fbit .RING_CTL_en i
    then _ else t)
  rw [he, Bool.not_true, Bool.and_false]
  exact .cond (ringStart_kept _ _ hs h) h

/-- A ring that is disabled does not start. -/
theorem ringCtl_after_kept_of_not_en (he : t.fbit .RING_CTL_en i = false)
    (hm : Within 0x2040000000000000000000000000000000000000000000000000100000000000000000000000000480000410006 fr) (h : Kept fr z0 t) :
    Kept fr z0 (afterWrite s t ⟨.RING_CTL, i, v, a⟩) := by
  show Kept fr z0 (if t.fbit .RING_CTL_en i && !s.fbit .RING_CTL_en i then _ else if s.fbit .RING_CTL_en i && !t.fbit .RING_CTL_en i
    then _ else t)
  rw [he, Bool.false_and, if_neg (by decide)]
  exact .cond (ringEnd_kept _ _ hm h) h

theorem setupLock_after_kept (hl : Within (Part.bit (.reg .SETUP_LOCK)) fr) (hg : Within (Part.bit (.reg .GLOBAL_STATUS)) fr)
    (h : Kept fr z0 t) : Kept fr z0 (afterWrite s t ⟨.SETUP_LOCK, i, v, a⟩) :=
  .cond (.field _ _ _ (.field _ _ _ h hl) hg) h

end

/-! ### Writes whose effects depend on the value written -/

section
variable {fr : Nat} {z0 s : State}

/-- A write of the first word of RING_CTL leaves the enable bit that it holds. -/
theorem ringCtl_en_applied {i v a : Nat} :
    (applyFields s ⟨.RING_CTL, i, merged (regRaw s .RING_CTL i) v (2 ^ 64 - 1), a⟩).fget .RING_CTL_en i = bits v 5 1 := by
  have h := applyFields_fget (s := s) (r := .RING_CTL) (i := i) (v := merged (regRaw s .RING_CTL i) v (2 ^ 64 - 1)) (a := a)
    (p := (.RING_CTL_en, Fld.RING_CTL_en.info)) (by decide) (.inl rfl) (c := 0) (by decide)
  have e : i * Fld.RING_CTL_en.info.reps + 0 = i := Nat.mul_one i
  exact (e ▸ h).trans (bits_merged_word _ _ (by decide))

theorem execRingEnable_keptAt {set ring : Nat} {value : Word} (hm : Within (partsMask (writeParts .RING_CTL)) fr)
    (hs : Within 0x100000000000000000000000000000000115108 fr) (h : Kept fr z0 s) : KeptO fr z0 (execRingEnable set ring value s) := by
  refine .next (.ite (fun _ => reg8_keptOf rfl rfl hm (fun a => ringCtl_after_kept_of_en ?_ hs) h) (fun _ => h))
  rw [State.fbit, ringCtl_en_applied, bits_setBits_same]
  rfl

theorem execRingDisable_keptAt {set ring : Nat} {value : Word} (hm : Within (partsMask (writeParts .RING_CTL)) fr)
    (he : Within 0x2040000000000000000000000000000000000000000000000000100000000000000000000000000480000410006 fr) (h : Kept fr z0 s) :
    KeptO fr z0 (execRingDisable set ring value s) := by
  refine .next (.ite (fun _ => reg8_keptOf rfl rfl hm (fun a => ringCtl_after_kept_of_not_en ?_ he) h) (fun _ => h))
  rw [State.fbit, ringCtl_en_applied, bits_setBits_same]
  rfl

/-- A write of TIME_CTL without step_go begins no step. -/
theorem timeCtlWrite_kept_of_even {v : Nat} (hv : bits v 0 1 = 0) (hm : Within 0x2040080000418204 fr) (h : Kept fr z0 s) :
    Kept fr z0 (timeCtlWrite s v) := by
  have k : Kept fr z0 (s.fset .TIME_CTL_step_at_pps 0 (bits v 1 1)) := .field _ _ _ h (.trans rfl hm)
  unfold timeCtlWrite
  rw [hv, if_neg (by decide)]
  exact .ite (fun _ => reepochGo_kept hm k) (fun _ => k)

theorem execReepoch_keptAt {req : Requester} (hm : Within (partsMask (writeParts .TIME_CTL)) fr) (hr : Within 0x2040080000418204 fr)
    (h : Kept fr z0 s) : KeptO fr z0 (execReepoch req s) := by
  refine .next (reg8_kept_of_regStore rfl (regStore_timeCtl_kept hm (timeCtlWrite_kept_of_even ?_ hr h) h) h)
  rw [bits_merged_word _ _ (by decide)]
  simp [bits]

end

/-! ### Resets of the host interface -/

/-- What the reset of a ring set can change. -/
def setResetParts : List Part := evtParts ++ ([.prog, .frames, .buffers, .skim, .churn, .rind, .images, .setup, .reg .RING_BASE,
  .reg .RING_CTL, .reg .SB_ADDR, .reg .SET_CTL, .reg .SET_ERR, .ctr .injLost, .ctr .ringOffDrop] : List Part)

/-- What the resets of all ring sets of a function can change. -/
def levelCParts : List Part := setResetParts ++ ([.reg .HIF_RESET_LOG, .reg .HIF_STATUS] : List Part)

section
variable {fr : Nat} {z0 s : State}

/-- The reset of one register instance touches that register alone. -/
theorem regReset_keptAt {r : Reg} {i : Nat} (hm : Within (Part.bit (.reg r)) fr) (h : Kept fr z0 s) : Kept fr z0 (regReset s r i) := by
  refine Kept.foldlMem (fun s p hp h => Kept.foldl (fun s c h => ?_) h) h
  exact .field _ _ _ h (by rw [table_reg r p hp]; exact hm)

theorem setReset_keptAt {set : Nat} (hm : Within (partsMask setResetParts) fr) (h : Kept fr z0 s) : Kept fr z0 (setReset s set) := by
  have sub {n : Nat} (k : Nat.beq (Nat.lor n (partsMask setResetParts)) (partsMask setResetParts) = true) : Within n fr := .trans k hm
  have hh : Within (2 ^ 16) fr := sub (by decide +kernel)
  have hr (r : Reg) (k : .reg r ∈ setResetParts) : Within (Part.bit (.reg r)) fr := hm.part k
  have hc : Within (Part.bit (.ctr .ringOffDrop)) fr := hm.part (by decide)
  have hp : Within 2 fr := sub (by decide +kernel)
  unfold setReset
  extract_lets s1 off s2 v2 s3 s4 s5 v5 u5 s6 r6 s7 v7
  have h1 : Kept fr z0 s1 := workReset_kept _ (sub (by decide +kernel)) h
  have h2 : Kept fr z0 s2 := State.count_kept _ _ _ _ hp h1 hc
  have h3 : Kept fr z0 s3 := h2.setHost _ hh
  have h4 : Kept fr z0 s4 := by
    refine Kept.foldl (fun x k hx => State.setRing_kept _ _ _ hh ?_) h3
    exact regReset_keptAt (hr _ (by decide)) (regReset_keptAt (hr _ (by decide)) hx)
  have h5 : Kept fr z0 s5 := by
    refine regReset_keptAt (hr _ (by decide)) (regReset_keptAt (hr _ (by decide)) ?_)
    exact regReset_keptAt (hr _ (by decide)) h4
  have h6 : Kept fr z0 s6 := h5.setHostRindSetup hh (sub (by decide +kernel)) (sub (by decide +kernel)) rfl rfl
  have h7 : Kept fr z0 s7 := by
    show Kept fr z0 (match s6.rind.mbx with | some m => _ | none => s6)
    split
    · exact .ite (fun _ => h6.setRind _ rfl rfl (sub (by decide +kernel))) (fun _ => h6)
    · exact h6
  refine evtUpdate_kept (sub (by decide +kernel)) (.ite (fun _ => ?_) (fun _ => h7))
  exact State.count_kept _ _ _ _ hp (h7.setHost _ hh) hc

theorem vfReset_keptAt {fn : Nat} (hm : Within (partsMask setResetParts) fr) (h : Kept fr z0 s) : Kept fr z0 (vfReset s fn) := by
  refine Kept.setHost ?_ _ (.trans (by decide +kernel) hm)
  exact Kept.foldl (fun _ _ hx => setReset_keptAt hm hx) h

theorem levelC_keptAt (hm : Within (partsMask levelCParts) fr) (h : Kept fr z0 s) : Kept fr z0 (levelC s) := by
  have hs : Within (partsMask setResetParts) fr := hm.sublist fun p hp => List.mem_append_left _ hp
  have sub {n : Nat} (k : Nat.beq (Nat.lor n (partsMask setResetParts)) (partsMask setResetParts) = true) : Within n fr := .trans k hs
  have hl : Within (Part.bit (.reg .HIF_RESET_LOG)) fr := hm.part (by decide)
  unfold levelC
  extract_lets s1 mine v1 r1 u1 s2 s3
  have h1 : Kept fr z0 s1 := Kept.foldl (fun _ _ hx => setReset_keptAt hs hx) h
  have h2 : Kept fr z0 s2 := h1.setHostRindSetup (sub (by decide +kernel)) (sub (by decide +kernel)) (sub (by decide +kernel)) rfl rfl
  have h3 : Kept fr z0 s3 := .field _ _ _ (.field _ _ _ h2 hl) hl
  exact State.event_kept _ _ (sub (by decide +kernel)) h3 (hm.part (by decide))

theorem execHostReset_keptAt {cause : HostResetCause} (hm : Within (partsMask levelCParts) fr)
    (hc : Within (Part.bit (.reg .RESET_CAUSE)) fr) (h : Kept fr z0 s) : KeptO fr z0 (execHostReset cause s) := by
  have hv : Within (2 ^ 16) fr := hm.part (p := .host) (by decide)
  refine .next ?_
  extract_lets s1
  have h1 : Kept fr z0 s1 := .field _ _ _ (.cond (levelC_keptAt hm h) h) hc
  cases cause with
  | perst => exact h1.setHostRindSetup (u := s1.setup) hv (hm.part (p := .rind) (by decide)) (hm.part (p := .setup) (by decide)) rfl rfl
  | dlDown => exact h1.setHost _ hv
  | hotReset => exact h1

theorem execFunctionLevelReset_keptAt {fn : Nat} (hm : Within (partsMask levelCParts) fr) (h : Kept fr z0 s) :
    KeptO fr z0 (execFunctionLevelReset fn s) := by
  have hs : Within (partsMask setResetParts) fr := hm.sublist fun p hp => List.mem_append_left _ hp
  exact .next (.ite (fun _ => levelC_keptAt hm h) (fun _ => .ite (fun _ => vfReset_keptAt hs h) (fun _ => h)))

theorem execVfEnableClear_keptAt (hm : Within (partsMask setResetParts) fr) (h : Kept fr z0 s) : KeptO fr z0 (execVfEnableClear s) := by
  refine .next (.ite (fun _ => Kept.setHost ?_ _ (hm.part (p := .host) (by decide))) (fun _ => h))
  exact Kept.foldl (fun _ _ hx => vfReset_keptAt hm hx) h

/-- A level D reset of the management complex touches its hold, its watchdog and what it has staged. -/
theorem domainReset_mgmt_kept (hm : Within 0x400280000 fr) (h : Kept fr z0 s) : Kept fr z0 (domainReset s 157) := by
  show Kept fr z0 (mgmtReset (setHeld _ 157 _))
  exact mgmtReset_kept (.trans rfl hm) (setHeld_kept _ _ (.trans rfl hm) (h.setRind _ rfl rfl (.trans rfl hm)))

theorem execWatchdogStage1_keptAt (hm : Within 0x400280000 fr) (hs : Within (Part.bit (.reg .RIND_STATUS)) fr)
    (hc : Within (Part.bit (.reg .RESET_CAUSE)) fr) (h : Kept fr z0 s) : KeptO fr z0 (execWatchdogStage1 s) := by
  refine .next (.ite (fun _ => Kept.setRind ?_ _ rfl rfl (.trans rfl hm)) (fun _ => h))
  exact domainReset_mgmt_kept hm (.field _ _ _ (.field _ _ _ h hs) hc)

end

end Sys2Proof.Machine
end

section
/-! SUPPORT. The frame of every command, command by command. -/

namespace Sys2Proof.Machine

-- A proof that evaluates in the kernel waits for every declaration before it, and holds a thread while it waits.
set_option Elab.async false

/-- Every command keeps what no command takes back, and changes only the parts that its row of `mayChange` lists. -/
theorem exec_kept (c : Instr) (s : State) : KeptO (partsMask (mayChange c)) s (exec c s) := by
  cases c
  all_goals dsimp only [mayChange, exec]
  case frameReceive => exact execFrameReceive_kept _ _ _ _ _ (.of_beq (by decide +kernel)) (.refl _ _)
  case linkConditionChange => exact execLinkConditionChange_kept _ _ _ _ (.of_beq (by decide +kernel)) (.refl _ _)
  case portUpDebounceExpire => exact execPortUpDebounceExpire_kept _ (.of_beq (by decide +kernel)) (.refl _ _)
  case portDownDebounceExpire => exact execPortDownDebounceExpire_kept _ (.of_beq (by decide +kernel)) (.refl _ _)
  case autonegComplete => exact execAutonegComplete_kept _ (.of_beq (by decide +kernel)) (.refl _ _)
  case linkTrainingComplete => exact execLinkTrainingComplete_kept _ (.of_beq (by decide +kernel)) (.refl _ _)
  case fecCodewordDecode => exact execFecCodewordDecode_kept _ _ _ (.of_beq (by decide +kernel)) (.refl _ _)
  case fecDegradeWindowEnd => exact execFecDegradeWindowEnd_kept _ (.of_beq (by decide +kernel)) (.refl _ _)
  case pauseTimerExpire => exact execPauseTimerExpire_kept _ _ (.of_beq (by decide +kernel)) (.refl _ _)
  case holdExpire => exact execHoldExpire_kept _ (.of_beq (by decide +kernel)) (.refl _ _)
  case flushComplete => exact execFlushComplete_kept _ (.of_beq (by decide +kernel)) (.refl _ _)
  case octetLayoutWrite =>
    exact .next (reg8_keptAt rfl (.of_beq (by decide +kernel)) (fun _ _ _ _ h => h) (.refl _ _))
  case portCfgWrite =>
    exact .next (reg8_keptAt rfl (.of_beq (by decide +kernel))
      (fun _ _ _ _ h => portCfg_after_kept (.of_beq (by decide +kernel)) h) (.refl _ _))
  case portAdminDisable =>
    exact .next (reg8_keptAt rfl (.of_beq (by decide +kernel))
      (fun _ _ _ _ h => portCfg_after_kept (.of_beq (by decide +kernel)) h) (.refl _ _))
  case portHoldWrite =>
    exact .next (reg8_keptAt rfl (.of_beq (by decide +kernel))
      (fun _ _ _ _ h => portHold_after_kept (.of_beq (by decide +kernel)) h) (.refl _ _))
  case headerSlotGrant => exact execHeaderSlotGrant_kept _ _ (.of_beq (by decide +kernel)) (.refl _ _)
  case recirculate => exact execRecirculate_kept _ (.of_beq (by decide +kernel)) (.refl _ _)
  case selEntryWrite =>
    exact .next (reg8_keptAt rfl (.of_beq (by decide +kernel)) (fun _ _ _ _ h => h) (.refl _ _))
  case profileWrite =>
    exact .next (reg8_keptAt rfl (.of_beq (by decide +kernel)) (fun _ _ _ _ h => h) (.refl _ _))
  case lbKeyApply =>
    exact .next (reg8_keptAt rfl (.of_beq (by decide +kernel))
      (fun _ _ _ _ h => lbKeyCtl_after_kept (.of_beq (by decide +kernel)) h) (.refl _ _))
  case lbKeySwitch => exact execLbKeySwitch_kept (.of_beq (by decide +kernel)) (.refl _ _)
  case skimLookup => exact execSkimLookup_kept _ _ (.of_beq (by decide +kernel)) (.refl _ _)
  case cellarLookupComplete => exact execCellarLookupComplete_kept _ _ (.of_beq (by decide +kernel)) (.refl _ _)
  case strainerProbeIssue => exact execStrainerProbeIssue_kept _ (.of_beq (by decide +kernel)) (.refl _ _)
  case strainerSearchComplete => exact execStrainerSearchComplete_kept _ _ _ (.of_beq (by decide +kernel)) (.refl _ _)
  case skimBypass => exact execSkimBypass_kept _ _ (.of_beq (by decide +kernel)) (.refl _ _)
  case bypassExit => exact execBypassExit_kept _ _ (.of_beq (by decide +kernel)) (.refl _ _)
  case writeback => exact execWriteback_kept _ (.of_beq (by decide +kernel)) (.refl _ _)
  case hintRewrite => exact execHintRewrite_kept (.of_beq (by decide +kernel)) (.refl _ _)
  case hintSkip => exact execHintSkip_kept (.of_beq (by decide +kernel)) (.refl _ _)
  case taskDispatch => exact execTaskDispatch_kept _ (.of_beq (by decide +kernel)) (.refl _ _)
  case recordWindowComplete => exact execRecordWindowComplete_kept _ (.of_beq (by decide +kernel)) (.refl _ _)
  case next => exact execNext_kept _ _ (.of_beq (by decide +kernel)) (.refl _ _)
  case jump => exact execJump_kept _ _ (.of_beq (by decide +kernel)) (.refl _ _)
  case branch => exact execBranch_kept _ _ (.of_beq (by decide +kernel)) (.refl _ _)
  case branchn => exact execBranchn_kept _ _ (.of_beq (by decide +kernel)) (.refl _ _)
  case call => exact execCall_kept _ _ (.of_beq (by decide +kernel)) (.refl _ _)
  case ret => exact execRet_kept _ _ (.of_beq (by decide +kernel)) (.refl _ _)
  case dispatch => exact execDispatch_kept _ _ (.of_beq (by decide +kernel)) (.refl _ _)
  case wait => exact execWait_kept _ _ (.of_beq (by decide +kernel)) (.refl _ _)
  case checkpoint => exact execCheckpoint_kept _ _ (.of_beq (by decide +kernel)) (.refl _ _)
  case yield => exact execYield_kept _ _ (.of_beq (by decide +kernel)) (.refl _ _)
  case commit => exact execCommit_kept _ _ (.of_beq (by decide +kernel)) (.refl _ _)
  case abort => exact execAbort_kept _ _ (.of_beq (by decide +kernel)) (.refl _ _)
  case end_ => exact execEnd_kept _ _ (.of_beq (by decide +kernel)) (.refl _ _)
  case storeWordRewrite => exact execStoreWordRewrite_kept _ (.of_beq (by decide +kernel)) (.refl _ _)
  case routineIssueLimit => exact execRoutineIssueLimit_kept _ (.of_beq (by decide +kernel)) (.refl _ _)
  case contextEccError => exact execContextEccError_kept _ (.of_beq (by decide +kernel)) (.refl _ _)
  case natTakeAnswer => exact execNatTakeAnswer_kept _ (.of_beq (by decide +kernel)) (.refl _ _)
  case taskCommit => exact execTaskCommit_kept _ (.of_beq (by decide +kernel)) (.refl _ _)
  case teardown => exact execTeardown_kept _ (.of_beq (by decide +kernel)) (.refl _ _)
  case frameRelease => exact execFrameRelease_kept _ (.of_beq (by decide +kernel)) (.refl _ _)
  case vatWriteComplete => exact execVatWriteComplete_kept _ _ (.of_beq (by decide +kernel)) (.refl _ _)
  case vatReadIssue => exact execVatReadIssue_kept _ _ (.of_beq (by decide +kernel)) (.refl _ _)
  case vatReadComplete => exact execVatReadComplete_kept _ _ (.of_beq (by decide +kernel)) (.refl _ _)
  case frameTransmitStart => exact execFrameTransmitStart_kept _ (.of_beq (by decide +kernel)) (.refl _ _)
  case frameTransmitEnd => exact execFrameTransmitEnd_kept _ (.of_beq (by decide +kernel)) (.refl _ _)
  case pfcFrameSend => exact execPfcFrameSend_kept _ (.of_beq (by decide +kernel)) (.refl _ _)
  case pfcRefresh => exact execPfcRefresh_kept _ _ (.of_beq (by decide +kernel)) (.refl _ _)
  case launchDue => exact execLaunchDue_kept _ (.of_beq (by decide +kernel)) (.refl _ _)
  case gateEntryExpire => exact execGateEntryExpire_kept _ (.of_beq (by decide +kernel)) (.refl _ _)
  case indirWrite =>
    refine .next (.ite (fun _ => ?_) fun _ => .refl _ _)
    exact reg8_keptAt rfl (.of_beq (by decide +kernel)) (fun _ _ _ _ h => h) (.refl _ _)
  case poolCarveWrite =>
    exact .next (reg8_keptAt rfl (.of_beq (by decide +kernel))
      (fun _ _ _ _ h => poolCarve_after_kept (.of_beq (by decide +kernel)) h) (.refl _ _))
  case poolQuotaWrite =>
    refine .next (.ite (fun _ => ?_) fun _ => .refl _ _)
    exact reg8_keptAt rfl (.of_beq (by decide +kernel)) (fun _ _ _ _ h => h) (.refl _ _)
  case vatCfgWrite =>
    exact .next (reg8_keptAt rfl (.of_beq (by decide +kernel))
      (fun _ _ _ _ h => vatCfg_after_kept (.of_beq (by decide +kernel)) h) (.refl _ _))
  case injBufferRetry => exact execInjBufferRetry_kept _ (.of_beq (by decide +kernel)) (.refl _ _)
  case bufEccError => exact execBufEccError_kept _ (.of_beq (by decide +kernel)) (.refl _ _)
  case hbmEccError => exact execHbmEccError_kept _ (.of_beq (by decide +kernel)) (.refl _ _)
  case poisonBucketRebuildDone => exact execPoisonBucketRebuildDone_kept _ (.of_beq (by decide +kernel)) (.refl _ _)
  case skimEccError => exact execSkimEccError_kept _ (.of_beq (by decide +kernel)) (.refl _ _)
  case scrubPass => exact execScrubPass_kept (.of_beq (by decide +kernel)) (.refl _ _)
  case strBlockCfgWrite =>
    exact .next (reg8_keptAt rfl (.of_beq (by decide +kernel)) (fun _ _ _ _ h => h) (.refl _ _))
  case strLkpWrite =>
    exact .next (reg8_keptAt rfl (.of_beq (by decide +kernel)) (fun _ _ _ _ h => h) (.refl _ _))
  case purgeStart =>
    exact .next (reg8_keptAt rfl (.of_beq (by decide +kernel))
      (fun _ _ _ _ h => strCtl_after_kept (.of_beq (by decide +kernel)) h) (.refl _ _))
  case purgeVisit => exact execPurgeVisit_kept (.of_beq (by decide +kernel)) (.refl _ _)
  case sweepNow =>
    exact .next (reg8_keptAt rfl (.of_beq (by decide +kernel))
      (fun _ _ _ _ h => ageCtl_after_kept (.of_beq (by decide +kernel)) h) (.refl _ _))
  case sweepVisit => exact execSweepVisit_kept (.of_beq (by decide +kernel)) (.refl _ _)
  case sweepEnd => exact execSweepEnd_kept (.of_beq (by decide +kernel)) (.refl _ _)
  case rekeyStart =>
    exact .next (reg8_keptAt rfl (.of_beq (by decide +kernel))
      (fun _ _ _ _ h => cellarRekey_after_kept (.of_beq (by decide +kernel)) h) (.refl _ _))
  case rekeyMigrateVisit => exact execRekeyMigrateVisit_kept (.of_beq (by decide +kernel)) (.refl _ _)
  case rekeySwitch => exact execRekeySwitch_kept (.of_beq (by decide +kernel)) (.refl _ _)
  case cmdNop => exact execCmdNop_kept _ _ (.of_beq (by decide +kernel)) (.refl _ _)
  case flowInsert => exact execFlowInsert_kept _ _ (.of_beq (by decide +kernel)) (.refl _ _)
  case flowUpdate => exact execFlowUpdate_kept _ _ (.of_beq (by decide +kernel)) (.refl _ _)
  case flowDelete => exact execFlowDelete_kept _ _ (.of_beq (by decide +kernel)) (.refl _ _)
  case flowRead => exact execFlowRead_kept _ _ (.of_beq (by decide +kernel)) (.refl _ _)
  case strainerWrite => exact execStrainerWrite_kept _ _ (.of_beq (by decide +kernel)) (.refl _ _)
  case strainerRead => exact execStrainerRead_kept _ _ (.of_beq (by decide +kernel)) (.refl _ _)
  case epochPublish => exact execEpochPublish_kept _ _ (.of_beq (by decide +kernel)) (.refl _ _)
  case drainSet => exact execDrainSet_kept _ _ (.of_beq (by decide +kernel)) (.refl _ _)
  case drainComplete => exact execDrainComplete_kept (.of_beq (by decide +kernel)) (.refl _ _)
  case drainLimitExpire => exact execDrainLimitExpire_kept (.of_beq (by decide +kernel)) (.refl _ _)
  case bankMirrorComplete => exact execBankMirrorComplete_kept (.of_beq (by decide +kernel)) (.refl _ _)
  case doorbellWrite => exact execDoorbellWrite_kept _ _ _ _ (.of_beq (by decide +kernel)) (.refl _ _)
  case descriptorFetch => exact execDescriptorFetch_kept _ _ _ (.of_beq (by decide +kernel)) (.refl _ _)
  case injDirect => exact execInjDirect_kept _ _ (.of_beq (by decide +kernel)) (.refl _ _)
  case injProcess => exact execInjProcess_kept _ _ (.of_beq (by decide +kernel)) (.refl _ _)
  case puntDeliver => exact execPuntDeliver_kept _ (.of_beq (by decide +kernel)) (.refl _ _)
  case wheyDeliver => exact execWheyDeliver_kept (.of_beq (by decide +kernel)) (.refl _ _)
  case statusBlockWrite => exact execStatusBlockWrite_kept _ (.of_beq (by decide +kernel)) (.refl _ _)
  case irqModTimer => exact execIrqModTimer_kept _ _ (.of_beq (by decide +kernel)) (.refl _ _)
  case evtRearmWrite =>
    exact .next (reg8_keptAt rfl (.of_beq (by decide +kernel))
      (fun _ _ _ _ h => evtRearm_after_kept (.of_beq (by decide +kernel)) h) (.refl _ _))
  case ringEnable => exact execRingEnable_keptAt (.of_beq (by decide +kernel)) (.of_beq (by decide +kernel)) (.refl _ _)
  case ringDisable => exact execRingDisable_keptAt (.of_beq (by decide +kernel)) (.of_beq (by decide +kernel)) (.refl _ _)
  case ringQuiesced => exact execRingQuiesced_kept _ _ (.of_beq (by decide +kernel)) (.refl _ _)
  case ringDmaError => exact execRingDmaError_kept _ _ (.of_beq (by decide +kernel)) (.refl _ _)
  case rsetOwnerWrite =>
    exact .next (reg8_keptAt rfl (.of_beq (by decide +kernel)) (fun _ _ _ _ h => h) (.refl _ _))
  case vfEnableClear => exact execVfEnableClear_keptAt (.of_beq (by decide +kernel)) (.refl _ _)
  case functionLevelReset => exact execFunctionLevelReset_keptAt (.of_beq (by decide +kernel)) (.refl _ _)
  case hostReset => exact execHostReset_keptAt (.of_beq (by decide +kernel)) (.of_beq (by decide +kernel)) (.refl _ _)
  case perstRelease => exact execPerstRelease_kept (.of_beq (by decide +kernel)) (.refl _ _)
  case pcieEnterCompliance => exact execPcieEnterCompliance_kept (.of_beq (by decide +kernel)) (.refl _ _)
  case getVersion => exact execGetVersion_kept (.of_beq (by decide +kernel)) (.refl _ _)
  case getCapabilities => exact execGetCapabilities_kept (.of_beq (by decide +kernel)) (.refl _ _)
  case negotiateAlgorithms => exact execNegotiateAlgorithms_kept _ _ (.of_beq (by decide +kernel)) (.refl _ _)
  case getDigests => exact execGetDigests_kept (.of_beq (by decide +kernel)) (.refl _ _)
  case getCertificate => exact execGetCertificate_kept _ _ _ (.of_beq (by decide +kernel)) (.refl _ _)
  case challenge => exact execChallenge_kept _ _ (.of_beq (by decide +kernel)) (.refl _ _)
  case getMeasurements => exact execGetMeasurements_kept _ _ (.of_beq (by decide +kernel)) (.refl _ _)
  case getStatus => exact execGetStatus_kept _ (.of_beq (by decide +kernel)) (.refl _ _)
  case getHistory => exact execGetHistory_kept _ (.of_beq (by decide +kernel)) (.refl _ _)
  case causeClear => exact execCauseClear_kept _ (.of_beq (by decide +kernel)) (.refl _ _)
  case resetChip => exact execResetChip_kept _ (.of_beq (by decide +kernel)) (.refl _ _)
  case resetChipAssert => exact execResetChipAssert_kept (.of_beq (by decide +kernel)) (.refl _ _)
  case resetDomain => exact execResetDomain_kept _ (.of_beq (by decide +kernel)) (.refl _ _)
  case domainHold => exact execDomainHold_kept _ (.of_beq (by decide +kernel)) (.refl _ _)
  case powerSet => exact execPowerSet_kept _ (.of_beq (by decide +kernel)) (.refl _ _)
  case domainSwitchComplete => exact execDomainSwitchComplete_kept _ (.of_beq (by decide +kernel)) (.refl _ _)
  case throttleSet => exact execThrottleSet_kept _ (.of_beq (by decide +kernel)) (.refl _ _)
  case keyPin => exact execKeyPin_kept _ (.of_beq (by decide +kernel)) (.refl _ _)
  case keyUnpin => exact execKeyUnpin_kept _ (.of_beq (by decide +kernel)) (.refl _ _)
  case recoveryComplete => exact execRecoveryComplete_kept _ (.of_beq (by decide +kernel)) (.refl _ _)
  case imgChunk => exact execImgChunk_kept _ (.of_beq (by decide +kernel)) (.refl _ _)
  case imgBitmap => exact execImgBitmap_kept _ (.of_beq (by decide +kernel)) (.refl _ _)
  case imgAbort => exact execImgAbort_kept _ (.of_beq (by decide +kernel)) (.refl _ _)
  case imgConfirm => exact execImgConfirm_kept _ (.of_beq (by decide +kernel)) (.refl _ _)
  case ticketSubmit => exact execTicketSubmit_kept _ (.of_beq (by decide +kernel)) (.refl _ _)
  case ticketCancel => exact execTicketCancel_kept _ (.of_beq (by decide +kernel)) (.refl _ _)
  case ownerSet => exact execOwnerSet_kept _ (.of_beq (by decide +kernel)) (.refl _ _)
  case ownerEnroll => exact execOwnerEnroll_kept _ (.of_beq (by decide +kernel)) (.refl _ _)
  case milkSet => exact execMilkSet_kept _ (.of_beq (by decide +kernel)) (.refl _ _)
  case chunkWriteComplete => exact execChunkWriteComplete_kept _ (.of_beq (by decide +kernel)) (.refl _ _)
  case slotVerifyComplete => exact execSlotVerifyComplete_kept (.of_beq (by decide +kernel)) (.refl _ _)
  case sessionOwnerTimeout => exact execSessionOwnerTimeout_kept (.of_beq (by decide +kernel)) (.refl _ _)
  case milkChunk => exact execMilkChunk_kept _ _ _ _ _ (.of_beq (by decide +kernel)) (.refl _ _)
  case milkNeed => exact execMilkNeed_kept _ _ _ (.of_beq (by decide +kernel)) (.refl _ _)
  case milkAck => exact execMilkAck_kept _ _ _ (.of_beq (by decide +kernel)) (.refl _ _)
  case milkRefuse => exact execMilkRefuse_kept _ _ _ (.of_beq (by decide +kernel)) (.refl _ _)
  case milkResendTimeout => exact execMilkResendTimeout_kept _ (.of_beq (by decide +kernel)) (.refl _ _)
  case milkNeedTimer => exact execMilkNeedTimer_kept (.of_beq (by decide +kernel)) (.refl _ _)
  case activationCheck => exact execActivationCheck_kept (.of_beq (by decide +kernel)) (.refl _ _)
  case bootRecordWriteDone => exact execBootRecordWriteDone_kept (.of_beq (by decide +kernel)) (.refl _ _)
  case mladundRestartDone => exact execMladundRestartDone_kept (.of_beq (by decide +kernel)) (.refl _ _)
  case octetRetrainNext => exact execOctetRetrainNext_kept (.of_beq (by decide +kernel)) (.refl _ _)
  case autoConfirm => exact execAutoConfirm_kept (.of_beq (by decide +kernel)) (.refl _ _)
  case reseqRelease => exact execReseqRelease_kept _ _ (.of_beq (by decide +kernel)) (.refl _ _)
  case reseqGapTimeout => exact execReseqGapTimeout_kept _ _ (.of_beq (by decide +kernel)) (.refl _ _)
  case pinRequest => exact execPinRequest_kept _ (.of_beq (by decide +kernel)) (.refl _ _)
  case pinRequestResend => exact execPinRequestResend_kept _ _ (.of_beq (by decide +kernel)) (.refl _ _)
  case pinExpire => exact execPinExpire_kept _ _ (.of_beq (by decide +kernel)) (.refl _ _)
  case timeNowLatch => exact execTimeNowLatch_kept _ (.of_beq (by decide +kernel)) (.refl _ _)
  case timeRateWrite =>
    exact .next (reg8_keptAt rfl (.of_beq (by decide +kernel))
      (fun _ _ _ _ h => timeRate_after_kept (.of_beq (by decide +kernel)) h) (.refl _ _))
  case timeSlewWrite =>
    exact .next (reg8_keptAt rfl (.of_beq (by decide +kernel))
      (fun _ _ _ _ h => timeSlew_after_kept (.of_beq (by decide +kernel)) (.of_beq (by decide +kernel)) h) (.refl _ _))
  case slewComplete => exact execSlewComplete_kept (.of_beq (by decide +kernel)) (.refl _ _)
  case timeStep =>
    exact .next (reg8_kept_of_regStore rfl (regStore_timeCtl_kept (.of_beq (by decide +kernel))
      (timeCtlWrite_kept _ (.of_beq (by decide +kernel)) (.refl _ _)) (.refl _ _)) (.refl _ _))
  case reepoch => exact execReepoch_keptAt (.of_beq (by decide +kernel)) (.of_beq (by decide +kernel)) (.refl _ _)
  case reepochHoldExpire => exact execReepochHoldExpire_kept (.of_beq (by decide +kernel)) (.refl _ _)
  case refSelectWrite =>
    exact .next (reg8_keptAt rfl (.of_beq (by decide +kernel))
      (fun _ _ _ _ h => timeCfg_after_kept (.of_beq (by decide +kernel)) (.of_beq (by decide +kernel)) h) (.refl _ _))
  case refLost => exact execRefLost_kept (.of_beq (by decide +kernel)) (.refl _ _)
  case ppsCapture => exact execPpsCapture_kept (.of_beq (by decide +kernel)) (.refl _ _)
  case ppsMissing => exact execPpsMissing_kept (.of_beq (by decide +kernel)) (.refl _ _)
  case triggerArm =>
    exact .next (reg8_kept_of_regStore rfl (regStore_trigCtl_kept (.of_beq (by decide +kernel))
      (fun _ => trigCtlWrite_kept _ _ _ (.of_beq (by decide +kernel)) (.refl _ _)) (.refl _ _)) (.refl _ _))
  case triggerFire => exact execTriggerFire_kept _ (.of_beq (by decide +kernel)) (.refl _ _)
  case trigOutFall => exact execTrigOutFall_kept _ (.of_beq (by decide +kernel)) (.refl _ _)
  case wheyEpochNow =>
    exact .next (reg8_keptAt rfl (.of_beq (by decide +kernel))
      (fun _ _ _ _ h => wheyCtl_after_kept (.of_beq (by decide +kernel)) h) (.refl _ _))
  case periodicVisit => exact execPeriodicVisit_kept (.of_beq (by decide +kernel)) (.refl _ _)
  case ipfixEnable =>
    exact .next (reg8_keptAt rfl (.of_beq (by decide +kernel))
      (fun _ _ _ _ h => ipfixCfg_after_kept (.of_beq (by decide +kernel)) h) (.refl _ _))
  case ipfixMessageTimeout => exact execIpfixMessageTimeout_kept _ (.of_beq (by decide +kernel)) (.refl _ _)
  case ipfixTemplateRefresh => exact execIpfixTemplateRefresh_kept _ (.of_beq (by decide +kernel)) (.refl _ _)
  case qwmWrite =>
    refine .next (.ite (fun _ => ?_) fun _ => .refl _ _)
    exact reg8_keptAt rfl (.of_beq (by decide +kernel))
      (fun _ _ _ _ h => qwm_after_kept (.of_beq (by decide +kernel)) h) (.refl _ _)
  case tallySnapNow =>
    exact .next (reg8_keptAt rfl (.of_beq (by decide +kernel))
      (fun _ _ _ _ h => tallyCtl_after_kept (.of_beq (by decide +kernel)) h) (.refl _ _))
  case tallyWriteoutComplete => exact execTallyWriteoutComplete_kept (.of_beq (by decide +kernel)) (.refl _ _)
  case tallyProgWrite => exact execTallyProgWrite_kept _ _ _ _ (.of_beq (by decide +kernel)) (.refl _ _)
  case powerOn => exact execPowerOn_kept _ (.of_beq (by decide +kernel)) (.refl _ _)
  case powerRailFall => exact execPowerRailFall_kept _ (.of_beq (by decide +kernel)) (.refl _ _)
  case rstNAssert => exact execRstNAssert_kept _ (.of_beq (by decide +kernel)) (.refl _ _)
  case resetSourceRelease => exact execResetSourceRelease_kept _ (.of_beq (by decide +kernel)) (.refl _ _)
  case brownout => exact execBrownout_kept _ (.of_beq (by decide +kernel)) (.refl _ _)
  case thermalTrip => exact execThermalTrip_kept (.of_beq (by decide +kernel)) (.refl _ _)
  case thermalTripRelease => exact execThermalTripRelease_kept (.of_beq (by decide +kernel)) (.refl _ _)
  case thermalReport => exact execThermalReport_kept _ (.of_beq (by decide +kernel)) (.refl _ _)
  case railMarginLow => exact execRailMarginLow_kept _ _ (.of_beq (by decide +kernel)) (.refl _ _)
  case avsTargetRevise => exact execAvsTargetRevise_kept _ _ (.of_beq (by decide +kernel)) (.refl _ _)
  case avsRetry => exact execAvsRetry_kept _ _ _ (.of_beq (by decide +kernel)) (.refl _ _)
  case watchdogKick => exact execWatchdogKick_kept (.of_beq (by decide +kernel)) (.refl _ _)
  case watchdogStage1 =>
    exact execWatchdogStage1_keptAt (.of_beq (by decide +kernel))
      (.of_beq (by decide +kernel)) (.of_beq (by decide +kernel)) (.refl _ _)
  case watchdogStage2 => exact execWatchdogStage2_kept (.of_beq (by decide +kernel)) (.refl _ _)
  case criticalStateError => exact execCriticalStateError_kept _ (.of_beq (by decide +kernel)) (.refl _ _)
  case domainRelease => exact execDomainRelease_kept _ _ (.of_beq (by decide +kernel)) (.refl _ _)
  case clockGood => exact execClockGood_kept _ (.of_beq (by decide +kernel)) (.refl _ _)
  case releaseWindowExpire => exact execReleaseWindowExpire_kept _ (.of_beq (by decide +kernel)) (.refl _ _)
  case startWindowExpire => exact execStartWindowExpire_kept (.of_beq (by decide +kernel)) (.refl _ _)
  case startComplete => exact execStartComplete_kept (.of_beq (by decide +kernel)) (.refl _ _)
  case sliceRestoreDone => exact execSliceRestoreDone_kept _ (.of_beq (by decide +kernel)) (.refl _ _)
  case skimBankFlushDone => exact execSkimBankFlushDone_kept _ (.of_beq (by decide +kernel)) (.refl _ _)
  case strainerBlockReloadDone => exact execStrainerBlockReloadDone_kept _ (.of_beq (by decide +kernel)) (.refl _ _)
  case clusterReloadDone => exact execClusterReloadDone_kept _ (.of_beq (by decide +kernel)) (.refl _ _)
  case laneTestWrite =>
    refine .next (.ite (fun _ => ?_) fun _ => .refl _ _)
    exact reg8_keptAt rfl (.of_beq (by decide +kernel))
      (fun _ _ _ _ h => laneTest_after_kept (.of_beq (by decide +kernel)) (.of_beq (by decide +kernel)) h) (.refl _ _)
  case laneTestLatch =>
    refine .next (.ite (fun _ => ?_) fun _ => .refl _ _)
    exact reg8_keptAt rfl (.of_beq (by decide +kernel))
      (fun _ _ _ _ h => laneTest_after_kept (.of_beq (by decide +kernel)) (.of_beq (by decide +kernel)) h)
      (laneAdd_kept _ _ _ (.of_beq (by decide +kernel)) (.refl _ _))
  case laneTestClear =>
    refine .next (.ite (fun _ => ?_) fun _ => .refl _ _)
    exact reg8_keptAt rfl (.of_beq (by decide +kernel))
      (fun _ _ _ _ h => laneTest_after_kept (.of_beq (by decide +kernel)) (.of_beq (by decide +kernel)) h) (.refl _ _)
  case checkerLock => exact execCheckerLock_kept _ _ (.of_beq (by decide +kernel)) (.refl _ _)
  case checkerLockLoss => exact execCheckerLockLoss_kept _ _ _ _ (.of_beq (by decide +kernel)) (.refl _ _)
  case checkerSaturate => exact execCheckerSaturate_kept _ _ _ _ (.of_beq (by decide +kernel)) (.refl _ _)
  case portTestWrite =>
    exact .next (reg8_keptAt rfl (.of_beq (by decide +kernel))
      (fun _ _ _ _ h => portTest_after_kept (.of_beq (by decide +kernel)) (.of_beq (by decide +kernel)) (.of_beq (by decide +kernel)) h)
      (.refl _ _))
  case genFrameSend => exact execGenFrameSend_kept _ (.of_beq (by decide +kernel)) (.refl _ _)
  case bypass => exact execBypass_kept (.of_beq (by decide +kernel)) (.refl _ _)
  case idcode => exact execIdcode_kept (.of_beq (by decide +kernel)) (.refl _ _)
  case samplePreload => exact execSamplePreload_kept (.of_beq (by decide +kernel)) (.refl _ _)
  case extest => exact execExtest_kept (.of_beq (by decide +kernel)) (.refl _ _)
  case clamp => exact execClamp_kept (.of_beq (by decide +kernel)) (.refl _ _)
  case highz => exact execHighz_kept (.of_beq (by decide +kernel)) (.refl _ _)
  case extestPulse => exact execExtestPulse_kept (.of_beq (by decide +kernel)) (.refl _ _)
  case extestTrain => exact execExtestTrain_kept (.of_beq (by decide +kernel)) (.refl _ _)
  case setupLockWrite =>
    exact .next (reg8_keptAt rfl (.of_beq (by decide +kernel))
      (fun _ _ _ _ h => setupLock_after_kept (.of_beq (by decide +kernel)) (.of_beq (by decide +kernel)) h) (.refl _ _))
  case registerWrite => exact execRegisterWrite_kept _ _ _ _ _ (.of_beq (by decide +kernel)) (.refl _ _)
  case railMarginRestore => exact execRailMarginRestore_kept _ (.of_beq (by decide +kernel)) (.refl _ _)
  case busMasterEnableChange => exact execBusMasterEnableChange_kept _ _ (.of_beq (by decide +kernel)) (.refl _ _)
  case vfEnableSet => exact execVfEnableSet_kept (.of_beq (by decide +kernel)) (.refl _ _)
  case mbxInvalidCommand => exact execMbxInvalidCommand_kept _ (.of_beq (by decide +kernel)) (.refl _ _)
  case logRegionWriteDone => exact execLogRegionWriteDone_kept (.of_beq (by decide +kernel)) (.refl _ _)
  case bundleStagingComplete => exact execBundleStagingComplete_kept (.of_beq (by decide +kernel)) (.refl _ _)
  case tapReset => exact execTapReset_kept (.of_beq (by decide +kernel)) (.refl _ _)

end Sys2Proof.Machine
end

section
/-! SUPPORT. The step: what an idle cycle keeps, and the statements that every step gives. -/

namespace Sys2Proof.Machine

-- A proof that evaluates in the kernel waits for every declaration before it, and holds a thread while it waits.
set_option Elab.async false

section
variable {fr : Nat} {s t : State}

/-- What follows the advance of device time in an idle cycle leaves the outputs and device time as they are. -/
theorem idleRest_kept {z0 : State} (hm : Within (maskBut [.out, .time]) fr) (h : Kept fr z0 t) :
    Kept fr z0 (slotTick (throttleTick (guardTick (drainRefresh (settle (rekeySettle t)))))) := by
  have sub {n : Nat} (k : Nat.beq (Nat.lor n (maskBut [.out, .time])) (maskBut [.out, .time]) = true) : Within n fr := .trans k hm
  have h1 := settle_kept (sub (by decide +kernel)) (rekeySettle_kept (sub (by decide +kernel)) h)
  have h2 := guardTick_kept (sub (by decide +kernel)) (drainRefresh_kept (sub (by decide +kernel)) h1)
  exact slotTick_kept (sub (by decide +kernel)) (throttleTick_kept (sub (by decide +kernel)) h2)

/-- An idle cycle, from the state in which its nanosecond has gone by, lets nothing out of the device. -/
theorem idleTick_kept : Kept (maskBut [.out]) { s with now := s.now + 1 } (idleTick s) :=
  idleRest_kept (.of_beq (by decide +kernel)) (timeTick_kept (.of_beq (by decide +kernel)) (.refl _ _))

theorem rateShow_time : (rateShow s).time = s.time := rfl

/-- Device time advances at its rate where the time unit runs. -/
theorem timeTick_dt : (timeTick s).time.dt = if s.runs pdTime = true then s.time.dt + (2 ^ 40 + rateNow s).toNat else s.time.dt := by
  unfold timeTick
  split
  · dsimp only
    split <;> rfl
  · rfl

theorem idleTick_dt :
    (idleTick s).time.dt = if s.runs pdTime = true then s.time.dt + (2 ^ 40 + rateNow s).toNat else s.time.dt := by
  have h : Kept (maskBut [.out, .time]) (timeTick { s with now := s.now + 1 }) (idleTick s) :=
    idleRest_kept (.of_beq (by decide +kernel)) (.refl _ _)
  have e : (idleTick s).time = (timeTick { s with now := s.now + 1 }).time := h.same_of_but (p := .time) (by decide)
  rw [e]
  exact timeTick_dt

/-! ### The two kinds of step -/

theorem step_command {c : Instr} {l : List Instr} (h : s.pending = c :: l) : step s = exec c { s with pending := l } := by
  unfold step
  rw [h]

theorem step_idle (h : s.pending = []) : step s = .next (idleTick s) := by
  unfold step
  rw [h]

end

end Sys2Proof.Machine

open Sys2Proof Sys2Proof.Machine

/-- Settles O54: the banks are among what every command keeps, and an idle cycle keeps them too. -/
theorem banksStayCanonical : Obligations.BanksStayCanonical := by
  intro s t hb h
  cases hp : s.pending with
  | nil =>
    have e : idleTick s = t := Host.Outcome.next.inj ((step_idle hp).symm.trans h)
    exact e ▸ (idleTick_kept (s := s)).banks hb
  | cons c l =>
    rw [step_command hp] at h
    exact (exec_kept c _ t h).banks hb

/-- Settles O59, from the frame of every command. -/
theorem frameOfFlowsHostAndTime : Obligations.FrameOfFlowsHostAndTime :=
  fun c s t _ _ h => (exec_kept c s t h).changesOnly

/-- Settles O52: no command changes the queue or elapsed time, and in an idle cycle the time unit alone moves device time. -/
theorem stepRunsTheFrontCommand : Obligations.StepRunsTheFrontCommand := by
  refine ⟨fun s c l hp => step_command hp, fun s c l t hp h => ?_, fun s hp => ?_⟩
  · rw [step_command hp] at h
    have k := exec_kept c _ t h
    exact ⟨k.pending, k.now⟩
  · have k : Kept (maskBut [.out]) { s with now := s.now + 1 } (idleTick s) := idleTick_kept
    exact ⟨idleTick s, step_idle hp, k.pending.trans hp, k.now, k.same_of_but (p := .out) (by decide), idleTick_dt⟩

end

section
/-! SUPPORT. What the state after reset reads. -/

namespace Sys2Proof.Machine

/-- The bank at reset lists two fields; every other one reads its reset value. -/
theorem reset_fget (f : Fld) (i : Nat) (hc : (f, i) ≠ (.RESET_CAUSE_por, 0)) (hm : (f, i) ≠ (.RIND_STATUS_mode, 0)) :
    State.reset.fget f i = fldReset f i := by
  have other {g : Fld} (h : (f, i) ≠ (g, 0)) : ¬(g.ctorIdx, 0) = (f.ctorIdx, i) := fun e => h (by
    obtain ⟨a, b⟩ := Prod.mk.inj e
    rw [Fld.eq_of_ctorIdx a, b])
  have e : State.reset.reg = [((Fld.RIND_STATUS_mode.ctorIdx, 0), 3), ((Fld.RESET_CAUSE_por.ctorIdx, 0), 1)] := rfl
  rw [State.fget, e, tget, if_neg (other hm), tget, if_neg (other hc), tget]

theorem reset_domain_off (pd : Nat) : State.reset.runs pd = false := by
  have e : State.reset.fget .PD_STATE_on pd = 0 := reset_fget _ _ (fun h => by cases h) (fun h => by cases h)
  rw [State.runs, State.fbit, e]
  rfl

theorem reset_port_down (q : Nat) : portUp State.reset q = false := by
  have e : State.reset.fget .PORT_STATUS_link_up q = 0 := reset_fget _ _ (fun h => by cases h) (fun h => by cases h)
  rw [portUp, State.fbit, e]
  rfl

end Sys2Proof.Machine

open Sys2Proof Sys2Proof.Machine

/-- Settles O53: the state after reset lists two register fields and nothing else. -/
theorem resetState : Obligations.ResetState := by
  refine ⟨by decide +kernel, rfl, rfl, rfl, rfl, rfl, rfl, rfl, reset_domain_off, reset_fget, fun _ _ => rfl, fun _ => rfl, fun _ => rfl,
    fun _ => rfl, fun _ => rfl, rfl, rfl, reset_port_down, fun _ _ => rfl⟩

end

section
/-! SUPPORT. A register write that nothing stops: it is accepted, and its fields read back. -/

namespace Sys2Proof.Machine

-- A proof that evaluates in the kernel waits for every declaration before it, and holds a thread while it waits.
set_option Elab.async false

/-- Every field of a register that software writes lies in its first `n` bits. -/
def Reg.fits (r : Reg) (n : Nat) : Bool :=
  r.table.all (fun p => !(p.2.acc == .rw || p.2.acc == .rwp) ||
    (List.range p.2.reps).all (fun c => decide (p.1.info.lsb + c * p.1.info.stride + p.1.info.width ≤ n)))

theorem Reg.fits_bound {r : Reg} {n : Nat} (h : r.fits n = true) {p : Fld × FldInfo} (hp : p ∈ r.table) (ha : p.2.written) {c : Nat}
    (hc : c < p.2.reps) : p.1.info.lsb + c * p.1.info.stride + p.1.info.width ≤ n := by
  have k := List.all_eq_true.1 h p hp
  have a : (p.2.acc == .rw || p.2.acc == .rwp) = true := by obtain e | e := ha <;> rw [e] <;> rfl
  rw [a, Bool.not_true, Bool.false_or, List.all_eq_true] at k
  exact of_decide_eq_true (k c (List.mem_range.2 hc))

section
variable {s t : State} {r : Reg} {i v : Nat}

/-- The write of one word, as it reaches a register. -/
def wordWriteOf (s : State) (r : Reg) (i v : Nat) : RegWrite := ⟨r, i, wordVal s r i v, v &&& (2 ^ 64 - 1)⟩

/-- Where nothing stops it, a write of a register's word is accepted. -/
theorem reg8_accepted {req : Requester} (hr : r.plain = true) (hw : r.whole = false) (ok : WriteOk s r i (wordVal s r i v)) :
    reg8 s req r i 0 v = acceptWrite s (wordWriteOf s r i v) := by
  obtain ⟨lands, free, fine⟩ := ok
  rw [reg8_eq_regStore hw lands, regStore_of_plain hr]
  have hl : ¬(s.fbit .SETUP_LOCK_lock 0 && changesRwp s (wordWriteOf s r i v)) = true := Bool.eq_false_iff.1 free
  have hf : ¬regRefused s r i (wordVal s r i v) (2 ^ 64 - 1) = true := Bool.eq_false_iff.1 fine
  exact (if_neg hl).trans (if_neg hf)

/-- What the event bits leave alone an accepted write leaves as its further effects do. -/
theorem acceptWrite_same {w : RegWrite} {p : Part} (hp : p ∉ evtParts) :
    p.same (afterWrite s (applyFields s w) w) (acceptWrite s w) := by
  rw [acceptWrite_eq]
  refine (evtUpdate_kept (fr := partsMask evtParts) (.of_beq (by decide +kernel)) (.refl _ _)).same p ?_
  rw [← Bool.not_eq_true, partsMask_testBit]
  exact hp

/-- A register that its own further effects leave alone reads back. -/
theorem acceptWrite_readsBack (hf : r.fits 64 = true) (hp : .reg r ∉ evtParts)
    (ha : Kept (maskBut [.reg r]) (applyFields s (wordWriteOf s r i v))
      (afterWrite s (applyFields s (wordWriteOf s r i v)) (wordWriteOf s r i v))) :
    ReadsBack (acceptWrite s (wordWriteOf s r i v)) r i v := by
  have h : ReadsBack (acceptWrite s (wordWriteOf s r i v)) r i (wordVal s r i v) :=
    readsBack_of_same (Part.same_trans (ha.same_of_but (by simp)) (acceptWrite_same hp))
  intro p hp ha c hc
  rw [h p hp ha c hc]
  exact bits_merged_word _ _ (Reg.fits_bound hf hp ha hc)

/-- A field without copies, right after the fields are written. -/
theorem applied_fget {f : Fld} (hp : (f, f.info) ∈ r.table) (ha : f.info.written) (h1 : f.info.reps = 1)
    (hb : f.info.lsb + 0 * f.info.stride + f.info.width ≤ 64) : (applyFields s (wordWriteOf s r i v)).fget f i = fldIn v f := by
  have h := applyFields_fget (s := s) (r := r) (i := i) (v := wordVal s r i v) (a := v &&& (2 ^ 64 - 1)) hp ha (c := 0)
    (Nat.lt_of_lt_of_eq Nat.one_pos h1.symm)
  have e : i * f.info.reps + 0 = i := by rw [h1, Nat.mul_one, Nat.add_zero]
  exact (e ▸ h).trans (bits_merged_word _ _ hb)

end

/-! ### Registers that take effect whole (R53) -/

section
variable {s : State} {req : Requester} {r : Reg} {i v : Nat}

/-- The state once the words staged below the highest are consumed. -/
def gathered (s : State) (req : Requester) (r : Reg) (i : Nat) : State := (gather s req r i 7).2

theorem gathered_kept : Kept (partsMask [.setup]) s (gathered s req r i) :=
  (Kept.refl _ s).setSetup _ (.of_beq (by decide +kernel))

/-- Registers without a field that the lock guards. -/
theorem changesRwp_of_none {w : RegWrite} (h : w.r.table.all (fun p => !(p.2.acc == .rwp)) = true) : changesRwp s w = false := by
  refine List.any_eq_false.2 fun p hp => ?_
  have k := List.all_eq_true.1 h p hp
  simp only [Bool.not_eq_true', beq_eq_false_iff_ne] at k
  simp [k]

/-- A write of one word supplies that word, above the words below it. -/
theorem word_above_mod (lo cur v : Nat) {n m : Nat} (hm : 64 + n = m) :
    (lo + merged cur v (2 ^ 64 - 1) * 2 ^ n) % 2 ^ m = (lo + v * 2 ^ n) % 2 ^ m := by
  subst hm
  have h : merged cur v (2 ^ 64 - 1) ≡ v [MOD 2 ^ 64] := merged_mod cur v (by decide)
  have k := (h.mul_right' (2 ^ n)).add_left lo
  rwa [← Nat.pow_add] at k

/-- A register of eight words, whole. -/
structure Reg.IsWhole (r : Reg) : Prop where
  whole : r.whole = true
  bits : r.info.bits = 512
  plain : r.plain = true
  fits : r.fits 512 = true
  unlocked : r.table.all (fun p => !(p.2.acc == .rwp)) = true
  quiet : .reg r ∉ evtParts
  /-- No rule reads more of its value than its own bits. -/
  refused : ∀ s t i x y m n, x % 2 ^ 512 = y % 2 ^ 512 → regRefused s r i x m = regRefused t r i y n
  /-- Its write does nothing beyond its fields. -/
  after : ∀ s t i x a, afterWrite s t ⟨r, i, x, a⟩ = t

/-- The value that a write of the highest word leaves. -/
def wholeLeft (s : State) (req : Requester) (r : Reg) (i v : Nat) : Nat :=
  let key := stageKey req r.info.bar (regOffset r i 7)
  let cur := (tget none s.setup.words key).getD (bits (regRaw s r i) 448 64)
  merged (regRaw (gathered s req r i) r i) ((gather s req r i 7).1 + merged cur v (2 ^ 64 - 1) * 2 ^ 448) (2 ^ 512 - 1)

theorem wholeLeft_mod : wholeLeft s req r i v % 2 ^ 512 = wholeVal s req r i v % 2 ^ 512 :=
  (merged_mod _ _ (by decide)).trans (word_above_mod _ _ _ rfl)

/-- A write of the highest word of a register that takes effect whole. -/
theorem wordWrite_highest {word off mask : Nat} (hw : r.whole = true) (hl : r.info.bits / 64 - 1 = word) :
    let cur := (tget none s.setup.words (stageKey req r.info.bar off)).getD (bits (regRaw s r i) (64 * word) 64)
    wordWrite s req r i word off v mask = regStore (gather s req r i word).2 req r i off
      ((gather s req r i word).1 + merged cur v mask * 2 ^ (64 * word)) (2 ^ (64 * (word + 1)) - 1) := by
  unfold wordWrite
  rw [hw, hl]
  exact (if_pos rfl).trans (if_neg (Nat.lt_irrefl _))

/-- A write of the highest word brings the words staged below it. -/
theorem reg8_whole_eq (hr : r.IsWhole) (lands : writeLands s r i = true) :
    let key := stageKey req r.info.bar (regOffset r i 7)
    let cur := (tget none s.setup.words key).getD (bits (regRaw s r i) 448 64)
    reg8 s req r i 7 v = regStore (gathered s req r i) req r i (regOffset r i 7)
      ((gather s req r i 7).1 + merged cur v (2 ^ 64 - 1) * 2 ^ 448) (2 ^ 512 - 1) := by
  simp only [writeLands, Bool.and_eq_true, decide_eq_true_eq, Bool.not_eq_true'] at lands
  obtain ⟨hi, hp⟩ := lands
  have hb : ¬(r.info.n1 * r.info.n2 ≤ i ∨ r.info.bits ≤ 64 * 7 ∨ offPage s r i = true) := by
    rw [hr.bits, hp]
    simp
    omega
  have h := wordWrite_highest (s := s) (req := req) (i := i) (v := v) (word := 7) (off := regOffset r i 7) (mask := 2 ^ 64 - 1) hr.whole
    (by rw [hr.bits])
  rw [show 64 * (7 + 1) = 512 from rfl, show 64 * 7 = 448 from rfl] at h
  exact (if_neg hb).trans h

/-- Where nothing stops it, a write of the highest word is accepted with the words staged below it. -/
theorem reg8_whole_accepted (hr : r.IsWhole) (ok : WriteOk s r i (wholeVal s req r i v)) :
    ∃ a, reg8 s req r i 7 v = acceptWrite (gathered s req r i) ⟨r, i, wholeLeft s req r i v, a⟩ := by
  obtain ⟨lands, -, fine⟩ := ok
  have hl (a : Nat) : ¬((gathered s req r i).fbit .SETUP_LOCK_lock 0 &&
      changesRwp (gathered s req r i) ⟨r, i, wholeLeft s req r i v, a⟩) = true := by
    rw [changesRwp_of_none hr.unlocked, Bool.and_false]
    exact Bool.false_ne_true
  have hf (m : Nat) : ¬regRefused (gathered s req r i) r i (wholeLeft s req r i v) m = true := by
    rw [hr.refused _ s i _ (wholeVal s req r i v) _ (2 ^ 64 - 1) wholeLeft_mod, fine]
    exact Bool.false_ne_true
  rw [reg8_whole_eq hr lands, regStore_of_plain hr.plain]
  exact ⟨_, (if_neg (hl _)).trans (if_neg (hf _))⟩

/-- A register of eight words reads back whole. -/
theorem reg8_whole_readsBack (hr : r.IsWhole) (ok : WriteOk s r i (wholeVal s req r i v)) :
    ReadsBack (reg8 s req r i 7 v) r i (wholeVal s req r i v) := by
  obtain ⟨a, e⟩ := reg8_whole_accepted hr ok
  have k := acceptWrite_same (s := gathered s req r i) (w := ⟨r, i, wholeLeft s req r i v, a⟩) hr.quiet
  rw [hr.after, ← e] at k
  intro p hp ha c hc
  rw [readsBack_of_same k p hp ha c hc]
  exact bits_of_mod wholeLeft_mod (Reg.fits_bound hr.fits hp ha hc)

/-- A field of two values that agree in their low bits. -/
theorem fldIn_of_mod {x y : Nat} (h : x % 2 ^ 512 = y % 2 ^ 512) (f : Fld) (c : Nat)
    (hb : f.info.lsb + c * f.info.stride + f.info.width ≤ 512) : fldIn x f c = fldIn y f c :=
  bits_of_mod h hb

theorem badProfile_of_mod {x y : Nat} (h : x % 2 ^ 512 = y % 2 ^ 512) : badProfile x = badProfile y := by
  have k := fldIn_of_mod h
  have e : List.range 16 = [0, 1, 2, 3, 4, 5, 6, 7, 8, 9, 10, 11, 12, 13, 14, 15] := rfl
  unfold badProfile
  simp (disch := decide) only [e, List.any_cons, List.any_nil, k]

theorem badLkp_of_mod {x y : Nat} (h : x % 2 ^ 512 = y % 2 ^ 512) : badLkp x = badLkp y := by
  have k := fldIn_of_mod h
  have e : List.range 8 = [0, 1, 2, 3, 4, 5, 6, 7] := rfl
  unfold badLkp
  simp (disch := decide) only [e, List.any_cons, List.any_nil, k]

theorem selEntry_isWhole : Reg.SEL_ENTRY.IsWhole where
  whole := rfl
  bits := rfl
  plain := rfl
  fits := by decide
  unlocked := by decide
  quiet := by decide
  refused _ _ _ _ _ _ _ _ := rfl
  after _ _ _ _ _ := rfl

theorem regRefused_profile (s : State) (i v m : Nat) : regRefused s .PROFILE i v m = badProfile v := by
  simp [regRefused, badPort, badSep, badBuf, badEgr, badFab, badStr, badFlow, badTime, badWhey, badHost]

theorem regRefused_strLkp (s : State) (i v m : Nat) : regRefused s .STR_LKP i v m = badLkp v := by
  simp [regRefused, badPort, badSep, badBuf, badEgr, badFab, badStr, badFlow, badTime, badWhey, badHost]

theorem profile_isWhole : Reg.PROFILE.IsWhole where
  whole := rfl
  bits := rfl
  plain := rfl
  fits := by decide
  unlocked := by decide
  quiet := by decide
  refused _ _ _ _ _ _ _ h := by rw [regRefused_profile, regRefused_profile, badProfile_of_mod h]
  after _ _ _ _ _ := rfl

theorem strLkp_isWhole : Reg.STR_LKP.IsWhole where
  whole := rfl
  bits := rfl
  plain := rfl
  fits := by decide
  unlocked := by decide
  quiet := by decide
  refused _ _ _ _ _ _ _ h := by rw [regRefused_strLkp, regRefused_strLkp, badLkp_of_mod h]
  after _ _ _ _ _ := rfl

end

end Sys2Proof.Machine
end

section
/-! SUPPORT. Register writes that read back, register by register. -/

namespace Sys2Proof.Machine

-- A proof that evaluates in the kernel waits for every declaration before it, and holds a thread while it waits.
set_option Elab.async false

/-! ### What follows the pool carve (R193) -/

section
variable {s : State}

theorem carvePool_fget_other {k j : Nat} {f : Fld} (h : j ≠ k) : (carvePool s k).fget f j = s.fget f j := by
  have ne {g : Fld} : (f, j) ≠ (g, k) := fun e => h (congrArg Prod.snd e)
  unfold carvePool
  rw [fget_fset_other _ _ _ _ _ _ ne, fget_fset_other _ _ _ _ _ _ ne, fget_fset_other _ _ _ _ _ _ ne]

theorem carvePool_buffers (k : Nat) :
    (carvePool s k).fget .POOL_STATUS_buffers k = poolPerGranule k * s.fget (granFld k) 0 % 2 ^ 20 := by
  have ne {g : Fld} (h : Fld.POOL_STATUS_buffers ≠ g) : (Fld.POOL_STATUS_buffers, k) ≠ (g, k) := fun e => h (congrArg Prod.fst e)
  unfold carvePool
  rw [fget_fset_other _ _ _ _ _ _ (ne (by decide)), fget_fset_other _ _ _ _ _ _ (ne (by decide)), fget_fset_same]
  rfl

theorem carvePool_free (k : Nat) (hb : s.buffers.bufs = []) :
    (carvePool s k).fget .POOL_STATUS_free k = poolPerGranule k * s.fget (granFld k) 0 % 2 ^ 20 := by
  have ne {g : Fld} (h : Fld.POOL_STATUS_free ≠ g) : (Fld.POOL_STATUS_free, k) ≠ (g, k) := fun e => h (congrArg Prod.fst e)
  unfold carvePool
  rw [fget_fset_other _ _ _ _ _ _ (ne (by decide)), fget_fset_same, hb]
  rfl

/-- The pools carved one after another: what each one shows is its own granules' buffers. -/
theorem carvePools_fget (f : Fld) (p : State → Prop)
    (hf : ∀ t k, p t → (carvePool t k).fget f k = poolPerGranule k * t.fget (granFld k) 0 % 2 ^ 20)
    (hp : ∀ t k, p t → p (carvePool t k)) (hs : p s) {k n : Nat} (hk : k < n) :
    ((List.range n).foldl carvePool s).fget f k = poolPerGranule k * s.fget (granFld k) 0 % 2 ^ 20 := by
  induction n with
  | zero => omega
  | succ n ih =>
    rw [List.range_succ, List.foldl_append, List.foldl_cons, List.foldl_nil]
    by_cases h : k = n
    · subst h
      have ht : p ((List.range k).foldl carvePool s) := List.foldlRecOn _ _ hs fun t h x _ => hp t x h
      have hg : Kept (partsMask [.reg .POOL_STATUS]) s ((List.range k).foldl carvePool s) :=
        Kept.foldl (fun _ _ hx => carvePool_keptAt (.of_beq (by decide +kernel)) hx) (.refl _ _)
      have e : ((List.range k).foldl carvePool s).fget (granFld k) 0 = s.fget (granFld k) 0 := by
        refine hg.changesOnly (.reg .POOL_CARVE) (by decide) _ _ ?_
        unfold granFld
        split <;> rfl
      rw [hf _ _ ht, e]
    · rw [carvePool_fget_other h, ih (by omega)]

end

/-! ### What an accepted write shows -/

section
variable {s : State} {req : Requester} {r : Reg} {i v : Nat}

/-- A register whose further effects leave it alone reads back. -/
theorem reg8_readsBack (hr : r.plain = true) (hw : r.whole = false) (hf : r.fits 64 = true) (hp : .reg r ∉ evtParts)
    (ok : WriteOk s r i (wordVal s r i v))
    (ha : ∀ t x a, Kept (maskBut [.reg r]) t (afterWrite s t ⟨r, i, x, a⟩)) : ReadsBack (reg8 s req r i 0 v) r i v := by
  rw [reg8_accepted hr hw ok]
  exact acceptWrite_readsBack hf hp (ha _ _ _)

/-- What a write shows in another register than its own. -/
theorem reg8_fget (hr : r.plain = true) (hw : r.whole = false) (ok : WriteOk s r i (wordVal s r i v)) {f : Fld} (j : Nat)
    (hp : .reg f.reg ∉ evtParts) :
    (reg8 s req r i 0 v).fget f j = (afterWrite s (applyFields s (wordWriteOf s r i v)) (wordWriteOf s r i v)).fget f j := by
  rw [reg8_accepted hr hw ok]
  exact acceptWrite_same hp f j rfl

/-- A word's field, as the accepted write has left it. -/
theorem wordVal_fldIn {f : Fld} (hb : f.info.lsb + 0 * f.info.stride + f.info.width ≤ 64) : fldIn (wordVal s r i v) f = fldIn v f :=
  bits_merged_word _ _ hb

/-- An accepted carve gives a pool no more granules than there are. -/
theorem granules_le (ok : WriteOk s .POOL_CARVE 0 (wordVal s .POOL_CARVE 0 v)) {k : Nat} (hk : k < 4) : fldIn v (granFld k) ≤ 80 := by
  obtain ⟨-, -, fine⟩ := ok
  have h : carveSum (wordVal s .POOL_CARVE 0 v) ≤ 80 := by
    simp only [regRefused, badPort, badSep, badBuf, Bool.or_eq_false_iff, decide_eq_false_iff_not, Nat.not_lt] at fine
    exact fine.1.1.1.1.1.1.1.2.1
  rw [carveSum, wordVal_fldIn (by decide), wordVal_fldIn (by decide), wordVal_fldIn (by decide), wordVal_fldIn (by decide)] at h
  interval_cases k <;> simp only [granFld] <;> omega

theorem granules_applied (k : Nat) :
    (applyFields s (wordWriteOf s .POOL_CARVE 0 v)).fget (granFld k) 0 = fldIn v (granFld k) := by
  unfold granFld
  split <;> exact applied_fget (by decide) (.inr rfl) rfl (by decide)

/-- The buffers of a pool of an accepted carve fit the field that shows them. -/
theorem pool_buffers_fit (ok : WriteOk s .POOL_CARVE 0 (wordVal s .POOL_CARVE 0 v)) {k : Nat} (hk : k < 4) :
    poolPerGranule k * fldIn v (granFld k) % 2 ^ 20 = poolPerGranule k * fldIn v (granFld k) := by
  have h := granules_le ok hk
  have hp : poolPerGranule k ≤ 8192 := by interval_cases k <;> decide
  exact Nat.mod_eq_of_lt (Nat.lt_of_le_of_lt (Nat.mul_le_mul hp h) (by decide))

/-- An accepted carve reads back, and shows the buffers of its granules. -/
theorem poolCarve_readsBack (ok : WriteOk s .POOL_CARVE 0 (wordVal s .POOL_CARVE 0 v)) :
    ReadsBack (reg8 s req .POOL_CARVE 0 0 v) .POOL_CARVE 0 v ∧
      ∀ k, k < 4 → (reg8 s req .POOL_CARVE 0 0 v).fget .POOL_STATUS_buffers k = poolPerGranule k * fldIn v (granFld k) ∧
        (s.buffers.bufs = [] → (reg8 s req .POOL_CARVE 0 0 v).fget .POOL_STATUS_free k = poolPerGranule k * fldIn v (granFld k)) := by
  refine ⟨reg8_readsBack rfl rfl (by decide) (by decide) ok fun _ _ _ => poolCarve_after_kept (.of_beq (by decide +kernel)) (.refl _ _),
    fun k hk => ?_⟩
  have shows (f : Fld) (hf : .reg f.reg ∉ evtParts) : (reg8 s req .POOL_CARVE 0 0 v).fget f k =
      ((List.range 4).foldl carvePool (applyFields s (wordWriteOf s .POOL_CARVE 0 v))).fget f k := reg8_fget rfl rfl ok k hf
  constructor
  · rw [shows _ (by decide), carvePools_fget _ (fun _ => True) (fun _ _ _ => carvePool_buffers _) (fun _ _ _ => trivial) trivial hk,
      granules_applied, pool_buffers_fit ok hk]
  · intro hb
    have h : Kept (partsMask [.reg .POOL_CARVE]) s (applyFields s (wordWriteOf s .POOL_CARVE 0 v)) :=
      applyFields_keptAt (fun _ => Within.part (l := [.reg .POOL_CARVE]) (p := .reg .POOL_CARVE) rfl (by decide)) (.refl _ _)
    have hs : (applyFields s (wordWriteOf s .POOL_CARVE 0 v)).buffers.bufs = [] := by
      rw [h.changesOnly .buffers (by decide), hb]
    rw [shows _ (by decide), carvePools_fget _ (fun t => t.buffers.bufs = []) (fun _ _ h => carvePool_free _ h) (fun _ _ h => h) hs hk,
      granules_applied, pool_buffers_fit ok hk]

/-- An accepted Vat size reads back, and all its segments are free. -/
theorem vatCfg_readsBack (ok : WriteOk s .VAT_CFG 0 (wordVal s .VAT_CFG 0 v)) :
    ReadsBack (reg8 s req .VAT_CFG 0 0 v) .VAT_CFG 0 v ∧
      (reg8 s req .VAT_CFG 0 0 v).fget .VAT_STATUS_segments 0 = fldIn v .VAT_CFG_vat_gib * 16384 % 2 ^ 21 ∧
      (reg8 s req .VAT_CFG 0 0 v).fget .VAT_STATUS_segments_free 0 = fldIn v .VAT_CFG_vat_gib * 16384 % 2 ^ 21 := by
  refine ⟨reg8_readsBack rfl rfl (by decide) (by decide) ok fun _ _ _ => vatCfg_after_kept (.of_beq (by decide +kernel)) (.refl _ _), ?_⟩
  have hv : (applyFields s (wordWriteOf s .VAT_CFG 0 v)).fget .VAT_CFG_vat_gib 0 = fldIn v .VAT_CFG_vat_gib :=
    applied_fget (by decide) (.inr rfl) rfl (by decide)
  have shows (f : Fld) (hf : .reg f.reg ∉ evtParts) : (reg8 s req .VAT_CFG 0 0 v).fget f 0 =
      ((((applyFields s (wordWriteOf s .VAT_CFG 0 v)).fset .VAT_STATUS_segments 0 (fldIn v .VAT_CFG_vat_gib * 16384)).fset
        .VAT_STATUS_segments_free 0 (fldIn v .VAT_CFG_vat_gib * 16384)).fset .VAT_STATUS_free_min 0
          (fldIn v .VAT_CFG_vat_gib * 16384)).fget f 0 := by
    rw [← hv]
    exact reg8_fget rfl rfl ok 0 hf
  constructor
  · rw [shows _ (by decide), fget_fset_other _ _ _ _ _ _ (by decide), fget_fset_other _ _ _ _ _ _ (by decide), fget_fset_same]
    rfl
  · rw [shows _ (by decide), fget_fset_other _ _ _ _ _ _ (by decide), fget_fset_same]
    rfl

/-- An accepted rate reads back and moves device time by nothing. -/
theorem timeRate_readsBack (ok : WriteOk s .TIME_RATE 0 (wordVal s .TIME_RATE 0 v)) :
    ReadsBack (reg8 s req .TIME_RATE 0 0 v) .TIME_RATE 0 v ∧ (reg8 s req .TIME_RATE 0 0 v).time = s.time := by
  refine ⟨reg8_readsBack rfl rfl (by decide) (by decide) ok fun _ _ _ => timeRate_after_kept (.of_beq (by decide +kernel)) (.refl _ _), ?_⟩
  have h : Kept (maskBut [.time]) s (reg8 s req .TIME_RATE 0 0 v) :=
    reg8_keptAt rfl (.of_beq (by decide +kernel)) (fun _ _ _ _ => timeRate_after_kept (.of_beq (by decide +kernel))) (.refl _ _)
  exact h.same_of_but (p := .time) (by decide)

/-- A write of TIME_CFG makes its reference the one in use. -/
theorem timeCfg_after_ref {t : State} {x a : Nat} :
    (afterWrite s t ⟨.TIME_CFG, 0, x, a⟩).fget .TIME_STATUS_ref_active 0 = t.fget .TIME_CFG_ref_sel 0 % 2 ^ 1 := by
  have e : (t.fset .TIME_STATUS_ref_active 0 (t.fget .TIME_CFG_ref_sel 0)).fget .TIME_STATUS_ref_active 0 =
      t.fget .TIME_CFG_ref_sel 0 % 2 ^ 1 := fget_fset_same _ _ _ _
  show (if _ then _ else _ : State).fget _ _ = _
  split <;> exact e

/-- An accepted reference reads back and is the one in use. -/
theorem timeCfg_readsBack (ok : WriteOk s .TIME_CFG 0 (wordVal s .TIME_CFG 0 v)) :
    ReadsBack (reg8 s req .TIME_CFG 0 0 v) .TIME_CFG 0 v ∧
      (reg8 s req .TIME_CFG 0 0 v).fget .TIME_STATUS_ref_active 0 = fldIn v .TIME_CFG_ref_sel := by
  refine ⟨reg8_readsBack rfl rfl (by decide) (by decide) ok fun _ _ _ =>
    timeCfg_after_kept (.of_beq (by decide +kernel)) (.of_beq (by decide +kernel)) (.refl _ _), ?_⟩
  have hv : (applyFields s (wordWriteOf s .TIME_CFG 0 v)).fget .TIME_CFG_ref_sel 0 = fldIn v .TIME_CFG_ref_sel :=
    applied_fget (by decide) (.inl rfl) rfl (by decide)
  rw [reg8_fget rfl rfl ok 0 (by decide)]
  exact timeCfg_after_ref.trans (by rw [hv]; exact Nat.mod_mod _ _)

end

end Sys2Proof.Machine

open Sys2Proof Sys2Proof.Machine

/-- Settles O30: an accepted write leaves its fields, and nothing that follows it touches them. -/
theorem acceptedWritesReadBack : Obligations.AcceptedWritesReadBack := by
  intro s req n m v
  refine ⟨fun ok => ⟨_, rfl, ?_⟩, fun ok => ⟨_, rfl, ?_⟩, fun hm ok => ⟨_, congrArg Host.Outcome.next (if_pos hm), ?_⟩,
    fun ok => ⟨_, rfl, ?_⟩, fun hm ok => ⟨_, congrArg Host.Outcome.next (if_pos hm), ?_⟩, fun ok => ⟨_, rfl, ?_⟩, fun ok => ⟨_, rfl, ?_⟩,
    fun ok => ⟨_, rfl, ?_⟩, fun ok => ⟨_, rfl, ?_⟩, fun ok => ⟨_, rfl, ?_⟩, fun hm ok => ⟨_, congrArg Host.Outcome.next (if_pos hm), ?_⟩,
    fun ok => ⟨_, rfl, reg8_whole_readsBack selEntry_isWhole ok⟩, fun ok => ⟨_, rfl, reg8_whole_readsBack profile_isWhole ok⟩,
    fun ok => ⟨_, rfl, reg8_whole_readsBack strLkp_isWhole ok⟩⟩
  case refine_1 => exact reg8_readsBack rfl rfl (by decide) (by decide) ok fun _ _ _ => .refl _ _
  case refine_2 =>
    exact reg8_readsBack rfl rfl (by decide) (by decide) ok fun _ _ _ => portHold_after_kept (.of_beq (by decide +kernel)) (.refl _ _)
  case refine_3 => exact reg8_readsBack rfl rfl (by decide) (by decide) ok fun _ _ _ => .refl _ _
  case refine_4 => exact poolCarve_readsBack ok
  case refine_5 => exact reg8_readsBack rfl rfl (by decide) (by decide) ok fun _ _ _ => .refl _ _
  case refine_6 => exact vatCfg_readsBack ok
  case refine_7 => exact reg8_readsBack rfl rfl (by decide) (by decide) ok fun _ _ _ => .refl _ _
  case refine_8 => exact reg8_readsBack rfl rfl (by decide) (by decide) ok fun _ _ _ => .refl _ _
  case refine_9 => exact timeRate_readsBack ok
  case refine_10 => exact timeCfg_readsBack ok
  case refine_11 =>
    exact reg8_readsBack rfl rfl (by decide) (by decide) ok fun _ _ _ => qwm_after_kept (.of_beq (by decide +kernel)) (.refl _ _)
end

section
/-! SUPPORT. Level D resets leave the global page alone: SETUP_LOCK, its log, GLOBAL_STATUS and the identity registers (R12, R374). -/

namespace Sys2Proof.Machine

-- A proof that evaluates in the kernel waits for every declaration before it, and holds a thread while it waits.
set_option Elab.async false

/-- The identity registers (R12). -/
def identityRegs : List Part := [.reg .DEV_ID, .reg .DEV_UID, .reg .DEV_PEN]

/-- The identity registers and those of SETUP_LOCK that level D leaves alone. -/
def globalRegs : List Part := [.reg .GLOBAL_STATUS, .reg .SETUP_LOCK, .reg .LOCK_LOG, .reg .DEV_ID, .reg .DEV_UID, .reg .DEV_PEN]

/-! ### Registers reset by name -/

section
variable {fr : Nat} {z0 s : State}

theorem mem_fieldsOf {l : List Reg} {n : Nat} (h : n ∈ fieldsOf l) : (Fld.ofNat n).reg ∈ l := by
  simp only [fieldsOf, Reg.flds, List.mem_flatMap, List.mem_map] at h
  obtain ⟨r, hr, f, ⟨p, hp, rfl⟩, rfl⟩ := h
  rw [Fld.ofNat_ctorIdx, table_reg r p hp]
  exact hr

/-- A reset of listed registers touches these alone. -/
theorem regsReset_keptAt {l : List Reg} {keep : List Nat} (hm : ∀ r ∈ l, Within (Part.bit (.reg r)) fr) (h : Kept fr z0 s) :
    Kept fr z0 (regsReset s l keep) := by
  refine Kept.bankStep h (regOk_filter _) id id (fun f i e => tget_filter_other _ _ _ fun v => ?_) (fun _ _ _ => rfl) (.inl rfl)
  have hn : f.ctorIdx ∉ fieldsOf l := by
    intro k
    have hr := mem_fieldsOf k
    rw [Fld.ofNat_ctorIdx] at hr
    rw [(hm _ hr).testBit (Part.bit_testBit _)] at e
    cases e
  simp [hn]

/-! ### Level D resets (R291, R330, R331) -/

theorem Within.regsBut {l : List Part} {rs : List Reg} (hm : Within (maskBut l) fr) (h : ∀ r ∈ rs, .reg r ∉ l) :
    ∀ r ∈ rs, Within (Part.bit (.reg r)) fr := fun r hr => hm.but (h r hr)

variable (hm : Within (maskBut globalRegs) fr)
include hm

theorem timeReset_keptAt (h : Kept fr z0 s) : Kept fr z0 (timeReset s) := by
  have hs : Within (Part.bit (.reg .TIME_STATUS)) fr := hm.but (by decide)
  unfold timeReset
  extract_lets armed s1 ref s2 e t s3 s4 s5 s6
  have h1 : Kept fr z0 s1 := by
    show Kept fr z0 (match s.images.ticket with | some _ => ticketDrop s 4 | none => s)
    split
    · exact ticketDrop_kept _ (.trans (by decide +kernel) hm) h
    · exact h
  have h2 : Kept fr z0 s2 := regsReset_keptAt (hm.regsBut (by decide)) h1
  have h3 : Kept fr z0 s3 := timeJump_kept _ (.trans (by decide +kernel) hm) h2
  have h5 : Kept fr z0 s5 := .field _ _ _ (.field _ _ _ (h3.setTime t (.trans (by decide +kernel) hm)) hs) hs
  have h6 : Kept fr z0 s6 := Kept.foldl
    (fun _ _ hx => State.event_kept _ _ (.trans (by decide +kernel) hm) hx (hm.but (by decide))) h5
  have h7 : Kept fr z0 (markLate (rateShow s6)) :=
    markLate_kept (.trans (by decide +kernel) hm) (rateShow_kept (.trans (by decide +kernel) hm) h6)
  exact evtUpdate_kept (.trans (by decide +kernel) hm) (judgeLate_kept (.trans (by decide +kernel) hm) h7)

theorem telemLose_keptAt (h : Kept fr z0 s) : Kept fr z0 (telemLose s) := by
  have h1 : Kept fr z0 (progLose (regsReset s telemRegs [])) :=
    progLose_kept (.trans (by decide +kernel) hm) (regsReset_keptAt (hm.regsBut (by decide)) h)
  exact groupClear_kept _ (.trans (by decide +kernel) hm)
    (h1.setWheyTelem (.trans (by decide +kernel) hm) (.trans (by decide +kernel) hm))

theorem blockReset_keptAt {off : Bool} {pd : Nat} (h : Kept fr z0 s) : Kept fr z0 (blockReset s off pd) := by
  have clear {t : State} (g : Nat) (ht : Kept fr z0 t) : Kept fr z0 (groupClear t g) :=
    groupClear_kept g (.trans (by decide +kernel) hm) ht
  unfold blockReset
  refine .ite (fun _ => octetReset_kept _ _ (.trans (by decide +kernel) hm) h) fun _ => ?_
  refine .ite (fun _ => sliceReset_kept _ (.trans (by decide +kernel) hm) h) fun _ => ?_
  refine .ite (fun _ => clusterReset_kept _ (.trans (by decide +kernel) hm) h) fun _ => ?_
  refine .ite (fun _ => .cond (bankOff_kept _ (.trans (by decide +kernel) hm) h) (bankHold_kept _ (.trans (by decide +kernel) hm) h))
    fun _ => ?_
  refine .ite (fun _ => clear _ (.cond (blockLose_kept _ (.trans (by decide +kernel) hm) h) h)) fun _ => ?_
  refine .ite (fun _ => clear _ (vatEmpty_kept (.trans (by decide +kernel) hm) (cellarEmpty_kept (.trans (by decide +kernel) hm) h)))
    fun _ => ?_
  refine .ite (fun _ => clear _ (buffersEmpty_kept (.trans (by decide +kernel) hm) h)) fun _ => ?_
  refine .ite (fun _ => mgmtReset_kept (.trans (by decide +kernel) hm) h) fun _ => ?_
  refine .ite (fun _ => .cond h (clear _ (timeReset_keptAt hm h))) fun _ => ?_
  exact .ite (fun _ => .cond (telemLose_keptAt hm h) (telemReset_kept (.trans (by decide +kernel) hm) h)) fun _ => h

theorem domainReset_keptAt {pd : Nat} (h : Kept fr z0 s) : Kept fr z0 (domainReset s pd) :=
  blockReset_keptAt hm (setHeld_kept _ _ (.trans (by decide +kernel) hm) (h.setRind _ rfl rfl (.trans (by decide +kernel) hm)))

theorem domainOff_keptAt {pd : Nat} (h : Kept fr z0 s) : Kept fr z0 (domainOff s pd) := by
  have h1 : Kept fr z0 (s.fset .PD_STATE_on pd 0) := .field _ _ _ h (hm.but (by decide))
  have h2 : Kept fr z0 (setHeld (blockReset (s.fset .PD_STATE_on pd 0) true pd) pd (s.rind.holds.contains pd)) :=
    setHeld_kept _ _ (.trans (by decide +kernel) hm) (blockReset_keptAt hm h1)
  exact State.event_kept _ _ (.trans (by decide +kernel) hm) h2 (hm.but (by decide))

/-- A domain but the telemetry one comes on as from a level D reset. -/
theorem domainOn_keptAt {pd : Nat} (hpd : pd ≠ 159) (h : Kept fr z0 s) : Kept fr z0 (domainOn s pd) := by
  have h1 : Kept fr z0 (domainReset (s.fset .PD_STATE_on pd 1) pd) := domainReset_keptAt hm (.field _ _ _ h (hm.but (by decide)))
  unfold domainOn
  dsimp only
  rw [if_neg hpd]
  exact State.event_kept _ _ (.trans (by decide +kernel) hm) h1 (hm.but (by decide))

/-! ### The commands that reset domains -/

theorem mbxDone_keptAt {m : MbxReq} {status r0 r1 : Nat} (h : Kept fr z0 s) : Kept fr z0 (mbxDone s m status r0 r1) :=
  mbxDone_kept _ _ _ _ (.trans (by decide +kernel) hm) h

theorem execResetDomain_keptAt {m : MbxReq} (h : Kept fr z0 s) : KeptO fr z0 (execResetDomain m s) := by
  refine .next (mbxRow_kept _ _ _ (.trans (by decide +kernel) hm) h fun t ht => ?_)
  have hr : Kept fr z0 (t.fset .RESET_CAUSE_domain_req 0 1) := .field _ _ _ ht (hm.but (by decide))
  refine .ite (fun _ => mbxDone_keptAt hm ht) fun _ => ?_
  refine .ite (fun _ => mbxDone_keptAt hm ht) fun _ => ?_
  refine .ite (fun _ => mbxDone_keptAt hm ht) fun _ => ?_
  refine .ite (fun _ => mbxDone_keptAt hm hr) fun _ => ?_
  refine .ite (fun _ => mbxWait_kept _ _ (.trans (by decide +kernel) hm) (domainReset_keptAt hm hr)) fun _ => ?_
  exact mbxDone_keptAt hm (domainReset_keptAt hm hr)

theorem execDomainHold_keptAt {m : MbxReq} (h : Kept fr z0 s) : KeptO fr z0 (execDomainHold m s) := by
  refine .next (mbxRow_kept _ _ _ (.trans (by decide +kernel) hm) h fun t ht => ?_)
  have held {u : State} (b : Bool) (hu : Kept fr z0 u) : Kept fr z0 (setHeld u (mbxArg0 m) b) :=
    setHeld_kept _ _ (.trans (by decide +kernel) hm) hu
  have rind {r : Rind} (ho : r.otp = t.rind.otp) (hf : r.fuses = t.rind.fuses) : Kept fr z0 { t with rind := r } :=
    ht.setRind r ho hf (.trans (by decide +kernel) hm)
  refine .ite (fun _ => mbxDone_keptAt hm ht) fun _ => ?_
  refine .ite (fun _ => mbxDone_keptAt hm ht) fun _ => ?_
  refine .ite (fun _ => mbxDone_keptAt hm ht) fun _ => ?_
  refine .ite (fun _ => ?_) fun _ => ?_
  · have hr := Kept.field .RESET_CAUSE_domain_req 0 1
      (rind (r := { t.rind with holds := mbxArg0 m :: t.rind.holds.filter (fun x => x ≠ mbxArg0 m) }) rfl rfl) (hm.but (by decide))
    exact mbxDone_keptAt hm (.cond (domainReset_keptAt hm hr) (held _ hr))
  · have hr := rind (r := { t.rind with holds := t.rind.holds.filter (fun x => x ≠ mbxArg0 m) }) rfl rfl
    exact mbxDone_keptAt hm (.cond (held _ hr) hr)

theorem execDomainSwitchComplete_keptAt {pd : Nat} (hpd : pd ≠ 159) (h : Kept fr z0 s) : KeptO fr z0 (execDomainSwitchComplete pd s) := by
  refine .next ?_
  split
  · exact h
  · refine .ite (fun _ => h) fun _ => switchAnswer_kept _ (.trans (by decide +kernel) hm) ?_
    have hr (r : Rind) (ho : r.otp = s.rind.otp) (hf : r.fuses = s.rind.fuses) : Kept fr z0 { s with rind := r } :=
      h.setRind r ho hf (.trans (by decide +kernel) hm)
    exact .cond (domainOn_keptAt hm hpd (hr _ rfl rfl)) (domainOff_keptAt hm (hr _ rfl rfl))

/-! ### The activation steps that reset domains (R352) -/

theorem octetRetrain_keptAt {a : Activation} {n : Nat} (h : Kept fr z0 s) : Kept fr z0 (octetRetrain s a n) := by
  have h1 := h.setImages { s.images with activation := some { a with phase := .octet n s.now } } (.trans (by decide +kernel) hm)
  exact .cond (domainReset_keptAt hm h1) h1

theorem activationPorts_keptAt {a : Activation} (h : Kept fr z0 s) : Kept fr z0 (activationPorts s a) :=
  .ite (fun _ => octetRetrain_keptAt hm h) fun _ => activationEnd_kept _ (.trans (by decide +kernel) hm) h

theorem activationSettle_keptAt (h : Kept fr z0 s) : Kept fr z0 (activationSettle s) := by
  unfold activationSettle
  split
  · exact h
  · refine .ite (fun _ => ?_) fun _ => h
    extract_lets s1 v
    have h1 : Kept fr z0 s1 := .cond (tablesDone_kept (.trans (by decide +kernel) hm) h) h
    exact .cond (domainReset_keptAt hm (h1.setImages _ (.trans (by decide +kernel) hm))) (activationPorts_keptAt hm h1)

theorem execDrainComplete_keptAt (h : Kept fr z0 s) : KeptO fr z0 (execDrainComplete s) :=
  .next (.ite (fun _ => activationSettle_keptAt hm (drainDone_kept (.trans (by decide +kernel) hm) h)) fun _ => h)

theorem execBankMirrorComplete_keptAt (h : Kept fr z0 s) : KeptO fr z0 (execBankMirrorComplete s) :=
  .next (.ite (fun _ => activationSettle_keptAt hm (mirrorDone_kept (.trans (by decide +kernel) hm) h)) fun _ => h)

theorem execMladundRestartDone_keptAt (h : Kept fr z0 s) : KeptO fr z0 (execMladundRestartDone s) := by
  refine .next (.ite (fun _ => h) fun _ => sendNeed_kept (.trans (by decide +kernel) hm) ?_)
  have h1 : Kept fr z0 (domainOpen s pdMgmt) := domainOpen_kept _ (.trans (by decide +kernel) hm) h
  split
  · exact .ite (fun _ => activationPorts_keptAt hm (runsNow_kept _ _ (.trans (by decide +kernel) hm) h1)) fun _ => h1
  · exact h1

theorem execOctetRetrainNext_keptAt (h : Kept fr z0 s) : KeptO fr z0 (execOctetRetrainNext s) := by
  refine .next ?_
  split
  · exact h
  · split
    · refine .ite (fun _ => h) fun _ => .ite (fun _ => octetRetrain_keptAt hm h) fun _ => ?_
      exact activationEnd_kept _ (.trans (by decide +kernel) hm) (runsNow_kept _ _ (.trans (by decide +kernel) hm) h)
    · exact h

end

end Sys2Proof.Machine
end

section
/-! SUPPORT. No register write reaches an identity register, and none clears SETUP_LOCK (R8, R12, R373). -/

namespace Sys2Proof.Machine

-- A proof that evaluates in the kernel waits for every declaration before it, and holds a thread while it waits.
set_option Elab.async false

/-- The registers that no write clears: the identity registers and SETUP_LOCK. -/
def sealedRegs : List Part := [.reg .SETUP_LOCK, .reg .DEV_ID, .reg .DEV_UID, .reg .DEV_PEN]

/-- The fields of every write lie outside the sealed registers. -/
theorem writeParts_not_sealed (r : Reg) : ∀ p ∈ writeParts r, p ∉ sealedRegs := by
  cases r <;> decide

section
variable {fr : Nat} {z0 s : State}

/-- A write that sets SETUP_LOCK changes nothing of it once it is set. -/
theorem Kept.setLock (hl : Within (Part.bit (.reg .SETUP_LOCK)) fr ∨ z0.fget .SETUP_LOCK_lock 0 = 1) (h : Kept fr z0 s) :
    Kept fr z0 (s.fset .SETUP_LOCK_lock 0 1) := by
  cases e : fr.testBit (Part.reg .SETUP_LOCK).idx with
  | true => exact .field _ _ _ h (.bit_of_testBit e)
  | false =>
    have lock : s.fget .SETUP_LOCK_lock 0 = 1 := by
      obtain k | k := hl
      · rw [k.testBit (Part.bit_testBit _)] at e
        cases e
      · exact (h.same _ e _ _ rfl).trans k
    refine Kept.bankStep h (regOk_tset _ _ _) id id (fun f i _ => ?_) (fun _ _ _ => rfl) (.inl rfl)
    show (s.fset .SETUP_LOCK_lock 0 1).fget f i = s.fget f i
    by_cases hf : (f, i) = (.SETUP_LOCK_lock, 0)
    · obtain ⟨rfl, rfl⟩ := Prod.mk.inj hf
      rw [fget_fset_same, lock]
      rfl
    · exact fget_fset_other _ _ _ _ _ _ hf

variable (hm : Within (maskBut sealedRegs) fr) (hl : Within (Part.bit (.reg .SETUP_LOCK)) fr ∨ z0.fget .SETUP_LOCK_lock 0 = 1)
include hm

theorem Within.sealedWrite (r : Reg) : Within (partsMask (writeParts r)) fr :=
  .all_parts fun p hp => hm.but (writeParts_not_sealed r p hp)

theorem afterWrite_pages_sealed {s0 : State} {w : RegWrite} (h : Kept fr z0 s) :
    Kept fr z0 (afterWhey s0 (afterTime (afterFlow s0 (afterBuf s0 (afterSep s0 (afterPort s0 s w) w) w) w) w) w) := by
  have h1 := afterSep_kept s0 w (.trans (by decide +kernel) hm) (afterPort_kept s0 w (.trans (by decide +kernel) hm) h)
  have h2 := afterFlow_kept s0 w (.trans (by decide +kernel) hm) (afterBuf_kept s0 w (.trans (by decide +kernel) hm) h1)
  exact afterWhey_kept s0 w (.trans (by decide +kernel) hm) (afterTime_kept w (.trans (by decide +kernel) hm) h2)

include hl

theorem afterHost_sealed {s0 : State} {w : RegWrite} (h : Kept fr z0 s) : Kept fr z0 (afterHost s0 s w) := by
  unfold afterHost
  split
  · exact .cond (.field _ _ _ (h.setLock hl) (hm.but (by decide))) h
  · exact .ite (fun _ => setMessage_kept _ _ (.trans (by decide +kernel) hm) h) fun _ => h
  · exact .cond (ringStart_kept _ _ (.trans (by decide +kernel) hm) h)
      (.cond (ringEnd_kept _ _ (.trans (by decide +kernel) hm) h) h)
  · exact setSwitch_kept _ _ (.trans (by decide +kernel) hm) h
  · exact h

/-- A store of any register. -/
theorem regStore_sealed {req : Requester} {r : Reg} {i off v mask : Nat} (h : Kept fr z0 s) :
    Kept fr z0 (regStore s req r i off v mask) := by
  have hw := Within.sealedWrite hm r
  by_cases hr : r.plain = true
  · exact regStore_keptAt hr hw (fun t _ _ ht => afterHost_sealed hm hl (afterWrite_pages_sealed hm ht)) h
  · have special : r = .TIME_CTL ∨ r = .TRIG_CTL ∨ r = .TALLY_PROG := by
      revert hr
      simp only [Reg.plain, Bool.and_eq_true, bne_iff_ne, ne_eq]
      tauto
    obtain rfl | rfl | rfl := special
    · exact regStore_timeCtl_kept hw (timeCtlWrite_kept _ (.trans (by decide +kernel) hm) h) h
    · exact regStore_trigCtl_kept hw (fun _ => trigCtlWrite_kept _ _ _ (.trans (by decide +kernel) hm) h) h
    · exact .ite (fun _ => lockRefuse_keptAt hw h) fun _ => tallyStage_kept _ _ _ (.trans (by decide +kernel) hm) h

theorem wordWrite_sealed {req : Requester} {r : Reg} {i word off v mask : Nat} (h : Kept fr z0 s) :
    Kept fr z0 (wordWrite s req r i word off v mask) :=
  wordWrite_keptBy (fun _ => .trans (by decide +kernel) hm) (fun _ _ _ ht => regStore_sealed hm hl ht) h

theorem reg8_sealed {req : Requester} {r : Reg} {i word v : Nat} (h : Kept fr z0 s) : Kept fr z0 (reg8 s req r i word v) :=
  .ite (fun _ => h) fun _ => wordWrite_sealed hm hl h

/-- The words of a write of half a register are set aside. -/
theorem busWrite_sealed {req : Requester} {bar off size v : Nat} (h : Kept fr z0 s) : Kept fr z0 (busWrite s req bar off size v) := by
  have hs : Within (2 ^ 21) fr := .trans (by decide +kernel) hm
  unfold busWrite
  extract_lets base key u lo t
  have ht : Kept fr z0 t := h.setSetup _ hs
  cases regAt bar base with
  | none => exact h
  | some x =>
    obtain ⟨r, i, word⟩ := x
    refine .ite (fun _ => h) fun _ => .ite (fun _ => wordWrite_sealed hm hl h) fun _ => ?_
    refine .ite (fun _ => h.setSetup _ hs) fun _ => ?_
    cases lo with
    | none => exact wordWrite_sealed hm hl ht
    | some l => exact wordWrite_sealed hm hl ht

/-- An access of BAR0. -/
theorem bar0Write_sealed {req : Requester} {off size v : Nat} (h : Kept fr z0 s) : Kept fr z0 (bar0Write s req off size v) := by
  refine .ite (fun _ => badAccess_kept _ _ (.trans (by decide +kernel) hm) h) fun _ => ?_
  exact .ite (fun _ => Kept.foldl (fun _ _ ht => regStore_sealed hm hl ht) h) fun _ => busWrite_sealed hm hl h

/-- An access of a function's BAR2. -/
theorem bar2Write_sealed {fn off size v : Nat} (h : Kept fr z0 s) : Kept fr z0 (bar2Write s fn off size v) := by
  unfold bar2Write
  split
  · exact h
  · refine .ite (fun _ => .ite (fun _ => h) fun _ => doorbell_kept _ _ _ _ (.trans (by decide +kernel) hm) h) fun _ => ?_
    exact .ite (fun _ => busWrite_sealed hm hl h) fun _ => h

theorem execRegisterWrite_sealed {req : Requester} {bar offset size : Nat} {value : Word} (h : Kept fr z0 s) :
    KeptO fr z0 (execRegisterWrite req bar offset size value s) := by
  refine .next (.ite (fun _ => .ite (fun _ => bar0Write_sealed hm hl h) fun _ => h) fun _ => ?_)
  exact .ite (fun _ => bar2Write_sealed hm hl h) fun _ => h

/-! ### The words of the active image -/

theorem wordsLoad_sealed {b : List Byte} {pick : Nat → Bool} (h : Kept fr z0 s) : Kept fr z0 (wordsLoad s b pick) :=
  Kept.foldl (fun _ _ ht => bar0Write_sealed hm hl ht) h

theorem loadDefaults_sealed (h : Kept fr z0 s) : Kept fr z0 (loadDefaults s) :=
  tablesEnter_kept _ _ (.trans (by decide +kernel) hm) (wordsLoad_sealed hm hl (modesLoad_kept _ (.trans (by decide +kernel) hm) h))

/-- A domain comes on, the telemetry one with its settings reloaded. -/
theorem domainOn_sealed {pd : Nat} (h : Kept fr z0 s) : Kept fr z0 (domainOn s pd) := by
  have hg : Within (maskBut globalRegs) fr := .trans (by decide +kernel) hm
  have h1 : Kept fr z0 (domainReset (s.fset .PD_STATE_on pd 1) pd) := domainReset_keptAt hg (.field _ _ _ h (hm.but (by decide)))
  have h2 : Kept fr z0 (if pd = 159 then reloadTelem (domainReset (s.fset .PD_STATE_on pd 1) pd)
      else domainReset (s.fset .PD_STATE_on pd 1) pd) := .ite (fun _ => wordsLoad_sealed hm hl h1) fun _ => h1
  exact State.event_kept _ _ (.trans (by decide +kernel) hm) h2 (hm.but (by decide))

theorem execDomainSwitchComplete_sealed {pd : Nat} (h : Kept fr z0 s) : KeptO fr z0 (execDomainSwitchComplete pd s) := by
  refine .next ?_
  split
  · exact h
  · refine .ite (fun _ => h) fun _ => switchAnswer_kept _ (.trans (by decide +kernel) hm) ?_
    have hr (r : Rind) (ho : r.otp = s.rind.otp) (hf : r.fuses = s.rind.fuses) : Kept fr z0 { s with rind := r } :=
      h.setRind r ho hf (.trans (by decide +kernel) hm)
    exact .cond (domainOn_sealed hm hl (hr _ rfl rfl)) (domainOff_keptAt (.trans (by decide +kernel) hm) (hr _ rfl rfl))

end

end Sys2Proof.Machine
end

section
/-! SUPPORT. Resets of levels A and B: the global page returns to its reset values, and the identity registers stay at theirs
(R12, R319, R374). -/

namespace Sys2Proof.Machine

-- A proof that evaluates in the kernel waits for every declaration before it, and holds a thread while it waits.
set_option Elab.async false

/-! ### What a reset of level A or B leaves of the register bank -/

/-- Dropping a key's entries leaves its default. -/
theorem tget_filter_drop {α : Type} (c : α) (t : Tab α) (j : Key) {p : Key × α → Bool} (h : ∀ v, p (j, v) = false) :
    tget c (t.filter p) j = c := by
  induction t with
  | nil => rfl
  | cons x t ih =>
    obtain ⟨k, v⟩ := x
    rw [List.filter_cons]
    split
    · next n =>
      rw [tget, if_neg, ih]
      rintro rfl
      rw [h v] at n
      cases n
    · exact ih

/-- The fields that a reset keeps lie outside the global page. -/
theorem keptFlds_not_global {keep : List Nat} (hk : keep = [] ∨ keep = stickyFlds) {f : Fld} (hf : .reg f.reg ∈ globalRegs) :
    (keep.contains f.ctorIdx || ownerFlds.contains f.ctorIdx) = false := by
  have all : ∀ n ∈ stickyFlds ++ ownerFlds, .reg (Fld.ofNat n).reg ∉ globalRegs := by decide
  have out {n : Nat} (hn : n ∈ stickyFlds ++ ownerFlds) : f.ctorIdx ≠ n := by
    rintro rfl
    exact all _ hn (by rw [Fld.ofNat_ctorIdx]; exact hf)
  have ho : ownerFlds.contains f.ctorIdx = false := by
    rw [List.contains_eq_mem, decide_eq_false_iff_not]
    exact fun h => out (List.mem_append_right _ h) rfl
  rw [ho, Bool.or_false]
  obtain rfl | rfl := hk
  · rfl
  · rw [List.contains_eq_mem, decide_eq_false_iff_not]
    exact fun h => out (List.mem_append_left _ h) rfl

/-- After the bank is cut down to the fields kept, what follows in a reset leaves the global page alone. -/
theorem resetKeep_fget (s : State) {keep : List Nat} (hk : keep = [] ∨ keep = stickyFlds) {f : Fld}
    (hf : .reg f.reg ∈ globalRegs) (i : Nat) : (resetKeep s keep).fget f i = fldReset f i := by
  unfold resetKeep
  extract_lets s1 z r0 r v1 v2 v3 n m
  have hn : n.fget f i = fldReset f i := tget_filter_drop _ _ _ fun v => keptFlds_not_global hk hf
  have h1 : Kept (maskBut globalRegs) n m := .cond (.field _ _ _ (.refl _ _) (.of_beq (by decide +kernel))) (.refl _ _)
  have h2 : Kept (maskBut globalRegs) n (updShow (fuseSense (m.fset .RIND_STATUS_mode 0 3))) :=
    updShow_kept (.of_beq (by decide +kernel)) (fuseSense_kept (.of_beq (by decide +kernel))
      (.field _ _ _ h1 (.of_beq (by decide +kernel))))
  exact (h2.same_of_but hf f i rfl).trans hn

theorem resetB_fget (s : State) {f : Fld} (hf : .reg f.reg ∈ globalRegs) (i : Nat) : (resetB s).fget f i = fldReset f i :=
  resetKeep_fget s (.inr rfl) hf i

theorem srcCause_reg (r : ResetSource) : (srcCause r).reg = .RESET_CAUSE := by cases r <;> rfl

/-- A source of level A or B that asserts returns the global page to its reset values. -/
theorem assertSource_fget (s : State) (r : ResetSource) {f : Fld} (hf : .reg f.reg ∈ globalRegs) (i : Nat) :
    (assertSource s r).fget f i = fldReset f i := by
  unfold assertSource
  extract_lets l n v m k
  have hn : n.fget f i = fldReset f i := by
    show (if srcCold r then resetA s else resetB s).fget f i = _
    split
    · exact resetKeep_fget s (.inl rfl) hf i
    · exact resetB_fget s hf i
  have cause {t : State} (x : Fld) (hx : x.reg = .RESET_CAUSE) (ht : Kept (maskBut globalRegs) n t) :
      Kept (maskBut globalRegs) n (t.fset x 0 1) := .field _ _ _ ht (by rw [hx]; exact .of_beq (by decide +kernel))
  have hm : Kept (maskBut globalRegs) n m := (Kept.refl _ n).setRind _ rfl rfl (.of_beq (by decide +kernel))
  have hk : Kept (maskBut globalRegs) n k := Kept.foldl (fun _ x ht => cause _ (srcCause_reg x) ht) hm
  have h : Kept (maskBut globalRegs) n (if k.host.perst then k.fset .RESET_CAUSE_perst 0 1 else k) := .cond (cause _ rfl hk) hk
  exact (h.same_of_but hf f i rfl).trans hn

/-! ### The identity registers across the resets -/

/-- The identity registers are at their reset values. -/
def identityReset (s : State) : Prop := ∀ f i, .reg f.reg ∈ identityRegs → s.fget f i = fldReset f i

/-- From one state to the next the identity registers stay as they are, or a reset has put them at their reset values. -/
inductive IdentityStands (s t : State) : Prop where
  | kept (h : Kept (maskBut identityRegs) s t)
  | reset {u : State} (hu : identityReset u) (h : Kept (maskBut identityRegs) u t)

/-- A field of an identity register that was at its reset value is at it still. -/
theorem IdentityStands.fget {s t : State} (h : IdentityStands s t) {f : Fld} {i : Nat} (hf : .reg f.reg ∈ identityRegs)
    (hz : s.fget f i = fldReset f i) : t.fget f i = fldReset f i := by
  cases h with
  | kept h => exact (h.same_of_but hf f i rfl).trans hz
  | reset hu h => exact (h.same_of_but hf f i rfl).trans (hu f i hf)

theorem identityRegs_global {p : Part} (h : p ∈ identityRegs) : p ∈ globalRegs := by
  have k : identityRegs.Sublist globalRegs := by decide
  exact k.subset h

theorem assertSource_identityReset (s : State) (r : ResetSource) : identityReset (assertSource s r) :=
  fun _ i hf => assertSource_fget s r (identityRegs_global hf) i

theorem resetB_identityReset (s : State) : identityReset (resetB s) := fun _ i hf => resetB_fget s (identityRegs_global hf) i

section
variable {s t : State}

theorem IdentityStands.same : IdentityStands s s := .kept (.refl _ _)

theorem IdentityStands.asserted {r : ResetSource} : IdentityStands t (assertSource s r) :=
  .reset (assertSource_identityReset s r) (.refl _ _)

/-- A start that fails asserts its source and records why. -/
theorem startFail_stands {kind step : Nat} : IdentityStands t (startFail s kind step) := by
  have status {u v : State} (x : Fld) (n : Nat) (hx : x.reg = .START_STATUS) (h : Kept (maskBut identityRegs) u v) :
      Kept (maskBut identityRegs) u (v.fset x 0 n) := .field _ _ _ h (by rw [hx]; exact .of_beq (by decide +kernel))
  unfold startFail
  extract_lets trial n latch s1 im s2 s3
  have h2 : Kept (maskBut identityRegs) s1 s2 := (Kept.refl _ s1).setImages _ (.of_beq (by decide +kernel))
  exact .reset (assertSource_identityReset _ _) (status _ _ rfl (status _ _ rfl (status _ _ rfl (status _ _ rfl h2))))

/-! ### The commands that can assert level A or B -/

/-- The same of whatever next state an outcome has. -/
def IdentityStandsO (s : State) (o : Host.Outcome State Fault Refusal) : Prop := ∀ t, o = .next t → IdentityStands s t

theorem IdentityStandsO.next (h : IdentityStands s t) : IdentityStandsO s (.next t) := by
  intro u e
  cases e
  exact h

theorem IdentityStands.ite {a b : State} {c : Prop} [Decidable c] (ha : IdentityStands s a) (hb : IdentityStands s b) :
    IdentityStands s (if c then a else b) := by
  split
  · exact ha
  · exact hb

theorem execResetChipAssert_stands : IdentityStandsO s (execResetChipAssert s) := by
  refine .next ?_
  split
  · exact .ite .asserted .same
  · exact .same

theorem execRecoveryComplete_stands {m : MbxReq} : IdentityStandsO s (execRecoveryComplete m s) := by
  have hm : Within (maskBut globalRegs) (maskBut identityRegs) := .of_beq (by decide +kernel)
  have done {t : State} {c : Nat} (h : Kept (maskBut identityRegs) s t) : IdentityStands s (mbxDone t m c 0 0) :=
    .kept (mbxDone_keptAt hm h)
  have hr : Kept (maskBut identityRegs) s (if m.internal then s else ringRead s 0 6) :=
    .cond (.refl _ _) (ringRead_kept _ _ (.of_beq (by decide +kernel)) (.refl _ _))
  refine .next (.ite (.ite (done hr) (.ite (done hr) (.ite (done hr) (.ite (done hr) ?_)))) .same)
  exact .reset (resetB_identityReset _) (.field _ _ _ (.refl _ _) (.of_beq (by decide +kernel)))

theorem execPowerRailFall_stands {l : List Nat} : IdentityStandsO s (execPowerRailFall l s) := .next (.ite .asserted .same)

theorem execRstNAssert_stands {w : Nat} : IdentityStandsO s (execRstNAssert w s) := by
  have hd : Kept (maskBut identityRegs) s s.draw.2 := (Kept.refl _ s).draw (.of_beq (by decide +kernel))
  exact .next (.ite .same (.ite .asserted (.ite .asserted (.kept hd))))

theorem execBrownout_stands {v : Nat} : IdentityStandsO s (execBrownout v s) := .next (.ite .asserted .same)

theorem execThermalTrip_stands : IdentityStandsO s (execThermalTrip s) := .next .asserted

theorem execCriticalStateError_stands {place : Nat} : IdentityStandsO s (execCriticalStateError place s) :=
  .next (.ite .same (.reset (assertSource_identityReset _ _) (.field _ _ _ (.refl _ _) (.of_beq (by decide +kernel)))))

theorem execWatchdogStage2_stands : IdentityStandsO s (execWatchdogStage2 s) := .next (.ite .asserted .same)

theorem execStartWindowExpire_stands : IdentityStandsO s (execStartWindowExpire s) := by
  refine .next ?_
  split
  · exact .same
  · exact .ite startFail_stands .same

theorem execReleaseWindowExpire_stands {step : Nat} : IdentityStandsO s (execReleaseWindowExpire step s) := by
  refine .next ?_
  split
  · exact .same
  · exact .ite startFail_stands .same

theorem execDomainRelease_stands {step : Nat} {tests : StartTests} : IdentityStandsO s (execDomainRelease step tests s) := by
  have clock {t : State} (n : Nat) (h : Kept (maskBut identityRegs) s t) : IdentityStands s (clockOn t n) :=
    .kept (clockOn_kept n (.of_beq (by decide +kernel)) h)
  have load : Kept (maskBut identityRegs) s (loadDefaults s) :=
    loadDefaults_sealed (.of_beq (by decide +kernel)) (.inl (.of_beq (by decide +kernel))) (.refl _ _)
  have banks : Kept (maskBut identityRegs) s (loadBanks s) := loadBanks_kept (.of_beq (by decide +kernel)) (.refl _ _)
  have tested : Kept (maskBut identityRegs) s (startTests s step tests) := startTests_kept _ _ (.of_beq (by decide +kernel)) (.refl _ _)
  refine .next (.ite .same (.ite (.ite .same ?_) (.ite (clock _ load) (.ite (clock _ banks) (clock _ tested)))))
  split
  · exact clock _ (bootTake_kept _ (.of_beq (by decide +kernel)) (.refl _ _))
  · exact startFail_stands

theorem execBootRecordWriteDone_stands : IdentityStandsO s (execBootRecordWriteDone s) := by
  have upd {t : State} (h : Kept (maskBut identityRegs) s t) : Kept (maskBut identityRegs) s (updShow t) :=
    updShow_kept (.of_beq (by decide +kernel)) h
  have again {t : State} (h : Kept (maskBut identityRegs) s t) : IdentityStands s (match t.images.activation with
      | some a => if a.recorded then t else activationRecord t a
      | none => t) := by
    split
    · exact .ite (.kept h) (.kept (activationRecord_kept _ (.of_beq (by decide +kernel)) h))
    · exact .kept h
  refine .next ?_
  split
  · exact .same
  · next r why hw =>
    have h1 : Kept (maskBut identityRegs) s (updShow (bootPut s r)) := upd (bootPut_kept _ (.of_beq (by decide +kernel)) (.refl _ _))
    cases why with
    | activate =>
      dsimp only
      split
      · exact .kept h1
      · next a ha =>
        have h2 := h1.setImages { (updShow (bootPut s r)).images with runs := none, activation := some { a with recorded := true } }
          (.of_beq (by decide +kernel))
        exact .ite .asserted (.kept (activationSettle_keptAt (.of_beq (by decide +kernel)) (upd h2)))
    | confirm =>
      have h2 := Kept.field .UPD_STATUS_last_event 0 2 h1 (.of_beq (by decide +kernel))
      exact again (upd (fuseSvn_kept _ (.of_beq (by decide +kernel)) h2))
    | start => exact again h1
    | recovery => exact again h1

end

end Sys2Proof.Machine
end

section
/-! SUPPORT. SETUP_LOCK and the identity registers, command by command. -/

namespace Sys2Proof.Machine

-- A proof that evaluates in the kernel waits for every declaration before it, and holds a thread while it waits.
set_option Elab.async false

/-- The commands that can assert a source of level A or B. -/
def canReset (c : Instr) : Bool :=
  match c with
  | .resetChipAssert | .recoveryComplete .. | .thermalTrip | .startWindowExpire | .watchdogStage2 | .bootRecordWriteDone |
    .powerRailFall .. | .rstNAssert .. | .brownout .. | .criticalStateError .. | .domainRelease .. | .releaseWindowExpire .. => true
  | _ => false

section
variable {fr : Nat} {s t : State}

theorem Kept.mono {gr : Nat} (h : Kept gr s t) (hm : Within gr fr) : Kept fr s t :=
  { h with same := fun p e => h.same p (Bool.eq_false_iff.2 fun k => Bool.eq_false_iff.1 e (hm.testBit k)) }

theorem KeptO.mono {gr : Nat} {o : Host.Outcome State Fault Refusal} (h : KeptO gr s o) (hm : Within gr fr) : KeptO fr s o :=
  fun t e => (h t e).mono hm

/-- No command but those that can assert level A or B changes an identity register, nor SETUP_LOCK but to set it. -/
theorem exec_sealed_kept {c : Instr} (hc : canReset c = false) (hm : Within (maskBut sealedRegs) fr)
    (hl : Within (Part.bit (.reg .SETUP_LOCK)) fr ∨ s.fget .SETUP_LOCK_lock 0 = 1) : KeptO fr s (exec c s) := by
  have hg : Within (maskBut globalRegs) fr := .trans (by decide +kernel) hm
  have hs := Kept.refl fr s
  cases c
  case resetChipAssert | recoveryComplete | thermalTrip | startWindowExpire | watchdogStage2 | bootRecordWriteDone | powerRailFall |
    rstNAssert | brownout | criticalStateError | domainRelease | releaseWindowExpire => cases hc
  case drainComplete => exact execDrainComplete_keptAt hg hs
  case bankMirrorComplete => exact execBankMirrorComplete_keptAt hg hs
  case resetDomain => exact execResetDomain_keptAt hg hs
  case domainHold => exact execDomainHold_keptAt hg hs
  case domainSwitchComplete => exact execDomainSwitchComplete_sealed hm hl hs
  case mladundRestartDone => exact execMladundRestartDone_keptAt hg hs
  case octetRetrainNext => exact execOctetRetrainNext_keptAt hg hs
  case setupLockWrite => exact .next (reg8_sealed hm hl hs)
  case registerWrite => exact execRegisterWrite_sealed hm hl hs
  -- the row of every other command lists none of the sealed registers
  all_goals
    refine (exec_kept _ s).mono (.trans ?_ hm)
    dsimp only [mayChange]
    decide +kernel

/-- A command that can assert level A or B leaves the identity registers as they are or at their reset values. -/
theorem exec_reset_stands {c : Instr} (hc : canReset c = true) : IdentityStandsO s (exec c s) := by
  cases c
  case resetChipAssert => exact execResetChipAssert_stands
  case recoveryComplete => exact execRecoveryComplete_stands
  case thermalTrip => exact execThermalTrip_stands
  case startWindowExpire => exact execStartWindowExpire_stands
  case watchdogStage2 => exact execWatchdogStage2_stands
  case bootRecordWriteDone => exact execBootRecordWriteDone_stands
  case powerRailFall => exact execPowerRailFall_stands
  case rstNAssert => exact execRstNAssert_stands
  case brownout => exact execBrownout_stands
  case criticalStateError => exact execCriticalStateError_stands
  case domainRelease => exact execDomainRelease_stands
  case releaseWindowExpire => exact execReleaseWindowExpire_stands
  all_goals cases hc

/-- Every command leaves the identity registers as they are or at their reset values. -/
theorem exec_identityStands {c : Instr} : IdentityStandsO s (exec c s) := by
  cases hc : canReset c with
  | true => exact exec_reset_stands hc
  | false => exact fun t h => .kept (exec_sealed_kept hc (.of_beq (by decide +kernel)) (.inl (.of_beq (by decide +kernel))) t h)

/-- A command outside the twelve is none that can assert level A or B. -/
theorem canReset_eq_false {c : Instr}
    (h : ∀ m, c ≠ .resetChipAssert ∧ c ≠ .recoveryComplete m ∧ c ≠ .thermalTrip ∧ c ≠ .startWindowExpire ∧ c ≠ .watchdogStage2 ∧
      c ≠ .bootRecordWriteDone)
    (hr : ∀ l, c ≠ .powerRailFall l) (hw : ∀ w, c ≠ .rstNAssert w ∧ c ≠ .brownout w ∧ c ≠ .criticalStateError w)
    (hd : ∀ x y, c ≠ .domainRelease x y ∧ c ≠ .releaseWindowExpire x) : canReset c = false := by
  obtain ⟨chip, -, trip, window, stage2, record⟩ := h ⟨false, 0, [], false⟩
  cases c
  case resetChipAssert => exact (chip rfl).elim
  case recoveryComplete m => exact ((h m).2.1 rfl).elim
  case thermalTrip => exact (trip rfl).elim
  case startWindowExpire => exact (window rfl).elim
  case watchdogStage2 => exact (stage2 rfl).elim
  case bootRecordWriteDone => exact (record rfl).elim
  case powerRailFall l => exact (hr l rfl).elim
  case rstNAssert w => exact ((hw w).1 rfl).elim
  case brownout w => exact ((hw w).2.1 rfl).elim
  case criticalStateError w => exact ((hw w).2.2 rfl).elim
  case domainRelease x y => exact ((hd x y).1 rfl).elim
  case releaseWindowExpire x => exact ((hd x {}).2 rfl).elim
  all_goals rfl

/-- Neither a level C nor a level D reset touches the global page. -/
theorem exec_levelCD_kept {c : Instr} (hc : (∃ k, c = .hostReset k) ∨ (∃ n, c = .functionLevelReset n) ∨ (∃ m, c = .resetDomain m) ∨
      (∃ m, c = .domainHold m) ∨ c = .watchdogStage1 ∨ (∃ d, d ≠ 159 ∧ c = .domainSwitchComplete d)) :
    KeptO (maskBut globalRegs) s (exec c s) := by
  have hm : Within (maskBut globalRegs) (maskBut globalRegs) := .of_beq (by decide +kernel)
  have hs := Kept.refl (maskBut globalRegs) s
  obtain ⟨k, rfl⟩ | ⟨n, rfl⟩ | ⟨m, rfl⟩ | ⟨m, rfl⟩ | rfl | ⟨d, hd, rfl⟩ := hc
  · exact execHostReset_keptAt (.of_beq (by decide +kernel)) (.of_beq (by decide +kernel)) hs
  · exact execFunctionLevelReset_keptAt (.of_beq (by decide +kernel)) hs
  · exact execResetDomain_keptAt hm hs
  · exact execDomainHold_keptAt hm hs
  · exact execWatchdogStage1_keptAt (.of_beq (by decide +kernel)) (.of_beq (by decide +kernel)) (.of_beq (by decide +kernel)) hs
  · exact execDomainSwitchComplete_keptAt hm hd hs

/-- The registers of SETUP_LOCK and its log are on the global page. -/
theorem lockRegs_global {r : Reg} (h : r ∈ [Reg.GLOBAL_STATUS, .SETUP_LOCK, .LOCK_LOG]) : .reg r ∈ globalRegs := by
  simp only [List.mem_cons, List.not_mem_nil, or_false] at h
  obtain rfl | rfl | rfl := h <;> decide

/-- Commands that assert a source whatever the state. -/
theorem exec_asserts {c : Instr} (h : c ∈ [Instr.brownout 0, .thermalTrip, .powerRailFall [1], .criticalStateError 1,
      .criticalStateError 7, .rstNAssert 1000]) (s : State) :
    ∃ u r t, exec c s = .next t ∧ Kept (maskBut globalRegs) (assertSource u r) t := by
  simp only [List.mem_cons, List.not_mem_nil, or_false] at h
  obtain rfl | rfl | rfl | rfl | rfl | rfl := h
  · exact ⟨_, _, _, rfl, .refl _ _⟩
  · exact ⟨_, _, _, rfl, .refl _ _⟩
  · exact ⟨_, _, _, rfl, .refl _ _⟩
  · exact ⟨_, _, _, rfl, .field _ _ _ (.refl _ _) (.of_beq (by decide +kernel))⟩
  · exact ⟨_, _, _, rfl, .field _ _ _ (.refl _ _) (.of_beq (by decide +kernel))⟩
  · exact ⟨_, _, _, rfl, .refl _ _⟩

theorem identityRegs_of_mem {r : Reg} (h : r ∈ [Reg.DEV_ID, .DEV_UID, .DEV_PEN]) : .reg r ∈ identityRegs := by
  simpa [identityRegs] using h

end

end Sys2Proof.Machine

open Sys2Proof Sys2Proof.Machine

/-- Settles O56: writes reach neither the identity registers nor, but to set it, SETUP_LOCK; levels C and D leave the global page
alone; a reset of level A or B puts all six registers at their reset values. -/
theorem identityAndSetupLockStand : Obligations.IdentityAndSetupLockStand := by
  refine ⟨fun c s t hl h hn hr hw hd => ?_, fun s r f i hf => assertSource_fget s r (lockRegs_global hf) i, fun s c hc => ?_,
    fun s c t hc h f i hf => ?_, fun c s t h f i hf hz => (exec_identityStands t h).fget (identityRegs_of_mem hf) hz⟩
  · have k : Kept (maskBut [.reg .SETUP_LOCK]) s t :=
      exec_sealed_kept (canReset_eq_false hn hr hw hd) (.of_beq (by decide +kernel)) (.inr hl) t h
    exact (k.same_of_but (p := .reg .SETUP_LOCK) (by decide) _ _ rfl).trans hl
  · obtain ⟨u, r, t, e, k⟩ := exec_asserts hc s
    exact ⟨t, e, fun f i hf => (k.same_of_but (lockRegs_global hf) f i rfl).trans (assertSource_fget u r (lockRegs_global hf) i)⟩
  · exact (exec_levelCD_kept hc t h).same_of_but (lockRegs_global hf) f i rfl

end

section
/-! SUPPORT. What the event of a counter changes: the counter itself, and programmable counters that are set to it (R305, R306). -/

namespace Sys2Proof.Machine

theorem progAdd_shape (fuel : Nat) (s : State) (g n k : Nat) : ∃ p, progAdd fuel s g n k = { s with prog := p } := by
  induction fuel generalizing s n k with
  | zero => exact ⟨s.prog, rfl⟩
  | succ fuel ih =>
    unfold progAdd
    dsimp only
    split
    · exact ih { s with prog := _ } _ _
    · exact ⟨_, rfl⟩

theorem progTake_shape (s : State) (g idx k : Nat) (tenant : Option Nat) (n : Nat) :
    ∃ p, progTake s g idx k tenant n = { s with prog := p } := by
  unfold progTake
  dsimp only
  split
  · exact progAdd_shape _ _ _ _ _
  · exact ⟨s.prog, rfl⟩

theorem progEvent_shape (s : State) (g idx k : Nat) (tenant : Option Nat) :
    ∃ p, progEvent s g idx k tenant = { s with prog := p } := by
  unfold progEvent
  split
  · refine List.foldlRecOn _ _ (motive := fun t : State => ∃ p, t = { s with prog := p }) ⟨s.prog, rfl⟩ ?_
    rintro _ ⟨p, rfl⟩ n -
    exact progTake_shape { s with prog := p } g idx k tenant n
  · exact ⟨s.prog, rfl⟩

/-- An event adds to its counter modulo 2^48; beside it only programmable counters can change. -/
theorem count_shape (s : State) (c : Ctr) (i k : Nat) (tenant : Option Nat) :
    ∃ p, s.count c i k tenant = { s with ctr := tset 0 s.ctr (c.ctorIdx, i) ((s.cget c i + k) % 2 ^ 48), prog := p } :=
  progEvent_shape _ _ _ _ _

section
variable (s : State) (c : Ctr) (i k : Nat) (tenant : Option Nat)

/-- What does not read the counters reads the same after an event. -/
theorem count_proj {α : Type} (f : State → α) (hf : ∀ x p, f { s with ctr := x, prog := p } = f s) :
    f (s.count c i k tenant) = f s := by
  obtain ⟨p, e⟩ := count_shape s c i k tenant
  rw [e]
  exact hf _ p

@[simp] theorem count_reg : (s.count c i k tenant).reg = s.reg := count_proj s c i k tenant State.reg fun _ _ => rfl
@[simp] theorem count_out : (s.count c i k tenant).out = s.out := count_proj s c i k tenant State.out fun _ _ => rfl
@[simp] theorem count_frames : (s.count c i k tenant).frames = s.frames := count_proj s c i k tenant State.frames fun _ _ => rfl
@[simp] theorem count_recirc : (s.count c i k tenant).recirc = s.recirc := count_proj s c i k tenant State.recirc fun _ _ => rfl
@[simp] theorem count_buffers : (s.count c i k tenant).buffers = s.buffers := count_proj s c i k tenant State.buffers fun _ _ => rfl
@[simp] theorem count_time : (s.count c i k tenant).time = s.time := count_proj s c i k tenant State.time fun _ _ => rfl
@[simp] theorem count_host : (s.count c i k tenant).host = s.host := count_proj s c i k tenant State.host fun _ _ => rfl

@[simp] theorem count_cget_same : (s.count c i k tenant).cget c i = (s.cget c i + k) % 2 ^ 48 := by
  obtain ⟨p, e⟩ := count_shape s c i k tenant
  rw [e]
  exact tget_tset_same _ _ _ _

theorem count_cget_other {d : Ctr} (j : Nat) (h : d ≠ c) : (s.count c i k tenant).cget d j = s.cget d j := by
  obtain ⟨p, e⟩ := count_shape s c i k tenant
  rw [e]
  exact tget_tset_other _ _ _ _ _ _ fun x => h (Ctr.eq_of_ctorIdx (congrArg Prod.fst x))

@[simp] theorem slotEvent_cget (g code n : Nat) (d : Ctr) (j : Nat) : (slotEvent s g code n tenant).cget d j = s.cget d j := by
  obtain ⟨p, e⟩ := progEvent_shape s g code n tenant
  rw [slotEvent, e]
  rfl

end

end Sys2Proof.Machine
end

section
/-! SUPPORT. Header slots and recirculation (R32, R56, R59, R96, R394). -/

namespace Sys2Proof.Machine

section
variable {s : State}

/-! ### Header slots -/

theorem exec_headerSlotGrant_front {slice source : Nat} {e : Staged} (hslice : slice < 16) (hruns : s.runs (pdSlice slice) = true)
    (hsource : source < 2) (hhead : stagingHead s (2 * slice + source) = some e) (hready : slotReady s e.frame = true) :
    exec (.headerSlotGrant slice source) s = .next (if sliceStalled s slice then slotStall s slice else grantFront s slice e) := by
  simp only [exec, execHeaderSlotGrant, hslice, hruns, and_self, if_true, hsource, hhead, hready, Bool.not_true, Bool.false_eq_true, if_false]

theorem exec_headerSlotGrant_recirc {slice source id : Nat} {l : List Nat} (hslice : slice < 16) (hruns : s.runs (pdSlice slice) = true)
    (hsource : 2 ≤ source) (hhead : tget [] s.recirc (slice, 0) = id :: l) :
    exec (.headerSlotGrant slice source) s = .next (if sliceStalled s slice then slotStall s slice
      else grantRecirc { s with recirc := tset [] s.recirc (slice, 0) l } slice id) := by
  simp only [exec, execHeaderSlotGrant, hslice, hruns, and_self, if_true, Nat.not_lt.2 hsource, if_false, hhead]

theorem slotStall_bankStall (slice : Nat) : (slotStall s slice).cget .bankStall slice = (s.cget .bankStall slice + 1) % 2 ^ 48 := by
  unfold slotStall
  dsimp only
  rw [slotEvent_cget, count_cget_other _ _ _ _ _ _ (by decide), count_cget_same]
  rfl

theorem slotStall_sliceSlotBack (slice : Nat) :
    (slotStall s slice).cget .sliceSlotBack slice = (s.cget .sliceSlotBack slice + 1) % 2 ^ 48 := by
  unfold slotStall
  dsimp only
  rw [slotEvent_cget, count_cget_same, count_cget_other _ _ _ _ _ _ (by decide)]
  rfl

/-! ### Recirculation -/

/-- A frame as its next pass (R56, R59): what the pass before it has selected and decided is gone. -/
def nextPass (s : State) (f : Frame) : Frame :=
  { f with bytes := nextPassBytes s f, pass := f.pass + 1, copies := 0, probeOk := false, selected := false, decap := none, place := none,
           prof := 0, outer := none, key := [], m4 := 0, m5 := 0, strAddr := none, kind := 0, opcode := 0, dest := .unset, edits := [],
           launch := none, mirror := none, member := none }

@[simp] theorem splitCopies_recirc (id : Nat) : (splitCopies s id).recirc = s.recirc := by
  unfold splitCopies
  dsimp only
  split <;> rfl

/-- The frame joins its slice's recirculation port as its next pass. -/
theorem exec_recirculate {frame : Nat} {f : Frame} (hf : s.frame? frame = some f) (hstage : f.stage = .recirc) (hwhole : f.whole = true)
    (hout : s.recirc.all (fun e => !e.2.contains frame) = true) :
    ∃ t, exec (.recirculate frame) s = .next t ∧ t.frame? frame = some (nextPass s f) ∧
      t.recirc = tset [] s.recirc (f.slice, 0) (tget [] s.recirc (f.slice, 0) ++ [frame]) := by
  have e : exec (.recirculate frame) s = execRecirculate frame s := rfl
  rw [e, execRecirculate, hf]
  dsimp only
  rw [if_pos ⟨hstage, hwhole, hout⟩]
  refine ⟨_, rfl, frame?_setFrame_same _ _ _, ?_⟩
  split <;> simp only [setFrame_recirc, splitCopies_recirc, count_recirc]

theorem frame_of_frame? {id : Nat} {f : Frame} (h : s.frame? id = some f) : s.frame id = f := by
  rw [State.frame, h, Option.getD_some]

end

end Sys2Proof.Machine

open Sys2Proof Sys2Proof.Machine

/-- Settles O5: a grant goes by the slice's request queues; a recirculating frame is `nextPass` of itself. -/
theorem slotsAndRecirculation : Obligations.SlotsAndRecirculation := by
  refine ⟨⟨fun s slice source e hslice hruns hsource hhead hready => ?_, fun s slice source id l hslice hruns hsource hhead hfree => ?_⟩,
    fun s frame f hf hstage hwhole hout => ?_⟩
  · have h := exec_headerSlotGrant_front hslice hruns hsource hhead hready
    refine ⟨fun hfree => ?_, fun hfull => ⟨slotStall s slice, ?_, slotStall_bankStall slice, slotStall_sliceSlotBack slice⟩⟩
    · rw [h, hfree, if_neg Bool.false_ne_true]
    · rw [h, hfull, if_pos rfl]
  · rw [exec_headerSlotGrant_recirc hslice hruns hsource hhead, hfree, if_neg Bool.false_ne_true]
  · obtain ⟨t, ht, hframe, hrecirc⟩ := exec_recirculate hf hstage hwhole hout
    refine ⟨t, ht, ?_, ?_⟩
    · rw [hrecirc, tget_tset_same]
    · rw [frame_of_frame? hframe]
      exact ⟨rfl, rfl, rfl, rfl, rfl, rfl, hstage⟩

end

section
/-! SUPPORT. The release of a frame that goes to a recirculation port (R20, R157, R204). -/

namespace Sys2Proof.Machine

section
variable {s : State} {id : Nat} {f : Frame}

/-- The frame of a domain's lowest place is the one released, once it has committed and no rekey holds it back. -/
theorem exec_frameRelease {domain p : Nat} (hmin : ((domainFrames s domain).map (fun x => x.1)).min? = some p)
    (hfind : (domainFrames s domain).find? (fun x => x.1 == p) = some (p, id)) :
    exec (.frameRelease domain) s = .next (if (s.frame id).stage = .committed ∧ switchHolds s p = false then
      drainRefresh (rekeySettle (releaseFrame s id)) else s) := by
  simp only [exec, execFrameRelease, hmin, hfind]

theorem modFrame_frame?_same (g : Frame → Frame) (h : s.frame? id = some f) : (s.modFrame id g).frame? id = some (g f) := by
  rw [State.modFrame, h]
  exact frame?_setFrame_same _ _ _

/-- What a frame number names is read from the frames alone. -/
theorem frame?_congr {t : State} (h : t.frames = s.frames) (id : Nat) : t.frame? id = s.frame? id := by
  rw [State.frame?, State.frame?, h]

theorem setCopies_frame? (n : Nat) (h : s.frame? id = some f) :
    (setCopies s id n).frame? id = some { f with copies := n, stage := .released } := by
  have k := modFrame_frame?_same (fun f => { f with copies := n, stage := .released }) h
  unfold setCopies
  dsimp only
  split
  · split <;> exact k
  · exact k

/-- Below pass 3, a frame with no mirror whose egress is a recirculation port waits to recirculate through that port's slice. -/
theorem releaseFrame_recirc {q c : Nat} (h : s.frame? id = some f) (hdest : f.dest = .port q c) (hq : 257 ≤ q ∧ q < 273)
    (hpass : f.pass < 3) (hmirror : f.mirror = none) :
    (releaseFrame s id).frame? id = some { f with copies := 1, stage := .recirc, slice := q - 257 } := by
  have one : 1 + bit (none : Option Nat).isSome = 1 := rfl
  have e : releaseFrame s id = (setCopies s id 1).modFrame id (fun f => { f with stage := .recirc, slice := q - 257 }) := by
    simp only [releaseFrame, frame_of_frame? h, hmirror, one, releaseMirror, releaseMain, hdest, if_pos hq, if_pos hpass]
  rw [e]
  exact modFrame_frame?_same _ (setCopies_frame? 1 h)

theorem rekeySettle_frames (s : State) : (rekeySettle s).frames = s.frames := by
  unfold rekeySettle
  split
  · rfl
  · split <;> rfl

theorem drainRefresh_frames (s : State) : (drainRefresh s).frames = s.frames := by
  unfold drainRefresh
  split <;> rfl

end

end Sys2Proof.Machine

open Sys2Proof Sys2Proof.Machine

/-- Settles O6, from the one frame of a domain that a release can take, and from what the release makes of it. -/
theorem releaseFollowsArrivalInADomain : Obligations.ReleaseFollowsArrivalInADomain := by
  refine ⟨fun s domain p id hmin hfind => ⟨fun hstage hhold => ?_, fun hstage => ?_⟩,
    fun s domain p id f q c hmin hfind hf hstage hhold hdest hlo hhi hpass hmirror => ?_⟩
  · rw [exec_frameRelease hmin hfind, if_pos ⟨hstage, hhold⟩]
  · rw [exec_frameRelease hmin hfind, if_neg fun h => hstage h.1]
  · have h : (drainRefresh (rekeySettle (releaseFrame s id))).frame? id = some { f with copies := 1, stage := .recirc, slice := q - 257 } :=
      (frame?_congr ((drainRefresh_frames _).trans (rekeySettle_frames _)) id).trans
        (releaseFrame_recirc hf hdest ⟨hlo, hhi⟩ hpass hmirror)
    refine ⟨_, exec_frameRelease hmin hfind, ?_⟩
    rw [if_pos ⟨by rw [frame_of_frame? hf, hstage], hhold⟩]
    beta_reduce
    rw [frame_of_frame? h]
    exact ⟨rfl, rfl, rfl, rfl⟩

end

section
/-! SUPPORT. Messages, ring entries and completions: what they leave of the rings and the work, and what they let out (R257 to R265). -/

namespace Sys2Proof.Machine

-- A proof that evaluates in the kernel waits for every declaration before it, and holds a thread while it waits.
set_option Elab.async false

section
variable {s : State}

/-! ### Messages -/

/-- A message changes nothing of the host interface but its status blocks and what is pending. -/
theorem setMessage_host (s : State) (set v : Nat) :
    ∃ q d p, (setMessage s set v).host = { s.host with sbSeq := q, sbDirty := d, msixPend := p } := by
  unfold setMessage
  dsimp only
  split
  · split <;> exact ⟨_, _, _, rfl⟩
  · split <;> exact ⟨_, _, _, rfl⟩

/-- So does the event vector. -/
theorem event_host (s : State) (f : Fld) (i : Nat) :
    ∃ q d p, (s.event f i).host = { s.host with sbSeq := q, sbDirty := d, msixPend := p } := by
  unfold State.event evtUpdate
  dsimp only
  split
  · exact setMessage_host _ _ _
  · exact ⟨_, _, _, rfl⟩

/-! ### A ring that stops (R261) -/

theorem ringStop_rings_work (set k : Nat) (err : Fld) :
    (ringStop s set k err).host.rings = s.host.rings ∧ (ringStop s set k err).host.work = s.host.work := by
  obtain ⟨q, d, p, e⟩ : ∃ q d p, (ringStop s set k err).host = { s.host with sbSeq := q, sbDirty := d, msixPend := p } :=
    event_host _ _ _
  rw [e]
  exact ⟨rfl, rfl⟩

theorem ringStop_stopped (set k : Nat) : (ringStop s set k .SET_ERR_dma_err).fget .RING_CTL_stopped (set * 8 + k) = 1 := by
  have h : Kept (maskBut [.reg .RING_CTL]) (s.fset .RING_CTL_stopped (set * 8 + k) 1) (ringStop s set k .SET_ERR_dma_err) :=
    State.event_kept _ _ (.of_beq (by decide +kernel)) (State.emit_kept _ (.of_beq (by decide +kernel))
      (.field _ _ _ (.refl _ _) (.of_beq (by decide +kernel)))) (.of_beq (by decide +kernel))
  exact (h.same_of_but (p := .reg .RING_CTL) (by decide) _ _ rfl).trans (fget_fset_same _ _ _ _)

theorem ringStop_dmaErr (set k : Nat) : (ringStop s set k .SET_ERR_dma_err).fget .SET_ERR_dma_err set = 1 := by
  have h : Kept (maskBut [.reg .SET_ERR]) _ (ringStop s set k .SET_ERR_dma_err) :=
    evtUpdate_kept (.of_beq (by decide +kernel)) (.refl _ _)
  exact (h.same_of_but (p := .reg .SET_ERR) (by decide) _ _ rfl).trans (fget_fset_same _ _ _ _)

/-! ### Ring entries and completions (R258, R265) -/

theorem ringMessage_work (set k : Nat) : (ringMessage s set k).host.work = s.host.work := by
  obtain ⟨q, d, p, e⟩ := setMessage_host (s.setRing set k { s.ring set k with since := 0, oldest := none }) set
    (s.fget .RING_CTL_vector (set * 8 + k))
  rw [ringMessage, e]
  rfl

theorem ringWrite_work (set k v : Nat) : (ringWrite s set k v).host.work = s.host.work := by
  unfold ringWrite
  dsimp only
  split
  · exact ringMessage_work _ _
  · rfl

/-- The write to host memory of a ring's next entry, with its phase. -/
def ringEntry (s : State) (set k v : Nat) : Out :=
  .hostWrite (s.fget .RING_BASE_addr (set * 8 + k) + 64 * ((s.ring set k).devIdx % ringSize s set k))
    (leBytes 64 (setBits v 511 1 (phaseOf (s.ring set k).devIdx (ringSize s set k))))

/-- An entry leaves the device first; whatever its message sends follows. -/
theorem ringWrite_emits (set k v : Nat) : s.out ++ [ringEntry s set k v] <+: (ringWrite s set k v).out := by
  have host {t u : State} (h : Kept (partsMask [.host, .out]) t u) (r : RingSt) :
      Kept (partsMask [.host, .out]) t (sbMark (u.setRing set k r) set) :=
    sbMark_kept _ (.of_beq (by decide +kernel)) (State.setRing_kept _ _ _ (.of_beq (by decide +kernel)) h)
  have h : Kept (partsMask [.host, .out]) (s.emit (ringEntry s set k v)) (ringWrite s set k v) := by
    unfold ringWrite
    exact .ite (fun _ => ringMessage_kept _ _ (.of_beq (by decide +kernel)) (host (.refl _ _) _)) (fun _ => host (.refl _ _) _)
  exact h.out

theorem cplData_work (c : Cpl) : (cplData s c).1.host.work = s.host.work := by
  unfold cplData
  split
  · split <;> rfl
  · rfl

theorem cplKeep_work (c : Cpl) : (cplKeep s c).host.work = s.host.work := rfl

theorem cplOne_work (c : Cpl) : (cplOne s c).host.work = s.host.work := by
  rw [← cplData_work (s := s) c]
  unfold cplOne
  dsimp only
  split
  · split <;> rfl
  · split
    · split <;> simp only [cplKeep_work, count_host]
    · split
      · rw [count_host, ringWrite_work]
      · rfl

theorem cplFlush_work (l : List Cpl) : (cplFlush s l).host.work = s.host.work :=
  List.foldlRecOn l _ (motive := fun t : State => t.host.work = s.host.work) rfl fun _ h c _ => (cplOne_work c).trans h

section
variable {w : Work} {opcode status reason version extra : Nat} {quiet : Bool}

/-- A completion ends the work of its descriptor and no other. -/
theorem complete_work (data : Option (Nat × List Byte)) :
    (complete s w opcode status reason version extra quiet data).host.work = (workDrop s w.set w.ring w.index).host.work := by
  unfold complete
  dsimp only
  split
  · split
    · rw [count_host]
    · rfl
  · split
    · split
      · rfl
      · exact cplFlush_work _
    · split
      · rfl
      · exact cplFlush_work _

theorem workOf_workDrop (set ring index : Nat) : workOf (workDrop s set ring index) set ring index = none := by
  refine List.find?_eq_none.2 fun x hx => ?_
  have k := (List.mem_filter.1 hx).2
  simp only [Bool.not_eq_true'] at k
  rw [k]
  exact Bool.false_ne_true

theorem workOf_complete (data : Option (Nat × List Byte)) :
    workOf (complete s w opcode status reason version extra quiet data) w.set w.ring w.index = none := by
  rw [workOf, complete_work]
  exact workOf_workDrop _ _ _

/-- The state in which a completion is written: its descriptor's work has ended, and no completion waits. -/
def completing (s : State) (w : Work) : State :=
  { workDrop s w.set w.ring w.index with host := { (workDrop s w.set w.ring w.index).host with cpls := [] } }

/-- A completion that is neither lost nor quiet is written at once where its ring has room and none waits before it. -/
theorem complete_written (hruns : ringRuns s w.set 1 = true) (hroom : ringFull s w.set 1 = false) (hcpls : s.host.cpls = [])
    (hlost : w.lost = false) (hloud : (quiet && status == 0) = false) :
    complete s w opcode status reason version extra quiet none =
      (ringWrite (completing s w) w.set 1 (cplEntry w.index opcode status reason version s.stamp32 extra)).count .cplWritten w.set := by
  have hon : ringOn s w.set 1 = true := by
    simp only [ringRuns, Bool.and_eq_true] at hruns
    exact hruns.1.1
  have e : complete s w opcode status reason version extra quiet none =
      cplFlush (completing s w) (s.host.cpls ++ [⟨w.set, some (cplEntry w.index opcode status reason version s.stamp32 extra), none⟩]) := by
    unfold complete
    simp only [hlost, hloud, Bool.false_eq_true, if_false, Option.isNone_some, Bool.false_and]
    rfl
  have on : ringOn (completing s w) w.set 1 = true := hon
  have runs : (ringRuns (completing s w) w.set 1 && !ringFull (completing s w) w.set 1) = true :=
    Bool.and_eq_true_iff.2 ⟨hruns, congrArg Bool.not hroom⟩
  rw [e, hcpls]
  simp only [cplFlush, List.nil_append, List.foldl_cons, List.foldl_nil, cplOne, cplData, on, Bool.not_true, Bool.false_eq_true, if_false,
    runs, if_true]

theorem mem_drop_length_of_append {α : Type} {a l : List α} {x : α} (h : a ++ [x] <+: l) : x ∈ l.drop a.length := by
  obtain ⟨b, rfl⟩ := h
  simp

theorem cmdComplete_answered : Answered s (cmdComplete s w status reason version extra) w status reason version extra := by
  intro hruns hroom hcpls hlost hloud
  have quiet : (bits w.desc 8 1 == 1 && status == 0) = false := by
    obtain h | h := hloud <;> simp [h]
  have k : Kept (maskBut [.ctr .cplWritten]) (completing s w)
      (ringWrite (completing s w) w.set 1 (cplEntry w.index (w.desc % 256) status reason version s.stamp32 extra)) :=
    ringWrite_kept _ _ _ (.of_beq (by decide +kernel)) (.refl _ _)
  rw [cmdComplete, complete_written hruns hroom hcpls hlost quiet, count_out, count_cget_same]
  refine ⟨?_, mem_drop_length_of_append (ringWrite_emits (s := completing s w) w.set 1 _)⟩
  rw [k.same_of_but (p := .ctr .cplWritten) (by decide) w.set]
  rfl

/-- What an answer says is read of the state before from the registers, ring 1, the waiting completions, time, `cplWritten` and what
has left the device. -/
theorem Answered.of_same {u t : State} (h : Answered u t w status reason version extra) (hreg : u.reg = s.reg)
    (hring : u.ring w.set 1 = s.ring w.set 1) (hmaster : u.host.busMaster = s.host.busMaster) (hcpls : u.host.cpls = s.host.cpls)
    (htime : u.time = s.time) (hout : u.out = s.out) (hcount : u.cget .cplWritten w.set = s.cget .cplWritten w.set) :
    Answered s t w status reason version extra := by
  have hfget (f : Fld) (i : Nat) : u.fget f i = s.fget f i := congrArg (fun r => tget (fldReset f i) r (f.ctorIdx, i)) hreg
  have hsize : ringSize u w.set 1 = ringSize s w.set 1 := congrArg (2 ^ ·) (hfget _ _)
  have hruns : ringRuns u w.set 1 = ringRuns s w.set 1 := by
    simp only [ringRuns, ringOn, setOwner, State.fbit, hfget, hring, hmaster]
  have hfull : ringFull u w.set 1 = ringFull s w.set 1 := by simp only [ringFull, hring, hsize]
  have hstamp : u.stamp32 = s.stamp32 := by simp only [State.stamp32, State.devNs, htime]
  rw [Answered, hruns, hfull, hcpls, hcount, hfget, hring, hsize, hstamp, hout] at h
  exact h

end

end

end Sys2Proof.Machine
end

section
/-! SUPPORT. Fetching one descriptor (R261, R262, R265, R270). -/

namespace Sys2Proof.Machine

-- A proof that evaluates in the kernel waits for every declaration before it, and holds a thread while it waits.
set_option Elab.async false

section
variable {s : State} {set k : Nat} {c : Ctr} {d : HostDesc}

/-- The work of the descriptor that a ring reads next. -/
def fetchedWork (s : State) (set k : Nat) (d : HostDesc) : Work :=
  { set := set, ring := k, index := (s.ring set k).devIdx, desc := d.desc.toNat, data := d.data, stage := .fetched, lost := false,
    hash := 0, place := 0 }

/-- A ring has read a descriptor, and it is counted. -/
def descRead (s : State) (set k : Nat) (c : Ctr) : State := (ringRead s set k).count c set

/-- The descriptor's work is in the device. -/
def descFetched (s : State) (set k : Nat) (c : Ctr) (d : HostDesc) : State :=
  { descRead s set k c with
    host := { (descRead s set k c).host with work := (descRead s set k c).host.work ++ [fetchedWork s set k d] } }

theorem exec_descriptorFetch_one (hset : set < 64) (hk : k = 0 ∨ k = 3) (hruns : ringRuns s set k = true) (hroom : 1 ≤ fetchRoom s set k) :
    exec (.descriptorFetch set k [d]) s = .next (if d.failed then ringStop s set k .SET_ERR_dma_err
      else if k = 0 then fetchCmd s set d else fetchInj s set d) := by
  have e : [d].take (fetchRoom s set k) = [d] := List.take_of_length_le hroom
  simp only [exec, execDescriptorFetch, hset, hk, and_self, if_true, e, fetchAll, hruns, Bool.true_eq_false, if_false]

theorem fetchCmd_listed (hop : cmdListed (cmdOp d.desc.toNat) = true) (ha : bits d.desc.toNat 10 6 = 0) (hb : bits d.desc.toNat 60 4 = 0)
    (hdata : d.dataFailed = false) : fetchCmd s set d = descFetched s set 0 .cmdFetched d := by
  simp only [fetchCmd, hop, ha, hb, hdata, Bool.not_true, bne_self_eq_false, Bool.or_self, Bool.false_eq_true, if_false, Bool.and_false,
    Bool.false_and]
  rfl

theorem fetchCmd_invalid
    (h : cmdListed (cmdOp d.desc.toNat) = false ∨ bits d.desc.toNat 10 6 ≠ 0 ∨ bits d.desc.toNat 60 4 ≠ 0) :
    fetchCmd s set d = cmdComplete (descRead s set 0 .cmdFetched) (fetchedWork s set 0 d) 1 0 0 0 := by
  refine if_pos ?_
  simpa [or_assoc] using h

theorem fetchInj_accepted (h : injRefusal s set d.desc.toNat = 0) (hdata : d.dataFailed = false) :
    fetchInj s set d = descFetched s set 3 .injFrames d := by
  simp only [fetchInj, h, hdata, bne_self_eq_false, Bool.false_eq_true, if_false]
  rfl

@[simp] theorem descRead_cget : (descRead s set k c).cget c set = (s.cget c set + 1) % 2 ^ 48 := count_cget_same _ _ _ _ _

@[simp] theorem descRead_host : (descRead s set k c).host = (ringRead s set k).host := count_host _ _ _ _ _

theorem descFetched_cget : (descFetched s set k c d).cget c set = (s.cget c set + 1) % 2 ^ 48 := descRead_cget

theorem descFetched_devIdx : ((descFetched s set k c d).ring set k).devIdx = ((s.ring set k).devIdx + 1) % 2 ^ 32 := by
  have e : (descRead s set k c).ring set k = (ringRead s set k).ring set k := by
    show tget {} (descRead s set k c).host.rings (set, k) = _
    rw [descRead_host]
    rfl
  show ((descRead s set k c).ring set k).devIdx = _
  rw [e]
  exact congrArg RingSt.devIdx (setRing_same _ _ _ _)

theorem descFetched_work : (descFetched s set k c d).host.work = s.host.work ++ [fetchedWork s set k d] := by
  show (descRead s set k c).host.work ++ _ = _
  rw [descRead_host]
  rfl

theorem descFetched_out : (descFetched s set k c d).out = s.out := count_out _ _ _ _ _

/-- The answer to an invalid command is that of the state before it was read. -/
theorem fetchCmd_invalid_answered (w : Work) :
    Answered s (cmdComplete (descRead s set 0 .cmdFetched) w 1 0 0 0) w 1 0 0 0 := by
  refine cmdComplete_answered.of_same (count_reg _ _ _ _ _) ?_ ?_ ?_ (count_time _ _ _ _ _) (count_out _ _ _ _ _)
    (count_cget_other _ _ _ _ _ _ (by decide))
  · show tget {} (descRead s set 0 .cmdFetched).host.rings (w.set, 1) = _
    rw [descRead_host]
    exact setRing_other _ _ _ _ _ _ fun e => Nat.one_ne_zero (Prod.mk.inj e).2
  · rw [descRead_host]
    rfl
  · rw [descRead_host]
    rfl

theorem cmdComplete_cmdFetched (w : Work) (status reason version extra i : Nat) :
    (cmdComplete s w status reason version extra).cget .cmdFetched i = s.cget .cmdFetched i := by
  have h : Kept (maskBut [.ctr .cmdFetched]) s (cmdComplete s w status reason version extra) :=
    cmdComplete_kept _ _ _ _ _ (.of_beq (by decide +kernel)) (.refl _ _)
  exact h.same_of_but (p := .ctr .cmdFetched) (by decide) i

end

end Sys2Proof.Machine
end

section
/-! SUPPORT. An injected frame takes its buffer and goes on, or waits for one (R18, R198, R269, R270). -/

namespace Sys2Proof.Machine

-- A proof that evaluates in the kernel waits for every declaration before it, and holds a thread while it waits.
set_option Elab.async false

section
variable {s : State} {set index mode : Nat} {w : Work}

theorem injNext_some (h : injNext s set = some w) : w.set = set ∧ w.ring = 3 := by
  have k := List.find?_some h
  simp only [Bool.and_eq_true, beq_iff_eq] at k
  exact k.1

theorem injGo_enter (hnext : injNext s set = some w) (hindex : w.index = index) (hmode : injMode w.desc = mode)
    (hroom : injRoom s w = true) : injGo s set index mode = injEnter s w := by
  simp only [injGo, hnext, hindex, hmode, ne_eq, not_true_eq_false, or_self, if_false, hroom, if_true]

/-- An injection without a buffer waits, counted. -/
def injWaiting (s : State) (set index : Nat) : State :=
  { s.count .injWait 0 with
    buffers := { (s.count .injWait 0).buffers with injWait := (s.count .injWait 0).buffers.injWait ++ [⟨set, index⟩] } }

theorem injGo_wait (hnext : injNext s set = some w) (hindex : w.index = index) (hmode : injMode w.desc = mode)
    (hroom : injRoom s w = false) (hnew : s.buffers.injWait.any (fun x => x.set == set) = false) :
    injGo s set index mode = injWaiting s set index := by
  simp only [injGo, hnext, hindex, hmode, ne_eq, not_true_eq_false, or_self, if_false, hroom, Bool.false_eq_true, hnew]
  rfl

theorem injWaiting_cget : (injWaiting s set index).cget .injWait 0 = (s.cget .injWait 0 + 1) % 2 ^ 48 := count_cget_same _ _ _ _ _

theorem injWaiting_buffers :
    (injWaiting s set index).buffers = { s.buffers with injWait := s.buffers.injWait ++ [⟨set, index⟩] } := by
  unfold injWaiting
  rw [count_buffers]

/-! ### A PROCESS frame (R18, R269) -/

theorem setPoolFree_frames (pool n : Nat) : (setPoolFree s pool n).frames = s.frames := by
  unfold setPoolFree
  dsimp only
  split <;> rfl

/-- A frame that takes a buffer and is charged to no port knows its buffer and its owner, and is else as it was. -/
theorem bufTake_frame? {id : Nat} {f : Frame} (pool owner : Nat) (h : s.frame? id = some f) :
    ∃ i, (bufTake s id pool owner none).frame? id = some { f with buf := some (pool, i), owner := owner, charged := false } := by
  refine ⟨_, (frame?_congr (count_frames _ _ _ _ _) id).trans (modFrame_frame?_same _ ?_)⟩
  exact (frame?_congr (setPoolFree_frames _ _) id).trans h

@[simp] theorem frame?_newFrame (f : Frame) : (s.newFrame f).frame? s.nextFrame = some f := by
  rw [State.frame?, State.newFrame, find?_tput_same]
  rfl

/-- The frame of an INJ descriptor that enters, and the state in which its set waits for no buffer. -/
def injArrival (s : State) (w : Work) : Frame × State :=
  injFrame { s with buffers := { s.buffers with injWait := s.buffers.injWait.filter (fun x => x.set != w.set) } } w.desc w.data

/-- A PROCESS frame is in its buffer, before it joins the recirculation port. -/
def injStored (s : State) (w : Work) : State :=
  bufTake ((injArrival s w).2.newFrame { (injArrival s w).1 with stage := .recirc }) s.nextFrame (poolFor (w.data.length + 4)) 273 none

/-- A frame joins a slice's recirculation port. -/
def recircJoin (s : State) (slice id : Nat) : State :=
  { s with recirc := tset [] s.recirc (slice, 0) (tget [] s.recirc (slice, 0) ++ [id]) }

theorem recircJoin_tget (slice id : Nat) :
    tget [] (recircJoin s slice id).recirc (slice, 0) = tget [] s.recirc (slice, 0) ++ [id] := tget_tset_same _ _ _ _

theorem recircJoin_frame (slice id n : Nat) : (recircJoin s slice id).frame n = s.frame n := rfl

/-- A completed injection leaves the recirculation ports and the frames alone. -/
theorem injComplete_road (status reason extra : Nat) : (injComplete s w status reason extra).recirc = s.recirc ∧
    (injComplete s w status reason extra).frames = s.frames := by
  have h : Kept (maskBut [.recirc, .frames]) s (injComplete s w status reason extra) :=
    injComplete_kept _ _ _ _ (.of_beq (by decide +kernel)) (.refl _ _)
  exact ⟨h.same_of_but (p := .recirc) (by decide), (h.same_of_but (p := .frames) (by decide)).1⟩

theorem injEnter_process (hmode : injMode w.desc = 1) :
    injEnter s w = injComplete (recircJoin (injStored s w) (injSlice w.desc) s.nextFrame) w 0 0 0 := by
  simp only [injEnter, hmode, Nat.one_ne_zero, if_false]
  rfl

theorem injStored_recirc : (injStored s w).recirc = s.recirc := by
  have h : Kept (maskBut [.recirc]) ((injArrival s w).2.newFrame { (injArrival s w).1 with stage := .recirc }) (injStored s w) :=
    bufTake_kept _ _ _ _ (.of_beq (by decide +kernel)) (.refl _ _)
  exact h.same_of_but (p := .recirc) (by decide)

theorem injStored_frame (hmode : injMode w.desc = 1) :
    ((injStored s w).frame s.nextFrame).bytes = w.data ++ fcsOf w.data ∧
      ((injStored s w).frame s.nextFrame).ingPort = 257 + injSlice w.desc := by
  obtain ⟨i, h⟩ := bufTake_frame? (poolFor (w.data.length + 4)) 273
    (frame?_newFrame (s := (injArrival s w).2) { (injArrival s w).1 with stage := .recirc })
  have k : (injStored s w).frame s.nextFrame = _ := frame_of_frame? h
  rw [k]
  exact ⟨rfl, if_pos hmode⟩

/-- A PROCESS frame joins the recirculation port of its slice with its FCS appended, and its descriptor is done. -/
theorem injEnter_recirc (hmode : injMode w.desc = 1) :
    tget [] (injEnter s w).recirc (injSlice w.desc, 0) = tget [] s.recirc (injSlice w.desc, 0) ++ [s.nextFrame] ∧
      ((injEnter s w).frame s.nextFrame).bytes = w.data ++ fcsOf w.data ∧
      ((injEnter s w).frame s.nextFrame).ingPort = 257 + injSlice w.desc ∧ workOf (injEnter s w) w.set w.ring w.index = none := by
  rw [injEnter_process hmode]
  generalize hu : recircJoin (injStored s w) (injSlice w.desc) s.nextFrame = u
  obtain ⟨hrecirc, hframes⟩ := injComplete_road (s := u) (w := w) 0 0 0
  have hframe : (injComplete u w 0 0 0).frame s.nextFrame = (injStored s w).frame s.nextFrame := by
    rw [State.frame, frame?_congr hframes, ← State.frame, ← hu, recircJoin_frame]
  rw [hrecirc, hframe, ← hu, recircJoin_tget, injStored_recirc]
  obtain ⟨hbytes, hport⟩ := injStored_frame (s := s) hmode
  exact ⟨rfl, hbytes, hport, workOf_complete _⟩

end

end Sys2Proof.Machine

open Sys2Proof Sys2Proof.Machine

/-- Settles O35: one descriptor is fetched, answered or stops its ring; the injection at the head of its ring enters or waits. -/
theorem descriptorsAreFetchedAndInjected : Obligations.DescriptorsAreFetchedAndInjected := by
  refine ⟨fun s set d hset hruns hroom => ⟨fun hread hop ha hb hdata => ?_, fun hread hbad => ?_, fun hfail => ?_⟩,
    fun s set d hset hruns hroom hread hdata hok => ?_,
    fun s set index w hnext hindex => ⟨fun hmode hroom => ?_, fun hmode hroom => ?_, fun hroom hnew => ⟨fun hmode => ?_, fun hmode => ?_⟩,
      fun x hx hxi hroom => ?_⟩⟩
  · refine ⟨_, exec_descriptorFetch_one hset (.inl rfl) hruns hroom, ?_⟩
    rw [hread, if_neg Bool.false_ne_true, if_pos rfl, fetchCmd_listed hop ha hb hdata]
    exact ⟨descFetched_cget, descFetched_devIdx, descFetched_work, descFetched_out⟩
  · refine ⟨_, exec_descriptorFetch_one hset (.inl rfl) hruns hroom, ?_⟩
    rw [hread, if_neg Bool.false_ne_true, if_pos rfl, fetchCmd_invalid hbad]
    exact ⟨(cmdComplete_cmdFetched _ _ _ _ _ _).trans descRead_cget, fetchCmd_invalid_answered _⟩
  · refine ⟨_, exec_descriptorFetch_one hset (.inl rfl) hruns hroom, ?_⟩
    rw [hfail, if_pos rfl]
    exact ⟨ringStop_stopped set 0, ringStop_dmaErr set 0, ringStop_rings_work _ _ _⟩
  · refine ⟨_, exec_descriptorFetch_one hset (.inr rfl) hruns hroom, ?_⟩
    rw [hread, if_neg Bool.false_ne_true, if_neg (by decide), fetchInj_accepted hok hdata]
    exact ⟨descFetched_cget, descFetched_devIdx, by rw [descFetched_work, List.length_append, List.length_singleton]⟩
  · exact congrArg Host.Outcome.next (injGo_enter hnext hindex hmode hroom)
  · obtain ⟨rfl, hring⟩ := injNext_some hnext
    obtain ⟨hrecirc, hbytes, hport, hwork⟩ := injEnter_recirc (s := s) hmode
    rw [hring, hindex] at hwork
    exact ⟨injEnter s w, congrArg Host.Outcome.next (injGo_enter hnext hindex hmode hroom), hrecirc, hbytes, hport, hwork⟩
  · exact ⟨_, congrArg Host.Outcome.next (injGo_wait hnext hindex hmode hroom hnew), injWaiting_cget, injWaiting_buffers⟩
  · exact ⟨_, congrArg Host.Outcome.next (injGo_wait hnext hindex hmode hroom hnew), injWaiting_cget, injWaiting_buffers⟩
  · have e : exec (.injBufferRetry set) s = execInjBufferRetry set s := rfl
    rw [e, execInjBufferRetry, hx, hnext]
    exact congrArg Host.Outcome.next (if_pos ⟨hindex.trans hxi.symm, hroom⟩)

end

section

open Sys2Proof Sys2Proof.Machine

/-- Settles O58, from the frame of every command. -/
theorem frameOfTheDataPath : Obligations.FrameOfTheDataPath :=
  fun c s t _ h => (exec_kept c s t h).changesOnly

end

section
/-! SUPPORT. A port's link: what judging it, declaring the port up or down, its hold and its flush make of the port and of PORT_STATUS
(R34, R45 to R47). -/

namespace Sys2Proof.Machine

-- A proof that evaluates in the kernel waits for every declaration before it, and holds a thread while it waits.
set_option Elab.async false

/-- Where a port's link stands: the state of the ports, PORT_STATUS and PORT_HOLD. -/
def linkParts : List Part := [.ports, .reg .PORT_STATUS, .reg .PORT_HOLD]

/-- The registers of a port's link. -/
def statusParts : List Part := [.reg .PORT_STATUS, .reg .PORT_HOLD]

section
variable {fr : Nat} {z0 s t : State} {q : Nat}

theorem Kept.setBuffers (h : Kept fr z0 t) (v : Buffers) (hm : Within (2 ^ 8) fr) : Kept fr z0 { t with buffers := v } :=
  h.build rfl rfl .same .same .same .same .same .same .same .same (.hit hm) .same .same .same .same .same .same .same .same .same .same
    .same .same .same .same

/-! ### What leaves the link alone -/

theorem Kept.port (h : Kept (maskBut linkParts) s t) (q : Nat) : t.port q = s.port q := by
  have e : t.ports = s.ports := h.same_of_but (p := .ports) (by decide)
  rw [State.port, e, ← State.port]

theorem Kept.linkFld (h : Kept (maskBut linkParts) s t) {f : Fld} (hf : .reg f.reg ∈ linkParts) (i : Nat) : t.fget f i = s.fget f i :=
  h.same_of_but hf f i rfl

/-- A write of one field leaves every other. -/
theorem fget_fset_ne {f g : Fld} (h : g ≠ f) (i j v : Nat) : (s.fset f i v).fget g j = s.fget g j :=
  fget_fset_other _ _ _ _ _ _ fun e => h (congrArg Prod.fst e)

@[simp] theorem count_port (c : Ctr) (i k : Nat) (tenant : Option Nat) : (s.count c i k tenant).port q = s.port q :=
  count_proj s c i k tenant (State.port · q) fun _ _ => rfl

@[simp] theorem fset_port (f : Fld) (i v : Nat) : (s.fset f i v).port q = s.port q := rfl

/-- An event sets its bit; of the link it changes nothing else. -/
theorem event_link (f : Fld) (i : Nat) : Kept (maskBut linkParts) (s.fset f i 1) (s.event f i) :=
  evtUpdate_kept (.of_beq (by decide +kernel)) (.refl _ _)

/-! ### The flush and the hold (R45, R391) -/

theorem flushStart_link : Kept (maskBut linkParts) (flushMark s q) (flushStart s q) :=
  flushPort_kept q (.of_beq (by decide +kernel)) (.refl _ _)

theorem flushStart_port : (flushStart s q).port q = { s.port q with holdFrom := none } :=
  (flushStart_link.port q).trans (setPort_same _ _ _)

theorem flushStart_linkFld {f : Fld} (hf : .reg f.reg ∈ linkParts) (i : Nat) :
    (flushStart s q).fget f i = (s.fset .PORT_STATUS_flushing q 1).fget f i := flushStart_link.linkFld hf i

theorem flushStart_flushing : (flushStart s q).fget .PORT_STATUS_flushing q = 1 :=
  (flushStart_linkFld (by decide) q).trans (fget_fset_same _ _ _ _)

/-- The hold of a port that is down begins, and ends at once where it has no length (R45 step 3). -/
def holdStart (s : State) (q : Nat) : State :=
  let s := s.fset .PORT_STATUS_hold_active q 1
  let s := s.setPort q { s.port q with holdFrom := some s.now }
  if s.fget .PORT_HOLD_port_hold_us q = 0 then flushStart s q else s

theorem holdStart_fget {f : Fld} (hf : f.reg = .PORT_STATUS) (hh : f ≠ .PORT_STATUS_hold_active)
    (hl : f ≠ .PORT_STATUS_flushing) (i : Nat) : (holdStart s q).fget f i = s.fget f i := by
  unfold holdStart
  dsimp only
  split
  · rw [flushStart_linkFld (by rw [hf]; decide), fget_fset_ne hl, fget_setPort, fget_fset_ne hh]
  · rw [fget_setPort, fget_fset_ne hh]

theorem holdStart_holds (h : s.fget .PORT_HOLD_port_hold_us q ≠ 0) :
    (holdStart s q).fget .PORT_STATUS_hold_active q = 1 ∧ ((holdStart s q).port q).holdFrom = some s.now := by
  unfold holdStart
  dsimp only
  rw [fget_setPort, fget_fset_ne (by decide), if_neg h, setPort_same, fget_setPort, fget_fset_same]
  exact ⟨rfl, rfl⟩

theorem holdStart_flushes (h : s.fget .PORT_HOLD_port_hold_us q = 0) : (holdStart s q).fget .PORT_STATUS_flushing q = 1 := by
  unfold holdStart
  dsimp only
  rw [fget_setPort, fget_fset_ne (by decide), if_pos h, flushStart_flushing]

/-! ### Down (R34, R45, R47) -/

/-- A port is marked down; once its frames are seen to, it is flushed or its hold begins. -/
theorem declareDown_shape (s : State) (q : Nat) (admin : Bool) :
    ∃ u, Kept (maskBut statusParts) ((s.fset .PORT_STATUS_link_up q 0).fset .PORT_STATUS_down_event q 1) u ∧
      declareDown s q admin = if admin then flushStart u q else holdStart u q := by
  refine ⟨_, ?_, rfl⟩
  have sub {n : Nat} (k : Nat.beq (Nat.lor n (maskBut statusParts)) (maskBut statusParts) = true) : Within n (maskBut statusParts) :=
    .of_beq k
  have event := evtUpdate_kept (sub (by decide +kernel))
    (.refl _ ((s.fset .PORT_STATUS_link_up q 0).fset .PORT_STATUS_down_event q 1))
  have aborted := abortTx_kept q (sub (by decide +kernel)) event
  refine (fun moved => .cond (failover_kept q (sub (by decide +kernel)) moved) moved) ?_
  refine latchUpCfg_kept q (sub (by decide +kernel)) (State.setPort_kept q _ (sub (by decide +kernel)) ?_)
  exact aborted.setBuffers _ (sub (by decide +kernel))

/-- Beside the hold and the flush, PORT_STATUS shows that the port is down and the event. -/
theorem declareDown_fget (admin : Bool) {f : Fld} (hf : f.reg = .PORT_STATUS) (hh : f ≠ .PORT_STATUS_hold_active)
    (hl : f ≠ .PORT_STATUS_flushing) (i : Nat) :
    (declareDown s q admin).fget f i = ((s.fset .PORT_STATUS_link_up q 0).fset .PORT_STATUS_down_event q 1).fget f i := by
  obtain ⟨u, hu, e⟩ := declareDown_shape s q admin
  rw [e, ← hu.same_of_but (p := .reg .PORT_STATUS) (by decide) f i hf]
  split
  · rw [flushStart_linkFld (by rw [hf]; decide), fget_fset_ne hl]
  · exact holdStart_fget hf hh hl i

theorem declareDown_linkUp (admin : Bool) : (declareDown s q admin).fget .PORT_STATUS_link_up q = 0 := by
  rw [declareDown_fget admin rfl (by decide) (by decide), fget_fset_ne (by decide), fget_fset_same]
  rfl

theorem declareDown_downEvent (admin : Bool) : (declareDown s q admin).fget .PORT_STATUS_down_event q = 1 := by
  rw [declareDown_fget admin rfl (by decide) (by decide), fget_fset_same]
  rfl

/-- Unless it is disabled, a port that goes down begins a hold. -/
theorem declareDown_hold :
    ∃ u, u.now = s.now ∧ u.fget .PORT_HOLD_port_hold_us q = s.fget .PORT_HOLD_port_hold_us q ∧
      declareDown s q false = holdStart u q := by
  obtain ⟨u, hu, e⟩ := declareDown_shape s q false
  refine ⟨u, hu.now, ?_, e⟩
  rw [hu.same_of_but (p := .reg .PORT_HOLD) (by decide) _ _ rfl, fget_fset_ne (by decide), fget_fset_ne (by decide)]

/-- A port that is disabled is down. -/
theorem adminOff_down : portUp (adminOff s q) q = false := by
  have down {t : State} (h : t.fget .PORT_STATUS_link_up q = 0) : portUp t q = false := by rw [portUp, State.fbit, h]; rfl
  unfold adminOff
  dsimp only
  split
  · exact down (declareDown_linkUp true)
  · next h =>
    rw [portUp, State.fbit, flushStart_linkFld (by decide), fget_fset_ne (by decide)]
    exact Bool.eq_false_iff.2 h

/-! ### Up (R34, R45, R46) -/

theorem pfcAgain_link : Kept (maskBut linkParts) s (pfcAgain s q) := pfcAgain_kept q (.of_beq (by decide +kernel)) (.refl _ _)

/-- A port is marked up, with the settings that apply from now on; unless a flush runs its hold ends. -/
theorem declareUp_shape (s : State) (q : Nat) :
    ∃ u, Kept (maskBut statusParts) ((s.fset .PORT_STATUS_link_up q 1).fset .PORT_STATUS_up_event q 1) u ∧
      (u.port q).upFrom = none ∧ (u.port q).holdFrom = none ∧ (u.port q).maxFrame = s.fget .PORT_CFG_max_frame q ∧
      declareUp s q = if u.fbit .PORT_STATUS_flushing q then u else pfcAgain (u.fset .PORT_STATUS_hold_active q 0) q := by
  refine ⟨_, ?_, ?_, ?_, ?_, rfl⟩
  case refine_1 =>
    refine latchCfg_kept q (.of_beq (by decide +kernel)) (State.setPort_kept q _ (.of_beq (by decide +kernel)) ?_)
    exact evtUpdate_kept (.of_beq (by decide +kernel)) (.refl _ _)
  case refine_4 =>
    have h : Kept (maskBut [.reg .PORT_CFG]) (s.fset .PORT_STATUS_link_up q 1)
        ((s.fset .PORT_STATUS_link_up q 1).event .PORT_STATUS_up_event q) :=
      State.event_kept _ _ (.of_beq (by decide +kernel)) (.refl _ _) (.of_beq (by decide +kernel))
    rw [latchCfg, setPort_same]
    exact (h.same_of_but (p := .reg .PORT_CFG) (by decide) _ _ rfl).trans (fget_fset_ne (by decide) _ _ _)
  all_goals rw [latchCfg, setPort_same, setPort_same]

/-- Beside the hold, PORT_STATUS shows that the port is up and the event. -/
theorem declareUp_fget {f : Fld} (hf : f.reg = .PORT_STATUS) (hh : f ≠ .PORT_STATUS_hold_active) (i : Nat) :
    (declareUp s q).fget f i = ((s.fset .PORT_STATUS_link_up q 1).fset .PORT_STATUS_up_event q 1).fget f i := by
  obtain ⟨u, hu, -, -, -, e⟩ := declareUp_shape s q
  rw [e, ← hu.same_of_but (p := .reg .PORT_STATUS) (by decide) f i hf]
  split
  · rfl
  · rw [pfcAgain_link.linkFld (by rw [hf]; decide), fget_fset_ne hh]

theorem declareUp_holdActive (h : s.fbit .PORT_STATUS_flushing q = false) : (declareUp s q).fget .PORT_STATUS_hold_active q = 0 := by
  obtain ⟨u, hu, -, -, -, e⟩ := declareUp_shape s q
  have hflush : u.fbit .PORT_STATUS_flushing q = false := by
    rw [State.fbit, hu.same_of_but (p := .reg .PORT_STATUS) (by decide) _ _ rfl, fget_fset_ne (by decide), fget_fset_ne (by decide)]
    exact h
  rw [e, hflush, if_neg Bool.false_ne_true, pfcAgain_link.linkFld (by decide), fget_fset_same]
  rfl

/-- The counts and the hold of a port end as it comes up. -/
theorem declareUp_port : ((declareUp s q).port q).upFrom = none ∧ ((declareUp s q).port q).holdFrom = none ∧
    ((declareUp s q).port q).maxFrame = s.fget .PORT_CFG_max_frame q := by
  obtain ⟨u, -, hup, hhold, hmax, e⟩ := declareUp_shape s q
  rw [e]
  split
  · exact ⟨hup, hhold, hmax⟩
  · rw [pfcAgain_link.port, fset_port]
    exact ⟨hup, hhold, hmax⟩

/-! ### The debounces (R34) -/

/-- Of the registers nothing changes as a link is judged. -/
theorem linkJudge_reg : (linkJudge s q).reg = s.reg := by
  unfold linkJudge
  dsimp only
  repeat' split
  all_goals simp only [setPort_reg, count_reg]

/-- The down count of a port that is up runs while a loss lasts, the up count of one that is down while every condition holds. -/
theorem linkJudge_port : (linkJudge s q).port q =
    if portUp s q then { s.port q with downFrom := if lossPresent s q then some ((s.port q).downFrom.getD s.now) else none }
    else { s.port q with upFrom := if upConditions s q then some ((s.port q).upFrom.getD s.now) else none } := by
  have down {d : Option Nat} (h : (s.port q).downFrom = d) : s.port q = { s.port q with downFrom := d } := h ▸ rfl
  have up {d : Option Nat} (h : (s.port q).upFrom = d) : s.port q = { s.port q with upFrom := d } := h ▸ rfl
  unfold linkJudge
  dsimp only
  split
  · split
    · cases hd : (s.port q).downFrom with
      | none => exact setPort_same _ _ _
      | some d => exact down hd
    · cases hd : (s.port q).downFrom with
      | none => exact down hd
      | some d => exact (count_port _ _ _ _).trans (setPort_same _ _ _)
  · split
    · cases hd : (s.port q).upFrom with
      | none => exact setPort_same _ _ _
      | some d => exact up hd
    · exact setPort_same _ _ _

/-- A break of the link that ends before its debounce is a glitch. -/
theorem linkJudge_glitch (hup : portUp s q = true) (hloss : lossPresent s q = false) (hd : (s.port q).downFrom.isSome = true) :
    (linkJudge s q).cget .linkGlitch q = (s.cget .linkGlitch q + 1) % 2 ^ 48 := by
  have e : linkJudge s q = (s.setPort q { s.port q with downFrom := none }).count .linkGlitch q := by
    simp only [linkJudge, hup, hloss, hd, if_true, Bool.false_eq_true, if_false]
  rw [e, count_cget_same, cget_setPort]

theorem fget_of_reg (h : t.reg = s.reg) (f : Fld) (i : Nat) : t.fget f i = s.fget f i :=
  congrArg (fun r => tget (fldReset f i) r (f.ctorIdx, i)) h

theorem portUp_of_reg (h : t.reg = s.reg) : portUp t q = portUp s q := by simp only [portUp, State.fbit, fget_of_reg h]

theorem lossPresent_of_reg (h : t.reg = s.reg) : lossPresent t q = lossPresent s q := by
  simp only [lossPresent, State.fbit, fget_of_reg h]

theorem upConditions_of_reg (h : t.reg = s.reg) (ha : (t.port q).anEn = (s.port q).anEn) (hl : (t.port q).ltEn = (s.port q).ltEn) :
    upConditions t q = upConditions s q := by
  simp only [upConditions, portExists, portWidth, State.runs, State.tileFailed, State.fbit, fget_of_reg h, ha, hl]

/-- Judging a link leaves what it judges as it was. -/
theorem linkJudge_upConditions : upConditions (linkJudge s q) q = upConditions s q := by
  refine upConditions_of_reg linkJudge_reg ?_ ?_ <;> rw [linkJudge_port] <;> split <;> rfl

end

end Sys2Proof.Machine
end

section
/-! SUPPORT. The rows that report a link and those that declare it up or down (R33, R34). -/

namespace Sys2Proof.Machine

-- A proof that evaluates in the kernel waits for every declaration before it, and holds a thread while it waits.
set_option Elab.async false

section
variable {s : State} {port : Nat}

theorem bit_mod_two (b : Bool) : bit b % 2 ^ 1 = bit b := by cases b <;> rfl

/-- PORT_STATUS with the lock and the faults that the PCS reports. -/
def linkReported (s : State) (port : Nat) (lock localFault remoteFault : Bool) : State :=
  ((s.fset .PORT_STATUS_align_lock port (bit lock)).fset .PORT_STATUS_local_fault port (bit localFault)).fset
    .PORT_STATUS_remote_fault port (bit remoteFault)

theorem exec_linkConditionChange {lock lf rf : Bool} (hp : port < 256) (hx : portExists s port = true)
    (hr : s.runs (pdOctet (port / 8)) = true) :
    exec (.linkConditionChange port lock lf rf) s = .next (linkJudge (linkReported s port lock lf rf) port) := by
  have e : exec (.linkConditionChange port lock lf rf) s = execLinkConditionChange port lock lf rf s := rfl
  rw [e, execLinkConditionChange, if_pos ⟨hp, hx, hr⟩]
  rfl

theorem linkJudge_shows (f : Fld) (i : Nat) : (linkJudge s port).fget f i = s.fget f i := fget_of_reg linkJudge_reg f i

theorem linkReported_shows (lock lf rf : Bool) :
    (linkReported s port lock lf rf).fget .PORT_STATUS_align_lock port = bit lock ∧
      (linkReported s port lock lf rf).fget .PORT_STATUS_local_fault port = bit lf ∧
      (linkReported s port lock lf rf).fget .PORT_STATUS_remote_fault port = bit rf := by
  refine ⟨?_, ?_, (fget_fset_same _ _ _ _).trans (bit_mod_two rf)⟩
  · rw [linkReported, fget_fset_ne (by decide), fget_fset_ne (by decide), fget_fset_same]
    exact bit_mod_two lock
  · rw [linkReported, fget_fset_ne (by decide), fget_fset_same]
    exact bit_mod_two lf

theorem linkReported_portUp (lock lf rf : Bool) : portUp (linkReported s port lock lf rf) port = portUp s port := by
  rw [portUp, State.fbit, linkReported, fget_fset_ne (by decide), fget_fset_ne (by decide), fget_fset_ne (by decide)]
  rfl

/-- What a reported change does to the debounce counts of its port. -/
theorem linkConditionChange_counts {lock lf rf : Bool} {t : State} (ht : t = linkJudge (linkReported s port lock lf rf) port) :
    (portUp s port = false → upConditions t port = false → (t.port port).upFrom = none) ∧
    (portUp s port = false → upConditions t port = true → (s.port port).upFrom = none → (t.port port).upFrom = some s.now) ∧
    (portUp s port = true → lossPresent t port = true → (s.port port).downFrom = none → (t.port port).downFrom = some s.now) ∧
    (portUp s port = true → lossPresent t port = false → (s.port port).downFrom.isSome = true →
      (t.port port).downFrom = none ∧ t.cget .linkGlitch port = (s.cget .linkGlitch port + 1) % 2 ^ 48) := by
  obtain ⟨u, hu⟩ : ∃ u, u = linkReported s port lock lf rf := ⟨_, rfl⟩
  have hup : portUp u port = portUp s port := hu ▸ linkReported_portUp lock lf rf
  have hport : u.port port = s.port port := hu ▸ rfl
  have hnow : u.now = s.now := hu ▸ rfl
  have hcount : u.cget .linkGlitch port = s.cget .linkGlitch port := hu ▸ rfl
  rw [← hu] at ht
  subst ht
  rw [linkJudge_upConditions, lossPresent_of_reg linkJudge_reg, linkJudge_port, hport, hnow, hup, ← hcount]
  refine ⟨fun hd hc => ?_, fun hd hc hn => ?_, fun hd hc hn => ?_,
    fun hd hc hn => ⟨?_, linkJudge_glitch (hup.trans hd) hc (hport ▸ hn)⟩⟩
  all_goals simp only [hd, hc, if_true, Bool.false_eq_true, if_false]
  all_goals rw [hn]; rfl

theorem exec_autonegComplete (hp : port < 256) (hx : portExists s port = true) (ha : s.fbit .PORT_CFG_admin_en port = true)
    (hn : (s.port port).anEn = true) (hr : s.runs (pdOctet (port / 8)) = true) :
    exec (.autonegComplete port) s = .next (linkJudge (s.fset .PORT_STATUS_an_done port 1) port) :=
  congrArg Host.Outcome.next (if_pos ⟨hp, hx, ha, hn, hr⟩)

theorem exec_linkTrainingComplete (hp : port < 256) (hx : portExists s port = true) (ha : s.fbit .PORT_CFG_admin_en port = true)
    (hn : (s.port port).ltEn = true) (hr : s.runs (pdOctet (port / 8)) = true) :
    exec (.linkTrainingComplete port) s = .next (linkJudge (s.fset .PORT_STATUS_lt_done port 1) port) :=
  congrArg Host.Outcome.next (if_pos ⟨hp, hx, ha, hn, hr⟩)

theorem exec_portUpDebounceExpire {t0 : Nat} (hf : (s.port port).upFrom = some t0) (hd : portUp s port = false)
    (hc : upConditions s port = true) (ht : t0 + 1000 * s.fget .PORT_CFG_up_debounce_us port ≤ s.now) :
    exec (.portUpDebounceExpire port) s = .next (portUpTemplates (declareUp s port) port) := by
  simp only [exec, execPortUpDebounceExpire, hf, hd, hc, ht, decide_true, Bool.not_false, Bool.and_self, if_true]

theorem exec_portDownDebounceExpire {t0 : Nat} (hf : (s.port port).downFrom = some t0) (hu : portUp s port = true)
    (ht : t0 + 1000 * s.fget .PORT_CFG_down_debounce_us port ≤ s.now) :
    exec (.portDownDebounceExpire port) s = .next (declareDown s port false) := by
  simp only [exec, execPortDownDebounceExpire, hf, hu, ht, decide_true, Bool.and_self, if_true]

/-- The templates that go out as a port comes up leave its link alone. -/
theorem portUpTemplates_link : Kept (maskBut linkParts) s (portUpTemplates s port) :=
  portUpTemplates_kept port (.of_beq (by decide +kernel)) (.refl _ _)

end

end Sys2Proof.Machine

open Sys2Proof Sys2Proof.Machine

/-- Settles O1: a link is judged by its conditions as they stand, and a debounce that has run declares it up or down. -/
theorem linkConditionsAndDebounces : Obligations.LinkConditionsAndDebounces := by
  refine ⟨⟨fun s port lock lf rf hp hx hr => ?_, fun s port hp hx ha hn hr => ?_, fun s port hp hx ha hn hr => ?_⟩,
    fun s port t0 hf hd hc ht => ?_, fun s port t0 hf hu ht => ?_⟩
  · refine ⟨_, exec_linkConditionChange hp hx hr, ?_⟩
    obtain ⟨hlock, hlf, hrf⟩ := linkReported_shows (s := s) (port := port) lock lf rf
    exact ⟨(linkJudge_shows _ _).trans hlock, (linkJudge_shows _ _).trans hlf, (linkJudge_shows _ _).trans hrf,
      linkConditionChange_counts rfl⟩
  · exact ⟨_, exec_autonegComplete hp hx ha hn hr, (linkJudge_shows _ _).trans (fget_fset_same _ _ _ _)⟩
  · exact ⟨_, exec_linkTrainingComplete hp hx ha hn hr, (linkJudge_shows _ _).trans (fget_fset_same _ _ _ _)⟩
  · refine ⟨_, exec_portUpDebounceExpire hf hd hc ht, ?_⟩
    obtain ⟨hup, hhold, hmax⟩ := declareUp_port (s := s) (q := port)
    rw [portUpTemplates_link.port, portUpTemplates_link.linkFld (by decide), portUpTemplates_link.linkFld (by decide),
      portUpTemplates_link.linkFld (by decide), declareUp_fget rfl (by decide), declareUp_fget rfl (by decide), fget_fset_same,
      fget_fset_ne (by decide), fget_fset_same]
    exact ⟨rfl, rfl, hup, hhold, hmax, declareUp_holdActive⟩
  · refine ⟨_, exec_portDownDebounceExpire hf hu ht, declareDown_linkUp false, declareDown_downEvent false, ?_⟩
    obtain ⟨u, hnow, hhold, e⟩ := declareDown_hold (s := s) (q := port)
    rw [e, ← hhold, ← hnow]
    exact ⟨holdStart_holds, holdStart_flushes⟩

end

section
/-! SUPPORT. Codewords, the degrade window, pause timers, holds and flushes (R36, R37, R43, R45). -/

namespace Sys2Proof.Machine

-- A proof that evaluates in the kernel waits for every declaration before it, and holds a thread while it waits.
set_option Elab.async false

section
variable {s : State} {port : Nat}

/-! ### Codewords (R36, R37) -/

/-- The counter of a codeword with `n` corrected symbols in all (R36). -/
def codewordCtr (unc : Bool) (n : Nat) : Ctr := if unc = true ∨ 15 < n then .fecUncorrected else fecBin n

theorem fecBin_ne_symCorrected (k : Nat) : fecBin k ≠ .fecSymCorrected := by
  unfold fecBin
  split <;> decide

theorem codewordCtr_ne_symCorrected (unc : Bool) (n : Nat) : codewordCtr unc n ≠ .fecSymCorrected := by
  unfold codewordCtr
  split
  · decide
  · exact fecBin_ne_symCorrected n

theorem symCount_cget (lane : Nat) (l : List Nat) {c : Ctr} (h : c ≠ .fecSymCorrected) (i : Nat) :
    (symCount s lane l).cget c i = s.cget c i := by
  induction l generalizing s lane with
  | nil => rfl
  | cons k l ih => rw [symCount, ih, count_cget_other _ _ _ _ _ _ h]

/-- A codeword counts in its one counter; beside it only corrected symbols count. -/
theorem exec_fecCodewordDecode {corrected : List Nat} {unc : Bool} (hp : port < 256) (hx : portExists s port = true)
    (hl : s.fbit .PORT_STATUS_align_lock port = true) (hr : s.runs (pdOctet (port / 8)) = true) :
    ∃ t, exec (.fecCodewordDecode port corrected unc) s = .next t ∧ ∀ c, c ≠ .fecSymCorrected →
      t.cget c port = (s.count (codewordCtr unc (corrected.take (portWidth s port)).sum) port).cget c port := by
  have e : exec (.fecCodewordDecode port corrected unc) s = _ := congrArg Host.Outcome.next (if_pos ⟨hp, hx, hl, hr⟩)
  refine ⟨_, e, fun c hc => ?_⟩
  have bad : (unc || decide (15 < (corrected.take (portWidth s port)).sum)) = true ↔
      unc = true ∨ 15 < (corrected.take (portWidth s port)).sum := by
    rw [Bool.or_eq_true, decide_eq_true_eq]
  unfold codewordCtr
  dsimp only
  split
  · next k =>
    rw [if_pos (bad.1 k)]
    by_cases h : c = .fecUncorrected
    · subst h
      rw [count_cget_same, count_cget_same, cget_setPort]
    · rw [count_cget_other _ _ _ _ _ _ h, count_cget_other _ _ _ _ _ _ h, cget_setPort]
  · next k => rw [if_neg fun h => k (bad.2 h), symCount_cget _ _ hc]

/-! ### The degrade window (R37) -/

/-- The window's verdict shows in PORT_STATUS, and the next window begins. -/
def windowJudged (s : State) (port : Nat) (high : Bool) : State :=
  (s.setPort port { s.port port with fecCount := 0, fecFrom := s.now }).fset .PORT_STATUS_fec_degraded port (bit high)

/-- A degrade declared anew sets its event, and takes the port down where it is so set. -/
theorem exec_fecDegradeWindowEnd (hp : port < 256) (hx : portExists s port = true) (hr : s.runs (pdOctet (port / 8)) = true)
    (hw : (s.port port).fecFrom + 1000 * s.fget .FEC_DEGRADE_degrade_window_us port ≤ s.now) :
    let high := decide (s.fget .FEC_DEGRADE_degrade_thresh port ≤ (s.port port).fecCount)
    let t := (windowJudged s port high).event .PORT_STATUS_degrade_event port
    exec (.fecDegradeWindowEnd port) s = .next (
      if high && !s.fbit .PORT_STATUS_fec_degraded port then
        if t.fbit .PORT_CFG_degrade_down port && portUp t port then declareDown t port false else t
      else windowJudged s port high) :=
  congrArg Host.Outcome.next (if_pos ⟨hp, hx, hr, hw⟩)

/-- A declared degrade shows with its event, whether or not it takes the port down. -/
theorem degrade_declared {u : State} {f : Fld} (hf : f = .PORT_STATUS_fec_degraded ∨ f = .PORT_STATUS_degrade_event) (b : Bool) (i : Nat) :
    (if b then declareDown (u.event .PORT_STATUS_degrade_event port) port false else u.event .PORT_STATUS_degrade_event port).fget f i =
      (u.fset .PORT_STATUS_degrade_event port 1).fget f i := by
  have hreg : f.reg = .PORT_STATUS := by obtain rfl | rfl := hf <;> rfl
  rw [← (event_link .PORT_STATUS_degrade_event port).linkFld (by rw [hreg]; decide) i]
  split
  · have other {g : Fld} (h : g ≠ .PORT_STATUS_fec_degraded ∧ g ≠ .PORT_STATUS_degrade_event) : f ≠ g := by
      obtain rfl | rfl := hf
      · exact h.1.symm
      · exact h.2.symm
    rw [declareDown_fget false hreg (other (by decide)) (other (by decide)), fget_fset_ne (other (by decide)),
      fget_fset_ne (other (by decide))]
  · rfl

theorem windowJudged_degraded (high : Bool) : (windowJudged s port high).fget .PORT_STATUS_fec_degraded port = bit high :=
  (fget_fset_same _ _ _ _).trans (bit_mod_two high)

/-! ### Pause timers, holds and flushes (R43, R45) -/

theorem exec_holdExpire {t0 : Nat} (h : holdEnd s port = some t0) (ht : t0 ≤ s.now) :
    exec (.holdExpire port) s = .next (flushStart s port) := by
  simp only [exec, execHoldExpire, h, ht, if_true]

theorem flushStart_holdEnd : holdEnd (flushStart s port) port = none := by
  rw [holdEnd, flushStart_port]
  rfl

theorem exec_flushComplete (h : s.fbit .PORT_STATUS_flushing port = true) :
    ∃ u, u = (s.fset .PORT_STATUS_flushing port 0).fset .PORT_STATUS_hold_active port 0 ∧
      exec (.flushComplete port) s = .next (if portUp u port then pfcAgain u port else u) :=
  ⟨_, rfl, congrArg Host.Outcome.next (if_pos h)⟩

end

end Sys2Proof.Machine

open Sys2Proof Sys2Proof.Machine

/-- Settles O2: each row's one effect on its counter or on its port's bits stands through what follows it. -/
theorem codewordsPausesAndHolds : Obligations.CodewordsPausesAndHolds := by
  refine ⟨⟨fun s port corrected unc hp hx hl hr => ?_, fun s port hp hx hr hw => ?_⟩, fun s port prio h => ?_, fun s port t0 h ht => ?_,
    fun s port h => ?_⟩
  · obtain ⟨t, ht, hc⟩ := exec_fecCodewordDecode (corrected := corrected) (unc := unc) hp hx hl hr
    refine ⟨t, ht, (hc _ (codewordCtr_ne_symCorrected _ _)).trans (count_cget_same _ _ _ _ _), fun k _ hk => ?_, fun hk => ?_⟩
    · exact (hc _ (fecBin_ne_symCorrected k)).trans (count_cget_other _ _ _ _ _ _ hk)
    · exact (hc _ (by decide)).trans (count_cget_other _ _ _ _ _ _ hk.symm)
  · refine ⟨_, exec_fecDegradeWindowEnd hp hx hr hw, ?_, fun hn hd => ?_⟩
    · split
      · rw [degrade_declared (.inl rfl), fget_fset_ne (by decide), windowJudged_degraded]
      · exact windowJudged_degraded _
    · rw [if_pos (by rw [hn, decide_eq_true hd]; rfl), degrade_declared (.inr rfl), fget_fset_same]
      rfl
  · exact ⟨_, congrArg Host.Outcome.next (if_pos h), tget_tset_same 0 s.buffers.rxPause (port, prio) 0⟩
  · exact ⟨_, exec_holdExpire h ht, flushStart_flushing, flushStart_holdEnd⟩
  · obtain ⟨u, hu, e⟩ := exec_flushComplete h
    have done : u.fget .PORT_STATUS_flushing port = 0 ∧ u.fget .PORT_STATUS_hold_active port = 0 := by
      rw [hu, fget_fset_same, fget_fset_ne (by decide), fget_fset_same]
      exact ⟨rfl, rfl⟩
    refine ⟨_, e, ?_⟩
    split
    · rw [pfcAgain_link.linkFld (by decide), pfcAgain_link.linkFld (by decide)]
      exact done
    · exact done

end

section
/-! SUPPORT. The end of a transmission: the port is free, and the frame counts once on the wire (R37, R204, R223). -/

namespace Sys2Proof.Machine

-- A proof that evaluates in the kernel waits for every declaration before it, and holds a thread while it waits.
set_option Elab.async false

/-- The counters of a port's wire. -/
def wireCtrs : List Part := [.ctr .txOk, .ctr .txStomped, .ctr .txFrames]

/-- What a frame that has left its port does not touch: the transmissions and the counters of the wire. -/
def wireParts : List Part := .egress :: wireCtrs

section
variable {s t : State} {port : Nat} {u : Tx}

/-! ### A frame boundary (R232) -/

theorem schedApply_tx (q c : Nat) : (schedApply s q c).egress.tx = s.egress.tx := by
  unfold schedApply shaperSettle
  split <;> rfl

/-- At a frame boundary of a port the egress state alone changes, and no frame is in transmission on the port. -/
theorem txClear_tx (q : Nat) : tget none (txClear s q).egress.tx (q, 0) = none := by
  have h : (txClear s q).egress.tx = tset none s.egress.tx (q, 0) none := by
    unfold txClear
    exact List.foldlRecOn (List.range 17) _ (motive := fun x : State => x.egress.tx = tset none s.egress.tx (q, 0) none) rfl
      fun _ hx c _ => (schedApply_tx q c).trans hx
  rw [h, tget_tset_same]

theorem txClear_outside (q : Nat) : Kept (partsMask [.egress]) s (txClear s q) :=
  txClear_kept q (.of_beq (by decide +kernel)) (.refl _ _)

theorem txClear_frame (q id : Nat) : (txClear s q).frame id = s.frame id := by
  have h : (txClear s q).frames = s.frames := ((txClear_outside q).changesOnly .frames (by decide)).1
  rw [State.frame, frame?_congr h, ← State.frame]

theorem txClear_cget (q : Nat) (c : Ctr) (i : Nat) : (txClear s q).cget c i = s.cget c i :=
  (txClear_outside q).changesOnly (.ctr c) (by simp) i

/-! ### A frame that leaves -/

/-- The counters of the wire, one by one. -/
theorem Kept.wire (h : Kept (maskBut wireParts) s t) {c : Ctr} (hc : .ctr c ∈ wireParts) (i : Nat) : t.cget c i = s.cget c i :=
  h.same_of_but hc i

/-- A frame that is to end invalid: it is stomped or errored (R37). -/
def endsBad (s : State) (u : Tx) : Bool := u.stomp || (s.frame u.copy.frame).errored

/-- The wire count of a front-panel frame that leaves. -/
def sentCtr (s : State) (u : Tx) : Ctr := if endsBad s u then .txStomped else .txOk

theorem sentCtr_ne {c : Ctr} (ho : c ≠ .txOk) (hs : c ≠ .txStomped) (u : Tx) : c ≠ sentCtr s u := by
  unfold sentCtr
  split
  · exact hs
  · exact ho

/-- An event of another counter leaves the wire's counters alone. -/
theorem Kept.countWire (h : Kept (maskBut wireParts) s t) {c : Ctr} (hc : .ctr c ∉ wireParts) (i k : Nat) (tenant : Option Nat) :
    Kept (maskBut wireParts) s (t.count c i k tenant) :=
  State.count_kept _ _ _ _ (.of_beq (by decide +kernel)) h (.but (.of_beq (by decide +kernel)) hc)

/-- A front-panel frame counts as sent or stomped, and in its class; nothing else touches the transmissions or the wire's counters. -/
theorem sendWire_counts (s : State) (q : Nat) (u : Tx) :
    ∃ x n tn, Kept (maskBut wireParts) s x ∧ Kept (maskBut wireParts) (((x.count (sentCtr s u) q 1 tn).count
      .txFrames (q * 16 + u.cls) 1 tn).count .txBytes (q * 16 + u.cls) n tn) (sendWire s q u) := by
  obtain ⟨⟨b, x⟩, hx⟩ : ∃ p, p = copyBytes s q u := ⟨_, rfl⟩
  have edited : Kept (maskBut wireParts) s x := .snd hx.symm (copyBytes_kept q u (.of_beq (by decide +kernel)) (.refl _ s))
  obtain ⟨w, hw⟩ : ∃ w, w = if endsBad s u then stompFcs b else b := ⟨_, rfl⟩
  obtain ⟨y, hy⟩ : ∃ y, y = if x.fget .PORT_TEST_loopback q = 3 then x.emit (.looped q w) else x.emit (.wire q w (endsBad s u)) :=
    ⟨_, rfl⟩
  have sent : Kept (maskBut wireParts) s y := hy ▸
    .ite (fun _ => State.emit_kept _ (.of_beq (by decide +kernel)) edited) fun _ => State.emit_kept _ (.of_beq (by decide +kernel)) edited
  refine ⟨y, w.length, (s.frame u.copy.frame).ten, sent, ?_⟩
  unfold sendWire
  rw [← hx]
  dsimp only
  rw [← endsBad, ← sentCtr, ← hw, ← hy]
  refine copyEnd_kept _ (.of_beq (by decide +kernel)) ?_
  split
  · exact Kept.countWire (.refl _ _) (by decide) _ _ _
  · split
    · exact .refl _ _
    · exact injEnd_kept _ _ _ _ (.of_beq (by decide +kernel)) (.cond (.countWire (.refl _ _) (by decide) _ _ _) (.refl _ _))

theorem Kept.setPunts {fr : Nat} {z0 t : State} (h : Kept fr z0 t) (v : List Punt) (hm : Within (2 ^ 7) fr) :
    Kept fr z0 { t with punts := v } :=
  h.build rfl rfl .same .same .same .same .same .same (.hit hm) .same .same .same .same .same .same .same .same .same .same .same .same .same
    .same .same .same

/-- A frame for port 256 counts in its class. -/
theorem sendCpu_counts (s : State) (u : Tx) :
    ∃ x n tn, Kept (maskBut wireParts) s x ∧
      Kept (maskBut wireParts) ((x.count .txFrames (256 * 16 + u.cls) 1 tn).count .txBytes (256 * 16 + u.cls) n tn) (sendCpu s u) := by
  obtain ⟨⟨b, x⟩, hx⟩ : ∃ p, p = copyBytes s 256 u := ⟨_, rfl⟩
  have edited : Kept (maskBut wireParts) s x := .snd hx.symm (copyBytes_kept 256 u (.of_beq (by decide +kernel)) (.refl _ s))
  unfold sendCpu
  rw [← hx]
  dsimp only
  refine ⟨x, b.length, (s.frame u.copy.frame).ten, edited, Kept.setPunts ?_ _ (.of_beq (by decide +kernel))⟩
  split
  · exact Kept.countWire (.refl _ _) (by decide) _ _ _
  · exact .refl _ _

theorem sendWire_txFrames (q : Nat) (u : Tx) :
    (sendWire s q u).cget .txFrames (q * 16 + u.cls) = (s.cget .txFrames (q * 16 + u.cls) + 1) % 2 ^ 48 := by
  obtain ⟨x, n, tn, hx, h⟩ := sendWire_counts s q u
  rw [h.wire (by decide), count_cget_other _ _ _ _ _ _ (by decide), count_cget_same,
    count_cget_other _ _ _ _ _ _ (sentCtr_ne (by decide) (by decide) u), hx.wire (by decide)]

/-- Of the two wire counts of a front-panel port, the frame's own moves. -/
theorem sendWire_sent (q : Nat) (u : Tx) {c : Ctr} (hc : c = .txOk ∨ c = .txStomped) :
    (sendWire s q u).cget c q = if c = sentCtr s u then (s.cget c q + 1) % 2 ^ 48 else s.cget c q := by
  obtain ⟨x, n, tn, hx, h⟩ := sendWire_counts s q u
  have hw : .ctr c ∈ wireParts := by obtain rfl | rfl := hc <;> decide
  have hf : c ≠ .txFrames ∧ c ≠ .txBytes := by obtain rfl | rfl := hc <;> decide
  rw [h.wire hw, count_cget_other _ _ _ _ _ _ hf.2, count_cget_other _ _ _ _ _ _ hf.1]
  split
  · next e => rw [← e, count_cget_same, hx.wire hw]
  · next e => rw [count_cget_other _ _ _ _ _ _ e, hx.wire hw]

theorem sendCpu_txFrames (u : Tx) :
    (sendCpu s u).cget .txFrames (256 * 16 + u.cls) = (s.cget .txFrames (256 * 16 + u.cls) + 1) % 2 ^ 48 := by
  obtain ⟨x, n, tn, hx, h⟩ := sendCpu_counts s u
  rw [h.wire (by decide), count_cget_other _ _ _ _ _ _ (by decide), count_cget_same, hx.wire (by decide)]

/-- What a frame leaves with does not touch the transmissions. -/
theorem send_egress (q : Nat) (u : Tx) : (sendWire s q u).egress = s.egress ∧ (sendCpu s u).egress = s.egress := by
  obtain ⟨x, n, tn, hx, h⟩ := sendWire_counts s q u
  obtain ⟨y, m, tm, hy, k⟩ := sendCpu_counts s u
  have egress {x y : State} (h : Kept (maskBut wireParts) x y) : y.egress = x.egress := h.same_of_but (p := .egress) (by decide)
  have count (x : State) (c : Ctr) (i k : Nat) (tn : Option Nat) : (x.count c i k tn).egress = x.egress :=
    count_proj x c i k tn State.egress fun _ _ => rfl
  rw [egress h, egress k, count, count, count, count, count, egress hx, egress hy]
  exact ⟨rfl, rfl⟩

/-! ### The end of a transmission (R204, R212) -/

theorem exec_frameTransmitEnd_whole (hu : tget none s.egress.tx (port, 0) = some u) (hw : (s.frame u.copy.frame).whole = true) :
    exec (.frameTransmitEnd port) s = .next (if port = 256 then sendCpu (txClear s port) u else sendWire (txClear s port) port u) := by
  simp only [exec, execFrameTransmitEnd, hu, hw, Bool.true_eq_false, if_false]

theorem exec_frameTransmitEnd_partial (hu : tget none s.egress.tx (port, 0) = some u) (hw : (s.frame u.copy.frame).whole = false) :
    exec (.frameTransmitEnd port) s = .next s := by
  simp only [exec, execFrameTransmitEnd, hu, hw, if_true]

theorem sentCtr_txClear (q : Nat) (u : Tx) : sentCtr (txClear s q) u = sentCtr s u := by rw [sentCtr, endsBad, txClear_frame]; rfl

end

end Sys2Proof.Machine

open Sys2Proof Sys2Proof.Machine

/-- Settles O9, from the one wire count and the one class count that a frame leaves behind. -/
theorem transmittedFramesAreCounted : Obligations.TransmittedFramesAreCounted := by
  refine ⟨fun s port u hu hw => ?_, fun s port u hu hw => exec_frameTransmitEnd_partial hu hw⟩
  refine ⟨_, exec_frameTransmitEnd_whole hu hw, ?_⟩
  by_cases hp : port = 256
  · subst hp
    rw [if_pos rfl, (send_egress 256 u).2, sendCpu_txFrames, txClear_cget]
    exact ⟨txClear_tx 256, rfl, fun h => absurd rfl h, fun h => absurd rfl h⟩
  · rw [if_neg hp]
    beta_reduce
    rw [(send_egress port u).1, sendWire_txFrames, sendWire_sent port u (.inl rfl), sendWire_sent port u (.inr rfl),
      sentCtr_txClear, txClear_cget, txClear_cget, txClear_cget]
    refine ⟨txClear_tx port, rfl, fun _ hbad => ?_, fun _ hgood => ?_⟩
    · have e : sentCtr s u = .txStomped := if_pos hbad
      rw [e]
      exact ⟨rfl, rfl⟩
    · have e : sentCtr s u = .txOk := if_neg (Bool.eq_false_iff.1 hgood)
      rw [e]
      exact ⟨rfl, rfl⟩

end

section
/-! SUPPORT. Reception of a whole frame: what its first and its further bytes leave in the port, and the one counter of its end
(R38, R390). -/

namespace Sys2Proof.Machine

-- A proof that evaluates in the kernel waits for every declaration before it, and holds a thread while it waits.
set_option Elab.async false

/-- The receive counters of a port (R38). -/
def rxCtrs : List Ctr :=
  [.rxFecErr, .rxStagingOverrun, .rxOversize, .rxRunt, .rxFcsErr, .rxPfc, .rxPause, .rxMacCtrlOther, .rxForeign, .rxOk]

/-- The receive counters, and what names the frame kinds of a port. -/
def rxParts : List Part := .reg .FAB_CFG :: .reg .PORT_CFG :: rxCtrs.map .ctr

section
variable {s t u : State} {q : Nat}

theorem Kept.rxCount (h : Kept (maskBut (.ports :: rxParts)) s t) {c : Ctr} (hc : c ∈ rxCtrs) (i : Nat) : t.cget c i = s.cget c i :=
  h.same_of_but (p := .ctr c) (List.mem_cons_of_mem _ (List.mem_cons_of_mem _ (List.mem_cons_of_mem _ (List.mem_map_of_mem hc)))) i

theorem Kept.rxPort (h : Kept (maskBut (.ports :: rxParts)) s t) (q : Nat) : t.port q = s.port q := by
  have e : t.ports = s.ports := h.same_of_but (p := .ports) (by decide)
  rw [State.port, e, ← State.port]

/-! ### The bytes of a frame arrive -/

theorem modFrame_port (id : Nat) (g : Frame → Frame) : (s.modFrame id g).port q = s.port q :=
  Kept.rxPort (State.modFrame_kept id g (.of_beq (by decide +kernel)) (.refl _ _)) q

theorem stagingRenew_port (r id limit got : Nat) (whole : Bool) : (stagingRenew s r id limit got whole).port q = s.port q :=
  Kept.rxPort (stagingRenew_kept r id limit got whole (.of_beq (by decide +kernel)) (.refl _ _)) q

/-- The first byte of a frame finds room in the staging FIFO, or does not (R390). -/
theorem rxBegin_port : (rxBegin s q).port q = { s.port q with
    rx := some (if stagingFree s (q / 8) < (s.port q).maxFrame then none else some s.nextFrame)
    rxLen := 0, rxBad := false, rxHead := [] } := by
  unfold rxBegin
  dsimp only
  split <;> exact setPort_same _ _ _

theorem rxBytes_port (b : List Byte) (bad : Bool) : (rxBytes s q b bad).port q = { s.port q with
    rxHead := ((s.port q).rxHead ++ b).take (s.port q).maxFrame, rxLen := (s.port q).rxLen + b.length,
    rxBad := (s.port q).rxBad || bad } := by
  unfold rxBytes
  dsimp only
  split
  · rw [stagingRenew_port, modFrame_port, setPort_same]
  · exact setPort_same _ _ _

/-- A frame has arrived whole and waits for its verdict. -/
def received (s : State) (q : Nat) (b : List Byte) (bad : Bool) : State := windowStep (rxBytes (rxBegin s q) q b bad) q

theorem received_port (b : List Byte) (bad : Bool) : (received s q b bad).port q = { s.port q with
    rx := some (if stagingFree s (q / 8) < (s.port q).maxFrame then none else some s.nextFrame),
    rxHead := b.take (s.port q).maxFrame, rxLen := b.length, rxBad := bad } := by
  have k : Kept (maskBut (.ports :: rxParts)) (rxBytes (rxBegin s q) q b bad) (received s q b bad) :=
    windowStep_kept q (.of_beq (by decide +kernel)) (.refl _ _)
  rw [k.rxPort, rxBytes_port, rxBegin_port]
  simp only [List.nil_append, Nat.zero_add, Bool.false_or]

theorem received_kept (b : List Byte) (bad : Bool) : Kept (maskBut rxParts) s (received s q b bad) :=
  windowStep_kept q (.of_beq (by decide +kernel))
    (rxBytes_kept q b bad (.of_beq (by decide +kernel)) (rxBegin_kept q (.of_beq (by decide +kernel)) (.refl _ _)))

/-! ### The end of a frame -/

/-- The first row of R38 that fits a frame with room in the staging FIFO. -/
def rxRow (s : State) (q : Nat) (p : PortSt) : Ctr :=
  if p.rxBad then .rxFecErr
  else if p.maxFrame < p.rxLen then .rxOversize
  else if p.rxLen < 64 then .rxRunt
  else if !fcsGood p.rxHead then .rxFcsErr
  else if hasType p.rxHead 0x8808 then
    if beAt p.rxHead 14 2 = 0x0101 then .rxPfc else if beAt p.rxHead 14 2 = 0x0001 then .rxPause else .rxMacCtrlOther
  else if isIxpeune s p.rxHead && !s.fbit .PORT_CFG_fabric_port q then .rxForeign
  else .rxOk

/-- A port that waits for its next frame. -/
def rxIdle (s : State) (q : Nat) : State := s.setPort q { s.port q with rx := none, rxLen := 0, rxBad := false, rxHead := [] }

/-- A frame's end: one event of one receive counter, and the port waits for the next frame. -/
structure RxDone (s : State) (q : Nat) (c : Ctr) (t : State) : Prop where
  counts : ∀ x ∈ rxCtrs, t.cget x q = (s.count c q).cget x q
  waits : (t.port q).rx = none

theorem rxIdle_done (c : Ctr) : RxDone s q c ((rxIdle s q).count c q) where
  counts x hx := by
    by_cases h : x = c
    · subst h
      rw [count_cget_same, count_cget_same]
      rfl
    · rw [count_cget_other _ _ _ _ _ _ h, count_cget_other _ _ _ _ _ _ h]
      rfl
  waits := by rw [count_port, rxIdle, setPort_same]

theorem RxDone.kept {c : Ctr} (h : RxDone s q c t) (k : Kept (maskBut (.ports :: rxParts)) t u) : RxDone s q c u where
  counts x hx := (k.rxCount hx q).trans (h.counts x hx)
  waits := by rw [k.rxPort]; exact h.waits

/-- A row that fits, and those below it. -/
theorem RxDone.rows {c d : Ctr} {p : Prop} [Decidable p] (h : p → RxDone s q c t) (k : ¬p → RxDone s q d u) :
    RxDone s q (if p then c else d) (if p then t else u) := by
  split
  · next hp => exact h hp
  · next hp => exact k hp

theorem RxDone.ite {c : Ctr} {p : Prop} [Decidable p] (h : RxDone s q c t) (k : RxDone s q c u) : RxDone s q c (if p then t else u) := by
  split
  · exact h
  · exact k

theorem RxDone.tileDrop {c : Ctr} (h : RxDone s q c t) (id : Nat) : RxDone s q c (tileDrop t id) :=
  h.kept (tileDrop_kept id (.of_beq (by decide +kernel)) (.refl _ _))

/-- The port's checker takes the frame into its own counts. -/
theorem RxDone.checkFrame {c : Ctr} (h : RxDone s q c t) (b : List Byte) : RxDone s q c (checkFrame t q b) where
  counts x hx := by
    have k : Kept (maskBut rxParts) t (Machine.checkFrame t q b) := checkFrame_kept q b (.of_beq (by decide +kernel)) (.refl _ _)
    refine Eq.trans ?_ (h.counts x hx)
    exact k.same_of_but (p := .ctr x) (List.mem_cons_of_mem _ (List.mem_cons_of_mem _ (List.mem_map_of_mem hx))) q
  waits := by
    unfold Machine.checkFrame
    dsimp only
    split
    · exact h.waits
    · rw [setPort_same]
      exact h.waits

/-- A frame that found no room counts as such, unless an uncorrectable codeword touched it. -/
theorem rxEnd_overrun (hrx : (s.port q).rx = some none) :
    RxDone s q (if (s.port q).rxBad then .rxFecErr else .rxStagingOverrun) (rxEnd s q) := by
  have e : rxEnd s q = (rxIdle s q).count (if (s.port q).rxBad then .rxFecErr else .rxStagingOverrun) q := by
    simp only [rxEnd, hrx]
    rfl
  rw [e]
  exact rxIdle_done _

/-- A frame that had room counts in the row that fits it. -/
theorem rxEnd_admitted {id : Nat} (hrx : (s.port q).rx = some (some id)) : RxDone s q (rxRow (rxIdle s q) q (s.port q)) (rxEnd s q) := by
  have counted (c : Ctr) := rxIdle_done (s := s) (q := q) c
  unfold rxEnd rxRow
  dsimp only
  rw [hrx]
  dsimp only
  refine RxDone.kept ?_ (stagingRenew_kept q _ _ _ _ (.of_beq (by decide +kernel)) (.refl _ _))
  rw [← rxIdle]
  refine .rows (fun _ => (counted _).tileDrop id) fun _ => .rows (fun _ => (counted _).tileDrop id) fun _ => ?_
  refine .rows (fun _ => (counted _).tileDrop id) fun _ => .rows (fun _ => (counted _).tileDrop id) fun _ => ?_
  refine .rows (fun _ => .rows (fun _ => ?_) fun _ => .rows (fun _ => ?_) fun _ => (counted _).tileDrop id) fun _ => ?_
  · exact ((counted _).tileDrop id).kept (obeyPfc_kept q _ (.of_beq (by decide +kernel)) (.refl _ _))
  · exact ((counted _).tileDrop id).kept (obeyPause_kept q _ (.of_beq (by decide +kernel)) (.refl _ _))
  refine .rows (fun _ => (counted _).tileDrop id) fun _ => ?_
  have ok := counted .rxOk
  refine .ite ?_ (.ite ?_ ?_)
  · exact (ok.kept (State.delFrame_kept id (.of_beq (by decide +kernel)) (.refl _ _))).checkFrame _
  · exact ok.kept (tileFabric_kept q id _ (.of_beq (by decide +kernel)) (.refl _ _))
  · have whole := ok.kept (State.modFrame_kept id (fun f => { f with whole := true }) (.of_beq (by decide +kernel)) (.refl _ _))
    exact .ite (whole.kept (judgeEnd_kept id _ (.of_beq (by decide +kernel)) (.refl _ _))) whole

/-! ### A whole frame -/

theorem exec_frameReceive_whole {b : List Byte} {fec : Bool} (hp : q < 256) (hx : portExists s q = true)
    (hr : s.runs (pdOctet (q / 8)) = true) (hu : portUp s q = true) (hrx : (s.port q).rx = none) :
    exec (.frameReceive q true true b fec) s = .next (rxEnd (received s q b fec) q) :=
  congrArg Host.Outcome.next (if_pos ⟨hp, hx, hr, by rw [if_pos rfl, hu, hrx]; rfl⟩)

/-- The row of R38 of a frame that has arrived whole, in the state before it. -/
def wholeRow (s : State) (q : Nat) (b : List Byte) (fec : Bool) : Ctr :=
  if fec = true then .rxFecErr
  else if stagingFree s (q / 8) < (s.port q).maxFrame then .rxStagingOverrun
  else if (s.port q).maxFrame < b.length then .rxOversize
  else if b.length < 64 then .rxRunt
  else if fcsGood b = false then .rxFcsErr
  else if hasType b 0x8808 = true then
    (if beAt b 14 2 = 0x0101 then .rxPfc else if beAt b 14 2 = 0x0001 then .rxPause else .rxMacCtrlOther)
  else if isIxpeune s b = true ∧ s.fbit .PORT_CFG_fabric_port q = false then .rxForeign
  else .rxOk

/-- What the port has kept of a frame no longer than max_frame is the frame, and its kind is read from registers that stand. -/
theorem rxRow_received {b : List Byte} {fec : Bool} (hroom : ¬stagingFree s (q / 8) < (s.port q).maxFrame) :
    rxRow (rxIdle (received s q b fec) q) q ((received s q b fec).port q) = wholeRow s q b fec := by
  have hfab : (rxIdle (received s q b fec) q).fget .FAB_CFG_ethertype 0 = s.fget .FAB_CFG_ethertype 0 :=
    (received_kept b fec).same_of_but (p := .reg .FAB_CFG) (by decide) _ _ rfl
  have hcfg : (rxIdle (received s q b fec) q).fget .PORT_CFG_fabric_port q = s.fget .PORT_CFG_fabric_port q :=
    (received_kept b fec).same_of_but (p := .reg .PORT_CFG) (by decide) _ _ rfl
  unfold rxRow wholeRow
  simp only [received_port, isIxpeune, State.fbit, hfab, hcfg, hroom, if_false]
  by_cases hlong : (s.port q).maxFrame < b.length
  · simp only [hlong, if_true]
  · simp only [List.take_of_length_le (Nat.not_lt.1 hlong), Bool.not_eq_true', Bool.and_eq_true]
    congr!

theorem rxEnd_received (b : List Byte) (fec : Bool) :
    RxDone (received s q b fec) q (wholeRow s q b fec) (rxEnd (received s q b fec) q) := by
  have hport := received_port (s := s) (q := q) b fec
  by_cases hroom : stagingFree s (q / 8) < (s.port q).maxFrame
  · have h := rxEnd_overrun (s := received s q b fec) (q := q) (by rw [hport, if_pos hroom])
    rw [hport] at h
    simpa only [wholeRow, hroom, if_true] using h
  · rw [← rxRow_received hroom]
    exact rxEnd_admitted (by rw [hport, if_neg hroom])

end

end Sys2Proof.Machine

open Sys2Proof Sys2Proof.Machine

/-- Settles O3: the end of a frame that has arrived whole is one event of the counter of its row. -/
theorem frameCountedOnce : Obligations.FrameCountedOnce := by
  intro s port b fec hp hx hr hu hrx
  obtain ⟨hcounts, hwaits⟩ := rxEnd_received (s := s) (q := port) b fec
  have before {x : Ctr} (h : x ∈ rxCtrs) : (received s port b fec).cget x port = s.cget x port :=
    (received_kept b fec).same_of_but (p := .ctr x) (List.mem_cons_of_mem _ (List.mem_cons_of_mem _ (List.mem_map_of_mem h))) port
  have hrow : wholeRow s port b fec ∈ rxCtrs := by
    unfold wholeRow
    repeat' split
    all_goals decide
  refine ⟨_, exec_frameReceive_whole hp hx hr hu hrx, ?_, hwaits, fun x hx hne => ?_⟩
  · exact (hcounts _ hrow).trans ((count_cget_same _ _ _ _ _).trans (congrArg (fun n => (n + 1) % 2 ^ 48) (before hrow)))
  · exact (hcounts x hx).trans ((count_cget_other _ _ _ _ _ _ hne).trans (before hx))

end

section
/-! SUPPORT. A register's value is its fields side by side (R8). -/

namespace Sys2Proof.Machine

-- A proof that evaluates in the kernel waits for every declaration before it, and holds a thread while it waits.
set_option Elab.async false

/-! ### Values side by side -/

/-- Bits below a field add nothing to it. -/
theorem bits_add_low {a b m l : Nat} (w : Nat) (ha : a < 2 ^ m) (hb : 2 ^ m ∣ b) (hl : m ≤ l) : bits (a + b) l w = bits b l w := by
  obtain ⟨k, rfl⟩ := hb
  obtain ⟨d, rfl⟩ := Nat.exists_eq_add_of_le hl
  rw [bits, bits, Nat.pow_add, ← Nat.div_div_eq_div_mul, ← Nat.div_div_eq_div_mul, Nat.add_mul_div_left _ _ (Nat.two_pow_pos m),
    Nat.div_eq_of_lt ha, Nat.zero_add, Nat.mul_div_cancel_left _ (Nat.two_pow_pos m)]

/-- A field above the one that is replaced stands. -/
theorem bits_setBits_above (v x w' : Nat) {l w l' : Nat} (h : l + w ≤ l') : bits (setBits v l w x) l' w' = bits v l' w' := by
  have low (y : Nat) : y % 2 ^ w * 2 ^ l + v % 2 ^ l < 2 ^ (l + w) := by
    have hy : y % 2 ^ w + 1 ≤ 2 ^ w := Nat.mod_lt y (Nat.two_pow_pos w)
    have hv : v % 2 ^ l < 2 ^ l := Nat.mod_lt v (Nat.two_pow_pos l)
    calc y % 2 ^ w * 2 ^ l + v % 2 ^ l < (y % 2 ^ w + 1) * 2 ^ l := by rw [Nat.add_mul, Nat.one_mul]; exact Nat.add_lt_add_left hv _
      _ ≤ 2 ^ w * 2 ^ l := Nat.mul_le_mul_right _ hy
      _ = 2 ^ (l + w) := by rw [Nat.pow_add, Nat.mul_comm]
  have whole : v = (v / 2 ^ l % 2 ^ w * 2 ^ l + v % 2 ^ l) + 2 ^ (l + w) * (v / 2 ^ l / 2 ^ w) := by
    have h1 := Nat.div_add_mod v (2 ^ l)
    have h2 := Nat.div_add_mod (v / 2 ^ l) (2 ^ w)
    calc v = 2 ^ l * (2 ^ w * (v / 2 ^ l / 2 ^ w) + v / 2 ^ l % 2 ^ w) + v % 2 ^ l := by rw [h2, h1]
      _ = _ := by rw [Nat.pow_add]; ring
  have e : setBits v l w x = (x % 2 ^ w * 2 ^ l + v % 2 ^ l) + 2 ^ (l + w) * (v / 2 ^ l / 2 ^ w) := by
    rw [setBits, bits]
    omega
  rw [e, bits_add_low _ (low x) (Nat.dvd_mul_right _ _) h]
  conv_rhs => rw [whole, bits_add_low _ (low _) (Nat.dvd_mul_right _ _) h]

/-- Values side by side: each one's lowest bit, its width and itself. -/
def packed (l : List (Nat × Nat × Nat)) : Nat := (l.map (fun x => x.2.2 * 2 ^ x.1)).sum

theorem dvd_packed {l : List (Nat × Nat × Nat)} {m : Nat} (h : ∀ x ∈ l, m ≤ x.1) : 2 ^ m ∣ packed l := by
  refine List.dvd_sum fun y hy => ?_
  obtain ⟨x, hx, rfl⟩ := List.mem_map.1 hy
  exact Dvd.dvd.mul_left (Nat.pow_dvd_pow 2 (h x hx)) _

/-- Values side by side that do not overlap read back. -/
theorem bits_packed {l : List (Nat × Nat × Nat)} (hs : l.Pairwise (fun x y => x.1 + x.2.1 ≤ y.1)) (hv : ∀ x ∈ l, x.2.2 < 2 ^ x.2.1)
    {x : Nat × Nat × Nat} (hx : x ∈ l) : bits (packed l) x.1 x.2.1 = x.2.2 := by
  induction l with
  | nil => cases hx
  | cons y l ih =>
    obtain ⟨hy, hs⟩ := List.pairwise_cons.1 hs
    have hlt : y.2.2 < 2 ^ y.2.1 := hv y List.mem_cons_self
    have hd : 2 ^ (y.1 + y.2.1) ∣ packed l := dvd_packed hy
    have e : packed (y :: l) = y.2.2 * 2 ^ y.1 + packed l := List.sum_cons
    obtain rfl | hx := List.mem_cons.1 hx
    · obtain ⟨k, hk⟩ := hd
      rw [e, hk, bits, Nat.pow_add, Nat.mul_assoc, Nat.add_mul_div_left _ _ (Nat.two_pow_pos _),
        Nat.mul_div_cancel _ (Nat.two_pow_pos _), Nat.add_mul_mod_self_left, Nat.mod_eq_of_lt hlt]
    · have low : y.2.2 * 2 ^ y.1 < 2 ^ (y.1 + y.2.1) := by
        rw [Nat.pow_add, Nat.mul_comm]
        exact Nat.mul_lt_mul_of_pos_left hlt (Nat.two_pow_pos _)
      rw [e, bits_add_low _ low hd (hy x hx), ih hs (fun z hz => hv z (List.mem_cons_of_mem _ hz)) hx]

/-! ### The fields of a register -/

theorem tget_lt {d m : Nat} {t : Tab Nat} {k : Key} (hd : d < m) (h : ∀ e ∈ t, e.1 = k → e.2 < m) : tget d t k < m := by
  induction t with
  | nil => exact hd
  | cons e t ih =>
    rw [tget]
    split
    · next he => exact h e List.mem_cons_self he
    · exact ih fun x hx => h x (List.mem_cons_of_mem _ hx)

section
variable {s : State} {r : Reg}

/-- In banks of canonical form a field holds a value of its width. -/
theorem fget_lt (hb : s.banksOk = true) {f : Fld} {i : Nat} (hd : fldReset f i < 2 ^ f.info.width) : s.fget f i < 2 ^ f.info.width := by
  simp only [State.banksOk, Bool.and_eq_true] at hb
  obtain ⟨-, hreg⟩ := (regOk_iff s.reg).1 hb.1.1
  refine tget_lt hd fun e he hk => ?_
  have h := (hreg e he).2
  rw [hk, Fld.ofNat_ctorIdx] at h
  exact h

/-- A register whose fields have no copies and all show in its value. -/
def Reg.simple (r : Reg) : Bool := r.table.all (fun p => p.2.reps == 1 && !(p.2.acc == .w1c || p.2.acc == .w1s))

/-- The fields of a register, with their values at an index. -/
def fieldsAt (s : State) (r : Reg) (i : Nat) : List (Nat × Nat × Nat) := r.table.map (fun p => (p.2.lsb, p.2.width, s.fget p.1 i))

theorem regRaw_packed (h : r.simple = true) (i : Nat) : regRaw s r i = packed (fieldsAt s r i) := by
  rw [regRaw, packed, fieldsAt, List.map_map, List.map_eq_flatMap]
  congr 1
  refine List.flatMap_congr fun p hp => ?_
  have k := List.all_eq_true.1 h p hp
  simp only [Bool.and_eq_true, beq_iff_eq, Bool.not_eq_true', Bool.or_eq_false_iff, beq_eq_false_iff_ne] at k
  obtain ⟨hreps, hc, hs⟩ := k
  simp only [hreps, List.range_one, List.map_cons, List.map_nil, hc, hs, or_self, if_false, Nat.mul_one, Nat.add_zero, Nat.zero_mul,
    Function.comp_apply]

/-- In banks of canonical form a register's value shows its fields. -/
theorem bits_regRaw (h : r.simple = true) (hs : r.table.Pairwise (fun p q => p.2.lsb + p.2.width ≤ q.2.lsb)) (hb : s.banksOk = true)
    {i : Nat} (hd : ∀ p ∈ r.table, fldReset p.1 i < 2 ^ p.1.info.width ∧ p.1.info = p.2) {p : Fld × FldInfo} (hp : p ∈ r.table) :
    bits (regRaw s r i) p.2.lsb p.2.width = s.fget p.1 i := by
  rw [regRaw_packed h]
  refine bits_packed (l := fieldsAt s r i) (x := (p.2.lsb, p.2.width, s.fget p.1 i)) (List.pairwise_map.2 hs) (fun x hx => ?_)
    (List.mem_map_of_mem hp)
  obtain ⟨q, hq, rfl⟩ := List.mem_map.1 hx
  obtain ⟨hlt, hinfo⟩ := hd q hq
  have k := fget_lt hb hlt
  rwa [hinfo] at k

end

/-! ### PORT_CFG -/

theorem mem_portCfg {f : Fld} (h : f.reg = .PORT_CFG) : (f, f.info) ∈ Reg.PORT_CFG.table := by
  cases f
  case PORT_CFG_admin_en | PORT_CFG_an_en | PORT_CFG_lt_en | PORT_CFG_fabric_port | PORT_CFG_hold_admit | PORT_CFG_pause_rx_en |
    PORT_CFG_pfc_rx_en | PORT_CFG_degrade_down | PORT_CFG_max_frame | PORT_CFG_down_debounce_us | PORT_CFG_up_debounce_us => decide
  all_goals cases h

/-- The value with which a port is disabled clears admin_en and holds the other settings as they stand. -/
theorem portCfg_disabled {s : State} (hb : s.banksOk = true) (n : Nat) {f : Fld} (h : f.reg = .PORT_CFG) :
    fldIn (setBits (regRaw s .PORT_CFG n) 0 1 0) f = if f = .PORT_CFG_admin_en then 0 else s.fget f n := by
  have hp := mem_portCfg h
  split
  · next e => subst e; exact bits_setBits_same _ _ _ _
  · next e =>
    have above : ∀ p ∈ Reg.PORT_CFG.table, p.1 ≠ .PORT_CFG_admin_en → 0 + 1 ≤ p.2.lsb := by decide
    rw [fldIn, Nat.zero_mul, Nat.add_zero, bits_setBits_above _ _ _ (above _ hp e)]
    have reset : ∀ p ∈ Reg.PORT_CFG.table, fldReset p.1 n = p.1.info.reset := by
      intro p hp
      fin_cases hp <;> rfl
    have fits : ∀ p ∈ Reg.PORT_CFG.table, p.1.info.reset < 2 ^ p.1.info.width ∧ p.1.info = p.2 := by decide
    exact bits_regRaw (by decide) (by decide) hb (fun p hp => by rw [reset p hp]; exact fits p hp) hp

end Sys2Proof.Machine
end

section
/-! SUPPORT. What writes of PORT_CFG, LANE_TEST and PORT_TEST do beyond their fields (R35, R47, R357 to R364). -/

namespace Sys2Proof.Machine

-- A proof that evaluates in the kernel waits for every declaration before it, and holds a thread while it waits.
set_option Elab.async false

section
variable {s t : State} {r : Reg} {i v : Nat}

/-! ### Writes -/

/-- A field that no write of its register reaches stands. -/
theorem applyFields_fget_untaken {w : RegWrite} {f : Fld} (h : ∀ p ∈ w.r.table, p.1 = f → w.r.takes p.2.acc = false) (j : Nat) :
    (applyFields s w).fget f j = s.fget f j := by
  refine List.foldlRecOn w.r.table _ (motive := fun t : State => t.fget f j = s.fget f j) rfl fun t ht p hp => ?_
  by_cases hf : p.1 = f
  · rw [applyField_of_not_takes t w (h p hp hf), ht]
  · rw [applyField_fget_other fun e => hf e.symm, ht]

/-- The fields of a write are in registers alone. -/
theorem applyFields_outside (w : RegWrite) : Kept (partsMask [.reg w.r]) s (applyFields s w) :=
  applyFields_keptAt (fun _ => Within.part (l := [.reg w.r]) (p := .reg w.r) (Nat.or_self _) (by simp)) (.refl _ _)

/-- An accepted write leaves a part that the event bits do not touch as its further effects do. -/
theorem reg8_same {req : Requester} {p : Part} (hr : r.plain = true) (hw : r.whole = false) (ok : WriteOk s r i (wordVal s r i v))
    (hp : p ∉ evtParts) :
    p.same (afterWrite s (applyFields s (wordWriteOf s r i v)) (wordWriteOf s r i v)) (reg8 s req r i 0 v) := by
  rw [reg8_accepted hr hw ok]
  exact acceptWrite_same hp

theorem and_word_mod (v : Nat) : (v &&& (2 ^ 64 - 1)) % 2 ^ 64 = v % 2 ^ 64 := by
  rw [Nat.and_two_pow_sub_one_eq_mod, Nat.mod_mod]

/-! ### PORT_CFG (R35, R47) -/

/-- A port whose admin_en falls is down. -/
theorem portCfg_after_down {x a : Nat} (h0 : s.fbit .PORT_CFG_admin_en i = true) (h1 : t.fbit .PORT_CFG_admin_en i = false) :
    portUp (afterWrite s t ⟨.PORT_CFG, i, x, a⟩) i = false := by
  obtain ⟨w, hw⟩ : ∃ w, w = if (adminOff t i).fbit .PORT_CFG_admin_en i then
    (adminOff t i).setPort i { (adminOff t i).port i with barred := false } else adminOff t i := ⟨_, rfl⟩
  have hdown : portUp w i = false := by
    rw [hw]
    split <;> exact adminOff_down (s := t) (q := i)
  show portUp (afterPort s t ⟨.PORT_CFG, i, x, a⟩) i = false
  unfold afterPort
  dsimp only
  rw [portUp_of_reg linkJudge_reg, h0, h1, Bool.not_false, Bool.and_self, if_pos rfl, ← hw, hdown, Bool.and_false,
    if_neg Bool.false_ne_true, hdown, if_neg Bool.false_ne_true]
  exact hdown

theorem portCfgWrite_readsBack {req : Requester} (ok : WriteOk s .PORT_CFG i (wordVal s .PORT_CFG i v)) :
    ReadsBack (reg8 s req .PORT_CFG i 0 v) .PORT_CFG i v :=
  reg8_readsBack rfl rfl (by decide) (by decide) ok fun _ _ _ => portCfg_after_kept (.of_beq (by decide +kernel)) (.refl _ _)

/-- A write that clears admin_en takes the port down. -/
theorem portCfgWrite_down {req : Requester} (ok : WriteOk s .PORT_CFG i (wordVal s .PORT_CFG i v))
    (hon : s.fbit .PORT_CFG_admin_en i = true) (hoff : fldIn v .PORT_CFG_admin_en = 0) : portUp (reg8 s req .PORT_CFG i 0 v) i = false := by
  have off : (applyFields s (wordWriteOf s .PORT_CFG i v)).fbit .PORT_CFG_admin_en i = false := by
    rw [State.fbit, applied_fget (by decide) (.inl rfl) rfl (by decide), hoff]
    rfl
  have e := reg8_fget (req := req) rfl rfl ok (f := .PORT_STATUS_link_up) i (by decide)
  rw [portUp, State.fbit, e]
  exact portCfg_after_down hon off

/-! ### PORT_TEST (R360, R361, R364) -/

theorem portTestWrite_readsBack {req : Requester} (ok : WriteOk s .PORT_TEST i (wordVal s .PORT_TEST i v)) :
    ReadsBack (reg8 s req .PORT_TEST i 0 v) .PORT_TEST i v :=
  reg8_readsBack rfl rfl (by decide) (by decide) ok fun _ _ _ =>
    portTest_after_kept (.of_beq (by decide +kernel)) (.of_beq (by decide +kernel)) (.of_beq (by decide +kernel)) (.refl _ _)

theorem port_of_same {q : Nat} (h : Part.ports.same s t) : t.port q = s.port q := by
  have e : t.ports = s.ports := h
  rw [State.port, e, ← State.port]

theorem linkJudge_test : ((linkJudge s i).port i).test = (s.port i).test := by
  rw [linkJudge_port]
  split <;> rfl

/-- A generator that is enabled starts its counts anew. -/
theorem portTest_after_gen {x a : Nat} (h0 : s.fbit .PORT_TEST_gen_en i = false) (h1 : t.fbit .PORT_TEST_gen_en i = true) :
    (afterWrite s t ⟨.PORT_TEST, i, x, a⟩).fget .PORT_CHK_gen_sent i = 0 ∧
      ((afterWrite s t ⟨.PORT_TEST, i, x, a⟩).port i).test.seq = 0 := by
  show (afterPort s t ⟨.PORT_TEST, i, x, a⟩).fget _ _ = 0 ∧ ((afterPort s t ⟨.PORT_TEST, i, x, a⟩).port i).test.seq = 0
  unfold afterPort
  simp only [fget_of_reg linkJudge_reg, linkJudge_test, setPort_same, fget_setPort, h0, h1, Bool.not_false, Bool.and_self, if_true]
  split
  · rw [fget_fset_ne (by decide), fget_fset_ne (by decide), fget_fset_ne (by decide), fget_fset_ne (by decide), fget_fset_same]
    exact ⟨rfl, rfl⟩
  · exact ⟨fget_fset_same _ _ _ _, rfl⟩

/-- A checker that is enabled starts its counts anew. -/
theorem portTest_after_chk {x a : Nat} (h0 : s.fbit .PORT_TEST_chk_en i = false) (h1 : t.fbit .PORT_TEST_chk_en i = true) :
    (afterWrite s t ⟨.PORT_TEST, i, x, a⟩).fget .PORT_CHK_chk_ok i = 0 ∧
      (afterWrite s t ⟨.PORT_TEST, i, x, a⟩).fget .PORT_CHK_chk_gap i = 0 ∧
      ((afterWrite s t ⟨.PORT_TEST, i, x, a⟩).port i).test.expect = none := by
  show (afterPort s t ⟨.PORT_TEST, i, x, a⟩).fget _ _ = 0 ∧ (afterPort s t ⟨.PORT_TEST, i, x, a⟩).fget _ _ = 0 ∧
    ((afterPort s t ⟨.PORT_TEST, i, x, a⟩).port i).test.expect = none
  unfold afterPort
  simp only [fget_of_reg linkJudge_reg, linkJudge_test, setPort_same, fget_setPort, h0, h1, Bool.not_false, Bool.and_self, if_true]
  refine ⟨?_, ?_, trivial⟩
  · rw [fget_fset_ne (by decide), fget_fset_ne (by decide), fget_fset_ne (by decide), fget_fset_same]
    rfl
  · rw [fget_fset_ne (by decide), fget_fset_ne (by decide), fget_fset_same]
    rfl

/-- A one-bit field of PORT_TEST is written as the word holds it. -/
theorem portTest_applied {f : Fld} (hp : (f, f.info) ∈ Reg.PORT_TEST.table) (ha : f.info.written) (h1 : f.info.reps = 1)
    (hb : f.info.lsb + 0 * f.info.stride + f.info.width ≤ 64) (hv : fldIn v f = 1) :
    (applyFields s (wordWriteOf s .PORT_TEST i v)).fbit f i = true := by
  rw [State.fbit, applied_fget hp ha h1 hb, hv]
  rfl

theorem portTestWrite_gen {req : Requester} (ok : WriteOk s .PORT_TEST i (wordVal s .PORT_TEST i v))
    (hoff : s.fbit .PORT_TEST_gen_en i = false) (hon : fldIn v .PORT_TEST_gen_en = 1) :
    (reg8 s req .PORT_TEST i 0 v).fget .PORT_CHK_gen_sent i = 0 ∧ ((reg8 s req .PORT_TEST i 0 v).port i).test.seq = 0 := by
  have hport := port_of_same (q := i) (reg8_same (req := req) (p := .ports) rfl rfl ok (by decide))
  obtain ⟨hsent, hseq⟩ := portTest_after_gen (x := wordVal s .PORT_TEST i v) (a := v &&& (2 ^ 64 - 1)) hoff
    (portTest_applied (s := s) (v := v) (by decide) (.inl rfl) rfl (by decide) hon)
  exact ⟨(reg8_fget rfl rfl ok i (by decide)).trans hsent, (congrArg (fun p : PortSt => p.test.seq) hport).trans hseq⟩

theorem portTestWrite_chk {req : Requester} (ok : WriteOk s .PORT_TEST i (wordVal s .PORT_TEST i v))
    (hoff : s.fbit .PORT_TEST_chk_en i = false) (hon : fldIn v .PORT_TEST_chk_en = 1) :
    (reg8 s req .PORT_TEST i 0 v).fget .PORT_CHK_chk_ok i = 0 ∧ (reg8 s req .PORT_TEST i 0 v).fget .PORT_CHK_chk_gap i = 0 ∧
      ((reg8 s req .PORT_TEST i 0 v).port i).test.expect = none := by
  have hport := port_of_same (q := i) (reg8_same (req := req) (p := .ports) rfl rfl ok (by decide))
  obtain ⟨hok, hgap, hexpect⟩ := portTest_after_chk (x := wordVal s .PORT_TEST i v) (a := v &&& (2 ^ 64 - 1)) hoff
    (portTest_applied (s := s) (v := v) (by decide) (.inl rfl) rfl (by decide) hon)
  exact ⟨(reg8_fget rfl rfl ok i (by decide)).trans hok, (reg8_fget rfl rfl ok i (by decide)).trans hgap,
    (congrArg (fun p : PortSt => p.test.expect) hport).trans hexpect⟩

/-! ### LANE_TEST (R357 to R359) -/

/-- The latched counts of a lane. -/
def laneCounts : List Fld := [.LANE_TEST_err_cnt, .LANE_TEST_bit_cnt, .LANE_TEST_lock_loss]

/-- What the latch and clear bits of a word written to LANE_TEST do. -/
def laneActed (t : State) (i a : Nat) : State :=
  let t := if fldIn a .LANE_TEST_latch == 1 then laneLatch t i else t
  if fldIn a .LANE_TEST_clear == 1 then laneClear t i else t

theorem laneTest_after (x a : Nat) : afterWrite s t ⟨.LANE_TEST, i, x, a⟩ =
    if s.fget .LANE_TEST_rx_pattern i != (laneActed t i a).fget .LANE_TEST_rx_pattern i then (laneActed t i a).fset .LANE_TEST_lock i 0
    else laneActed t i a := rfl

theorem laneLatch_fget {f : Fld} (h : f ∉ laneCounts) (j : Nat) : (laneLatch t i).fget f j = t.fget f j := by
  simp only [laneCounts, List.mem_cons, List.not_mem_nil, or_false, not_or] at h
  obtain ⟨herr, hbit, hloss⟩ := h
  unfold laneLatch
  rw [fget_fset_ne hloss, fget_fset_ne hbit, fget_fset_ne herr]

theorem laneActed_fget {f : Fld} {a : Nat} (h : f ∉ laneCounts ∨ fldIn a .LANE_TEST_latch ≠ 1) (j : Nat) :
    (laneActed t i a).fget f j = t.fget f j := by
  have clear (y : State) : (if fldIn a .LANE_TEST_clear == 1 then laneClear y i else y).fget f j = y.fget f j := by split <;> rfl
  unfold laneActed
  rw [clear]
  split
  · next hl => exact laneLatch_fget (h.resolve_right fun n => n (beq_iff_eq.1 hl)) j
  · rfl

/-- A latch shows the live counts. -/
theorem laneActed_latched {a : Nat} (h : fldIn a .LANE_TEST_latch = 1) :
    (laneActed t i a).fget .LANE_TEST_bit_cnt i = (tget {} t.setup.lanes (i, 0)).bits % 2 ^ 48 ∧
      (laneActed t i a).fget .LANE_TEST_err_cnt i = (tget {} t.setup.lanes (i, 0)).errs % 2 ^ 48 ∧
      (laneActed t i a).fget .LANE_TEST_lock_loss i = (tget {} t.setup.lanes (i, 0)).loss % 2 ^ 32 := by
  have clear (f : Fld) (y : State) : (if fldIn a .LANE_TEST_clear == 1 then laneClear y i else y).fget f i = y.fget f i := by split <;> rfl
  unfold laneActed
  rw [clear, clear, clear, if_pos (beq_iff_eq.2 h)]
  unfold laneLatch
  refine ⟨?_, ?_, fget_fset_same _ _ _ _⟩
  · rw [fget_fset_ne (by decide), fget_fset_same]
    rfl
  · rw [fget_fset_ne (by decide), fget_fset_ne (by decide), fget_fset_same]
    rfl

/-- A clear zeroes them. -/
theorem laneActed_cleared {a : Nat} (h : fldIn a .LANE_TEST_clear = 1) : tget {} (laneActed t i a).setup.lanes (i, 0) = {} := by
  unfold laneActed
  rw [if_pos (beq_iff_eq.2 h)]
  unfold laneClear
  rw [tget_tset_same]

/-- After the write of LANE_TEST every field but lock is as the latch and clear bits leave it. -/
theorem laneTest_after_fget {f : Fld} (h : f ≠ .LANE_TEST_lock) (x a j : Nat) :
    (afterWrite s t ⟨.LANE_TEST, i, x, a⟩).fget f j = (laneActed t i a).fget f j := by
  rw [laneTest_after]
  split
  · exact fget_fset_ne h _ _ _
  · rfl

theorem laneTest_after_setup (x a : Nat) : (afterWrite s t ⟨.LANE_TEST, i, x, a⟩).setup = (laneActed t i a).setup := by
  rw [laneTest_after]
  split <;> rfl

/-- A new receive pattern unlocks the checker. -/
theorem laneTest_after_unlocked (x a : Nat) (h : t.fget .LANE_TEST_rx_pattern i ≠ s.fget .LANE_TEST_rx_pattern i) :
    (afterWrite s t ⟨.LANE_TEST, i, x, a⟩).fget .LANE_TEST_lock i = 0 := by
  have e : (laneActed t i a).fget .LANE_TEST_rx_pattern i = t.fget .LANE_TEST_rx_pattern i := laneActed_fget (.inl (by decide)) i
  rw [laneTest_after, if_pos (bne_iff_ne.2 fun k => h (k.trans e).symm), fget_fset_same]
  rfl

theorem laneTestWrite_fget {req : Requester} (ok : WriteOk s .LANE_TEST i (wordVal s .LANE_TEST i v)) {f : Fld} (hr : f.reg = .LANE_TEST)
    (hl : f ≠ .LANE_TEST_lock) (j : Nat) : (reg8 s req .LANE_TEST i 0 v).fget f j =
      (laneActed (applyFields s (wordWriteOf s .LANE_TEST i v)) i (v &&& (2 ^ 64 - 1))).fget f j :=
  (reg8_fget rfl rfl ok j (by rw [hr]; decide)).trans (laneTest_after_fget hl _ _ _)

theorem laneTestWrite_readsBack {req : Requester} (ok : WriteOk s .LANE_TEST i (wordVal s .LANE_TEST i v)) :
    ReadsBack (reg8 s req .LANE_TEST i 0 v) .LANE_TEST i (wordVal s .LANE_TEST i v) := by
  intro p hp ha c hc
  have stands : ∀ p ∈ Reg.LANE_TEST.table, (p.2.acc = .rw ∨ p.2.acc = .rwp) → p.1 ∉ laneCounts ∧ p.1 ≠ .LANE_TEST_lock := by
    decide
  obtain ⟨hcounts, hlock⟩ := stands p hp ha
  rw [laneTestWrite_fget ok (table_reg _ p hp) hlock, laneActed_fget (.inl hcounts)]
  exact applyFields_fget hp ha hc

theorem laneTestWrite_unlocked {req : Requester} (ok : WriteOk s .LANE_TEST i (wordVal s .LANE_TEST i v))
    (h : fldIn v .LANE_TEST_rx_pattern ≠ s.fget .LANE_TEST_rx_pattern i) : (reg8 s req .LANE_TEST i 0 v).fget .LANE_TEST_lock i = 0 := by
  rw [reg8_fget rfl rfl ok i (by decide)]
  exact laneTest_after_unlocked _ _ (by rwa [applied_fget (by decide) (.inl rfl) rfl (by decide)])

theorem fldIn_act {f : Fld} (hb : f.info.lsb + 0 * f.info.stride + f.info.width ≤ 64) : fldIn (v &&& (2 ^ 64 - 1)) f = fldIn v f :=
  bits_of_mod (and_word_mod v) hb

/-- A write with the latch bit shows the live counts of the state before it. -/
theorem laneTestWrite_latched {req : Requester} (ok : WriteOk s .LANE_TEST i (wordVal s .LANE_TEST i v))
    (h : fldIn v .LANE_TEST_latch = 1) :
    (reg8 s req .LANE_TEST i 0 v).fget .LANE_TEST_bit_cnt i = (tget {} s.setup.lanes (i, 0)).bits % 2 ^ 48 ∧
      (reg8 s req .LANE_TEST i 0 v).fget .LANE_TEST_err_cnt i = (tget {} s.setup.lanes (i, 0)).errs % 2 ^ 48 ∧
      (reg8 s req .LANE_TEST i 0 v).fget .LANE_TEST_lock_loss i = (tget {} s.setup.lanes (i, 0)).loss % 2 ^ 32 := by
  have hsetup : (applyFields s (wordWriteOf s .LANE_TEST i v)).setup = s.setup :=
    (applyFields_outside (s := s) (wordWriteOf s .LANE_TEST i v)).changesOnly .setup (by simp)
  rw [laneTestWrite_fget ok rfl (by decide), laneTestWrite_fget ok rfl (by decide), laneTestWrite_fget ok rfl (by decide), ← hsetup]
  exact laneActed_latched ((fldIn_act (by decide)).trans h)

/-- A write with the clear bit zeroes the live counts. -/
theorem laneTestWrite_cleared {req : Requester} (ok : WriteOk s .LANE_TEST i (wordVal s .LANE_TEST i v))
    (h : fldIn v .LANE_TEST_clear = 1) : tget {} (reg8 s req .LANE_TEST i 0 v).setup.lanes (i, 0) = {} := by
  have hsetup := (reg8_same (req := req) (p := .setup) rfl rfl ok (by decide)).trans (laneTest_after_setup _ _)
  rw [hsetup]
  exact laneActed_cleared ((fldIn_act (by decide)).trans h)

/-- A write without the latch bit leaves the latched counts. -/
theorem laneTestWrite_unlatched {req : Requester} (ok : WriteOk s .LANE_TEST i (wordVal s .LANE_TEST i v))
    (h : fldIn v .LANE_TEST_latch ≠ 1) {f : Fld} (hf : f ∈ laneCounts) (j : Nat) :
    (reg8 s req .LANE_TEST i 0 v).fget f j = s.fget f j := by
  have counts : ∀ f ∈ laneCounts, f.reg = .LANE_TEST ∧ f ≠ .LANE_TEST_lock ∧
      ∀ p ∈ Reg.LANE_TEST.table, p.1 = f → Reg.LANE_TEST.takes p.2.acc = false := by decide
  obtain ⟨hr, hl, hro⟩ := counts f hf
  rw [laneTestWrite_fget ok hr hl, laneActed_fget (.inr fun k => h ((fldIn_act (by decide)).symm.trans k))]
  exact applyFields_fget_untaken hro j

/-- The word of a latch or a clear has that one bit above its settings. -/
theorem laneWord_bit {b l : Nat} (n : Nat) (hb : 10 ≤ b) (hl : 10 ≤ l) : bits (laneWord s n b) l 1 = bits (2 ^ b) l 1 :=
  bits_add_low 1 (Nat.mod_lt _ (Nat.two_pow_pos 10)) (Nat.pow_dvd_pow 2 hb) hl

/-- Counting of a lane's bits changes no register. -/
theorem laneAdd_setup (n b e : Nat) : ∃ x, laneAdd s n b e = { s with setup := x } := by
  unfold laneAdd
  dsimp only
  split
  · exact ⟨_, rfl⟩
  · exact ⟨_, rfl⟩

/-- A locked checker that has not counted its last bit adds what it has compared since. -/
theorem laneAdd_lane (n b e : Nat) :
    let x := tget {} s.setup.lanes (n, 0)
    let on := s.fbit .LANE_TEST_lock n && decide (x.bits < 2 ^ 48 - 1)
    let y := tget {} (laneAdd s n b e).setup.lanes (n, 0)
    y.bits = (if on then min (x.bits + b) (2 ^ 48 - 1) else x.bits) ∧ y.errs = (if on then x.errs + e else x.errs) ∧
      y.loss = x.loss := by
  unfold laneAdd
  dsimp only
  split
  · rw [tget_tset_same]
    exact ⟨rfl, rfl, rfl⟩
  · exact ⟨rfl, rfl, rfl⟩

/-- A latch counts first, and what it writes is then accepted as before. -/
theorem writeOk_laneAdd {n b e : Nat} (ok : WriteOk s .LANE_TEST n (wordVal s .LANE_TEST n (laneWord s n 10))) :
    WriteOk (laneAdd s n b e) .LANE_TEST n (wordVal (laneAdd s n b e) .LANE_TEST n (laneWord (laneAdd s n b e) n 10)) := by
  obtain ⟨x, hx⟩ := laneAdd_setup (s := s) n b e
  rw [hx]
  exact ok

end

/-! ### The commands -/

section
variable {s : State} {req : Requester} {o l : Nat}

theorem exec_laneTestWrite (v : Word) (hl : l < 8) :
    exec (.laneTestWrite req o l v) s = .next (reg8 s req .LANE_TEST (o * 8 + l) 0 v.toNat) :=
  congrArg Host.Outcome.next (if_pos hl)

theorem exec_laneTestLatch (b e : Nat) (hl : l < 8) (ho : o < 32) : exec (.laneTestLatch req o l b e) s =
    .next (reg8 (laneAdd s (o * 8 + l) b e) req .LANE_TEST (o * 8 + l) 0 (laneWord (laneAdd s (o * 8 + l) b e) (o * 8 + l) 10)) :=
  congrArg Host.Outcome.next (if_pos ⟨hl, ho⟩)

theorem exec_laneTestClear (hl : l < 8) (ho : o < 32) :
    exec (.laneTestClear req o l) s = .next (reg8 s req .LANE_TEST (o * 8 + l) 0 (laneWord s (o * 8 + l) 11)) :=
  congrArg Host.Outcome.next (if_pos ⟨hl, ho⟩)

theorem portAdminDisable_fget {n : Nat} (hb : s.banksOk = true)
    (ok : WriteOk s .PORT_CFG n (wordVal s .PORT_CFG n (setBits (regRaw s .PORT_CFG n) 0 1 0))) {f : Fld} (h : f.reg = .PORT_CFG) :
    (reg8 s req .PORT_CFG n 0 (setBits (regRaw s .PORT_CFG n) 0 1 0)).fget f n = if f = .PORT_CFG_admin_en then 0 else s.fget f n := by
  have settings : ∀ p ∈ Reg.PORT_CFG.table, (p.2.acc = .rw ∨ p.2.acc = .rwp) ∧ p.2.reps = 1 := by decide
  obtain ⟨hacc, hreps⟩ := settings _ (mem_portCfg h)
  have k := portCfgWrite_readsBack (req := req) ok _ (mem_portCfg h) hacc 0 (Nat.lt_of_lt_of_eq Nat.one_pos hreps.symm)
  rw [hreps, Nat.mul_one, Nat.add_zero] at k
  exact k.trans (portCfg_disabled hb n h)

end

end Sys2Proof.Machine

open Sys2Proof Sys2Proof.Machine

/-- Settles O31: each write is accepted, and what it does beyond its fields starts from the fields as they are written. -/
theorem portAndLaneWritesAct : Obligations.PortAndLaneWritesAct := by
  refine ⟨fun s req n v ok => ?_, fun s req n hb ok => ?_, fun s req o l v hl ok => ?_, fun s req o l b e hl ho _ ok => ?_,
    fun s req o l hl ho _ ok => ?_, fun s req n v ok => ?_⟩
  · exact ⟨_, rfl, portCfgWrite_readsBack ok, portCfgWrite_down ok⟩
  · have off {f : Fld} (h : f.reg = .PORT_CFG) := portAdminDisable_fget (req := req) hb ok h
    refine ⟨_, rfl, off rfl, fun f hf hne => (off hf).trans (if_neg hne), fun hon => ?_⟩
    exact portCfgWrite_down ok hon (bits_setBits_same _ _ _ _)
  · exact ⟨_, exec_laneTestWrite v hl, laneTestWrite_readsBack ok, laneTestWrite_unlocked ok⟩
  · have h := laneTestWrite_latched (req := req) (writeOk_laneAdd (b := b) (e := e) ok) (laneWord_bit _ (by decide) (by decide))
    obtain ⟨hbits, herrs, hloss⟩ := laneAdd_lane (s := s) (o * 8 + l) b e
    rw [hbits, herrs, hloss] at h
    exact ⟨_, exec_laneTestLatch b e hl ho, h⟩
  · refine ⟨_, exec_laneTestClear hl ho, laneTestWrite_cleared ok (laneWord_bit _ (by decide) (by decide)), ?_⟩
    have unlatched : bits (laneWord s (o * 8 + l) 11) 10 1 = 0 := laneWord_bit _ (by decide) (by decide)
    exact laneTestWrite_unlatched ok (fun k => absurd (unlatched.symm.trans k) (by decide)) (by decide) _
  · exact ⟨_, rfl, portTestWrite_readsBack ok, portTestWrite_gen ok, portTestWrite_chk ok⟩

end

section
/-! SUPPORT. What writes of LB_KEY_CTL, STR_CTL, AGE_CTL and CELLAR_REKEY ask for beyond their fields (R65, R86, R87, R90, R135). -/

namespace Sys2Proof.Machine

-- A proof that evaluates in the kernel waits for every declaration before it, and holds a thread while it waits.
set_option Elab.async false

section
variable {s t : State} {req : Requester} {r : Reg} {i v x a : Nat}

/-! ### Events and accepted writes -/

/-- An event sets its bit; but for what reports it, nothing else follows. -/
theorem event_same {p : Part} (hp : p ∉ evtParts) (f : Fld) (i : Nat) : p.same (s.fset f i 1) (s.event f i) := by
  refine (evtUpdate_kept (fr := partsMask evtParts) (.of_beq (by decide +kernel)) (.refl _ _)).same p ?_
  rw [← Bool.not_eq_true, partsMask_testBit]
  exact hp

theorem event_fget {f g : Fld} (hg : .reg g.reg ∉ evtParts) (i j : Nat) : (s.event f i).fget g j = (s.fset f i 1).fget g j :=
  event_same hg f i g j rfl

theorem event_fget_ne {f g : Fld} (hg : .reg g.reg ∉ evtParts) (h : g ≠ f) (i j : Nat) : (s.event f i).fget g j = s.fget g j :=
  (event_fget hg i j).trans (fget_fset_ne h _ _ _)

theorem event_fget_same {f : Fld} (hf : .reg f.reg ∉ evtParts) (hw : 1 % 2 ^ f.info.width = 1) (i : Nat) : (s.event f i).fget f i = 1 :=
  (event_fget hf i i).trans ((fget_fset_same _ _ _ _).trans hw)

/-- A register that SETUP_LOCK does not guard takes every write that no rule refuses. -/
theorem writeOk_of_unlocked (hl : r.table.all (fun p => !(p.2.acc == .rwp)) = true) (lands : writeLands s r i = true)
    (fine : regRefused s r i v (2 ^ 64 - 1) = false) : WriteOk s r i v :=
  ⟨lands, by rw [writeLocked, changesRwp_of_none hl, Bool.and_false], fine⟩

theorem strCtl_writeOk (v : Nat) : WriteOk s .STR_CTL 0 v := writeOk_of_unlocked (by decide) rfl rfl
theorem ageCtl_writeOk (v : Nat) : WriteOk s .AGE_CTL 0 v := writeOk_of_unlocked (by decide) rfl rfl
theorem cellarRekey_writeOk (v : Nat) : WriteOk s .CELLAR_REKEY 0 v := writeOk_of_unlocked (by decide) rfl rfl

/-- The state in which what a write of a register's word does is judged: its fields are written. -/
def written (s : State) (r : Reg) (v : Nat) : State := applyFields s (wordWriteOf s r 0 v)

theorem written_same {p : Part} (hp : p ≠ .reg r) : p.same s (written s r v) :=
  (applyFields_outside _).changesOnly p (by simpa [wordWriteOf] using hp)

theorem written_cellar : (written s r v).cellar = s.cellar := written_same (p := .cellar) (by simp)

/-- A bit that no write of its register reaches stands. -/
theorem written_fget {f : Fld} (h : ∀ p ∈ r.table, p.1 = f → r.takes p.2.acc = false) : (written s r v).fget f 0 = s.fget f 0 :=
  applyFields_fget_untaken h 0

theorem written_fbit {f : Fld} (h : ∀ p ∈ r.table, p.1 = f → r.takes p.2.acc = false) : (written s r v).fbit f 0 = s.fbit f 0 :=
  congrArg (· == 1) (written_fget h)

/-! ### The balancing key (R65) -/

theorem lbKeyCtl_after (h : fldIn a .LB_KEY_CTL_apply = 1) :
    afterWrite s t ⟨.LB_KEY_CTL, i, x, a⟩ = t.fset .SEP_STATUS_lb_key_pending 0 1 := if_pos (beq_iff_eq.2 h)

theorem lbKeyApply_pending (ok : WriteOk s .LB_KEY_CTL 0 (wordVal s .LB_KEY_CTL 0 1)) :
    (reg8 s req .LB_KEY_CTL 0 0 1).fget .SEP_STATUS_lb_key_pending 0 = 1 := by
  rw [reg8_fget rfl rfl ok 0 (by decide), wordWriteOf, lbKeyCtl_after (by decide), fget_fset_same]
  rfl

theorem lbKeyApply_setup (ok : WriteOk s .LB_KEY_CTL 0 (wordVal s .LB_KEY_CTL 0 1)) : (reg8 s req .LB_KEY_CTL 0 0 1).setup = s.setup := by
  have h : (reg8 s req .LB_KEY_CTL 0 0 1).setup = _ := reg8_same (p := .setup) rfl rfl ok (by decide)
  rw [h, wordWriteOf, lbKeyCtl_after (by decide)]
  exact (applyFields_outside _).changesOnly .setup (by simp)

theorem exec_lbKeySwitch (h : s.fbit .SEP_STATUS_lb_key_pending 0 = true) : exec .lbKeySwitch s =
    .next ({ s with setup := { s.setup with kLb := (s.fget .LB_KEY_key 0, s.fget .LB_KEY_key 1) } }.fset .SEP_STATUS_lb_key_pending 0 0) :=
  congrArg Host.Outcome.next (if_pos h)

/-! ### Purges (R121, R135) -/

theorem strCtl_after (h : fldIn a .STR_CTL_purge_start = 1) : afterWrite s t ⟨.STR_CTL, i, x, a⟩ = purgeGo t := if_pos (beq_iff_eq.2 h)

/-- While a purge runs another is refused. -/
theorem purgeGo_refused (h : t.fbit .STR_CTL_purge_running 0 = true) :
    (purgeGo t).fget .STR_CTL_purge_refused 0 = 1 ∧ (purgeGo t).cellar = t.cellar := by
  have e : purgeGo t = t.event .STR_CTL_purge_refused 0 := if_pos (by rw [h, Bool.true_or])
  rw [e]
  exact ⟨event_fget_same (by decide) (by decide) 0, event_same (p := .cellar) (by decide) _ _⟩

/-- Else one of an address that an entry may have starts its walk from position 0. -/
theorem purgeGo_starts (hr : t.fbit .STR_CTL_purge_running 0 = false) (ha : addrLowest t (t.fget .STR_CTL_purge_addr 0) = true) :
    (purgeGo t).fget .STR_CTL_purge_running 0 = 1 ∧ (purgeGo t).fget .STR_CTL_purge_addr 0 = t.fget .STR_CTL_purge_addr 0 ∧
      (purgeGo t).cellar = { t.cellar with purgeAt := some 0, purgeAddr := t.fget .STR_CTL_purge_addr 0 } := by
  have e : purgeGo t =
      { t with cellar := { t.cellar with purgeAt := some 0, purgeAddr := t.fget .STR_CTL_purge_addr 0 } }.fset .STR_CTL_purge_running 0 1 :=
    if_neg (by rw [hr, ha]; decide)
  rw [e]
  exact ⟨fget_fset_same _ _ _ _, fget_fset_ne (by decide) _ _ _, rfl⟩

/-- The word of a purge start: the address below the start bit. -/
def purgeWord (a : Nat) : Nat := a % 2 ^ 18 + 2 ^ 18

theorem purgeWord_addr (a : Nat) : fldIn (purgeWord a) .STR_CTL_purge_addr = a % 2 ^ 18 := by
  show (a % 2 ^ 18 + 2 ^ 18) / 2 ^ 0 % 2 ^ 18 = _
  omega

theorem purgeWord_start (a : Nat) : fldIn (purgeWord a) .STR_CTL_purge_start = 1 := by
  show (a % 2 ^ 18 + 2 ^ 18) / 2 ^ 18 % 2 ^ 1 = _
  omega

theorem purgeStart_same {p : Part} (hp : p ∉ evtParts) :
    p.same (purgeGo (written s .STR_CTL (purgeWord a))) (reg8 s req .STR_CTL 0 0 (purgeWord a)) := by
  have h := reg8_same (req := req) (p := p) rfl rfl (strCtl_writeOk (s := s) (wordVal s .STR_CTL 0 (purgeWord a))) hp
  rwa [← written, wordWriteOf, strCtl_after ((fldIn_act (by decide)).trans (purgeWord_start a))] at h

theorem purgeStart_shows {f : Fld} (hf : f.reg = .STR_CTL) :
    (reg8 s req .STR_CTL 0 0 (purgeWord a)).fget f 0 = (purgeGo (written s .STR_CTL (purgeWord a))).fget f 0 :=
  purgeStart_same (p := .reg .STR_CTL) (by decide) f 0 hf

theorem purgeStart_cellar :
    (reg8 s req .STR_CTL 0 0 (purgeWord a)).cellar = (purgeGo (written s .STR_CTL (purgeWord a))).cellar :=
  purgeStart_same (p := .cellar) (by decide)

/-- A purge starts a walk from position 0. -/
theorem purgeStart_starts (hr : s.fbit .STR_CTL_purge_running 0 = false) (ha : addrLowest s (a % 2 ^ 18) = true) :
    let t := reg8 s req .STR_CTL 0 0 (purgeWord a)
    t.fget .STR_CTL_purge_running 0 = 1 ∧ t.fget .STR_CTL_purge_addr 0 = a % 2 ^ 18 ∧
      t.cellar = { s.cellar with purgeAt := some 0, purgeAddr := a % 2 ^ 18 } := by
  have addr : (written s .STR_CTL (purgeWord a)).fget .STR_CTL_purge_addr 0 = a % 2 ^ 18 :=
    (applied_fget (by decide) (.inl rfl) rfl (by decide)).trans (purgeWord_addr a)
  have modes (b : Nat) : (written s .STR_CTL (purgeWord a)).fget .STR_BLOCK_CFG_mode b = s.fget .STR_BLOCK_CFG_mode b :=
    written_same (p := .reg .STR_BLOCK_CFG) (by decide) _ b rfl
  have go := purgeGo_starts (t := written s .STR_CTL (purgeWord a)) ((written_fbit (by decide)).trans hr)
    (by rw [addr, addrLowest, modes]; exact ha)
  rwa [addr, written_cellar, ← purgeStart_cellar (req := req), ← purgeStart_shows (req := req) rfl,
    ← purgeStart_shows (req := req) rfl] at go

/-- A purge that is asked for while one runs is refused. -/
theorem purgeStart_refused (hr : s.fbit .STR_CTL_purge_running 0 = true) :
    let t := reg8 s req .STR_CTL 0 0 (purgeWord a)
    t.fget .STR_CTL_purge_refused 0 = 1 ∧ t.cellar = s.cellar := by
  have go := purgeGo_refused (t := written s .STR_CTL (purgeWord a)) ((written_fbit (by decide)).trans hr)
  rwa [written_cellar, ← purgeStart_cellar (req := req), ← purgeStart_shows (req := req) rfl] at go

/-! ### Sweeps (R86, R87) -/

/-- The bits that show a sweep. -/
def sweepBits : List Fld := [.AGE_CTL_sweep_running, .AGE_CTL_sweep_now, .AGE_CTL_sweep_pending]

/-- A sweep that software asks for leaves age_epoch as it is. -/
theorem sweepStart_false : sweepStart t false =
    if t.cellar.sweepAt.isNone then
      ({ t with cellar := { t.cellar with sweepAt := some 0 } }.fset .AGE_CTL_sweep_running 0 1).fset .AGE_CTL_sweep_now 0 0
    else if t.fbit .AGE_CTL_sweep_pending 0 then t.count .sweepOverrun 0 else t.fset .AGE_CTL_sweep_pending 0 1 := rfl

/-- It shows in its bits alone. -/
theorem sweepStart_fget {f : Fld} (h : f ∉ sweepBits) (j : Nat) : (sweepStart t false).fget f j = t.fget f j := by
  simp only [sweepBits, List.mem_cons, List.not_mem_nil, or_false, not_or] at h
  obtain ⟨hr, hn, hp⟩ := h
  rw [sweepStart_false]
  split
  · rw [fget_fset_ne hn, fget_fset_ne hr]
    rfl
  · split
    · exact fget_of_reg (count_reg _ _ _ _ _) f j
    · exact fget_fset_ne hp _ _ _

theorem sweepStart_begins (h : t.cellar.sweepAt = none) :
    (sweepStart t false).cellar.sweepAt = some 0 ∧ (sweepStart t false).fget .AGE_CTL_sweep_running 0 = 1 ∧
      (sweepStart t false).fget .AGE_CTL_sweep_now 0 = 0 := by
  rw [sweepStart_false, if_pos (by rw [h]; rfl), fget_fset_ne (by decide), fget_fset_same, fget_fset_same]
  exact ⟨rfl, rfl, rfl⟩

theorem sweepStart_waits (h : t.cellar.sweepAt ≠ none) (hp : t.fbit .AGE_CTL_sweep_pending 0 = false) :
    (sweepStart t false).cellar = t.cellar ∧ (sweepStart t false).fget .AGE_CTL_sweep_pending 0 = 1 := by
  rw [sweepStart_false, if_neg (by simpa using h), hp, if_neg Bool.false_ne_true, fget_fset_same]
  exact ⟨rfl, rfl⟩

theorem ageCtl_after (h : fldIn a .AGE_CTL_sweep_now = 1) (hn : t.fbit .AGE_CTL_sweep_now 0 = false) :
    afterWrite s t ⟨.AGE_CTL, i, x, a⟩ = sweepStart (t.fset .AGE_CTL_sweep_now 0 1) false :=
  if_pos (Bool.and_eq_true_iff.2 ⟨beq_iff_eq.2 h, congrArg not hn⟩)

/-- The word of a sweep start: hint_min below the start bit. -/
def sweepWord (s : State) : Nat := s.fget .AGE_CTL_hint_min 0 * 2 ^ 16 + 2 ^ 26

theorem hint_min_lt (hb : s.banksOk = true) : s.fget .AGE_CTL_hint_min 0 < 2 ^ 8 := fget_lt (f := .AGE_CTL_hint_min) hb (by decide)

theorem sweepWord_hint (hb : s.banksOk = true) : fldIn (sweepWord s) .AGE_CTL_hint_min = s.fget .AGE_CTL_hint_min 0 := by
  have h := hint_min_lt hb
  show (s.fget .AGE_CTL_hint_min 0 * 2 ^ 16 + 2 ^ 26) / 2 ^ 16 % 2 ^ 8 = _
  omega

theorem sweepWord_now (hb : s.banksOk = true) : fldIn (sweepWord s) .AGE_CTL_sweep_now = 1 := by
  have h := hint_min_lt hb
  show (s.fget .AGE_CTL_hint_min 0 * 2 ^ 16 + 2 ^ 26) / 2 ^ 26 % 2 ^ 1 = _
  omega

/-- The state in which a sweep is asked for: sweep_now reads 1. -/
def sweepAsked (s : State) : State := (written s .AGE_CTL (sweepWord s)).fset .AGE_CTL_sweep_now 0 1

theorem sweepAsked_cellar : (sweepAsked s).cellar = s.cellar := (fset_cellar _ _ _ _).trans written_cellar

theorem sweepAsked_hint (hb : s.banksOk = true) : (sweepAsked s).fget .AGE_CTL_hint_min 0 = s.fget .AGE_CTL_hint_min 0 := by
  rw [sweepAsked, fget_fset_ne (by decide), written, applied_fget (by decide) (.inl rfl) rfl (by decide), sweepWord_hint hb]

/-- Of the fields that only the device writes none but sweep_now changes. -/
theorem sweepAsked_fget {f : Fld} (hn : f ≠ .AGE_CTL_sweep_now)
    (h : ∀ p ∈ Reg.AGE_CTL.table, p.1 = f → Reg.AGE_CTL.takes p.2.acc = false) : (sweepAsked s).fget f 0 = s.fget f 0 :=
  (fget_fset_ne hn _ _ _).trans (written_fget h)

theorem sweepNow_same (hn : s.fbit .AGE_CTL_sweep_now 0 = false) (hb : s.banksOk = true) {p : Part} (hp : p ∉ evtParts) :
    p.same (sweepStart (sweepAsked s) false) (reg8 s req .AGE_CTL 0 0 (sweepWord s)) := by
  have h := reg8_same (req := req) (p := p) rfl rfl (ageCtl_writeOk (s := s) (wordVal s .AGE_CTL 0 (sweepWord s))) hp
  rwa [← written, wordWriteOf, ageCtl_after ((fldIn_act (by decide)).trans (sweepWord_now hb)) ((written_fbit (by decide)).trans hn)] at h

/-- sweep_now starts a sweep, or makes one pending; age_epoch and hint_min stand. -/
theorem sweepNow_acts (hn : s.fbit .AGE_CTL_sweep_now 0 = false) (hb : s.banksOk = true) :
    let t := reg8 s req .AGE_CTL 0 0 (sweepWord s)
    t.fget .AGE_CTL_age_epoch 0 = s.fget .AGE_CTL_age_epoch 0 ∧ t.fget .AGE_CTL_hint_min 0 = s.fget .AGE_CTL_hint_min 0 ∧
      (s.cellar.sweepAt = none →
        t.cellar.sweepAt = some 0 ∧ t.fget .AGE_CTL_sweep_running 0 = 1 ∧ t.fget .AGE_CTL_sweep_now 0 = 0) ∧
      (s.cellar.sweepAt ≠ none → s.fbit .AGE_CTL_sweep_pending 0 = false →
        t.cellar = s.cellar ∧ t.fget .AGE_CTL_sweep_pending 0 = 1) := by
  have shows (f : Fld) (hf : f.reg = .AGE_CTL) := sweepNow_same (req := req) hn hb (p := .reg .AGE_CTL) (by decide) f 0 hf
  have cellar : (reg8 s req .AGE_CTL 0 0 (sweepWord s)).cellar = (sweepStart (sweepAsked s) false).cellar :=
    sweepNow_same hn hb (p := .cellar) (by decide)
  refine ⟨?_, ?_, fun h => ?_, fun h hp => ?_⟩
  · rw [shows _ rfl, sweepStart_fget (by decide), sweepAsked_fget (by decide) (by decide)]
  · rw [shows _ rfl, sweepStart_fget (by decide), sweepAsked_hint hb]
  · rw [cellar, shows _ rfl, shows _ rfl]
    exact sweepStart_begins (by rw [sweepAsked_cellar, h])
  · have pending : (sweepAsked s).fbit .AGE_CTL_sweep_pending 0 = false :=
      (congrArg (· == 1) (sweepAsked_fget (by decide) (by decide))).trans hp
    have waits := sweepStart_waits (by rwa [sweepAsked_cellar]) pending
    rwa [sweepAsked_cellar, ← cellar, ← shows _ rfl] at waits

/-! ### Rekeys (R90) -/

theorem cellarRekey_after (h : fldIn a .CELLAR_REKEY_rekey_start = 1) : afterWrite s t ⟨.CELLAR_REKEY, i, x, a⟩ = rekeyBegin t :=
  if_pos (beq_iff_eq.2 h)

/-- A rekey is refused while one runs or while the key is pinned. -/
theorem rekeyBegin_refused (h : t.fbit .CELLAR_REKEY_rekey_running 0 = true ∨ t.fbit .CELLAR_REKEY_key_pinned 0 = true) :
    (rekeyBegin t).cellar = t.cellar ∧ (rekeyBegin t).fget .CELLAR_REKEY_rekey_refused 0 = 1 := by
  have e : rekeyBegin t = t.event .CELLAR_REKEY_rekey_refused 0 := if_pos h
  rw [e]
  exact ⟨event_same (p := .cellar) (by decide) _ _, event_fget_same (by decide) (by decide) 0⟩

/-- Else it draws a new key and starts its migration at bucket 0. -/
theorem rekeyBegin_starts (hr : t.fbit .CELLAR_REKEY_rekey_running 0 = false) (hk : t.fbit .CELLAR_REKEY_key_pinned 0 = false) :
    let u := rekeyBegin t
    u.cellar.migrateAt = some 0 ∧ u.cellar.kNew.isSome = true ∧ u.draws = t.draws + 2 ∧ u.fget .CELLAR_REKEY_rekey_running 0 = 1 ∧
      u.fget .CELLAR_REKEY_rekey_bucket 0 = 0 ∧ u.fget .HBM_SPLIT_rekey_reserve 0 = 1 := by
  obtain ⟨w, hw, hdraws, hmigrate, hkey⟩ : ∃ w : State, rekeyBegin t =
      ((w.fset .CELLAR_REKEY_rekey_running 0 1).fset .CELLAR_REKEY_rekey_bucket 0 0).fset .HBM_SPLIT_rekey_reserve 0 1 ∧
      w.draws = t.draws + 2 ∧ w.cellar.migrateAt = some 0 ∧ w.cellar.kNew.isSome = true :=
    ⟨_, if_neg (by rw [hr, hk]; decide), rfl, rfl, rfl⟩
  dsimp only
  rw [hw]
  refine ⟨hmigrate, hkey, hdraws, ?_, ?_, fget_fset_same _ _ _ _⟩
  · rw [fget_fset_ne (by decide), fget_fset_ne (by decide), fget_fset_same]
    rfl
  · rw [fget_fset_ne (by decide), fget_fset_same]
    rfl

theorem rekeyStart_same {p : Part} (hp : p ∉ evtParts) :
    p.same (rekeyBegin (written s .CELLAR_REKEY 1)) (reg8 s req .CELLAR_REKEY 0 0 1) := by
  have h := reg8_same (req := req) (p := p) rfl rfl (cellarRekey_writeOk (s := s) (wordVal s .CELLAR_REKEY 0 1)) hp
  rwa [← written, wordWriteOf, cellarRekey_after (by decide)] at h

theorem rekeyStart_shows {f : Fld} (hf : .reg f.reg ∉ evtParts) :
    (reg8 s req .CELLAR_REKEY 0 0 1).fget f 0 = (rekeyBegin (written s .CELLAR_REKEY 1)).fget f 0 := rekeyStart_same hf f 0 rfl

theorem rekeyStart_cellar : (reg8 s req .CELLAR_REKEY 0 0 1).cellar = (rekeyBegin (written s .CELLAR_REKEY 1)).cellar :=
  rekeyStart_same (p := .cellar) (by decide)

theorem rekeyStart_starts (hr : s.fbit .CELLAR_REKEY_rekey_running 0 = false) (hk : s.fbit .CELLAR_REKEY_key_pinned 0 = false) :
    let t := reg8 s req .CELLAR_REKEY 0 0 1
    t.cellar.migrateAt = some 0 ∧ t.cellar.kNew.isSome = true ∧ t.draws = s.draws + 2 ∧
      t.fget .CELLAR_REKEY_rekey_running 0 = 1 ∧ t.fget .CELLAR_REKEY_rekey_bucket 0 = 0 ∧ t.fget .HBM_SPLIT_rekey_reserve 0 = 1 := by
  have draws : (reg8 s req .CELLAR_REKEY 0 0 1).draws = (rekeyBegin (written s .CELLAR_REKEY 1)).draws :=
    rekeyStart_same (p := .draws) (by decide)
  have asked : (written s .CELLAR_REKEY 1).draws = s.draws := written_same (p := .draws) (by decide)
  dsimp only
  rw [rekeyStart_cellar, draws, rekeyStart_shows (by decide), rekeyStart_shows (by decide), rekeyStart_shows (by decide), ← asked]
  exact rekeyBegin_starts ((written_fbit (by decide)).trans hr) ((written_fbit (by decide)).trans hk)

theorem rekeyStart_refused (h : s.fbit .CELLAR_REKEY_rekey_running 0 = true ∨ s.fbit .CELLAR_REKEY_key_pinned 0 = true) :
    let t := reg8 s req .CELLAR_REKEY 0 0 1
    t.cellar = s.cellar ∧ t.fget .CELLAR_REKEY_rekey_refused 0 = 1 := by
  have judged : (written s .CELLAR_REKEY 1).fbit .CELLAR_REKEY_rekey_running 0 = true ∨
      (written s .CELLAR_REKEY 1).fbit .CELLAR_REKEY_key_pinned 0 = true := by
    rwa [written_fbit (by decide), written_fbit (by decide)]
  dsimp only
  rw [rekeyStart_cellar, rekeyStart_shows (by decide), ← written_cellar (s := s) (r := .CELLAR_REKEY) (v := 1)]
  exact rekeyBegin_refused judged

end

end Sys2Proof.Machine

open Sys2Proof Sys2Proof.Machine

/-- Settles O32: each request is an accepted write of its register, and what it starts or refuses is judged with its fields written. -/
theorem flowAndKeyRequestsAct : Obligations.FlowAndKeyRequestsAct :=
  ⟨fun _ _ ok => ⟨_, rfl, lbKeyApply_pending ok, lbKeyApply_setup ok⟩,
    fun _ h => ⟨_, exec_lbKeySwitch h, rfl, fget_fset_same _ _ _ _⟩,
    fun _ _ _ => ⟨fun hr ha => ⟨_, rfl, purgeStart_starts hr ha⟩, fun hr => ⟨_, rfl, purgeStart_refused hr⟩⟩,
    fun _ _ hn hb => ⟨_, rfl, sweepNow_acts hn hb⟩,
    fun _ _ => ⟨fun hr hk => ⟨_, rfl, rekeyStart_starts hr hk⟩, fun h => ⟨_, rfl, rekeyStart_refused h⟩⟩⟩

end

section
/-! SUPPORT. What thermal reports, the core rail and the ends of block resets do to a running Rind (R68, R119, R137, R164, R332, R333,
R335). -/

namespace Sys2Proof.Machine

-- A proof that evaluates in the kernel waits for every declaration before it, and holds a thread while it waits.
set_option Elab.async false

section
variable {s : State}

/-! ### The Rind's shows -/

/-- UPD_STATUS and FW_BUILD are all that their show writes. -/
theorem updShow_same {p : Part} (hp : p ∉ [.reg .UPD_STATUS, .reg .FW_BUILD]) : p.same s (updShow s) :=
  (updShow_kept (fr := partsMask [.reg .UPD_STATUS, .reg .FW_BUILD]) (.of_beq (by decide +kernel)) (.refl _ _)).changesOnly p hp

theorem updShow_fget {f : Fld} (hf : .reg f.reg ∉ [Part.reg .UPD_STATUS, .reg .FW_BUILD]) (i : Nat) : (updShow s).fget f i = s.fget f i :=
  updShow_same hf f i rfl

/-! ### Stages of the thermal guard (R333) -/

theorem stageFor_le (tj : Int) : stageFor s tj ≤ 5 := by
  rw [stageFor]
  dsimp only
  generalize hl : List.filter _ _ = l
  cases h : l.max? with
  | none => exact Nat.zero_le 5
  | some m =>
    have hm : m ∈ [1, 2, 3, 4, 5] := List.mem_of_mem_filter (hl ▸ List.max?_mem h)
    have le : ∀ m ∈ [1, 2, 3, 4, 5], m ≤ 5 := by decide
    exact le m hm

/-- A stage depends on the throttle point and on the stage before it. -/
theorem stageFor_congr {t : State} (hp : t.fget .THERMAL_throttle_point 0 = s.fget .THERMAL_throttle_point 0)
    (hs : t.fget .THERMAL_stage 0 = s.fget .THERMAL_stage 0) (tj : Int) : stageFor t tj = stageFor s tj := by
  rw [stageFor, hp, hs, ← stageFor]

theorem stageSet_stays {k : Nat} (h : k = s.fget .THERMAL_stage 0) : stageSet s k = s := if_pos h

/-- A stage that is entered is shown, with its throttle level. -/
theorem stageSet_enters {k : Nat} (h : k ≠ s.fget .THERMAL_stage 0) : stageSet s k =
    (vatCutShow ((s.fset .THERMAL_stage 0 k).fset .STR_STATUS_throttle_level 0 ([0, 1, 1, 2, 2, 3].getD k 0))).event
      .RIND_EVT_throttle_event 0 := if_neg h

theorem vatCutShow_fget {f : Fld} (h : f ≠ .HBM_SPLIT_thermal_vat_cut) (i : Nat) : (vatCutShow s).fget f i = s.fget f i :=
  fget_fset_ne h _ _ _

/-- Of THERMAL a stage that is set changes only itself. -/
theorem stageSet_fget {k : Nat} {f : Fld} (hr : f.reg = .THERMAL) (hf : f ≠ .THERMAL_stage) (i : Nat) :
    (stageSet s k).fget f i = s.fget f i := by
  have ne {g : Fld} (hg : g.reg ≠ .THERMAL) : f ≠ g := fun e => hg (e ▸ hr)
  by_cases h : k = s.fget .THERMAL_stage 0
  · rw [stageSet_stays h]
  · rw [stageSet_enters h, event_fget_ne (by rw [hr]; decide) (ne (by decide)), vatCutShow_fget (ne (by decide)),
      fget_fset_ne (ne (by decide)), fget_fset_ne hf]

theorem stageSet_stage {k : Nat} (hk : k ≤ 5) : (stageSet s k).fget .THERMAL_stage 0 = k := by
  by_cases h : k = s.fget .THERMAL_stage 0
  · rw [stageSet_stays h, ← h]
  · rw [stageSet_enters h, event_fget_ne (by decide) (by decide), vatCutShow_fget (by decide), fget_fset_ne (by decide), fget_fset_same]
    exact Nat.mod_eq_of_lt (Nat.lt_of_le_of_lt hk (by decide))

theorem stageSet_event {k : Nat} (h : k ≠ s.fget .THERMAL_stage 0) : (stageSet s k).fget .RIND_EVT_throttle_event 0 = 1 := by
  rw [stageSet_enters h]
  exact event_fget_same (by decide) (by decide) 0

theorem stageSet_level {k : Nat} (hk : k ≤ 5) (h : k ≠ s.fget .THERMAL_stage 0) :
    (stageSet s k).fget .STR_STATUS_throttle_level 0 = [0, 1, 1, 2, 2, 3].getD k 0 := by
  have fits : ∀ k ≤ 5, [0, 1, 1, 2, 2, 3].getD k 0 % 2 ^ 2 = [0, 1, 1, 2, 2, 3].getD k 0 := by decide
  rw [stageSet_enters h, event_fget_ne (by decide) (by decide), vatCutShow_fget (by decide), fget_fset_same]
  exact fits k hk

/-! ### Reports of valid sensors (R332) -/

theorem senseOne_code (l : List Int) (i : Nat) : (senseOne s l i).1.code = l.getD i 0 := by
  unfold senseOne
  dsimp only
  split
  · next h => exact h.1.symm
  · rfl

/-- What each of the 64 sensors reports. -/
def sensed (s : State) (l : List Int) : List (Nat × Sensor × Bool) := (List.range 64).map (fun i => (i, senseOne s l i))

/-- The state once valid reports, the junction temperature and its sensor are shown. -/
def reported (s : State) (l : List Int) (i : Nat) (tj : Int) : State :=
  let r := { s.rind with sensors := (sensed s l).foldl (fun t x => tset {} t (x.1, 0) x.2.1) s.rind.sensors, invalid := [] }
  (({ s with rind := r }.fset .THERMAL_invalid_sensors 0 0).fset .THERMAL_hot_sensor 0 i).fset .THERMAL_tj_q2 0 tj.toNat

section
variable {l : List Int} {tj : Int} {i : Nat}

theorem sensed_codes (hl : l.length = 64) : (sensed s l).map (fun x => x.2.1.code) = l := by
  refine List.ext_getElem (by simp [sensed, hl]) fun k _ hk => ?_
  simp [sensed, senseOne_code, hk]

theorem sensed_valid (hv : ∀ k, k < 64 → (senseOne s l k).2 = true) : ∀ x ∈ sensed s l, x.2.2 = true := by
  intro x hx
  obtain ⟨k, hk, rfl⟩ := List.mem_map.1 hx
  exact hv k (List.mem_range.1 hk)

/-- The lowest sensor of a reading is the first that reports it. -/
theorem sensed_find (hi : i < 64) (hat : l[i]? = some tj) (hlow : ∀ k, k < i → l[k]? ≠ some tj) (hl : l.length = 64) :
    (sensed s l).find? (fun x => some x.2.1.code == some tj) = some (i, senseOne s l i) := by
  have reads (k : Nat) (hk : k < 64) : (some (senseOne s l k).1.code == some tj) = (l[k]? == some tj) := by
    rw [senseOne_code, List.getD_eq_getElem?_getD, List.getElem?_eq_getElem (by omega), Option.getD_some]
  have first : (List.range 64).find? (fun k => some (senseOne s l k).1.code == some tj) = some i := by
    rw [List.find?_range_eq_some]
    refine ⟨?_, List.mem_range.2 hi, fun k hk => ?_⟩
    · rw [reads i hi, hat, beq_self_eq_true]
    · rw [reads k (by omega), Bool.not_eq_true', beq_eq_false_iff_ne]
      exact hlow k hk
  rw [sensed, List.find?_map]
  exact congrArg (Option.map _) first

theorem exec_thermalReport (hr : rindRuns s = true) (hl : l.length = 64) (hv : ∀ k, k < 64 → (senseOne s l k).2 = true)
    (hmax : l.max? = some tj) (htj : 0 ≤ tj) (hi : i < 64) (hat : l[i]? = some tj) (hlow : ∀ k, k < i → l[k]? ≠ some tj) :
    exec (.thermalReport l) s = .next (updShow (stageSet (reported s l i tj) (stageFor (reported s l i tj) tj))) := by
  have bad : (sensed s l).filter (fun x => !x.2.2) = [] := by
    refine List.filter_eq_nil_iff.2 fun x hx => ?_
    rw [sensed_valid hv x hx]
    decide
  have good : (sensed s l).filter (fun x => x.2.2) = sensed s l := List.filter_eq_self.2 (sensed_valid hv)
  have top : ((sensed s l).map (fun x => x.2.1.code)).max? = some tj := by rw [sensed_codes hl, hmax]
  have find := sensed_find (s := s) hi hat hlow hl
  have pos : ¬tj < 0 := Int.not_lt.2 htj
  refine congrArg Host.Outcome.next ((if_neg (by simp [hr, hl])).trans ?_)
  dsimp only
  rw [← sensed]
  simp only [bad, good, top, find, pos, List.map_nil, List.any_nil, List.length_nil, Nat.not_lt_zero, if_false, Bool.false_eq_true]
  rfl

theorem reported_fget {f : Fld} (h : f ∉ [.THERMAL_tj_q2, .THERMAL_hot_sensor, .THERMAL_invalid_sensors]) :
    (reported s l i tj).fget f 0 = s.fget f 0 := by
  simp only [List.mem_cons, List.not_mem_nil, or_false, not_or] at h
  obtain ⟨ht, hh, hv⟩ := h
  exact (fget_fset_ne ht _ _ _).trans ((fget_fset_ne hh _ _ _).trans (fget_fset_ne hv _ _ _))

theorem reported_stageFor : stageFor (reported s l i tj) tj = stageFor s tj :=
  stageFor_congr (reported_fget (by decide)) (reported_fget (by decide)) tj

theorem reported_tj : (reported s l i tj).fget .THERMAL_tj_q2 0 = tj.toNat % 2 ^ Fld.THERMAL_tj_q2.info.width := fget_fset_same _ _ _ _

theorem reported_hotSensor (hi : i < 64) : (reported s l i tj).fget .THERMAL_hot_sensor 0 = i :=
  (fget_fset_ne (by decide) _ _ _).trans ((fget_fset_same _ _ _ _).trans (Nat.mod_eq_of_lt hi))

theorem reported_invalid : (reported s l i tj).fget .THERMAL_invalid_sensors 0 = 0 :=
  (fget_fset_ne (by decide) _ _ _).trans ((fget_fset_ne (by decide) _ _ _).trans (fget_fset_same _ _ _ _))

/-- The junction temperature, its sensor and the count of invalid ones stand while the stage is set. -/
theorem thermalReport_shows {k : Nat} {f : Fld} (hr : f.reg = .THERMAL) (hf : f ≠ .THERMAL_stage) :
    (updShow (stageSet (reported s l i tj) k)).fget f 0 = (reported s l i tj).fget f 0 := by
  rw [updShow_fget (by rw [hr]; decide), stageSet_fget hr hf]

theorem thermalReport_stage :
    (updShow (stageSet (reported s l i tj) (stageFor (reported s l i tj) tj))).fget .THERMAL_stage 0 = stageFor s tj := by
  rw [reported_stageFor, updShow_fget (by decide), stageSet_stage (stageFor_le tj)]

theorem thermalReport_enters (h : stageFor s tj ≠ s.fget .THERMAL_stage 0) :
    let t := updShow (stageSet (reported s l i tj) (stageFor (reported s l i tj) tj))
    t.fget .RIND_EVT_throttle_event 0 = 1 ∧ t.fget .STR_STATUS_throttle_level 0 = [0, 1, 1, 2, 2, 3].getD (stageFor s tj) 0 := by
  have new : stageFor s tj ≠ (reported s l i tj).fget .THERMAL_stage 0 := by rwa [reported_fget (by decide)]
  dsimp only
  rw [reported_stageFor, updShow_fget (by decide), updShow_fget (by decide)]
  exact ⟨stageSet_event new, stageSet_level (stageFor_le tj) new⟩

end

/-! ### The core rail (R335) -/

/-- margin_low as it is shown, before its event. -/
def marginShown (s : State) : State := s.fset .RAIL_margin_low 0 (bit (s.rind.marginPin || s.rind.railLow))

theorem marginShow_eq : marginShow s = updShow (if (s.rind.marginPin || s.rind.railLow) && !s.fbit .RAIL_margin_low 0 then
    (marginShown s).event .RIND_EVT_margin_event 0 else marginShown s) := rfl

theorem marginShow_rind : (marginShow s).rind = s.rind :=
  (marginShow_kept (fr := maskBut [.rind]) (.of_beq (by decide +kernel)) (.refl _ _)).same_of_but (p := .rind) (by decide)

/-- margin_low follows the rail and the pin. -/
theorem marginShow_low : (marginShow s).fget .RAIL_margin_low 0 = bit (s.rind.marginPin || s.rind.railLow) := by
  have shown : (marginShown s).fget .RAIL_margin_low 0 = bit (s.rind.marginPin || s.rind.railLow) :=
    (fget_fset_same _ _ _ _).trans (bit_mod_two _)
  rw [marginShow_eq, updShow_fget (by decide)]
  split
  · rw [event_fget_ne (by decide) (by decide), shown]
  · exact shown

/-- Its rise is an event. -/
theorem marginShow_event (h : (s.rind.marginPin || s.rind.railLow) = true) (hoff : s.fbit .RAIL_margin_low 0 = false) :
    (marginShow s).fget .RIND_EVT_margin_event 0 = 1 := by
  rw [marginShow_eq, h, hoff, updShow_fget (by decide)]
  exact event_fget_same (by decide) (by decide) 0

/-- The rail has been below its margin. -/
def railFallen (s : State) (v : Nat) : State := { s with rind := { s.rind with railLow := true } }.fset .RAIL_vcore_mv 0 v

/-- The rail is back above its margin and the pin is high. -/
def railBack (s : State) (v : Nat) : State :=
  { s with rind := { s.rind with marginPin := false, railLow := false } }.fset .RAIL_vcore_mv 0 v

section
variable {v : Nat}

theorem exec_railMarginLow_rail (h : v + 30 < s.fget .RAIL_target_mv 0) :
    exec (.railMarginLow false v) s = .next (marginShow (railFallen s v)) :=
  congrArg Host.Outcome.next (if_pos h)

theorem exec_railMarginRestore (h : s.fget .RAIL_target_mv 0 ≤ v + 30) :
    exec (.railMarginRestore v) s = .next (marginShow (railBack s v)) :=
  congrArg Host.Outcome.next (if_pos h)

theorem railMarginLow_pin : let t := marginShow { s with rind := { s.rind with marginPin := true } }
    t.fget .RAIL_margin_low 0 = 1 ∧ t.rind.marginPin = true := by
  dsimp only
  rw [marginShow_low, marginShow_rind]
  exact ⟨rfl, rfl⟩

theorem railMarginLow_rail : let t := marginShow (railFallen s v)
    t.fget .RAIL_margin_low 0 = 1 ∧ t.rind.railLow = true ∧
      (s.fbit .RAIL_margin_low 0 = false → t.fget .RIND_EVT_margin_event 0 = 1) := by
  have low : ((railFallen s v).rind.marginPin || (railFallen s v).rind.railLow) = true := Bool.or_true _
  dsimp only
  rw [marginShow_low, marginShow_rind, low]
  refine ⟨rfl, rfl, fun hoff => marginShow_event low ?_⟩
  exact (congrArg (· == 1) (fget_fset_ne (by decide) _ _ _)).trans hoff

theorem railMarginRestore_shows : (marginShow (railBack s v)).fget .RAIL_margin_low 0 = 0 := marginShow_low

/-! ### The AVSBus (R335) -/

/-- No transaction has been made for a time. -/
def avsPaced (s : State) (n : Nat) : Prop := ∀ t0, s.rind.avsAt = some t0 → t0 + n ≤ s.now

theorem avsPaced_iff {n : Nat} : avsPaced s n ↔ (match s.rind.avsAt with | some t => decide (t + n ≤ s.now) | none => true) = true := by
  unfold avsPaced
  cases s.rind.avsAt with
  | none => simp
  | some t => simp

/-- A transaction is made now. -/
def avsAsked (s : State) : State := { s with rind := { s.rind with avsAt := some s.now } }

/-- It is answered. -/
def avsAnswered (s : State) : State := { avsAsked s with rind := { (avsAsked s).rind with avsMissed := 0 } }

theorem exec_avsTargetRevise (hr : rindRuns s = true) (hp : avsPaced s 1000000) (hf : s.fbit .RAIL_avs_fault 0 = false) (hlo : 680 ≤ v)
    (hhi : v ≤ 800) (h5 : v % 5 = 0) (answered : Bool) : exec (.avsTargetRevise v answered) s =
      .next (if answered then (avsAnswered s).fset .RAIL_target_mv 0 v else avsMiss (avsAsked s)) := by
  refine congrArg Host.Outcome.next (if_pos ?_)
  simp only [hr, hf, hlo, hhi, h5, Bool.true_and, Bool.and_true, Bool.not_false, decide_true, beq_self_eq_true]
  exact avsPaced_iff.1 hp

theorem exec_avsRetry (hr : rindRuns s = true) (hp : avsPaced s 10000000) (hf : s.fbit .RAIL_avs_fault 0 = true) (icore : Nat) :
    exec (.avsRetry true v icore) s =
      .next ((((avsAnswered s).fset .RAIL_avs_fault 0 0).fset .RAIL_vcore_mv 0 v).fset .RAIL_icore_a 0 icore) := by
  refine congrArg Host.Outcome.next (if_pos ?_)
  simp only [hr, hf, Bool.true_and, Bool.and_true]
  exact avsPaced_iff.1 hp

theorem avsTargetRevise_target (hhi : v ≤ 800) : ((avsAnswered s).fset .RAIL_target_mv 0 v).fget .RAIL_target_mv 0 = v :=
  (fget_fset_same _ _ _ _).trans (Nat.mod_eq_of_lt (Nat.lt_of_le_of_lt hhi (by decide)))

/-- The third unanswered transaction in a row is a fault. -/
theorem avsMiss_third (h : s.rind.avsMissed = 2) :
    (avsMiss s).fget .RAIL_avs_fault 0 = 1 ∧ (avsMiss s).fget .RIND_EVT_avs_event 0 = 1 ∧
      (avsMiss s).fget .RAIL_target_mv 0 = s.fget .RAIL_target_mv 0 := by
  obtain ⟨w, e, hw⟩ : ∃ w : State, avsMiss s = (w.fset .RAIL_avs_fault 0 1).event .RIND_EVT_avs_event 0 ∧ w.reg = s.reg :=
    ⟨_, if_pos (by rw [h]), rfl⟩
  rw [e]
  refine ⟨?_, event_fget_same (by decide) (by decide) 0, ?_⟩
  · rw [event_fget_ne (by decide) (by decide), fget_fset_same]
    rfl
  · rw [event_fget_ne (by decide) (by decide), fget_fset_ne (by decide), fget_of_reg hw]

theorem avsRetry_clears (icore : Nat) :
    ((((avsAnswered s).fset .RAIL_avs_fault 0 0).fset .RAIL_vcore_mv 0 v).fset .RAIL_icore_a 0 icore).fget .RAIL_avs_fault 0 = 0 :=
  (fget_fset_ne (by decide) _ _ _).trans ((fget_fset_ne (by decide) _ _ _).trans (fget_fset_same _ _ _ _))

end

/-! ### The ends of block resets (R68, R119, R137, R164) -/

section
variable {n : Nat}

/-- A domain that no DOMAIN_HOLD holds opens. -/
theorem domainOpen_opens {pd : Nat} (h : s.rind.holds.contains pd = false) : domainOpen s pd = setHeld s pd false :=
  if_neg (by rw [h]; decide)

theorem setHeld_held (pd : Nat) : (setHeld s pd false).fget .PD_HELD_held pd = 0 := fget_fset_same _ _ _ _

/-- A domain that is on and held by nothing runs, but for an octet of a failed tile. -/
theorem setHeld_runs {pd : Nat} (hpd : 32 ≤ pd) (h : s.fbit .PD_STATE_on pd = true) : (setHeld s pd false).runs pd = true := by
  have on : (setHeld s pd false).fbit .PD_STATE_on pd = true := (congrArg (· == 1) (fget_fset_ne (by decide) _ _ _)).trans h
  have held : (setHeld s pd false).fbit .PD_HELD_held pd = false := by rw [State.fbit, setHeld_held]; rfl
  have tile : (setHeld s pd false).tileFailed pd = false := by rw [State.tileFailed, decide_eq_false (Nat.not_lt.2 hpd), Bool.false_and]
  rw [State.runs, on, held, tile]
  rfl

theorem exec_sliceRestoreDone (hn : n < 16) (h : s.fbit .PD_STATE_on (pdSlice n) = true) :
    exec (.sliceRestoreDone n) s = .next (domainOpen s (pdSlice n)) :=
  congrArg Host.Outcome.next (if_pos ⟨hn, h⟩)

/-! #### Skim banks -/

/-- A flush drops the bank's write-back queue and its ways. -/
theorem bankFlush_skim : ∃ k : Skim, (bankFlush s n).skim.wb = tset [] k.wb (n, 0) [] ∧
    (bankFlush s n).skim.ways = k.ways.filter (fun e => e.1.1 / 8192 ≠ n) := by
  obtain ⟨w, k, e, hwb, hways⟩ : ∃ (w : State) (k : Skim), bankFlush s n = groupClear w (112 + n) ∧
      w.skim.wb = tset [] k.wb (n, 0) [] ∧ w.skim.ways = k.ways.filter (fun e => e.1.1 / 8192 ≠ n) := ⟨_, _, rfl, rfl, rfl⟩
  have stands : (groupClear w (112 + n)).skim = w.skim :=
    (groupClear_kept (fr := maskBut [.skim]) _ (.of_beq (by decide +kernel)) (.refl _ _)).same_of_but (p := .skim) (by decide)
  rw [e, stands]
  exact ⟨k, hwb, hways⟩

/-- A flushed bank is empty. -/
theorem bankFlush_queue : wbQueue (bankFlush s n) n = [] := by
  obtain ⟨k, hwb, -⟩ := bankFlush_skim (s := s) (n := n)
  rw [wbQueue, hwb, tget_tset_same]

theorem bankFlush_ways {a : Key} (h : a.1 / 8192 = n) : tget none (bankFlush s n).skim.ways a = none := by
  obtain ⟨k, -, hways⟩ := bankFlush_skim (s := s) (n := n)
  rw [hways]
  exact tget_filter_drop _ _ _ fun _ => by simp [h]

/-- It resumes, unless its domain is to be switched off. -/
theorem bankFlush_resumes (h : s.rind.switching.contains (pdBank n, false) = false) : bankResume (bankFlush s n) n =
    (bankFlush s n).fset .SKIM_STATUS_bank_held 0 (s.fget .SKIM_STATUS_bank_held 0 - 2 ^ n) := by
  have kept : Kept (maskBut [.rind, .reg .SKIM_STATUS]) s (bankFlush s n) := bankFlush_kept _ (.of_beq (by decide +kernel)) (.refl _ _)
  have rind : (bankFlush s n).rind = s.rind := kept.same_of_but (p := .rind) (by decide)
  have held : (bankFlush s n).fget .SKIM_STATUS_bank_held 0 = s.fget .SKIM_STATUS_bank_held 0 :=
    kept.same_of_but (p := .reg .SKIM_STATUS) (by decide) _ 0 rfl
  rw [bankResume, rind, h, if_neg Bool.false_ne_true, held]

/-- The answer to a RESET_DOMAIN that waits for the flush leaves the bank alone. -/
theorem skimBankFlushDone_kept (hn : n < 16) (hb : hasBit (s.fget .SKIM_STATUS_bank_held 0) n = true) (hi : bankIdleNow s n = true) :
    ∃ t, exec (.skimBankFlushDone n) s = .next t ∧ Kept (maskBut [.skim, .reg .SKIM_STATUS]) (bankResume (bankFlush s n) n) t := by
  refine ⟨_, congrArg Host.Outcome.next (if_pos ⟨hn, hb, hi⟩), ?_⟩
  exact .ite (fun _ => mbxFinish_kept _ _ _ (.of_beq (by decide +kernel)) (.refl _ _)) (fun _ => .refl _ _)

theorem skimBankFlushDone_resumes (hn : n < 16) (hb : hasBit (s.fget .SKIM_STATUS_bank_held 0) n = true) (hi : bankIdleNow s n = true)
    (hs : s.rind.switching.contains (pdBank n, false) = false) : Completes (.skimBankFlushDone n) s fun t =>
      t.fget .SKIM_STATUS_bank_held 0 = (s.fget .SKIM_STATUS_bank_held 0 - 2 ^ n) % 2 ^ Fld.SKIM_STATUS_bank_held.info.width ∧
      wbQueue t n = [] ∧ ∀ k, k.1 / 8192 = n → tget none t.skim.ways k = none := by
  obtain ⟨t, ht, kept⟩ := skimBankFlushDone_kept hn hb hi
  rw [bankFlush_resumes hs] at kept
  have skim : t.skim = (bankFlush s n).skim := kept.same_of_but (p := .skim) (by decide)
  have held := kept.same_of_but (p := .reg .SKIM_STATUS) (by decide) .SKIM_STATUS_bank_held 0 rfl
  refine ⟨t, ht, held.trans (fget_fset_same _ _ _ _), ?_, fun k hk => ?_⟩
  · rw [wbQueue, skim]
    exact bankFlush_queue
  · rw [skim, bankFlush_ways hk]

/-! #### Strainer blocks -/

/-- What a table that is mapped reads where it lists something. -/
theorem tget_tmap_some {α : Type} [DecidableEq α] {f : Key → Option α → Option α} {t : Tab (Option α)} {k : Key} {x y : α}
    (h : tget none t k = some x) (hf : f k (some x) = some y) : tget none (tmap none f t) k = some y := by
  induction t with
  | nil => cases h
  | cons e t ih =>
    obtain ⟨j, v⟩ := e
    rw [tmap, List.map_cons, List.filter_cons, ← tmap]
    rw [tget] at h
    split at h
    · next hj =>
      rw [if_pos (by rw [hj, h, hf]; exact decide_eq_true (Option.some_ne_none y)), tget, if_pos hj, hj, h, hf]
    · next hj =>
      split
      · rw [tget, if_neg hj, ih h]
      · exact ih h

/-- An entry as the reload of a block leaves it. -/
def reloadedEntry (n : Nat) (k : Key) (v : Option StrEntry) : Option StrEntry :=
  if k.1 / 32768 = n then v.map (fun e => { e with data := e.shadowData, care := e.shadowCare }) else v

theorem blockReload_strainer : (blockReload s n).strainer = tmap none (reloadedEntry n) s.strainer := rfl

/-- The entries of a reloaded block match as their shadows say. -/
theorem blockReload_strEntry {a : Nat} {e : StrEntry} (h : s.strEntry a = some e) : (blockReload s n).strEntry a =
    some (if a / 32768 = n then { e with data := e.shadowData, care := e.shadowCare } else e) := by
  rw [State.strEntry, blockReload_strainer]
  exact tget_tmap_some h (apply_ite some _ _ _).symm

theorem exec_strainerBlockReloadDone (hn : n < 8) (h : s.fbit .PD_HELD_held (128 + n) = true) :
    exec (.strainerBlockReloadDone n) s = .next (domainOpen (blockReload s n) (128 + n)) :=
  congrArg Host.Outcome.next (if_pos ⟨hn, h⟩)

/-! #### Clusters -/

/-- The state once a cluster's stores hold good words again. -/
def clusterReloaded (s : State) (n : Nat) : State :=
  let l := s.churn.faulty.filter (fun x => x.1.cluster ≠ n)
  { s with churn := { s.churn with reloading := s.churn.reloading.filter (fun x => x ≠ n), faulty := l } }.fset
    .MCK_STATUS_reload_pending 0 (bit (!l.isEmpty))

theorem exec_clusterReloadDone (h : s.churn.reloading.contains n = true) :
    exec (.clusterReloadDone n) s = .next (domainOpen (clusterReloaded s n) (pdCluster n)) :=
  congrArg Host.Outcome.next (if_pos h)

theorem clusterReloaded_reloading : (clusterReloaded s n).churn.reloading.contains n = false := by
  show (s.churn.reloading.filter (fun x => x ≠ n)).contains n = false
  simp

end

end

end Sys2Proof.Machine

open Sys2Proof Sys2Proof.Machine

/-- Settles O45: each row's one update stands through the shows, the events and the answer that follow it. -/
theorem thermalRailAndRestoreRows : Obligations.ThermalRailAndRestoreRows := by
  refine ⟨fun s l tj i hr hl hv hmax htj hi hat hlow => ?_, fun s v => ⟨⟨_, rfl, railMarginLow_pin⟩, fun h => ?_, fun h => ?_⟩,
    fun s v hr hp hf hlo hhi h5 => ⟨?_, fun hm => ?_⟩, fun s v i hr hp hf => ?_, fun s n hn hon hh => ?_,
    fun s n hn hb hi hs => skimBankFlushDone_resumes hn hb hi hs, fun s n hn hb hh => ?_, fun s n hr hh => ?_⟩
  case refine_1 =>
    refine ⟨_, exec_thermalReport hr hl hv hmax htj hi hat hlow, ?_, ?_, ?_, thermalReport_stage, thermalReport_enters⟩
    · exact (thermalReport_shows rfl (by decide)).trans reported_tj
    · exact (thermalReport_shows rfl (by decide)).trans (reported_hotSensor hi)
    · exact (thermalReport_shows rfl (by decide)).trans reported_invalid
  case refine_2 => exact ⟨_, exec_railMarginLow_rail h, railMarginLow_rail⟩
  case refine_3 => exact ⟨_, exec_railMarginRestore h, railMarginRestore_shows⟩
  case refine_4 => exact ⟨_, exec_avsTargetRevise hr hp hf hlo hhi h5 true, avsTargetRevise_target hhi, rfl⟩
  case refine_5 => exact ⟨_, exec_avsTargetRevise hr hp hf hlo hhi h5 false, avsMiss_third hm⟩
  case refine_6 => exact ⟨_, exec_avsRetry hr hp hf i, avsRetry_clears i, rfl, rfl⟩
  case refine_7 =>
    refine ⟨_, exec_sliceRestoreDone hn hon, ?_⟩
    rw [domainOpen_opens hh]
    exact ⟨setHeld_held _, setHeld_runs (Nat.le_add_right 32 n) hon⟩
  case refine_8 =>
    refine ⟨_, exec_strainerBlockReloadDone hn hb, ?_⟩
    rw [domainOpen_opens (s := blockReload s n) hh]
    exact ⟨setHeld_held _, fun a e he => blockReload_strEntry he⟩
  case refine_9 =>
    refine ⟨_, exec_clusterReloadDone hr, ?_⟩
    rw [domainOpen_opens (s := clusterReloaded s n) hh]
    exact ⟨setHeld_held _, clusterReloaded_reloading, rfl⟩

end

section
/-! SUPPORT. The walkers of the Cellar position by position, and the visits of their records (R86, R87, R90, R135, R142, R143, R301,
R302). -/

namespace Sys2Proof.Machine

-- A proof that evaluates in the kernel waits for every declaration before it, and holds a thread while it waits.
set_option Elab.async false

section
variable {s : State}

/-! ### An event that a run of steps counts once -/

/-- A counter that is left out of the set of what changes stands. -/
theorem Kept.cget {c : Ctr} {t : State} (h : Kept (maskBut [.ctr c]) s t) (i : Nat) : t.cget c i = s.cget c i :=
  h.same_of_but (p := .ctr c) (List.mem_singleton_self _) i

/-- From one state to another an event is counted once; before it and after it its counter stands. -/
def CountedOnce (c : Ctr) (i : Nat) (s t : State) : Prop :=
  ∃ v tenant, Kept (maskBut [.ctr c]) s v ∧ Kept (maskBut [.ctr c]) (v.count c i 1 tenant) t

theorem CountedOnce.cget {c : Ctr} {i : Nat} {t : State} (h : CountedOnce c i s t) : t.cget c i = (s.cget c i + 1) % 2 ^ 48 := by
  obtain ⟨v, tenant, before, after⟩ := h
  rw [after.cget, count_cget_same, before.cget]

theorem CountedOnce.kept {c : Ctr} {i : Nat} {u v : State} (h : CountedOnce c i s u) (k : Kept (maskBut [.ctr c]) u v) :
    CountedOnce c i s v := by
  obtain ⟨w, tenant, before, after⟩ := h
  exact ⟨w, tenant, before, after.trans k⟩

/-! ### What the walkers' own state survives -/

/-- The parts that a walker reads and sets. -/
def walkParts : List Part := [.cellar, .reg .AGE_CTL, .reg .STR_CTL, .reg .WHEY_STATUS, .reg .CELLAR_REKEY]

theorem Kept.walkCellar {t : State} (h : Kept (maskBut walkParts) s t) : t.cellar = s.cellar := h.same_of_but (p := .cellar) (by decide)

theorem Kept.walkFld {t : State} (h : Kept (maskBut walkParts) s t) {f : Fld} (hf : .reg f.reg ∈ walkParts) (i : Nat) :
    t.fget f i = s.fget f i := h.same_of_but hf f i rfl

theorem settle_walk : Kept (maskBut walkParts) s (settle s) := settle_kept (.of_beq (by decide +kernel)) (.refl _ _)

/-- The visits that a walker starts at a position, and what follows from them, leave the walkers alone. -/
theorem visits_walk (w : Walker) (l : List Nat) : Kept (maskBut walkParts) s (settle (l.foldl (fun s n => startVisit s w n) s)) :=
  settle_kept (.of_beq (by decide +kernel)) (.foldl (fun _ n h => startVisit_kept w n (.of_beq (by decide +kernel)) h) (.refl _ _))

@[simp] theorem count_cellar (c : Ctr) (i k : Nat) (tenant : Option Nat) : (s.count c i k tenant).cellar = s.cellar :=
  count_proj s c i k tenant State.cellar fun _ _ => rfl

@[simp] theorem count_skim (c : Ctr) (i k : Nat) (tenant : Option Nat) : (s.count c i k tenant).skim = s.skim :=
  count_proj s c i k tenant State.skim fun _ _ => rfl

@[simp] theorem count_whey (c : Ctr) (i k : Nat) (tenant : Option Nat) : (s.count c i k tenant).whey = s.whey :=
  count_proj s c i k tenant State.whey fun _ _ => rfl

/-! ### One step of a walker -/

section
variable {w : Walker} {act : State → Task → Nat → Option State} {move : State → State}

theorem walkStep_moves (hr : runningTask s (.visit w) = none) (hv : visitsOpen s w = false) : walkStep s w act move = settle (move s) := by
  rw [walkStep, hr]
  dsimp only
  rw [hv, if_neg Bool.false_ne_true]

theorem walkStep_acts {id n : Nat} {x : Task} {t : State} (hr : runningTask s (.visit w) = some (id, x)) (hn : x.recNo = some n)
    (ha : act (endFixed s id x) x n = some t) : walkStep s w act move = settle t := by
  rw [walkStep, hr]
  dsimp only
  rw [hn]
  dsimp only
  rw [ha]

theorem walkStep_waits {id n : Nat} {x : Task} (hr : runningTask s (.visit w) = some (id, x)) (hn : x.recNo = some n)
    (ha : act (endFixed s id x) x n = none) : walkStep s w act move = s := by
  rw [walkStep, hr]
  dsimp only
  rw [hn]
  dsimp only
  rw [ha]

end

section
variable {p : Nat}

/-! ### The sweep (R86, R87) -/

theorem exec_sweepVisit_moves (hp : s.cellar.sweepAt = some p) (hr : runningTask s (.visit .sweep) = none)
    (hv : visitsOpen s .sweep = false) (hlt : p < walkEnd) : exec .sweepVisit s =
      .next (settle ((hintedAt s p).foldl (fun s n => startVisit s .sweep n) { s with cellar := { s.cellar with sweepAt := some (p + 1) } })) := by
  have e : exec .sweepVisit s = execSweepVisit s := rfl
  rw [e, execSweepVisit, hp]
  dsimp only
  rw [walkStep_moves hr hv, if_pos hlt]

theorem exec_sweepVisit_acts {id n : Nat} {x : Task} (hp : s.cellar.sweepAt = some p)
    (hr : runningTask s (.visit .sweep) = some (id, x)) (hn : x.recNo = some n) : exec .sweepVisit s =
      .next (settle (removeDue (endFixed s id x) x n 1 (ageDue (endFixed s id x)))) := by
  have e : exec .sweepVisit s = execSweepVisit s := rfl
  rw [e, execSweepVisit, hp]
  dsimp only
  rw [walkStep_acts hr hn rfl]

theorem sweepVisit_goesOn (hp : s.cellar.sweepAt = some p) (hr : runningTask s (.visit .sweep) = none)
    (hv : visitsOpen s .sweep = false) (hlt : p < walkEnd) : Completes .sweepVisit s fun t => t.cellar.sweepAt = some (p + 1) :=
  ⟨_, exec_sweepVisit_moves hp hr hv hlt, congrArg Cellar.sweepAt (visits_walk .sweep _).walkCellar⟩

/-- The sweep has ended. -/
def sweepDone (s : State) : State := { s with cellar := { s.cellar with sweepAt := none } }.fset .AGE_CTL_sweep_running 0 0

theorem exec_sweepEnd (hp : s.cellar.sweepAt = some p) (hend : walkEnd ≤ p) (hv : visitsOpen s .sweep = false) : exec .sweepEnd s =
    .next (if s.fbit .AGE_CTL_sweep_pending 0 then sweepStart ((sweepDone s).fset .AGE_CTL_sweep_pending 0 0) false else sweepDone s) := by
  have e : exec .sweepEnd s = execSweepEnd s := rfl
  have pending : (sweepDone s).fbit .AGE_CTL_sweep_pending 0 = s.fbit .AGE_CTL_sweep_pending 0 :=
    congrArg (· == 1) (fget_fset_ne (by decide) _ _ _)
  rw [e, execSweepEnd, hp]
  dsimp only
  rw [hv, decide_eq_false (Nat.not_lt.2 hend), if_neg (by decide), ← sweepDone, pending]

theorem sweepDone_stops : (sweepDone s).cellar.sweepAt = none ∧ (sweepDone s).fget .AGE_CTL_sweep_running 0 = 0 :=
  ⟨rfl, fget_fset_same _ _ _ _⟩

/-- A sweep that begins leaves its pending bit alone. -/
theorem sweepStart_pending (h : s.cellar.sweepAt = none) :
    (sweepStart s false).fget .AGE_CTL_sweep_pending 0 = s.fget .AGE_CTL_sweep_pending 0 := by
  rw [sweepStart_false, if_pos (by rw [h]; rfl), fget_fset_ne (by decide), fget_fset_ne (by decide)]
  rfl

theorem sweepEnd_judged (hp : s.cellar.sweepAt = some p) (hend : walkEnd ≤ p) (hv : visitsOpen s .sweep = false) :
    Completes .sweepEnd s fun t =>
      (s.fbit .AGE_CTL_sweep_pending 0 = false → t.cellar.sweepAt = none ∧ t.fget .AGE_CTL_sweep_running 0 = 0) ∧
      (s.fbit .AGE_CTL_sweep_pending 0 = true →
        t.cellar.sweepAt = some 0 ∧ t.fget .AGE_CTL_sweep_running 0 = 1 ∧ t.fget .AGE_CTL_sweep_pending 0 = 0) := by
  refine ⟨_, exec_sweepEnd hp hend hv, fun h => ?_, fun h => ?_⟩
  · rw [h, if_neg Bool.false_ne_true]
    exact sweepDone_stops
  · have idle : ((sweepDone s).fset .AGE_CTL_sweep_pending 0 0).cellar.sweepAt = none := rfl
    obtain ⟨at0, running, -⟩ := sweepStart_begins idle
    rw [h, if_pos rfl]
    exact ⟨at0, running, (sweepStart_pending idle).trans (fget_fset_same _ _ _ _)⟩

/-! ### The purge (R135) -/

/-- The purge has ended. -/
def purgeDone (s : State) : State := { s with cellar := { s.cellar with purgeAt := none } }.fset .STR_CTL_purge_running 0 0

theorem exec_purgeVisit_moves (hp : s.cellar.purgeAt = some p) (hr : runningTask s (.visit .purge) = none)
    (hv : visitsOpen s .purge = false) : exec .purgeVisit s = .next (settle (if p < walkEnd then
      (recordsAt s p).foldl (fun s n => startVisit s .purge n) { s with cellar := { s.cellar with purgeAt := some (p + 1) } }
      else purgeDone s)) := by
  have e : exec .purgeVisit s = execPurgeVisit s := rfl
  rw [e, execPurgeVisit, hp]
  dsimp only
  rw [walkStep_moves hr hv, ← purgeDone]

theorem exec_purgeVisit_acts {id n : Nat} {x : Task} (hp : s.cellar.purgeAt = some p)
    (hr : runningTask s (.visit .purge) = some (id, x)) (hn : x.recNo = some n) : exec .purgeVisit s =
      .next (settle (removeDue (endFixed s id x) x n 4 (purgeDue (endFixed s id x).cellar.purgeAddr))) := by
  have e : exec .purgeVisit s = execPurgeVisit s := rfl
  rw [e, execPurgeVisit, hp]
  dsimp only
  rw [walkStep_acts hr hn rfl]

theorem purgeVisit_goesOn (hp : s.cellar.purgeAt = some p) (hr : runningTask s (.visit .purge) = none)
    (hv : visitsOpen s .purge = false) : Completes .purgeVisit s fun t =>
      (p < walkEnd → t.cellar.purgeAt = some (p + 1)) ∧
      (walkEnd ≤ p → t.cellar.purgeAt = none ∧ t.fget .STR_CTL_purge_running 0 = 0) := by
  refine ⟨_, exec_purgeVisit_moves hp hr hv, fun hlt => ?_, fun hend => ?_⟩
  · rw [if_pos hlt, (visits_walk .purge _).walkCellar]
  · rw [if_neg (Nat.not_lt.2 hend), settle_walk.walkCellar, settle_walk.walkFld (by decide)]
    exact ⟨rfl, fget_fset_same _ _ _ _⟩

/-! ### The periodic walk (R301, R302) -/

theorem exec_periodicVisit_moves (hp : s.cellar.periodicAt = some p) (hr : runningTask s (.visit .periodic) = none)
    (hv : visitsOpen s .periodic = false) : exec .periodicVisit s = .next (settle (if p < walkEnd then
      (recordsAt s p).foldl (fun s n => startVisit s .periodic n) { s with cellar := { s.cellar with periodicAt := some (p + 1) } }
      else periodicEnd s)) := by
  have e : exec .periodicVisit s = execPeriodicVisit s := rfl
  rw [e, execPeriodicVisit, hp]
  dsimp only
  rw [walkStep_moves hr hv]

theorem periodicEnd_shows : (periodicEnd s).fget .WHEY_STATUS_periodic_pending 0 = 0 ∧
    (periodicEnd s).fget .WHEY_STATUS_periodic_running 0 = bit (s.fbit .WHEY_STATUS_periodic_pending 0) :=
  ⟨(fget_fset_ne (by decide) _ _ _).trans (fget_fset_same _ _ _ _), (fget_fset_same _ _ _ _).trans (bit_mod_two _)⟩

theorem periodicVisit_goesOn (hp : s.cellar.periodicAt = some p) (hr : runningTask s (.visit .periodic) = none)
    (hv : visitsOpen s .periodic = false) : Completes .periodicVisit s fun t =>
      (p < walkEnd → t.cellar.periodicAt = some (p + 1)) ∧
      (walkEnd ≤ p → t.fget .WHEY_STATUS_periodic_pending 0 = 0 ∧
        t.fget .WHEY_STATUS_periodic_running 0 = bit (s.fbit .WHEY_STATUS_periodic_pending 0)) := by
  refine ⟨_, exec_periodicVisit_moves hp hr hv, fun hlt => ?_, fun hend => ?_⟩
  · rw [if_pos hlt, (visits_walk .periodic _).walkCellar]
  · rw [if_neg (Nat.not_lt.2 hend), settle_walk.walkFld (by decide), settle_walk.walkFld (by decide)]
    exact periodicEnd_shows

/-- The end of a visit's task moves no record's authoritative copy. -/
theorem authCopy_congr {t : State} (hc : t.cellar = s.cellar) (hk : t.skim = s.skim) (n : Nat) : authCopy t n = authCopy s n := by
  simp only [authCopy, findWay, findBuffer, findWb, State.record, hc, hk]

theorem endFixed_authCopy (id : Nat) (x : Task) (n : Nat) : authCopy (endFixed s id x) n = authCopy s n :=
  authCopy_congr (count_cellar _ _ _ _) (count_skim _ _ _ _) n

theorem endFixed_whey (id : Nat) (x : Task) : (endFixed s id x).whey = s.whey := count_whey _ _ _ _

/-- The FLOW_PERIODIC record of a record's words is emitted and counted. -/
def periodicEmit (s : State) (w : List Nat) : State :=
  (wheyEmit s 3 (flowBody s w 7) (recLastSeen w) (recTenant w)).count .periodicEmitted 0 1 (some (recTenant w))

section
variable {id n : Nat} {x : Task}

theorem exec_periodicVisit_emits {w : List Nat} (hp : s.cellar.periodicAt = some p)
    (hr : runningTask s (.visit .periodic) = some (id, x)) (hn : x.recNo = some n) (hw : authCopy s n = some w)
    (hrep : recReportPeriodic w = true) (hroom : s.whey.length < 32768) :
    exec .periodicVisit s = .next (settle (periodicEmit (endFixed s id x) w)) := by
  have e : exec .periodicVisit s = execPeriodicVisit s := rfl
  rw [e, execPeriodicVisit, hp]
  dsimp only
  rw [walkStep_acts hr hn]
  rw [endFixed_whey, if_neg (Nat.not_le.2 hroom), endFixed_authCopy, hw]
  dsimp only
  rw [if_pos hrep, ← periodicEmit]

theorem exec_periodicVisit_waits (hp : s.cellar.periodicAt = some p) (hr : runningTask s (.visit .periodic) = some (id, x))
    (hn : x.recNo = some n) (hfull : 32768 ≤ s.whey.length) : exec .periodicVisit s = .next s := by
  have e : exec .periodicVisit s = execPeriodicVisit s := rfl
  rw [e, execPeriodicVisit, hp]
  dsimp only
  rw [walkStep_waits hr hn]
  rw [endFixed_whey, if_pos hfull]

theorem periodicEmit_counted (w : List Nat) : CountedOnce .periodicEmitted 0 s (settle (periodicEmit (endFixed s id x) w)) :=
  ⟨_, _, wheyEmit_kept _ _ _ _ (.of_beq (by decide +kernel)) (endFixed_kept id x (.of_beq (by decide +kernel)) (.refl _ _)),
    settle_kept (.of_beq (by decide +kernel)) (.refl _ _)⟩

end

/-! ### The migration of a rekey (R90) -/

/-- The migration leaves a position. -/
def migrateNext (s : State) (p : Nat) : State :=
  ({ s with cellar := { s.cellar with migrateAt := some (p + 1) } }.count .migrationBytes 0 64).fset .CELLAR_REKEY_rekey_bucket 0
    (min (p + 1) 33554431)

theorem exec_rekeyMigrateVisit_moves (hp : s.cellar.migrateAt = some p) (hr : runningTask s (.visit .migrate) = none)
    (hv : visitsOpen s .migrate = false) (hlt : p < walkEnd) : exec .rekeyMigrateVisit s = .next (settle (if (unmoved s p).isEmpty then
      migrateNext s p else ((unmoved s p).filter (fun n => !inTeardown s n)).foldl (fun s n => startVisit s .migrate n) s)) := by
  have e : exec .rekeyMigrateVisit s = execRekeyMigrateVisit s := rfl
  rw [e, execRekeyMigrateVisit, hp]
  dsimp only
  rw [walkStep_moves hr hv, if_neg (Nat.not_le.2 hlt), ← migrateNext]

theorem migrateNext_shows : (migrateNext s p).cellar.migrateAt = some (p + 1) ∧
    (migrateNext s p).fget .CELLAR_REKEY_rekey_bucket 0 = min (p + 1) 33554431 := by
  refine ⟨?_, (fget_fset_same _ _ _ _).trans (Nat.mod_eq_of_lt (Nat.lt_of_le_of_lt (Nat.min_le_right _ _) (by decide)))⟩
  rw [migrateNext, fset_cellar, count_cellar]

theorem rekeyMigrateVisit_goesOn (hp : s.cellar.migrateAt = some p) (hr : runningTask s (.visit .migrate) = none)
    (hv : visitsOpen s .migrate = false) (hlt : p < walkEnd) : Completes .rekeyMigrateVisit s fun t =>
      (unmoved s p = [] → t.cellar.migrateAt = some (p + 1) ∧ t.fget .CELLAR_REKEY_rekey_bucket 0 = min (p + 1) 33554431) ∧
      (unmoved s p ≠ [] → t.cellar.migrateAt = some p) := by
  refine ⟨_, exec_rekeyMigrateVisit_moves hp hr hv hlt, fun hnone => ?_, fun hsome => ?_⟩
  · rw [if_pos (List.isEmpty_iff.2 hnone), settle_walk.walkCellar, settle_walk.walkFld (by decide)]
    exact migrateNext_shows
  · rw [if_neg (mt List.isEmpty_iff.1 hsome), (visits_walk .migrate _).walkCellar, hp]

/-- Every slice has moved to H_new. -/
def rekeySwitched (s : State) (k : Nat × Nat) : State :=
  { s with cellar := { s.cellar with kFlow := k, kNew := none, migrateAt := none, switchPlace := some s.nextPlace } }

theorem exec_rekeySwitch {k : Nat × Nat} (hp : s.cellar.migrateAt = some p) (hk : s.cellar.kNew = some k) (hend : walkEnd ≤ p)
    (hv : visitsOpen s .migrate = false) : exec .rekeySwitch s = .next (rekeySettle (rekeySwitched s k)) := by
  have e : exec .rekeySwitch s = execRekeySwitch s := rfl
  rw [e, execRekeySwitch, hp, hk]
  dsimp only
  rw [hv, decide_eq_false (Nat.not_lt.2 hend), if_neg (by decide), ← rekeySwitched]

/-- The end of a rekey clears the place of the switch alone. -/
theorem rekeySettle_cellar : ∃ q, (rekeySettle s).cellar = { s.cellar with switchPlace := q } := by
  unfold rekeySettle
  split
  · exact ⟨s.cellar.switchPlace, rfl⟩
  · split
    · exact ⟨s.cellar.switchPlace, rfl⟩
    · exact ⟨none, rfl⟩

theorem rekeySwitch_newKey {k : Nat × Nat} (hp : s.cellar.migrateAt = some p) (hk : s.cellar.kNew = some k) (hend : walkEnd ≤ p)
    (hv : visitsOpen s .migrate = false) :
    Completes .rekeySwitch s fun t => t.cellar.kFlow = k ∧ t.cellar.kNew = none ∧ t.cellar.migrateAt = none := by
  obtain ⟨q, hq⟩ := rekeySettle_cellar (s := rekeySwitched s k)
  refine ⟨_, exec_rekeySwitch hp hk hend hv, ?_⟩
  beta_reduce
  rw [hq]
  exact ⟨rfl, rfl, rfl⟩

end

end

end Sys2Proof.Machine

open Sys2Proof Sys2Proof.Machine

/-- Settles O15: a walker with no visit open moves, and a visit that runs acts on its record; what either starts leaves the walkers'
own state alone. -/
theorem walkersVisitEveryPosition : Obligations.WalkersVisitEveryPosition :=
  ⟨fun _ _ hp hr hv hlt => sweepVisit_goesOn hp hr hv hlt,
    fun _ _ _ _ _ hp hr hn => exec_sweepVisit_acts hp hr hn,
    fun _ _ hp hend hv => sweepEnd_judged hp hend hv,
    fun _ _ hp hr hv => purgeVisit_goesOn hp hr hv,
    fun _ _ _ _ _ hp hr hn => exec_purgeVisit_acts hp hr hn,
    fun _ _ hp hr hv => periodicVisit_goesOn hp hr hv,
    fun _ _ _ _ _ _ hp hr hn hw hrep => ⟨fun hroom => ⟨_, exec_periodicVisit_emits hp hr hn hw hrep hroom, (periodicEmit_counted _).cget⟩,
      exec_periodicVisit_waits hp hr hn⟩,
    fun _ _ hp hr hv hlt => rekeyMigrateVisit_goesOn hp hr hv hlt,
    fun _ _ _ hp hk hend hv => rekeySwitch_newKey hp hk hend hv⟩

end

section
/-! SUPPORT. Commits that waited, teardowns, and the errors of Churn's stores and contexts (R84, R140, R150, R153, R160, R161, R163). -/

namespace Sys2Proof.Machine

-- A proof that evaluates in the kernel waits for every declaration before it, and holds a thread while it waits.
set_option Elab.async false

section
variable {s : State} {id : Nat} {t : Task} {fr : Nat}

/-! ### Commits that waited (R150, R153, R158) -/

/-- The record's commit and the first rows of R154 come before the task's own event. -/
theorem commitRows_kept (id : Nat) (t : Task) (final : Bool) (hm : Within (maskBut [.ctr .commit, .ctr .checkpoint]) fr) :
    Kept fr s (applyRows (commitRecord s id t final) t) :=
  applyRows_kept t (.trans (by decide +kernel) hm) (commitRecord_kept id t final (.trans (by decide +kernel) hm) (.refl _ _))

theorem checkpointTask_counted (hcom : t.committed = false) {n : Nat} (hn : t.pos.cluster = some n) :
    CountedOnce .checkpoint n s (checkpointTask s id t) := by
  have rows : Kept (maskBut [.ctr .checkpoint]) s (applyRows (commitRecord s id t false) t) :=
    commitRows_kept id t false (.of_beq (by decide +kernel))
  refine ⟨_, t.ten, engineSettle_kept n t.ctx.issues false t.ten (.of_beq (by decide +kernel)) rows, ?_⟩
  unfold checkpointTask
  dsimp only
  rw [hn, hcom, if_neg Bool.false_ne_true, Option.getD_some]
  exact settle_kept (.of_beq (by decide +kernel)) (State.setTask_kept _ _ (.of_beq (by decide +kernel)) (.refl _ _))

theorem passCommit_counted {n : Nat} (hn : t.pos.cluster = some n) : CountedOnce .commit n s (passCommit s id t).1 := by
  refine ⟨_, t.ten, commitRows_kept id t true (.of_beq (by decide +kernel)), ?_⟩
  unfold passCommit
  dsimp only
  rw [hn, Option.getD_some]
  exact State.setTask_kept _ _ (.of_beq (by decide +kernel)) (.refl _ _)

/-- The frame of a task that has ended is handed to release. -/
def frameHanded (s : State) (t : Task) : State :=
  match t.frame with
  | some f => handFrame s f t.ctx.posted
  | none => s

theorem frameHanded_commit {u : State} (h : Kept (maskBut [.ctr .commit]) s u) : Kept (maskBut [.ctr .commit]) s (frameHanded u t) := by
  unfold frameHanded
  split
  · exact handFrame_kept _ _ (.of_beq (by decide +kernel)) h
  · exact h

/-- A packet task or a learn task that ends with REMOVE begins the removal of its record. -/
def removalBegun (s : State) (id : Nat) (t : Task) (remove : Bool) : State :=
  match t.recNo, t.kind with
  | some n, .packet => if remove then beginRemoval s id t n else s
  | some n, .learn => if remove then beginRemoval s id t n else s
  | _, _ => s

theorem removalBegun_commit {u : State} (remove : Bool) (h : Kept (maskBut [.ctr .commit]) s u) :
    Kept (maskBut [.ctr .commit]) s (removalBegun u id t remove) := by
  unfold removalBegun
  split
  · exact .ite (fun _ => beginRemoval_kept _ _ _ (.of_beq (by decide +kernel)) h) fun _ => h
  · exact .ite (fun _ => beginRemoval_kept _ _ _ (.of_beq (by decide +kernel)) h) fun _ => h
  · exact h

/-- A task that ends has committed and settled the issue slots of its cluster. -/
def taskSpent (s : State) (id : Nat) (t : Task) (n : Nat) : State :=
  engineSettle ((applyRows (commitRecord s id t true) t).count .commit n 1 t.ten) n t.ctx.issues false t.ten

section
variable {n : Nat} (remove : Bool) (hcom : t.committed = false) (hn : t.pos.cluster = some n)
include hcom hn

/-- A teardown that ends is due its removal. -/
theorem endTask_torn {cause : Nat} (hk : t.kind = .teardown cause) : endTask s id t remove =
    settle (((taskSpent s id t n).setTask id (some { t with pos := .torn, ctx := {} })).count .teardownRun 0 1 t.ten) := by
  unfold endTask
  dsimp only
  rw [hn, hcom, if_neg Bool.false_ne_true, Option.getD_some, ← taskSpent, hk]

theorem endTask_final (hk : ∀ cause, t.kind ≠ .teardown cause) : endTask s id t remove =
    settle (removalBegun (frameHanded ((taskSpent s id t n).setTask id none) t) id t remove) := by
  unfold endTask
  dsimp only
  rw [hn, hcom, if_neg Bool.false_ne_true, Option.getD_some, ← taskSpent]
  split
  · next cause h => exact absurd h (hk cause)
  · rfl

theorem endTask_counted : CountedOnce .commit n s (endTask s id t remove) := by
  refine ⟨_, t.ten, commitRows_kept id t true (.of_beq (by decide +kernel)), ?_⟩
  have spent : Kept (maskBut [.ctr .commit]) _ (taskSpent s id t n) :=
    engineSettle_kept n t.ctx.issues false t.ten (.of_beq (by decide +kernel)) (.refl _ _)
  by_cases hk : ∃ cause, t.kind = .teardown cause
  · obtain ⟨cause, hk⟩ := hk
    rw [endTask_torn remove hcom hn hk]
    exact settle_kept (.of_beq (by decide +kernel)) (State.count_kept _ _ _ _ (.of_beq (by decide +kernel))
      (State.setTask_kept _ _ (.of_beq (by decide +kernel)) spent) (.of_beq (by decide +kernel)))
  · rw [endTask_final remove hcom hn (not_exists.1 hk)]
    exact settle_kept (.of_beq (by decide +kernel)) (removalBegun_commit remove (frameHanded_commit
      (State.setTask_kept id none (.of_beq (by decide +kernel)) spent)))

end

theorem finishCommit_checkpoint {seq : Nat} (h8 : seq = 0x08) (hcom : t.committed = false) {n : Nat} (hn : t.pos.cluster = some n) :
    CountedOnce .checkpoint n s (finishCommit s id t seq) := by
  unfold finishCommit
  split
  · split
    · next hp =>
      rw [hp] at hn
      refine checkpointTask_counted ?_ ?_
      · exact hcom
      · exact hn
    · exact checkpointTask_counted hcom hn
  · cases h8
  · contradiction

/-- A commit is counted where it is made; what the task does next counts none. -/
theorem finishCommit_commit {seq : Nat} (h8 : seq ≠ 0x08) (hcom : t.committed = false) {n : Nat} (hn : t.pos.cluster = some n) :
    CountedOnce .commit n s (finishCommit s id t seq) := by
  unfold finishCommit
  split
  · exact absurd rfl h8
  · refine (passCommit_counted (id := id) hn).kept ?_
    dsimp only
    split
    · exact settle_kept (.of_beq (by decide +kernel)) (readyTask_kept _ _ (.of_beq (by decide +kernel))
        (engineSettle_kept _ _ _ _ (.of_beq (by decide +kernel)) (.refl _ _)))
    · exact settle_kept (.of_beq (by decide +kernel)) (State.setTask_kept _ _ (.of_beq (by decide +kernel)) (.refl _ _))
    · exact settle_kept (.of_beq (by decide +kernel)) (.refl _ _)
  · exact endTask_counted _ hcom hn

theorem exec_taskCommit {seq : Nat} (ht : s.task? id = some t) (hd : predsDone s id t = true)
    (hp : (∃ c, t.pos = .waiting c seq) ∨ ∃ n, t.pos = .buffered n seq) : exec (.taskCommit id) s = .next (finishCommit s id t seq) := by
  have e : exec (.taskCommit id) s = execTaskCommit id s := rfl
  rw [e, execTaskCommit, ht]
  dsimp only
  rw [hd, if_neg Bool.noConfusion]
  obtain ⟨c, h⟩ | ⟨n, h⟩ := hp
  · rw [h]
  · rw [h]

/-! ### Teardowns (R84) -/

theorem freeRecord_record (n : Nat) : (freeRecord s n).record n = none := by
  unfold freeRecord
  split
  · assumption
  · exact setRecord_same _ _ _

theorem record_congr {u : State} (h : u.cellar = s.cellar) (n : Nat) : u.record n = s.record n :=
  congrArg (fun c : Cellar => tget none c.recs (n, 0)) h

theorem removeRecord_record (n cause : Nat) : (removeRecord s id t n cause).record n = none := by
  obtain ⟨v, hv⟩ : ∃ v, Kept (maskBut [.cellar]) (freeRecord v n) (removeRecord s id t n cause) :=
    ⟨_, settle_kept (.of_beq (by decide +kernel)) (.foldl (fun _ e h => loseTask_kept e.1 e.2 (.of_beq (by decide +kernel)) h)
      (State.setTask_kept _ _ (.of_beq (by decide +kernel)) (orphan_kept n (.of_beq (by decide +kernel)) (.refl _ _))))⟩
  exact (record_congr (hv.same_of_but (p := .cellar) (by decide)) n).trans (freeRecord_record n)

/-- The answer to the command of a teardown leaves the Cellar alone. -/
theorem exec_teardown {cause n : Nat} (ht : s.task? id = some t) (hk : t.kind = .teardown cause) (hp : t.pos = .torn)
    (hn : t.recNo = some n) : ∃ u, exec (.teardown id) s = .next u ∧ Kept (maskBut [.cellar]) (removeRecord s id t n cause) u := by
  have e : exec (.teardown id) s = execTeardown id s := rfl
  rw [e, execTeardown, ht]
  dsimp only
  rw [hk, hp, hn]
  dsimp only
  refine ⟨_, rfl, ?_⟩
  split
  · split
    · exact cmdComplete_kept _ _ _ _ _ (.of_beq (by decide +kernel))
        (State.count_kept _ _ _ _ (.of_beq (by decide +kernel)) (.refl _ _) (.of_beq (by decide +kernel)))
    · exact .refl _ _
  · exact .refl _ _

theorem teardown_removes {cause n : Nat} (ht : s.task? id = some t) (hk : t.kind = .teardown cause) (hp : t.pos = .torn)
    (hn : t.recNo = some n) : Completes (.teardown id) s fun u => u.record n = none := by
  obtain ⟨u, hu, kept⟩ := exec_teardown ht hk hp hn
  exact ⟨u, hu, (record_congr (kept.same_of_but (p := .cellar) (by decide)) n).trans (removeRecord_record n cause)⟩

/-! ### The errors of a store's words (R161) -/

theorem storeWordRewrite_good (w : StoreAddr) : Completes (.storeWordRewrite w) s fun u =>
    u.churn.faulty = s.churn.faulty.filter (fun x => x.1 != w) ∧
    u.fget .MCK_STATUS_reload_pending 0 = bit (!u.churn.faulty.isEmpty) :=
  ⟨_, rfl, rfl, (fget_fset_same _ _ _ _).trans (bit_mod_two _)⟩

/-- The faulty words not yet rewritten, and the errors at each address. -/
def State.storeErrors (s : State) : List (StoreAddr × List Nat) × List (StoreAddr × Nat) := (s.churn.faulty, s.churn.repeats)

theorem Kept.storeErrors {u : State} (h : Kept (maskBut [.churn]) s u) : u.storeErrors = s.storeErrors :=
  congrArg (fun c : Churn => (c.faulty, c.repeats)) (h.same_of_but (p := .churn) (by decide))

theorem foldl_storeErrors {α : Type} {f : State → α → State} (hf : ∀ s x, (f s x).storeErrors = s.storeErrors) (l : List α) (s : State) :
    (l.foldl f s).storeErrors = s.storeErrors :=
  List.foldlRecOn l f (motive := fun u : State => u.storeErrors = s.storeErrors) rfl fun u h x _ => (hf u x).trans h

@[simp] theorem setTask_storeErrors (x : Option Task) : (s.setTask id x).storeErrors = s.storeErrors := rfl

@[simp] theorem readyTask_storeErrors : (readyTask s id t).storeErrors = s.storeErrors := rfl

@[simp] theorem placeTask_storeErrors : (placeTask s id t).storeErrors = s.storeErrors := by
  unfold placeTask
  split
  · exact setTask_storeErrors _
  · exact readyTask_storeErrors

@[simp] theorem newTask_storeErrors : (newTask s t).storeErrors = s.storeErrors := placeTask_storeErrors

theorem wake_storeErrors : (wake s).storeErrors = s.storeErrors := foldl_storeErrors (fun _ _ => readyTask_storeErrors) _ _

theorem startTask_storeErrors (w : Waiter) (n : Nat) : (startTask s w n).storeErrors = s.storeErrors := by
  cases w with
  | frame f => exact newTask_storeErrors.trans (State.modFrame_kept _ _ (.of_beq (by decide +kernel)) (.refl _ _)).storeErrors
  | cmd set i =>
    unfold startTask
    dsimp only
    split
    · rfl
    · exact newTask_storeErrors.trans (workSet_kept _ (.of_beq (by decide +kernel)) (.refl _ _)).storeErrors

theorem startAll_storeErrors (l : List Waiter) (n : Nat) : (startAll s l n).storeErrors = s.storeErrors :=
  foldl_storeErrors (fun _ w => startTask_storeErrors w n) _ _

theorem tryFill_storeErrors {k : Key} {m : Miss} {u : State} (h : tryFill s k m = some u) : u.storeErrors = s.storeErrors := by
  unfold tryFill at h
  split at h
  · cases h
  · next n words dirty _ =>
    obtain ⟨v, hv, rfl⟩ := Option.map_eq_some_iff.1 h
    have filled : Kept (maskBut [.churn]) s v := fillWay_kept n words dirty (.of_beq (by decide +kernel)) (.refl _ _) v hv
    exact (startAll_storeErrors _ _).trans (freeEntry_kept k (.of_beq (by decide +kernel)) filled).storeErrors

theorem tryFill_getD_storeErrors {k : Key} {m : Miss} {u : State} (h : u.storeErrors = s.storeErrors) :
    ((tryFill s k m).getD u).storeErrors = s.storeErrors := by
  cases hf : tryFill s k m with
  | none => exact h
  | some v => exact tryFill_storeErrors hf

theorem retryEntry_storeErrors (k : Key) : (retryEntry s k).storeErrors = s.storeErrors := by
  unfold retryEntry
  split
  · rfl
  · next m _ =>
    split
    · exact tryFill_getD_storeErrors rfl
    · split_ifs
      · rfl
      · rfl
      · exact (wbPush_kept _ _ (.of_beq (by decide +kernel)) (freeEntry_kept k (.of_beq (by decide +kernel)) (.refl _ _))).storeErrors
      · exact (freeEntry_kept k (.of_beq (by decide +kernel)) (.refl _ _)).storeErrors
      · exact tryFill_getD_storeErrors rfl
    · rfl

theorem settle_storeErrors : (settle s).storeErrors = s.storeErrors :=
  wake_storeErrors.trans (foldl_storeErrors (fun _ k => retryEntry_storeErrors k) _ _)

theorem natFree_storeErrors (p port tenant : Nat) : (natFree s p port tenant).storeErrors = s.storeErrors :=
  (natCount_kept _ _ _ (.of_beq (by decide +kernel)) (.refl _ _)).storeErrors

theorem loseSegment_storeErrors : (loseSegment s t).storeErrors = s.storeErrors := by
  have undone : (natUndo s t (t.pos.cluster.getD 0)).storeErrors = s.storeErrors := foldl_storeErrors (fun _ _ =>
    (State.count_kept _ _ _ _ (.of_beq (by decide +kernel)) (.refl _ _) (.of_beq (by decide +kernel))).storeErrors.trans
      (natFree_storeErrors _ _ _)) _ _
  exact (engineSettle_kept _ _ _ _ (.of_beq (by decide +kernel)) (.refl _ _)).storeErrors.trans undone

/-- The frame of a task that an error has ended is dropped or punted. -/
def badFrame (s : State) (t : Task) (reason : Nat) : State :=
  match t.frame with
  | some f =>
    let u := slotSettle s f (reason == 0x20)
    if u.fbit .CHURN_CFG_mck_action 0 then dropFrame u f reason none else raisePunt u f reason none
  | none => s

theorem badFrame_churn (reason : Nat) : Kept (maskBut [.churn]) s (badFrame s t reason) := by
  unfold badFrame
  split
  · next f _ =>
    have slots := slotSettle_kept f (reason == 0x20) (fr := maskBut [.churn]) (.of_beq (by decide +kernel)) (.refl _ s)
    exact .ite (fun _ => dropFrame_kept _ _ _ (.of_beq (by decide +kernel)) slots)
      fun _ => raisePunt_kept _ _ _ (.of_beq (by decide +kernel)) slots
  · exact .refl _ _

/-- The command of such a task completes with its reason. -/
def badCommand (s : State) (t : Task) (reason : Nat) : State :=
  match t.cmd with
  | some (set, i) => match workOf s set 0 i with
    | some w => cmdComplete s w 7 reason 0 0
    | none => s
  | none => s

theorem badCommand_churn (reason : Nat) : Kept (maskBut [.churn]) s (badCommand s t reason) := by
  unfold badCommand
  split
  · split
    · exact cmdComplete_kept _ _ _ _ _ (.of_beq (by decide +kernel)) (.refl _ _)
    · exact .refl _ _
  · exact .refl _ _

theorem endBad_eq (reason : Nat) : endBad s id t reason =
    settle (badCommand (badFrame ((loseSegment s t).setTask id none) t reason) t reason) := rfl

theorem endBad_storeErrors (reason : Nat) : (endBad s id t reason).storeErrors = s.storeErrors := by
  rw [endBad_eq, settle_storeErrors, (badCommand_churn reason).storeErrors, (badFrame_churn reason).storeErrors, setTask_storeErrors,
    loseSegment_storeErrors]

/-- A machine check ends its task before the word's errors are judged. -/
def machineChecked (s : State) (id : Nat) (t : Task) (a : StoreAddr) : State :=
  ((endBad s id t 0x20).count .mckEvent a.cluster 1 t.ten).event .MCK_STATUS_mck_event 0

theorem machineChecked_storeErrors (a : StoreAddr) : (machineChecked s id t a).storeErrors = s.storeErrors := by
  refine Eq.trans (Kept.storeErrors ?_) (endBad_storeErrors (id := id) (t := t) 0x20)
  exact State.event_kept _ _ (.of_beq (by decide +kernel))
    (State.count_kept _ _ _ _ (.of_beq (by decide +kernel)) (.refl _ _) (.of_beq (by decide +kernel))) (.of_beq (by decide +kernel))

/-- The third error at an address quarantines its cluster. -/
theorem machineCheck_third {a : StoreAddr} (e : Nat) (hnew : s.churn.faulty.any (fun x => x.1 == a) = false) (h2 : errorsOf s a = 2) :
    ∃ v, machineCheck s id t a e = quarantine v a.cluster a.bank a.store a.addr := by
  obtain ⟨hf, hr⟩ := Prod.mk.inj (machineChecked_storeErrors (s := s) (id := id) (t := t) a)
  have new : (machineChecked s id t a).churn.faulty.any (fun x => x.1 == a) = false := by rw [hf, hnew]
  have third : errorsOf (machineChecked s id t a) a = 2 := by rw [errorsOf, hr, ← errorsOf, h2]
  unfold machineCheck
  dsimp only
  rw [← machineChecked, new, third, if_neg Bool.false_ne_true, if_pos (Nat.le_refl 3)]
  exact ⟨_, rfl⟩

/-! ### Quarantine (R161) -/

/-- What shows that a cluster is quarantined. -/
def quarantineShown (s : State) (c : Nat) : State :=
  (((emptyCluster s c).fset .CLUSTER_QUARANTINE_bits c 1).event .MCK_STATUS_quarantine_event 0).fset .RESET_CAUSE_domain_mck 0 1

/-- A quarantined cluster, before the log of its event: the Rind is to switch its domain off. -/
def quarantined (s : State) (c : Nat) : State :=
  let u := quarantineShown s c
  { u with rind := { u.rind with switching := u.rind.switching.filter (fun x => x.1 ≠ pdCluster c) ++ [(pdCluster c, false)] } }

theorem quarantine_eq (c bank store addr : Nat) : quarantine s c bank store addr = mckLog (quarantined s c) c store bank addr 3 2 := rfl

/-- The parts that show a quarantine. -/
def quarantineParts : List Part := [.rind, .reg .CLUSTER_QUARANTINE, .reg .MCK_STATUS, .reg .RESET_CAUSE]

theorem quarantine_kept_shows (c bank store addr : Nat) :
    Kept (maskBut quarantineParts) (quarantined s c) (quarantine s c bank store addr) :=
  mckLog_kept _ _ _ _ _ _ (.of_beq (by decide +kernel)) (.refl _ _)

theorem quarantineShown_shows (c : Nat) : (quarantineShown s c).fget .CLUSTER_QUARANTINE_bits c = 1 ∧
    (quarantineShown s c).fget .MCK_STATUS_quarantine_event 0 = 1 ∧ (quarantineShown s c).fget .RESET_CAUSE_domain_mck 0 = 1 := by
  refine ⟨?_, ?_, fget_fset_same _ _ _ _⟩
  · rw [quarantineShown, fget_fset_ne (by decide), event_fget_ne (by decide) (by decide), fget_fset_same]
    rfl
  · rw [quarantineShown, fget_fset_ne (by decide), event_fget_same (by decide) (by decide)]

theorem quarantined_switching (c : Nat) : (pdCluster c, false) ∈ (quarantined s c).rind.switching :=
  List.mem_append_right _ (List.mem_singleton_self _)

theorem clusterOpen_of_quarantined {c : Nat} (h : s.fget .CLUSTER_QUARANTINE_bits c = 1) (l : Nat) : clusterOpen s c l = false := by
  rw [clusterOpen, State.fbit, h]
  simp

theorem quarantine_acts (c bank store addr : Nat) : let u := quarantine s c bank store addr
    u.fget .CLUSTER_QUARANTINE_bits c = 1 ∧ u.fget .MCK_STATUS_quarantine_event 0 = 1 ∧ u.fget .RESET_CAUSE_domain_mck 0 = 1 ∧
      (pdCluster c, false) ∈ u.rind.switching ∧ ∀ l, clusterOpen u c l = false := by
  have kept := quarantine_kept_shows (s := s) c bank store addr
  have shows {f : Fld} (hf : .reg f.reg ∈ quarantineParts) (i : Nat) : (quarantine s c bank store addr).fget f i = (quarantineShown s c).fget f i :=
    kept.same_of_but hf f i rfl
  obtain ⟨hbit, hevent, hcause⟩ := quarantineShown_shows (s := s) c
  have closed := (shows (f := .CLUSTER_QUARANTINE_bits) (by decide) c).trans hbit
  refine ⟨closed, (shows (by decide) 0).trans hevent, (shows (by decide) 0).trans hcause, ?_, clusterOpen_of_quarantined closed⟩
  rw [kept.same_of_but (p := .rind) (by decide)]
  exact quarantined_switching c

/-! ### Context errors (R140) -/

theorem contextEccError_counted {c : CtxId} (h : taskAt s c = some (id, t)) : Completes (.contextEccError c) s fun u =>
    u.cget .ctxEccReplay c.cluster = (s.cget .ctxEccReplay c.cluster + 1) % 2 ^ 48 := by
  have e : exec (.contextEccError c) s = .next (settle (squashTask (s.count .ctxEccReplay c.cluster 1 t.ten) id t false)) := by
    have e : exec (.contextEccError c) s = execContextEccError c s := rfl
    rw [e, execContextEccError, h]
  have once : CountedOnce .ctxEccReplay c.cluster s (settle (squashTask (s.count .ctxEccReplay c.cluster 1 t.ten) id t false)) :=
    ⟨s, t.ten, .refl _ _, settle_kept (.of_beq (by decide +kernel)) (squashTask_kept _ _ _ (.of_beq (by decide +kernel)) (.refl _ _))⟩
  exact ⟨_, e, once.cget⟩

end

end Sys2Proof.Machine

open Sys2Proof Sys2Proof.Machine

/-- Settles O20: a commit, a checkpoint and a replay count their event once, a removal frees the record, and a quarantine shows through
the log of its event. -/
theorem waitingCommitsAndTeardownsComplete : Obligations.WaitingCommitsAndTeardownsComplete := by
  refine ⟨fun s task t seq ht hd hcom n hp => ?_, fun s task t cause n ht hk hp hn => teardown_removes ht hk hp hn,
    fun s w => storeWordRewrite_good w, fun s id t a e _ hnew h2 => ?_, fun s c id t h => contextEccError_counted h⟩
  · have hn : t.pos.cluster = some n := by
      obtain ⟨c, h, rfl⟩ | h := hp
      · rw [h, TaskAt.cluster]
      · rw [h, TaskAt.cluster]
    have h := exec_taskCommit ht hd (hp.imp (fun ⟨c, h, _⟩ => ⟨c, h⟩) fun h => ⟨n, h⟩)
    exact ⟨fun h8 => ⟨_, h, (finishCommit_checkpoint h8 hcom hn).cget⟩, fun h8 => ⟨_, h, (finishCommit_commit h8 hcom hn).cget⟩⟩
  · obtain ⟨v, hv⟩ := machineCheck_third (id := id) (t := t) e hnew h2
    rw [hv]
    exact quarantine_acts _ _ _ _

end

section
/-! SUPPORT. Strainer entries as their rows, completions that carry data, and the Strainer commands (R121, R122, R254, R262, R265, R267). -/

namespace Sys2Proof.Machine

-- A proof that evaluates in the kernel waits for every declaration before it, and holds a thread while it waits.
set_option Elab.async false

section
variable {s : State}

/-! ### The rows of an entry (R121) -/

theorem rowAddr_inj {a i j : Nat} : rowAddr a i = rowAddr a j ↔ i = j := by
  simp only [rowAddr]
  omega

/-- The rows of an entry written one after another leave every other row. -/
theorem setRows_strEntry_other {a b n : Nat} {g : Nat → Option StrEntry} (h : ∀ i, i < n → b ≠ rowAddr a i) :
    ((List.range n).foldl (fun u i => setRow u (rowAddr a i) (g i)) s).strEntry b = s.strEntry b :=
  List.foldlRecOn _ _ (motive := fun u : State => u.strEntry b = s.strEntry b) rfl fun _ hu i hi =>
    (setRow_other _ _ _ _ (h i (List.mem_range.1 hi))).trans hu

theorem setRows_strEntry_same {a n i : Nat} {g : Nat → Option StrEntry} (h : i < n) :
    ((List.range n).foldl (fun u i => setRow u (rowAddr a i) (g i)) s).strEntry (rowAddr a i) = g i := by
  induction n with
  | zero => exact absurd h (Nat.not_lt_zero i)
  | succ n ih =>
    rw [List.range_succ, List.foldl_append, List.foldl_cons, List.foldl_nil]
    by_cases e : i = n
    · rw [e, setRow_same]
    · rw [setRow_other _ _ _ _ fun k => e (rowAddr_inj.1 k)]
      exact ih (by omega)

theorem setEntry_strEntry_row {a i : Nat} {e : StrEntry} (h : i < 2 ^ e.width) :
    (setEntry s a e).strEntry (rowAddr a i) = some (entryRow e i) := setRows_strEntry_same h

theorem setEntry_strEntry_other {a b : Nat} {e : StrEntry} (h : ∀ i, i < 2 ^ e.width → b ≠ rowAddr a i) :
    (setEntry s a e).strEntry b = s.strEntry b := setRows_strEntry_other h

/-! ### An entry joined from its rows -/

/-- The slices of 160 bits of a number make up its low bits. -/
theorem sum_slices (v n : Nat) : ((List.range n).map fun i => bits v (160 * i) 160 * 2 ^ (160 * i)).sum = v % 2 ^ (160 * n) := by
  induction n with
  | zero => exact (Nat.mod_one v).symm
  | succ n ih =>
    rw [List.range_succ, List.map_append, List.sum_append, ih, List.map_singleton, List.sum_singleton, Nat.mul_succ, Nat.pow_add,
      Nat.mod_mul, bits, Nat.mul_comm (2 ^ (160 * n))]

/-- Numbers of 160 bits side by side. -/
theorem sum_shifted_lt {f : Nat → Nat} (h : ∀ i, f i < 2 ^ 160) (n : Nat) :
    ((List.range n).map fun i => f i * 2 ^ (160 * i)).sum < 2 ^ (160 * n) := by
  induction n with
  | zero => exact Nat.one_pos
  | succ n ih =>
    rw [List.range_succ, List.map_append, List.sum_append, List.map_singleton, List.sum_singleton, Nat.mul_succ, Nat.pow_add]
    calc _ < (f n + 1) * 2 ^ (160 * n) := by rw [Nat.add_one_mul (f n)]; omega
      _ ≤ 2 ^ 160 * 2 ^ (160 * n) := Nat.mul_le_mul_right _ (h n)
      _ = _ := Nat.mul_comm _ _

theorem joinImages_lt (d : List Byte) (n lsb : Nat) : joinImages d n lsb < 2 ^ (160 * n) := sum_shifted_lt (fun _ => bits_lt _ _ _) n

/-- An entry whose bits lie within its blocks: rows hold nothing of it beyond them. -/
structure StrEntry.Fits (e : StrEntry) : Prop where
  data : e.data < 2 ^ (160 * 2 ^ e.width)
  care : e.care < 2 ^ (160 * 2 ^ e.width)
  shadowData : e.shadowData < 2 ^ (160 * 2 ^ e.width)
  shadowCare : e.shadowCare < 2 ^ (160 * 2 ^ e.width)

theorem strEntryOf_fits (d : List Byte) (m : Nat) : (strEntryOf d m).Fits :=
  ⟨joinImages_lt _ _ _, joinImages_lt _ _ _, joinImages_lt _ _ _, joinImages_lt _ _ _⟩

/-- The rows of an entry, joined, are the entry. -/
theorem entryAt_of_rows {t : Tab (Option StrEntry)} {a : Nat} {e : StrEntry} (he : e.Fits)
    (h : ∀ i, i < 2 ^ e.width → tget none t (rowAddr a i, 0) = some (entryRow e i)) : entryAt t a e.width = some e := by
  have first : tget none t (a, 0) = some (entryRow e 0) := h 0 (Nat.two_pow_pos _)
  have rows : (List.range (2 ^ e.width)).map (fun i => (i, tget none t (rowAddr a i, 0))) =
      (List.range (2 ^ e.width)).map (fun i => (i, some (entryRow e i))) :=
    List.map_congr_left fun i hi => by rw [h i (List.mem_range.1 hi)]
  have some_row : ((List.range (2 ^ e.width)).map (fun i => (i, some (entryRow e i)))).all (fun r => r.2.isNone) = false := by
    refine List.all_eq_false.2 ⟨(0, some (entryRow e 0)), List.mem_map_of_mem (List.mem_range.2 (Nat.two_pow_pos _)), by simp⟩
  have join (f : StrEntry → Nat) (v : Nat) (hf : ∀ i, f (entryRow e i) = bits v (160 * i) 160) (hv : v < 2 ^ (160 * 2 ^ e.width)) :
      (((List.range (2 ^ e.width)).map (fun i => (i, some (entryRow e i)))).map
        (fun r => ((r.2.map f).getD 0) * 2 ^ (160 * r.1))).sum = v := by
    simp only [List.map_map, Function.comp_def, Option.map_some, Option.getD_some, hf]
    rw [sum_slices, Nat.mod_eq_of_lt hv]
  rw [entryAt]
  simp only [rows, some_row, Bool.false_eq_true, if_false, first, Option.getD_some]
  rw [join _ e.data (fun _ => rfl) he.data, join _ e.care (fun _ => rfl) he.care, join _ e.shadowData (fun _ => rfl) he.shadowData,
    join _ e.shadowCare (fun _ => rfl) he.shadowCare]
  rfl

/-- What is written as an entry reads as that entry. -/
theorem entryAt_setEntry {a : Nat} {e : StrEntry} (he : e.Fits) : entryAt (setEntry s a e).strainer a e.width = some e :=
  entryAt_of_rows he fun _ h => setEntry_strEntry_row h

/-! ### Completions (R261, R265) -/

theorem Kept.strainer {t : State} (h : Kept (maskBut [.strainer]) s t) : t.strainer = s.strainer :=
  h.same_of_but (p := .strainer) (by decide)

theorem strEntry_congr {t : State} (h : t.strainer = s.strainer) (a : Nat) : t.strEntry a = s.strEntry a := by
  rw [State.strEntry, h, State.strEntry]

section
variable {w : Work} {status reason version extra : Nat}

theorem cmdComplete_strainer : (cmdComplete s w status reason version extra).strainer = s.strainer :=
  (cmdComplete_kept (fr := maskBut [.strainer]) _ _ _ _ _ (.of_beq (by decide +kernel)) (.refl _ _)).strainer

theorem cmdData_strainer (b : List Byte) : (cmdData s w version extra b).strainer = s.strainer :=
  (cmdData_kept (fr := maskBut [.strainer]) _ _ _ _ (.of_beq (by decide +kernel)) (.refl _ _)).strainer

/-- The parts of the state that an answer is read of. -/
def answerParts : List Part := [.out, .time, .host, .reg .SET_CTL, .reg .RING_CTL, .reg .RING_BASE, .reg .RSET_OWNER, .ctr .cplWritten]

/-- What does not touch them can go before an answer. -/
theorem Answered.of_kept {u t : State} (h : Answered u t w status reason version extra) (k : Kept (maskBut answerParts) s u) :
    Answered s t w status reason version extra := by
  have hfget (f : Fld) (hf : .reg f.reg ∈ answerParts) (i : Nat) : u.fget f i = s.fget f i := k.same_of_but hf f i rfl
  have hhost : u.host = s.host := k.same_of_but (p := .host) (by decide)
  have hout : u.out = s.out := k.same_of_but (p := .out) (by decide)
  have htime : u.time = s.time := k.same_of_but (p := .time) (by decide)
  have hcount : u.cget .cplWritten w.set = s.cget .cplWritten w.set := k.same_of_but (p := .ctr .cplWritten) (by decide) _
  have hring : u.ring w.set 1 = s.ring w.set 1 := by rw [State.ring, hhost, State.ring]
  have hsize : ringSize u w.set 1 = ringSize s w.set 1 := congrArg (2 ^ ·) (hfget _ (by decide) _)
  have hruns : ringRuns u w.set 1 = ringRuns s w.set 1 := by
    simp only [ringRuns, ringOn, setOwner, State.fbit, hring, hhost, hfget .SET_CTL_set_en (by decide), hfget .RING_CTL_en (by decide),
      hfget .RING_CTL_stopped (by decide), hfget .RSET_OWNER_owner (by decide)]
  have hfull : ringFull u w.set 1 = ringFull s w.set 1 := by simp only [ringFull, hring, hsize]
  have hstamp : u.stamp32 = s.stamp32 := by simp only [State.stamp32, State.devNs, htime]
  rw [Answered, hruns, hfull, hhost, hcount, hfget .RING_BASE_addr (by decide), hring, hsize, hstamp, hout] at h
  exact h

/-- What leaves the device before an answer leaves it as it is. -/
theorem Answered.of_emit {o : Out} {t : State} (h : Answered (s.emit o) t w status reason version extra) :
    Answered s t w status reason version extra := by
  intro hruns hroom hcpls hlost hloud
  obtain ⟨count, written⟩ := h hruns hroom hcpls hlost hloud
  refine ⟨count, List.mem_of_mem_drop (i := 1) ?_⟩
  rw [List.drop_drop]
  rwa [emit_out, List.length_append] at written

end

theorem ringMessage_busMaster (set k : Nat) : (ringMessage s set k).host.busMaster = s.host.busMaster := by
  obtain ⟨q, d, p, e⟩ := setMessage_host (s.setRing set k { s.ring set k with since := 0, oldest := none }) set
    (s.fget .RING_CTL_vector (set * 8 + k))
  rw [ringMessage, e]
  rfl

theorem ringWrite_busMaster (set k v : Nat) : (ringWrite s set k v).host.busMaster = s.host.busMaster := by
  unfold ringWrite
  dsimp only
  split
  · exact ringMessage_busMaster _ _
  · rfl

theorem cplData_busMaster (c : Cpl) : (cplData s c).1.host.busMaster = s.host.busMaster := by
  unfold cplData
  split
  · split <;> rfl
  · rfl

theorem cplKeep_busMaster (c : Cpl) : (cplKeep s c).host.busMaster = s.host.busMaster := rfl

theorem cplOne_busMaster (c : Cpl) : (cplOne s c).host.busMaster = s.host.busMaster := by
  rw [← cplData_busMaster (s := s) c]
  unfold cplOne
  dsimp only
  split
  · split <;> rfl
  · split
    · split <;> simp only [cplKeep_busMaster, count_host]
    · split
      · rw [count_host, ringWrite_busMaster]
      · rfl

/-- The function of a set masters the bus. -/
def mastersBus (s : State) (set : Nat) : Bool := tget false s.host.busMaster (setOwner s set, 0)

theorem cplOne_mastersBus (c : Cpl) (set : Nat) : mastersBus (cplOne s c) set = mastersBus s set := by
  have owner : (cplOne s c).fget .RSET_OWNER_owner set = s.fget .RSET_OWNER_owner set :=
    (cplOne_kept (fr := maskBut [.reg .RSET_OWNER]) c (.of_beq (by decide +kernel)) (.refl _ _)).same_of_but
      (p := .reg .RSET_OWNER) (by decide) _ _ rfl
  rw [mastersBus, setOwner, owner, cplOne_busMaster, mastersBus, setOwner]

theorem cplFlush_mastersBus (l : List Cpl) (set : Nat) : mastersBus (cplFlush s l) set = mastersBus s set :=
  List.foldlRecOn l _ (motive := fun t : State => mastersBus t set = mastersBus s set) rfl fun _ h c _ =>
    (cplOne_mastersBus c set).trans h

/-- The data of a completion leave the device first where its function masters the bus. -/
theorem cplOne_data {set a : Nat} {entry : Option Nat} {b : List Byte} (h : mastersBus s set = true) :
    cplOne s ⟨set, entry, some (a, b)⟩ = cplOne (s.emit (.hostWrite a b)) ⟨set, entry, none⟩ := by
  have e : cplData s ⟨set, entry, some (a, b)⟩ = (s.emit (.hostWrite a b), ⟨set, entry, none⟩) := if_pos h
  rw [cplOne, e]
  rfl

section
variable {w : Work} {version extra : Nat} {b : List Byte}

/-- What a completion with data waits behind has been written, and it is the next. -/
theorem cmdData_eq (hlost : w.lost = false) : cmdData s w version extra b =
    cplOne (cplFlush (completing s w) s.host.cpls) ⟨w.set,
      if bits w.desc 8 1 == 1 then none else some (cplEntry w.index (w.desc % 256) 0 0 version s.stamp32 extra),
      some (bits w.desc 64 64, b)⟩ := by
  unfold cmdData complete
  simp only [hlost, Bool.false_eq_true, if_false, Option.isNone_some, Bool.and_false, cplFlush, beq_self_eq_true, Bool.and_true]
  exact List.foldl_concat _ _ _ _

/-- The data of a command leave the device where the function of its set masters the bus, whatever becomes of its entry. -/
theorem cmdData_emits (hlost : w.lost = false) (hmaster : mastersBus s w.set = true) :
    Out.hostWrite (bits w.desc 64 64) b ∈ (cmdData s w version extra b).out.drop s.out.length := by
  obtain ⟨entry, e⟩ : ∃ entry, cmdData s w version extra b =
      cplOne (cplFlush (completing s w) s.host.cpls) ⟨w.set, entry, some (bits w.desc 64 64, b)⟩ := ⟨_, cmdData_eq hlost⟩
  have before : Kept (maskBut []) s (cplFlush (completing s w) s.host.cpls) :=
    cplFlush_kept _ (.of_beq (by decide +kernel)) (Kept.setHost (workDrop_kept _ _ _ (.of_beq (by decide +kernel)) (.refl _ _)) _
      (.of_beq (by decide +kernel)))
  have master : mastersBus (cplFlush (completing s w) s.host.cpls) w.set = true := (cplFlush_mastersBus _ _).trans hmaster
  have after : Kept (maskBut []) ((cplFlush (completing s w) s.host.cpls).emit (.hostWrite (bits w.desc 64 64) b))
      (cmdData s w version extra b) := by
    rw [e, cplOne_data master]
    exact cplOne_kept _ (.of_beq (by decide +kernel)) (.refl _ _)
  obtain ⟨l, hl⟩ := before.out
  obtain ⟨r, hr⟩ := after.out
  rw [← hr, emit_out, ← hl]
  simp

/-- A completion with data is, once its data have left, the completion without. -/
theorem cmdData_written (hmaster : mastersBus s w.set = true) (hcpls : s.host.cpls = []) (hlost : w.lost = false)
    (hloud : bits w.desc 8 1 = 0) :
    cmdData s w version extra b = cmdComplete (s.emit (.hostWrite (bits w.desc 64 64) b)) w 0 0 version extra := by
  have loud : (bits w.desc 8 1 == 1) = false := by rw [hloud]; rfl
  have e : cmdComplete (s.emit (.hostWrite (bits w.desc 64 64) b)) w 0 0 version extra =
      cplOne ((completing s w).emit (.hostWrite (bits w.desc 64 64) b))
        ⟨w.set, some (cplEntry w.index (w.desc % 256) 0 0 version s.stamp32 extra), none⟩ := by
    unfold cmdComplete complete
    simp only [hlost, loud, Bool.false_and, Bool.false_eq_true, if_false, Option.isNone_some]
    show cplFlush _ (s.host.cpls ++ [_]) = _
    rw [hcpls]
    rfl
  rw [e, cmdData_eq hlost, hcpls, loud]
  exact cplOne_data hmaster

theorem cmdData_answered : Answered s (cmdData s w version extra b) w 0 0 version extra := by
  intro hruns hroom hcpls hlost hloud
  have master : mastersBus s w.set = true := (Bool.and_eq_true_iff.1 hruns).2
  have loud : bits w.desc 8 1 = 0 := hloud.resolve_right fun h => h rfl
  rw [cmdData_written master hcpls hlost loud]
  exact cmdComplete_answered.of_emit hruns hroom hcpls hlost hloud

end

/-! ### The commands (R122, R123, R262) -/

theorem cmdWork_set {set index op : Nat} {st : WorkStage} {w : Work} (h : cmdWork s set index op st = some w) : w.set = set := by
  unfold cmdWork at h
  split at h
  · next x hx =>
    split at h
    · cases h
      have k := List.find?_some hx
      simp only [Bool.and_eq_true, beq_iff_eq] at k
      exact k.1.1
    · cases h
  · cases h

section
variable {set index m : Nat} {w : Work}

theorem exec_strainerWrite_limited (hw : cmdWork s set index 0x10 .fetched = some w) (hl : setLimited s set = true) :
    exec (.strainerWrite set index) s = .next (cmdComplete s w 6 0 0 0) := by
  simp only [exec, execStrainerWrite, hw, hl, if_true]

theorem exec_strainerWrite (hw : cmdWork s set index 0x10 .fetched = some w) (hl : setLimited s set = false)
    (hm : strMode s (strCmdAddr w.desc) = some m) : exec (.strainerWrite set index) s = .next (if strWriteOk w.data m then
      cmdComplete (poisonCount (setEntry s (strCmdAddr w.desc) (strEntryOf w.data m))) w 0 0 0 0 else cmdComplete s w 1 0 0 0) := by
  simp only [exec, execStrainerWrite, hw, hl, Bool.false_eq_true, if_false, hm]

theorem exec_strainerRead_limited (hw : cmdWork s set index 0x11 .fetched = some w) (hl : setLimited s set = true) :
    exec (.strainerRead set index) s = .next (cmdComplete s w 6 0 0 (strCmdAddr w.desc * 2 ^ 128)) := by
  simp only [exec, execStrainerRead, hw, hl, if_true]

theorem exec_strainerRead_noEntry (hw : cmdWork s set index 0x11 .fetched = some w) (hl : setLimited s set = false)
    (hm : strMode s (strCmdAddr w.desc) = none) :
    exec (.strainerRead set index) s = .next (cmdComplete s w 1 0 0 (strCmdAddr w.desc * 2 ^ 128)) := by
  simp only [exec, execStrainerRead, hw, hl, Bool.false_eq_true, if_false, hm]

theorem exec_strainerRead (hw : cmdWork s set index 0x11 .fetched = some w) (hl : setLimited s set = false)
    (hm : strMode s (strCmdAddr w.desc) = some m) : exec (.strainerRead set index) s =
      .next (cmdData s w 0 (strCmdAddr w.desc * 2 ^ 128) (strImages (entryAt s.strainer (strCmdAddr w.desc) m) m)) := by
  simp only [exec, execStrainerRead, hw, hl, Bool.false_eq_true, if_false, hm]

/-- An accepted write: the entry is there, every other row stands, and the command is answered. -/
theorem strainerWrite_writes (w : Work) (a m : Nat) :
    let t := cmdComplete (poisonCount (setEntry s a (strEntryOf w.data m))) w 0 0 0 0
    entryAt t.strainer a m = some (strEntryOf w.data m) ∧
      (∀ b, (∀ i, i < 2 ^ m → b ≠ rowAddr a i) → t.strEntry b = s.strEntry b) ∧ Answered s t w 0 0 0 0 := by
  intro t
  have strainer : t.strainer = (setEntry s a (strEntryOf w.data m)).strainer := cmdComplete_strainer
  refine ⟨?_, fun b hb => ?_, cmdComplete_answered.of_kept ?_⟩
  · rw [strainer]
    exact entryAt_setEntry (strEntryOf_fits w.data m)
  · rw [strEntry_congr strainer]
    exact setEntry_strEntry_other hb
  · exact poisonCount_kept (.of_beq (by decide +kernel)) (setEntry_kept _ _ (.of_beq (by decide +kernel)) (.refl _ _))

theorem strainerWrite_answers (hw : cmdWork s set index 0x10 .fetched = some w) (hl : setLimited s set = false)
    (hm : strMode s (strCmdAddr w.desc) = some m) :
    (strWriteOk w.data m = true → Completes (.strainerWrite set index) s fun t =>
      entryAt t.strainer (strCmdAddr w.desc) m = some (strEntryOf w.data m) ∧
      (∀ b, (∀ i, i < 2 ^ m → b ≠ rowAddr (strCmdAddr w.desc) i) → t.strEntry b = s.strEntry b) ∧ Answered s t w 0 0 0 0) ∧
    (strWriteOk w.data m = false → Completes (.strainerWrite set index) s fun t =>
      t.strainer = s.strainer ∧ Answered s t w 1 0 0 0) := by
  refine ⟨fun ok => ⟨_, exec_strainerWrite hw hl hm, ?_⟩, fun bad => ⟨_, exec_strainerWrite hw hl hm, ?_⟩⟩
  · rw [ok, if_pos rfl]
    exact strainerWrite_writes w _ m
  · rw [bad, if_neg Bool.false_ne_true]
    exact ⟨cmdComplete_strainer, cmdComplete_answered⟩

end

end

end Sys2Proof.Machine

open Sys2Proof Sys2Proof.Machine

/-- Settles O23: an entry written row by row reads as that entry again, and the data of a read leave the device before its answer. -/
theorem strainerCommandsWriteAndRead : Obligations.StrainerCommandsWriteAndRead := by
  refine fun s set index w => ⟨fun hw => ⟨fun hl => ?_, fun m hl hm => strainerWrite_answers hw hl hm⟩,
    fun hw => ⟨fun hl => ?_, fun hl hm => ?_, fun m hl hm => ?_⟩⟩
  · exact ⟨_, exec_strainerWrite_limited hw hl, cmdComplete_strainer, cmdComplete_answered⟩
  · exact ⟨_, exec_strainerRead_limited hw hl, cmdComplete_strainer, cmdComplete_answered⟩
  · exact ⟨_, exec_strainerRead_noEntry hw hl hm, cmdComplete_answered⟩
  · refine ⟨_, exec_strainerRead hw hl hm, cmdData_strainer _, fun hlost hmaster => ?_, cmdData_answered⟩
    rw [← cmdWork_set hw] at hmaster
    exact cmdData_emits hlost hmaster

end

section
/-! SUPPORT. The entry that a probe returns, searches from issue to decision, and the scrubber (R126, R127, R130 to R132). -/

namespace Sys2Proof.Machine

-- A proof that evaluates in the kernel waits for every declaration before it, and holds a thread while it waits.
set_option Elab.async false

/-! ### The choice among the entries that answer (R126) -/

/-- A listed row's entry, read across the blocks of its width. -/
def entryOf (t : Tab (Option StrEntry)) (a : Nat) (r : StrEntry) : StrEntry := (entryAt t a r.width).getD r

/-- The entry that a listed row gives to a probe, if it answers. -/
def answering (t : Tab (Option StrEntry)) (w parity key : Nat) (x : Key × Option StrEntry) : Option (Nat × StrEntry) :=
  x.2.bind fun r => if answers (entryOf t x.1.1 r) w parity key = true then some (x.1.1, entryOf t x.1.1 r) else none

/-- The better of the entry found so far and the next that answers. -/
def better (w : Nat) (best : Option (Nat × StrEntry)) (c : Nat × StrEntry) : Option (Nat × StrEntry) :=
  match best with
  | none => some c
  | some b => if beats w c.2 b.2 then some c else some b

/-- An entry stands before another or ties with it: by priority, then by cared bits, then by the lower address. -/
def Precedes (w : Nat) (c d : Nat × StrEntry) : Prop :=
  d.2.prio < c.2.prio ∨ (d.2.prio = c.2.prio ∧
    (ones d.2.care (widthBytes w * 8) < ones c.2.care (widthBytes w * 8) ∨
      (ones d.2.care (widthBytes w * 8) = ones c.2.care (widthBytes w * 8) ∧ c.1 ≤ d.1)))

section
variable {t : Tab (Option StrEntry)} {w parity key : Nat} {c d e : Nat × StrEntry}

theorem Precedes.refl (c : Nat × StrEntry) : Precedes w c c := .inr ⟨rfl, .inr ⟨rfl, Nat.le_refl _⟩⟩

theorem Precedes.trans (h : Precedes w c d) (k : Precedes w d e) : Precedes w c e := by
  unfold Precedes at *
  omega

theorem precedes_of_beats (h : beats w c.2 d.2 = true) : Precedes w c d := by
  simp only [beats, Bool.or_eq_true, Bool.and_eq_true, decide_eq_true_eq, beq_iff_eq] at h
  exact h.imp_right fun k => ⟨k.1, .inl k.2⟩

theorem precedes_of_not_beats (h : beats w d.2 c.2 = false) (ha : c.1 ≤ d.1) : Precedes w c d := by
  simp only [beats, Bool.or_eq_false_iff, Bool.and_eq_false_iff, decide_eq_false_iff_not, beq_eq_false_iff_ne] at h
  unfold Precedes
  omega

theorem mem_answering {x : Key × Option StrEntry} : answering t w parity key x = some c ↔
    ∃ r, x.2 = some r ∧ answers (entryOf t x.1.1 r) w parity key = true ∧ c = (x.1.1, entryOf t x.1.1 r) := by
  simp only [answering, Option.bind_eq_some_iff, Option.ite_none_right_eq_some, Option.some.injEq, @eq_comm _ _ c]

/-- A probe takes the entries that answer in turn and keeps the better. -/
theorem probeBest_eq : probeBest t w parity key none = (t.filterMap (answering t w parity key)).foldl (better w) none := by
  rw [List.foldl_filterMap, probeBest]
  congr 1
  funext best x
  obtain ⟨k, r⟩ := x
  cases r with
  | none => rfl
  | some r =>
    show (if none = some k.1 ∨ answers (entryOf t k.1 r) w parity key = false then best else _) = _
    rw [answering, Option.bind_some]
    cases answers (entryOf t k.1 r) w parity key with
    | false => rfl
    | true => cases best <;> rfl

/-- Of entries in address order the one kept precedes all of them. -/
theorem foldl_better {l : List (Nat × StrEntry)} {b : Nat × StrEntry} (hl : (b :: l).Pairwise fun x y => x.1 ≤ y.1) :
    ∃ c ∈ b :: l, l.foldl (better w) (some b) = some c ∧ ∀ d ∈ b :: l, Precedes w c d := by
  induction l generalizing b with
  | nil =>
    refine ⟨b, List.mem_singleton_self b, rfl, fun d hd => ?_⟩
    rw [List.mem_singleton.1 hd]
    exact .refl b
  | cons x l ih =>
    obtain ⟨hb, hx⟩ := List.pairwise_cons.1 hl
    rw [List.foldl_cons]
    cases k : beats w x.2 b.2 with
    | true =>
      obtain ⟨c, hc, e, first⟩ := ih hx
      have ex : better w (some b) x = some x := if_pos k
      rw [ex]
      refine ⟨c, List.mem_cons_of_mem _ hc, e, List.forall_mem_cons.2 ⟨?_, first⟩⟩
      exact (first x List.mem_cons_self).trans (precedes_of_beats k)
    | false =>
      have hbl : (b :: l).Pairwise fun x y => x.1 ≤ y.1 :=
        List.pairwise_cons.2 ⟨fun y hy => hb y (List.mem_cons_of_mem _ hy), (List.pairwise_cons.1 hx).2⟩
      obtain ⟨c, hc, e, first⟩ := ih hbl
      have eb : better w (some b) x = some b := if_neg (by rw [k]; exact Bool.false_ne_true)
      obtain ⟨firstb, firstl⟩ := List.forall_mem_cons.1 first
      have bx : Precedes w b x := precedes_of_not_beats k (hb x List.mem_cons_self)
      rw [eb]
      refine ⟨c, ?_, e, List.forall_mem_cons.2 ⟨firstb, List.forall_mem_cons.2 ⟨firstb.trans bx, firstl⟩⟩⟩
      exact List.mem_cons.2 ((List.mem_cons.1 hc).imp_right (List.mem_cons_of_mem _))

theorem foldl_better_isSome (l : List (Nat × StrEntry)) (b : Nat × StrEntry) : (l.foldl (better w) (some b)).isSome = true := by
  induction l generalizing b with
  | nil => rfl
  | cons x l ih =>
    rw [List.foldl_cons, better]
    split
    · exact ih x
    · exact ih b

/-- The entries of a table in key order are in address order. -/
theorem answering_sorted (h : trising t = true) : (t.filterMap (answering t w parity key)).Pairwise fun x y => x.1 ≤ y.1 := by
  rw [List.pairwise_filterMap]
  refine ((trising_iff t).1 h).imp fun {x y} hxy c hc d hd => ?_
  obtain ⟨-, -, -, rfl⟩ := mem_answering.1 hc
  obtain ⟨-, -, -, rfl⟩ := mem_answering.1 hd
  simp only [klt, Bool.or_eq_true, Bool.and_eq_true, decide_eq_true_eq, beq_iff_eq] at hxy
  show x.1.1 ≤ y.1.1
  omega

/-- The entry that a probe returns answers it, and precedes every entry that does. -/
theorem probeBest_some (h : trising t = true) (hp : probeBest t w parity key none = some c) :
    c ∈ t.filterMap (answering t w parity key) ∧ ∀ d ∈ t.filterMap (answering t w parity key), Precedes w c d := by
  have sorted : (t.filterMap (answering t w parity key)).Pairwise fun x y => x.1 ≤ y.1 := answering_sorted h
  rw [probeBest_eq] at hp
  generalize t.filterMap (answering t w parity key) = l at *
  cases l with
  | nil => cases hp
  | cons b l =>
    obtain ⟨c', hc, e, first⟩ := foldl_better (w := w) sorted
    obtain rfl : c' = c := Option.some.inj (e.symm.trans hp)
    exact ⟨hc, first⟩

theorem probeBest_none (hp : probeBest t w parity key none = none) : t.filterMap (answering t w parity key) = [] := by
  rw [probeBest_eq] at hp
  generalize t.filterMap (answering t w parity key) = l at *
  cases l with
  | nil => rfl
  | cons b l =>
    have k : (l.foldl (better w) (some b)).isSome = true := foldl_better_isSome l b
    rw [show l.foldl (better w) (some b) = none from hp] at k
    cases k

theorem mem_filterMap_answering {k : Key} {r : StrEntry} (hm : (k, some r) ∈ t) (ha : answers (entryOf t k.1 r) w parity key = true) :
    (k.1, entryOf t k.1 r) ∈ t.filterMap (answering t w parity key) :=
  List.mem_filterMap.2 ⟨(k, some r), hm, mem_answering.2 ⟨r, rfl, ha, rfl⟩⟩

/-- What a probe returns, as the statement has it. -/
theorem probeBest_decides {a : Nat} {e : StrEntry} (h : trising t = true) (hp : probeBest t w parity key none = some (a, e)) :
    answers e w parity key = true ∧ (∃ k r, (k, some r) ∈ t ∧ k.1 = a ∧ entryOf t a r = e) ∧
      ∀ k r, (k, some r) ∈ t → answers (entryOf t k.1 r) w parity key = true → Precedes w (a, e) (k.1, entryOf t k.1 r) := by
  obtain ⟨hmem, first⟩ := probeBest_some h hp
  obtain ⟨⟨k, v⟩, hx, hc⟩ := List.mem_filterMap.1 hmem
  obtain ⟨r, rfl, hans, hce⟩ := mem_answering.1 hc
  obtain ⟨rfl, rfl⟩ := Prod.mk.inj hce
  exact ⟨hans, ⟨k, r, hx, rfl, rfl⟩, fun k' r' hm ha => first _ (mem_filterMap_answering hm ha)⟩

theorem probeBest_none_answers {k : Key} {r : StrEntry} (hp : probeBest t w parity key none = none) (hm : (k, some r) ∈ t) :
    answers (entryOf t k.1 r) w parity key = false := by
  refine Bool.eq_false_iff.2 fun ha => ?_
  have k' := mem_filterMap_answering hm ha
  rw [probeBest_none hp] at k'
  cases k'

end

/-! ### The issue of a search (R132) -/

section
variable {s : State} {bank entry : Nat} {m : Miss} {v : Search}

/-- The head of a bank's search queue has been issued over the table as it stands. -/
def searchIssued (s : State) (bank entry : Nat) (l : List Nat) (m : Miss) (v : Search) : State :=
  setMiss { s with skim := { s.skim with searches := tset [] s.skim.searches (bank, 0) l } } (bank, entry)
    (some { m with stage := .searching s.now, search := some { v with view := s.strainer } })

theorem setMiss_miss (k : Key) (x : Option Miss) : (setMiss s k x).miss k = x := tget_tset_same none s.skim.misses k x

theorem searchIssued_miss (l : List Nat) : (searchIssued s bank entry l m v).miss (bank, entry) =
    some { m with stage := .searching s.now, search := some { v with view := s.strainer } } := setMiss_miss _ _

theorem searchIssued_searches (l : List Nat) : tget [] (searchIssued s bank entry l m v).skim.searches (bank, 0) = l :=
  tget_tset_same [] s.skim.searches _ _

/-- Its probes have been counted. -/
def probesCounted (s : State) (v : Search) (tenant : Option Nat) : State :=
  (s.count .search 0 1 tenant).count .probeIssue 0 (1 + bit v.two) tenant

theorem exec_strainerProbeIssue {l : List Nat} (hq : tget [] s.skim.searches (bank, 0) = entry :: l) (hm : s.miss (bank, entry) = some m)
    (hv : m.search = some v) (hready : widthReady s v.width0 = true) (htwo : v.two = true → widthReady s v.width1 = true) :
    exec (.strainerProbeIssue bank) s = .next (probesCounted (searchIssued s bank entry l m v) v (s.frame v.frame).ten) := by
  have ready : (widthReady s v.width0 && (!v.two || widthReady s v.width1)) = true := by
    cases h : v.two with
    | false => rw [hready]; rfl
    | true => rw [hready, htwo h]; rfl
  have e : exec (.strainerProbeIssue bank) s = execStrainerProbeIssue bank s := rfl
  rw [e, execStrainerProbeIssue, hq]
  dsimp only
  rw [hm]
  dsimp only
  rw [hv]
  dsimp only
  rw [ready, if_pos rfl]
  rfl

theorem probesCounted_skim (tenant : Option Nat) : (probesCounted s v tenant).skim = s.skim :=
  (count_skim _ _ _ _).trans (count_skim _ _ _ _)

theorem probesCounted_search (tenant : Option Nat) : (probesCounted s v tenant).cget .search 0 = (s.cget .search 0 + 1) % 2 ^ 48 :=
  (count_cget_other _ _ _ _ _ _ (by decide)).trans (count_cget_same _ _ _ _ _)

theorem probesCounted_probeIssue (tenant : Option Nat) :
    (probesCounted s v tenant).cget .probeIssue 0 = (s.cget .probeIssue 0 + (1 + bit v.two)) % 2 ^ 48 := by
  rw [probesCounted, count_cget_same, count_cget_other _ _ _ _ _ _ (by decide)]

theorem strainerProbeIssue_issues {l : List Nat} (hq : tget [] s.skim.searches (bank, 0) = entry :: l)
    (hm : s.miss (bank, entry) = some m) (hv : m.search = some v) (hready : widthReady s v.width0 = true)
    (htwo : v.two = true → widthReady s v.width1 = true) : Completes (.strainerProbeIssue bank) s fun t =>
      t.miss (bank, entry) = some { m with stage := .searching s.now, search := some { v with view := s.strainer } } ∧
      tget [] t.skim.searches (bank, 0) = l ∧ t.cget .search 0 = (s.cget .search 0 + 1) % 2 ^ 48 ∧
      t.cget .probeIssue 0 = (s.cget .probeIssue 0 + (1 + bit v.two)) % 2 ^ 48 := by
  refine ⟨_, exec_strainerProbeIssue hq hm hv hready htwo, ?_, ?_, probesCounted_search _, probesCounted_probeIssue _⟩
  · rw [State.miss, probesCounted_skim]
    exact searchIssued_miss l
  · rw [probesCounted_skim]
    exact searchIssued_searches l

/-! ### The decision of a search (R127, R130) -/

theorem runProbe_none {t : Tab (Option StrEntry)} {bad : List Nat} {w parity key : Nat} {tn : Option Nat}
    (h : probeBest t w parity key none = none) : runProbe s t bad w parity key tn = (none, s) := by
  rw [runProbe, h]

/-- A winner that is not poisoned and that its shadow confirms is the probe's result, and counts as a hit. -/
theorem runProbe_hit {t : Tab (Option StrEntry)} {w parity key a : Nat} {e : StrEntry} {tn : Option Nat}
    (h : probeBest t w parity key none = some (a, e)) (hp : e.poisoned = false)
    (hs : ((s.strEntry a).map (fun x => x.poisoned)).getD false = false) (hm : shadowMatch e key = true) :
    runProbe s t [] w parity key tn = (some (a, e.action), s.count .probeHit 0 1 tn) := by
  have check : checkWinner s [] key a e tn = some (e.action, s) := by
    simp only [checkWinner, hp, hs, hm, Bool.false_eq_true, or_self, if_false, List.contains_nil, if_true]
  rw [runProbe, h]
  dsimp only
  rw [check]

/-- The decision of a search applied, and what follows from it. -/
def searchDecided (s : State) (k : Key) (m : Miss) (v : Search) (r : Option (Nat × Nat)) : State :=
  let d := decideSearch s v.dflt r none (s.frame v.frame).ten
  settle (applyDecision d.2 k m d.1)

/-- The first probe of a search that meets no soft error. -/
def firstProbe (s : State) (v : Search) : Option (Nat × Nat) × State :=
  runProbe s v.view [] v.width0 v.parity v.key0 (s.frame v.frame).ten

theorem firstProbe_frame (id : Nat) : (firstProbe s v).2.frame id = s.frame id := by
  have kept : Kept (maskBut [.frames]) s (firstProbe s v).2 := runProbe_kept _ _ _ _ _ _ (.of_beq (by decide +kernel)) (.refl _ _)
  rw [State.frame, frame?_congr (kept.same_of_but (p := .frames) (by decide)).1, State.frame]

theorem exec_strainerSearchComplete {since : Nat} (hm : s.miss (bank, entry) = some m) (hst : m.stage = .searching since)
    (hv : m.search = some v) (htwo : v.two = false) : exec (.strainerSearchComplete bank entry []) s =
      .next (searchDecided (firstProbe s v).2 (bank, entry) m v (firstProbe s v).1) := by
  have e : exec (.strainerSearchComplete bank entry []) s = execStrainerSearchComplete bank entry [] s := rfl
  rw [e, execStrainerSearchComplete, hm]
  dsimp only
  rw [hst, hv]
  dsimp only [List.foldl_nil, List.filterMap_nil]
  rw [htwo, if_neg Bool.false_ne_true, searchDecided, firstProbe_frame, firstProbe]

/-- The counters of hits. -/
def hitParts : List Part := [.ctr .probeHit, .ctr .falseHit]

theorem Kept.hits {t : State} (h : Kept (maskBut hitParts) s t) :
    t.cget .probeHit 0 = s.cget .probeHit 0 ∧ t.cget .falseHit 0 = s.cget .falseHit 0 :=
  ⟨h.same_of_but (p := .ctr .probeHit) (by decide) 0, h.same_of_but (p := .ctr .falseHit) (by decide) 0⟩

/-- A decision counts no hit. -/
theorem searchDecided_hits (k : Key) (r : Option (Nat × Nat)) : Kept (maskBut hitParts) s (searchDecided s k m v r) :=
  settle_kept (.of_beq (by decide +kernel)) (applyDecision_kept _ _ _ (.of_beq (by decide +kernel))
    (decideSearch_kept _ _ _ _ (.of_beq (by decide +kernel)) (.refl _ _)))

/-- With no entry that answers, the default action decides, and that is counted once. -/
theorem searchDecided_default (k : Key) : CountedOnce .defaultUsed 0 s (searchDecided s k m v none) :=
  ⟨s, _, .refl _ _, settle_kept (.of_beq (by decide +kernel)) (applyDecision_kept _ _ _ (.of_beq (by decide +kernel)) (.refl _ _))⟩

theorem strainerSearchComplete_counts {since : Nat} (hm : s.miss (bank, entry) = some m) (hst : m.stage = .searching since)
    (hv : m.search = some v) (htwo : v.two = false) : Completes (.strainerSearchComplete bank entry []) s fun t =>
      (probeBest v.view v.width0 v.parity v.key0 none = none →
        t.cget .defaultUsed 0 = (s.cget .defaultUsed 0 + 1) % 2 ^ 48 ∧ t.cget .probeHit 0 = s.cget .probeHit 0) ∧
      (∀ a e, probeBest v.view v.width0 v.parity v.key0 none = some (a, e) → e.poisoned = false →
        ((s.strEntry a).map (fun x => x.poisoned)).getD false = false → shadowMatch e v.key0 = true →
        t.cget .probeHit 0 = (s.cget .probeHit 0 + 1) % 2 ^ 48 ∧ t.cget .falseHit 0 = s.cget .falseHit 0) := by
  refine ⟨_, exec_strainerSearchComplete hm hst hv htwo, fun hp => ?_, fun a e hp hpois hs hsh => ?_⟩
  · rw [firstProbe, runProbe_none hp]
    exact ⟨(searchDecided_default _).cget, (searchDecided_hits _ _).hits.1⟩
  · obtain ⟨hit, falseHit⟩ := (searchDecided_hits (m := m) (v := v) (s := (firstProbe s v).2) (bank, entry) (firstProbe s v).1).hits
    rw [hit, falseHit, firstProbe, runProbe_hit hp hpois hs hsh]
    exact ⟨count_cget_same _ _ _ _ _, count_cget_other _ _ _ _ _ _ (by decide)⟩

/-! ### The scrubber (R131) -/

theorem scrubRow_shadow {t : Tab (Option StrEntry)} {a : Nat} {v : Option StrEntry} {e : StrEntry} (h : scrubRow t a v = some e) :
    rowPoisoned t a = true ∨ (e.data = e.shadowData ∧ e.care = e.shadowCare) := by
  unfold scrubRow at h
  split at h
  · next hp => exact .inl hp
  · obtain ⟨x, -, rfl⟩ := Option.map_eq_some_iff.1 h
    exact .inr ⟨rfl, rfl⟩

theorem mem_tmap {α : Type} [DecidableEq α] {d : α} {f : Key → α → α} {t : Tab α} {k : Key} {x : α} (h : (k, x) ∈ tmap d f t) :
    ∃ y, (k, y) ∈ t ∧ f k y = x := by
  obtain ⟨⟨j, y⟩, hy, e⟩ := List.mem_map.1 (List.mem_of_mem_filter h)
  obtain ⟨rfl, rfl⟩ := Prod.mk.inj e
  exact ⟨y, hy, rfl⟩

/-- Every row as a scrub pass leaves it. -/
def scrubbed (s : State) : State := { s with strainer := tmap none (fun k e => scrubRow s.strainer k.1 e) s.strainer }

theorem scrubbed_strainer : (scrubbed s).strainer = tmap none (fun k e => scrubRow s.strainer k.1 e) s.strainer := rfl

/-- A row that the scrubber may rewrite matches as its shadow says. -/
theorem scrubbed_shadow {k : Key} {e : StrEntry} (h : (k, some e) ∈ (scrubbed s).strainer) :
    rowPoisoned s.strainer k.1 = true ∨ (e.data = e.shadowData ∧ e.care = e.shadowCare) := by
  rw [scrubbed_strainer] at h
  obtain ⟨y, -, hy⟩ := mem_tmap h
  exact scrubRow_shadow hy

theorem exec_scrubPass : exec .scrubPass s = .next ((scrubbed s).count .scrubPass 0) := rfl

theorem scrubPass_rewrites : Completes .scrubPass s fun t =>
    t.cget .scrubPass 0 = (s.cget .scrubPass 0 + 1) % 2 ^ 48 ∧
    ∀ k e, (k, some e) ∈ t.strainer → rowPoisoned s.strainer k.1 = true ∨ (e.data = e.shadowData ∧ e.care = e.shadowCare) := by
  refine ⟨_, exec_scrubPass, count_cget_same _ _ _ _ _, fun k e hk => ?_⟩
  rw [count_proj _ _ _ _ _ State.strainer fun _ _ => rfl] at hk
  exact scrubbed_shadow hk

end

end Sys2Proof.Machine

open Sys2Proof Sys2Proof.Machine

/-- Settles O12: a probe keeps the better of the entries that answer, and what follows a search's decision counts no hit and no default
action again. -/
theorem probesAndSearchesDecide : Obligations.ProbesAndSearchesDecide :=
  ⟨⟨fun _ _ _ _ _ _ ht hp => probeBest_decides ht hp, fun _ _ _ _ hp _ _ hm => probeBest_none_answers hp hm⟩,
    fun _ _ _ _ _ _ hq hm hv hready htwo => strainerProbeIssue_issues hq hm hv hready htwo,
    fun _ _ _ _ _ _ hm hst hv htwo => strainerSearchComplete_counts hm hst hv htwo,
    fun _ => scrubPass_rewrites⟩

end

section
/-! SUPPORT. One issue slot of a task that meets no fault, and the commits, checkpoints, aborts and yields that it makes (R151, R153,
R154, R156, R158, R159, R163, R165, R168). -/

namespace Sys2Proof.Machine

-- A proof that evaluates in the kernel waits for every declaration before it, and holds a thread while it waits.
set_option Elab.async false

section
variable {s : State} {id : Nat} {t : Task} {c : CtxId}

/-! ### What a nanoword leaves of a context -/

/-- Destinations are scratch registers, window words and sums of deltas. -/
theorem writeDst_shape (x : Ctx) (n : Nano) (past : Bool) (op d v : Nat) :
    ∃ regs words sums, writeDst x n past op d v = { x with scratch := regs, window := words, deltas := sums } := by
  unfold writeDst
  split_ifs
  · exact ⟨_, _, _, rfl⟩
  · exact ⟨_, _, _, rfl⟩
  · exact ⟨_, _, _, rfl⟩
  · dsimp only
    split_ifs <;> exact ⟨_, _, _, rfl⟩

/-- A context after an issue: it goes on where the microword's sequencing op takes it. -/
structure Issued (x y : Ctx) : Prop where
  pc : y.pc = x.pc
  stack : y.stack = x.stack
  mayYield : y.mayYield = x.mayYield
  take : y.take = x.take
  issues : y.issues = x.issues
  m : y.m = x.m

/-- The ALUs and their masks leave the sequencing state alone; before COMMIT the words read are added to the read mask. -/
theorem aluPart_issued (n : Nano) (a b : Nat) (f : Bool) : Issued t.ctx (aluPart t n a b f) ∧
    (aluPart t n a b f).r = if t.committed then t.ctx.r else t.ctx.r ||| n.readSet := by
  unfold aluPart
  extract_lets x x1 x2 x3 x4 x5
  obtain ⟨regs, words, sums, h1⟩ := writeDst_shape x4 n t.committed n.aOp n.aDst a
  obtain ⟨regs2, words2, sums2, h2⟩ := writeDst_shape (writeDst x4 n t.committed n.aOp n.aDst a) n t.committed n.bOp n.bDst b
  have h3 : Issued t.ctx x3 ∧ x3.r = t.ctx.r := by
    refine ⟨⟨?_, ?_, ?_, ?_, ?_, ?_⟩, ?_⟩ <;> (simp only [x3, x2, x1, x]; split_ifs <;> rfl)
  have h4 : Issued t.ctx x4 ∧ x4.r = if t.committed then t.ctx.r else t.ctx.r ||| n.readSet := by
    obtain ⟨h3, hr⟩ := h3
    dsimp only [x4]
    split_ifs
    · exact ⟨h3, hr⟩
    · exact ⟨⟨h3.pc, h3.stack, h3.mayYield, h3.take, h3.issues, h3.m⟩, by rw [hr]⟩
  obtain ⟨h4, hr⟩ := h4
  dsimp only [x5]
  rw [h2, h1]
  exact ⟨⟨h4.pc, h4.stack, h4.mayYield, h4.take, h4.issues, h4.m⟩, hr⟩

/-- An effect posts no edit. -/
theorem postFx_edits {x : Ctx} {frame : Bool} {n : Nano} {v : Nat} {p : Posted} (h : postFx x frame n v = .ok p) :
    p.edits = x.posted.edits := by
  unfold postFx at h
  dsimp only at h
  split at h
  case h_9 =>
    cases h
    rfl
  all_goals split_ifs at h <;> cases h <;> rfl

/-! ### One issue slot -/

/-- The state of an issue slot before the sequencing op: the slot is counted, and three free values are drawn. -/
def issueState (s : State) (c : CtxId) : State :=
  ((slotAhead s (48 + c.cluster) 0).gset .gSlotInflight c.cluster (s.cget .gSlotInflight c.cluster + 1)).draw.2.draw.2.draw.2

/-- A nanoword that posts what it posts, reads nothing that has changed and takes no NAT port leads to the sequencing op. -/
theorem runNano_sequence {w : Nat} {n : Nano} (htake : n.fxOp ≠ 3)
    (hread : t.ctx.m &&& (if t.committed then t.ctx.r else t.ctx.r ||| n.readSet) = 0)
    (hfx : ∀ v, ∃ p, postFx t.ctx (t.frame.bind fun i => s.frame? i).isSome n v = .ok p)
    (hedit : ∀ p v, p.edits = t.ctx.posted.edits → ∃ q, postEdit p (t.frame.bind fun i => s.frame? i) n v = .ok q) :
    ∃ x, Issued t.ctx x ∧ runNano s id t c w n = sequence s.draw.2.draw.2.draw.2 id { t with ctx := x } c w := by
  have posts (v : Nat) : postFx t.ctx (t.frame.bind fun i => s.frame? i).isSome n v ≠ .overflow ∧
      postFx t.ctx (t.frame.bind fun i => s.frame? i).isSome n v ≠ .fault := by
    obtain ⟨p, hp⟩ := hfx v
    rw [hp]
    exact ⟨Post.noConfusion, Post.noConfusion⟩
  simp -zeta only [runNano, State.draw]
  extract_lets f op a b x
  split
  · next h => exact absurd h (posts _).1
  · next h => exact absurd h (posts _).2
  · next p hp =>
    have edits (v : Nat) : postEdit p f n v ≠ .overflow ∧ postEdit p f n v ≠ .fault := by
      obtain ⟨q, hq⟩ := hedit p v (postFx_edits hp)
      rw [hq]
      exact ⟨Post.noConfusion, Post.noConfusion⟩
    split
    · next h => exact absurd h (edits _).1
    · next h => exact absurd h (edits _).2
    · next q _ =>
      obtain ⟨kept, reads⟩ := aluPart_issued (t := t) n a b (ttlFails f n.edBase)
      extract_lets u
      have unread : ¬x.m &&& x.r ≠ 0 := by rw [not_not, kept.m, reads, hread]
      rw [if_neg fun h => htake h.1, if_neg unread, if_neg htake]
      exact ⟨{ x with posted := q }, ⟨kept.pc, kept.stack, kept.mayYield, kept.take, kept.issues, kept.m⟩, rfl⟩

/-- A task at the sequencing op of an issue slot: but for its context it is as it was, and the issue is counted. -/
structure AfterIssue (t u : Task) : Prop where
  task : u = { t with ctx := u.ctx }
  pc : u.ctx.pc = t.ctx.pc
  stack : u.ctx.stack = t.ctx.stack
  mayYield : u.ctx.mayYield = t.ctx.mayYield
  issues : u.ctx.issues = t.ctx.issues + 1

/-- An issue slot of a task that meets no fault comes to the sequencing op of its microword. -/
theorem microStep_sequence {seq : Nat} (ht : taskAt s c = some (id, t)) (hpos : t.pos = .running c) (hkind : t.kind.fixed = false)
    (hruns : s.runs (pdCluster c.cluster) = true) (htake : t.ctx.take = none) (hissues : t.ctx.issues < 4096)
    (hseq : seqOf (microAt s t.parity t.ctx.pc) = seq) (hlisted : seq ≤ 0x0C) (hwait : seq ≠ 0x07) (plain : SlotPlain s c t) :
    ∃ u, AfterIssue t u ∧ microStep seq c .good s = sequence (issueState s c) id u c (microAt s t.parity t.ctx.pc) := by
  obtain ⟨micro, nano, codes, window, noTake, reads, posts, edits⟩ := plain
  obtain ⟨x, issued, e⟩ := runNano_sequence (c := c) (id := id) (w := microAt s t.parity t.ctx.pc)
    (s := (slotAhead s (48 + c.cluster) 0).gset .gSlotInflight c.cluster (s.cget .gSlotInflight c.cluster + 1))
    (t := { t with ctx := { t.ctx with issues := t.ctx.issues + 1 } }) noTake reads posts edits
  refine ⟨{ t with ctx := x }, ⟨rfl, issued.pc, issued.stack, issued.mayYield, issued.issues⟩, Eq.trans ?_ e⟩
  have ready : (!t.ctx.windowReady &&
      (readsWindow (nanoAt s t.parity (bits (microAt s t.parity t.ctx.pc) 16 11)) || seq == 0x07)) = false := by
    obtain h | h := window
    · rw [h]; rfl
    · rw [h, beq_false_of_ne hwait]; simp
  unfold microStep
  simp only [ht, hpos, hkind, hruns, htake, hseq, micro, nano, codes, ready, Nat.not_le.2 hissues, hlisted, Nat.not_lt.2 hlisted,
    ne_eq, not_true_eq_false, Bool.false_eq_true, Bool.true_eq_false, or_self, if_true, if_false, reduceCtorEq]

/-- What an issue slot counts and draws. -/
def issueParts : List Part := [.draws, .telem, .ctr .gSlotInflight]

theorem issueState_kept {fr : Nat} (hm : Within (partsMask issueParts) fr) : Kept fr s (issueState s c) :=
  have draws : Within (Part.bit .draws) fr := .trans (by decide +kernel) hm
  (((State.gset_kept _ _ _ (.trans (by decide +kernel) hm) (slotAhead_kept _ _ (.trans (by decide +kernel) hm) (.refl _ _))
    (.trans (by decide +kernel) hm)).draw draws).draw draws).draw draws

/-- An issue slot moves no predecessor. -/
theorem predsDone_issueState {u : Task} (h : AfterIssue t u) : predsDone (issueState s c) id u = predsDone s id t := by
  rw [h.task]
  rfl

/-! ### Sequencing ops (R168) -/

/-- A task at a commit op, which goes on at the next address once its commit is made. -/
def committing (t : Task) : Task := { t with ctx := { t.ctx with pc := t.ctx.pc + 1, take := none } }

section
variable {w seq : Nat}

theorem AfterIssue.pos {u : Task} (h : AfterIssue t u) : u.pos = t.pos := by rw [h.task]

theorem AfterIssue.level {u : Task} (h : AfterIssue t u) : u.level = t.level := by rw [h.task]

theorem AfterIssue.committed {u : Task} (h : AfterIssue t u) : u.committed = t.committed := by rw [h.task]

theorem commitOp_done (hpc : t.ctx.pc < 16383) (done : predsDone s id t = true) :
    commitOp s id t c seq = finishCommit (s.setTask id (some (committing t))) id (committing t) seq := by
  have done : predsDone s id (committing t) = true := done
  rw [commitOp, if_neg (Nat.not_le.2 hpc), ← committing, askCommit, done, Bool.or_true, if_pos rfl]

theorem sequence_checkpoint (h : seqOf w = 0x08) (hstack : t.ctx.stack = []) : sequence s id t c w = commitOp s id t c 0x08 := by
  simp only [sequence, h, hstack, ne_eq, not_true_eq_false, if_false]

theorem sequence_commit (h : seqOf w = 0x0A) (hc : t.committed = false) : sequence s id t c w = commitOp s id t c 0x0A := by
  simp only [sequence, h, hc, Bool.false_eq_true, if_false]

theorem sequence_committed (h : seqOf w = 0x0A) (hc : t.committed = true) : sequence s id t c w = goto s id t (t.ctx.pc + 1) := by
  simp only [sequence, h, hc, if_true]

/-- A task at END. -/
def ending (t : Task) : Task := { t with ctx := { t.ctx with take := none } }

/-- The commit that an END asks for: with REMOVE or without. -/
def endSeq (w : Nat) : Nat := if targetOf w % 2 = 1 then 0x1C else 0x0C

theorem endSeq_ne (w : Nat) : endSeq w ≠ 0x08 := by
  unfold endSeq
  split_ifs <;> decide

theorem sequence_end (h : seqOf w = 0x0C) (htarget : targetOf w / 2 = 0) (done : predsDone s id t = true) :
    sequence s id t c w = finishCommit (s.setTask id (some (ending t))) id (ending t) (endSeq w) := by
  have done : predsDone s id (ending t) = true := done
  simp only [sequence, h, htarget, ne_eq, not_true_eq_false, if_false]
  rw [← endSeq, ← ending, askCommit, done, Bool.or_true, if_pos rfl]

theorem sequence_abort (h : seqOf w = 0x0B) (htarget : targetOf w / 512 = 0) (hreason : reasonOk (targetOf w % 256) = true) :
    sequence s id t c w = abortTask s id t (targetOf w % 256) (bits (targetOf w) 8 1 == 1) := by
  simp only [sequence, h, htarget, hreason, ne_eq, not_true_eq_false, Bool.true_eq_false, or_self, if_false]

theorem sequence_yield (h : seqOf w = 0x09) (hstack : t.ctx.stack = []) (hmay : t.ctx.mayYield = true) (hask : s.churn.preempt = true)
    (hlevel : t.level = 3) : sequence s id t c w = yieldTask s id t := by
  simp only [sequence, h, hstack, hmay, hask, hlevel, ne_eq, not_true_eq_false, if_false, Bool.and_self, beq_self_eq_true, if_true]

end

/-! ### What the ops count -/

/-- What leaves a counter alone can come before the event that it counts. -/
theorem CountedOnce.after {k : Ctr} {i : Nat} {u v : State} (h : CountedOnce k i u v) (before : Kept (maskBut [.ctr k]) s u) :
    CountedOnce k i s v := by
  obtain ⟨z, tenant, first, last⟩ := h
  exact ⟨z, tenant, before.trans first, last⟩

/-- A checkpoint is counted where its task has passed COMMIT as well. -/
theorem checkpointTask_counts {n : Nat} (hn : t.pos.cluster = some n) : CountedOnce .checkpoint n s (checkpointTask s id t) := by
  have record : Kept (maskBut [.ctr .checkpoint]) s (if t.committed then s else commitRecord s id t false) :=
    .ite (fun _ => .refl _ _) fun _ => commitRecord_kept _ _ _ (.of_beq (by decide +kernel)) (.refl _ _)
  refine ⟨_, t.ten, engineSettle_kept n t.ctx.issues false t.ten (.of_beq (by decide +kernel))
    (applyRows_kept t (.of_beq (by decide +kernel)) record), ?_⟩
  unfold checkpointTask
  dsimp only
  rw [hn, Option.getD_some]
  exact settle_kept (.of_beq (by decide +kernel)) (State.setTask_kept _ _ (.of_beq (by decide +kernel)) (.refl _ _))

theorem finishCommit_running (hpos : t.pos = .running c) : finishCommit s id t 0x08 = checkpointTask s id t := by
  simp only [finishCommit, hpos]

theorem yieldTask_counted (hpos : t.pos = .running c) : CountedOnce .yieldTaken c.cluster s (yieldTask s id t) := by
  refine ⟨_, t.ten, loseSegment_kept t (.of_beq (by decide +kernel)) (.refl _ _), ?_⟩
  unfold yieldTask
  dsimp only
  rw [hpos]
  exact readyTask_kept _ _ (.of_beq (by decide +kernel)) (.refl _ _)

theorem readyTask_task : ∃ n, (readyTask s id t).task? id = some { t with pos := .ready n } :=
  ⟨s.churn.readies, setTask_same s id (some { t with pos := .ready s.churn.readies })⟩

/-! ### The rows of the five ops -/

section
variable (ht : taskAt s c = some (id, t)) (hpos : t.pos = .running c) (hkind : t.kind.fixed = false)
  (hruns : s.runs (pdCluster c.cluster) = true) (htake : t.ctx.take = none) (hissues : t.ctx.issues < 4096) (plain : SlotPlain s c t)
include ht hpos hkind hruns htake hissues plain

theorem exec_checkpoint_counts (hseq : seqOf (microAt s t.parity t.ctx.pc) = 0x08) (hstack : t.ctx.stack = [])
    (hpc : t.ctx.pc < 16383) (done : predsDone s id t = true) : Completes (.checkpoint c .good) s fun u =>
      u.cget .checkpoint c.cluster = (s.cget .checkpoint c.cluster + 1) % 2 ^ 48 := by
  obtain ⟨u, issued, e⟩ := microStep_sequence ht hpos hkind hruns htake hissues hseq (by decide) (by decide) plain
  rw [sequence_checkpoint hseq (issued.stack.trans hstack),
    commitOp_done (by rw [issued.pc]; exact hpc) ((predsDone_issueState issued).trans done),
    finishCommit_running (t := committing u) (issued.pos.trans hpos)] at e
  refine ⟨_, congrArg Host.Outcome.next e,
    CountedOnce.cget (.after (checkpointTask_counts (congrArg TaskAt.cluster (issued.pos.trans hpos))) ?_)⟩
  exact State.setTask_kept _ _ (.of_beq (by decide +kernel)) (issueState_kept (.of_beq (by decide +kernel)))

theorem exec_commit_counts (hseq : seqOf (microAt s t.parity t.ctx.pc) = 0x0A) (hpc : t.ctx.pc < 16383) (hcom : t.committed = false)
    (done : predsDone s id t = true) : Completes (.commit c .good) s fun u =>
      u.cget .commit c.cluster = (s.cget .commit c.cluster + 1) % 2 ^ 48 := by
  obtain ⟨u, issued, e⟩ := microStep_sequence ht hpos hkind hruns htake hissues hseq (by decide) (by decide) plain
  rw [sequence_commit hseq (issued.committed.trans hcom),
    commitOp_done (by rw [issued.pc]; exact hpc) ((predsDone_issueState issued).trans done)] at e
  refine ⟨_, congrArg Host.Outcome.next e, CountedOnce.cget (.after (finishCommit_commit (t := committing u) (seq := 0x0A) (by decide)
    (issued.committed.trans hcom) (congrArg TaskAt.cluster (issued.pos.trans hpos))) ?_)⟩
  exact State.setTask_kept _ _ (.of_beq (by decide +kernel)) (issueState_kept (.of_beq (by decide +kernel)))

theorem exec_commit_goesOn (hseq : seqOf (microAt s t.parity t.ctx.pc) = 0x0A) (hpc : t.ctx.pc < 16383) (hcom : t.committed = true) :
    Completes (.commit c .good) s fun u => GoesOn t id u fun x => x.pc = t.ctx.pc + 1 := by
  obtain ⟨u, issued, e⟩ := microStep_sequence ht hpos hkind hruns htake hissues hseq (by decide) (by decide) plain
  rw [sequence_committed hseq (issued.committed.trans hcom), goto, if_neg (by rw [issued.pc]; exact Nat.not_lt.2 hpc)] at e
  refine ⟨_, congrArg Host.Outcome.next e, { u.ctx with pc := u.ctx.pc + 1, take := none }, ?_, rfl, issued.issues,
    congrArg (· + 1) issued.pc⟩
  rw [setTask_same, issued.task]

theorem exec_end_counts (hseq : seqOf (microAt s t.parity t.ctx.pc) = 0x0C) (htarget : targetOf (microAt s t.parity t.ctx.pc) / 2 = 0)
    (hcom : t.committed = false) (done : predsDone s id t = true) : Completes (.end_ c .good) s fun u =>
      u.cget .commit c.cluster = (s.cget .commit c.cluster + 1) % 2 ^ 48 := by
  obtain ⟨u, issued, e⟩ := microStep_sequence ht hpos hkind hruns htake hissues hseq (by decide) (by decide) plain
  rw [sequence_end hseq htarget ((predsDone_issueState issued).trans done)] at e
  refine ⟨_, congrArg Host.Outcome.next e, CountedOnce.cget (.after (finishCommit_commit (t := ending u) (endSeq_ne _)
    (issued.committed.trans hcom) (congrArg TaskAt.cluster (issued.pos.trans hpos))) ?_)⟩
  exact State.setTask_kept _ _ (.of_beq (by decide +kernel)) (issueState_kept (.of_beq (by decide +kernel)))

theorem exec_abort_aborts (hseq : seqOf (microAt s t.parity t.ctx.pc) = 0x0B)
    (htarget : targetOf (microAt s t.parity t.ctx.pc) / 512 = 0)
    (hreason : reasonOk (targetOf (microAt s t.parity t.ctx.pc) % 256) = true) : Completes (.abort c .good) s fun u =>
      u.cget .commit c.cluster = s.cget .commit c.cluster ∧
      ∃ s1 x, s1.frames = s.frames ∧ u = abortTask s1 id { t with ctx := x } (targetOf (microAt s t.parity t.ctx.pc) % 256)
        (bits (targetOf (microAt s t.parity t.ctx.pc)) 8 1 == 1) := by
  obtain ⟨u, issued, e⟩ := microStep_sequence ht hpos hkind hruns htake hissues hseq (by decide) (by decide) plain
  rw [sequence_abort hseq htarget hreason] at e
  have kept : Kept (maskBut [.ctr .commit]) s (microStep 0x0B c .good s) := by
    rw [e]
    exact abortTask_kept _ _ _ _ (.of_beq (by decide +kernel)) (issueState_kept (.of_beq (by decide +kernel)))
  rw [e] at kept
  exact ⟨_, congrArg Host.Outcome.next e, kept.cget _, issueState s c, u.ctx, rfl, by rw [← issued.task]⟩

theorem exec_yield_leaves (hseq : seqOf (microAt s t.parity t.ctx.pc) = 0x09) (hstack : t.ctx.stack = []) (hmay : t.ctx.mayYield = true)
    (hask : s.churn.preempt = true) (hlevel : t.level = 3) : Completes (.yield c .good) s fun u =>
      u.cget .yieldTaken c.cluster = (s.cget .yieldTaken c.cluster + 1) % 2 ^ 48 ∧
      ∃ n, u.task? id = some { t with ctx := { freshCtx t with mayYield := false }, resumes := t.atCommit.isSome, pos := .ready n } := by
  obtain ⟨u, issued, e⟩ := microStep_sequence ht hpos hkind hruns htake hissues hseq (by decide) (by decide) plain
  rw [sequence_yield (s := issueState s c) hseq (issued.stack.trans hstack) (issued.mayYield.trans hmay) hask
    (issued.level.trans hlevel)] at e
  refine ⟨_, congrArg Host.Outcome.next e,
    (CountedOnce.after (yieldTask_counted (issued.pos.trans hpos)) (issueState_kept (.of_beq (by decide +kernel)))).cget, ?_⟩
  rw [issued.task]
  exact readyTask_task

end

end

end Sys2Proof.Machine

open Sys2Proof Sys2Proof.Machine

/-- Settles O17: an issue slot without fault comes to its sequencing op, whose commit or checkpoint is counted once; an abort counts
none, and a yield that leaves makes its task ready with a fresh context. -/
theorem commitsCheckpointsAndAborts : Obligations.CommitsCheckpointsAndAborts :=
  ⟨fun _ _ _ _ ht hpos hkind hruns htake hissues hseq plain hstack hpc done =>
      exec_checkpoint_counts ht hpos hkind hruns htake hissues plain hseq hstack hpc done,
    fun _ _ _ _ ht hpos hkind hruns htake hissues hseq plain hpc =>
      ⟨exec_commit_counts ht hpos hkind hruns htake hissues plain hseq hpc,
        exec_commit_goesOn ht hpos hkind hruns htake hissues plain hseq hpc⟩,
    fun _ _ _ _ ht hpos hkind hruns htake hissues hseq plain htarget hcom done =>
      exec_end_counts ht hpos hkind hruns htake hissues plain hseq htarget hcom done,
    fun _ _ _ _ ht hpos hkind hruns htake hissues hseq plain htarget hreason =>
      exec_abort_aborts ht hpos hkind hruns htake hissues plain hseq htarget hreason,
    fun _ _ _ _ ht hpos hkind hruns htake hissues hseq plain hstack hmay hask hlevel =>
      exec_yield_leaves ht hpos hkind hruns htake hissues plain hseq hstack hmay hask hlevel⟩

end

section
/-! SUPPORT. The dispatcher: the head of the ready lists, the freest cluster and engine, and the first task of a dispatch (R144). -/

namespace Sys2Proof.Machine

section
variable {s : State}

/-! ### The head of the ready lists -/

/-- The better of the head so far and one more task. -/
def firstOf (best : Option (Nat × Task)) (e : Nat × Task) : Option (Nat × Task) :=
  match readySince e.2 with
  | none => best
  | some n => match best with
    | none => some e
    | some b => if e.2.level < b.2.level || (e.2.level == b.2.level && n < (readySince b.2).getD 0) then some e else best

theorem readyHead_eq : readyHead s = (taskList s).foldl firstOf none := rfl

theorem firstOf_notReady {best : Option (Nat × Task)} {e : Nat × Task} (h : readySince e.2 = none) : firstOf best e = best := by
  rw [firstOf, h]

theorem firstOf_first {e : Nat × Task} {n : Nat} (h : readySince e.2 = some n) : firstOf none e = some e := by
  rw [firstOf, h]

/-- A ready task goes no later than another: it is of a lower level, or of the same level and ready for as long. -/
def GoesBefore (a b : Task) : Prop :=
  ∃ n, readySince a = some n ∧ ∀ k, readySince b = some k → a.level < b.level ∨ (a.level = b.level ∧ n ≤ k)

theorem GoesBefore.trans {a b c : Task} (h : GoesBefore a b) (k : GoesBefore b c) : GoesBefore a c := by
  obtain ⟨n, hn, before⟩ := h
  obtain ⟨m, hm, after⟩ := k
  refine ⟨n, hn, fun i hi => ?_⟩
  have := before m hm
  have := after i hi
  omega

theorem goesBefore_self {a : Task} {n : Nat} (h : readySince a = some n) : GoesBefore a a :=
  ⟨n, h, fun _ hk => .inr ⟨rfl, by rw [h] at hk; exact (Option.some.inj hk).le⟩⟩

/-- Of two ready tasks the better goes no later than either. -/
theorem firstOf_better {b e : Nat × Task} {m n : Nat} (hb : readySince b.2 = some m) (he : readySince e.2 = some n) :
    ∃ a, firstOf (some b) e = some a ∧ (a = b ∨ a = e) ∧ GoesBefore a.2 b.2 ∧ GoesBefore a.2 e.2 := by
  simp only [firstOf, he, hb, Option.getD_some]
  split
  · next h =>
    refine ⟨e, rfl, .inr rfl, ⟨n, he, fun k hk => ?_⟩, goesBefore_self he⟩
    rw [hb, Option.some.injEq] at hk
    simp only [Bool.or_eq_true, Bool.and_eq_true, decide_eq_true_eq, beq_iff_eq] at h
    omega
  · next h =>
    refine ⟨b, rfl, .inl rfl, goesBefore_self hb, ⟨m, hb, fun k hk => ?_⟩⟩
    rw [he, Option.some.injEq] at hk
    simp only [Bool.or_eq_true, Bool.and_eq_true, decide_eq_true_eq, beq_iff_eq] at h
    omega

/-- The head of a list of tasks, begun at a ready one, is one of them and goes no later than any. -/
theorem foldl_firstOf_some {l : List (Nat × Task)} {b c : Nat × Task} {m : Nat} (hb : readySince b.2 = some m)
    (h : l.foldl firstOf (some b) = some c) : c ∈ b :: l ∧ ∀ e ∈ b :: l, GoesBefore c.2 e.2 := by
  induction l generalizing b m with
  | nil =>
    obtain rfl := Option.some.inj h
    exact ⟨List.mem_cons_self, fun e he => by rw [List.mem_singleton.1 he]; exact goesBefore_self hb⟩
  | cons x l ih =>
    rw [List.foldl_cons] at h
    cases hx : readySince x.2 with
    | none =>
      rw [firstOf_notReady hx] at h
      obtain ⟨mem, least⟩ := ih hb h
      obtain ⟨n, hn, _⟩ := least b List.mem_cons_self
      refine ⟨List.mem_cons.2 ((List.mem_cons.1 mem).imp_right (List.mem_cons_of_mem x)), fun e he => ?_⟩
      simp only [List.mem_cons] at he
      obtain rfl | rfl | he := he
      · exact least e List.mem_cons_self
      · exact ⟨n, hn, fun k hk => by rw [hx] at hk; cases hk⟩
      · exact least e (List.mem_cons_of_mem _ he)
    | some n =>
      obtain ⟨a, ha, one, before_b, before_x⟩ := firstOf_better hb hx
      rw [ha] at h
      have ready : ∃ k, readySince a.2 = some k := before_b.imp fun _ k => k.1
      obtain ⟨k, hk⟩ := ready
      obtain ⟨mem, least⟩ := ih hk h
      have first := least a List.mem_cons_self
      constructor
      · obtain rfl | mem := List.mem_cons.1 mem
        · obtain rfl | rfl := one <;> simp
        · exact List.mem_cons_of_mem _ (List.mem_cons_of_mem _ mem)
      · intro e he
        simp only [List.mem_cons] at he
        obtain rfl | rfl | he := he
        · exact first.trans before_b
        · exact first.trans before_x
        · exact least e (List.mem_cons_of_mem _ he)

theorem foldl_firstOf_none {l : List (Nat × Task)} {c : Nat × Task} (h : l.foldl firstOf none = some c) :
    c ∈ l ∧ ∀ e ∈ l, GoesBefore c.2 e.2 := by
  induction l with
  | nil => cases h
  | cons x l ih =>
    rw [List.foldl_cons] at h
    cases hx : readySince x.2 with
    | none =>
      rw [firstOf_notReady hx] at h
      obtain ⟨mem, least⟩ := ih h
      obtain ⟨n, hn, _⟩ := least c mem
      refine ⟨List.mem_cons_of_mem x mem, fun e he => ?_⟩
      obtain rfl | he := List.mem_cons.1 he
      · exact ⟨n, hn, fun k hk => by rw [hx] at hk; cases hk⟩
      · exact least e he
    | some n =>
      rw [firstOf_first hx] at h
      exact foldl_firstOf_some hx h

theorem readySince_eq_some {t : Task} {n : Nat} : readySince t = some n ↔ t.pos = .ready n := by
  cases h : t.pos <;> simp [readySince, h]

/-- The task that the dispatcher takes goes no later than any ready task. -/
theorem readyHead_least {id : Nat} {t : Task} (h : readyHead s = some (id, t)) :
    (id, t) ∈ taskList s ∧ ∃ n, t.pos = .ready n ∧
      ∀ e, e ∈ taskList s → ∀ k, e.2.pos = .ready k → t.level < e.2.level ∨ (t.level = e.2.level ∧ n ≤ k) := by
  obtain ⟨mem, least⟩ := foldl_firstOf_none (readyHead_eq.symm.trans h)
  obtain ⟨n, hn, _⟩ := least _ mem
  refine ⟨mem, n, readySince_eq_some.1 hn, fun e he k hk => ?_⟩
  obtain ⟨m, hm, before⟩ := least e he
  obtain rfl := Option.some.inj (hm.symm.trans hn)
  exact before k (readySince_eq_some.2 hk)

/-! ### The freest cluster and engine -/

/-- What is chosen has the greatest value, and the lowest number among equals. -/
theorem argMax_greatest {f : Nat → Nat} {n m : Nat} (h : argMax f n = some m) :
    m < n ∧ 0 < f m ∧ ∀ k, k < n → f k ≤ f m ∧ (k < m → f k < f m) := by
  unfold argMax at h
  split at h
  · next v hv =>
    split_ifs at h with hz
    obtain ⟨_, greatest⟩ := List.max?_eq_some_iff.1 hv
    obtain ⟨hm, mem, first⟩ := List.find?_range_eq_some.1 h
    have value : f m = v := beq_iff_eq.1 hm
    refine ⟨List.mem_range.1 mem, by omega, fun k hk => ?_⟩
    have le : f k ≤ v := greatest _ (List.mem_map_of_mem (List.mem_range.2 hk))
    refine ⟨by omega, fun hlt => ?_⟩
    have ne : f k ≠ v := by simpa using first k hlt
    omega
  · cases h

/-! ### The first task of a dispatch -/

theorem exec_taskDispatch (bad : List Nat) : exec (.taskDispatch bad) s = .next (dispatchLoop 64 s [] bad) := rfl

theorem exec_taskDispatch_idle (bad : List Nat) (h : readyHead s = none) : exec (.taskDispatch bad) s = .next s := by
  have one : dispatchOne s [] bad = (none, s) := by rw [dispatchOne, h]
  rw [exec_taskDispatch, dispatchLoop, one]

theorem exec_taskDispatch_gives {bad : List Nat} {id : Nat} {t : Task} {c : CtxId} (h : readyHead s = some (id, t))
    (hc : chooseCtx s (busyCtxs s) [] t.level = some c) :
    exec (.taskDispatch bad) s = .next (dispatchLoop 63 (giveCtx s id t c (bad.contains c.cluster)) [c.cluster] bad) := by
  have one : dispatchOne s [] bad = (some [c.cluster], giveCtx s id t c (bad.contains c.cluster)) := by
    rw [dispatchOne, h]
    dsimp only
    rw [hc]
  rw [exec_taskDispatch, dispatchLoop, one]

end

end Sys2Proof.Machine

open Sys2Proof Sys2Proof.Machine

/-- Settles O19: the head of the ready lists goes no later than any ready task, the greatest count with the lowest number is chosen,
and the first task of a dispatch takes that context. -/
theorem dispatchOrder : Obligations.DispatchOrder :=
  ⟨fun _ _ _ h => readyHead_least h, fun _ _ _ h => argMax_greatest h, fun _ bad h => exec_taskDispatch_idle bad h,
    fun _ _ _ _ _ h hc => exec_taskDispatch_gives h hc⟩

end

section
/-! SUPPORT. Epoch publishes and their drains, and the bank that is not current (R146, R163, R184 to R187, R264, R352). -/

namespace Sys2Proof.Machine

-- A proof that evaluates in the kernel waits for every declaration before it, and holds a thread while it waits.
set_option Elab.async false

section
variable {s : State}

/-! ### Work and answers -/

theorem workOf_of_cmdWork {set index op : Nat} {st : WorkStage} {w : Work} (h : cmdWork s set index op st = some w) :
    workOf s set 0 index = some w := by
  unfold cmdWork at h
  split at h
  · next v hv =>
    split_ifs at h
    rw [hv, h]
  · cases h

/-- The work of a descriptor, replaced, is what replaces it. -/
theorem workOf_workSet {set ring index : Nat} {w v : Work} (h : workOf s set ring index = some w) (hset : v.set = w.set)
    (hring : v.ring = w.ring) (hindex : v.index = w.index) : workOf (workSet s v) set ring index = some v := by
  have found : (w.set == set && w.ring == ring && w.index == index) = true :=
    List.find?_some (p := fun x : Work => x.set == set && x.ring == ring && x.index == index) h
  have same (x : Work) : ((fun y : Work => y.set == set && y.ring == ring && y.index == index) ∘
      fun x => if x.set == v.set && x.ring == v.ring && x.index == v.index then v else x) x =
      (x.set == set && x.ring == ring && x.index == index) := by
    dsimp only [Function.comp_apply]
    split
    · next hx =>
      simp only [Bool.and_eq_true, beq_iff_eq] at hx
      rw [hx.1.1, hx.1.2, hx.2]
    · rfl
  have e : workOf (workSet s v) set ring index = (workOf s set ring index).map
      fun x => if x.set == v.set && x.ring == v.ring && x.index == v.index then v else x := by
    unfold workOf workSet
    dsimp only
    rw [List.find?_map]
    congr 2
    exact funext same
  rw [e, h, Option.map_some, hset, hring, hindex]
  simp

/-- An event that no answer is read of can go before it. -/
theorem Answered.of_event {f : Fld} {i : Nat} {t : State} {w : Work} {status reason version extra : Nat}
    (hf : .reg f.reg ∉ answerParts) (h : Answered (s.event f i) t w status reason version extra) :
    Answered s t w status reason version extra := by
  have hfget (g : Fld) (hg : .reg g.reg ∈ answerParts) (he : .reg g.reg ∉ evtParts) (j : Nat) :
      (s.event f i).fget g j = s.fget g j := event_fget_ne he (by rintro rfl; exact hf hg) _ _
  obtain ⟨q, d, p, hhost⟩ := event_host s f i
  have htime : (s.event f i).time = s.time := event_same (p := .time) (by decide) f i
  have hcount : (s.event f i).cget .cplWritten w.set = s.cget .cplWritten w.set :=
    event_same (p := .ctr .cplWritten) (by decide) f i _
  have hring : (s.event f i).ring w.set 1 = s.ring w.set 1 := by rw [State.ring, hhost, State.ring]
  have hsize : ringSize (s.event f i) w.set 1 = ringSize s w.set 1 := congrArg (2 ^ ·) (hfget _ (by decide) (by decide) _)
  have hruns : ringRuns (s.event f i) w.set 1 = ringRuns s w.set 1 := by
    simp only [ringRuns, ringOn, setOwner, State.fbit, hring, hhost, hfget .SET_CTL_set_en (by decide) (by decide),
      hfget .RING_CTL_en (by decide) (by decide), hfget .RING_CTL_stopped (by decide) (by decide),
      hfget .RSET_OWNER_owner (by decide) (by decide)]
  have hfull : ringFull (s.event f i) w.set 1 = ringFull s w.set 1 := by simp only [ringFull, hring, hsize]
  have hstamp : (s.event f i).stamp32 = s.stamp32 := by simp only [State.stamp32, State.devNs, htime]
  have hcpls : (s.event f i).host.cpls = s.host.cpls := by rw [hhost]
  rw [Answered, hruns, hfull, hcpls, hcount, hfget .RING_BASE_addr (by decide) (by decide), hring, hsize, hstamp] at h
  intro runs room none kept loud
  obtain ⟨count, written⟩ := h runs room none kept loud
  obtain ⟨l, hl⟩ : s.out <+: (s.event f i).out :=
    (evtUpdate_kept (fr := partsMask evtParts) (.of_beq (by decide +kernel)) (.refl _ (s.fset f i 1))).out
  refine ⟨count, List.mem_of_mem_drop (i := l.length) ?_⟩
  rwa [List.drop_drop, ← List.length_append, hl]

/-! ### An epoch publish (R185, R264) -/

/-- What shows that a publish is accepted. -/
def publishShown (s : State) : State :=
  let u := ((s.fset .PUBLISH_STATUS_parity 0 (1 - parityNow s)).fset .PUBLISH_STATUS_draining 0 1).fset .PUBLISH_STATUS_ready 0 0
  u.fset .PUBLISH_STATUS_publish_seq 0 (u.fget .PUBLISH_STATUS_publish_seq 0 + 1)

theorem drainRefresh_fget {f : Fld} (h : f ≠ .PUBLISH_STATUS_drain_count) (i : Nat) : (drainRefresh s).fget f i = s.fget f i := by
  unfold drainRefresh
  split
  · exact fget_fset_ne h _ _ _
  · rfl

theorem drainRefresh_churn : (drainRefresh s).churn = s.churn := by
  unfold drainRefresh
  split <;> rfl

theorem publishNow_fget {f : Fld} (h : f ≠ .PUBLISH_STATUS_drain_count) (i : Nat) :
    (publishNow s).fget f i = (publishShown s).fget f i := drainRefresh_fget h i

theorem publishNow_churn : (publishNow s).churn = { s.churn with drainFrom := some s.now } := drainRefresh_churn

/-- A command waits for the end of the drain. -/
def addPublisher (s : State) (p : Nat × Nat) : State :=
  { s with churn := { s.churn with publishers := s.churn.publishers ++ [p] } }

theorem addPublisher_fget (p : Nat × Nat) (f : Fld) (i : Nat) : (addPublisher s p).fget f i = s.fget f i := rfl

theorem addPublisher_kept (p : Nat × Nat) :
    (addPublisher s p).host = s.host ∧ (addPublisher s p).out = s.out ∧ (addPublisher s p).churn.drainFrom = s.churn.drainFrom :=
  ⟨rfl, rfl, rfl⟩

theorem addPublisher_publishers (p : Nat × Nat) : (addPublisher s p).churn.publishers = s.churn.publishers ++ [p] := rfl

/-- The state of an accepted publish: its command's completion is owed until the old parity has drained. -/
def published (s : State) (set index : Nat) (w : Work) : State :=
  addPublisher (publishNow (workSet s { w with stage := .owed })) (set, index)

section
variable {set index : Nat} {w : Work}

theorem exec_epochPublish_accepted (hw : cmdWork s set index 0x18 .fetched = some w) (hl : setLimited s set = false)
    (hready : s.fbit .PUBLISH_STATUS_ready 0 = true) : exec (.epochPublish set index) s = .next (published s set index w) := by
  have e : exec (.epochPublish set index) s = execEpochPublish set index s := rfl
  rw [e, execEpochPublish, hw]
  dsimp only
  rw [hl, hready, if_neg Bool.false_ne_true, if_neg Bool.noConfusion]
  rfl

theorem exec_epochPublish_busy (hw : cmdWork s set index 0x18 .fetched = some w) (hl : setLimited s set = false)
    (hready : s.fbit .PUBLISH_STATUS_ready 0 = false) :
    exec (.epochPublish set index) s = .next (cmdComplete (s.event .PUBLISH_STATUS_busy_event 0) w 5 0 0 0) := by
  have e : exec (.epochPublish set index) s = execEpochPublish set index s := rfl
  rw [e, execEpochPublish, hw]
  dsimp only
  rw [hl, hready, if_neg Bool.false_ne_true, if_pos rfl]

theorem published_fget {f : Fld} (h : f ≠ .PUBLISH_STATUS_drain_count) (i : Nat) :
    (published s set index w).fget f i = (publishShown (workSet s { w with stage := .owed })).fget f i :=
  (addPublisher_fget _ _ _).trans (publishNow_fget (s := workSet s { w with stage := .owed }) h i)

theorem publishShown_shows : parityNow (publishShown s) = (1 - parityNow s) % 2 ∧
    (publishShown s).fget .PUBLISH_STATUS_ready 0 = 0 ∧ (publishShown s).fget .PUBLISH_STATUS_draining 0 = 1 ∧
    (publishShown s).fget .PUBLISH_STATUS_publish_seq 0 =
      (s.fget .PUBLISH_STATUS_publish_seq 0 + 1) % 2 ^ Fld.PUBLISH_STATUS_publish_seq.info.width := by
  refine ⟨?_, ?_, ?_, ?_⟩
  · rw [parityNow, publishShown, fget_fset_ne (by decide), fget_fset_ne (by decide), fget_fset_ne (by decide), fget_fset_same]
    rfl
  · rw [publishShown, fget_fset_ne (by decide), fget_fset_same]
    rfl
  · rw [publishShown, fget_fset_ne (by decide), fget_fset_ne (by decide), fget_fset_same]
    rfl
  · rw [publishShown, fget_fset_same, fget_fset_ne (by decide), fget_fset_ne (by decide), fget_fset_ne (by decide)]

theorem published_shows : parityNow (published s set index w) = (1 - parityNow s) % 2 ∧
    (published s set index w).fget .PUBLISH_STATUS_ready 0 = 0 ∧ (published s set index w).fget .PUBLISH_STATUS_draining 0 = 1 ∧
    (published s set index w).fget .PUBLISH_STATUS_publish_seq 0 =
      (s.fget .PUBLISH_STATUS_publish_seq 0 + 1) % 2 ^ Fld.PUBLISH_STATUS_publish_seq.info.width := by
  obtain ⟨parity, ready, draining, seq⟩ := publishShown_shows (s := workSet s { w with stage := .owed })
  exact ⟨(published_fget (by decide) 0).trans parity, (published_fget (by decide) 0).trans ready,
    (published_fget (by decide) 0).trans draining, (published_fget (by decide) 0).trans seq⟩

theorem published_churn : (published s set index w).churn.drainFrom = some s.now ∧
    (published s set index w).churn.publishers = s.churn.publishers ++ [(set, index)] := by
  have h : (publishNow (workSet s { w with stage := .owed })).churn = { s.churn with drainFrom := some s.now } := publishNow_churn
  obtain ⟨-, -, start⟩ := addPublisher_kept (s := publishNow (workSet s { w with stage := .owed })) (set, index)
  refine ⟨start.trans ?_, (addPublisher_publishers _).trans ?_⟩
  · rw [h]
  · rw [h]

/-- The completion of an accepted publish is owed, and nothing leaves the device. -/
theorem published_owes (hw : workOf s set 0 index = some w) :
    workOf (published s set index w) set 0 index = some { w with stage := .owed } ∧ (published s set index w).out = s.out := by
  have kept : Kept (maskBut [.host, .out]) (workSet s { w with stage := .owed }) (publishNow (workSet s { w with stage := .owed })) :=
    publishNow_kept (.of_beq (by decide +kernel)) (.refl _ _)
  obtain ⟨host, out, -⟩ := addPublisher_kept (s := publishNow (workSet s { w with stage := .owed })) (set, index)
  have hhost : (published s set index w).host = (workSet s { w with stage := .owed }).host :=
    host.trans (kept.same_of_but (p := .host) (by decide))
  refine ⟨?_, out.trans (kept.same_of_but (p := .out) (by decide))⟩
  rw [workOf, hhost, ← workOf]
  exact workOf_workSet hw rfl rfl rfl

theorem epochPublish_accepted (hw : cmdWork s set index 0x18 .fetched = some w) (hl : setLimited s set = false)
    (hready : s.fbit .PUBLISH_STATUS_ready 0 = true) : Completes (.epochPublish set index) s fun t =>
      parityNow t = (1 - parityNow s) % 2 ∧ t.fget .PUBLISH_STATUS_ready 0 = 0 ∧ t.fget .PUBLISH_STATUS_draining 0 = 1 ∧
      t.fget .PUBLISH_STATUS_publish_seq 0 =
        (s.fget .PUBLISH_STATUS_publish_seq 0 + 1) % 2 ^ Fld.PUBLISH_STATUS_publish_seq.info.width ∧
      t.churn.drainFrom = some s.now ∧ t.churn.publishers = s.churn.publishers ++ [(set, index)] ∧
      workOf t set 0 index = some { w with stage := .owed } ∧ t.out = s.out := by
  obtain ⟨parity, ready, draining, seq⟩ := published_shows (s := s) (set := set) (index := index) (w := w)
  obtain ⟨start, waiting⟩ := published_churn (s := s) (set := set) (index := index) (w := w)
  exact ⟨_, exec_epochPublish_accepted hw hl hready, parity, ready, draining, seq, start, waiting,
    published_owes (workOf_of_cmdWork hw)⟩

theorem epochPublish_busy (hw : cmdWork s set index 0x18 .fetched = some w) (hl : setLimited s set = false)
    (hready : s.fbit .PUBLISH_STATUS_ready 0 = false) : Completes (.epochPublish set index) s fun t =>
      parityNow t = parityNow s ∧ t.fget .PUBLISH_STATUS_busy_event 0 = 1 ∧ t.churn = s.churn ∧ Answered s t w 5 0 0 0 := by
  have kept : Kept (maskBut [.churn, .reg .PUBLISH_STATUS]) (s.event .PUBLISH_STATUS_busy_event 0)
      (cmdComplete (s.event .PUBLISH_STATUS_busy_event 0) w 5 0 0 0) :=
    cmdComplete_kept _ _ _ _ _ (.of_beq (by decide +kernel)) (.refl _ _)
  have status {f : Fld} (hf : f.reg = .PUBLISH_STATUS) :
      (cmdComplete (s.event .PUBLISH_STATUS_busy_event 0) w 5 0 0 0).fget f 0 = (s.event .PUBLISH_STATUS_busy_event 0).fget f 0 :=
    kept.same_of_but (p := .reg .PUBLISH_STATUS) (by decide) f 0 hf
  exact ⟨_, exec_epochPublish_busy hw hl hready, (status rfl).trans (event_fget_ne (by decide) (by decide) _ _),
    (status rfl).trans (event_fget_same (by decide) (by decide) _),
    (kept.same_of_but (p := .churn) (by decide)).trans (event_same (p := .churn) (by decide) _ _),
    .of_event (by decide) cmdComplete_answered⟩

/-! ### DRAIN_SET (R262) -/

/-- What a DRAIN_SET sets before it completes. -/
def drainDeclared (s : State) (w : Work) : State := updShow (s.fset .HIF_STATUS_drain_declared 0 (bits w.desc 32 1))

theorem exec_drainSet (hw : cmdWork s set index 0x20 .fetched = some w) (hl : setLimited s set = false) :
    exec (.drainSet set index) s = .next (cmdComplete (drainDeclared s w) w 0 0 0 0) := by
  have e : exec (.drainSet set index) s = execDrainSet set index s := rfl
  rw [e, execDrainSet, hw]
  dsimp only
  rw [hl, if_neg Bool.false_ne_true, ← drainDeclared]

theorem drainSet_declares (hw : cmdWork s set index 0x20 .fetched = some w) (hl : setLimited s set = false) :
    Completes (.drainSet set index) s fun t =>
      t.fget .HIF_STATUS_drain_declared 0 = bits w.desc 32 1 ∧ Answered s t w 0 0 0 0 := by
  have shown : (drainDeclared s w).fget .HIF_STATUS_drain_declared 0 = bits w.desc 32 1 :=
    (updShow_fget (by decide) 0).trans ((fget_fset_same _ _ _ _).trans (Nat.mod_eq_of_lt (bits_lt _ _ _)))
  have completed : Kept (maskBut [.reg .HIF_STATUS]) (drainDeclared s w) (cmdComplete (drainDeclared s w) w 0 0 0 0) :=
    cmdComplete_kept _ _ _ _ _ (.of_beq (by decide +kernel)) (.refl _ _)
  have declared : Kept (maskBut answerParts) s (drainDeclared s w) :=
    updShow_kept (.of_beq (by decide +kernel)) (.field _ _ _ (.refl _ _) (.of_beq (by decide +kernel)))
  exact ⟨_, exec_drainSet hw hl, (completed.same_of_but (p := .reg .HIF_STATUS) (by decide) _ _ rfl).trans shown,
    cmdComplete_answered.of_kept declared⟩

end

/-! ### What leaves the start of a drain as it is -/

section
variable {id : Nat} {x : Task}

theorem Kept.drainFrom {u : State} (h : Kept (maskBut [.churn]) s u) : u.churn.drainFrom = s.churn.drainFrom :=
  congrArg Churn.drainFrom (h.same_of_but (p := .churn) (by decide))

theorem foldl_drainFrom {α : Type} {f : State → α → State} (hf : ∀ s x, (f s x).churn.drainFrom = s.churn.drainFrom) (l : List α)
    (s : State) : (l.foldl f s).churn.drainFrom = s.churn.drainFrom :=
  List.foldlRecOn l f (motive := fun u : State => u.churn.drainFrom = s.churn.drainFrom) rfl fun u h x _ => (hf u x).trans h

theorem setTask_drainFrom (x : Option Task) : (s.setTask id x).churn.drainFrom = s.churn.drainFrom := rfl

theorem readyTask_drainFrom : (readyTask s id x).churn.drainFrom = s.churn.drainFrom := rfl

theorem placeTask_drainFrom : (placeTask s id x).churn.drainFrom = s.churn.drainFrom := by
  unfold placeTask
  split
  · exact setTask_drainFrom _
  · exact readyTask_drainFrom

theorem newTask_drainFrom : (newTask s x).churn.drainFrom = s.churn.drainFrom := placeTask_drainFrom

theorem wake_drainFrom : (wake s).churn.drainFrom = s.churn.drainFrom := foldl_drainFrom (fun _ _ => readyTask_drainFrom) _ _

theorem startTask_drainFrom (w : Waiter) (n : Nat) : (startTask s w n).churn.drainFrom = s.churn.drainFrom := by
  cases w with
  | frame f => exact newTask_drainFrom.trans (State.modFrame_kept _ _ (.of_beq (by decide +kernel)) (.refl _ _)).drainFrom
  | cmd set i =>
    unfold startTask
    dsimp only
    split
    · rfl
    · exact newTask_drainFrom.trans (workSet_kept _ (.of_beq (by decide +kernel)) (.refl _ _)).drainFrom

theorem startAll_drainFrom (l : List Waiter) (n : Nat) : (startAll s l n).churn.drainFrom = s.churn.drainFrom :=
  foldl_drainFrom (fun _ w => startTask_drainFrom w n) _ _

theorem tryFill_drainFrom {k : Key} {m : Miss} {u : State} (h : tryFill s k m = some u) : u.churn.drainFrom = s.churn.drainFrom := by
  unfold tryFill at h
  split at h
  · cases h
  · next n words dirty _ =>
    obtain ⟨v, hv, rfl⟩ := Option.map_eq_some_iff.1 h
    have filled : Kept (maskBut [.churn]) s v := fillWay_kept n words dirty (.of_beq (by decide +kernel)) (.refl _ _) v hv
    exact (startAll_drainFrom _ _).trans (freeEntry_kept k (.of_beq (by decide +kernel)) filled).drainFrom

theorem tryFill_getD_drainFrom {k : Key} {m : Miss} {u : State} (h : u.churn.drainFrom = s.churn.drainFrom) :
    ((tryFill s k m).getD u).churn.drainFrom = s.churn.drainFrom := by
  cases hf : tryFill s k m with
  | none => exact h
  | some v => exact tryFill_drainFrom hf

theorem retryEntry_drainFrom (k : Key) : (retryEntry s k).churn.drainFrom = s.churn.drainFrom := by
  unfold retryEntry
  split
  · rfl
  · next m _ =>
    split
    · exact tryFill_getD_drainFrom rfl
    · split_ifs
      · rfl
      · rfl
      · exact (wbPush_kept _ _ (.of_beq (by decide +kernel)) (freeEntry_kept k (.of_beq (by decide +kernel)) (.refl _ _))).drainFrom
      · exact (freeEntry_kept k (.of_beq (by decide +kernel)) (.refl _ _)).drainFrom
      · exact tryFill_getD_drainFrom rfl
    · rfl

theorem settle_drainFrom : (settle s).churn.drainFrom = s.churn.drainFrom :=
  wake_drainFrom.trans (foldl_drainFrom (fun _ k => retryEntry_drainFrom k) _ _)

theorem natFree_drainFrom (p port tenant : Nat) : (natFree s p port tenant).churn.drainFrom = s.churn.drainFrom :=
  (natCount_kept _ _ _ (.of_beq (by decide +kernel)) (.refl _ _)).drainFrom

theorem loseSegment_drainFrom : (loseSegment s x).churn.drainFrom = s.churn.drainFrom := by
  have undone : (natUndo s x (x.pos.cluster.getD 0)).churn.drainFrom = s.churn.drainFrom := foldl_drainFrom (fun _ _ =>
    (State.count_kept _ _ _ _ (.of_beq (by decide +kernel)) (.refl _ _) (.of_beq (by decide +kernel))).drainFrom.trans
      (natFree_drainFrom _ _ _)) _ _
  exact (engineSettle_kept _ _ _ _ (.of_beq (by decide +kernel)) (.refl _ _)).drainFrom.trans undone

theorem startVisit_drainFrom (w : Walker) (n : Nat) : (startVisit s w n).churn.drainFrom = s.churn.drainFrom := newTask_drainFrom

theorem reissue_drainFrom : (reissue s x).churn.drainFrom = s.churn.drainFrom := by
  unfold reissue
  split
  · extract_lets words due
    split
    · exact newTask_drainFrom
    · rfl
  · exact startVisit_drainFrom _ _
  · exact newTask_drainFrom
  · rfl

end

/-! ### The drain limit (R186) -/

/-- The tasks that the drain limit cancels: of level 3 and the old parity, no frame's, in no context. -/
def overdue (s : State) : List (Nat × Task) :=
  (taskList s).filter (fun e => e.2.level == 3 && e.2.parity != parityNow s && e.2.frame.isNone &&
    (match e.2.pos with | .held => true | .ready _ => true | .buffered _ _ => true | _ => false))

/-- The limit acts once, and shows that it cut the drain. -/
def drainCut (s : State) : State :=
  let u := { s with churn := { s.churn with drainFrom := none } }
  if (overdue s).isEmpty then u else u.event .PUBLISH_STATUS_drain_cut_event 0

/-- A task that the limit cancels. -/
def cutTask (s : State) (e : Nat × Task) : State :=
  (match e.2.pos.cluster with
    | some c => (loseSegment s e.2).count .cancelInFlight c 1 e.2.ten
    | none => s.count .cancelBeforeDispatch 0 1 e.2.ten).setTask e.1 none

/-- The limit's tasks are cancelled and issued again. -/
def drainLimited (s : State) (l : List (Nat × Task)) : State :=
  settle (l.foldl (fun s e => reissue s e.2) (drainRefresh (l.foldl cutTask s)))

theorem exec_drainLimitExpire {t0 : Nat} (h : s.churn.drainFrom = some t0)
    (hlate : t0 + 1000 * s.fget .PUBLISH_CFG_drain_limit_us 0 ≤ s.now) :
    exec .drainLimitExpire s = .next (drainLimited (drainCut s) (overdue s)) := by
  have e : exec .drainLimitExpire s = execDrainLimitExpire s := rfl
  rw [e, execDrainLimitExpire, h]
  dsimp only
  rw [if_neg (Nat.not_lt.2 hlate)]
  rfl

theorem cutTask_drainFrom (e : Nat × Task) : (cutTask s e).churn.drainFrom = s.churn.drainFrom := by
  unfold cutTask
  refine (setTask_drainFrom none).trans ?_
  split
  · exact (State.count_kept _ _ _ _ (.of_beq (by decide +kernel)) (.refl _ _) (.of_beq (by decide +kernel))).drainFrom.trans
      loseSegment_drainFrom
  · exact (State.count_kept _ _ _ _ (.of_beq (by decide +kernel)) (.refl _ _) (.of_beq (by decide +kernel))).drainFrom

theorem drainLimited_drainFrom (l : List (Nat × Task)) : (drainLimited s l).churn.drainFrom = s.churn.drainFrom :=
  settle_drainFrom.trans ((foldl_drainFrom (fun _ _ => reissue_drainFrom) _ _).trans
    ((congrArg Churn.drainFrom drainRefresh_churn).trans (foldl_drainFrom (fun _ e => cutTask_drainFrom e) _ _)))

theorem cutTask_status (e : Nat × Task) : Kept (maskBut [.reg .PUBLISH_STATUS]) s (cutTask s e) := by
  unfold cutTask
  refine State.setTask_kept _ _ (.of_beq (by decide +kernel)) ?_
  split
  · exact State.count_kept _ _ _ _ (.of_beq (by decide +kernel)) (loseSegment_kept _ (.of_beq (by decide +kernel)) (.refl _ _))
      (.of_beq (by decide +kernel))
  · exact State.count_kept _ _ _ _ (.of_beq (by decide +kernel)) (.refl _ _) (.of_beq (by decide +kernel))

theorem foldl_status {α : Type} {f : State → α → State} (hf : ∀ s x, Kept (maskBut [.reg .PUBLISH_STATUS]) s (f s x)) (l : List α)
    (s : State) : Kept (maskBut [.reg .PUBLISH_STATUS]) s (l.foldl f s) :=
  List.foldlRecOn l f (.refl _ _) fun u h x _ => h.trans (hf u x)

theorem Kept.status {u : State} (h : Kept (maskBut [.reg .PUBLISH_STATUS]) s u) {f : Fld} (hf : f.reg = .PUBLISH_STATUS) (i : Nat) :
    u.fget f i = s.fget f i := h.same_of_but (p := .reg .PUBLISH_STATUS) (by decide) f i hf

theorem drainLimited_cut_event (l : List (Nat × Task)) :
    (drainLimited s l).fget .PUBLISH_STATUS_drain_cut_event 0 = s.fget .PUBLISH_STATUS_drain_cut_event 0 := by
  have issued : Kept (maskBut [.reg .PUBLISH_STATUS]) (drainRefresh (l.foldl cutTask s)) (drainLimited s l) :=
    settle_kept (.of_beq (by decide +kernel))
      (foldl_status (fun u (e : Nat × Task) => reissue_kept e.2 (.of_beq (by decide +kernel)) (.refl _ u)) l _)
  exact (issued.status rfl 0).trans ((drainRefresh_fget (by decide) 0).trans
    ((foldl_status (fun _ e => cutTask_status e) l s).status rfl 0))

theorem drainCut_drainFrom : (drainCut s).churn.drainFrom = none := by
  unfold drainCut
  split
  · rfl
  · exact congrArg Churn.drainFrom (event_same (p := .churn) (by decide) _ _)

theorem drainCut_event (h : overdue s ≠ []) : (drainCut s).fget .PUBLISH_STATUS_drain_cut_event 0 = 1 := by
  unfold drainCut
  rw [if_neg (by rwa [List.isEmpty_iff])]
  exact event_fget_same (by decide) (by decide) 0

theorem overdue_of_ready {id n : Nat} {x : Task} (hx : (id, x) ∈ taskList s) (hlevel : x.level = 3) (hold : x.parity ≠ parityNow s)
    (hframe : x.frame = none) (hpos : x.pos = .ready n) : overdue s ≠ [] := by
  refine List.ne_nil_of_mem (a := (id, x)) (List.mem_filter.2 ⟨hx, ?_⟩)
  simp [hlevel, hold, hframe, hpos]

theorem drainLimit_acts_once {t0 : Nat} (h : s.churn.drainFrom = some t0)
    (hlate : t0 + 1000 * s.fget .PUBLISH_CFG_drain_limit_us 0 ≤ s.now) : Completes .drainLimitExpire s fun t =>
      t.churn.drainFrom = none ∧
      ((∃ id x n, (id, x) ∈ taskList s ∧ x.level = 3 ∧ x.parity ≠ parityNow s ∧ x.frame = none ∧ x.pos = .ready n) →
        t.fget .PUBLISH_STATUS_drain_cut_event 0 = 1) := by
  refine ⟨_, exec_drainLimitExpire h hlate, (drainLimited_drainFrom _).trans drainCut_drainFrom, ?_⟩
  rintro ⟨id, x, n, hx, hlevel, hold, hframe, hpos⟩
  exact (drainLimited_cut_event _).trans (drainCut_event (overdue_of_ready hx hlevel hold hframe hpos))

/-! ### The other bank (R186, R187, R352) -/

theorem bankIdle_fget {f : Fld} (hs : f ≠ .PUBLISH_STATUS_staging) (hr : f ≠ .PUBLISH_STATUS_ready) (i : Nat) :
    (bankIdle s).fget f i = s.fget f i := by
  unfold bankIdle
  split
  · exact (fget_fset_ne hr _ _ _).trans (fget_fset_ne hs _ _ _)
  · dsimp only
    split
    · exact (fget_fset_ne hr _ _ _).trans (fget_fset_ne hs _ _ _)
    · exact (fget_fset_ne hr _ _ _).trans (fget_fset_ne hs _ _ _)

theorem bankIdle_drain : (bankIdle s).churn.publishers = s.churn.publishers ∧ (bankIdle s).churn.drainFrom = s.churn.drainFrom := by
  unfold bankIdle
  split
  · exact ⟨rfl, rfl⟩
  · dsimp only
    split
    · exact ⟨rfl, rfl⟩
    · exact ⟨rfl, rfl⟩

/-- With no ticket the other bank waits for the next publish. -/
theorem bankIdle_ready (h : s.images.ticket = none) : (bankIdle s).churn = s.churn ∧
    (bankIdle s).fget .PUBLISH_STATUS_staging 0 = 0 ∧ (bankIdle s).fget .PUBLISH_STATUS_ready 0 = 1 := by
  unfold bankIdle
  rw [h]
  exact ⟨rfl, (fget_fset_ne (by decide) _ _ _).trans (fget_fset_same _ _ _ _), fget_fset_same _ _ _ _⟩

theorem activationSettle_none (h : s.images.activation = none) : activationSettle s = s := by
  unfold activationSettle
  rw [h]

/-- A drain has ended, before its commands complete. -/
def drainEnded (s : State) : State :=
  let u := (s.fset .PUBLISH_STATUS_draining 0 0).fset .PUBLISH_STATUS_drain_count 0 0
  { u with churn := { u.churn with publishers := [], drainFrom := none } }

theorem drainEnded_fget (f : Fld) : (drainEnded s).fget f 0 =
    ((s.fset .PUBLISH_STATUS_draining 0 0).fset .PUBLISH_STATUS_drain_count 0 0).fget f 0 := rfl

theorem drainDone_eq : drainDone s =
    let u := completePublishers (drainEnded s) s.churn.publishers
    if u.churn.bank0 = u.churn.bank1 then bankIdle u else u.fset .PUBLISH_STATUS_staging 0 1 := rfl

theorem drainDone_ends : (drainDone s).fget .PUBLISH_STATUS_draining 0 = 0 ∧ (drainDone s).churn.publishers = [] ∧
    (drainDone s).churn.drainFrom = none := by
  have kept : Kept (maskBut [.churn, .reg .PUBLISH_STATUS]) (drainEnded s) (completePublishers (drainEnded s) s.churn.publishers) :=
    completePublishers_kept _ (.of_beq (by decide +kernel)) (.refl _ _)
  have ended : (completePublishers (drainEnded s) s.churn.publishers).churn = (drainEnded s).churn :=
    kept.same_of_but (p := .churn) (by decide)
  have shown : (completePublishers (drainEnded s) s.churn.publishers).fget .PUBLISH_STATUS_draining 0 = 0 :=
    (kept.same_of_but (p := .reg .PUBLISH_STATUS) (by decide) .PUBLISH_STATUS_draining 0 rfl).trans
      ((drainEnded_fget _).trans ((fget_fset_ne (by decide) _ _ _).trans (fget_fset_same _ _ _ _)))
  rw [drainDone_eq]
  dsimp only
  split
  · obtain ⟨waiting, start⟩ := bankIdle_drain (s := completePublishers (drainEnded s) s.churn.publishers)
    exact ⟨(bankIdle_fget (by decide) (by decide) 0).trans shown, waiting.trans (congrArg Churn.publishers ended),
      start.trans (congrArg Churn.drainFrom ended)⟩
  · exact ⟨(fget_fset_ne (by decide) _ _ _).trans shown, congrArg Churn.publishers ended, congrArg Churn.drainFrom ended⟩

theorem drainDone_images : (drainDone s).images = s.images :=
  (drainDone_kept (fr := maskBut [.images]) (.of_beq (by decide +kernel)) (.refl _ s)).same_of_but (p := .images) (by decide)

theorem exec_drainComplete (hd : s.fbit .PUBLISH_STATUS_draining 0 = true) (h0 : drainCount s = 0)
    (ha : s.images.activation = none) : exec .drainComplete s = .next (drainDone s) := by
  have e : exec .drainComplete s = execDrainComplete s := rfl
  rw [e, execDrainComplete, if_pos ⟨hd, h0⟩, activationSettle_none (by rw [drainDone_images, ha])]

/-- The bank that drained, restaged with the active bundle. -/
def mirrored (s : State) : State :=
  { s with churn := if parityNow s = 0 then { s.churn with bank1 := s.churn.bank0 } else { s.churn with bank0 := s.churn.bank1 } }

theorem mirrored_banks : (mirrored s).churn.bank0 = (mirrored s).churn.bank1 := by
  unfold mirrored
  dsimp only
  split
  · rfl
  · rfl

theorem mirrorDone_images : (mirrorDone s).images = s.images :=
  (mirrorDone_kept (fr := maskBut [.images]) (.of_beq (by decide +kernel)) (.refl _ s)).same_of_but (p := .images) (by decide)

theorem exec_bankMirrorComplete (hs : s.fbit .PUBLISH_STATUS_staging 0 = true) (hi : s.churn.incoming = none)
    (hr : s.runs pdMgmt = true) (ha : s.images.activation = none) : exec .bankMirrorComplete s = .next (bankIdle (mirrored s)) := by
  have e : exec .bankMirrorComplete s = execBankMirrorComplete s := rfl
  rw [e, execBankMirrorComplete, if_pos ⟨hs, hi, hr⟩, activationSettle_none (by rw [mirrorDone_images, ha])]
  rfl

theorem bankMirror_ends_staging (hs : s.fbit .PUBLISH_STATUS_staging 0 = true) (hi : s.churn.incoming = none)
    (hr : s.runs pdMgmt = true) (ht : s.images.ticket = none) (ha : s.images.activation = none) :
    Completes .bankMirrorComplete s fun t =>
      t.churn.bank0 = t.churn.bank1 ∧ t.fget .PUBLISH_STATUS_staging 0 = 0 ∧ t.fget .PUBLISH_STATUS_ready 0 = 1 := by
  obtain ⟨banks, staging, ready⟩ := bankIdle_ready (s := mirrored s) ht
  exact ⟨_, exec_bankMirrorComplete hs hi hr ha, by rw [banks]; exact mirrored_banks, staging, ready⟩

/-- The bank that is not current, with the bundle that was written to it. -/
def staged (s : State) (b : Bundle) : State :=
  let c := { s.churn with incoming := none }
  { s with churn := if parityNow s = 0 then { c with bank1 := b } else { c with bank0 := b } }

theorem staged_bank (b : Bundle) : (if parityNow s = 0 then (staged s b).churn.bank1 else (staged s b).churn.bank0) = b ∧
    (staged s b).churn.incoming = none := by
  unfold staged
  dsimp only
  split
  · exact ⟨rfl, rfl⟩
  · exact ⟨rfl, rfl⟩

theorem exec_bundleStagingComplete {b : Bundle} (hs : s.fbit .PUBLISH_STATUS_staging 0 = true) (hi : s.churn.incoming = some b)
    (hr : s.runs pdMgmt = true) (ht : s.images.ticket = none) :
    exec .bundleStagingComplete s = .next (bankIdle (staged s b)) := by
  have e : exec .bundleStagingComplete s = execBundleStagingComplete s := rfl
  rw [e, execBundleStagingComplete, hi]
  dsimp only
  rw [hs, hr, if_neg (by simp), ht, Option.map_none, ← ht]
  rfl

theorem bundleStaging_ends_staging {b : Bundle} (hs : s.fbit .PUBLISH_STATUS_staging 0 = true) (hi : s.churn.incoming = some b)
    (hr : s.runs pdMgmt = true) (ht : s.images.ticket = none) : Completes .bundleStagingComplete s fun t =>
      (if parityNow s = 0 then t.churn.bank1 else t.churn.bank0) = b ∧ t.churn.incoming = none ∧
      t.fget .PUBLISH_STATUS_staging 0 = 0 ∧ t.fget .PUBLISH_STATUS_ready 0 = 1 := by
  obtain ⟨banks, staging, ready⟩ := bankIdle_ready (s := staged s b) ht
  obtain ⟨bank, incoming⟩ := staged_bank (s := s) b
  exact ⟨_, exec_bundleStagingComplete hs hi hr ht, by rw [banks]; exact bank, by rw [banks]; exact incoming, staging, ready⟩

end
end Sys2Proof.Machine

open Sys2Proof Sys2Proof.Machine

/-- Settles O24: a publish leaves its command owed, the limit clears the start of the drain before it cancels anything, and each
bank's completion ends in the idle bank that no ticket asks for. -/
theorem publishesFlipAndDrain : Obligations.PublishesFlipAndDrain := by
  unfold Obligations.PublishesFlipAndDrain
  refine ⟨fun s set index w hw hl => ⟨epochPublish_accepted hw hl, epochPublish_busy hw hl⟩,
    fun s set index w hw hl => drainSet_declares hw hl, fun s t0 h hlate => drainLimit_acts_once h hlate,
    fun s hd h0 ha => ⟨_, exec_drainComplete hd h0 ha, drainDone_ends⟩,
    fun s hs hi hr ht ha => bankMirror_ends_staging hs hi hr ht ha,
    fun s b hs hi hr ht => bundleStaging_ends_staging hs hi hr ht⟩

end

section
/-! SUPPORT. The start sequence: a step's clock, its release, and a start that fails (R164, R322, R325, R326, R330, R342). -/

namespace Sys2Proof.Machine

-- A proof that evaluates in the kernel waits for every declaration before it, and holds a thread while it waits.
set_option Elab.async false

section
variable {s : State} {n : Nat}

/-! ### A source that asserts (R319, R320) -/

/-- The cause bits of a list of sources are set. -/
def causesSet (s : State) (l : List ResetSource) : State := l.foldl (fun s x => s.fset (srcCause x) 0 1) s

/-- The sources asserted with one more. -/
def sourcesWith (s : State) (r : ResetSource) : List ResetSource :=
  if s.rind.sources.contains r then s.rind.sources else s.rind.sources ++ [r]

/-- The reset that a source asserts, by its level. -/
def resetFor (s : State) (r : ResetSource) : State :=
  let u := if srcCold r then resetA s else resetB s
  causesSet { u with rind := { u.rind with sources := sourcesWith s r } } (sourcesWith s r)

theorem assertSource_eq (r : ResetSource) : assertSource s r =
    if (resetFor s r).host.perst then (resetFor s r).fset .RESET_CAUSE_perst 0 1 else resetFor s r := rfl

theorem srcCause_width (r : ResetSource) : (srcCause r).info.width = 1 := by
  cases r <;> rfl

theorem sourcesWith_contains (r : ResetSource) : (sourcesWith s r).contains r = true := by
  unfold sourcesWith
  split
  · assumption
  · simp

theorem causesSet_rind (l : List ResetSource) : (causesSet s l).rind = s.rind :=
  List.foldlRecOn l _ (motive := fun u : State => u.rind = s.rind) rfl fun _ h _ _ => h

theorem assertSource_sources (r : ResetSource) : (assertSource s r).rind.sources = sourcesWith s r := by
  have listed : (resetFor s r).rind.sources = sourcesWith s r := congrArg Rind.sources (causesSet_rind (sourcesWith s r))
  rw [assertSource_eq]
  split
  · exact listed
  · exact listed

/-- A bit that is set stays so when one is set. -/
theorem fset_one_keeps {f g : Fld} (hw : g.info.width = 1) (h : s.fget f 0 = 1) : (s.fset g 0 1).fget f 0 = 1 := by
  by_cases e : f = g
  · rw [e, fget_fset_same, hw]
    rfl
  · rw [fget_fset_ne e, h]

theorem causesSet_keeps {f : Fld} (l : List ResetSource) (h : s.fget f 0 = 1) : (causesSet s l).fget f 0 = 1 :=
  List.foldlRecOn l _ (motive := fun u : State => u.fget f 0 = 1) h fun _ hu x _ => fset_one_keeps (srcCause_width x) hu

theorem causesSet_fget {r : ResetSource} {l : List ResetSource} (h : r ∈ l) : (causesSet s l).fget (srcCause r) 0 = 1 := by
  induction l generalizing s with
  | nil => cases h
  | cons x l ih =>
    rcases List.mem_cons.1 h with rfl | hr
    · refine causesSet_keeps l ?_
      rw [fget_fset_same, srcCause_width]
      rfl
    · exact ih hr

theorem assertSource_cause (r : ResetSource) : (assertSource s r).fget (srcCause r) 0 = 1 := by
  have cause : (resetFor s r).fget (srcCause r) 0 = 1 := causesSet_fget (List.contains_iff_mem.1 (sourcesWith_contains r))
  rw [assertSource_eq]
  split
  · exact fset_one_keeps rfl cause
  · exact cause

/-! ### A start that fails (R325) -/

/-- The source of a failed start, asserted; one in trial is to revert. -/
def failedStart (s : State) (trial : Bool) : State :=
  let u := assertSource s .failedStart
  { u with images := { u.images with revert := u.images.revert || trial } }

theorem failedStart_rind (b : Bool) : (failedStart s b).rind = (assertSource s .failedStart).rind := rfl

theorem failedStart_fget (b : Bool) (f : Fld) : (failedStart s b).fget f 0 = (assertSource s .failedStart).fget f 0 := rfl

/-- The count of failed starts after one more. -/
def failuresAfter (s : State) (trial : Bool) : Nat :=
  if trial then s.fget .START_STATUS_failed_count 0 else min 7 (s.fget .START_STATUS_failed_count 0 + 1)

theorem startFail_eq (kind step : Nat) : startFail s kind step =
    let trial := (bootNow s).trial && !recoveryLatched s
    ((((failedStart s trial).fset .START_STATUS_failed_count 0 (failuresAfter s trial)).fset .START_STATUS_last_fail 0 kind).fset
      .START_STATUS_fail_step 0 step).fset .START_STATUS_recovery 0
        (bit (recoveryLatched s || (!trial && decide (s.fget .START_STATUS_fail_threshold 0 ≤ failuresAfter s trial)))) := rfl

theorem startFail_sources (kind step : Nat) : (startFail s kind step).rind.sources.contains .failedStart = true := by
  have h : (startFail s kind step).rind = (assertSource s .failedStart).rind :=
    failedStart_rind ((bootNow s).trial && !recoveryLatched s)
  rw [h, assertSource_sources, sourcesWith_contains]

theorem startFail_cause (kind step : Nat) : (startFail s kind step).fget .RESET_CAUSE_failed_start 0 = 1 := by
  rw [startFail_eq]
  dsimp only
  rw [fget_fset_ne (by decide), fget_fset_ne (by decide), fget_fset_ne (by decide), fget_fset_ne (by decide), failedStart_fget]
  exact assertSource_cause .failedStart

theorem startFail_last (kind step : Nat) :
    (startFail s kind step).fget .START_STATUS_last_fail 0 = kind % 2 ^ Fld.START_STATUS_last_fail.info.width := by
  rw [startFail_eq]
  dsimp only
  rw [fget_fset_ne (by decide), fget_fset_ne (by decide), fget_fset_same]

theorem startFail_step (kind step : Nat) :
    (startFail s kind step).fget .START_STATUS_fail_step 0 = step % 2 ^ Fld.START_STATUS_fail_step.info.width := by
  rw [startFail_eq]
  dsimp only
  rw [fget_fset_ne (by decide), fget_fset_same]

/-- Outside a trial the failed start is counted, to at most 7. -/
theorem startFail_counts (kind step : Nat) (h : (bootNow s).trial = false) :
    (startFail s kind step).fget .START_STATUS_failed_count 0 = min 7 (s.fget .START_STATUS_failed_count 0 + 1) := by
  rw [startFail_eq, h]
  dsimp only
  rw [fget_fset_ne (by decide), fget_fset_ne (by decide), fget_fset_ne (by decide), fget_fset_same, Bool.false_and, failuresAfter,
    if_neg Bool.false_ne_true]
  exact Nat.mod_eq_of_lt (Nat.lt_succ_of_le (Nat.min_le_left _ _))

/-! ### A step's clock is enabled (R322, R342) -/

theorem stepDue_range (h : stepDue s n = true) : 1 ≤ n ∧ n ≤ 10 := by
  simp only [stepDue, Bool.and_eq_true, decide_eq_true_eq] at h
  obtain ⟨⟨⟨⟨-, low⟩, high⟩, -⟩, -⟩ := h
  exact ⟨low, high⟩

theorem clockOn_clocks (n : Nat) : (clockOn s n).rind.clocks = s.rind.clocks ++ [(n, s.now)] := rfl

theorem clockOn_keeps (n : Nat) : (clockOn s n).reg = s.reg ∧ (clockOn s n).churn = s.churn ∧ (clockOn s n).images = s.images :=
  ⟨rfl, rfl, rfl⟩

section
variable {x : StartTests}

theorem exec_domainRelease (hd : stepDue s n = true) (h8 : n ≠ 8) (h2 : n ≠ 2) :
    exec (.domainRelease n x) s = .next (if n = 9 then clockOn (loadBanks s) 9 else clockOn (startTests s n x) n) := by
  have e : exec (.domainRelease n x) s = execDomainRelease n x s := rfl
  rw [e, execDomainRelease, hd, if_neg (by simp [h8]), if_neg (by simp [h2]), if_neg h8]

theorem exec_domainRelease_boots {k : Nat} (hd : stepDue s 2 = true) (hr : recoveryLatched s = false) (hw : s.images.writing = none)
    (hk : bootSlot s = some k) : exec (.domainRelease 2 x) s = .next (clockOn (bootTake s k) 2) := by
  have e : exec (.domainRelease 2 x) s = execDomainRelease 2 x s := rfl
  rw [e, execDomainRelease, hd, if_neg (by simp), if_pos ⟨rfl, hr⟩, hw, if_neg (by simp), hk]

theorem exec_domainRelease_no_slot (hd : stepDue s 2 = true) (hr : recoveryLatched s = false) (hw : s.images.writing = none)
    (hk : bootSlot s = none) : exec (.domainRelease 2 x) s = .next (startFail s 3 2) := by
  have e : exec (.domainRelease 2 x) s = execDomainRelease 2 x s := rfl
  rw [e, execDomainRelease, hd, if_neg (by simp), if_pos ⟨rfl, hr⟩, hw, if_neg (by simp), hk]

/-- A step whose tests show nothing only enables its clock. -/
theorem domainRelease_enables (hd : stepDue s n = true) (hn : n ∉ [2, 4, 5, 8, 9, 10]) : Completes (.domainRelease n x) s fun t =>
    t.rind.clocks = s.rind.clocks ++ [(n, s.now)] ∧ t.reg = s.reg := by
  simp only [List.mem_cons, List.not_mem_nil, or_false, not_or] at hn
  obtain ⟨h2, h4, h5, h8, h9, h10⟩ := hn
  have tests : startTests s n x = s := by
    unfold startTests
    split
    · exact absurd rfl h4
    · exact absurd rfl h5
    · exact absurd rfl h10
    · rfl
  refine ⟨_, exec_domainRelease hd h8 h2, ?_⟩
  rw [if_neg h9, tests]
  obtain ⟨reg, -, -⟩ := clockOn_keeps (s := s) n
  exact ⟨clockOn_clocks n, reg⟩

theorem domainRelease_loads (hd : stepDue s 9 = true) : Completes (.domainRelease 9 x) s fun t =>
    t.rind.clocks = s.rind.clocks ++ [(9, s.now)] ∧
    t.churn.bank0 = slotBundle s (activeSlot s) ∧ t.churn.bank1 = slotBundle s (activeSlot s) := by
  refine ⟨_, exec_domainRelease hd (by decide) (by decide), ?_⟩
  rw [if_pos rfl]
  exact ⟨rfl, rfl, rfl⟩

theorem bootTake_rind (k : Nat) : (bootTake s k).rind.clocks = s.rind.clocks := by
  unfold bootTake
  dsimp only
  refine (congrArg Rind.clocks (updShow_same (p := .rind) (by decide))).trans ?_
  split
  · rfl
  · rfl

theorem bootTake_running (k : Nat) : (bootTake s k).images.running = slotDigests s k := by
  unfold bootTake
  dsimp only
  refine (congrArg Images.running (updShow_same (p := .images) (by decide))).trans ?_
  split
  · rfl
  · rfl

theorem domainRelease_boots {k : Nat} (hd : stepDue s 2 = true) (hr : recoveryLatched s = false) (hw : s.images.writing = none)
    (hk : bootSlot s = some k) : Completes (.domainRelease 2 x) s fun t =>
      t.rind.clocks = s.rind.clocks ++ [(2, s.now)] ∧ t.images.running = slotDigests s k := by
  refine ⟨_, exec_domainRelease_boots hd hr hw hk, ?_⟩
  have now : (bootTake s k).now = s.now := (bootTake_kept k (fr := 0x2004180000) (.of_beq (by decide +kernel)) (.refl _ s)).now
  obtain ⟨-, -, images⟩ := clockOn_keeps (s := bootTake s k) 2
  refine ⟨?_, (congrArg Images.running images).trans (bootTake_running k)⟩
  rw [clockOn_clocks, bootTake_rind, now]

theorem domainRelease_no_slot (hd : stepDue s 2 = true) (hr : recoveryLatched s = false) (hw : s.images.writing = none)
    (hk : bootSlot s = none) : Completes (.domainRelease 2 x) s fun t =>
      t.fget .START_STATUS_last_fail 0 = 3 ∧ t.fget .START_STATUS_fail_step 0 = 2 ∧ t.rind.sources.contains .failedStart = true :=
  ⟨_, exec_domainRelease_no_slot hd hr hw hk, startFail_last 3 2, startFail_step 3 2, startFail_sources 3 2⟩

end

/-! ### The domains of a step come on (R322, R330, R365) -/

/-- A domain that nothing keeps off. -/
def comesOn (s : State) (pd : Nat) : Bool := !(pdQuarantined s pd || s.tileFailed pd || s.rind.offs.contains pd)

/-- The parts that a domain's release reads. -/
def releaseReads : List Part := [.rind, .reg .CLUSTER_QUARANTINE, .reg .REPAIR_LINKS]

theorem Kept.comesOn {u : State} (h : Kept (maskBut releaseReads) s u) (pd : Nat) :
    comesOn u pd = comesOn s pd ∧ u.rind.holds = s.rind.holds := by
  have rind : u.rind = s.rind := h.same_of_but (p := .rind) (by decide)
  have quarantine : u.fget .CLUSTER_QUARANTINE_bits (pd - 48) = s.fget .CLUSTER_QUARANTINE_bits (pd - 48) :=
    h.same_of_but (p := .reg .CLUSTER_QUARANTINE) (by decide) _ _ rfl
  have tiles : u.fget .REPAIR_LINKS_d2d_failed 0 = s.fget .REPAIR_LINKS_d2d_failed 0 :=
    h.same_of_but (p := .reg .REPAIR_LINKS) (by decide) _ _ rfl
  simp only [Machine.comesOn, pdQuarantined, State.tileFailed, State.fbit, rind, quarantine, tiles, and_self]

theorem domainUp_comesOn {pd : Nat} (h : comesOn s pd = true) :
    domainUp s pd = setHeld (s.fset .PD_STATE_on pd 1) pd (s.rind.holds.contains pd) := by
  unfold domainUp
  rw [if_neg (by simpa [comesOn] using h)]

theorem domainUp_other {pd x : Nat} (h : pd ≠ x) (f : Fld) : (domainUp s x).fget f pd = s.fget f pd := by
  have ne (g : Fld) : (f, pd) ≠ (g, x) := fun e => h (congrArg Prod.snd e)
  unfold domainUp
  split
  · rfl
  · exact (fget_fset_other _ _ _ _ _ _ (ne _)).trans (fget_fset_other _ _ _ _ _ _ (ne _))

theorem domainsUp_other {pd : Nat} {l : List Nat} (h : pd ∉ l) (f : Fld) : (l.foldl domainUp s).fget f pd = s.fget f pd :=
  List.foldlRecOn l domainUp (motive := fun u : State => u.fget f pd = s.fget f pd) rfl fun _ hu _ hx =>
    (domainUp_other (ne_of_mem_of_not_mem hx h).symm f).trans hu

theorem domainsUp_on {pd : Nat} {l : List Nat} (h : pd ∈ l) (hc : comesOn s pd = true) :
    (l.foldl domainUp s).fget .PD_STATE_on pd = 1 ∧ (l.foldl domainUp s).fget .PD_HELD_held pd = bit (s.rind.holds.contains pd) := by
  induction l generalizing s with
  | nil => cases h
  | cons x l ih =>
    rw [List.foldl_cons]
    by_cases hl : pd ∈ l
    · obtain ⟨comes, holds⟩ := (domainUp_kept x (fr := maskBut releaseReads) (.of_beq (by decide +kernel)) (.refl _ s)).comesOn pd
      rw [← holds]
      exact ih hl (comes.trans hc)
    · obtain rfl : pd = x := (List.mem_cons.1 h).resolve_right hl
      rw [domainsUp_other hl, domainsUp_other hl, domainUp_comesOn hc]
      refine ⟨?_, ?_⟩
      · rw [setHeld, fget_fset_ne (by decide), fget_fset_same]
        rfl
      · rw [setHeld, fget_fset_same]
        exact bit_mod_two _

/-! ### A step is released (R322) -/

/-- The step counts as reached and its clock is watched no more. -/
def stepCounted (s : State) (n : Nat) : State :=
  { s with rind := { s.rind with clocks := s.rind.clocks.filter (fun c => c.1 ≠ n), lastRelease := s.now } }.fset
    .START_STATUS_step_reached 0 (max n (stepReached s))

/-- The domains of the step have come on. -/
def stepOpened (s : State) (n : Nat) : State := (stepDomains n).foldl domainUp (stepCounted s n)

/-- What the first, the third and PCIe's step do besides. -/
def stepActs (s : State) (n : Nat) : State :=
  match n with
  | 1 => rindUp s
  | 3 => { s with rind := { s.rind with otherPins := true, windowFrom := some s.now, kickAt := s.now } }
  | 7 => { s with rind := { s.rind with pcieUp := true }, host := { s.host with linkUp := !s.host.perst } }
  | _ => s

theorem stepRelease_eq : stepRelease s n = stepActs (stepOpened s n) n := rfl

theorem stepCounted_fget {f : Fld} (h : f ≠ .START_STATUS_step_reached) (i : Nat) : (stepCounted s n).fget f i = s.fget f i :=
  fget_fset_ne h _ _ _

theorem stepCounted_comesOn (pd : Nat) :
    comesOn (stepCounted s n) pd = comesOn s pd ∧ (stepCounted s n).rind.holds = s.rind.holds := by
  have quarantine := stepCounted_fget (s := s) (n := n) (f := .CLUSTER_QUARANTINE_bits) (by decide) (pd - 48)
  have tiles := stepCounted_fget (s := s) (n := n) (f := .REPAIR_LINKS_d2d_failed) (by decide) 0
  have offs : (stepCounted s n).rind.offs = s.rind.offs := rfl
  refine ⟨?_, rfl⟩
  simp only [comesOn, pdQuarantined, State.tileFailed, State.fbit, offs, quarantine, tiles]

/-- The parts that a step's domains leave as they are. -/
theorem stepOpened_kept : Kept (maskBut [.rind, .host, .reg .START_STATUS]) (stepCounted s n) (stepOpened s n) :=
  Kept.foldl (fun _ x h => domainUp_kept x (.of_beq (by decide +kernel)) h) (.refl _ _)

theorem rindUp_clocks : (rindUp s).rind.clocks = s.rind.clocks := by
  have recovery {u : State} : (recoveryHold u).rind = u.rind :=
    (recoveryHold_kept (fr := maskBut [.rind]) (.of_beq (by decide +kernel)) (.refl _ u)).same_of_but (p := .rind) (by decide)
  have boot {u : State} : (bootStart u).rind = u.rind :=
    (bootStart_kept (fr := maskBut [.rind]) (.of_beq (by decide +kernel)) (.refl _ u)).same_of_but (p := .rind) (by decide)
  show (State.rind (if _ then recoveryHold _ else bootStart _)).clocks = _
  split
  · exact (congrArg Rind.clocks recovery).trans rfl
  · exact (congrArg Rind.clocks boot).trans rfl

theorem stepActs_clocks : (stepActs s n).rind.clocks = s.rind.clocks := by
  unfold stepActs
  split
  · exact rindUp_clocks
  · rfl
  · rfl
  · rfl

/-- The Rind's own start writes neither the start's status nor the domains that are on; the other steps write no register. -/
theorem stepActs_fget {f : Fld} (h : n = 1 → f.reg ∈ [Reg.START_STATUS, .PD_STATE]) (i : Nat) :
    (stepActs s n).fget f i = s.fget f i := by
  unfold stepActs
  split
  · have kept : Kept (maskBut [.reg .START_STATUS, .reg .PD_STATE]) s (rindUp s) := rindUp_kept (.of_beq (by decide +kernel)) (.refl _ _)
    exact kept.same_of_but (p := .reg f.reg) (List.mem_map_of_mem (f := Part.reg) (h rfl)) f i rfl
  · rfl
  · rfl
  · rfl

theorem stepRelease_reached : (stepRelease s n).fget .START_STATUS_step_reached 0 =
    max n (stepReached s) % 2 ^ Fld.START_STATUS_step_reached.info.width :=
  (stepActs_fget (fun _ => by decide) 0).trans
    ((stepOpened_kept.same_of_but (p := .reg .START_STATUS) (by decide) .START_STATUS_step_reached 0 rfl).trans (fget_fset_same _ _ _ _))

theorem stepRelease_clocks : (stepRelease s n).rind.clocks = s.rind.clocks.filter (fun c => c.1 ≠ n) :=
  stepActs_clocks.trans (congrArg Rind.clocks (stepOpened_kept.same_of_but (p := .rind) (by decide)))

theorem stepRelease_on {pd : Nat} (h : pd ∈ stepDomains n) (hc : comesOn s pd = true) :
    (stepRelease s n).fget .PD_STATE_on pd = 1 ∧ (stepRelease s n).fget .PD_HELD_held pd = bit (s.rind.holds.contains pd) := by
  have acts {f : Fld} : (stepRelease s n).fget f pd = (stepOpened s n).fget f pd := stepActs_fget (fun e => by subst e; cases h) pd
  obtain ⟨comes, holds⟩ := stepCounted_comesOn (s := s) (n := n) pd
  rw [acts, acts, ← holds]
  exact domainsUp_on h (comes.trans hc)

theorem stepRelease_other {pd : Nat} (h : pd ∉ stepDomains n) : (stepRelease s n).fget .PD_STATE_on pd = s.fget .PD_STATE_on pd :=
  (stepActs_fget (fun _ => by decide) pd).trans ((domainsUp_other h _).trans (stepCounted_fget (by decide) pd))

theorem stepRelease_link (hp : s.host.perst = false) : (stepRelease s 7).host.linkUp = true ∧ (stepRelease s 7).rind.pcieUp = true := by
  have host : (stepOpened s 7).host = s.host := stepOpened_kept.same_of_but (p := .host) (by decide)
  have link : (stepRelease s 7).host.linkUp = !(stepOpened s 7).host.perst := rfl
  exact ⟨by rw [link, host, hp]; rfl, rfl⟩

theorem exec_clockGood {t0 : Nat} (h : clockOf s n = some t0) (hw : s.now ≤ t0 + windowNs s n) (h7 : n = 7 → s.host.perst = false)
    (h4 : n = 4 → s.rind.memHeld = false) : exec (.clockGood n) s = .next (stepRelease s n) := by
  have e : exec (.clockGood n) s = execClockGood n s := rfl
  rw [e, execClockGood, h]
  dsimp only
  rw [if_pos ⟨hw, by simpa [or_iff_not_imp_left] using h7, by simpa [or_iff_not_imp_left] using h4⟩]

theorem clockGood_releases {t0 : Nat} (h : clockOf s n = some t0) (hw : s.now ≤ t0 + windowNs s n)
    (h7 : n = 7 → s.host.perst = false) (h4 : n = 4 → s.rind.memHeld = false) : Completes (.clockGood n) s fun t =>
      t.fget .START_STATUS_step_reached 0 = max n (stepReached s) % 2 ^ Fld.START_STATUS_step_reached.info.width ∧
      t.rind.clocks = s.rind.clocks.filter (fun c => c.1 ≠ n) ∧
      (∀ pd, pd ∈ stepDomains n → pdQuarantined s pd = false → s.tileFailed pd = false → s.rind.offs.contains pd = false →
        t.fget .PD_STATE_on pd = 1 ∧ t.fget .PD_HELD_held pd = bit (s.rind.holds.contains pd)) ∧
      (∀ pd, pd ∉ stepDomains n → t.fget .PD_STATE_on pd = s.fget .PD_STATE_on pd) ∧
      (n = 7 → t.host.linkUp = true ∧ t.rind.pcieUp = true) := by
  refine ⟨_, exec_clockGood h hw h7 h4, stepRelease_reached, stepRelease_clocks, fun pd hpd hq ht ho => ?_,
    fun pd hpd => stepRelease_other hpd, ?_⟩
  · exact stepRelease_on hpd (by rw [comesOn, hq, ht, ho]; rfl)
  · rintro rfl
    exact stepRelease_link (h7 rfl)

/-! ### The windows of a start (R325) -/

theorem exec_releaseWindowExpire {t0 : Nat} (h : clockOf s n = some t0) (hw : t0 + windowNs s n ≤ s.now)
    (h7 : n = 7 → s.host.perst = false) : exec (.releaseWindowExpire n) s = .next (startFail s 1 n) := by
  have e : exec (.releaseWindowExpire n) s = execReleaseWindowExpire n s := rfl
  rw [e, execReleaseWindowExpire, h]
  dsimp only
  rw [if_pos ⟨hw, by simpa [or_iff_not_imp_left] using h7⟩]

theorem exec_startWindowExpire {t0 : Nat} (h : s.rind.windowFrom = some t0) (hc : s.fbit .START_STATUS_start_complete 0 = false)
    (hw : t0 + startWindowNs s ≤ s.now) :
    exec .startWindowExpire s = .next (startFail s.draw.2 2 (s.draw.1 % 16)) := by
  have e : exec .startWindowExpire s = execStartWindowExpire s := rfl
  rw [e, execStartWindowExpire, h]
  dsimp only
  rw [if_pos ⟨hc, hw⟩]

end
end Sys2Proof.Machine

open Sys2Proof Sys2Proof.Machine

/-- Settles O43: a step that is due enables its clock or fails, a good clock opens the step's domains one by one, and every failed
start asserts one source and writes its kind and step. -/
theorem theReleaseOrder : Obligations.TheReleaseOrder := by
  unfold Obligations.TheReleaseOrder
  refine ⟨fun s n hd => ⟨fun x hn => domainRelease_enables hd hn, ?_, ?_⟩,
    fun s n t0 h hw h7 h4 => clockGood_releases h hw h7 h4, fun s n t0 h hw h7 => ?_, fun s t0 h hc hw => ?_⟩
  · rintro x rfl
    exact domainRelease_loads hd
  · rintro x rfl hr hw
    exact ⟨fun k hk => domainRelease_boots hd hr hw hk, fun hk => domainRelease_no_slot hd hr hw hk⟩
  · exact ⟨_, exec_releaseWindowExpire h hw h7, startFail_last 1 n, startFail_step 1 n, startFail_sources 1 n, startFail_cause 1 n,
      startFail_counts 1 n⟩
  · exact ⟨_, exec_startWindowExpire h hc hw, startFail_last 2 _, startFail_sources 2 _, startFail_cause 2 _⟩

end

section
/-! SUPPORT. Where the sequencing op of an issue slot takes its task, for the ops that keep it in its context (R159, R165,
R168, R181). -/

namespace Sys2Proof.Machine

section
variable {s : State} {id : Nat} {t u : Task} {c : CtxId} {w : Nat}

/-! ### The slot that waits for its window (R151, R168) -/

/-- An issue slot with its window loaded comes to the sequencing op of its microword, WAIT as well. -/
theorem microStep_sequence_of_windowReady {seq : Nat} (ht : taskAt s c = some (id, t)) (hpos : t.pos = .running c)
    (hkind : t.kind.fixed = false) (hruns : s.runs (pdCluster c.cluster) = true) (htake : t.ctx.take = none)
    (hissues : t.ctx.issues < 4096) (plain : SlotPlain s c t) (hseq : seqOf (microAt s t.parity t.ctx.pc) = seq)
    (hlisted : seq ≤ 0x0C) (hwindow : t.ctx.windowReady = true) :
    ∃ u, AfterIssue t u ∧ microStep seq c .good s = sequence (issueState s c) id u c (microAt s t.parity t.ctx.pc) := by
  obtain ⟨micro, nano, codes, -, noTake, reads, posts, edits⟩ := plain
  obtain ⟨x, issued, e⟩ := runNano_sequence (c := c) (id := id) (w := microAt s t.parity t.ctx.pc)
    (s := (slotAhead s (48 + c.cluster) 0).gset .gSlotInflight c.cluster (s.cget .gSlotInflight c.cluster + 1))
    (t := { t with ctx := { t.ctx with issues := t.ctx.issues + 1 } }) noTake reads posts edits
  refine ⟨{ t with ctx := x }, ⟨rfl, issued.pc, issued.stack, issued.mayYield, issued.issues⟩, Eq.trans ?_ e⟩
  unfold microStep
  simp only [ht, hpos, hkind, hruns, htake, hseq, micro, nano, codes, hwindow, Nat.not_le.2 hissues, hlisted, Nat.not_lt.2 hlisted,
    Bool.not_true, Bool.false_and, ne_eq, not_true_eq_false, Bool.false_eq_true, Bool.true_eq_false, or_self, if_true, if_false,
    reduceCtorEq]

/-! ### Each sequencing op as a step of the address (R168) -/

theorem targetOf_le (w : Nat) : targetOf w ≤ 16383 := Nat.le_of_lt_succ (bits_lt w 2 14)

/-- NEXT and WAIT. -/
theorem sequence_next (h : seqOf w = 0x00 ∨ seqOf w = 0x07) : sequence s id u c w = goto s id u (u.ctx.pc + 1) := by
  obtain h | h := h <;> simp only [sequence, h]

theorem sequence_jump (h : seqOf w = 0x01) : sequence s id u c w = goto s id u (targetOf w) := by
  simp only [sequence, h]

theorem sequence_branch (h : seqOf w = 0x02) :
    sequence s id u c w = goto s id u (if flagOf u.ctx (condOf w) then targetOf w else u.ctx.pc + 1) := by
  simp only [sequence, h]

theorem sequence_branchn (h : seqOf w = 0x03) :
    sequence s id u c w = goto s id u (if flagOf u.ctx (condOf w) then u.ctx.pc + 1 else targetOf w) := by
  simp only [sequence, h]

theorem sequence_call (h : seqOf w = 0x04) (hroom : u.ctx.stack.length < 4) :
    sequence s id u c w = goto s id { u with ctx := { u.ctx with stack := (u.ctx.pc + 1) :: u.ctx.stack } } (targetOf w) := by
  simp only [sequence, h, Nat.not_le.2 hroom, if_false]

theorem sequence_ret {p : Nat} {l : List Nat} (h : seqOf w = 0x05) (hstack : u.ctx.stack = p :: l) :
    sequence s id u c w = goto s id { u with ctx := { u.ctx with stack := l } } p := by
  simp only [sequence, h, hstack]

theorem sequence_dispatch (h : seqOf w = 0x06) : sequence s id u c w = goto s id u (targetOf w + u.ctx.aRes % 16) := by
  simp only [sequence, h]

/-- A YIELD that may not leave, is not asked to or is of another level stays in its context. -/
theorem sequence_yield_stays (h : seqOf w = 0x09) (hstack : u.ctx.stack = [])
    (hstays : u.ctx.mayYield = false ∨ s.churn.preempt = false ∨ u.level ≠ 3) :
    sequence s id u c w = goto s id { u with ctx := { u.ctx with mayYield := false } } (u.ctx.pc + 1) := by
  have stays : (u.ctx.mayYield && s.churn.preempt && u.level == 3) = false := by
    obtain hmay | hask | hlevel := hstays
    · rw [hmay]; rfl
    · rw [hask, Bool.and_false]; rfl
    · rw [beq_false_of_ne hlevel, Bool.and_false]
  simp only [sequence, h, hstack, stays, ne_eq, not_true_eq_false, Bool.false_eq_true, if_false]

/-! ### The task goes on -/

/-- A task whose issue was counted goes on at an address of the store. -/
theorem goto_goesOn {x : Ctx} {pc : Nat} {p : Ctx → Prop} (issued : AfterIssue t u) (hissues : x.issues = u.ctx.issues)
    (hpc : pc ≤ 16383) (hp : p { x with pc := pc, take := none }) :
    GoesOn t id (goto s id { u with ctx := x } pc) p := by
  refine ⟨{ x with pc := pc, take := none }, ?_, rfl, hissues.trans issued.issues, hp⟩
  rw [goto, if_neg (Nat.not_lt.2 hpc), setTask_same, issued.task]

section
variable (issued : AfterIssue t u)
include issued

theorem sequence_next_goesOn (h : seqOf w = 0x00 ∨ seqOf w = 0x07) (hpc : t.ctx.pc < 16383) :
    GoesOn t id (sequence s id u c w) fun x => x.pc = t.ctx.pc + 1 ∧ x.stack = t.ctx.stack := by
  rw [sequence_next h, issued.pc]
  exact goto_goesOn (x := u.ctx) issued rfl hpc ⟨rfl, issued.stack⟩

theorem sequence_jump_goesOn (h : seqOf w = 0x01) :
    GoesOn t id (sequence s id u c w) fun x => x.pc = targetOf w ∧ x.stack = t.ctx.stack := by
  rw [sequence_jump h]
  exact goto_goesOn (x := u.ctx) issued rfl (targetOf_le w) ⟨rfl, issued.stack⟩

theorem sequence_branch_goesOn (h : seqOf w = 0x02) (hpc : t.ctx.pc < 16383) :
    GoesOn t id (sequence s id u c w) fun x => x.stack = t.ctx.stack ∧
      x.pc = if flagOf x (condOf w) = true then targetOf w else t.ctx.pc + 1 := by
  rw [sequence_branch h, issued.pc]
  refine goto_goesOn (x := u.ctx) issued rfl ?_ ⟨issued.stack, rfl⟩
  split_ifs
  · exact targetOf_le w
  · exact hpc

theorem sequence_branchn_goesOn (h : seqOf w = 0x03) (hpc : t.ctx.pc < 16383) :
    GoesOn t id (sequence s id u c w) fun x => x.stack = t.ctx.stack ∧
      x.pc = if flagOf x (condOf w) = true then t.ctx.pc + 1 else targetOf w := by
  rw [sequence_branchn h, issued.pc]
  refine goto_goesOn (x := u.ctx) issued rfl ?_ ⟨issued.stack, rfl⟩
  split_ifs
  · exact hpc
  · exact targetOf_le w

theorem sequence_call_goesOn (h : seqOf w = 0x04) (hroom : t.ctx.stack.length < 4) :
    GoesOn t id (sequence s id u c w) fun x => x.pc = targetOf w ∧ x.stack = (t.ctx.pc + 1) :: t.ctx.stack := by
  rw [sequence_call h (by rw [issued.stack]; exact hroom), issued.pc, issued.stack]
  exact goto_goesOn issued rfl (targetOf_le w) ⟨rfl, rfl⟩

theorem sequence_ret_goesOn {p : Nat} {l : List Nat} (h : seqOf w = 0x05) (hstack : t.ctx.stack = p :: l) (hp : p ≤ 16383) :
    GoesOn t id (sequence s id u c w) fun x => x.pc = p ∧ x.stack = l := by
  rw [sequence_ret h (issued.stack.trans hstack)]
  exact goto_goesOn issued rfl hp ⟨rfl, rfl⟩

theorem sequence_dispatch_goesOn (h : seqOf w = 0x06) (hroom : targetOf w + 15 ≤ 16383) :
    GoesOn t id (sequence s id u c w) fun x => x.pc = targetOf w + x.aRes % 16 ∧ x.stack = t.ctx.stack := by
  rw [sequence_dispatch h]
  exact goto_goesOn (x := u.ctx) issued rfl (by omega) ⟨rfl, issued.stack⟩

theorem sequence_yield_goesOn (h : seqOf w = 0x09) (hstack : t.ctx.stack = []) (hpc : t.ctx.pc < 16383)
    (hstays : t.ctx.mayYield = false ∨ s.churn.preempt = false ∨ t.level ≠ 3) :
    GoesOn t id (sequence s id u c w) fun x => x.pc = t.ctx.pc + 1 ∧ x.mayYield = false := by
  rw [sequence_yield_stays h (issued.stack.trans hstack) (by rwa [issued.mayYield, issued.level]), issued.pc]
  exact goto_goesOn issued rfl hpc ⟨rfl, rfl⟩

end

/-! ### The rows of the ops -/

/-- A row of the microcode goes on as its sequencing op does. For WAIT the window has to be loaded. -/
theorem exec_goesOn {seq : Nat} {i : Instr} {p : Ctx → Prop} (ht : taskAt s c = some (id, t)) (hpos : t.pos = .running c)
    (hkind : t.kind.fixed = false) (hruns : s.runs (pdCluster c.cluster) = true) (htake : t.ctx.take = none)
    (hissues : t.ctx.issues < 4096) (plain : SlotPlain s c t) (hseq : seqOf (microAt s t.parity t.ctx.pc) = seq)
    (hlisted : seq ≤ 0x0C) (hwait : seq ≠ 0x07 ∨ t.ctx.windowReady = true) (row : exec i s = .next (microStep seq c .good s))
    (goes : ∀ u, AfterIssue t u → GoesOn t id (sequence (issueState s c) id u c (microAt s t.parity t.ctx.pc)) p) :
    Completes i s fun v => GoesOn t id v p := by
  have slot : ∃ u, AfterIssue t u ∧ microStep seq c .good s = sequence (issueState s c) id u c (microAt s t.parity t.ctx.pc) := by
    obtain hne | hwindow := hwait
    · exact microStep_sequence ht hpos hkind hruns htake hissues hseq hlisted hne plain
    · exact microStep_sequence_of_windowReady ht hpos hkind hruns htake hissues plain hseq hlisted hwindow
  obtain ⟨u, issued, e⟩ := slot
  exact ⟨_, row.trans (congrArg Host.Outcome.next e), goes u issued⟩

end

end Sys2Proof.Machine

open Sys2Proof Sys2Proof.Machine

/-- Settles O16: an issue slot without fault comes to its sequencing op, and each op that keeps its task in its context writes one
address to it. -/
theorem plainSlotsSequence : Obligations.PlainSlotsSequence :=
  ⟨fun _ _ _ _ ht hpos hkind hruns htake hissues hseq plain hpc =>
      exec_goesOn ht hpos hkind hruns htake hissues plain hseq (by decide) (.inl (by decide)) rfl
        fun _ issued => sequence_next_goesOn issued (.inl hseq) hpc,
    fun _ _ _ _ ht hpos hkind hruns htake hissues hseq plain =>
      exec_goesOn ht hpos hkind hruns htake hissues plain hseq (by decide) (.inl (by decide)) rfl
        fun _ issued => sequence_jump_goesOn issued hseq,
    fun _ _ _ _ ht hpos hkind hruns htake hissues hseq plain hpc =>
      exec_goesOn ht hpos hkind hruns htake hissues plain hseq (by decide) (.inl (by decide)) rfl
        fun _ issued => sequence_branch_goesOn issued hseq hpc,
    fun _ _ _ _ ht hpos hkind hruns htake hissues hseq plain hpc =>
      exec_goesOn ht hpos hkind hruns htake hissues plain hseq (by decide) (.inl (by decide)) rfl
        fun _ issued => sequence_branchn_goesOn issued hseq hpc,
    fun _ _ _ _ ht hpos hkind hruns htake hissues hseq plain hroom =>
      exec_goesOn ht hpos hkind hruns htake hissues plain hseq (by decide) (.inl (by decide)) rfl
        fun _ issued => sequence_call_goesOn issued hseq hroom,
    fun _ _ _ _ _ _ ht hpos hkind hruns htake hissues hseq plain hstack hp =>
      exec_goesOn ht hpos hkind hruns htake hissues plain hseq (by decide) (.inl (by decide)) rfl
        fun _ issued => sequence_ret_goesOn issued hseq hstack hp,
    fun _ _ _ _ ht hpos hkind hruns htake hissues hseq plain hroom =>
      exec_goesOn ht hpos hkind hruns htake hissues plain hseq (by decide) (.inl (by decide)) rfl
        fun _ issued => sequence_dispatch_goesOn issued hseq hroom,
    fun _ _ _ _ ht hpos hkind hruns htake hissues hseq plain hwindow hpc =>
      exec_goesOn ht hpos hkind hruns htake hissues plain hseq (by decide) (.inr hwindow) rfl
        fun _ issued => sequence_next_goesOn issued (.inr hseq) hpc,
    fun _ _ _ _ ht hpos hkind hruns htake hissues hseq plain hstack hpc hstays =>
      exec_goesOn ht hpos hkind hruns htake hissues plain hseq (by decide) (.inl (by decide)) rfl
        fun _ issued => sequence_yield_goesOn issued hseq hstack hpc hstays⟩

end

section
/-! SUPPORT. The next entry of a gate list, and PFC frames as they leave with the refreshes that run from them (R199, R219). -/

namespace Sys2Proof.Machine

section
variable {s : State} {port : Nat}

/-! ### Gate entries (R219) -/

/-- The gates of a port with the entry after the one in force, which ends at `t`. -/
def nextEntry (g : Gates) (t : Int) : Gates :=
  let run := gateRun g.entries
  let e := gateEntry (run.getD (g.pos + 1) 0xFFFF)
  { g with pos := g.pos + 1, since := t, mask := e.1, opened := e.1 &&& (g.mask ^^^ 0xFFFF),
           endsAt := if g.pos + 2 < run.length then some (t + e.2.1) else none }

theorem exec_gateEntryExpire {t0 : Int} (h : (tget {} s.egress.gates (port, 0)).endsAt = some t0) (ht : t0 ≤ s.devNs) :
    exec (.gateEntryExpire port) s = .next { s with egress := { s.egress with
      gates := tset {} s.egress.gates (port, 0) (nextEntry (tget {} s.egress.gates (port, 0)) t0) } } := by
  simp only [exec, execGateEntryExpire, h, Int.not_lt.2 ht, if_false]
  rfl

/-! ### A PFC frame leaves (R199) -/

@[simp] theorem pfcSend_out (pause resume : Nat) :
    (pfcSend s port pause resume).out = s.out ++ [.wire port (pfcBytes s port pause resume) false] :=
  count_out _ _ _ _ _

@[simp] theorem pfcSend_txPfc (pause resume : Nat) : (pfcSend s port pause resume).cget .txPfc port = (s.cget .txPfc port + 1) % 2 ^ 48 :=
  count_cget_same _ _ _ _ _

@[simp] theorem pfcSend_owed (pause resume : Nat) : (pfcSend s port pause resume).buffers.owed = s.buffers.owed := by
  simp [pfcSend]

/-- What a run of writes leaves at the key of an index it wrote. -/
theorem tget_foldl_tset {P : Nat → Prop} [DecidablePred P] {l : List Nat} {p : Nat} (hl : p ∈ l) (hp : P p) (r : Tab Nat) (q v : Nat) :
    tget 0 (l.foldl (fun r p => if P p then tset 0 r (q, p) v else r) r) (q, p) = v := by
  induction l using List.reverseRecOn with
  | nil => cases hl
  | append_singleton l x ih =>
    rw [List.foldl_append, List.foldl_cons, List.foldl_nil]
    by_cases e : p = x
    · rw [← e, if_pos hp, tget_tset_same]
    · have earlier := ih (by simpa [e] using hl)
      split_ifs
      · rw [tget_tset_other _ _ _ _ _ _ fun k => e (congrArg Prod.snd k), earlier]
      · exact earlier

/-- The refresh of a paused priority that a frame pauses runs from that frame. -/
theorem pfcSend_refresh {pause prio : Nat} (resume : Nat) (hprio : prio < 8) (hpause : bits pause prio 1 = 1)
    (hpaused : tget false s.buffers.paused (port, prio) = true) :
    tget 0 (pfcSend s port pause resume).buffers.refresh (port, prio) = s.now + quantaNs s port (s.fget .PFC_TX_refresh_quanta port) := by
  have quanta (x : State) (c : Ctr) (i k : Nat) (tn : Option Nat) :
      (x.count c i k tn).now + quantaNs (x.count c i k tn) port ((x.count c i k tn).fget .PFC_TX_refresh_quanta port) =
        x.now + quantaNs x port (x.fget .PFC_TX_refresh_quanta port) :=
    count_proj x c i k tn (fun x => x.now + quantaNs x port (x.fget .PFC_TX_refresh_quanta port)) fun _ _ => rfl
  unfold pfcSend
  dsimp only
  rw [count_buffers, tget_foldl_tset (List.mem_range.2 hprio) ⟨hpause, hpaused⟩, quanta]
  rfl

theorem bits_two_pow_self (p : Nat) : bits (2 ^ p) p 1 = 1 := by
  rw [bits, Nat.div_self (Nat.two_pow_pos p)]
  rfl

theorem exec_pfcFrameSend {e : Nat × Nat × Nat} {l : List (Nat × Nat × Nat)} (howed : tget [] s.buffers.owed (port, 0) = e :: l)
    (hclear : portClear s port = true) (hidle : tget none s.egress.tx (port, 0) = none) :
    exec (.pfcFrameSend port) s =
      .next (pfcSend { s with buffers := { s.buffers with owed := tset [] s.buffers.owed (port, 0) l } } port e.2.1 e.2.2) := by
  simp only [exec, execPfcFrameSend, howed, hclear, hidle, Option.isNone_none, Bool.and_self, if_true]

theorem exec_pfcRefresh {prio : Nat} (hpaused : tget false s.buffers.paused (port, prio) = true)
    (hset : tget 0 s.buffers.refresh (port, prio) ≠ 0) (hdue : tget 0 s.buffers.refresh (port, prio) ≤ s.now)
    (hclear : portClear s port = true) (hidle : tget none s.egress.tx (port, 0) = none) :
    exec (.pfcRefresh port prio) s = .next (pfcSend s port (2 ^ prio) 0) := by
  simp only [exec, execPfcRefresh, hpaused, bne_iff_ne.2 hset, hdue, hclear, hidle, Option.isNone_none, decide_true, Bool.and_self, if_true]

end

end Sys2Proof.Machine

open Sys2Proof Sys2Proof.Machine

/-- Settles O10: a gate entry that has run gives way to `nextEntry`, and an owed frame and a refresh leave by the one `pfcSend`. -/
theorem gatesAndPfcFollowTheirTimers : Obligations.GatesAndPfcFollowTheirTimers := by
  refine ⟨fun s port t0 h ht => ⟨_, exec_gateEntryExpire h ht, ?_⟩,
    fun s port e l howed hclear hidle => ⟨_, exec_pfcFrameSend howed hclear hidle, ?_, pfcSend_txPfc _ _, pfcSend_out _ _⟩,
    fun s port prio hpaused hset hdue hclear hidle => ⟨_, exec_pfcRefresh hpaused hset hdue hclear hidle, pfcSend_txPfc _ _,
      pfcSend_out _ _, fun hprio => pfcSend_refresh 0 hprio (bits_two_pow_self prio) hpaused⟩⟩
  · dsimp only
    rw [tget_tset_same]
    exact ⟨rfl, rfl, rfl⟩
  · rw [pfcSend_owed, tget_tset_same]

end

section
/-! SUPPORT. Vat writes and reads: the one entry of the queue that each marks, and what the queue keeps (R206, R207). -/

namespace Sys2Proof.Machine

-- A proof that evaluates in the kernel waits for every declaration before it, and holds a thread while it waits.
set_option Elab.async false

section
variable {s t : State} {port cls : Nat} {e : Copy}

/-! ### One entry of a queue is marked -/

/-- A change of one entry that keeps what `f` reads of it keeps what `f` reads of the list. -/
theorem updFirst_map {β : Type} {f : Copy → β} {g : Copy → Copy} (p : Copy → Bool) (l : List Copy) (hg : ∀ x, f (g x) = f x) :
    (updFirst p g l).map f = l.map f := by
  induction l with
  | nil => rfl
  | cons x l ih =>
    unfold updFirst
    split
    · rw [List.map_cons, hg, List.map_cons]
    · rw [List.map_cons, ih, List.map_cons]

/-- The entries once the first that awaits its write is in the Vat, with its stored size. -/
def vatWritten (n : Nat) (l : List Copy) : List Copy :=
  updFirst (fun x => x.loc == .vatWait) (fun x => { x with loc := .vat, stored := n, cells := 0 }) l

/-- The entries once the first in the Vat is in flight. -/
def vatIssued (l : List Copy) : List Copy := updFirst (fun x => x.loc == .vat) (fun x => { x with loc := .reading }) l

/-- The entries once the first in flight is in the read-ahead. -/
def vatRead (l : List Copy) : List Copy := updFirst (fun x => x.loc == .reading) (fun x => { x with loc := .readAhead }) l

/-- The frames of a queue in their order, each with the kind of its copy. -/
def queueOrder (l : List Copy) : List (Nat × CopyKind) := l.map (fun x => (x.frame, x.kind))

theorem vatWritten_order (n : Nat) (l : List Copy) : queueOrder (vatWritten n l) = queueOrder l := updFirst_map _ _ fun _ => rfl

theorem vatIssued_order (l : List Copy) : queueOrder (vatIssued l) = queueOrder l := updFirst_map _ _ fun _ => rfl

theorem vatRead_order (l : List Copy) : queueOrder (vatRead l) = queueOrder l := updFirst_map _ _ fun _ => rfl

/-! ### A queue is put -/

/-- What the release of a buffer does not touch: the egress queues, and the count of stored bytes. -/
def vatParts : List Part := [.egress, .ctr .vatBytes]

theorem Kept.queue (h : Kept (maskBut vatParts) s t) (q c : Nat) : t.queue q c = s.queue q c := by
  have egress : t.egress = s.egress := h.same_of_but (p := .egress) (by decide)
  rw [State.queue, egress, ← State.queue]

theorem Kept.vatBytes (h : Kept (maskBut vatParts) s t) : t.cget .vatBytes 0 = s.cget .vatBytes 0 :=
  h.same_of_but (p := .ctr .vatBytes) (by decide) 0

@[simp] theorem count_queue (c : Ctr) (i k : Nat) (tenant : Option Nat) (q d : Nat) : (s.count c i k tenant).queue q d = s.queue q d :=
  count_proj s c i k tenant (State.queue · q d) fun _ _ => rfl

@[simp] theorem gmax_queue (c : Ctr) (i v q d : Nat) : (s.gmax c i v).queue q d = s.queue q d := by
  unfold State.gmax
  split <;> rfl

@[simp] theorem setVatFree_queue (n q c : Nat) : (setVatFree s n).queue q c = s.queue q c := by
  unfold setVatFree
  dsimp only
  split <;> rfl

/-- What accounts for a queue that is put does not change it. -/
@[simp] theorem putQueue_same (q c : Nat) (v : Queue) : (putQueue s q c v).queue q c = v := by
  have ite {p : Prop} [Decidable p] (x y : State) : (if p then x else y).queue q c = if p then x.queue q c else y.queue q c :=
    apply_ite (fun x : State => x.queue q c) p x y
  have mark (x : State) (b : Tab Bool) : State.queue { x with egress := { x.egress with wmOff := b } } q c = x.queue q c := rfl
  have clear (x : State) : (deficitClear x q c).queue q c = x.queue q c := rfl
  simp only [putQueue, ite, mark, clear, gmax_queue, setVatFree_queue, setQueue_same, ite_self]

@[simp] theorem putQueue_vatBytes (q c : Nat) (v : Queue) : (putQueue s q c v).cget .vatBytes 0 = s.cget .vatBytes 0 :=
  (putQueue_kept (fr := maskBut [.ctr .vatBytes]) q c v (.of_beq (by decide +kernel)) (.refl _ s)).same_of_but List.mem_cons_self 0

/-! ### A write completes (R206) -/

/-- The buffer that a written frame lets go has no part in the queue. -/
theorem exec_vatWriteComplete (he : (s.queue port cls).entries.find? (fun x => x.loc == .vatWait) = some e)
    (hw : (s.frame e.frame).whole = true) :
    let n := storedSize (s.frame e.frame).bytes.length
    let v := s.queue port cls
    ∃ t, exec (.vatWriteComplete port cls) s = .next t ∧ Kept (maskBut vatParts)
      ((putQueue s port cls { v with entries := vatWritten n v.entries, vatTail := v.vatTail + n - e.stored }).count .vatBytes 0 n
        (s.frame e.frame).ten) t := by
  intro n v
  simp only [exec, execVatWriteComplete, he, hw, Bool.true_eq_false, if_false]
  refine ⟨_, rfl, ?_⟩
  split
  · exact bufLeave_kept _ (.of_beq (by decide +kernel)) (bufRelease_kept _ _ (.of_beq (by decide +kernel)) (.refl _ _))
  · exact .refl _ _

/-! ### A read (R207) -/

/-- With no read in flight, the queue's own share does not bound the read. -/
theorem exec_vatReadIssue (he : (s.queue port cls).entries.find? (fun x => x.loc == .vatWait || x.loc == .vat) = some e)
    (hvat : e.loc = .vat) (hwants : raWants s port cls = true) (hroom : raUsed s (port / 8) + (e.stored - 16) ≤ 131072)
    (hnone : (s.queue port cls).entries.filter (fun x => x.loc == .reading || x.loc == .readAhead) = []) :
    exec (.vatReadIssue port cls) s =
      .next (putQueue s port cls { s.queue port cls with entries := vatIssued (s.queue port cls).entries }) := by
  simp only [exec, execVatReadIssue, he]
  rw [if_pos ⟨hvat, hwants, hroom, .inl (by rw [hnone]; rfl)⟩]
  rfl

/-- The queue of a read that completes, ON_DIE again if nothing of it is left in the Vat. -/
def vatReadQueue (v : Queue) (e : Copy) : Queue :=
  let l := vatRead v.entries
  if l.any Copy.inVat then { v with entries := l, vatHead := v.vatHead + e.stored + e.skip }
  else { v with entries := l, spilling := false, vatHead := 0, vatTail := 0 }

theorem exec_vatReadComplete (he : (s.queue port cls).entries.find? (fun x => x.loc == .reading) = some e) :
    exec (.vatReadComplete port cls) s =
      .next (putQueue (s.count .vatBytes 0 e.stored (s.frame e.frame).ten) port cls (vatReadQueue (s.queue port cls) e)) := by
  simp only [exec, execVatReadComplete, he]
  exact congrArg Host.Outcome.next (apply_ite _ _ _ _).symm

theorem vatReadQueue_entries (v : Queue) : (vatReadQueue v e).entries = vatRead v.entries := by
  unfold vatReadQueue
  dsimp only
  split <;> rfl

theorem vatReadQueue_onDie {v : Queue} (h : (vatRead v.entries).any Copy.inVat = false) : (vatReadQueue v e).spilling = false :=
  congrArg Queue.spilling (if_neg (Bool.eq_false_iff.1 h))

end

end Sys2Proof.Machine

open Sys2Proof Sys2Proof.Machine

/-- Settles O11: each row marks one entry of its queue, and what accounts for the queue, its buffers and its bytes does not change
its entries. -/
theorem vatKeepsQueueOrder : Obligations.VatKeepsQueueOrder := by
  refine ⟨fun s port cls e he hw => ?_, fun s port cls e he hvat hwants hroom hnone => ?_, fun s port cls e he => ?_⟩
  · obtain ⟨t, ht, kept⟩ := exec_vatWriteComplete he hw
    refine ⟨t, ht, ?_⟩
    beta_reduce
    rw [kept.queue, kept.vatBytes, count_queue, putQueue_same, count_cget_same, putQueue_vatBytes]
    exact ⟨rfl, vatWritten_order _ _, rfl⟩
  · refine ⟨_, exec_vatReadIssue he hvat hwants hroom hnone, ?_⟩
    beta_reduce
    rw [putQueue_same]
    exact ⟨rfl, vatIssued_order _⟩
  · refine ⟨_, exec_vatReadComplete he, ?_⟩
    beta_reduce
    rw [putQueue_same, putQueue_vatBytes, count_cget_same]
    exact ⟨vatReadQueue_entries _, vatRead_order _, rfl, vatReadQueue_onDie⟩

end

section
/-! SUPPORT. The start of a frame: its queue and its transmission; the choice of a due launch and of a DWRR round (R213, R216, R396). -/

namespace Sys2Proof.Machine

-- A proof that evaluates in the kernel waits for every declaration before it, and holds a thread while it waits.
set_option Elab.async false

section
variable {s t : State} {port q c : Nat} {e : Copy}

/-! ### A frame starts (R212, R214, R223) -/

@[simp] theorem takeHead_entries : ((takeHead s q c).queue q c).entries = (s.queue q c).entries.drop 1 :=
  congrArg Queue.entries (putQueue_same q c _)

@[simp] theorem takeHead_now : (takeHead s q c).now = s.now :=
  (takeHead_kept (fr := maskBut []) q c (.of_beq (by decide +kernel)) (.refl _ s)).now

@[simp] theorem shaperCharge_queue (d len n k : Nat) : (shaperCharge s q d len).queue n k = s.queue n k := by
  unfold shaperCharge
  split <;> rfl

@[simp] theorem shaperCharge_now (d len : Nat) : (shaperCharge s q d len).now = s.now := by
  unfold shaperCharge
  split <;> rfl

@[simp] theorem portStamp_queue (stamp n k : Nat) : (portStamp s q stamp).2.queue n k = s.queue n k := by
  unfold portStamp
  split <;> rfl

@[simp] theorem portStamp_now (stamp : Nat) : (portStamp s q stamp).2.now = s.now := by
  unfold portStamp
  split <;> rfl

/-- What an event that may be counted leaves alone. -/
theorem countIf_proj {α : Type} (f : State → α) (hf : ∀ x y p, f { x with ctr := y, prog := p } = f x) (p : Prop) [Decidable p] (d : Ctr)
    (i k : Nat) (tenant : Option Nat) : f (if p then s.count d i k tenant else s) = f s := by
  split
  · exact count_proj s d i k tenant f (hf s)
  · rfl

@[simp] theorem countIf_queue (p : Prop) [Decidable p] (d : Ctr) (i k : Nat) (tenant : Option Nat) (n m : Nat) :
    (if p then s.count d i k tenant else s).queue n m = s.queue n m :=
  countIf_proj (State.queue · n m) (fun _ _ _ => rfl) p d i k tenant

@[simp] theorem countIf_now (p : Prop) [Decidable p] (d : Ctr) (i k : Nat) (tenant : Option Nat) :
    (if p then s.count d i k tenant else s).now = s.now :=
  countIf_proj State.now (fun _ _ _ => rfl) p d i k tenant

/-- In `t` a copy has left its queue of `s`, and is in transmission since the instant of `s`. -/
def Started (s : State) (q c : Nat) (e : Copy) (t : State) : Prop :=
  (t.queue q c).entries = (s.queue q c).entries.drop 1 ∧
    ∃ u, tget none t.egress.tx (q, 0) = some u ∧ u.copy = e ∧ u.cls = c ∧ u.start = s.now

theorem startFrame_started : Started s q c e (startFrame s q c e) := by
  have tx (x : State) (y : Tab (Option Tx)) : State.queue { x with egress := { x.egress with tx := y } } q c = x.queue q c := rfl
  constructor
  · simp only [startFrame, tx, portStamp_queue, shaperCharge_queue, takeHead_entries, countIf_queue]
  · simp only [startFrame, tget_tset_same, portStamp_now, shaperCharge_now, takeHead_now, countIf_now]
    exact ⟨_, rfl, rfl, rfl, rfl⟩

/-- A frame starts from its queue whether or not it is counted first. -/
theorem startFrame_countIf (p : Prop) [Decidable p] (d : Ctr) (i k : Nat) (tenant : Option Nat) :
    Started s q c e (startFrame (if p then s.count d i k tenant else s) q c e) := by
  obtain ⟨left, sent⟩ := startFrame_started (s := if p then s.count d i k tenant else s) (q := q) (c := c) (e := e)
  rw [countIf_queue] at left
  rw [countIf_now] at sent
  exact ⟨left, sent⟩

/-! ### A due launch (R216, R396) -/

theorem lateAll_now : (lateAll s q).now = s.now :=
  (lateAll_kept (fr := maskBut []) q (.of_beq (by decide +kernel)) (.refl _ s)).now

theorem serveDue_started {x : Int} (hdue : firstDue (dueHeads s q) = some (x, c)) (he : headOf s q c = some e) :
    ∃ t, serveDue s q = some t ∧ Started s q c e t := by
  refine ⟨_, ?_, startFrame_countIf (isLate s q e = true) .lateSent (q * 16 + c) 1 (s.frame e.frame).ten⟩
  simp only [serveDue, hdue, he]

theorem exec_frameTransmitStart (hr : portReady s port = true) :
    exec (.frameTransmitStart port) s =
      .next ((serveDue (lateAll s port) port).getD ((serveDwrr (lateAll s port) port).getD (lateAll s port))) := by
  simp only [exec, execFrameTransmitStart, hr, if_true]
  split
  · next h => rw [h, Option.getD_some]
  · next h => rw [h, Option.getD_none]

theorem exec_launchDue (hr : portReady s port = true) :
    exec (.launchDue port) s = .next ((serveDue (lateAll s port) port).getD (lateAll s port)) := by
  simp only [exec, execLaunchDue, hr, if_true]

/-! ### The round of a group (R213) -/

/-- A DWRR round stops at a class of its group. -/
theorem dwrrLoop_mem {fuel g : Nat} {cs : List Nat} (h : dwrrLoop fuel s q g cs = some (c, t)) : c ∈ cs := by
  induction fuel generalizing s with
  | zero => cases h
  | succ fuel ih =>
    unfold dwrrLoop at h
    extract_lets at h
    split at h
    · exact ih h
    · next hin =>
      split at h
      · exact ih h
      · extract_lets at h
        split at h
        · have stop := (Prod.mk.inj (Option.some.inj h)).1
          rw [← stop]
          simpa using hin
        · exact ih h

/-- The classes of a port that may send. -/
def sendables (s : State) (q : Nat) : List Nat := (List.range 16).filter (sendable s q)

theorem mem_sendables : c ∈ sendables s q ↔ c < 16 ∧ sendable s q c = true := by
  rw [sendables, List.mem_filter, List.mem_range]

/-- What the round of R213 starts is a frame of a class that may send, of the lowest group with such a class. -/
theorem serveDwrr_starts (h : serveDwrr s q = some t) :
    ∃ c ∈ sendables s q, (∀ d ∈ sendables s q, schedFld s q c .SCHED_Q_sp_group ≤ schedFld s q d .SCHED_Q_sp_group) ∧
      ∃ x e, Started x q c e t := by
  unfold serveDwrr at h
  dsimp only at h
  rw [← sendables] at h
  split at h
  · cases h
  · next g hg =>
    obtain ⟨-, lowest⟩ := List.min?_eq_some_iff.1 hg
    split at h
    · cases h
    · next c x hloop =>
      obtain ⟨hc, hgroup⟩ := List.mem_filter.1 (dwrrLoop_mem hloop)
      split at h
      · next e he =>
        refine ⟨c, hc, fun d hd => ?_, _, e, Option.some.inj h ▸ startFrame_started⟩
        rw [of_decide_eq_true hgroup]
        exact lowest _ (List.mem_map_of_mem hd)
      · cases h

theorem serveDwrr_idle (h : ∀ c, c < 16 → sendable s q c = false) : serveDwrr s q = none := by
  have none_may : sendables s q = [] := List.filter_eq_nil_iff.2 fun c hc => Bool.eq_false_iff.1 (h c (List.mem_range.1 hc))
  unfold serveDwrr
  dsimp only
  rw [← sendables, none_may]
  rfl

end

end Sys2Proof.Machine

open Sys2Proof Sys2Proof.Machine

/-- Settles O8: both commands find the due head by the one `serveDue`, and a DWRR round stays in the lowest group that may send. -/
theorem dueLaunchesThenPriority : Obligations.DueLaunchesThenPriority := by
  refine ⟨fun s port x c e hr hdue he => ?_, fun s port hr hnone => ?_, fun s q t h => ?_, fun s q => serveDwrr_idle⟩
  · obtain ⟨t, served, started⟩ := serveDue_started hdue he
    rw [Started, lateAll_now] at started
    exact ⟨⟨t, by rw [exec_frameTransmitStart hr, served, Option.getD_some], started⟩,
      t, by rw [exec_launchDue hr, served, Option.getD_some], started⟩
  · rw [exec_frameTransmitStart hr, hnone, Option.getD_none]
  · obtain ⟨c, hc, lowest, x, e, -, u, hu, -, rfl, -⟩ := serveDwrr_starts h
    obtain ⟨hlt, hsend⟩ := mem_sendables.1 hc
    exact ⟨u, hu, hlt, hsend, fun d hd hds => lowest d (mem_sendables.2 ⟨hd, hds⟩)⟩

end

section
/-! SUPPORT. Held frames that are released or whose gap is given up; pin requests obeyed, ignored and sent again; and the end of a
pin (R243, R244, R247, R248). -/

namespace Sys2Proof.Machine

-- A proof that evaluates in the kernel waits for every declaration before it, and holds a thread while it waits.
set_option Elab.async false

section
variable {s : State} {src dst cls frame c : Nat}

/-! ### Held frames (R243, R244) -/

@[simp] theorem count_fabric (d : Ctr) (i k : Nat) (tenant : Option Nat) : (s.count d i k tenant).fabric = s.fabric :=
  count_proj s d i k tenant State.fabric fun _ _ => rfl

theorem exec_reseqRelease {h : Nat × Nat × Nat} {l : List (Nat × Nat × Nat)} (hheld : (s.stream src cls).held = h :: l)
    (hexp : h.1 = (s.stream src cls).exp) :
    exec (.reseqRelease src cls) s =
      .next (heldShow (stepThree (s.setStream src cls
        { s.stream src cls with held := l, exp := ((s.stream src cls).exp + 1) % 2 ^ 24 }) h.2.1)) := by
  simp only [exec, execReseqRelease, hheld, hexp, if_true]

/-- The gap below a held number is given up: its numbers count as lost, and the stream goes on from the held number. -/
def gapLost (s : State) (src cls n : Nat) : State :=
  (s.count .reseqLost src (ahead n (s.stream src cls).exp)).setStream src cls { s.stream src cls with exp := n }

theorem exec_reseqGapTimeout {h : Nat × Nat × Nat} {l : List (Nat × Nat × Nat)} {t0 : Nat} (hheld : (s.stream src cls).held = h :: l)
    (hfirst : ((s.stream src cls).held.map (fun x => x.2.2)).min? = some t0) (hgap : h.1 ≠ (s.stream src cls).exp)
    (hdue : t0 + 1000 * s.fget .FAB_CFG_gap_timeout_us 0 ≤ s.now) :
    exec (.reseqGapTimeout src cls) s = .next (gapLost s src cls h.1) := by
  simp only [exec, execReseqGapTimeout, hfirst]
  simp only [hheld, if_pos (And.intro hgap hdue), gapLost]

/-! ### A pin request arrives (R248) -/

/-- What the end of a pin request's frame does not touch. -/
def pinParts : List Part := [.fabric, .reg .FAB_CFG, .ctr .pinReqIgnored]

/-- The frame of a pin request has ended. -/
def pinFrameEnded (s : State) (frame : Nat) : State := frameRelease1 (slotSettle s frame false) frame

theorem pinFrameEnded_kept : Kept (maskBut pinParts) s (pinFrameEnded s frame) :=
  frameRelease1_kept frame (.of_beq (by decide +kernel)) (slotSettle_kept frame false (.of_beq (by decide +kernel)) (.refl _ _))

@[simp] theorem pinFrameEnded_fabric : (pinFrameEnded s frame).fabric = s.fabric :=
  pinFrameEnded_kept.same_of_but (p := .fabric) (by decide)

/-- The stream to a device and class is pinned for pin_ms from now. -/
def pinFrom (s : State) (src c : Nat) : State :=
  { s with fabric := { s.fabric with
      pinEnd := tset 0 s.fabric.pinEnd (src, c) (s.now + 1000000 * s.fget .FAB_CFG_pin_ms 0) } }

/-- A pin request is obeyed or ignored. -/
def pinAnswer (s : State) (src c epoch : Nat) : State :=
  if tget 0 s.fabric.seq (src, c) = 0 then s.count .pinReqIgnored 0
  else if epoch ≠ s.fabric.epoch then s
  else (pinFrom s src c).event .FAB_STATUS_pin_event 0

theorem exec_pinRequest {f : Frame} {m : Shim} (hf : s.frame? frame = some f) (hm : f.shim = some m)
    (hpin : f.stage = .reseq ∧ m.typ = 2 ∧ f.transit = false) :
    exec (.pinRequest frame) s =
      .next (pinAnswer (pinFrameEnded s frame) m.src (byteAt f.bytes 16 % 16) (byteAt f.bytes 17)) := by
  simp only [exec, execPinRequest, hf, hm, if_pos hpin]
  rfl

theorem pinAnswer_unused {epoch : Nat} (hseq : tget 0 s.fabric.seq (src, c) = 0) :
    pinAnswer s src c epoch = s.count .pinReqIgnored 0 := if_pos hseq

theorem pinAnswer_current {epoch : Nat} (hseq : tget 0 s.fabric.seq (src, c) ≠ 0) (hepoch : epoch = s.fabric.epoch) :
    pinAnswer s src c epoch = (pinFrom s src c).event .FAB_STATUS_pin_event 0 := by
  rw [pinAnswer, if_neg hseq, if_neg (not_not_intro hepoch)]

theorem pinAnswer_otherEpoch {epoch : Nat} (h : epoch ≠ s.fabric.epoch) : (pinAnswer s src c epoch).fabric = s.fabric := by
  rw [pinAnswer, if_pos h]
  split
  · exact count_fabric _ _ _ _
  · rfl

/-- The event of a pin leaves the pin as it is. -/
theorem pinFrom_event_fabric : ((pinFrom s src c).event .FAB_STATUS_pin_event 0).fabric = (pinFrom s src c).fabric :=
  event_same (p := .fabric) (by decide) _ _

theorem pinFrom_pinEnd :
    tget 0 (pinFrom s src c).fabric.pinEnd (src, c) = s.now + 1000000 * s.fget .FAB_CFG_pin_ms 0 :=
  tget_tset_same _ _ _ _

/-! ### A pin request is sent (R247, R250) -/

/-- Whatever becomes of its frame, a pin request that is sent counts once. -/
theorem sendPin_pinReqSent (epoch : Nat) : (sendPin s src cls epoch).cget .pinReqSent 0 = (s.cget .pinReqSent 0 + 1) % 2 ^ 48 := by
  have counted : Kept (maskBut [.ctr .pinReqSent]) (s.draw.2.count .pinReqSent 0) (sendPin s src cls epoch) := by
    have framed (f : Frame) : Kept (maskBut [.ctr .pinReqSent]) (s.draw.2.count .pinReqSent 0)
        ((s.draw.2.count .pinReqSent 0).newFrame f) :=
      State.newFrame_kept f (.of_beq (by decide +kernel)) (.refl _ _)
    unfold sendPin
    dsimp only
    split
    · exact dropFrame_kept _ _ _ (.of_beq (by decide +kernel))
        (State.count_kept _ _ _ _ (.of_beq (by decide +kernel)) (framed _) (.of_beq (by decide +kernel)))
    · next hu =>
      exact enqueue_kept _ _ _ _ _ (.of_beq (by decide +kernel))
        (KeptP.elim hu (pinUplink_kept _ _ _ (.of_beq (by decide +kernel)) (framed _)))
  rw [counted.same_of_but (p := .ctr .pinReqSent) (by decide), count_cget_same, cget_draw]

theorem exec_pinRequestResend {t0 : Nat} (hmode : (s.stream src cls).mode = .pass) (hlast : (s.stream src cls).lastPin = some t0)
    (hdue : t0 + 10000000 ≤ s.now) :
    exec (.pinRequestResend src cls) s =
      .next (sendPin (s.setStream src cls { s.stream src cls with lastPin := some s.now }) src cls (s.stream src cls).epoch) := by
  simp only [exec, execPinRequestResend, hmode, hlast, if_pos hdue]

/-! ### A pin ends (R248) -/

/-- The stream to a device and class is pinned no more, but for what FAB_ROUTE pins. -/
def pinEnded (s : State) (dst cls : Nat) : State :=
  { s with fabric := { s.fabric with pinEnd := tset 0 s.fabric.pinEnd (dst, cls) 0 } }

theorem exec_pinExpire (hdue : tget 0 s.fabric.pinEnd (dst, cls) ≤ s.now) :
    exec (.pinExpire dst cls) s = .next (pinEnded s dst cls) := congrArg Host.Outcome.next (if_pos hdue)

theorem pinEnded_pinEnd : tget 0 (pinEnded s dst cls).fabric.pinEnd (dst, cls) = 0 :=
  tget_tset_same 0 s.fabric.pinEnd (dst, cls) 0

theorem streamPinned_pinEnded : streamPinned (pinEnded s dst cls) dst cls = s.fbit .FAB_ROUTE_pinned dst := by
  rw [streamPinned, pinEnded_pinEnd, decide_eq_false (Nat.not_lt_zero _), Bool.or_false]
  rfl

end

end Sys2Proof.Machine

open Sys2Proof Sys2Proof.Machine

/-- Settles O4: a release or a lost gap edits its stream, a pin request edits the pins or one count, and a request sent again counts
once. -/
theorem streamsReleaseAndPin : Obligations.StreamsReleaseAndPin := by
  refine ⟨⟨fun s src cls h l => exec_reseqRelease, fun s src cls h l t0 hheld hfirst hgap hdue => ?_⟩,
    fun s frame f m hf hm hstage htyp htransit => ?_, fun s src cls t0 hmode hlast hdue => ?_, fun s dst cls hdue => ?_⟩
  · refine ⟨_, exec_reseqGapTimeout hheld hfirst hgap hdue, setStream_same _ _ _ _, ?_⟩
    rw [gapLost, cget_setStream, count_cget_same]
  · have fabric : (pinFrameEnded s frame).fabric = s.fabric := pinFrameEnded_fabric
    refine ⟨_, exec_pinRequest hf hm ⟨hstage, htyp, htransit⟩, fun hunused => ?_, fun hused hepoch => ?_, fun hepoch => ?_⟩
    · rw [← fabric] at hunused
      rw [pinAnswer_unused hunused, count_cget_same, count_fabric, fabric,
        pinFrameEnded_kept.same_of_but (p := .ctr .pinReqIgnored) (by decide)]
      exact ⟨rfl, rfl⟩
    · rw [← fabric] at hused hepoch
      rw [pinAnswer_current hused hepoch, pinFrom_event_fabric, pinFrom_pinEnd, pinFrameEnded_kept.now,
        pinFrameEnded_kept.same_of_but (p := .reg .FAB_CFG) (by decide) _ _ rfl]
      exact ⟨rfl, event_fget_same (by decide) rfl 0⟩
    · rw [← fabric] at hepoch
      rw [pinAnswer_otherEpoch hepoch, fabric]
  · refine ⟨_, exec_pinRequestResend hmode hlast hdue, ?_⟩
    beta_reduce
    rw [sendPin_pinReqSent, cget_setStream]
  · exact ⟨_, exec_pinExpire hdue, pinEnded_pinEnd, streamPinned_pinEnded⟩

end

section
/-! SUPPORT. Every command answers a next state (log entry 3). -/

namespace Sys2Proof.Machine

/-- A released reset source answers a next state, whichever it is. -/
theorem execResetSourceRelease_next (r : ResetSource) (s : State) : ∃ t, execResetSourceRelease r s = .next t := by
  cases r <;> exact ⟨_, rfl⟩

/-- Whatever the command and the state, `exec` answers a next state: no meaning faults and none is refused. -/
theorem exec_next (c : Instr) (s : State) : ∃ t, exec c s = .next t := by
  cases c
  case resetSourceRelease r => exact execResetSourceRelease_next r s
  all_goals exact ⟨_, rfl⟩

end Sys2Proof.Machine

open Sys2Proof Sys2Proof.Machine

/-- Settles O55: the next state that every command answers, and what every command keeps. -/
theorem outputsGrowFusesAndOtpStand : Obligations.OutputsGrowFusesAndOtpStand := by
  intro c s
  obtain ⟨t, h⟩ := exec_next c s
  have k := exec_kept c s t h
  exact ⟨t, h, k.out, k.fuses, k.otp, k.draws, k.pending, k.now⟩

end

section
/-! SUPPORT. The carry chain of the programmable counters (R306). -/

namespace Sys2Proof.Machine

section
variable {s : State} {fuel g n k : Nat}

/-- One programmable counter after it takes `k` events: its count modulo 2^48. -/
def progOne (s : State) (g n k : Nat) : State :=
  { s with prog := tset 0 s.prog (g, n) ((tget 0 s.prog (g, n) + k) % 2 ^ 48) }

/-- A counter that wraps carries into the next one of its chain. -/
def progCarries (s : State) (g n k : Nat) : Prop :=
  2 ^ 48 ≤ tget 0 s.prog (g, n) + k ∧ n < 7 ∧ s.fbit .TALLY_PROG_chain (g * 8 + n) = true

theorem progAdd_of_carries (h : progCarries s g n k) :
    progAdd (fuel + 1) s g n k = progAdd fuel (progOne s g n k) g (n + 1) ((tget 0 s.prog (g, n) + k) / 2 ^ 48) := if_pos h

theorem progAdd_of_not_carries (h : ¬progCarries s g n k) : progAdd (fuel + 1) s g n k = progOne s g n k := if_neg h

theorem progOne_same : tget 0 (progOne s g n k).prog (g, n) = (tget 0 s.prog (g, n) + k) % 2 ^ 48 := tget_tset_same _ _ _ _

theorem progOne_other {j : Key} (h : j ≠ (g, n)) : tget 0 (progOne s g n k).prog j = tget 0 s.prog j :=
  tget_tset_other _ _ _ _ _ _ h

/-- Events of a counter leave the counters of other groups and those before it. -/
theorem progAdd_below {h x : Nat} (hx : h ≠ g ∨ x < n) : tget 0 (progAdd fuel s g n k).prog (h, x) = tget 0 s.prog (h, x) := by
  induction fuel generalizing s n k with
  | zero => rfl
  | succ fuel ih =>
    have one : tget 0 (progOne s g n k).prog (h, x) = tget 0 s.prog (h, x) :=
      progOne_other fun e => by obtain ⟨rfl, rfl⟩ := Prod.mk.inj e; omega
    by_cases hc : progCarries s g n k
    · rw [progAdd_of_carries hc, ih (by omega), one]
    · rw [progAdd_of_not_carries hc, one]

/-- Nor do they reach past counter 7. -/
theorem progAdd_above {h x : Nat} (hn : n < 8) (hx : 8 ≤ x) : tget 0 (progAdd fuel s g n k).prog (h, x) = tget 0 s.prog (h, x) := by
  induction fuel generalizing s n k with
  | zero => rfl
  | succ fuel ih =>
    have one : tget 0 (progOne s g n k).prog (h, x) = tget 0 s.prog (h, x) :=
      progOne_other fun e => by obtain ⟨rfl, rfl⟩ := Prod.mk.inj e; omega
    by_cases hc : progCarries s g n k
    · rw [progAdd_of_carries hc, ih (by have := hc.2.1; omega), one]
    · rw [progAdd_of_not_carries hc, one]

/-- A counter takes its events modulo 2^48. -/
theorem progAdd_same : tget 0 (progAdd (fuel + 1) s g n k).prog (g, n) = (tget 0 s.prog (g, n) + k) % 2 ^ 48 := by
  by_cases hc : progCarries s g n k
  · rw [progAdd_of_carries hc, progAdd_below (.inr (Nat.lt_succ_self n)), progOne_same]
  · rw [progAdd_of_not_carries hc, progOne_same]

/-- What events make of the counters from `n` on depends on those alone, and on no more fuel than the chain is long. -/
theorem progAdd_congr {u : State} {gas x : Nat} (hreg : u.reg = s.reg) (hprog : ∀ y, n ≤ y → tget 0 u.prog (g, y) = tget 0 s.prog (g, y))
    (hf : 8 ≤ n + fuel) (hg : 8 ≤ n + gas) (hn : n < 8) (hx : n ≤ x) :
    tget 0 (progAdd fuel u g n k).prog (g, x) = tget 0 (progAdd gas s g n k).prog (g, x) := by
  induction fuel generalizing u s n k gas with
  | zero => omega
  | succ fuel ih =>
    obtain ⟨gas, rfl⟩ : ∃ m, gas = m + 1 := ⟨gas - 1, by omega⟩
    have bit (i : Nat) : u.fbit .TALLY_PROG_chain i = s.fbit .TALLY_PROG_chain i := by rw [State.fbit, State.fget, hreg]; rfl
    have same : progCarries u g n k ↔ progCarries s g n k := by rw [progCarries, progCarries, hprog n (Nat.le_refl n), bit]
    have one (y : Nat) (hy : n ≤ y) : tget 0 (progOne u g n k).prog (g, y) = tget 0 (progOne s g n k).prog (g, y) := by
      by_cases e : y = n
      · rw [e, progOne_same, progOne_same, hprog n (Nat.le_refl n)]
      · have other : (g, y) ≠ (g, n) := fun h => e (Prod.mk.inj h).2
        rw [progOne_other other, progOne_other other, hprog y hy]
    by_cases hc : progCarries s g n k
    · rw [progAdd_of_carries hc, progAdd_of_carries (same.2 hc), hprog n (Nat.le_refl n)]
      by_cases e : x = n
      · rw [e, progAdd_below (.inr (Nat.lt_succ_self n)), progAdd_below (.inr (Nat.lt_succ_self n)), one n (Nat.le_refl n)]
      · have := hc.2.1
        exact ih hreg (fun y hy => one y (by omega)) (by omega) (by omega) (by omega) (by omega)
    · rw [progAdd_of_not_carries hc, progAdd_of_not_carries (mt same.1 hc), one x hx]

/-- A counter that wraps, with chain set, adds one event to the next; else no counter after it changes. -/
theorem progAdd_chain {x : Nat} (hn : n < 8) (hk : k < 2 ^ 48) (hv : tget 0 s.prog (g, n) < 2 ^ 48) (hx : n < x) :
    tget 0 (progAdd 8 s g n k).prog (g, x) =
      if (decide (2 ^ 48 ≤ tget 0 s.prog (g, n) + k) && s.fbit .TALLY_PROG_chain (g * 8 + n)) = true ∧ n < 7 then
        tget 0 (progAdd 8 s g (n + 1) 1).prog (g, x)
      else tget 0 s.prog (g, x) := by
  have other (y : Nat) (hy : n + 1 ≤ y) : tget 0 (progOne s g n k).prog (g, y) = tget 0 s.prog (g, y) :=
    progOne_other fun e => by have := (Prod.mk.inj e).2; omega
  by_cases hc : progCarries s g n k
  · have ⟨hw, h7, hchain⟩ := hc
    have carry : (tget 0 s.prog (g, n) + k) / 2 ^ 48 = 1 := by omega
    rw [progAdd_of_carries hc, carry, if_pos ⟨by rw [hchain, decide_eq_true hw]; rfl, h7⟩]
    exact progAdd_congr rfl other (by omega) (by omega) (by omega) hx
  · rw [progAdd_of_not_carries hc, other x hx, if_neg]
    rintro ⟨hw, h7⟩
    rw [Bool.and_eq_true, decide_eq_true_eq] at hw
    exact hc ⟨hw.1, h7, hw.2⟩

theorem progAdd_ctr : (progAdd fuel s g n k).ctr = s.ctr := by
  obtain ⟨p, e⟩ := progAdd_shape fuel s g n k
  rw [e]

/-- An event changes one instance of one counter. -/
theorem count_cget_instance {c d : Ctr} {i j : Nat} (tenant : Option Nat) (h : (d, j) ≠ (c, i)) :
    (s.count c i k tenant).cget d j = s.cget d j := by
  obtain ⟨p, e⟩ := count_shape s c i k tenant
  rw [e]
  exact tget_tset_other _ _ _ _ _ _ fun x => h (by
    obtain ⟨a, b⟩ := Prod.mk.inj x
    rw [Ctr.eq_of_ctorIdx a, b])

end

end Sys2Proof.Machine

open Sys2Proof Sys2Proof.Machine

/-- Settles O57: an event changes its own counter, and its carries go up the chain of programmable counters. -/
theorem countersWrapAndChain : Obligations.CountersWrapAndChain := by
  refine ⟨fun s c i k tenant => count_cget_same s c i k tenant, fun s c i k tenant d j h => count_cget_instance tenant h,
    fun s g n k hn hk hprog => ⟨progAdd_same, fun x _ hx => progAdd_chain hn hk (hprog n) hx, fun h x hx => ?_, progAdd_ctr⟩⟩
  obtain hx | hx | hx := hx
  · exact progAdd_below (.inl hx)
  · exact progAdd_below (.inr hx)
  · exact progAdd_above hn hx

end

section
/-! SUPPORT. CMD_NOP: what its completion writes, and what one that is quiet or lost leaves (R258, R262, R265, R271). -/

namespace Sys2Proof.Machine

-- A proof that evaluates in the kernel waits for every declaration before it, and holds a thread while it waits.
set_option Elab.async false

section
variable {s : State} {set index k v : Nat} {w : Work}

/-- A message of a ring changes nothing else of the host interface than its ring's moderation, status blocks and what is pending. -/
theorem ringMessage_host (set k : Nat) : ∃ q d p, (ringMessage s set k).host =
    { (s.setRing set k { s.ring set k with since := 0, oldest := none }).host with sbSeq := q, sbDirty := d, msixPend := p } :=
  setMessage_host _ _ _

/-- A ring whose vector is sent starts its moderation anew. -/
theorem ringMessage_ring : (ringMessage s set k).ring set k = { s.ring set k with since := 0, oldest := none } := by
  obtain ⟨q, d, p, e⟩ := ringMessage_host (s := s) set k
  rw [State.ring, e]
  exact setRing_same s set k _

/-- An entry moves the device-owned index on by one, whatever its message does. -/
theorem ringWrite_devIdx : ((ringWrite s set k v).ring set k).devIdx = ((s.ring set k).devIdx + 1) % 2 ^ 32 := by
  unfold ringWrite
  dsimp only
  split
  · rw [ringMessage_ring]
    exact congrArg RingSt.devIdx (setRing_same _ set k _)
  · exact congrArg RingSt.devIdx (setRing_same _ set k _)

theorem ringWrite_cpls : (ringWrite s set k v).host.cpls = s.host.cpls := by
  unfold ringWrite
  dsimp only
  split
  · obtain ⟨q, d, p, e⟩ := ringMessage_host (s := sbMark (State.setRing _ set k _) set) set k
    rw [e]
    rfl
  · rfl

theorem exec_cmdNop (h : cmdWork s set index 0x00 .fetched = some w) : exec (.cmdNop set index) s = .next (cmdComplete s w 0 0 0 0) := by
  simp only [exec, execCmdNop, h]

/-- A quiet command that ends OK only ends its work. -/
theorem cmdComplete_quiet {reason version extra : Nat} (hlost : w.lost = false) (hquiet : bits w.desc 8 1 = 1) :
    cmdComplete s w 0 reason version extra = workDrop s w.set w.ring w.index := by
  simp [cmdComplete, complete, hlost, hquiet]

/-- A completion of a set that has been reset since only ends its work, and is counted. -/
theorem complete_lost {opcode status reason version extra : Nat} {quiet : Bool} {data : Option (Nat × List Byte)} (hlost : w.lost = true)
    (hring : w.ring = 0) :
    complete s w opcode status reason version extra quiet data = (workDrop s w.set w.ring w.index).count .cplLost 0 := by
  simp [complete, hlost, hring]

/-- The work of a command is that of its descriptor. -/
theorem cmdWork_place {op : Nat} {st : WorkStage} (h : cmdWork s set index op st = some w) :
    w.set = set ∧ w.ring = 0 ∧ w.index = index := by
  have k := List.find?_some (p := fun x : Work => x.set == set && x.ring == 0 && x.index == index) (workOf_of_cmdWork h)
  simpa [and_assoc] using k

end

end Sys2Proof.Machine

open Sys2Proof Sys2Proof.Machine

/-- Settles O21: the completion of CMD_NOP is written, is quiet, or is lost with its set. -/
theorem completionsAreWritten : Obligations.CompletionsAreWritten := by
  intro s set index w h
  obtain ⟨rfl, hring, rfl⟩ := cmdWork_place h
  have ended (t : State) (e : t = cmdComplete s w 0 0 0 0) : workOf t w.set 0 w.index = none := by
    rw [e, ← hring]
    exact workOf_complete none
  refine ⟨fun hlost hloud hruns hroom hcpls => ⟨_, exec_cmdNop h, cmdComplete_answered, ended _ rfl, ?_⟩,
    fun hlost hquiet => ⟨_, exec_cmdNop h, ?_, ?_, ended _ rfl⟩, fun hlost => ⟨_, exec_cmdNop h, ?_, ?_, ended _ rfl⟩⟩
  · have loud : (bits w.desc 8 1 == 1 && (0 : Nat) == 0) = false := by rw [hloud]; rfl
    obtain ⟨hcount, -⟩ := cmdComplete_answered (s := s) (w := w) (status := 0) (reason := 0) (version := 0) (extra := 0)
      hruns hroom hcpls hlost (.inl hloud)
    refine ⟨?_, hcount, ?_⟩ <;> rw [cmdComplete, complete_written hruns hroom hcpls hlost loud]
    · rw [State.ring, count_host]
      exact ringWrite_devIdx
    · rw [count_host]
      exact ringWrite_cpls
  · rw [cmdComplete_quiet hlost hquiet]
    rfl
  · rw [cmdComplete_quiet hlost hquiet]
    rfl
  · rw [cmdComplete, complete_lost hlost hring, count_out]
    rfl
  · rw [cmdComplete, complete_lost hlost hring, count_cget_same]
    rfl

end

section
/-! SUPPORT. Status blocks, ring messages, the ends of rings, and the PCIe link (R256, R258, R259, R261, R272, R367). -/

namespace Sys2Proof.Machine

-- A proof that evaluates in the kernel waits for every declaration before it, and holds a thread while it waits.
set_option Elab.async false

section
variable {s : State} {set k : Nat}

/-! ### Messages (R258, R259) -/

/-- The status block of a set with its next sequence number, as it leaves the device. -/
def sbOut (s : State) (set : Nat) : Out :=
  .hostWrite (s.fget .SB_ADDR_addr set) (leBytes 64 (sbWords s set + (tget 0 s.host.sbSeq (set, 0) + 1) % 2 ^ 32 * 2 ^ 256 +
    s.stamp32 * 2 ^ 288 + s.time.epoch * 2 ^ 320))

theorem sbWrite_out : (sbWrite s set).out = s.out ++ [sbOut s set] := rfl

theorem sbWrite_sbDirty : tget false (sbWrite s set).host.sbDirty (set, 0) = false := tget_tset_same false s.host.sbDirty (set, 0) false

theorem sbWrite_sbSeq :
    tget 0 (sbWrite s set).host.sbSeq (set, 0) = (tget 0 s.host.sbSeq (set, 0) + 1) % 2 ^ 32 := tget_tset_same 0 s.host.sbSeq (set, 0) _

/-- A vector of a set as MSI-X numbers it. -/
def setVector (s : State) (set v : Nat) : Key := (setOwner s set, 32 * setPage s set + v)

/-- The status block of a set, if it is due. -/
def sbFirst (s : State) (set : Nat) : State := if tget false s.host.sbDirty (set, 0) then sbWrite s set else s

theorem sbFirst_out : s.out <+: (sbFirst s set).out := by
  unfold sbFirst
  split
  · exact List.prefix_append _ _
  · exact List.prefix_refl _

theorem sbFirst_vector (v : Nat) : setVector (sbFirst s set) set v = setVector s set v := by
  unfold sbFirst
  split <;> rfl

theorem sbFirst_msixMask : (sbFirst s set).host.msixMask = s.host.msixMask := by
  unfold sbFirst
  split <;> rfl

theorem setMessage_eq (v : Nat) : setMessage s set v =
    if tget false (sbFirst s set).host.msixMask (setVector (sbFirst s set) set v) then
      { sbFirst s set with host := { (sbFirst s set).host with
          msixPend := tset false (sbFirst s set).host.msixPend (setVector (sbFirst s set) set v) true } }
    else (sbFirst s set).emit (.msix (setVector (sbFirst s set) set v).1 (setVector (sbFirst s set) set v).2) := rfl

/-- A vector that is not masked leaves the device. -/
theorem setMessage_sends {v : Nat} (h : tget false s.host.msixMask (setVector s set v) = false) :
    Out.msix (setVector s set v).1 (setVector s set v).2 ∈ (setMessage s set v).out.drop s.out.length := by
  rw [setMessage_eq, sbFirst_vector, sbFirst_msixMask, h, if_neg Bool.false_ne_true]
  obtain ⟨l, hl⟩ := sbFirst_out (s := s) (set := set)
  rw [emit_out, ← hl]
  simp

/-- A masked vector is pending. -/
theorem setMessage_pends {v : Nat} (h : tget false s.host.msixMask (setVector s set v) = true) :
    tget false (setMessage s set v).host.msixPend (setVector s set v) = true := by
  rw [setMessage_eq, sbFirst_vector, sbFirst_msixMask, h, if_pos rfl]
  exact tget_tset_same false _ _ true

/-- A ring's message leaves on its vector, or is pending where that is masked. -/
theorem ringMessage_vector (k : Nat) : let v := setVector s set (s.fget .RING_CTL_vector (set * 8 + k))
    (tget false s.host.msixMask v = false → Out.msix v.1 v.2 ∈ (ringMessage s set k).out.drop s.out.length) ∧
      (tget false s.host.msixMask v = true → tget false (ringMessage s set k).host.msixPend v = true) :=
  ⟨setMessage_sends (s := s.setRing set k { s.ring set k with since := 0, oldest := none }),
    setMessage_pends (s := s.setRing set k { s.ring set k with since := 0, oldest := none })⟩

/-! ### A ring that stops (R261) -/

/-- What an event sends follows what has left the device. -/
theorem event_out (f : Fld) (i : Nat) : s.out <+: (s.event f i).out :=
  (evtUpdate_kept (fr := partsMask evtParts) (.of_beq (by decide +kernel)) (.refl _ (s.fset f i 1))).out

theorem ringStop_lastRing (err : Fld) (hne : .SET_ERR_last_ring ≠ err) (hk : k < 8) :
    (ringStop s set k err).fget .SET_ERR_last_ring set = k := by
  have h : (ringStop s set k err).fget .SET_ERR_last_ring set = k % 2 ^ Fld.SET_ERR_last_ring.info.width :=
    (event_fget_ne (by decide) hne _ _).trans (fget_fset_same _ _ _ _)
  rw [h]
  exact Nat.mod_eq_of_lt hk

theorem ringStop_not_runs : ringRuns (ringStop s set k .SET_ERR_dma_err) set k = false := by
  rw [ringRuns, State.fbit, ringStop_stopped]
  simp

/-- The error is reported. -/
theorem ringStop_reports (err : Fld) : Out.aer (setOwner s set) ∈ (ringStop s set k err).out.drop s.out.length := by
  have owner : setOwner (s.fset .RING_CTL_stopped (set * 8 + k) 1) set = setOwner s set := by
    rw [setOwner, fget_fset_ne (by decide), setOwner]
  have h : s.out ++ [Out.aer (setOwner (s.fset .RING_CTL_stopped (set * 8 + k) 1) set)] <+: (ringStop s set k err).out :=
    event_out (s := ((s.fset .RING_CTL_stopped (set * 8 + k) 1).fset .SET_ERR_last_ring set k).emit
      (.aer (setOwner (s.fset .RING_CTL_stopped (set * 8 + k) 1) set))) err set
  rw [owner] at h
  exact mem_drop_length_of_append h

/-! ### The link's own state (R261, R272, R367) -/

/-- Bus Master Enable of each function, and the state of the link. -/
def linkOf (s : State) : Tab Bool × Bool × Bool := (s.host.busMaster, s.host.linkUp, s.host.compliance)

theorem event_linkOf (f : Fld) (i : Nat) : linkOf (s.event f i) = linkOf s := by
  obtain ⟨q, d, p, e⟩ := event_host s f i
  rw [linkOf, e, linkOf]

theorem count_linkOf (c : Ctr) (i n : Nat) (tenant : Option Nat) : linkOf (s.count c i n tenant) = linkOf s := by
  rw [linkOf, count_host, linkOf]

theorem ringWrite_linkOf (v : Nat) : linkOf (ringWrite s set k v) = linkOf s := by
  unfold ringWrite
  dsimp only
  split
  · obtain ⟨q, d, p, e⟩ := ringMessage_host (s := sbMark (State.setRing _ set k _) set) set k
    rw [linkOf, e]
    rfl
  · rfl

theorem cplData_linkOf (c : Cpl) : linkOf (cplData s c).1 = linkOf s := by
  unfold cplData
  split
  · split <;> rfl
  · rfl

theorem cplOne_linkOf (c : Cpl) : linkOf (cplOne s c) = linkOf s := by
  have keep (t : State) (d : Cpl) : linkOf (cplKeep t d) = linkOf t := rfl
  rw [← cplData_linkOf (s := s) c]
  unfold cplOne
  dsimp only
  split
  · split <;> rfl
  · split
    · split <;> simp only [keep, count_linkOf]
    · split
      · rw [count_linkOf, ringWrite_linkOf]
      · rfl

theorem cplFlush_linkOf (l : List Cpl) : linkOf (cplFlush s l) = linkOf s :=
  List.foldlRecOn l _ (motive := fun t : State => linkOf t = linkOf s) rfl fun _ h c _ => (cplOne_linkOf c).trans h

theorem rspFlush_linkOf (l : List Nat) : linkOf (rspFlush s l) = linkOf s := by
  induction l generalizing s with
  | nil => rfl
  | cons v l ih =>
    unfold rspFlush
    dsimp only
    rw [ih]
    split
    · exact count_linkOf _ _ _ _
    · split
      · rw [event_linkOf, ringWrite_linkOf]
      · rfl

/-- What goes on once a function masters the bus leaves the link as it is. -/
theorem hostFlush_linkOf : linkOf (hostFlush s) = linkOf s := by
  unfold hostFlush
  dsimp only
  rw [rspFlush_linkOf]
  exact cplFlush_linkOf _

/-! ### The rows -/

theorem exec_statusBlockWrite (hdirty : tget false s.host.sbDirty (set, 0) = true) (hen : s.fbit .SET_CTL_set_en set = true)
    (hmaster : tget false s.host.busMaster (setOwner s set, 0) = true) : exec (.statusBlockWrite set) s = .next (sbWrite s set) := by
  simp only [exec, execStatusBlockWrite, hdirty, hen, hmaster, Bool.and_self, if_true]

theorem exec_irqModTimer {t0 : Nat} (hold : (s.ring set k).oldest = some t0) (hhost : ringToHost k = true) (hruns : ringRuns s set k = true)
    (hirq : s.fbit .RING_CTL_irq_en (set * 8 + k) = true) (hdue : t0 + 1000 * s.fget .RING_CTL_mod_time_us (set * 8 + k) ≤ s.now) :
    exec (.irqModTimer set k) s = .next (ringMessage s set k) := by
  simp only [exec, execIrqModTimer, hold, hhost, hruns, hirq, hdue, and_self, if_true]

theorem exec_ringQuiesced (h : (s.ring set k).quiescing = true) : exec (.ringQuiesced set k) s =
    .next ((s.setRing set k { s.ring set k with quiescing := false }).fset .RING_CTL_en (set * 8 + k) 0) :=
  congrArg Host.Outcome.next (if_pos h)

theorem exec_ringDmaError (hk : k = 0 ∨ k = 2 ∨ k = 3 ∨ k = 6) (hruns : ringRuns s set k = true) :
    exec (.ringDmaError set k) s = .next (ringStop s set k .SET_ERR_dma_err) := congrArg Host.Outcome.next (if_pos ⟨hk, hruns⟩)

theorem exec_perstRelease (h : s.host.perst = true) : exec .perstRelease s =
    .next { s with host := { s.host with perst := false, linkUp := s.rind.pcieUp, compliance := false },
                   rind := { s.rind with pcieFrom := s.now } } := congrArg Host.Outcome.next (if_pos h)

theorem exec_pcieEnterCompliance (h : pcieReady s = true) :
    exec .pcieEnterCompliance s = .next { s with host := { s.host with compliance := true, linkUp := false } } :=
  congrArg Host.Outcome.next (if_pos h)

/-- A config write has shown the link up and has set Bus Master Enable of a function. -/
def busMasterSet (s : State) (fn : Nat) (b : Bool) : State :=
  { s with host := { s.host with busMaster := tset false s.host.busMaster (fn, 0) b, linkUp := true, compliance := false } }

theorem exec_busMasterEnableChange {fn : Nat} {b : Bool} (h : pcieReady s = true) (hfn : fn < 64) (hvf : fn = 0 ∨ s.host.vfEnable = true) :
    exec (.busMasterEnableChange fn b) s = .next (hostFlush (busMasterSet s fn b)) := congrArg Host.Outcome.next (if_pos ⟨h, hfn, hvf⟩)

end

end Sys2Proof.Machine

open Sys2Proof Sys2Proof.Machine

/-- Settles O37: a block and a message leave, a ring ends or stops, and the link changes as its event says. -/
theorem ringEndsAndMessages : Obligations.RingEndsAndMessages := by
  refine ⟨fun s set hdirty hen hmaster => ⟨_, exec_statusBlockWrite hdirty hen hmaster, sbWrite_sbDirty, sbWrite_sbSeq, sbWrite_out⟩,
    fun s set ring t0 hold hhost hruns hirq hdue =>
      ⟨_, exec_irqModTimer hold hhost hruns hirq hdue, ringMessage_ring, ringMessage_vector ring⟩,
    fun s set ring h => ⟨_, exec_ringQuiesced h, fget_fset_same _ _ _ _, setRing_same _ _ _ _⟩,
    fun s set ring hring hruns => ?_, fun s h => ⟨_, exec_perstRelease h, rfl, rfl, rfl⟩,
    fun s h => ⟨_, exec_pcieEnterCompliance h, rfl, (Kept.setHost (.refl _ s) _ (.of_beq (by decide +kernel))).changesOnly⟩,
    fun s fn b h hfn hvf => ?_⟩
  · have small : ring < 8 := by omega
    obtain ⟨hrings, hwork⟩ := ringStop_rings_work (s := s) set ring .SET_ERR_dma_err
    exact ⟨_, exec_ringDmaError hring hruns, ringStop_stopped set ring, ringStop_dmaErr set ring, ringStop_lastRing _ (by decide) small,
      ringStop_not_runs, hrings, hwork, ringStop_reports _⟩
  · have e : linkOf (hostFlush (busMasterSet s fn b)) = (tset false s.host.busMaster (fn, 0) b, true, false) := hostFlush_linkOf
    obtain ⟨hmaster, hlink⟩ := Prod.mk.inj e
    obtain ⟨hup, hcomp⟩ := Prod.mk.inj hlink
    refine ⟨_, exec_busMasterEnableChange h hfn hvf, ?_, hup, hcomp⟩
    rw [hmaster]
    exact tget_tset_same _ _ _ _

end

section
/-! SUPPORT. What the reset of a ring set leaves of that set and of every other, and the resets of functions and of the host interface
(R255, R271, R272, R321). -/

namespace Sys2Proof.Machine

-- A proof that evaluates in the kernel waits for every declaration before it, and holds a thread while it waits.
set_option Elab.async false

section
variable {s : State} {set n k : Nat}

/-! ### Registers of a ring set -/

/-- The reset of one register instance leaves a field of another instance. -/
theorem regReset_fget_other {r : Reg} {i : Nat} {f : Fld} {j : Nat} (h : ∀ p ∈ r.table, p.1 = f → ∀ c < p.2.reps, i * p.2.reps + c ≠ j) :
    (regReset s r i).fget f j = s.fget f j := by
  refine List.foldlRecOn r.table _ (motive := fun t : State => t.fget f j = s.fget f j) rfl fun t ht p hp => ?_
  refine List.foldlRecOn (List.range p.2.reps) _ (motive := fun t : State => t.fget f j = s.fget f j) ht fun u hu c hc => ?_
  rw [fget_fset_other, hu]
  intro e
  obtain ⟨ef, ej⟩ := Prod.mk.inj e
  exact h p hp ef.symm c (List.mem_range.1 hc) ej.symm

/-- A register that is not the one reset stands. -/
theorem regReset_fget_ne {r : Reg} {i : Nat} {f : Fld} (h : f.reg ≠ r) (j : Nat) : (regReset s r i).fget f j = s.fget f j :=
  regReset_fget_other fun p hp e => absurd (e ▸ table_reg r p hp) h

theorem regReset_host {r : Reg} {i : Nat} : (regReset s r i).host = s.host :=
  (regReset_keptAt (fr := maskBut [.host]) (.but (Nat.or_self _) (by simp)) (.refl _ s)).same_of_but (p := .host) (by decide)

theorem regReset_ringCtl_en (i : Nat) : (regReset s .RING_CTL i).fget .RING_CTL_en i = 0 := by
  have e : regReset s .RING_CTL i = List.foldl (fun t f => t.fset f (i * 1 + 0) (fldReset f (i * 1 + 0))) s
    [.RING_CTL_log2_size, .RING_CTL_en, .RING_CTL_vector, .RING_CTL_mod_count, .RING_CTL_mod_time_us, .RING_CTL_irq_en,
      .RING_CTL_stopped] := rfl
  rw [e, Nat.mul_one, Nat.add_zero]
  simp only [List.foldl_cons, List.foldl_nil]
  iterate 5 rw [fget_fset_ne (by decide)]
  exact fget_fset_same _ _ _ _

theorem regReset_setCtl_en (i : Nat) : (regReset s .SET_CTL i).fget .SET_CTL_set_en i = 0 := by
  have e : regReset s .SET_CTL i = s.fset .SET_CTL_set_en (i * 1 + 0) (fldReset .SET_CTL_set_en (i * 1 + 0)) := rfl
  rw [e, Nat.mul_one, Nat.add_zero]
  exact fget_fset_same _ _ _ _

/-! ### What is seen of a ring and its set -/

/-- A ring, its enable and its set's. -/
def ringView (s : State) (n k : Nat) : RingSt × Nat × Nat := (s.ring n k, s.fget .RING_CTL_en (n * 8 + k), s.fget .SET_CTL_set_en n)

/-- A ring that is in its reset state, as is the enable of its set. -/
def ringFresh (s : State) (n k : Nat) : Prop := ringView s n k = ({}, 0, 0)

theorem ringView_congr {t : State} (hr : t.host.rings = s.host.rings) (hk : Kept (maskBut [.reg .RING_CTL, .reg .SET_CTL]) s t) :
    ringView t n k = ringView s n k := by
  rw [ringView, State.ring, hr, hk.same_of_but (p := .reg .RING_CTL) (by decide) _ _ rfl,
    hk.same_of_but (p := .reg .SET_CTL) (by decide) _ _ rfl]
  rfl

theorem evtUpdate_rings : (evtUpdate s).host.rings = s.host.rings := by
  unfold evtUpdate
  dsimp only
  split
  · obtain ⟨q, d, p, e⟩ := setMessage_host (s.fset .EVT_CAUSE_cause 0 (evtCause s)) 0 31
    rw [e]
    rfl
  · rfl

theorem workReset_rings (lost : Nat) : (workReset s lost).host.rings = s.host.rings := by
  simp only [workReset, injRelabel, cmdRelabel, workRelabel, count_host]

/-- The rings of a set and their registers return to their reset values. -/
def ringsReset (s : State) (set : Nat) : State :=
  (List.range 8).foldl (fun s k => (regReset (regReset s .RING_BASE (set * 8 + k)) .RING_CTL (set * 8 + k)).setRing set k {}) s

/-- One ring and its registers return to their reset values. -/
def ringReset (s : State) (set k : Nat) : State :=
  (regReset (regReset s .RING_BASE (set * 8 + k)) .RING_CTL (set * 8 + k)).setRing set k {}

theorem ringReset_same : (ringReset s set k).ring set k = {} ∧ (ringReset s set k).fget .RING_CTL_en (set * 8 + k) = 0 :=
  ⟨setRing_same _ _ _ _, (fget_setRing _ _ _ _ _ _).trans (regReset_ringCtl_en _)⟩

theorem ringReset_other {j : Nat} (hk : k < 8) (hj : j < 8) (h : (n, k) ≠ (set, j)) :
    (ringReset s set j).ring n k = s.ring n k ∧ (ringReset s set j).fget .RING_CTL_en (n * 8 + k) = s.fget .RING_CTL_en (n * 8 + k) := by
  constructor
  · rw [ringReset, setRing_other _ _ _ _ _ _ h, State.ring, regReset_host, regReset_host, State.ring]
  · refine Eq.trans (regReset_fget_other fun p hp _ c hc e => ?_) (regReset_fget_ne (by decide) _)
    have one : p.2.reps = 1 := by
      have all : ∀ p ∈ Reg.RING_CTL.table, p.2.reps = 1 := by decide
      exact all p hp
    have hc0 : c = 0 := by omega
    rw [one, hc0] at e
    exact h (Prod.ext (by simp only; omega) (by simp only; omega))

theorem ringsReset_setEn : (ringsReset s set).fget .SET_CTL_set_en n = s.fget .SET_CTL_set_en n := by
  refine List.foldlRecOn (List.range 8) _ (motive := fun t : State => t.fget .SET_CTL_set_en n = s.fget .SET_CTL_set_en n) rfl
    fun t ht k _ => ?_
  rw [fget_setRing, regReset_fget_ne (by decide), regReset_fget_ne (by decide), ht]

theorem ringsReset_other (hn : n ≠ set) (hk : k < 8) : (ringsReset s set).ring n k = s.ring n k ∧
    (ringsReset s set).fget .RING_CTL_en (n * 8 + k) = s.fget .RING_CTL_en (n * 8 + k) := by
  refine List.foldlRecOn (List.range 8) _ (motive := fun t : State => t.ring n k = s.ring n k ∧
    t.fget .RING_CTL_en (n * 8 + k) = s.fget .RING_CTL_en (n * 8 + k)) ⟨rfl, rfl⟩ fun t ⟨hring, hen⟩ j hj => ?_
  obtain ⟨h1, h2⟩ := ringReset_other (s := t) (set := set) hk (List.mem_range.1 hj) fun e => hn (Prod.mk.inj e).1
  exact ⟨h1.trans hring, h2.trans hen⟩

theorem ringsReset_same (hk : k < 8) : (ringsReset s set).ring set k = {} ∧ (ringsReset s set).fget .RING_CTL_en (set * 8 + k) = 0 := by
  have upTo (m : Nat) (hm : m ≤ 8) (hkm : k < m) :
      ((List.range m).foldl (fun s k => ringReset s set k) s).ring set k = {} ∧
        ((List.range m).foldl (fun s k => ringReset s set k) s).fget .RING_CTL_en (set * 8 + k) = 0 := by
    induction m with
    | zero => omega
    | succ m ih =>
      rw [List.range_succ, List.foldl_append, List.foldl_cons, List.foldl_nil]
      by_cases e : k = m
      · rw [e]
        exact ringReset_same
      · obtain ⟨h1, h2⟩ := ringReset_other (s := (List.range m).foldl (fun s k => ringReset s set k) s) (n := set) (set := set) (j := m)
          hk (by omega) fun x => e (Prod.mk.inj x).2
        obtain ⟨i1, i2⟩ := ih (by omega) (by omega)
        exact ⟨h1.trans i1, h2.trans i2⟩
  exact upTo 8 (Nat.le_refl 8) hk

/-! ### The reset of a set (R255, R271) -/

/-- A set before its rings are reset: its work is gone, and no completion of it waits. -/
def setEmptied (s : State) (set : Nat) : State :=
  let t := (workReset s set).count .ringOffDrop set ((workReset s set).host.cpls.filter (fun c => c.set == set && c.entry.isSome)).length
  { t with host := { t.host with cpls := t.host.cpls.filter (fun c => c.set != set), pages := tset none t.host.pages (set, 0) none } }

theorem setEmptied_view : ringView (setEmptied s set) n k = ringView s n k := by
  refine ringView_congr ?_ (Kept.setHost (State.count_kept _ _ _ _ (.of_beq (by decide +kernel))
    (workReset_kept _ (.of_beq (by decide +kernel)) (.refl _ s)) (.of_beq (by decide +kernel))) _ (.of_beq (by decide +kernel)))
  show ((workReset s set).count _ _ _ _).host.rings = _
  rw [count_host, workReset_rings]

/-- The registers of a set's page return to their reset values, after its rings. -/
def pageReset (s : State) (set : Nat) : State := regReset (regReset (regReset (ringsReset s set) .SB_ADDR set) .SET_CTL set) .SET_ERR set

theorem pageReset_same (hk : k < 8) : ringFresh (pageReset s set) set k := by
  obtain ⟨hring, hen⟩ := ringsReset_same (s := s) (set := set) hk
  have h1 : (pageReset s set).ring set k = {} := by
    rw [State.ring, pageReset, regReset_host, regReset_host, regReset_host]
    exact hring
  have h2 : (pageReset s set).fget .RING_CTL_en (set * 8 + k) = 0 := by
    rw [pageReset, regReset_fget_ne (by decide), regReset_fget_ne (by decide), regReset_fget_ne (by decide), hen]
  have h3 : (pageReset s set).fget .SET_CTL_set_en set = 0 := by
    rw [pageReset, regReset_fget_ne (by decide), regReset_setCtl_en]
  rw [ringFresh, ringView, h1, h2, h3]

theorem pageReset_other (hn : n ≠ set) (hk : k < 8) : ringView (pageReset s set) n k = ringView s n k := by
  obtain ⟨hring, hen⟩ := ringsReset_other (s := s) hn hk
  have h1 : (pageReset s set).ring n k = s.ring n k := by
    rw [State.ring, pageReset, regReset_host, regReset_host, regReset_host]
    exact hring
  have h2 : (pageReset s set).fget .RING_CTL_en (n * 8 + k) = s.fget .RING_CTL_en (n * 8 + k) := by
    rw [pageReset, regReset_fget_ne (by decide), regReset_fget_ne (by decide), regReset_fget_ne (by decide), hen]
  have h3 : (pageReset s set).fget .SET_CTL_set_en n = s.fget .SET_CTL_set_en n := by
    rw [pageReset, regReset_fget_ne (by decide), regReset_fget_other, regReset_fget_ne (by decide), ringsReset_setEn]
    have one : ∀ p ∈ Reg.SET_CTL.table, p.2.reps = 1 := by decide
    intro p hp _ c hc
    rw [one p hp] at *
    omega
  rw [ringView, h1, h2, h3, ringView]

/-- After its page, the reset of a set ends what else the set has in the device. -/
def setEnded (s : State) (set : Nat) : State :=
  let s := { s with host := { s.host with sbDirty := tset false s.host.sbDirty (set, 0) false },
                    setup := { s.setup with halves := s.setup.halves.filter (fun e => !setHalf set e.1) } }
  let s := match s.rind.mbx with
    | some m => if set = 0 ∧ m.internal = false then { s with rind := { s.rind with mbx := some { m with lost := true } } } else s
    | none => s
  evtUpdate (if set = 0 then { s with host := { s.host with rsps := [] } }.count .ringOffDrop 0 s.host.rsps.length else s)

theorem setReset_eq : setReset s set = setEnded (pageReset (setEmptied s set) set) set := rfl

theorem setEnded_view : ringView (setEnded s set) n k = ringView s n k := by
  have within {m : Nat} (h : Nat.beq (Nat.lor m (maskBut [.reg .RING_CTL, .reg .SET_CTL])) (maskBut [.reg .RING_CTL, .reg .SET_CTL]) = true) :
    Within m (maskBut [.reg .RING_CTL, .reg .SET_CTL]) := .of_beq h
  unfold setEnded
  extract_lets v1 u1 s1 r1 s2 v2
  have h1 : Kept (maskBut [.reg .RING_CTL, .reg .SET_CTL]) s s1 :=
    Kept.setHostRindSetup (r := s.rind) (.refl _ s) (within (by decide +kernel)) (within (by decide +kernel)) (within (by decide +kernel)) rfl rfl
  have h2 : Kept (maskBut [.reg .RING_CTL, .reg .SET_CTL]) s s2 ∧ s2.host.rings = s.host.rings := by
    show Kept _ s (match s1.rind.mbx with | some m => _ | none => s1) ∧
      (match s1.rind.mbx with | some m => _ | none => s1 : State).host.rings = s.host.rings
    split
    · split
      · exact ⟨h1.setRind _ rfl rfl (within (by decide +kernel)), rfl⟩
      · exact ⟨h1, rfl⟩
    · exact ⟨h1, rfl⟩
  obtain ⟨kept, rings⟩ := h2
  refine ringView_congr ?_ (evtUpdate_kept (within (by decide +kernel)) (.ite (fun _ => ?_) fun _ => kept))
  · rw [evtUpdate_rings]
    split
    · rw [count_host]
      exact rings
    · exact rings
  · exact State.count_kept _ _ _ _ (within (by decide +kernel)) (kept.setHost _ (within (by decide +kernel))) (within (by decide +kernel))

/-- A set that is reset has its rings in their reset state. -/
theorem setReset_fresh (hk : k < 8) : ringFresh (setReset s set) set k := by
  rw [setReset_eq, ringFresh, setEnded_view]
  exact pageReset_same hk

/-- The reset of a set leaves the rings of every other. -/
theorem setReset_other (hn : n ≠ set) (hk : k < 8) : ringView (setReset s set) n k = ringView s n k := by
  rw [setReset_eq, setEnded_view, pageReset_other hn hk, setEmptied_view]

theorem setReset_keeps_fresh (hk : k < 8) (h : ringFresh s n k) : ringFresh (setReset s set) n k := by
  by_cases e : n = set
  · exact e ▸ setReset_fresh hk
  · rw [ringFresh, setReset_other e hk]
    exact h

/-! ### Several sets -/

theorem setResets_keep_fresh (hk : k < 8) (l : List Nat) (h : ringFresh s n k) : ringFresh (l.foldl setReset s) n k :=
  List.foldlRecOn l _ (motive := fun t : State => ringFresh t n k) h fun _ ht _ _ => setReset_keeps_fresh hk ht

theorem setResets_fresh (hk : k < 8) {l : List Nat} (hn : n ∈ l) : ringFresh (l.foldl setReset s) n k := by
  induction l generalizing s with
  | nil => cases hn
  | cons x l ih =>
    obtain rfl | hn := List.mem_cons.1 hn
    · exact setResets_keep_fresh hk l (setReset_fresh hk)
    · exact ih hn

theorem setResets_other (hk : k < 8) {l : List Nat} (hn : n ∉ l) : ringView (l.foldl setReset s) n k = ringView s n k :=
  List.foldlRecOn l _ (motive := fun t : State => ringView t n k = ringView s n k) rfl fun _ ht x hx =>
    (setReset_other (n := n) (set := x) (fun e => hn (by rw [e]; exact hx)) hk).trans ht

/-- The host's own registers, who owns which set among them, are no part of a set's page. -/
theorem setResets_kept (l : List Nat) : Kept (partsMask setResetParts) s (l.foldl setReset s) :=
  Kept.foldl (fun _ _ h => setReset_keptAt (.of_beq (by decide +kernel)) h) (.refl _ _)

theorem setOwner_of_kept {t : State} (h : Kept (partsMask setResetParts) s t) : setOwner t n = setOwner s n := by
  rw [setOwner, setOwner, h.changesOnly (.reg .RSET_OWNER) (by decide) _ _ rfl]

theorem mem_fnSets {fn : Nat} : n ∈ fnSets s fn ↔ n < 64 ∧ setOwner s n = fn := by
  rw [fnSets, List.mem_filter, List.mem_range, beq_iff_eq]

/-! ### A function's reset (R255, R271) -/

theorem vfReset_view {fn : Nat} : ringView (vfReset s fn) n k = ringView ((fnSets s fn).foldl setReset s) n k := rfl

theorem vfReset_keeps_fresh {fn : Nat} (hk : k < 8) (h : ringFresh s n k) : ringFresh (vfReset s fn) n k :=
  setResets_keep_fresh hk _ h

theorem vfReset_fresh {fn : Nat} (hk : k < 8) (hn : n < 64) (ho : setOwner s n = fn) : ringFresh (vfReset s fn) n k :=
  setResets_fresh hk (mem_fnSets.2 ⟨hn, ho⟩)

theorem vfReset_other {fn : Nat} (hk : k < 8) (ho : setOwner s n ≠ fn) : ringView (vfReset s fn) n k = ringView s n k :=
  setResets_other hk fun h => ho (mem_fnSets.1 h).2

theorem vfResets_fresh {l : List Nat} (hk : k < 8) (hn : n < 64) (ho : setOwner s n ∈ l) : ringFresh (l.foldl vfReset s) n k := by
  induction l generalizing s with
  | nil => cases ho
  | cons x l ih =>
    obtain e | ho := List.mem_cons.1 ho
    · exact List.foldlRecOn l _ (motive := fun t : State => ringFresh t n k) (vfReset_fresh hk hn e) fun _ ht _ _ =>
        vfReset_keeps_fresh hk ht
    · refine ih ?_
      rw [setOwner_of_kept (vfReset_keptAt (.of_beq (by decide +kernel)) (.refl _ s))]
      exact ho

/-! ### Level C (R271, R272) -/

/-- The function table of the host interface: Bus Master Enable and VF Enable. -/
def functionsOf (s : State) : Tab Bool × Bool := (s.host.busMaster, s.host.vfEnable)

theorem event_functionsOf (f : Fld) (i : Nat) : functionsOf (s.event f i) = functionsOf s := by
  obtain ⟨q, d, p, e⟩ := event_host s f i
  rw [functionsOf, e, functionsOf]

theorem evtUpdate_vfEnable : (evtUpdate s).host.vfEnable = s.host.vfEnable := by
  unfold evtUpdate
  dsimp only
  split
  · obtain ⟨q, d, p, e⟩ := setMessage_host (s.fset .EVT_CAUSE_cause 0 (evtCause s)) 0 31
    rw [e]
    rfl
  · rfl

theorem ringReset_vfEnable : (ringReset s set k).host.vfEnable = s.host.vfEnable := by
  have h : (regReset (regReset s .RING_BASE (set * 8 + k)) .RING_CTL (set * 8 + k)).host = s.host := regReset_host.trans regReset_host
  rw [← h]
  rfl

theorem pageReset_vfEnable : (pageReset s set).host.vfEnable = s.host.vfEnable := by
  rw [pageReset, regReset_host, regReset_host, regReset_host]
  exact List.foldlRecOn (List.range 8) (fun t k => ringReset t set k) (motive := fun t : State => t.host.vfEnable = s.host.vfEnable) rfl
    fun _ ht _ _ => ringReset_vfEnable.trans ht

theorem setEnded_vfEnable : (setEnded s set).host.vfEnable = s.host.vfEnable := by
  unfold setEnded
  extract_lets v1 u1 s1 r1 s2 v2
  have h2 : s2.host.vfEnable = s.host.vfEnable := by
    show (match s1.rind.mbx with | some m => _ | none => s1 : State).host.vfEnable = _
    split
    · split <;> rfl
    · rfl
  rw [evtUpdate_vfEnable]
  split
  · rw [count_host]
    exact h2
  · exact h2

theorem setEmptied_vfEnable : (setEmptied s set).host.vfEnable = s.host.vfEnable := by
  unfold setEmptied
  simp only [count_host, workReset, injRelabel, cmdRelabel, workRelabel]

/-- No reset of a set touches VF Enable. -/
theorem setReset_vfEnable : (setReset s set).host.vfEnable = s.host.vfEnable := by
  rw [setReset_eq, setEnded_vfEnable, pageReset_vfEnable, setEmptied_vfEnable]

theorem vfReset_vfEnable {fn : Nat} : (vfReset s fn).host.vfEnable = s.host.vfEnable :=
  List.foldlRecOn (fnSets s fn) _ (motive := fun t : State => t.host.vfEnable = s.host.vfEnable) rfl fun _ ht _ _ =>
    setReset_vfEnable.trans ht

/-- The state of a level C reset before its event: sets, config space and the log. -/
def levelCBefore (s : State) : State :=
  let s := (List.range 64).foldl setReset s
  let mine : Key × Option Nat → Bool := fun e => e.1.1 % 2 == 1
  let s := { s with host := { s.host with busMaster := [], vfEnable := false, compliance := false, msixMask := [], msixPend := [] },
                    rind := { s.rind with spdmWait := [], spdmP384 := false },
                    setup := { s.setup with halves := s.setup.halves.filter mine, words := s.setup.words.filter mine } }
  (s.fset .HIF_RESET_LOG_stamp 0 s.stamp32).fset .HIF_RESET_LOG_epoch 0 s.time.epoch

theorem levelC_eq : levelC s = (levelCBefore s).event .HIF_STATUS_host_reset 0 := rfl

theorem levelC_functions : functionsOf (levelC s) = ([], false) := event_functionsOf (s := levelCBefore s) _ _

theorem levelC_fresh (hn : n < 64) (hk : k < 8) : ringFresh (levelC s) n k := by
  obtain ⟨q, d, p, e⟩ := event_host (levelCBefore s) .HIF_STATUS_host_reset 0
  have view : ringView (levelC s) n k = ringView ((List.range 64).foldl setReset s) n k := by
    have before (f : Fld) (hf : f.reg ≠ .HIF_RESET_LOG) (i : Nat) :
        (levelCBefore s).fget f i = ((List.range 64).foldl setReset s).fget f i :=
      (fget_fset_ne (by rintro rfl; exact hf rfl) _ _ _).trans (fget_fset_ne (by rintro rfl; exact hf rfl) _ _ _)
    rw [levelC_eq, ringView, State.ring, e, event_fget_ne (by decide) (by decide), event_fget_ne (by decide) (by decide),
      before _ (by decide), before _ (by decide)]
    rfl
  rw [ringFresh, view]
  exact setResets_fresh hk (List.mem_range.2 hn)

theorem levelC_hostReset : (levelC s).fget .HIF_STATUS_host_reset 0 = 1 := event_fget_same (by decide) rfl 0

theorem levelC_perst : (levelC s).fget .RESET_CAUSE_perst 0 = s.fget .RESET_CAUSE_perst 0 :=
  (levelC_keptAt (.of_beq (by decide +kernel)) (.refl (partsMask levelCParts) s)).changesOnly (.reg .RESET_CAUSE) (by decide) _ _ rfl

/-! ### The rows -/

/-- A host reset before its cause acts on the link. -/
def hostResetBefore (s : State) : State := (if s.rind.sources.isEmpty then levelC s else s).fset .RESET_CAUSE_perst 0 1

/-- What a host reset leaves of registers, rings and functions, whatever its cause. -/
theorem execHostReset_eq (cause : HostResetCause) : ∃ t, execHostReset cause s = .next t ∧ t.reg = (hostResetBefore s).reg ∧
    t.host.rings = (hostResetBefore s).host.rings ∧ functionsOf t = functionsOf (hostResetBefore s) ∧
    (cause = .perst → t.host.perst = true) ∧ (cause ≠ .hotReset → t.host.linkUp = false) := by
  cases cause
  · exact ⟨_, rfl, rfl, rfl, rfl, fun _ => rfl, fun _ => rfl⟩
  · exact ⟨_, rfl, rfl, rfl, rfl, nofun, fun _ => rfl⟩
  · exact ⟨_, rfl, rfl, rfl, rfl, nofun, fun h => absurd rfl h⟩

/-- Every function but PF0 is reset. -/
def vfsReset (s : State) : State := ((List.range 64).filter (fun f => f != 0)).foldl vfReset s

/-- VF Enable is cleared. -/
def vfsCleared (s : State) : State := { vfsReset s with host := { (vfsReset s).host with vfEnable := false } }

theorem ringView_vfEnable (b : Bool) : ringView { s with host := { s.host with vfEnable := b } } n k = ringView s n k := rfl

theorem exec_vfEnableClear (h : s.host.vfEnable = true) : exec .vfEnableClear s = .next (vfsCleared s) := by
  show execVfEnableClear s = _
  unfold execVfEnableClear
  rw [if_pos h]
  rfl

theorem vfsCleared_fresh (hk : k < 8) (hn : n < 64) (hpos : 0 < setOwner s n) (hlt : setOwner s n < 64) :
    ringFresh (vfsCleared s) n k := by
  have mem : setOwner s n ∈ (List.range 64).filter (fun f => f != 0) :=
    List.mem_filter.2 ⟨List.mem_range.2 hlt, bne_iff_ne.2 (Nat.ne_of_gt hpos)⟩
  rw [ringFresh, vfsCleared, ringView_vfEnable]
  exact vfResets_fresh hk hn mem

theorem ringFresh_iff : ringFresh s n k ↔ s.ring n k = {} ∧ s.fget .RING_CTL_en (n * 8 + k) = 0 ∧ s.fget .SET_CTL_set_en n = 0 := by
  rw [ringFresh, ringView, Prod.mk.injEq, Prod.mk.injEq]

end

end Sys2Proof.Machine

open Sys2Proof Sys2Proof.Machine

/-- Settles O38: a reset reaches the rings of its sets and leaves those of every other set. -/
theorem hostResetsReachTheirSets : Obligations.HostResetsReachTheirSets := by
  refine ⟨fun s cause => ?_, fun s => ?_, fun s fn hpos hfn hvf => ?_, fun s hvf => ?_, fun s h => ?_⟩
  · obtain ⟨t, ht, hreg, hrings, hfunctions, hperst, hlink⟩ := execHostReset_eq (s := s) cause
    have fget (f : Fld) (i : Nat) : t.fget f i = (hostResetBefore s).fget f i := by rw [State.fget, hreg, State.fget]
    refine ⟨t, ht, (fget _ _).trans (fget_fset_same _ _ _ _), hperst, hlink, fun hsources => ?_⟩
    have level : hostResetBefore s = (levelC s).fset .RESET_CAUSE_perst 0 1 := by rw [hostResetBefore, hsources]; rfl
    have functions : functionsOf t = ([], false) := by
      rw [hfunctions, level]
      exact levelC_functions
    obtain ⟨hmaster, henable⟩ := Prod.mk.inj functions
    refine ⟨?_, hmaster, henable, fun n k hn hk => ?_⟩
    · rw [fget, level, fget_fset_ne (by decide)]
      exact levelC_hostReset
    · obtain ⟨hring, hen, hset⟩ := ringFresh_iff.1 (levelC_fresh (s := s) hn hk)
      rw [State.ring, hrings, fget, fget, level, fget_fset_ne (by decide), fget_fset_ne (by decide)]
      exact ⟨hring, hen, hset⟩
  · obtain ⟨hmaster, henable⟩ := Prod.mk.inj (levelC_functions (s := s))
    refine ⟨levelC s, rfl, levelC_hostReset, hmaster, henable, levelC_perst, fun n k hn hk => ?_⟩
    obtain ⟨hring, hen, -⟩ := ringFresh_iff.1 (levelC_fresh (s := s) hn hk)
    exact ⟨hring, hen⟩
  · have e : exec (.functionLevelReset fn) s = .next (vfReset s fn) := by
      show Host.Outcome.next _ = _
      rw [if_neg (Nat.ne_of_gt hpos), if_pos ⟨hfn, hvf⟩]
    refine ⟨_, e, tget_tset_same false _ _ false, vfReset_vfEnable.trans hvf, fun n k hn hk => ⟨fun ho => ?_, fun ho => ?_⟩⟩
    · obtain ⟨hring, hen, -⟩ := ringFresh_iff.1 (vfReset_fresh hk hn ho)
      exact ⟨hring, hen⟩
    · obtain ⟨hring, hrest⟩ := Prod.mk.inj (vfReset_other (s := s) hk ho)
      exact ⟨hring, (Prod.mk.inj hrest).1⟩
  · refine ⟨_, exec_vfEnableClear hvf, rfl, fun n k hn hk hpos hlt => ?_⟩
    obtain ⟨hring, hen, -⟩ := ringFresh_iff.1 (vfsCleared_fresh hk hn hpos hlt)
    exact ⟨hring, hen⟩
  · refine ⟨_, congrArg Host.Outcome.next (if_neg (by rw [h]; exact Bool.false_ne_true)), rfl, ?_⟩
    exact (Kept.setHost (.refl _ s) _ (.of_beq (by decide +kernel))).changesOnly

end

section
/-! SUPPORT. Whey delivery, and the messages of an exporter (R268, R300, R301, R303). -/

namespace Sys2Proof.Machine

-- A proof that evaluates in the kernel waits for every declaration before it, and holds a thread while it waits.
set_option Elab.async false

section
variable {s : State} {set k v x : Nat} {c : Ctr} {tn : Option Nat}

/-! ### An entry for a ring (R268, R300) -/

theorem ringDead_of_runs (h : ringRuns s set k = true) : ringDead s set k = false := by
  simp only [ringRuns, Bool.and_eq_true, Bool.not_eq_true'] at h
  obtain ⟨⟨hon, hgoes⟩, -⟩ := h
  rw [ringDead, hon, hgoes]
  rfl

theorem ringPut_full (hruns : ringRuns s set k = true) (hfull : ringFull s set k = true) :
    ringPut s set k v c tn = s.count .ringFullDrop set 1 tn := by
  rw [ringPut, ringDead_of_runs hruns, hfull]
  rfl

theorem ringPut_written (hruns : ringRuns s set k = true) (hfull : ringFull s set k = false) :
    ringPut s set k v c tn = (ringWrite s set k v).count c set 1 tn := by
  rw [ringPut, ringDead_of_runs hruns, hfull]
  rfl

theorem ringWrite_cget (d : Ctr) (i : Nat) : (ringWrite s set k v).cget d i = s.cget d i :=
  (ringWrite_kept (fr := partsMask [.out, .host]) _ _ _ (.of_beq (by decide +kernel)) (.refl _ _)).changesOnly (.ctr d) (by simp) i

/-- An entry for a ring with room is written and counted. -/
theorem ringPut_emits (hruns : ringRuns s set k = true) (hfull : ringFull s set k = false) :
    (ringPut s set k v c tn).cget c set = (s.cget c set + 1) % 2 ^ 48 ∧
      ringEntry s set k v ∈ (ringPut s set k v c tn).out.drop s.out.length := by
  rw [ringPut_written hruns hfull, count_out, count_cget_same, ringWrite_cget]
  exact ⟨rfl, mem_drop_length_of_append (ringWrite_emits set k v)⟩

/-- One for a full ring is counted, and nothing leaves. -/
theorem ringPut_dropped (hruns : ringRuns s set k = true) (hfull : ringFull s set k = true) :
    (ringPut s set k v c tn).cget .ringFullDrop set = (s.cget .ringFullDrop set + 1) % 2 ^ 48 ∧ (ringPut s set k v c tn).out = s.out := by
  rw [ringPut_full hruns hfull, count_cget_same, count_out]
  exact ⟨rfl, rfl⟩

theorem ringPut_whey : (ringPut s set k v .wheyWritten tn).whey = s.whey :=
  (ringPut_kept (fr := maskBut [.whey]) _ _ _ _ _ (.of_beq (by decide +kernel)) (.refl _ _) (.of_beq (by decide +kernel))).same_of_but
    (p := .whey) (by decide)

/-! ### An exporter's messages (R303) -/

theorem count_telem (n i : Nat) : (s.count c i n tn).telem = s.telem := count_proj s c i n tn State.telem fun _ _ => rfl

theorem count_exporter (n i : Nat) : (s.count c i n tn).exporter x = s.exporter x := by
  rw [State.exporter, count_telem, State.exporter]

/-- What a message that is sent leaves of its exporter. -/
theorem sendMessage_exporter (seq : Nat) (sets : List Byte) :
    (sendMessage s x seq sets).exporter x = { s.exporter x with ident := ((s.exporter x).ident + 1) % 65536 } := by
  unfold sendMessage
  extract_lets e id b s1 s2
  have h1 : s1.exporter x = { s.exporter x with ident := ((s.exporter x).ident + 1) % 65536 } := setExporter_same _ _ _
  have h2 : s2.telem = s1.telem :=
    (enqueueBuilt_kept (fr := maskBut [.telem]) _ _ _ (.of_beq (by decide +kernel)) (.refl _ _)).same_of_but (p := .telem) (by decide)
  have h : s2.exporter x = { s.exporter x with ident := ((s.exporter x).ident + 1) % 65536 } := by
    rw [← h1, State.exporter, h2, State.exporter]
  split
  · rw [count_exporter, h]
  · exact h

/-- The counters of messages and templates count what is sent, not what becomes of it. -/
theorem sendMessage_cget {d : Ctr} (hd : d = .ipfixMsgs ∨ d = .ipfixTemplates) (seq : Nat) (sets : List Byte) (i : Nat) :
    (sendMessage s x seq sets).cget d i = s.cget d i := by
  obtain rfl | rfl := hd
  · exact (sendMessage_kept (fr := maskBut [.ctr .ipfixMsgs]) _ _ _ (.of_beq (by decide +kernel)) (.refl _ _)).same_of_but
      (p := .ctr .ipfixMsgs) (by decide) i
  · exact (sendMessage_kept (fr := maskBut [.ctr .ipfixTemplates]) _ _ _ (.of_beq (by decide +kernel)) (.refl _ _)).same_of_but
      (p := .ctr .ipfixTemplates) (by decide) i

theorem flushExporter_of_recs (h : (s.exporter x).recs ≠ []) : flushExporter s x =
    sendMessage ((s.setExporter x { s.exporter x with recs := [] }).count .ipfixMsgs x) x ((s.exporter x).built - (s.exporter x).recs.length)
      (setsOf (s.exporter x).recs) := if_neg (by simpa using h)

/-- An exporter whose open message holds records sends it, and begins a new one. -/
theorem flushExporter_sent (h : (s.exporter x).recs ≠ []) :
    ((flushExporter s x).exporter x).recs = [] ∧ ((flushExporter s x).exporter x).built = (s.exporter x).built ∧
      (flushExporter s x).cget .ipfixMsgs x = (s.cget .ipfixMsgs x + 1) % 2 ^ 48 := by
  rw [flushExporter_of_recs h, sendMessage_exporter, sendMessage_cget (.inl rfl), count_exporter, count_cget_same, setExporter_same]
  exact ⟨rfl, rfl, rfl⟩

/-- The template set of an exporter is sent now. -/
theorem sendTemplates_sent :
    ((sendTemplates s x).exporter x).tmplAt = s.now ∧ ((sendTemplates s x).exporter x).recs = (s.exporter x).recs ∧
      (sendTemplates s x).cget .ipfixTemplates x = (s.cget .ipfixTemplates x + 1) % 2 ^ 48 := by
  unfold sendTemplates
  extract_lets e s1
  have h1 : s1.exporter x = { e with tmplAt := s.now } := setExporter_same _ _ _
  rw [sendMessage_exporter, sendMessage_cget (.inr rfl), count_exporter, count_cget_same, h1]
  exact ⟨rfl, rfl, rfl⟩

/-- A record that fits joins the open message. -/
theorem exportRecord_joins {w : Nat} (h : packetLen (setsOf ((s.exporter x).recs ++ [dataRecord w v])).length ≤ s.fget .IPFIX_CFG_mtu x) :
    ((exportRecord s x w v tn).exporter x).recs = (s.exporter x).recs ++ [dataRecord w v] ∧
      ((exportRecord s x w v tn).exporter x).built = (s.exporter x).built + 1 ∧
      (exportRecord s x w v tn).cget .ipfixRecords x = (s.cget .ipfixRecords x + 1) % 2 ^ 48 := by
  have fits : decide (s.fget .IPFIX_CFG_mtu x < packetLen (setsOf ((s.exporter x).recs ++ [dataRecord w v])).length) = false :=
    decide_eq_false (Nat.not_lt.2 h)
  unfold exportRecord
  dsimp only
  rw [fits, if_neg Bool.false_ne_true, count_exporter, count_cget_same, setExporter_same]
  exact ⟨rfl, rfl, rfl⟩

theorem exportRecord_joins_whey {w : Nat}
    (h : packetLen (setsOf ((s.exporter x).recs ++ [dataRecord w v])).length ≤ s.fget .IPFIX_CFG_mtu x) :
    (exportRecord s x w v tn).whey = s.whey := by
  have fits : decide (s.fget .IPFIX_CFG_mtu x < packetLen (setsOf ((s.exporter x).recs ++ [dataRecord w v])).length) = false :=
    decide_eq_false (Nat.not_lt.2 h)
  unfold exportRecord
  dsimp only
  rw [fits, if_neg Bool.false_ne_true]
  exact count_proj _ _ _ _ _ State.whey fun _ _ => rfl

/-! ### Delivery (R300, R301) -/

/-- The set whose ring a record is routed to. -/
def wheySet (s : State) (r : WheyRec) : Nat :=
  routeSet s (fldIn r.route .WHEY_ROUTE_set) (fldIn r.route .WHEY_ROUTE_tenant_route == 1 && wheyTenanted r.typ) r.tenant

/-- A record was routed to a ring, to an exporter, when it was produced. -/
def wheyToRing (r : WheyRec) : Bool := fldIn r.route .WHEY_ROUTE_ring_en == 1
def wheyToExporter (r : WheyRec) : Bool := fldIn r.route .WHEY_ROUTE_ipfix_en == 1 && r.exports

/-- The queue without its oldest record. -/
def wheyTaken (s : State) (l : List WheyRec) : State := { s with whey := l }.fset .WHEY_STATUS_queue_fill 0 l.length

theorem wheyTaken_ringRuns (l : List WheyRec) : ringRuns (wheyTaken s l) set k = ringRuns s set k := by
  simp only [ringRuns, ringOn, setOwner, State.fbit, wheyTaken]
  iterate 4 rw [fget_fset_ne (by decide)]
  rfl

theorem wheyTaken_ring (l : List WheyRec) : (wheyTaken s l).ring set k = s.ring set k := rfl

theorem wheyTaken_ringSize (l : List WheyRec) : ringSize (wheyTaken s l) set k = ringSize s set k :=
  congrArg (2 ^ ·) (fget_fset_ne (by decide) _ _ _)

theorem wheyTaken_ringFull (l : List WheyRec) : ringFull (wheyTaken s l) set k = ringFull s set k := by
  simp only [ringFull, wheyTaken_ringSize, wheyTaken_ring]

theorem wheyTaken_ringEntry (l : List WheyRec) : ringEntry (wheyTaken s l) set k v = ringEntry s set k v := by
  have base (i : Nat) : (wheyTaken s l).fget .RING_BASE_addr i = s.fget .RING_BASE_addr i := fget_fset_ne (by decide) _ _ _
  simp only [ringEntry, wheyTaken_ringSize, wheyTaken_ring, base]

variable {r : WheyRec} {l : List WheyRec}

theorem exec_wheyDeliver_ring (hq : s.whey = r :: l) (ht : s.runs pdTelem = true) (hring : wheyToRing r = true)
    (hexp : wheyToExporter r = false) (hruns : ringRuns s (wheySet s r) 4 = true) :
    exec .wheyDeliver s = .next (ringPut (wheyTaken s l) (wheySet s r) 4 r.val .wheyWritten (wheyTen r.typ r.tenant)) := by
  have waits : ringWaits s (wheySet s r) 4 = false := by rw [ringWaits, hruns, Bool.not_true, Bool.and_false]
  simp only [wheyToRing, wheyToExporter, wheySet] at hring hexp waits
  simp only [exec, execWheyDeliver, hq, ht, hring, hexp, waits]
  rfl

theorem exec_wheyDeliver_exporter (hq : s.whey = r :: l) (ht : s.runs pdTelem = true) (hring : wheyToRing r = false)
    (hexp : wheyToExporter r = true) : exec .wheyDeliver s =
      .next (exportRecord (wheyTaken s l) (fldIn r.route .WHEY_ROUTE_exporter) r.view r.val (wheyTen r.typ r.tenant)) := by
  simp only [wheyToRing, wheyToExporter] at hring hexp
  simp only [exec, execWheyDeliver, hq, ht, hring, hexp]
  rfl

theorem exec_wheyDeliver_nowhere (hq : s.whey = r :: l) (ht : s.runs pdTelem = true) (hring : wheyToRing r = false)
    (hexp : wheyToExporter r = false) :
    exec .wheyDeliver s = .next ((wheyTaken s l).count .wheyDrop (r.typ - 1) 1 (wheyTen r.typ r.tenant)) := by
  simp only [wheyToRing, wheyToExporter] at hring hexp
  simp only [exec, execWheyDeliver, hq, ht, hring, hexp]
  rfl

end

end Sys2Proof.Machine

open Sys2Proof Sys2Proof.Machine

/-- Settles O25: the oldest record goes to its ring, its exporter, or nowhere; messages and templates go at their times. -/
theorem wheyRecordsAreDelivered : Obligations.WheyRecordsAreDelivered := by
  refine ⟨fun s r l hq ht => ⟨fun hring hexp hruns => ?_, fun hring hexp hfits => ?_, fun hring hexp => ?_⟩, fun s x hrecs hdue => ?_,
    fun s x hx hen hdue => ?_⟩
  · refine ⟨_, exec_wheyDeliver_ring hq ht hring hexp hruns, ringPut_whey, fun hroom => ?_, fun hfull => ?_⟩
    · have written := ringPut_emits (v := r.val) (c := .wheyWritten) (tn := wheyTen r.typ r.tenant)
        ((wheyTaken_ringRuns l).trans hruns) ((wheyTaken_ringFull l).trans hroom)
      rw [wheyTaken_ringEntry] at written
      exact written
    · exact ringPut_dropped ((wheyTaken_ringRuns l).trans hruns) ((wheyTaken_ringFull l).trans hfull)
  · have fits : packetLen (setsOf (((wheyTaken s l).exporter (fldIn r.route .WHEY_ROUTE_exporter)).recs ++
        [dataRecord r.view r.val])).length ≤ (wheyTaken s l).fget .IPFIX_CFG_mtu (fldIn r.route .WHEY_ROUTE_exporter) := by
      rw [wheyTaken, fget_fset_ne (by decide)]
      exact hfits
    exact ⟨_, exec_wheyDeliver_exporter hq ht hring hexp, exportRecord_joins_whey fits, exportRecord_joins fits⟩
  · refine ⟨_, exec_wheyDeliver_nowhere hq ht hring hexp, count_proj _ _ _ _ _ State.whey fun _ _ => rfl, count_cget_same _ _ _ _ _⟩
  · exact ⟨_, congrArg Host.Outcome.next (if_pos ⟨hrecs, hdue⟩), flushExporter_sent hrecs⟩
  · exact ⟨_, congrArg Host.Outcome.next (if_pos ⟨hx, hen, hdue⟩), sendTemplates_sent⟩

end

section
/-! SUPPORT. Snapshots: the latch, what it leaves alone, and the end of a writeout (R305 to R311). -/

namespace Sys2Proof.Machine

-- A proof that evaluates in the kernel waits for every declaration before it, and holds a thread while it waits.
set_option Elab.async false

section
variable {fr : Nat} {z0 s : State} {cause : Nat} {v : Snap}

/-! ### The latch (R307 to R309) -/

/-- The counters of some kinds restart, and no other. -/
theorem ctrsClear_keptAt {cs : List Ctr} (hm : ∀ c ∈ cs, Within (Part.bit (.ctr c)) fr) (h : Kept fr z0 s) :
    Kept fr z0 (ctrsClear s (cs.map Ctr.ctorIdx)) := by
  refine Kept.bankStep h id (ctrOk_filter _) id (fun _ _ _ => rfl) (fun c i e => tget_filter_other _ _ _ fun v => ?_) (.inl rfl)
  have out : c.ctorIdx ∉ cs.map Ctr.ctorIdx := by
    intro k
    obtain ⟨d, hd, hc⟩ := List.mem_map.1 k
    rw [Ctr.eq_of_ctorIdx hc] at hd
    rw [(hm c hd).testBit (Part.bit_testBit _)] at e
    cases e
  simp [out]

/-- The gauges that a snapshot sets. -/
def snapGauges : List Ctr := [.gWaysValid, .gMissEntriesPeak, .gWbQueuePeak, .gIngCellsPeak, .gOnDiePeak, .gVatPeak]

theorem gaugeWays_keptAt (hm : Within (Part.bit (.ctr .gWaysValid)) fr) (h : Kept fr z0 s) : Kept fr z0 (gaugeWays s) :=
  Kept.foldl (fun _ _ h => Kept.counter _ _ _ h hm) h

theorem restartPeaks_keptAt (hm : ∀ c ∈ snapGauges, Within (Part.bit (.ctr c)) fr) (hp : Within (Part.bit (.reg .POOL_STATUS)) fr)
    (hv : Within (Part.bit (.reg .VAT_STATUS)) fr) (h : Kept fr z0 s) : Kept fr z0 (restartPeaks s) := by
  unfold restartPeaks
  extract_lets s1 s2 s3 s4 s5
  have g {t : State} {c : Ctr} (i n : Nat) (hc : c ∈ snapGauges) (ht : Kept fr z0 t) : Kept fr z0 (t.gset c i n) :=
    Kept.counter _ _ _ ht (hm c hc)
  have h1 : Kept fr z0 s1 := ctrsClear_keptAt (cs := [.gMissEntriesPeak, .gWbQueuePeak, .gIngCellsPeak, .gOnDiePeak, .gVatPeak])
    (fun c hc => hm c (List.mem_cons_of_mem _ hc)) h
  have h2 : Kept fr z0 s2 := Kept.foldl (fun _ _ ht => g _ _ (by decide) (g _ _ (by decide) ht)) h1
  have h3 : Kept fr z0 s3 := Kept.foldl (fun _ _ ht => g _ _ (by decide) ht) h2
  have h4 : Kept fr z0 s4 := Kept.foldl (fun _ _ ht => g _ _ (by decide) (g _ _ (by decide) ht)) h3
  have h5 : Kept fr z0 s5 := Kept.foldl (fun _ _ ht => Kept.field _ _ _ ht hp) h4
  exact Kept.field _ _ _ h5 hv

/-- A snapshot's latch is shown and counted. -/
def snapShown (s : State) : State :=
  let s := gaugeWays (s.count .snapCount 0)
  let q := (s.fget .TALLY_CTL_snap_seq 0 + 1) % 65536
  ((s.fset .TALLY_CTL_snap_seq 0 q).fset .TALLY_CTL_snap_busy 0 1).fset .TALLY_CTL_snap_now 0 0

/-- The snapshot that is latched. -/
def snapOf (s : State) (cause : Nat) : Snap :=
  let q := ((gaugeWays (s.count .snapCount 0)).fget .TALLY_CTL_snap_seq 0 + 1) % 65536
  ⟨(snapShown s).ctr, (snapShown s).prog, q, (snapShown s).time.epoch, (snapShown s).devNs, cause⟩

/-- The state in which every group is latched, before staged settings apply and peaks restart. -/
def snapLatched (s : State) (cause : Nat) : State :=
  { snapShown s with telem := { (snapShown s).telem with
      snap := some (snapOf s cause)
      page := { (snapShown s).telem.page with pageSeq := ((snapShown s).telem.page.pageSeq + 1) % 2 ^ 32 }
      staged := [] } }

theorem snapShown_kept : Kept (partsMask [.prog, .reg .TALLY_CTL, .ctr .snapCount, .ctr .gWaysValid]) s (snapShown s) := by
  have h1 : Kept (partsMask [.prog, .reg .TALLY_CTL, .ctr .snapCount, .ctr .gWaysValid]) s (gaugeWays (s.count .snapCount 0)) :=
    gaugeWays_keptAt (.of_beq (by decide +kernel))
      (State.count_kept _ _ _ _ (.of_beq (by decide +kernel)) (.refl _ _) (.of_beq (by decide +kernel)))
  have hr : Within (Part.bit (.reg .TALLY_CTL)) (partsMask [.prog, .reg .TALLY_CTL, .ctr .snapCount, .ctr .gWaysValid]) :=
    .of_beq (by decide +kernel)
  exact Kept.field _ _ _ (Kept.field _ _ _ (Kept.field _ _ _ h1 hr) hr) hr

/-- Parts that nothing after the latch changes. -/
def latchedParts : List Part := [.reg .TALLY_CTL, .ctr .snapCount]

/-- What follows the latch, staged settings and peaks, leaves TALLY_CTL and the count of snapshots. -/
theorem snapPulse_after : Kept (maskBut latchedParts) (snapLatched s cause) (snapPulse s cause) := by
  have gauges : ∀ c ∈ snapGauges, Within (Part.bit (.ctr c)) (maskBut latchedParts) := fun c h =>
    .but (Nat.or_self _) ((by decide : ∀ c ∈ snapGauges, Part.ctr c ∉ latchedParts) c h)
  refine restartPeaks_keptAt gauges (.but (Nat.or_self _) (by decide)) (.but (Nat.or_self _) (by decide)) (.foldl (fun t e ht => ?_) (.refl _ _))
  split
  · exact progApply_kept _ _ (.of_beq (by decide +kernel)) ht
  · exact ht

theorem snapPulse_tallyCtl {f : Fld} (hf : f.reg = .TALLY_CTL) (i : Nat) : (snapPulse s cause).fget f i = (snapShown s).fget f i :=
  snapPulse_after.same_of_but (p := .reg .TALLY_CTL) (by decide) f i hf

theorem snapShown_seq : (snapOf s cause).seq = (s.fget .TALLY_CTL_snap_seq 0 + 1) % 65536 := by
  have h : Kept (maskBut [.reg .TALLY_CTL]) s (gaugeWays (s.count .snapCount 0)) :=
    gaugeWays_keptAt (.of_beq (by decide +kernel))
      (State.count_kept _ _ _ _ (.of_beq (by decide +kernel)) (.refl _ _) (.of_beq (by decide +kernel)))
  exact congrArg (fun n => (n + 1) % 65536) (h.same_of_but (p := .reg .TALLY_CTL) (by decide) _ _ rfl)

/-- A snapshot that is latched is shown busy, under the next number. -/
theorem snapPulse_shows : (snapPulse s cause).fget .TALLY_CTL_snap_busy 0 = 1 ∧
    (snapPulse s cause).fget .TALLY_CTL_snap_seq 0 = (s.fget .TALLY_CTL_snap_seq 0 + 1) % 65536 := by
  rw [snapPulse_tallyCtl rfl, snapPulse_tallyCtl rfl, snapShown]
  refine ⟨(fget_fset_ne (by decide) _ _ _).trans (fget_fset_same _ _ _ _), ?_⟩
  rw [fget_fset_ne (by decide), fget_fset_ne (by decide), fget_fset_same]
  exact (Nat.mod_mod _ _).trans (snapShown_seq (cause := cause))

/-- A held request stands as it is while a snapshot is latched. -/
theorem snapPulse_pending : (snapPulse s cause).fget .TALLY_CTL_snap_pending 0 = s.fget .TALLY_CTL_snap_pending 0 := by
  have h : Kept (maskBut [.reg .TALLY_CTL]) s (gaugeWays (s.count .snapCount 0)) :=
    gaugeWays_keptAt (.of_beq (by decide +kernel))
      (State.count_kept _ _ _ _ (.of_beq (by decide +kernel)) (.refl _ _) (.of_beq (by decide +kernel)))
  rw [snapPulse_tallyCtl rfl, snapShown, fget_fset_ne (by decide), fget_fset_ne (by decide), fget_fset_ne (by decide)]
  exact h.same_of_but (p := .reg .TALLY_CTL) (by decide) _ _ rfl

theorem snapPulse_snapCount : (snapPulse s cause).cget .snapCount 0 = (s.cget .snapCount 0 + 1) % 2 ^ 48 := by
  have shown : Kept (maskBut [.ctr .snapCount]) (s.count .snapCount 0) (gaugeWays (s.count .snapCount 0)) :=
    gaugeWays_keptAt (.of_beq (by decide +kernel)) (.refl _ _)
  have latched : (snapLatched s cause).ctr = (gaugeWays (s.count .snapCount 0)).ctr := rfl
  have after : (snapPulse s cause).cget .snapCount 0 = (snapLatched s cause).cget .snapCount 0 :=
    snapPulse_after.same_of_but (p := .ctr .snapCount) (by decide) 0
  have gauged : (gaugeWays (s.count .snapCount 0)).cget .snapCount 0 = (s.count .snapCount 0).cget .snapCount 0 :=
    shown.same_of_but (p := .ctr .snapCount) (by decide) 0
  rw [after, State.cget, latched]
  exact gauged.trans (count_cget_same s .snapCount 0 1 none)

/-! ### The end of a writeout (R309 to R311) -/

/-- The records of a snapshot have left for the rings of the sets, and are counted. -/
def snapSent (s : State) (v : Snap) : State :=
  let t := (tallySets s).foldl (fun s x => snapToSet s v x) s
  t.count .tallyRecords 0 (snapRecords t v false).length

/-- The unit is idle. -/
def snapIdle (s : State) : State := { s with telem := { s.telem with snap := none } }.fset .TALLY_CTL_snap_busy 0 0

theorem snapIdle_fget {f : Fld} (h : f ≠ .TALLY_CTL_snap_busy) (i : Nat) : (snapIdle s).fget f i = s.fget f i := fget_fset_ne h _ _ _

/-- The user page shows the snapshot, and the unit is idle. -/
def snapDone (s : State) (v : Snap) : State := snapIdle (snapToPage (snapSent s v) v)

theorem exec_tallyWriteoutComplete (h : s.telem.snap = some v) (ht : s.runs pdTelem = true)
    (hw : (tallySets s).any (fun x => ringWaits s x 5) = false) : exec .tallyWriteoutComplete s = .next
      (if (snapDone s v).fbit .TALLY_CTL_snap_pending 0 then
        snapPulse ((snapDone s v).fset .TALLY_CTL_snap_pending 0 0) (snapDone s v).telem.heldCause else snapDone s v) := by
  simp only [exec, execTallyWriteoutComplete, h, ht, hw, Bool.true_eq_false, Bool.false_eq_true, or_self, if_false]
  rfl

theorem snapToSets_kept (l : List Nat) : Kept (partsMask [.prog, .out, .host, .ctr .ringFullDrop, .ctr .ringOffDrop, .ctr .tallyWritten]) s
    (l.foldl (fun s x => snapToSet s v x) s) :=
  Kept.foldl (fun _ _ h => Kept.foldl (fun _ _ h => ringPut_kept _ _ _ _ _ (.of_beq (by decide +kernel)) h (.of_beq (by decide +kernel))) h)
    (.refl _ _)

theorem snapSent_kept : Kept (maskBut [.telem, .time, .reg .TALLY_CTL, .reg .TALLY_GROUP, .ctr .snapCount]) s (snapSent s v) :=
  State.count_kept _ _ _ _ (.of_beq (by decide +kernel)) ((snapToSets_kept (tallySets s)).mono (.of_beq (by decide +kernel)))
    (.of_beq (by decide +kernel))

/-- Every group has records whoever receives them. -/
theorem snapRecords_all (t : State) : snapRecords t v false = snapRecords s v false := by
  simp only [snapRecords, Bool.false_and]

theorem snapSent_tallyRecords :
    (snapSent s v).cget .tallyRecords 0 = (s.cget .tallyRecords 0 + (snapRecords s v false).length) % 2 ^ 48 := by
  rw [snapSent, count_cget_same, snapRecords_all (s := s),
    (snapToSets_kept (v := v) (tallySets s)).changesOnly (.ctr .tallyRecords) (by decide) 0]

theorem pageRecords_congr {t : State} (h : ∀ i, t.fget .TALLY_GROUP_user_read i = s.fget .TALLY_GROUP_user_read i) :
    pageRecords t v = pageRecords s v := by
  simp only [pageRecords, State.fbit, h]

theorem snapToPage_telem : ∃ cut, (snapToPage s v).telem =
    { s.telem with page := ⟨(s.telem.page.pageSeq + 1) % 2 ^ 32, v.seq, v.epoch, v.ns, pageRecords s v, cut⟩ } := by
  refine ⟨decide ((pageRecords s v).length < (snapRecords s v true).length), ?_⟩
  unfold snapToPage
  dsimp only
  split
  · exact count_telem _ _
  · rfl

/-- Showing a snapshot on the page changes no register and counts nothing but a page that is cut. -/
theorem snapToPage_same : Kept (maskBut [.reg .TALLY_CTL, .ctr .snapCount, .ctr .tallyRecords]) s (snapToPage s v) :=
  snapToPage_kept _ (.of_beq (by decide +kernel)) (.refl _ _)

/-- The end of a writeout changes no field of TALLY_CTL but the one that shows it busy. -/
theorem snapDone_tallyCtl {f : Fld} (hf : f.reg = .TALLY_CTL) (hne : f ≠ .TALLY_CTL_snap_busy) (i : Nat) :
    (snapDone s v).fget f i = s.fget f i := by
  have page : (snapToPage (snapSent s v) v).fget f i = (snapSent s v).fget f i :=
    snapToPage_same.same_of_but (p := .reg .TALLY_CTL) (by decide) f i hf
  have sent : (snapSent s v).fget f i = s.fget f i := snapSent_kept.same_of_but (p := .reg .TALLY_CTL) (by decide) f i hf
  have idle : (snapDone s v).fget f i = (snapToPage (snapSent s v) v).fget f i := snapIdle_fget hne i
  rw [idle, page, sent]

theorem snapDone_ctr : (snapDone s v).ctr = (snapToPage (snapSent s v) v).ctr := rfl

theorem snapDone_snapCount : (snapDone s v).cget .snapCount 0 = s.cget .snapCount 0 := by
  have page : (snapToPage (snapSent s v) v).cget .snapCount 0 = (snapSent s v).cget .snapCount 0 :=
    snapToPage_same.same_of_but (p := .ctr .snapCount) (by decide) 0
  have sent : (snapSent s v).cget .snapCount 0 = s.cget .snapCount 0 := snapSent_kept.same_of_but (p := .ctr .snapCount) (by decide) 0
  rw [State.cget, snapDone_ctr]
  exact page.trans sent

theorem snapDone_tallyRecords :
    (snapDone s v).cget .tallyRecords 0 = (s.cget .tallyRecords 0 + (snapRecords s v false).length) % 2 ^ 48 := by
  have page : (snapToPage (snapSent s v) v).cget .tallyRecords 0 = (snapSent s v).cget .tallyRecords 0 :=
    snapToPage_same.same_of_but (p := .ctr .tallyRecords) (by decide) 0
  rw [State.cget, snapDone_ctr]
  exact page.trans snapSent_tallyRecords

theorem snapDone_telem : ∃ cut, (snapDone s v).telem =
    { s.telem with page := ⟨(s.telem.page.pageSeq + 1) % 2 ^ 32, v.seq, v.epoch, v.ns, pageRecords s v, cut⟩, snap := none } := by
  have telem : (snapSent s v).telem = s.telem := snapSent_kept.same_of_but (p := .telem) (by decide)
  obtain ⟨cut, h⟩ := snapToPage_telem (s := snapSent s v) (v := v)
  have recs : pageRecords (snapSent s v) v = pageRecords s v :=
    pageRecords_congr fun i => snapSent_kept.same_of_but (p := .reg .TALLY_GROUP) (by decide) _ _ rfl
  rw [telem, recs] at h
  refine ⟨cut, ?_⟩
  show { (snapToPage (snapSent s v) v).telem with snap := none } = _
  rw [h]

end

end Sys2Proof.Machine

open Sys2Proof Sys2Proof.Machine

/-- Settles O26: a writeout ends on the user page and, where a request is held, in the next latch; a setting is staged or refused. -/
theorem snapshotsAreWrittenOut : Obligations.SnapshotsAreWrittenOut := by
  refine ⟨fun s v h ht hw => ⟨_, exec_tallyWriteoutComplete h ht hw, fun hp => ?_, fun hp => ?_⟩, fun s req g n v => ⟨fun hok => ?_, fun hbad => ?_⟩⟩
  · have idle : (snapDone s v).fbit .TALLY_CTL_snap_pending 0 = false := by
      rw [State.fbit, snapDone_tallyCtl rfl (by decide)]
      exact hp
    obtain ⟨cut, telem⟩ := snapDone_telem (s := s) (v := v)
    rw [idle, if_neg Bool.false_ne_true, telem]
    exact ⟨rfl, fget_fset_same _ _ _ _, rfl, rfl, rfl, rfl, rfl, snapDone_tallyRecords⟩
  · have held : (snapDone s v).fbit .TALLY_CTL_snap_pending 0 = true := by
      rw [State.fbit, snapDone_tallyCtl rfl (by decide)]
      exact hp
    let u := (snapDone s v).fset .TALLY_CTL_snap_pending 0 0
    have seq : u.fget .TALLY_CTL_snap_seq 0 = s.fget .TALLY_CTL_snap_seq 0 :=
      (fget_fset_ne (by decide) _ _ _).trans (snapDone_tallyCtl rfl (by decide) 0)
    have count : u.cget .snapCount 0 = s.cget .snapCount 0 := (cget_fset _ _ _ _ _ _).trans snapDone_snapCount
    have none_held : u.fget .TALLY_CTL_snap_pending 0 = 0 := fget_fset_same _ _ _ _
    obtain ⟨busy, next⟩ := snapPulse_shows (s := u) (cause := (snapDone s v).telem.heldCause)
    rw [if_pos held]
    exact ⟨busy, snapPulse_pending.trans none_held, by rw [← seq]; exact next, by rw [← count]; exact snapPulse_snapCount⟩
  · exact ⟨_, congrArg Host.Outcome.next (if_pos hok), tget_tset_same none s.telem.staged (g, n) (some v.toNat), rfl, rfl⟩
  · exact ⟨_, congrArg Host.Outcome.next (if_neg (by rw [hbad]; exact Bool.false_ne_true)), event_fget_same (by decide) rfl 0,
      event_same (p := .telem) (by decide) _ _⟩

end

section
/-! SUPPORT. A state in which a re-epoch does not open its window. -/

namespace Sys2Proof.Machine

-- A proof that evaluates in the kernel waits for every declaration before it, and holds a thread while it waits.
set_option Elab.async false

/-- The reset state, but with 2 in the one-bit field TIME_CTL.step_at_pps: REEPOCH writes the field as it stands, shifted to bit 1, so
that the sum 4 + 2 * 2 has bit 2 clear. No command leaves such a value; the statement speaks of every state. -/
def wideStepAtPps : State :=
  { State.reset with reg := tset 0 State.reset.reg (Fld.TIME_CTL_step_at_pps.ctorIdx, 0) 2 }

theorem wideStepAtPps_not_stalled : stalled wideStepAtPps = false := by decide +kernel

/-- REEPOCH completes there with no window open. -/
theorem reepoch_wideStepAtPps :
    (match exec (.reepoch .host) wideStepAtPps with
      | .next t => t.time.reepochEnd.isNone
      | _ => false) = true := by decide +kernel

end Sys2Proof.Machine

open Sys2Proof Sys2Proof.Machine

/-- Refutes O33, in its re-epoch clause: of a state that holds 2 in the one-bit field TIME_CTL.step_at_pps, REEPOCH writes the word 8,
whose reepoch bit is 0, and no window opens. -/
theorem not_timeRequestsAct : ¬ Obligations.TimeRequestsAct := by
  intro h
  obtain ⟨_, _, reepoch, _⟩ := h
  obtain ⟨t, ht, htime, _⟩ := (reepoch wideStepAtPps .host).1 wideStepAtPps_not_stalled
  have shut := reepoch_wideStepAtPps
  rw [ht] at shut
  change t.time.reepochEnd.isNone = true at shut
  rw [htime] at shut
  cases shut

end

section
/-! SUPPORT. Trigger units that fire at their instants (R284 to R287). -/

namespace Sys2Proof.Machine

-- A proof that evaluates in the kernel waits for every declaration before it, and holds a thread while it waits.
set_option Elab.async false

section
variable {s : State} {u v t : Nat}

/-! ### What a trigger unit shows -/

/-- What a unit shows: its counts of fires, whether it is armed, its next instant and its period. -/
structure UnitView where
  fired : Nat
  count : Nat
  arm : Nat
  next : Option Nat
  period : Nat

/-- What a unit shows in a state. -/
def unitView (s : State) (u : Nat) : UnitView :=
  ⟨s.fget .TRIG_CTL_fired u, s.cget .trigFired u, s.fget .TRIG_CTL_arm u, trigNext s u, trigPeriod s u⟩

/-- A unit has fired at its instant: a one-shot is disarmed, and a periodic one goes to its next instant (R284). -/
def UnitView.afterFire (v : UnitView) : UnitView :=
  { v with
    fired := (v.fired + 1) % 2 ^ Fld.TRIG_CTL_fired.info.width
    count := (v.count + 1) % 2 ^ 48
    arm := if v.period = 0 then 0 else v.arm
    next := if v.period = 0 then none else some (v.next.getD 0 + v.period) }

/-- The parts in which a unit's view lies. -/
def unitParts : List Part := [.time, .reg .TRIG_CTL, .reg .TRIG_PERIOD, .ctr .trigFired]

theorem unitView_of_kept {z : State} (h : Kept (maskBut unitParts) s z) : unitView z u = unitView s u := by
  have ctl (f : Fld) (hf : f.reg = .TRIG_CTL) : z.fget f u = s.fget f u := h.same_of_but (p := .reg .TRIG_CTL) (by decide) f u hf
  have period : trigPeriod z u = trigPeriod s u := h.same_of_but (p := .reg .TRIG_PERIOD) (by decide) .TRIG_PERIOD_period_ns u rfl
  have count : z.cget .trigFired u = s.cget .trigFired u := h.same_of_but (p := .ctr .trigFired) (by decide) u
  have time : z.time = s.time := h.same_of_but (p := .time) (by decide)
  rw [unitView, ctl _ rfl, ctl _ rfl, count, period, trigNext, time]
  rfl

/-! ### One unit fires -/

/-- The unit's fire is counted, its pins pulse and the gate cycles that follow it start. -/
def fireShown (s : State) (u : Nat) : State :=
  let t := (trigNext s u).getD 0
  trigGates (trigPulse ((s.fset .TRIG_CTL_fired u (s.fget .TRIG_CTL_fired u + 1)).count .trigFired u) u t) u t

/-- A pulse leaves the units' instants. -/
theorem trigPulse_trigNext (s : State) (u t v : Nat) : trigNext (trigPulse s u t) v = trigNext s v := by
  have pins (l : List Nat) (s : State) : trigNext (l.foldl (fun s p =>
      if bits (s.fget .TRIG_CTL_out_mask u) p 1 = 1 then
        let e := max (tget 0 s.time.outEnd (p, 0)) (t + s.fget .TRIG_CTL_pulse_ns u)
        { s with time := { s.time with outEnd := tset 0 s.time.outEnd (p, 0) e } }
      else s) s) v = trigNext s v := by
    induction l generalizing s with
    | nil => rfl
    | cons p l ih =>
      rw [List.foldl_cons, ih]
      split <;> rfl
  unfold trigPulse
  split
  · exact pins _ _
  · rfl

/-- A count leaves the other instances of its counter. -/
theorem count_cget_elsewhere {c : Ctr} {k : Nat} {tenant : Option Nat} (h : v ≠ u) : (s.count c u k tenant).cget c v = s.cget c v := by
  obtain ⟨p, e⟩ := count_shape s c u k tenant
  rw [e]
  exact tget_tset_other _ _ _ _ _ _ fun x => h (congrArg Prod.snd x)

theorem fireShown_kept : Kept (maskBut [.reg .TRIG_CTL, .reg .TRIG_PERIOD, .ctr .trigFired])
    ((s.fset .TRIG_CTL_fired u (s.fget .TRIG_CTL_fired u + 1)).count .trigFired u) (fireShown s u) :=
  trigGates_kept _ _ (.of_beq (by decide +kernel)) (trigPulse_kept _ _ (.of_beq (by decide +kernel)) (.refl _ _))

theorem fireShown_fget {f : Fld} (hf : f.reg = .TRIG_CTL ∨ f.reg = .TRIG_PERIOD) :
    (fireShown s u).fget f v = (s.fset .TRIG_CTL_fired u (s.fget .TRIG_CTL_fired u + 1)).fget f v := by
  have counted := fget_of_reg (count_reg (s.fset .TRIG_CTL_fired u (s.fget .TRIG_CTL_fired u + 1)) .trigFired u 1 none) f v
  rcases hf with hf | hf
  · exact (fireShown_kept.same_of_but (p := .reg .TRIG_CTL) (by decide) f v hf).trans counted
  · exact (fireShown_kept.same_of_but (p := .reg .TRIG_PERIOD) (by decide) f v hf).trans counted

theorem fireShown_cget : (fireShown s u).cget .trigFired v =
    ((s.fset .TRIG_CTL_fired u (s.fget .TRIG_CTL_fired u + 1)).count .trigFired u).cget .trigFired v :=
  fireShown_kept.same_of_but (p := .ctr .trigFired) (by decide) v

theorem fireShown_trigNext : trigNext (fireShown s u) v = trigNext s v := by
  have gates (z : State) (t : Nat) : (trigGates z u t).time = z.time :=
    (trigGates_kept (fr := maskBut [.time]) _ _ (.of_beq (by decide +kernel)) (.refl _ _)).same_of_but (p := .time) (by decide)
  rw [fireShown, trigNext, gates]
  refine (trigPulse_trigNext _ _ _ _).trans ?_
  rw [trigNext, count_time]
  rfl

theorem fireShown_period : trigPeriod (fireShown s u) u = trigPeriod s u :=
  (fireShown_fget (.inr rfl)).trans (fget_fset_ne (by decide) _ _ _)

/-- A unit that fires on time is shown, and goes on from its instant. -/
theorem fireUnit_eq : fireUnit s false u =
    if trigPeriod s u = 0 then setTrigNext ((fireShown s u).fset .TRIG_CTL_arm u 0) u none
    else setTrigNext (fireShown s u) u (some ((trigNext s u).getD 0 + trigPeriod s u)) := by
  rw [← fireShown_period (s := s) (u := u)]
  rfl

theorem unitView_setTrigNext (z : State) (o : Option Nat) : unitView (setTrigNext z u o) u = { unitView z u with next := o } := by
  have next : trigNext (setTrigNext z u o) u = o := tget_tset_same none z.time.trigNext (u, 0) o
  rw [unitView, next]
  rfl

theorem unitView_setTrigNext_other (z : State) (o : Option Nat) (h : v ≠ u) : unitView (setTrigNext z u o) v = unitView z v := by
  have next : trigNext (setTrigNext z u o) v = trigNext z v :=
    tget_tset_other none none z.time.trigNext (u, 0) (v, 0) o (by simpa using h)
  rw [unitView, next]
  rfl

theorem unitView_disarm (z : State) : unitView (z.fset .TRIG_CTL_arm u 0) u = { unitView z u with arm := 0 } := by
  rw [unitView, fget_fset_ne (by decide), fget_fset_same, trigPeriod, fget_fset_ne (by decide)]
  rfl

theorem unitView_disarm_other (z : State) (h : v ≠ u) : unitView (z.fset .TRIG_CTL_arm u 0) v = unitView z v := by
  have field (f : Fld) : (z.fset .TRIG_CTL_arm u 0).fget f v = z.fget f v := fget_fset_other _ _ _ _ _ _ fun e => h (congrArg Prod.snd e)
  rw [unitView, field, field, trigPeriod, field]
  rfl

theorem unitView_fireShown : unitView (fireShown s u) u = { unitView s u with
    fired := (s.fget .TRIG_CTL_fired u + 1) % 2 ^ Fld.TRIG_CTL_fired.info.width
    count := (s.cget .trigFired u + 1) % 2 ^ 48 } := by
  have fired : (fireShown s u).fget .TRIG_CTL_fired u = (s.fget .TRIG_CTL_fired u + 1) % 2 ^ Fld.TRIG_CTL_fired.info.width :=
    (fireShown_fget (.inl rfl)).trans (fget_fset_same _ _ _ _)
  have arm : (fireShown s u).fget .TRIG_CTL_arm u = s.fget .TRIG_CTL_arm u :=
    (fireShown_fget (.inl rfl)).trans (fget_fset_ne (by decide) _ _ _)
  have count : (fireShown s u).cget .trigFired u = (s.cget .trigFired u + 1) % 2 ^ 48 :=
    fireShown_cget.trans (count_cget_same (s.fset .TRIG_CTL_fired u (s.fget .TRIG_CTL_fired u + 1)) .trigFired u 1 none)
  rw [unitView, fired, arm, count, fireShown_trigNext, fireShown_period]
  rfl

theorem unitView_fireShown_other (h : v ≠ u) : unitView (fireShown s u) v = unitView s v := by
  have field (f : Fld) (hf : f.reg = .TRIG_CTL ∨ f.reg = .TRIG_PERIOD) : (fireShown s u).fget f v = s.fget f v :=
    (fireShown_fget hf).trans (fget_fset_other _ _ _ _ _ _ fun e => h (congrArg Prod.snd e))
  have count : (fireShown s u).cget .trigFired v = s.cget .trigFired v := fireShown_cget.trans (count_cget_elsewhere h)
  rw [unitView, field _ (.inl rfl), field _ (.inl rfl), count, fireShown_trigNext, trigPeriod, field _ (.inr rfl)]
  rfl

theorem fireUnit_same : unitView (fireUnit s false u) u = (unitView s u).afterFire := by
  have period : (unitView s u).period = trigPeriod s u := rfl
  rw [fireUnit_eq, UnitView.afterFire]
  by_cases hp : trigPeriod s u = 0
  · rw [if_pos hp, if_pos (period.trans hp), if_pos (period.trans hp), unitView_setTrigNext, unitView_disarm, unitView_fireShown]
    rfl
  · rw [if_neg hp, if_neg (period ▸ hp), if_neg (period ▸ hp), unitView_setTrigNext, unitView_fireShown]
    rfl

theorem fireUnit_other (h : v ≠ u) : unitView (fireUnit s false u) v = unitView s v := by
  rw [fireUnit_eq]
  split
  · rw [unitView_setTrigNext_other _ _ h, unitView_disarm_other _ h, unitView_fireShown_other h]
  · rw [unitView_setTrigNext_other _ _ h, unitView_fireShown_other h]

/-- Units that fire one after another each fire once. -/
theorem fireAll_view {l : List Nat} (hl : l.Nodup) :
    unitView (l.foldl (fun s u => fireUnit s false u) s) u = if u ∈ l then (unitView s u).afterFire else unitView s u := by
  induction l generalizing s with
  | nil => rfl
  | cons x l ih =>
    obtain ⟨hx, hl⟩ := List.nodup_cons.1 hl
    rw [List.foldl_cons, ih hl]
    by_cases e : u = x
    · subst e
      rw [if_neg hx, if_pos List.mem_cons_self, fireUnit_same]
    · rw [fireUnit_other e]
      simp only [List.mem_cons, e, false_or]

/-! ### The targets that the units name -/

theorem snapPulse_unit {cause : Nat} : Kept (maskBut unitParts) s (snapPulse s cause) := by
  have gauges : ∀ c ∈ snapGauges, Within (Part.bit (.ctr c)) (maskBut unitParts) := fun c h =>
    .but (Nat.or_self _) ((by decide : ∀ c ∈ snapGauges, Part.ctr c ∉ unitParts) c h)
  have latched : Kept (maskBut unitParts) s (snapLatched s cause) :=
    Kept.setWheyTelem (snapShown_kept.mono (.of_beq (by decide +kernel))) (.of_beq (by decide +kernel)) (.of_beq (by decide +kernel))
  refine restartPeaks_keptAt gauges (.of_beq (by decide +kernel)) (.of_beq (by decide +kernel)) (.foldl (fun t e ht => ?_) latched)
  split
  · exact progApply_kept _ _ (.of_beq (by decide +kernel)) ht
  · exact ht

theorem snapRequest_unit {cause : Nat} : Kept (maskBut unitParts) s (snapRequest s cause) := by
  have telem (x : Telemetry) : Kept (maskBut unitParts) s { s with telem := x } :=
    Kept.setWheyTelem (.refl _ _) (.of_beq (by decide +kernel)) (.of_beq (by decide +kernel))
  have ctl : Within (Part.bit (.reg .TALLY_CTL)) (maskBut unitParts) := .of_beq (by decide +kernel)
  unfold snapRequest
  refine .ite (fun _ => .ite (fun _ => telem _) fun _ => Kept.field _ _ _ (telem _) ctl) fun _ => .ite (fun _ => ?_) fun _ =>
    .ite (fun _ => Kept.field _ _ _ (telem _) ctl) fun _ => ?_
  · exact (telem _).trans snapPulse_unit
  · exact State.event_kept _ _ (.of_beq (by decide +kernel))
      (State.count_kept _ _ _ _ (.of_beq (by decide +kernel)) (telem _) (.of_beq (by decide +kernel))) ctl

/-- The targets that some of the units name act, each once (R285). -/
def targetsAct (s0 : State) (us : List Nat) (s : State) : State :=
  let s := if us.any (fun u => trigBit s0 u 0) then snapRequest s 0 else s
  let s := if us.any (fun u => trigBit s0 u 1) then sweepStart s true else s
  let s := if us.any (fun u => trigBit s0 u 2) then wheyClose s else s
  if us.any (fun u => trigBit s0 u 3) then publishTrigger s else s

theorem fireUnits_eq {us : List Nat} (h : ticketFires s us = false) :
    fireUnits s us false = targetsAct s us (us.foldl (fun s u => fireUnit s false u) s) := by
  simp only [fireUnits, h, Bool.false_and, Bool.false_eq_true, if_false]
  rfl

theorem targetsAct_view {s0 : State} {us : List Nat} : unitView (targetsAct s0 us s) u = unitView s u := by
  refine unitView_of_kept ?_
  have snap : Kept (maskBut unitParts) s (if us.any (fun u => trigBit s0 u 0) then snapRequest s 0 else s) :=
    .ite (fun _ => snapRequest_unit) fun _ => .refl _ _
  have sweep := Kept.ite (c := us.any (fun u => trigBit s0 u 1) = true) (fun _ => sweepStart_kept true (.of_beq (by decide +kernel)) snap)
    fun _ => snap
  have whey := Kept.ite (c := us.any (fun u => trigBit s0 u 2) = true) (fun _ => wheyClose_kept (.of_beq (by decide +kernel)) sweep)
    fun _ => sweep
  exact .ite (fun _ => publishTrigger_kept (.of_beq (by decide +kernel)) whey) fun _ => whey

/-- The pin of a pulse that has ended is low. -/
theorem exec_trigOutFall {pin : Nat} (h : tget 0 s.time.outEnd (pin, 0) ≤ s.devNs) : exec (.trigOutFall pin) s = .next
    (if tget 0 s.time.outEnd (pin, 0) = 0 then s
      else { s with time := { s.time with outEnd := tset 0 s.time.outEnd (pin, 0) 0 } }) := by
  by_cases e : tget 0 s.time.outEnd (pin, 0) = 0
  · rw [if_pos e]
    exact congrArg Host.Outcome.next (if_neg fun k => k.1 e)
  · rw [if_neg e]
    exact congrArg Host.Outcome.next (if_pos ⟨e, h⟩)

theorem exec_triggerFire {units us : List Nat} (hus : us = (List.range 8).filter (fun u => units.contains u && s.fbit .TRIG_CTL_arm u &&
      (match trigNext s u with | some t => decide (t ≤ s.devNs) | none => false)))
    (hne : us ≠ []) (hr : s.runs pdTime = true) : exec (.triggerFire units) s = .next (fireUnits s us false) := by
  subst hus
  exact congrArg Host.Outcome.next (if_pos ⟨hr, hne⟩)

end

end Sys2Proof.Machine

open Sys2Proof Sys2Proof.Machine

/-- Settles O27: each due unit fires once, and what its targets do leaves the units alone; a pulse's end takes its pin low. -/
theorem triggersFireAtTheirInstants : Obligations.TriggersFireAtTheirInstants := by
  refine ⟨fun s units us hus hne hr ht => ⟨_, exec_triggerFire hus hne hr, fun u n hu hn => ?_⟩, fun s pin hp => ⟨_, exec_trigOutFall hp, ?_⟩⟩
  · have nodup : us.Nodup := by
      rw [hus]
      exact List.nodup_range.filter _
    have armed : s.fget .TRIG_CTL_arm u = 1 := by
      rw [hus, List.mem_filter, Bool.and_eq_true, Bool.and_eq_true] at hu
      obtain ⟨_, ⟨_, arm⟩, _⟩ := hu
      exact eq_of_beq arm
    have view : unitView (fireUnits s us false) u = (unitView s u).afterFire := by
      rw [fireUnits_eq ht, targetsAct_view, fireAll_view nodup, if_pos hu]
    obtain ⟨fired, count, arm, next, _⟩ := UnitView.mk.inj view
    have hn : (unitView s u).next = some n := hn
    have armed : (unitView s u).arm = 1 := armed
    refine ⟨fired, count, fun hp => ?_, fun hp => ?_⟩
    · have hp : (unitView s u).period = 0 := hp
      rw [if_pos hp] at arm next
      exact ⟨arm, next⟩
    · have hp : (unitView s u).period ≠ 0 := hp
      rw [if_neg hp] at arm next
      rw [hn] at next
      exact ⟨arm.trans armed, next⟩
  · split
    · next e => exact ⟨e, fun _ _ => rfl⟩
    · exact ⟨tget_tset_same 0 s.time.outEnd (pin, 0) 0, fun q hq => tget_tset_other 0 0 s.time.outEnd (pin, 0) (q, 0) 0 (by simpa using hq)⟩

end

section
/-! SUPPORT. Time events: the end of an epoch, the slew, the reference, the PPS input and the latch of a read (R275 to R282). -/

namespace Sys2Proof.Machine

-- A proof that evaluates in the kernel waits for every declaration before it, and holds a thread while it waits.
set_option Elab.async false

section
variable {s z : State} {u : Nat}

/-! ### The end of an epoch (R280) -/

theorem Kept.setChurn {fr : Nat} {z0 t : State} (h : Kept fr z0 t) (v : Churn) (hm : Within (2 ^ 14) fr) : Kept fr z0 { t with churn := v } :=
  h.build rfl rfl .same .same .same .same .same .same .same .same .same .same .same .same .same .same (.hit hm) .same .same .same .same
    .same .same .same .same

/-- Ending a ticket leaves what the disarming of its unit has done to the unit and to time. -/
theorem ticketDrop_after {tk : Ticket} (event : Nat) (h : s.images.ticket = some tk) :
    Kept (maskBut [.time, .reg .TRIG_CTL]) (trigOff s tk.unit) (ticketDrop s event) := by
  have upd : Within (Part.bit (.reg .UPD_STATUS)) (maskBut [.time, .reg .TRIG_CTL]) := .of_beq (by decide +kernel)
  have pub : Within (Part.bit (.reg .PUBLISH_STATUS)) (maskBut [.time, .reg .TRIG_CTL]) := .of_beq (by decide +kernel)
  have gone : Kept (maskBut [.time, .reg .TRIG_CTL]) (trigOff s tk.unit)
      { trigOff s tk.unit with images := { (trigOff s tk.unit).images with ticket := none } } :=
    Kept.setImages (.refl _ _) _ (.of_beq (by decide +kernel))
  have shown := Kept.field .UPD_STATUS_ticket_scope 0 0 (Kept.field .UPD_STATUS_ticket_pending 0 0 gone upd) upd
  have event := Kept.ite (c := event = 0) (fun _ => shown) fun _ => Kept.field .UPD_STATUS_last_event 0 event shown upd
  have tables := Kept.ite (c := tk.tables = true) (fun _ => tablesUndo_kept (.of_beq (by decide +kernel)) event) fun _ => event
  rw [ticketDrop, h]
  exact .ite (fun _ => Kept.field _ _ _ (Kept.field _ _ _ (Kept.setChurn tables _ (.of_beq (by decide +kernel))) pub) pub) fun _ =>
    .ite (fun _ => Kept.field _ _ _ tables pub) fun _ => tables

theorem trigDisarm_cases (s : State) (u : Nat) : trigDisarm s u = s ∨ trigDisarm s u = (trigOff s u).event .TRIG_CTL_disarm_event u ∨
    ∃ tk, s.images.ticket = some tk ∧ trigDisarm s u = (ticketDrop s 5).event .TRIG_CTL_disarm_event u := by
  rw [trigDisarm]
  by_cases ha : s.fbit .TRIG_CTL_arm u = true
  · rw [if_pos ha]
    cases hk : s.images.ticket with
    | none => exact .inr (.inl rfl)
    | some tk =>
      dsimp only
      split
      · exact .inr (.inr ⟨tk, rfl, rfl⟩)
      · exact .inr (.inl rfl)
  · exact .inl (if_neg ha)

/-- Disarming a unit moves only its next instant in the time unit. -/
theorem trigDisarm_time : ∃ x, (trigDisarm s u).time = { s.time with trigNext := x } := by
  have off (v : Nat) : ∃ x, (trigOff s v).time = { s.time with trigNext := x } := by
    unfold trigOff
    split <;> exact ⟨_, rfl⟩
  have shown (z : State) : (z.event .TRIG_CTL_disarm_event u).time = z.time := event_same (p := .time) (by decide) _ _
  obtain h | h | ⟨tk, hk, h⟩ := trigDisarm_cases s u
  · exact ⟨s.time.trigNext, by rw [h]⟩
  · rw [h, shown]
    exact off u
  · have dropped : (ticketDrop s 5).time = (trigOff s tk.unit).time := (ticketDrop_after 5 hk).same_of_but (p := .time) (by decide)
    rw [h, shown, dropped]
    exact off tk.unit

theorem disarmAll_time (l : List Nat) : ∃ x, (l.foldl trigDisarm s).time = { s.time with trigNext := x } := by
  induction l generalizing s with
  | nil => exact ⟨s.time.trigNext, rfl⟩
  | cons v l ih =>
    obtain ⟨x, hx⟩ := trigDisarm_time (s := s) (u := v)
    obtain ⟨y, hy⟩ := ih (s := trigDisarm s v)
    exact ⟨y, by rw [List.foldl_cons, hy, hx]⟩

/-- EPOCH_LOG takes the time of the epoch's end, and TIME_STATUS the next epoch. -/
def epochLogged (s : State) (old : Nat) : State :=
  let n := old / 2 ^ 40
  let z := (s.fset .EPOCH_LOG_LO_subns 0 (old / 2 ^ 24)).fset .EPOCH_LOG_LO_ns 0 (n % 1000000000)
  let z := (z.fset .EPOCH_LOG_LO_epoch 0 s.time.epoch).fset .EPOCH_LOG_HI_sec 0 (n / 1000000000)
  { z with time := { z.time with epoch := (s.time.epoch + 1) % 256, reepochEnd := none } }.fset .TIME_STATUS_epoch 0 ((s.time.epoch + 1) % 256)

/-- No step or re-epoch is asked for any more. -/
def epochCleared (s : State) : State := stepClear ((s.fset .TIME_STATUS_reepoch_pending 0 0).fset .TIME_CTL_reepoch 0 0)

/-- The epoch's end is counted and shown. -/
def epochShown (s : State) : State := ((epochCleared s).count .reepochCount 0).event .TIME_STATUS_epoch_event 0

/-- The registers that show an epoch's end. -/
def epochRegs : List Reg := [.TIME_STATUS, .EPOCH_LOG_LO, .EPOCH_LOG_HI]

/-- The fields that end with the epoch, and the one that reports it. -/
def epochAsks : List Fld := [.TIME_STATUS_reepoch_pending, .TIME_CTL_reepoch, .TIME_CTL_step_go, .TIME_STATUS_step_pending, .TIME_STATUS_epoch_event]

theorem epochEnd_eq (s : State) (old : Nat) : epochEnd s old = judgeLate (epochShown ((List.range 8).foldl trigDisarm (epochLogged s old))) := rfl

/-- What neither the disarming of the units nor the judging of late launches changes. -/
def epochParts : List Part := epochRegs.map .reg ++ [.ctr .reepochCount]

theorem part_of_epochReg {r : Reg} (h : r ∈ epochRegs) : Part.reg r ∈ epochParts :=
  List.mem_append_left _ (List.mem_map_of_mem h)

theorem disarmAll_kept (l : List Nat) : Kept (maskBut epochParts) s (l.foldl trigDisarm s) :=
  .foldl (fun _ _ h => trigDisarm_kept _ (.of_beq (by decide +kernel)) h) (.refl _ _)

theorem epochShown_fget {f : Fld} (hr : f.reg ∈ epochRegs) (hf : f ∉ epochAsks) : (epochShown s).fget f 0 = s.fget f 0 := by
  have quiet : Part.reg f.reg ∉ evtParts := (by decide : ∀ r ∈ epochRegs, Part.reg r ∉ evtParts) f.reg hr
  have apart {g : Fld} (hg : g ∈ epochAsks) : f ≠ g := fun e => hf (e ▸ hg)
  rw [epochShown, event_fget_ne quiet (apart (by decide)), fget_of_reg (count_reg _ _ _ _ _), epochCleared, stepClear, fget_fset_ne (apart (by decide)),
    fget_fset_ne (apart (by decide)), fget_fset_ne (apart (by decide)), fget_fset_ne (apart (by decide))]

theorem epochEnd_fget {f : Fld} (hr : f.reg ∈ epochRegs) (hf : f ∉ epochAsks) (old : Nat) :
    (epochEnd s old).fget f 0 = (epochLogged s old).fget f 0 := by
  have judged (z : State) : Kept (maskBut epochParts) z (judgeLate z) := judgeLate_kept (.of_beq (by decide +kernel)) (.refl _ _)
  rw [epochEnd_eq, ((judged _).same_of_but (part_of_epochReg hr) f 0 rfl : _ = _)]
  rw [epochShown_fget hr hf]
  exact (disarmAll_kept _).same_of_but (part_of_epochReg hr) f 0 rfl

/-- An event moves no counter but that of completions. -/
theorem event_cget {c : Ctr} (h : Part.ctr c ∉ evtParts) (f : Fld) (i j : Nat) : (s.event f i).cget c j = s.cget c j :=
  (event_same (p := .ctr c) h f i j).trans (cget_fset s f i 1 c j)

/-- The fields that end with the epoch read 0, and its end is reported. -/
theorem epochEnd_asks (old : Nat) : (epochEnd s old).fget .TIME_STATUS_reepoch_pending 0 = 0 ∧ (epochEnd s old).fget .TIME_STATUS_epoch_event 0 = 1 := by
  have judged (z : State) {f : Fld} (hf : f.reg = .TIME_STATUS) : (judgeLate z).fget f 0 = z.fget f 0 :=
    (judgeLate_kept (fr := maskBut epochParts) (.of_beq (by decide +kernel)) (.refl _ _)).same_of_but (p := .reg .TIME_STATUS) (by decide) f 0 hf
  rw [epochEnd_eq, judged _ rfl, judged _ rfl, epochShown]
  refine ⟨?_, event_fget_same (by decide) rfl 0⟩
  rw [event_fget_ne (by decide) (by decide), fget_of_reg (count_reg _ _ _ _ _), epochCleared, stepClear, fget_fset_ne (by decide), fget_fset_ne (by decide),
    fget_fset_ne (by decide), fget_fset_same]
  exact Nat.zero_mod _

theorem epochEnd_count (old : Nat) : (epochEnd s old).cget .reepochCount 0 = (s.cget .reepochCount 0 + 1) % 2 ^ 48 := by
  let b := (List.range 8).foldl trigDisarm (epochLogged s old)
  have disarmed : b.cget .reepochCount 0 = s.cget .reepochCount 0 :=
    (disarmAll_kept (s := epochLogged s old) (List.range 8)).same_of_but (p := .ctr .reepochCount) (by decide) 0
  have shown (z : State) : (epochShown z).cget .reepochCount 0 = (z.cget .reepochCount 0 + 1) % 2 ^ 48 :=
    (event_cget (by decide) _ _ _).trans (count_cget_same (epochCleared z) .reepochCount 0 1 none)
  have judged (z : State) : (judgeLate z).cget .reepochCount 0 = z.cget .reepochCount 0 :=
    (judgeLate_kept (fr := maskBut epochParts) (.of_beq (by decide +kernel)) (.refl _ _)).same_of_but (p := .ctr .reepochCount) (by decide) 0
  rw [epochEnd_eq, judged, shown, disarmed]

/-- Time goes on in the next epoch, with no window open. -/
theorem epochEnd_time (old : Nat) :
    ∃ x, (epochEnd s old).time = { s.time with epoch := (s.time.epoch + 1) % 256, reepochEnd := none, trigNext := x } := by
  have judged (z : State) : (judgeLate z).time = z.time :=
    (judgeLate_kept (fr := maskBut [.time]) (.of_beq (by decide +kernel)) (.refl _ _)).same_of_but (p := .time) (by decide)
  have shown (z : State) : (epochShown z).time = z.time := (event_same (p := .time) (by decide) _ _).trans (count_time _ _ _ _ _)
  obtain ⟨x, hx⟩ := disarmAll_time (s := epochLogged s old) (List.range 8)
  exact ⟨x, by rw [epochEnd_eq, judged, shown, hx]; rfl⟩

theorem fget_time (s : State) (x : TimeSt) (f : Fld) (i : Nat) : { s with time := x }.fget f i = s.fget f i := rfl

theorem epochLogged_shows (old : Nat) : (epochLogged s old).fget .TIME_STATUS_epoch 0 = (s.time.epoch + 1) % 256 ∧
    (epochLogged s old).fget .EPOCH_LOG_LO_epoch 0 = s.time.epoch % 256 ∧
    (epochLogged s old).fget .EPOCH_LOG_LO_ns 0 = old / 2 ^ 40 % 1000000000 ∧
    (epochLogged s old).fget .EPOCH_LOG_HI_sec 0 = old / 2 ^ 40 / 1000000000 % 2 ^ 48 := by
  refine ⟨(fget_fset_same _ _ _ _).trans (Nat.mod_mod _ _), ?_, ?_, ?_⟩
  · rw [epochLogged, fget_fset_ne (by decide), fget_time, fget_fset_ne (by decide), fget_fset_same]
    rfl
  · rw [epochLogged, fget_fset_ne (by decide), fget_time, fget_fset_ne (by decide), fget_fset_ne (by decide), fget_fset_same]
    exact Nat.mod_eq_of_lt (Nat.lt_trans (Nat.mod_lt _ (by decide)) (by decide))
  · rw [epochLogged, fget_fset_ne (by decide), fget_time, fget_fset_same]
    rfl

/-- The fields that the log writes. -/
def epochWrites : List Fld := [.EPOCH_LOG_LO_subns, .EPOCH_LOG_LO_ns, .EPOCH_LOG_LO_epoch, .EPOCH_LOG_HI_sec, .TIME_STATUS_epoch]

theorem epochLogged_other {f : Fld} (h : f ∉ epochWrites) (old : Nat) : (epochLogged s old).fget f 0 = s.fget f 0 := by
  have apart {g : Fld} (hg : g ∈ epochWrites) : f ≠ g := fun e => h (e ▸ hg)
  rw [epochLogged, fget_fset_ne (apart (by decide)), fget_time, fget_fset_ne (apart (by decide)), fget_fset_ne (apart (by decide)),
    fget_fset_ne (apart (by decide)), fget_fset_ne (apart (by decide))]

theorem exec_reepochHoldExpire {t0 : Nat} (h : s.time.reepochEnd = some t0) (hle : t0 ≤ s.now) :
    exec .reepochHoldExpire s = .next (epochEnd (s.fset .TIME_STATUS_step_allowed 0 0) s.time.dt) := by
  simp only [exec, execReepochHoldExpire, h, Nat.not_lt.2 hle, if_false]

/-! ### The PPS input (R282) -/

/-- An edge is captured: its time, and the epoch. -/
def ppsLatched (s : State) : State :=
  let z := ({ s with time := { s.time with ppsAt := some s.now, ppsMissed := false } }.fset .PPS_CAP_LO_subns 0 (s.time.dt / 2 ^ 24))
  ((z.fset .PPS_CAP_LO_ns 0 (s.devNs % 1000000000)).fset .PPS_CAP_LO_epoch 0 s.time.epoch).fset .PPS_CAP_HI_sec 0 (s.devNs / 1000000000)

/-- It is counted and reported. -/
def ppsShown (s : State) : State := ((ppsLatched s).count .ppsCount 0).event .TIME_STATUS_pps_event 0

theorem ppsShown_fget {f : Fld} (hr : Part.reg f.reg ∉ evtParts) (hf : f ≠ .TIME_STATUS_pps_event) :
    (ppsShown s).fget f 0 = (ppsLatched s).fget f 0 := by
  rw [ppsShown, event_fget_ne hr hf, fget_of_reg (count_reg _ _ _ _ _)]

theorem ppsLatched_shows : (ppsLatched s).fget .PPS_CAP_LO_ns 0 = s.devNs % 1000000000 ∧
    (ppsLatched s).fget .PPS_CAP_LO_epoch 0 = s.time.epoch % 256 ∧
    (ppsLatched s).fget .PPS_CAP_HI_sec 0 = s.devNs / 1000000000 % 2 ^ 48 := by
  refine ⟨?_, ?_, fget_fset_same _ _ _ _⟩
  · rw [ppsLatched, fget_fset_ne (by decide), fget_fset_ne (by decide), fget_fset_same]
    exact Nat.mod_eq_of_lt (Nat.lt_trans (Nat.mod_lt _ (by decide)) (by decide))
  · rw [ppsLatched, fget_fset_ne (by decide), fget_fset_same]
    rfl

theorem exec_ppsCapture_glitch {t0 : Nat} (hen : s.fbit .TIME_CFG_pps_en 0 = true) (hr : s.runs pdTime = true)
    (h : s.time.ppsAt = some t0) (hlt : s.now < t0 + 500000000) : exec .ppsCapture s = .next (s.count .ppsGlitch 0) := by
  simp only [exec, execPpsCapture, hen, hr, h, hlt, decide_true, if_true, Bool.true_eq_false, or_self, if_false]

theorem exec_ppsCapture (hen : s.fbit .TIME_CFG_pps_en 0 = true) (hr : s.runs pdTime = true)
    (h : ∀ t0, s.time.ppsAt = some t0 → t0 + 500000000 ≤ s.now) (hstep : s.fbit .TIME_STATUS_step_pending 0 = false) :
    exec .ppsCapture s = .next (ppsShown s) := by
  have step : { s with time := { s.time with ppsAt := some s.now, ppsMissed := false } }.fbit .TIME_STATUS_step_pending 0 = false := hstep
  cases hp : s.time.ppsAt with
  | none =>
    simp only [exec, execPpsCapture, hen, hr, hp, step, Bool.true_eq_false, Bool.false_eq_true, or_self, if_false]
    rfl
  | some t0 =>
    have far : decide (s.now < t0 + 500000000) = false := decide_eq_false (Nat.not_lt.2 (h t0 hp))
    simp only [exec, execPpsCapture, hen, hr, hp, far, step, Bool.true_eq_false, Bool.false_eq_true, or_self, if_false]
    rfl

theorem exec_ppsMissing {t0 : Nat} (h : s.time.ppsAt = some t0) (hen : s.fbit .TIME_CFG_pps_en 0 = true) (hm : s.time.ppsMissed = false)
    (hle : t0 + 1100000000 ≤ s.now) : exec .ppsMissing s =
      .next (({ s with time := { s.time with ppsMissed := true } }.count .ppsMissingCount 0).event .TIME_STATUS_pps_missing 0) := by
  simp only [exec, execPpsMissing, h, hen, hm, hle, and_self, if_true]

end

end Sys2Proof.Machine

open Sys2Proof Sys2Proof.Machine

/-- Settles O28: the end of an epoch through its four steps; each other event is shown and counted as it stands. -/
theorem timeEventsAct : Obligations.TimeEventsAct := by
  refine ⟨fun s t0 h0 hle => ⟨_, exec_reepochHoldExpire h0 hle, ?_⟩, fun s ha hz => ?_, fun s ha => ?_,
    fun s hen hr => ⟨fun t0 h0 hlt => ?_, fun hgap hstep => ?_⟩, fun s t0 h0 hen hm hle => ?_, fun s => ⟨?_, ?_⟩⟩
  · obtain ⟨x, time⟩ := epochEnd_time (s := s.fset .TIME_STATUS_step_allowed 0 0) s.time.dt
    obtain ⟨epoch, log, ns, sec⟩ := epochLogged_shows (s := s.fset .TIME_STATUS_step_allowed 0 0) s.time.dt
    obtain ⟨asked, event⟩ := epochEnd_asks (s := s.fset .TIME_STATUS_step_allowed 0 0) s.time.dt
    have allowed : (epochLogged (s.fset .TIME_STATUS_step_allowed 0 0) s.time.dt).fget .TIME_STATUS_step_allowed 0 = 0 :=
      (epochLogged_other (by decide) _).trans ((fget_fset_same _ _ _ _).trans (Nat.zero_mod _))
    refine ⟨by rw [time]; rfl, by rw [time]; rfl, by rw [time], ?_, event, ?_, asked, ?_, ?_, ?_, epochEnd_count _⟩
    · exact (epochEnd_fget (by decide) (by decide) _).trans epoch
    · exact (epochEnd_fget (by decide) (by decide) _).trans allowed
    · exact (epochEnd_fget (by decide) (by decide) _).trans log
    · exact (epochEnd_fget (by decide) (by decide) _).trans ns
    · exact (epochEnd_fget (by decide) (by decide) _).trans sec
  · refine ⟨_, congrArg Host.Outcome.next (if_pos ⟨ha, hz⟩), (fget_fset_ne (by decide) _ _ _).trans ?_⟩
    exact (fget_fset_same _ _ _ _).trans (Nat.zero_mod _)
  · refine ⟨_, congrArg Host.Outcome.next (if_pos ha), ?_, event_fget_same (by decide) rfl 0, ?_⟩
    · rw [event_fget_ne (by decide) (by decide), fget_of_reg (count_reg _ _ _ _ _), fget_fset_same]
      exact Nat.zero_mod _
    · exact (event_cget (by decide) _ _ _).trans (count_cget_same (s.fset .TIME_STATUS_ref_active 0 0) .refLostCount 0 1 none)
  · exact ⟨_, exec_ppsCapture_glitch hen hr h0 hlt, count_cget_same s .ppsGlitch 0 1 none, count_time s .ppsGlitch 0 1 none⟩
  · obtain ⟨ns, epoch, sec⟩ := ppsLatched_shows (s := s)
    refine ⟨_, exec_ppsCapture hen hr hgap hstep, ?_, ?_, ?_, ?_, event_fget_same (by decide) rfl 0, ?_⟩
    · exact (event_same (p := .time) (by decide) _ _).trans (count_time (ppsLatched s) .ppsCount 0 1 none)
    · exact (ppsShown_fget (by decide) (by decide)).trans ns
    · exact (ppsShown_fget (by decide) (by decide)).trans epoch
    · exact (ppsShown_fget (by decide) (by decide)).trans sec
    · exact (event_cget (by decide) _ _ _).trans (count_cget_same (ppsLatched s) .ppsCount 0 1 none)
  · let z : State := { s with time := { s.time with ppsMissed := true } }
    refine ⟨_, exec_ppsMissing h0 hen hm hle, ?_, event_fget_same (by decide) rfl 0, ?_⟩
    · exact congrArg TimeSt.ppsMissed ((event_same (p := .time) (by decide) _ _).trans (count_time z .ppsMissingCount 0 1 none))
    · exact (event_cget (by decide) _ _ _).trans (count_cget_same z .ppsMissingCount 0 1 none)
  · exact ⟨_, rfl, rfl, rfl, rfl, rfl⟩
  · exact ⟨_, rfl, rfl, rfl⟩

end

section
/-! SUPPORT. SPDM requests: answered at once, or after the mailbox request in execution (R253). -/

namespace Sys2Proof.Machine

-- A proof that evaluates in the kernel waits for every declaration before it, and holds a thread while it waits.
set_option Elab.async false

section
variable {s : State} {q : SpdmReq}

/-- A request is answered, in the output and with what the Rind remembers alone. -/
def SpdmAnswered (s t : State) : Prop := ∃ v, t.out = s.out ++ [.answer v] ∧ ChangesOnly [.out, .rind] s t

/-- A request waits for the mailbox request in execution. -/
def SpdmWaits (q : SpdmReq) (s t : State) : Prop :=
  t.rind = { s.rind with spdmWait := s.rind.spdmWait ++ [q] } ∧ t.out = s.out ∧ ChangesOnly [.rind] s t

theorem spdmReply_answered (s : State) (q : SpdmReq) : SpdmAnswered s (spdmReply s q) := by
  have stands : ChangesOnly [.out, .rind] s (spdmReply s q) :=
    (spdmReply_kept (fr := partsMask [.out, .rind]) q (.of_beq (by decide +kernel)) (.refl _ _)).changesOnly
  cases q <;> exact ⟨_, rfl, stands⟩

theorem spdmReply_algorithms (s : State) (a b : Bool) : (spdmReply s (.algorithms a b)).rind.spdmP384 = a := rfl

/-- The digests of the components that run are the end of the answer about measurements. -/
theorem spdmReply_measurements (s : State) (i : Nat) (l : List Byte) :
    ∃ v, (spdmReply s (.measurements i l)).out = s.out ++ [.answer v] ∧ runningBytes s <:+ v := ⟨_, rfl, _, rfl⟩

theorem spdmTake_free (hr : rindRuns s = true) (hp : pcieReady s = true) (hm : s.rind.mbx = none) : spdmTake s q = spdmReply s q := by
  simp only [spdmTake, hr, hp, hm, Bool.true_eq_false, or_self, if_false, Option.isSome_none, Bool.false_eq_true]

theorem spdmTake_busy (hr : rindRuns s = true) (hp : pcieReady s = true) (hm : s.rind.mbx.isSome = true) : SpdmWaits q s (spdmTake s q) := by
  have waits : spdmTake s q = { s with rind := { s.rind with spdmWait := s.rind.spdmWait ++ [q] } } := by
    simp only [spdmTake, hr, hp, hm, Bool.true_eq_false, or_self, if_false, if_true]
  rw [waits]
  exact ⟨rfl, rfl, (Kept.setRind (fr := partsMask [.rind]) (.refl _ s) { s.rind with spdmWait := s.rind.spdmWait ++ [q] } rfl rfl (.of_beq (by decide +kernel))).changesOnly⟩

theorem spdmTake_answers (hr : rindRuns s = true) (hp : pcieReady s = true) (hm : s.rind.mbx = none) : SpdmAnswered s (spdmTake s q) := by
  rw [spdmTake_free hr hp hm]
  exact spdmReply_answered s q

end

end Sys2Proof.Machine

open Sys2Proof Sys2Proof.Machine

/-- Settles O39: every row takes its request alike, and a taken request is answered or waits. -/
theorem spdmRequestsAreAnswered : Obligations.SpdmRequestsAreAnswered := by
  intro s a b x o n l hr hp
  refine ⟨fun hm => ?_, fun hm => ?_⟩
  · have answers (q : SpdmReq) : SpdmAnswered s (spdmTake s q) := spdmTake_answers hr hp hm
    refine ⟨⟨_, rfl, answers _⟩, ⟨_, rfl, answers _⟩, ⟨_, rfl, ?_⟩, ⟨_, rfl, answers _⟩, ⟨_, rfl, answers _⟩, ⟨_, rfl, answers _⟩,
      ⟨_, rfl, ?_⟩⟩
    · obtain ⟨v, out, stands⟩ := answers (.algorithms a b)
      exact ⟨v, out, stands, by rw [spdmTake_free hr hp hm]; exact spdmReply_algorithms s a b⟩
    · obtain ⟨_, _, stands⟩ := answers (.measurements x l)
      rw [spdmTake_free hr hp hm] at stands ⊢
      obtain ⟨v, out, digests⟩ := spdmReply_measurements s x l
      exact ⟨v, out, stands, digests⟩
  · have waits (q : SpdmReq) : SpdmWaits q s (spdmTake s q) := spdmTake_busy hr hp hm
    exact ⟨⟨_, rfl, waits _⟩, ⟨_, rfl, waits _⟩, ⟨_, rfl, waits _⟩, ⟨_, rfl, waits _⟩, ⟨_, rfl, waits _⟩, ⟨_, rfl, waits _⟩,
      ⟨_, rfl, waits _⟩⟩

end

section
/-! SUPPORT. How a mailbox request is taken and answered (R316 to R318). -/

namespace Sys2Proof.Machine

-- A proof that evaluates in the kernel waits for every declaration before it, and holds a thread while it waits.
set_option Elab.async false

section
variable {s t u : State} {m : MbxReq} {internal lost : Bool} {cmd tag status r0 r1 v : Nat}

/-! ### What a response is read of -/

/-- The registers that ring 7 of set 0 is read of. -/
def rspRegs : List Reg := [.RING_CTL, .RING_BASE, .SET_CTL, .RSET_OWNER]

/-- What a response is written by stands: ring 7 of set 0, the function that masters the bus for it and the responses that wait; and
what had left the device has left it still. -/
structure RspRing (s u : State) : Prop where
  regs : ∀ f i, f.reg ∈ rspRegs → u.fget f i = s.fget f i
  ring : u.ring 0 7 = s.ring 0 7
  master : u.host.busMaster = s.host.busMaster
  rsps : u.host.rsps = s.host.rsps
  out : s.out <+: u.out

/-- The same, with the history that a response is entered in. -/
structure RspStands (s u : State) : Prop extends RspRing s u where
  history : u.rind.history = s.rind.history

theorem RspStands.refl (s : State) : RspStands s s := ⟨⟨fun _ _ _ => rfl, rfl, rfl, rfl, List.prefix_refl _⟩, rfl⟩

theorem RspRing.trans (h : RspRing s u) (k : RspRing u t) : RspRing s t :=
  ⟨fun f i hf => (k.regs f i hf).trans (h.regs f i hf), k.ring.trans h.ring, k.master.trans h.master, k.rsps.trans h.rsps,
    h.out.trans k.out⟩

theorem RspStands.trans (h : RspStands s u) (k : RspStands u t) : RspStands s t :=
  ⟨h.toRspRing.trans k.toRspRing, k.history.trans h.history⟩

/-- The parts in which it lies, but for the history. -/
def rspParts : List Part := .host :: rspRegs.map .reg

theorem RspRing.of_kept (h : Kept (maskBut rspParts) s u) : RspRing s u := by
  have host : u.host = s.host := h.same_of_but (p := .host) (by decide)
  refine ⟨fun f i hf => ?_, ?_, by rw [host], by rw [host], h.out⟩
  · exact h.same_of_but (p := .reg f.reg) (List.mem_cons_of_mem _ (List.mem_map_of_mem hf)) f i rfl
  · exact congrArg (fun x : HostSt => tget {} x.rings (0, 7)) host

theorem RspStands.of_kept (h : Kept (maskBut (.rind :: rspParts)) s u) : RspStands s u :=
  ⟨.of_kept (h.mono (.of_beq (by decide +kernel))), congrArg Rind.history (h.same_of_but (p := .rind) (by decide) : u.rind = s.rind)⟩

theorem RspRing.ringRuns (h : RspRing s u) : ringRuns u 0 7 = ringRuns s 0 7 := by
  have field (f : Fld) (i : Nat) (hf : f.reg ∈ rspRegs) : u.fget f i = s.fget f i := h.regs f i hf
  simp only [Machine.ringRuns, ringOn, setOwner, State.fbit, h.ring, h.master, field .SET_CTL_set_en _ (by decide),
    field .RING_CTL_en _ (by decide), field .RING_CTL_stopped _ (by decide), field .RSET_OWNER_owner _ (by decide)]

theorem RspRing.ringFull (h : RspRing s u) : ringFull u 0 7 = ringFull s 0 7 := by
  have size : ringSize u 0 7 = ringSize s 0 7 := congrArg (2 ^ ·) (h.regs .RING_CTL_log2_size _ (by decide))
  simp only [Machine.ringFull, h.ring, size]

theorem RspRing.ringEntry (h : RspRing s u) (v : Nat) : ringEntry u 0 7 v = ringEntry s 0 7 v := by
  simp only [Machine.ringEntry, ringSize, h.ring, h.regs .RING_CTL_log2_size _ (by decide), h.regs .RING_BASE_addr _ (by decide)]

/-! ### A request is taken -/

/-- The request has been read from its ring, or from the management complex's channel. -/
def mbxTaken (s : State) (m : MbxReq) : State := if m.internal then s else ringRead s 0 6

theorem mbxTaken_eq (s : State) (m : MbxReq) : ∃ h, mbxTaken s m = { s with host := h } := by
  unfold mbxTaken
  split
  · exact ⟨s.host, rfl⟩
  · exact ⟨_, rfl⟩

theorem mbxTaken_kept (s : State) (m : MbxReq) : Kept (partsMask [.host]) s (mbxTaken s m) := by
  exact .ite (fun _ => .refl _ _) fun _ => ringRead_kept _ _ (.of_beq (by decide +kernel)) (.refl _ _)

theorem mbxTaken_stands (s : State) (m : MbxReq) : RspStands s (mbxTaken s m) := by
  have h := mbxTaken_kept s m
  have read : (ringRead s 0 6).ring 0 7 = s.ring 0 7 := setRing_other _ _ _ _ _ _ (by decide)
  refine ⟨⟨fun f i _ => h.changesOnly (.reg f.reg) (by simp) f i rfl, ?_, ?_, ?_, h.out⟩, ?_⟩
  · unfold mbxTaken
    split
    · rfl
    · exact read
  · unfold mbxTaken
    split <;> rfl
  · unfold mbxTaken
    split <;> rfl
  · exact congrArg Rind.history (h.changesOnly .rind (by decide) : (mbxTaken s m).rind = s.rind)

theorem mbxRow_taken {code : Nat} {f : State → State} (hready : mbxReady s m = true) (hcmd : mbxCmd m = code)
    (hrec : inRecovery s = false ∨ mbxRecovery code = true) (hres : mbxReserved m = false) : mbxRow code m f s = f (mbxTaken s m) := by
  have recovery : (inRecovery (mbxTaken s m) && !mbxRecovery code) = false := by
    have mode : inRecovery (mbxTaken s m) = inRecovery s :=
      congrArg (· == 2) ((mbxTaken_kept s m).changesOnly (.reg .RIND_STATUS) (by decide) .RIND_STATUS_mode 0 rfl)
    rw [mode]
    obtain h | h := hrec <;> simp [h]
  have taken : (if m.internal then s else ringRead s 0 6) = mbxTaken s m := rfl
  simp only [mbxRow, hready, hcmd, beq_self_eq_true, Bool.and_self, if_true, taken, recovery, hres, Bool.false_eq_true, if_false]

theorem sigOk_congr (hotp : u.rind.otp = s.rind.otp) : sigOk u = sigOk s := by
  have otp (a b : Nat) : otpAt u a b = otpAt s a b := congrArg (bits · a b) hotp
  funext ec ml signed b
  rw [sigOk, sigOk, hybridOn, hybridOn, otp]

theorem envCheck_congr {kind : Nat} (hotp : u.rind.otp = s.rind.otp) (hnonces : u.images.nonces = s.images.nonces) :
    envCheck u m kind = envCheck s m kind := by
  have otp (a b : Nat) : otpAt u a b = otpAt s a b := congrArg (bits · a b) hotp
  have enrolled : ownerEnrolled u = ownerEnrolled s := congrArg (· != 0) (otp 4864 384)
  rw [envCheck, envCheck, enrolled, sigOk_congr hotp, otp, otp, hnonces]

theorem mbxTaken_envCheck (kind : Nat) : envCheck (mbxTaken s m) m kind = envCheck s m kind := by
  obtain ⟨h, e⟩ := mbxTaken_eq s m
  rw [e]
  exact envCheck_congr rfl rfl

/-! ### A request is answered -/

/-- The entry of a response (R317). -/
def mbxEntry (cmd tag status r0 r1 : Nat) : Nat := cmd + status * 2 ^ 8 + tag * 2 ^ 16 + r0 % 2 ^ 32 * 2 ^ 32 + r1 % 2 ^ 64 * 2 ^ 64

/-- The unit is free, and the request in the history. -/
def mbxFreed (s : State) (cmd tag status : Nat) : State :=
  { s with rind := { s.rind with
      mbx := none, history := ((cmd + status * 2 ^ 8 + tag * 2 ^ 16) :: s.rind.history).take 16, spdmWait := [] } }.fset
    .RIND_STATUS_mbx_busy 0 0

/-- The response goes to ring 7, or on the management complex's channel; that of a request of a ring since reset is dropped. -/
def mbxResponse (s : State) (internal lost : Bool) (v : Nat) : State :=
  if internal then s.emit (.answer (leBytes 64 v)) else if lost then s
  else rspFlush { s with host := { s.host with rsps := [] } } (s.host.rsps ++ [v])

theorem mbxEnd_eq : mbxEnd s internal lost cmd tag status r0 r1 =
    s.rind.spdmWait.foldl spdmReply (mbxResponse (mbxFreed s cmd tag status) internal lost (mbxEntry cmd tag status r0 r1)) := rfl

theorem mbxResponse_kept : Kept (partsMask [.prog, .out, .host, .evtLevel, .reg .EVT_CAUSE, .reg .RIND_EVT, .ctr .ringOffDrop]) s
    (mbxResponse s internal lost v) :=
  .ite (fun _ => State.emit_kept _ (.of_beq (by decide +kernel)) (.refl _ _)) fun _ => .ite (fun _ => .refl _ _) fun _ =>
    rspFlush_kept _ (.of_beq (by decide +kernel)) (Kept.setHost (.refl _ _) _ (.of_beq (by decide +kernel)))

/-- SPDM requests that waited are answered. -/
theorem spdmAll_kept (l : List SpdmReq) : Kept (partsMask [.out, .rind]) s (l.foldl spdmReply s) :=
  .foldl (fun _ _ h => spdmReply_kept _ (.of_beq (by decide +kernel)) h) (.refl _ _)

theorem spdmAll_rind (l : List SpdmReq) : ∃ b, (l.foldl spdmReply s).rind = { s.rind with spdmP384 := b } := by
  have one (s : State) (q : SpdmReq) : ∃ b, (spdmReply s q).rind = { s.rind with spdmP384 := b } := by cases q <;> exact ⟨_, rfl⟩
  induction l generalizing s with
  | nil => exact ⟨s.rind.spdmP384, rfl⟩
  | cons q l ih =>
    obtain ⟨b, hb⟩ := one s q
    obtain ⟨c, hc⟩ := ih (s := spdmReply s q)
    exact ⟨c, by rw [List.foldl_cons, hc, hb]⟩

/-- What the Rind remembers once a request has been answered. -/
theorem mbxEnd_rind : ∃ b, (mbxEnd s internal lost cmd tag status r0 r1).rind = { s.rind with
    mbx := none, history := ((cmd + status * 2 ^ 8 + tag * 2 ^ 16) :: s.rind.history).take 16, spdmWait := [], spdmP384 := b } := by
  obtain ⟨b, hb⟩ := spdmAll_rind (s := mbxResponse (mbxFreed s cmd tag status) internal lost (mbxEntry cmd tag status r0 r1)) s.rind.spdmWait
  have response : (mbxResponse (mbxFreed s cmd tag status) internal lost (mbxEntry cmd tag status r0 r1)).rind =
      (mbxFreed s cmd tag status).rind := mbxResponse_kept.changesOnly .rind (by decide)
  exact ⟨b, by rw [mbxEnd_eq, hb, response]; rfl⟩

/-- The end of a request changes no field but those that report it. -/
theorem mbxEnd_fget {f : Fld} (hr : Part.reg f.reg ∉ [.reg .EVT_CAUSE, .reg .RIND_EVT]) (i : Nat) :
    (mbxEnd s internal lost cmd tag status r0 r1).fget f i = (s.fset .RIND_STATUS_mbx_busy 0 0).fget f i := by
  have response : (mbxResponse (mbxFreed s cmd tag status) internal lost (mbxEntry cmd tag status r0 r1)).fget f i =
      (mbxFreed s cmd tag status).fget f i := mbxResponse_kept.changesOnly (.reg f.reg) (by simpa using hr) f i rfl
  rw [mbxEnd_eq]
  exact ((spdmAll_kept _).changesOnly (.reg f.reg) (by simp) f i rfl).trans response

theorem mbxEnd_busy : (mbxEnd s internal lost cmd tag status r0 r1).fget .RIND_STATUS_mbx_busy 0 = 0 :=
  (mbxEnd_fget (by decide) 0).trans ((fget_fset_same _ _ _ _).trans (Nat.zero_mod _))

/-- The response to a request of the host, where ring 7 runs with room and none waits, is written, and mbx_done shows it. -/
theorem mbxResponse_writes (hruns : ringRuns s 0 7 = true) (hroom : ringFull s 0 7 = false) (hrsps : s.host.rsps = []) :
    s.out ++ [ringEntry s 0 7 v] <+: (mbxResponse s false false v).out ∧ (mbxResponse s false false v).fget .RIND_EVT_mbx_done 0 = 1 := by
  let z : State := { s with host := { s.host with rsps := [] } }
  have on : ringOn z 0 7 = true := by
    have h : (ringOn s 0 7 && !s.fbit .RING_CTL_stopped (0 * 8 + 7) && tget false s.host.busMaster (setOwner s 0, 0)) = true := hruns
    rw [Bool.and_eq_true, Bool.and_eq_true] at h
    exact h.1.1
  have runs : ringRuns z 0 7 = true := hruns
  have room : ringFull z 0 7 = false := hroom
  have e : mbxResponse s false false v = (ringWrite z 0 7 v).event .RIND_EVT_mbx_done 0 := by
    simp only [mbxResponse, Bool.false_eq_true, if_false, hrsps, List.nil_append, rspFlush]
    rw [if_neg (by rw [on]; decide), if_pos (by rw [runs, room]; decide)]
  rw [e]
  exact ⟨(ringWrite_emits (s := z) 0 7 v).trans (event_out _ _), event_fget_same (by decide) rfl 0⟩

/-- SPDM answers change no register. -/
theorem spdmAll_fget (l : List SpdmReq) (f : Fld) (i : Nat) : (l.foldl spdmReply s).fget f i = s.fget f i :=
  (spdmAll_kept l).changesOnly (.reg f.reg) (by simp) f i rfl

theorem mbxFreed_ring (s : State) (cmd tag status : Nat) : RspRing s (mbxFreed s cmd tag status) :=
  .of_kept (Kept.field _ _ _ (Kept.setRind (.refl _ s) _ rfl rfl (.of_beq (by decide +kernel))) (.of_beq (by decide +kernel)))

theorem mbxEnd_out : (mbxResponse (mbxFreed s cmd tag status) internal lost (mbxEntry cmd tag status r0 r1)).out <+:
    (mbxEnd s internal lost cmd tag status r0 r1).out := (spdmAll_kept _).out

theorem mem_drop_of_prefix {α : Type} {a b l : List α} {x : α} (h : a <+: b) (k : b ++ [x] <+: l) : x ∈ l.drop a.length := by
  obtain ⟨c, rfl⟩ := h
  obtain ⟨d, rfl⟩ := k
  simp

/-- A request that the Rind could take, answered in a state in which what its response is read of stands, is answered as R316 says. -/
theorem mbxDone_replied (h : RspStands s u) (hready : mbxReady s m = true) : Replied s (mbxDone u m status r0 r1) m status r0 r1 := by
  obtain ⟨b, rind⟩ := mbxEnd_rind (s := u) (internal := m.internal) (lost := false) (cmd := mbxCmd m) (tag := mbxTag m) (status := status)
    (r0 := r0) (r1 := r1)
  refine ⟨by rw [mbxDone, rind], mbxEnd_busy, by rw [mbxDone, rind, h.history], fun hi => ?_, fun hi hruns => ?_⟩
  · have sent := mbxEnd_out (s := u) (internal := m.internal) (lost := false) (cmd := mbxCmd m) (tag := mbxTag m) (status := status)
      (r0 := r0) (r1 := r1)
    rw [hi, mbxResponse, if_pos rfl] at sent
    rw [mbxDone, hi]
    exact mem_drop_of_prefix h.out sent
  · obtain ⟨room, rsps⟩ : ringFull s 0 7 = false ∧ s.host.rsps = [] := by
      have on : ringOn s 0 7 = true := by
        rw [ringRuns, Bool.and_eq_true, Bool.and_eq_true] at hruns
        exact hruns.1.1
      simp only [mbxReady, hi, Bool.false_or, Bool.and_eq_true, on, Bool.not_true, Bool.not_eq_true', List.isEmpty_iff] at hready
      obtain ⟨_, ⟨⟨_, rsps⟩, room⟩⟩ := hready
      exact ⟨room, rsps⟩
    have freed : RspRing s (mbxFreed u (mbxCmd m) (mbxTag m) status) := h.toRspRing.trans (mbxFreed_ring _ _ _ _)
    obtain ⟨sent, done⟩ := mbxResponse_writes (s := mbxFreed u (mbxCmd m) (mbxTag m) status)
      (v := mbxEntry (mbxCmd m) (mbxTag m) status r0 r1) (freed.ringRuns.trans hruns) (freed.ringFull.trans room) (freed.rsps.trans rsps)
    rw [freed.ringEntry] at sent
    rw [mbxDone, hi]
    exact ⟨(spdmAll_fget _ _ _).trans done, mem_drop_of_prefix freed.out (sent.trans mbxEnd_out)⟩

/-- The request in execution is the one that was taken. -/
def mbxRunOf (m : MbxReq) (w : MbxWaits) : MbxRun := { internal := m.internal, lost := false, cmd := mbxCmd m, tag := mbxTag m, waits := w }

theorem mbxFinish_of_run {w : MbxWaits} (h : s.rind.mbx = some (mbxRunOf m w)) : mbxFinish s status r0 r1 = mbxDone s m status r0 r1 := by
  rw [mbxFinish, h]
  rfl

/-- The end of a request changes no field but those that report it. -/
theorem mbxDone_fget {f : Fld} (hr : Part.reg f.reg ∉ [.reg .EVT_CAUSE, .reg .RIND_EVT]) (hf : f ≠ .RIND_STATUS_mbx_busy) (i : Nat) :
    (mbxDone s m status r0 r1).fget f i = s.fget f i := (mbxEnd_fget hr i).trans (fget_fset_ne hf _ _ _)

theorem mbxDone_images : (mbxDone s m status r0 r1).images = s.images :=
  (mbxDone_kept (fr := maskBut [.images]) _ _ _ _ (.of_beq (by decide +kernel)) (.refl _ _)).same_of_but (p := .images) (by decide)

theorem mbxDone_otp : (mbxDone s m status r0 r1).rind.otp = s.rind.otp := by
  obtain ⟨b, rind⟩ := mbxEnd_rind (s := s) (internal := m.internal) (lost := false) (cmd := mbxCmd m) (tag := mbxTag m) (status := status)
    (r0 := r0) (r1 := r1)
  rw [mbxDone, rind]

/-! ### A request waits -/

theorem mbxWait_rind (s : State) (m : MbxReq) (w : MbxWaits) : (mbxWait s m w).rind = { s.rind with mbx := some (mbxRunOf m w) } := rfl

theorem mbxWait_images (z : State) (m : MbxReq) (w : MbxWaits) : (mbxWait z m w).images = z.images := rfl

theorem mbxWait_otp (z : State) (m : MbxReq) (w : MbxWaits) : (mbxWait z m w).rind.otp = z.rind.otp := rfl

theorem mbxWait_busy (s : State) (m : MbxReq) (w : MbxWaits) : (mbxWait s m w).fget .RIND_STATUS_mbx_busy 0 = 1 := fget_fset_same _ _ _ _

theorem mbxWait_fget {f : Fld} (h : f ≠ .RIND_STATUS_mbx_busy) (w : MbxWaits) (i : Nat) : (mbxWait s m w).fget f i = s.fget f i :=
  fget_fset_ne h _ _ _

theorem mbxWait_stands (s : State) (m : MbxReq) (w : MbxWaits) : RspStands s (mbxWait s m w) :=
  ⟨.of_kept (mbxWait_kept _ _ (.of_beq (by decide +kernel)) (.refl _ _)), rfl⟩

end

end Sys2Proof.Machine
end

section
/-! SUPPORT. Owner state, enrolment and the chain (R346, R348, R349). -/

namespace Sys2Proof.Machine

-- A proof that evaluates in the kernel waits for every declaration before it, and holds a thread while it waits.
set_option Elab.async false

section
variable {s : State} {m : MbxReq}

/-- What UPD_STATUS follows by itself. -/
def updShown : List Fld :=
  [.UPD_STATUS_active_slot, .FW_BUILD_build, .UPD_STATUS_trial, .UPD_STATUS_trial_starts, .UPD_STATUS_inactive_state, .UPD_STATUS_chunks_done,
   .UPD_STATUS_chunk_count, .UPD_STATUS_fused_svn, .UPD_STATUS_hybrid_required, .UPD_STATUS_owner_enrolled, .UPD_STATUS_refusal]

theorem updShow_other {f : Fld} (h : f ∉ updShown) (i : Nat) : (updShow s).fget f i = s.fget f i := by
  have apart {g : Fld} (hg : g ∈ updShown) : f ≠ g := fun e => h (e ▸ hg)
  simp only [updShow, fget_fset_ne (apart (g := .UPD_STATUS_active_slot) (by decide)), fget_fset_ne (apart (g := .FW_BUILD_build) (by decide)),
    fget_fset_ne (apart (g := .UPD_STATUS_trial) (by decide)), fget_fset_ne (apart (g := .UPD_STATUS_trial_starts) (by decide)),
    fget_fset_ne (apart (g := .UPD_STATUS_inactive_state) (by decide)), fget_fset_ne (apart (g := .UPD_STATUS_chunks_done) (by decide)),
    fget_fset_ne (apart (g := .UPD_STATUS_chunk_count) (by decide)), fget_fset_ne (apart (g := .UPD_STATUS_fused_svn) (by decide)),
    fget_fset_ne (apart (g := .UPD_STATUS_hybrid_required) (by decide)), fget_fset_ne (apart (g := .UPD_STATUS_owner_enrolled) (by decide)),
    fget_fset_ne (apart (g := .UPD_STATUS_refusal) (by decide))]

/-! ### OWNER_SET (R349) -/

/-- Owner state is taken from an envelope's body. -/
def ownerTaken (s : State) (m : MbxReq) : State :=
  let v := leAt (envBody m.data 2) 0 8
  updShow (envAccept ((s.fset .UPD_STATUS_owner_lock 0 (bits v 0 1)).fset .UPD_STATUS_update_group 0 (bits v 1 6)) m)

theorem exec_ownerSet (hready : mbxReady s m = true) (hres : mbxReserved m = false) (hcmd : mbxCmd m = 0x76) : exec (.ownerSet m) s = .next
    (if envCheck s m 2 ≠ 0 then mbxDone (mbxTaken s m) m (envCheck s m 2) 0 0
      else mbxWait (ownerTaken (mbxTaken s m) m) m (.logWrite 0 0 0)) := by
  have row := mbxRow_taken (f := fun s => if envCheck s m 2 != 0 then mbxDone s m (envCheck s m 2) 0 0
    else mbxWait (ownerTaken s m) m (.logWrite 0 0 0)) hready hcmd (.inr rfl) hres
  refine congrArg Host.Outcome.next (row.trans ?_)
  rw [mbxTaken_envCheck]
  by_cases hc : envCheck s m 2 = 0
  · rw [if_neg (by rw [hc]; decide), if_neg (not_not_intro hc)]
  · rw [if_pos (bne_iff_ne.2 hc), if_pos hc]

theorem ownerTaken_shows : (ownerTaken s m).fget .UPD_STATUS_owner_lock 0 = bits (leAt (envBody m.data 2) 0 8) 0 1 ∧
    (ownerTaken s m).fget .UPD_STATUS_update_group 0 = bits (leAt (envBody m.data 2) 0 8) 1 6 := by
  have fits (v lsb w : Nat) : bits v lsb w % 2 ^ w = bits v lsb w := Nat.mod_eq_of_lt (bits_lt _ _ _)
  refine ⟨(updShow_other (by decide) 0).trans ?_, (updShow_other (by decide) 0).trans ?_⟩
  · exact (fget_fset_ne (by decide) _ _ _).trans ((fget_fset_same _ _ _ _).trans (fits _ _ _))
  · exact (fget_fset_same _ _ _ _).trans (fits _ _ _)

theorem ownerTaken_nonces : (ownerTaken s m).images.nonces = (envNonce m.data :: s.images.nonces).take 256 :=
  congrArg Images.nonces (updShow_same (p := .images) (by decide) : (ownerTaken s m).images = _)

/-! ### OWNER_ENROLL (R346) -/

/-- The hash of one key is programmed into the OTP. -/
def ownerProgrammed (s : State) (m : MbxReq) : State := updShow (otpProgram s 4864 384 (Config.sha384 (m.data.take 97)).toNat)

theorem ownerProgrammed_otp (h : m.data.length = 97) :
    (ownerProgrammed s m).rind.otp = s.rind.otp ||| (Config.sha384 m.data).toNat * 2 ^ 4864 := by
  have shown : (ownerProgrammed s m).rind = (otpProgram s 4864 384 (Config.sha384 (m.data.take 97)).toNat).rind := updShow_same (p := .rind) (by decide)
  rw [shown, List.take_of_length_le (Nat.le_of_eq h), otpProgram, Nat.mod_eq_of_lt (Config.sha384 m.data).isLt]

theorem bitsKept_or (a b : Nat) : BitsKept a (a ||| b) := fun i h => by rw [Nat.testBit_or, h, Bool.true_or]

theorem exec_ownerEnroll_refused (hready : mbxReady s m = true) (hres : mbxReserved m = false) (hcmd : mbxCmd m = 0x77)
    (he : ownerEnrolled s = true) : exec (.ownerEnroll m) s = .next (mbxDone (mbxTaken s m) m 6 0 0) := by
  refine congrArg Host.Outcome.next ((mbxRow_taken hready hcmd (.inr rfl) hres).trans (if_pos ?_))
  obtain ⟨h, e⟩ := mbxTaken_eq s m
  rw [e]
  exact he

theorem exec_ownerEnroll (hready : mbxReady s m = true) (hres : mbxReserved m = false) (hcmd : mbxCmd m = 0x77)
    (he : ownerEnrolled s = false) (hdata : m.dataFailed = false) (hlen : m.data.length = 97) :
    exec (.ownerEnroll m) s = .next (mbxWait (ownerProgrammed (mbxTaken s m) m) m (.logWrite 0 0 0)) := by
  have enrolled : ownerEnrolled (mbxTaken s m) = false := by
    obtain ⟨h, e⟩ := mbxTaken_eq s m
    rw [e]
    exact he
  refine congrArg Host.Outcome.next ((mbxRow_taken hready hcmd (.inr rfl) hres).trans ?_)
  simp only [enrolled, hdata, hlen, Bool.false_eq_true, if_false, ne_eq, not_true_eq_false, false_and, Nat.reduceEqDiff]
  rfl

/-! ### MILK_SET (R348) -/

/-- The chain's ports, enables and class. -/
def chainSet (s : State) (v : Nat) : State :=
  let z := (s.fset .UPD_MILK_up_port 0 (bits v 0 9)).fset .UPD_MILK_up_en 0 (bits v 9 1)
  let z := (z.fset .UPD_MILK_down_port 0 (bits v 10 9)).fset .UPD_MILK_down_en 0 (bits v 19 1)
  z.fset .UPD_MILK_class 0 (bits v 20 4)

theorem exec_milkSet_refused (hready : mbxReady s m = true) (hres : mbxReserved m = false) (hcmd : mbxCmd m = 0x78)
    (hbad : 2 ^ 24 ≤ mbxArg0 m ∨ 273 ≤ bits (mbxArg0 m) 0 9 ∨ 273 ≤ bits (mbxArg0 m) 10 9) :
    exec (.milkSet m) s = .next (mbxDone (mbxTaken s m) m 1 0 0) :=
  congrArg Host.Outcome.next ((mbxRow_taken hready hcmd (.inr rfl) hres).trans (if_pos hbad))

theorem exec_milkSet (hready : mbxReady s m = true) (hres : mbxReserved m = false) (hcmd : mbxCmd m = 0x78)
    (hv : mbxArg0 m < 2 ^ 24) (hu : bits (mbxArg0 m) 0 9 < 273) (hd : bits (mbxArg0 m) 10 9 < 273)
    (hup : milkPort s (bits (mbxArg0 m) 9 1) (bits (mbxArg0 m) 0 9) = true)
    (hdown : milkPort s (bits (mbxArg0 m) 19 1) (bits (mbxArg0 m) 10 9) = true) :
    exec (.milkSet m) s = .next (mbxDone (chainSet (mbxTaken s m) (mbxArg0 m)) m 0 0 0) := by
  have good : ¬(2 ^ 24 ≤ mbxArg0 m ∨ 273 ≤ bits (mbxArg0 m) 0 9 ∨ 273 ≤ bits (mbxArg0 m) 10 9) := by omega
  have ports : (!(milkPort (mbxTaken s m) (bits (mbxArg0 m) 9 1) (bits (mbxArg0 m) 0 9) &&
      milkPort (mbxTaken s m) (bits (mbxArg0 m) 19 1) (bits (mbxArg0 m) 10 9))) = false := by
    obtain ⟨h, e⟩ := mbxTaken_eq s m
    have stands (en q : Nat) : milkPort { s with host := h } en q = milkPort s en q := rfl
    rw [e, stands, stands, hup, hdown]
    rfl
  refine congrArg Host.Outcome.next ((mbxRow_taken hready hcmd (.inr rfl) hres).trans ((if_neg good).trans (if_neg ?_)))
  rw [ports]
  exact Bool.false_ne_true

theorem chainSet_shows (v : Nat) : (chainSet s v).fget .UPD_MILK_up_port 0 = bits v 0 9 ∧ (chainSet s v).fget .UPD_MILK_up_en 0 = bits v 9 1 ∧
    (chainSet s v).fget .UPD_MILK_down_port 0 = bits v 10 9 ∧ (chainSet s v).fget .UPD_MILK_down_en 0 = bits v 19 1 ∧
    (chainSet s v).fget .UPD_MILK_class 0 = bits v 20 4 := by
  have fits (lsb w : Nat) : bits v lsb w % 2 ^ w = bits v lsb w := Nat.mod_eq_of_lt (bits_lt _ _ _)
  unfold chainSet
  refine ⟨?_, ?_, ?_, ?_, (fget_fset_same _ _ _ _).trans (fits _ _)⟩
  · rw [fget_fset_ne (by decide), fget_fset_ne (by decide), fget_fset_ne (by decide), fget_fset_ne (by decide), fget_fset_same]
    exact fits _ _
  · rw [fget_fset_ne (by decide), fget_fset_ne (by decide), fget_fset_ne (by decide), fget_fset_same]
    exact fits _ _
  · rw [fget_fset_ne (by decide), fget_fset_ne (by decide), fget_fset_same]
    exact fits _ _
  · rw [fget_fset_ne (by decide), fget_fset_same]
    exact fits _ _

theorem chainSet_stands (v : Nat) : RspStands s (chainSet s v) := by
  have milk : Within (Part.bit (.reg .UPD_MILK)) (maskBut (.rind :: rspParts)) := .of_beq (by decide +kernel)
  exact .of_kept (Kept.field _ _ _ (Kept.field _ _ _ (Kept.field _ _ _ (Kept.field _ _ _ (Kept.field _ _ _ (.refl _ _) milk) milk) milk)
    milk) milk)

end

end Sys2Proof.Machine

open Sys2Proof Sys2Proof.Machine

/-- Settles O49: each request is taken, its effect written out, and answered at once or once its log entry is written. -/
theorem ownersAndTheChainAreSet : Obligations.OwnersAndTheChainAreSet := by
  refine fun s m hready hres => ⟨fun hcmd => ⟨fun hc => ?_, fun hc => ?_⟩, fun hcmd => ⟨fun he => ?_, fun he hd hl => ?_⟩,
    fun hcmd => ⟨fun hbad => ?_, fun hv hu hdn hup hdown => ?_⟩⟩
  · refine ⟨_, (exec_ownerSet hready hres hcmd).trans (congrArg Host.Outcome.next (if_neg (not_not_intro hc))), ?_, ?_, ?_, mbxWait_busy _ _ _⟩
    · exact (mbxWait_fget (by decide) _ _).trans ownerTaken_shows.1
    · exact (mbxWait_fget (by decide) _ _).trans ownerTaken_shows.2
    · obtain ⟨h, e⟩ := mbxTaken_eq s m
      have taken : (mbxTaken s m).images = s.images := by rw [e]
      rw [mbxWait_images, ownerTaken_nonces, taken]
  · refine ⟨_, (exec_ownerSet hready hres hcmd).trans (congrArg Host.Outcome.next (if_pos hc)), mbxDone_replied (mbxTaken_stands s m) hready, ?_⟩
    exact (mbxDone_fget (by decide) (by decide) 0).trans
      ((mbxTaken_kept s m).changesOnly (.reg .UPD_STATUS) (by decide) .UPD_STATUS_owner_lock 0 rfl)
  · refine ⟨_, exec_ownerEnroll_refused hready hres hcmd he, mbxDone_replied (mbxTaken_stands s m) hready, mbxDone_otp.trans ?_⟩
    obtain ⟨h, e⟩ := mbxTaken_eq s m
    rw [e]
  · have programmed : (ownerProgrammed (mbxTaken s m) m).rind.otp = s.rind.otp ||| (Config.sha384 m.data).toNat * 2 ^ 4864 := by
      obtain ⟨h, e⟩ := mbxTaken_eq s m
      rw [e, ownerProgrammed_otp hl]
    have waits := (mbxWait_otp (ownerProgrammed (mbxTaken s m) m) m (.logWrite 0 0 0)).trans programmed
    refine ⟨_, exec_ownerEnroll hready hres hcmd he hd hl, waits, ?_, mbxWait_busy _ _ _⟩
    rw [waits]
    exact bitsKept_or _ _
  · exact ⟨_, exec_milkSet_refused hready hres hcmd hbad, mbxDone_replied (mbxTaken_stands s m) hready⟩
  · obtain ⟨upPort, upEn, downPort, downEn, cls⟩ := chainSet_shows (s := mbxTaken s m) (mbxArg0 m)
    refine ⟨_, exec_milkSet hready hres hcmd hv hu hdn hup hdown,
      mbxDone_replied ((mbxTaken_stands s m).trans (chainSet_stands _)) hready, ?_, ?_, ?_, ?_, ?_⟩
    · exact (mbxDone_fget (by decide) (by decide) 0).trans upPort
    · exact (mbxDone_fget (by decide) (by decide) 0).trans upEn
    · exact (mbxDone_fget (by decide) (by decide) 0).trans downPort
    · exact (mbxDone_fget (by decide) (by decide) 0).trans downEn
    · exact (mbxDone_fget (by decide) (by decide) 0).trans cls

end

section
/-! SUPPORT. The image commands on both paths: how they are taken and answered, and what they read of the slots (R343 to R346). -/

namespace Sys2Proof.Machine

-- A proof that evaluates in the kernel waits for every declaration before it, and holds a thread while it waits.
set_option Elab.async false

section
variable {s t u : State} {w : Work} {m : MbxReq} {via : ImgPath}

/-! ### What a completion is read of -/

/-- What the completion of a set's command is read of stands, and what had left the device has left it still. -/
structure CplStands (s u : State) (set : Nat) : Prop where
  regs : ∀ f i, Part.reg f.reg ∈ answerParts → u.fget f i = s.fget f i
  ring : u.ring set 1 = s.ring set 1
  master : u.host.busMaster = s.host.busMaster
  cpls : u.host.cpls = s.host.cpls
  time : u.time = s.time
  count : u.cget .cplWritten set = s.cget .cplWritten set
  out : s.out <+: u.out

theorem CplStands.trans {set : Nat} (h : CplStands s u set) (k : CplStands u t set) : CplStands s t set :=
  ⟨fun f i hf => (k.regs f i hf).trans (h.regs f i hf), k.ring.trans h.ring, k.master.trans h.master, k.cpls.trans h.cpls,
    k.time.trans h.time, k.count.trans h.count, h.out.trans k.out⟩

theorem CplStands.of_kept (k : Kept (maskBut (answerParts.erase .out)) s u) (set : Nat) : CplStands s u set := by
  have host : u.host = s.host := k.same_of_but (p := .host) (by decide)
  refine ⟨fun f i hf => ?_, by rw [State.ring, host, State.ring], by rw [host], by rw [host],
    k.same_of_but (p := .time) (by decide), k.same_of_but (p := .ctr .cplWritten) (by decide) _, k.out⟩
  have hf : Part.reg f.reg ∈ answerParts.erase .out := (List.mem_erase_of_ne (by simp)).2 hf
  exact k.same_of_but hf f i rfl

theorem Answered.of_stands {status reason version extra : Nat} (h : Answered u t w status reason version extra) (k : CplStands s u w.set) :
    Answered s t w status reason version extra := by
  have field (f : Fld) (hf : .reg f.reg ∈ answerParts) (i : Nat) : u.fget f i = s.fget f i := k.regs f i hf
  have size : ringSize u w.set 1 = ringSize s w.set 1 := congrArg (2 ^ ·) (field _ (by decide) _)
  have runs : ringRuns u w.set 1 = ringRuns s w.set 1 := by
    simp only [ringRuns, ringOn, setOwner, State.fbit, k.ring, k.master, field .SET_CTL_set_en (by decide), field .RING_CTL_en (by decide),
      field .RING_CTL_stopped (by decide), field .RSET_OWNER_owner (by decide)]
  have full : ringFull u w.set 1 = ringFull s w.set 1 := by simp only [ringFull, k.ring, size]
  have stamp : u.stamp32 = s.stamp32 := by simp only [State.stamp32, State.devNs, k.time]
  rw [Answered, runs, full, k.cpls, k.count, field .RING_BASE_addr (by decide), k.ring, size, stamp] at h
  intro hruns room none kept loud
  obtain ⟨count, written⟩ := h hruns room none kept loud
  obtain ⟨l, hl⟩ := k.out
  refine ⟨count, List.mem_of_mem_drop (i := l.length) ?_⟩
  rwa [List.drop_drop, ← List.length_append, hl]

/-! ### A command is taken (R346) -/

/-- The state in which an image command goes on to its effect: its completion is owed, or its request in execution. -/
def imgStart (s : State) (via : ImgPath) : State :=
  match via with
  | .cmd set index => match workOf s set 0 index with
    | some w => workSet s { w with stage := .owed }
    | none => s
  | .mbx m => mbxWait (mbxTaken s m) m .chunk

theorem imgRow_taken {op code : Nat} {f : State → State} (h : ImgTaken s via op code) : imgRow op code via f s = f (imgStart s via) := by
  cases via with
  | cmd set index =>
    obtain ⟨⟨w, hw⟩, hl, hr⟩ := h
    simp only [imgRow, imgStart, hw, workOf_of_cmdWork hw, hl, hr, Bool.or_self, Bool.false_eq_true, if_false]
  | mbx m =>
    obtain ⟨hready, hcmd, hres, -, hrec⟩ := h
    exact mbxRow_taken (f := fun s => f (mbxWait s m .chunk)) hready hcmd hrec hres

/-- What an image command reads besides its path stands. -/
structure ImgSame (s u : State) : Prop where
  images : u.images = s.images
  otp : u.rind.otp = s.rind.otp
  now : u.now = s.now
  regs : ∀ f i, f ≠ .RIND_STATUS_mbx_busy → u.fget f i = s.fget f i

theorem imgStart_same (s : State) (via : ImgPath) : ImgSame s (imgStart s via) := by
  cases via with
  | cmd set index =>
    unfold imgStart
    dsimp only
    split
    · exact ⟨rfl, rfl, rfl, fun _ _ _ => rfl⟩
    · exact ⟨rfl, rfl, rfl, fun _ _ _ => rfl⟩
  | mbx m =>
    obtain ⟨h, e⟩ := mbxTaken_eq s m
    show ImgSame s (mbxWait (mbxTaken s m) m .chunk)
    rw [e]
    exact ⟨rfl, rfl, rfl, fun f i hf => mbxWait_fget hf _ _⟩

/-! ### A command is answered -/

/-- What an image command's answer is read of stands: of its path, the completion or the response, and its work or its request. -/
def ImgStands (s u : State) (via : ImgPath) : Prop :=
  match via with
  | .cmd set index => ∀ w, workOf s set 0 index = some w → workOf u set 0 index = some { w with stage := .owed } ∧ CplStands s u set
  | .mbx m => RspStands s u ∧ u.rind.mbx = some (mbxRunOf m .chunk)

theorem imgStart_stands (s : State) (via : ImgPath) : ImgStands s (imgStart s via) via := by
  cases via with
  | cmd set index =>
    intro w hw
    have start : imgStart s (.cmd set index) = workSet s { w with stage := .owed } := by simp only [imgStart, hw]
    rw [start]
    exact ⟨workOf_workSet hw rfl rfl rfl, fun _ _ _ => rfl, rfl, rfl, rfl, rfl, rfl, List.prefix_refl _⟩
  | mbx m => exact ⟨(mbxTaken_stands s m).trans (mbxWait_stands _ _ _), rfl⟩

/-- The parts that answers of both paths are read of. -/
def imgParts : List Part := .rind :: answerParts.erase .out

theorem ImgStands.of_kept (h : ImgStands s u via) (k : Kept (maskBut imgParts) u t) : ImgStands s t via := by
  have host : t.host = u.host := k.same_of_but (p := .host) (by decide)
  have rind : t.rind = u.rind := k.same_of_but (p := .rind) (by decide)
  cases via with
  | cmd set index =>
    intro w hw
    obtain ⟨work, stands⟩ := h w hw
    refine ⟨?_, stands.trans (.of_kept (k.mono (.of_beq (by decide +kernel))) set)⟩
    rw [← work, workOf, host, workOf]
  | mbx m =>
    obtain ⟨stands, run⟩ := h
    exact ⟨stands.trans (.of_kept (k.mono (.of_beq (by decide +kernel)))), by rw [rind]; exact run⟩

/-- Answers as `ImgAnswered` says. -/
theorem imgAnswer_answered {op code cmd mbx r0 : Nat} (h : ImgTaken s via op code) (k : ImgStands s u via) :
    ImgAnswered s (imgAnswer u (pathSrc via) cmd mbx r0) via cmd mbx r0 := by
  cases via with
  | cmd set index =>
    intro w hw
    obtain ⟨work, stands⟩ := k w hw
    have place : w.set = set := by
      obtain ⟨⟨v, hv⟩, -⟩ := h
      have same : v = w := Option.some.inj ((workOf_of_cmdWork hv).symm.trans hw)
      exact same ▸ (cmdWork_place hv).1
    have e : imgAnswer u (pathSrc (.cmd set index)) cmd mbx r0 = cmdComplete u { w with stage := .owed } cmd 0 0 (r0 * 2 ^ 128) := by
      simp only [imgAnswer, pathSrc, work]
    have answered : Answered u (cmdComplete u { w with stage := .owed } cmd 0 0 (r0 * 2 ^ 128)) { w with stage := .owed } cmd 0 0
      (r0 * 2 ^ 128) := cmdComplete_answered
    rw [e]
    exact answered.of_stands (by rw [place]; exact stands)
  | mbx m =>
    obtain ⟨hready, -⟩ := h
    obtain ⟨stands, run⟩ := k
    have e : imgAnswer u (pathSrc (.mbx m)) cmd mbx r0 = mbxDone u m mbx r0 0 := mbxFinish_of_run run
    rw [e]
    exact mbxDone_replied stands hready

theorem imgAnswer_images (src : ChunkSrc) (cmd mbx r0 : Nat) : (imgAnswer s src cmd mbx r0).images = s.images :=
  (imgAnswer_kept (fr := maskBut [.images]) _ _ _ _ (.of_beq (by decide +kernel)) (.refl _ _)).same_of_but (p := .images) (by decide)

/-! ### What is read of the slots -/

theorem slotState_of_images (h : u.images = s.images) (n : Nat) : slotState u n = slotState s n := by
  have only (z : State) : slotState z n = slotState { State.reset with images := z.images } n := rfl
  rw [only u, only s, h]

theorem inactiveSlot_of_images (h : u.images = s.images) : inactiveSlot u = inactiveSlot s := by
  have only (z : State) : inactiveSlot z = inactiveSlot { State.reset with images := z.images } := rfl
  rw [only u, only s, h]

theorem marksOf_of_images (h : u.images = s.images) (n : Nat) : marksOf u n = marksOf s n := by rw [marksOf, h, marksOf]

theorem chunkBytes_of_images (h : u.images = s.images) (n k : Nat) : chunkBytes u n k = chunkBytes s n k := by rw [chunkBytes, h, chunkBytes]

theorem slotDigest_of_images (h : u.images = s.images) (n : Nat) : slotDigest u n = slotDigest s n := by rw [slotDigest, h, slotDigest]

theorem marked_of_images (h : u.images = s.images) : marked u = marked s := by
  rw [marked, inactiveSlot_of_images h, marksOf_of_images h, marked]

/-- The fields that refusal states are read of. -/
def refusalFlds : List Fld :=
  [.UPD_STATUS_owner_lock, .RAIL_margin_low, .THERMAL_throttle_point, .THERMAL_tj_q2, .HIF_STATUS_drain_declared, .RIND_STATUS_mode]

theorem refusalOf_of_fget (h : ∀ f, f ∈ refusalFlds → u.fget f 0 = s.fget f 0) (milk : Bool) : refusalOf u milk = refusalOf s milk := by
  have field (f : Fld) (hf : f ∈ refusalFlds) : u.fget f 0 = s.fget f 0 := h f hf
  rw [refusalOf, refusalOf, State.fbit, State.fbit, State.fbit, field .UPD_STATUS_owner_lock (by decide), field .RAIL_margin_low (by decide),
    field .THERMAL_throttle_point (by decide), field .THERMAL_tj_q2 (by decide), field .HIF_STATUS_drain_declared (by decide),
    field .RIND_STATUS_mode (by decide)]
  rfl

theorem ImgSame.refusalOf (h : ImgSame s u) (milk : Bool) : refusalOf u milk = refusalOf s milk :=
  refusalOf_of_fget (fun f hf => h.regs f 0 ((by decide : ∀ f ∈ refusalFlds, f ≠ .RIND_STATUS_mbx_busy) f hf)) milk

theorem ImgSame.openCheck (h : ImgSame s u) (milk : Bool) (b : List Byte) : openCheck u milk b = openCheck s milk b := by
  have otp (lsb w : Nat) : otpAt u lsb w = otpAt s lsb w := congrArg (bits · lsb w) h.otp
  have signed : imageSigned u b = imageSigned s b := by rw [imageSigned, imageSigned, sigOk_congr h.otp, otp, otp]
  have fused : fusedSvn u = fusedSvn s := by simp only [fusedSvn, otp]
  have busy : updBusy u = updBusy s := by rw [updBusy, updBusy, h.images]
  simp only [Machine.openCheck, h.refusalOf, signed, fused, busy, inactiveSlot_of_images h.images, slotState_of_images h.images,
    slotDigest_of_images h.images, h.regs .UPD_STATUS_owner 0 (by decide)]

/-! ### A chunk arrives (R343, R344) -/

/-- What arrives puts off the next NEED. -/
def chunkNoted (s : State) : State := { s with images := { s.images with needAt := some s.now } }

section
variable {src : ChunkSrc} {k : Nat} {b session : List Byte}

theorem chunkIn_homeless (hsrc : src ≠ .milk) (hk : k ≠ 0) (h : slotState s (inactiveSlot s) = 0) :
    chunkIn s src k b session = imgAnswer (chunkNoted s) src 6 10 0 := by
  have noted : slotState (chunkNoted s) (inactiveSlot s) = 0 := h
  exact (if_neg hk).trans ((if_pos noted).trans (if_neg hsrc))

theorem chunkIn_marked (hsrc : src ≠ .milk) (hk : k ≠ 0) (h : slotState s (inactiveSlot s) ≠ 0)
    (hm : (marksOf s (inactiveSlot s)).contains k = true) : chunkIn s src k b session = imgAnswer (chunkNoted s) src 0 0 (marked s) := by
  have noted : slotState (chunkNoted s) (inactiveSlot s) ≠ 0 := h
  exact (if_neg hk).trans ((if_neg noted).trans ((if_pos hm).trans (if_neg hsrc)))

theorem chunkIn_wrong (hk : k ≠ 0) (h : slotState s (inactiveSlot s) ≠ 0)
    (hm : (marksOf s (inactiveSlot s)).contains k = false) (hin : k < imgChunks (chunkBytes s (inactiveSlot s) 0))
    (hd : digestIs b (chunkDigest (chunkBytes s (inactiveSlot s) 0) k) = false) :
    chunkIn s src k b session = imgAnswer (imgCount (chunkNoted s) 0) src 1 1 (marked s) := by
  have noted : slotState (chunkNoted s) (inactiveSlot s) ≠ 0 := h
  refine (if_neg hk).trans ((if_neg noted).trans ((if_neg ?_).trans ((if_neg (Nat.not_le.2 hin)).trans (if_pos ?_))))
  · exact fun e => Bool.false_ne_true (hm.symm.trans e)
  · exact (congrArg Bool.not hd).trans rfl

theorem chunkIn_waits (hsrc : src ≠ .milk) (hk : k ≠ 0) (h : slotState s (inactiveSlot s) ≠ 0)
    (hm : (marksOf s (inactiveSlot s)).contains k = false) (hin : k < imgChunks (chunkBytes s (inactiveSlot s) 0))
    (hd : digestIs b (chunkDigest (chunkBytes s (inactiveSlot s) 0) k) = true) (hr : refusalOf s false = 0) :
    chunkIn s src k b session = chunkQueue (chunkNoted s) src k b := by
  have noted : slotState (chunkNoted s) (inactiveSlot s) ≠ 0 := h
  have host : decide (src = .milk) = false := decide_eq_false hsrc
  refine (if_neg hk).trans ((if_neg noted).trans ((if_neg ?_).trans ((if_neg (Nat.not_le.2 hin)).trans ((if_neg ?_).trans
    ((if_neg ?_).trans ?_)))))
  · exact fun e => Bool.false_ne_true (hm.symm.trans e)
  · rw [Bool.not_eq_true]
    exact congrArg Bool.not hd
  · rw [host, bne_iff_ne]
    exact not_not_intro hr
  · rw [host]
    rfl

theorem imgCount_counts (i : Nat) : tget 0 (imgCount s i).images.counts (i, 0) = (tget 0 s.images.counts (i, 0) + 1) % 2 ^ 32 :=
  tget_tset_same 0 s.images.counts (i, 0) _

theorem chunkNoted_counts : (chunkNoted s).images.counts = s.images.counts := rfl

/-- A chunk 0 that passes the rows of R343: its session is taken up or opens, and it is done at once or waits for its write. -/
def chunkTakes (s : State) (src : ChunkSrc) (b : List Byte) : State :=
  let n := inactiveSlot s
  let z := if slotDigest s n = some (imageDigest b) then takeSession s (srcOwner src) else sessionOpen s b (srcOwner src)
  let z := if (marksOf z n).contains 0 then z else { z with images := { z.images with chunks := tset [] z.images.chunks (n, 0) b } }
  let z := if decide (src = .milk) then needFrame z else z
  updShow (if (marksOf z n).contains 0 then milkOffer (chunkDone z src 0) else chunkQueue z src 0 b)

theorem chunkIn_zero : chunkIn s src 0 b session =
    let c := openCheck (chunkNoted s) (decide (src = .milk)) b
    if c != 0 then chunkRefuse (chunkNoted s) src c session else chunkTakes (chunkNoted s) src b := rfl

theorem chunkIn_refused (hsrc : src ≠ .milk) (hr : refusalOf s false ≠ 0) :
    chunkIn s src 0 b session = imgAnswer (chunkNoted s) src 6 10 (marked s) := by
  have check : openCheck (chunkNoted s) (decide (src = .milk)) b = 1 := by
    rw [decide_eq_false hsrc]
    exact if_pos (bne_iff_ne.2 hr)
  rw [chunkIn_zero, check]
  exact if_neg hsrc

/-- A session that opens marks no chunk yet, holds the image's digest and has its sender as owner. -/
theorem sessionOpen_marks (owner : Nat) : marksOf (sessionOpen (chunkNoted s) b owner) (inactiveSlot s) = [] :=
  tget_tset_same [] s.images.marks (inactiveSlot s, 0) []

theorem sessionOpen_digest (owner : Nat) : slotDigest (sessionOpen (chunkNoted s) b owner) (inactiveSlot s) = some (imageDigest b) :=
  tget_tset_same none (slotErase (chunkNoted s) (inactiveSlot s)).images.digest (inactiveSlot s, 0) (some (imageDigest b))

theorem sessionOpen_owner (owner : Nat) : (sessionOpen s b owner).fget .UPD_STATUS_owner 0 = owner % 2 ^ 2 := fget_fset_same _ _ _ _

/-- The bytes of a slot's chunk 0 are held. -/
def chunkHeld (s : State) (n : Nat) (b : List Byte) : State :=
  { s with images := { s.images with chunks := tset [] s.images.chunks (n, 0) b } }

theorem chunkHeld_fget (n : Nat) (f : Fld) (i : Nat) : (chunkHeld s n b).fget f i = s.fget f i := rfl

theorem chunkQueue_fget (f : Fld) (i : Nat) : (chunkQueue s src k b).fget f i = s.fget f i := rfl

/-- A session of another image opens, and its chunk 0 waits for its write. -/
def chunkOpened (s : State) (src : ChunkSrc) (b : List Byte) : State :=
  updShow (chunkQueue (chunkHeld (sessionOpen (chunkNoted s) b 1) (inactiveSlot s) b) src 0 b)

theorem chunkIn_opens (hsrc : src ≠ .milk) (hc : openCheck s false b = 0) (hd : slotDigest s (inactiveSlot s) ≠ some (imageDigest b)) :
    chunkIn s src 0 b session = chunkOpened s src b := by
  have host : decide (src = .milk) = false := decide_eq_false hsrc
  have check : openCheck (chunkNoted s) (decide (src = .milk)) b = 0 := by
    rw [host]
    exact hc
  have other : slotDigest (chunkNoted s) (inactiveSlot s) ≠ some (imageDigest b) := hd
  have owner : srcOwner src = 1 := if_neg hsrc
  have slot : inactiveSlot (chunkNoted s) = inactiveSlot s := rfl
  have unmarked : (marksOf (sessionOpen (chunkNoted s) b 1) (inactiveSlot s)).contains 0 = false := by
    rw [sessionOpen_marks]
    rfl
  rw [chunkIn_zero, check]
  show chunkTakes (chunkNoted s) src b = _
  rw [chunkTakes, slot, if_neg other, owner]
  dsimp only
  rw [unmarked, if_neg Bool.false_ne_true, host, if_neg Bool.false_ne_true]
  exact congrArg updShow (if_neg (by rw [← Bool.not_eq_true] at unmarked; exact unmarked))

theorem chunkOpened_images : (chunkOpened s src b).images = { (sessionOpen (chunkNoted s) b 1).images with
    chunks := tset [] (sessionOpen (chunkNoted s) b 1).images.chunks (inactiveSlot s, 0) b
    jobs := s.images.jobs ++ [⟨0, b, src, false⟩] } := (updShow_same (p := .images) (by decide) : (chunkOpened s src b).images = _)

theorem chunkOpened_owner : (chunkOpened s src b).fget .UPD_STATUS_owner 0 = 1 :=
  (updShow_other (by decide) 0).trans ((chunkQueue_fget _ _).trans ((chunkHeld_fget _ _ _).trans (sessionOpen_owner 1)))

end

/-! ### The rows -/

theorem pathSrc_ne_milk (via : ImgPath) : pathSrc via ≠ .milk := by cases via <;> exact fun h => ChunkSrc.noConfusion h

theorem exec_imgChunk (h : ImgTaken s via 0x30 0x70) :
    exec (.imgChunk via) s = .next (chunkIn (imgStart s via) (pathSrc via) (chunkOf s via).1 (chunkOf s via).2 []) := by
  refine congrArg Host.Outcome.next ?_
  cases via with
  | cmd set index =>
    refine (imgRow_taken h).trans ?_
    obtain ⟨⟨w, hw⟩, -⟩ := h
    have found := workOf_of_cmdWork hw
    obtain ⟨work, -⟩ := imgStart_stands s (.cmd set index) w found
    simp only [work, chunkOf, found, pathSrc]
  | mbx m =>
    have ⟨_, _, _, data, _⟩ := h
    refine (imgRow_taken h).trans ?_
    rw [data]
    rfl

/-- The state in which an image command answers, when it only changed the image state or UPD_STATUS. -/
theorem imgAnswer_after {op code cmd mbx r0 : Nat} (h : ImgTaken s via op code) (k : Kept (maskBut imgParts) (imgStart s via) u) :
    ImgAnswered s (imgAnswer u (pathSrc via) cmd mbx r0) via cmd mbx r0 := imgAnswer_answered h ((imgStart_stands s via).of_kept k)

theorem exec_imgAbort (h : ImgTaken s via 0x32 0x72) : exec (.imgAbort via) s = .next
    (if updBusy s then imgEnd (imgStart s via) via 5
      else imgEnd (updShow (slotEmpty (imgStart s via) (inactiveSlot s))) via 0) := by
  have same := imgStart_same s via
  have busy : updBusy (imgStart s via) = updBusy s := by rw [updBusy, updBusy, same.images]
  refine congrArg Host.Outcome.next ((imgRow_taken h).trans ?_)
  rw [busy, inactiveSlot_of_images same.images]

theorem slotState_of_none {n : Nat} (h : slotDigest s n = none) : slotState s n = 0 := by rw [slotState, h]

theorem slotEmpty_digest (n : Nat) : slotDigest (slotEmpty s n) n = none := tget_tset_same none s.images.digest (n, 0) none

theorem slotEmpty_owner (n : Nat) : (slotEmpty s n).fget .UPD_STATUS_owner 0 = 0 := (fget_fset_same _ _ _ _).trans (Nat.zero_mod _)

theorem updShow_images : (updShow s).images = s.images := updShow_same (p := .images) (by decide)

theorem bootNow_of_images (h : u.images = s.images) : bootNow u = bootNow s := by
  have only (z : State) : bootNow z = bootNow { State.reset with images := z.images } := rfl
  rw [only u, only s, h]

theorem imgConfirm_snd : (imgConfirm s).2 =
    if (bootNow s).trial = false ∨ s.fbit .START_STATUS_start_complete 0 = false then 6 else if s.images.writing.isSome then 5 else 0 := by
  unfold imgConfirm
  dsimp only
  split
  · rfl
  · split <;> rfl

theorem imgConfirm_same (h : ImgSame s u) : (imgConfirm u).2 = (imgConfirm s).2 := by
  rw [imgConfirm_snd, imgConfirm_snd, bootNow_of_images h.images, h.images, State.fbit, h.regs _ 0 (by decide)]
  rfl

/-- The record of a confirmation: that in force, with no trial (R353). -/
def confirmedRecord (s : State) : BootRec := { bootNow s with seq := ((bootNow s).seq + 1) % 2 ^ 32, trial := false, trialStarts := 0 }

theorem imgConfirm_writes (h : (imgConfirm s).2 = 0) : (imgConfirm s).1.images.writing = some (confirmedRecord s, .confirm) := by
  rw [imgConfirm_snd] at h
  unfold imgConfirm
  dsimp only
  split
  · next hc =>
    rw [if_pos hc] at h
    cases h
  · next hc =>
    rw [if_neg hc] at h
    split
    · next hw =>
      rw [if_pos hw] at h
      cases h
    · rfl

theorem exec_imgConfirm (h : ImgTaken s via 0x33 0x73) : exec (.imgConfirm via) s = .next
    (imgEnd (imgConfirm (imgStart s via)).1 via (imgConfirm (imgStart s via)).2) :=
  congrArg Host.Outcome.next (imgRow_taken h)

/-- What IMG_BITMAP answers with (R346). -/
def bitmapBytes (s : State) : List Byte :=
  wantedMap s ++ (List.range 8).flatMap (fun i => leBytes 4 (tget 0 s.images.counts (i, 0)))

/-- The bitmap and the counters are written to the requester's address, unless its set was reset since. -/
def bitmapWritten (s : State) (via : ImgPath) : State :=
  match via with
  | .cmd set index => match workOf s set 0 index with
    | some w => if w.lost then s else s.emit (.hostWrite (bits w.desc 64 64) (bitmapBytes s))
    | none => s
  | .mbx m => mbxData s m (bitmapBytes s)

theorem bitmapBytes_of_images (h : u.images = s.images) : bitmapBytes u = bitmapBytes s := by
  have only (z : State) : bitmapBytes z = bitmapBytes { State.reset with images := z.images } := rfl
  rw [only u, only s, h]

theorem bitmapWritten_kept (via : ImgPath) : Kept (maskBut imgParts) s (bitmapWritten s via) := by
  have written (o : Out) : Kept (maskBut imgParts) s (s.emit o) := State.emit_kept o (.of_beq (by decide +kernel)) (.refl _ _)
  cases via with
  | cmd set index =>
    unfold bitmapWritten
    dsimp only
    split
    · exact .ite (fun _ => .refl _ _) fun _ => written _
    · exact .refl _ _
  | mbx m => exact written _

theorem exec_imgBitmap (h : ImgTaken s via 0x31 0x71) :
    exec (.imgBitmap via) s = .next (imgEnd (bitmapWritten (imgStart s via) via) via 0) := by
  refine congrArg Host.Outcome.next ((imgRow_taken h).trans ?_)
  cases via with
  | cmd set index =>
    obtain ⟨⟨w, hw⟩, -⟩ := h
    obtain ⟨work, -⟩ := imgStart_stands s (.cmd set index) w (workOf_of_cmdWork hw)
    simp only [work, bitmapWritten]
    rfl
  | mbx m =>
    have ⟨_, _, _, data, _⟩ := h
    simp only [data, Bool.false_eq_true, if_false, bitmapWritten]
    rfl

end

end Sys2Proof.Machine

open Sys2Proof Sys2Proof.Machine

/-- Settles O47: on either path a command is taken, acts on the slots as they stand, and is answered. -/
theorem imageCommandsAnswerOnBothPaths : Obligations.ImageCommandsAnswerOnBothPaths := by
  refine ⟨fun s via h => ?_, fun s via h => ?_, fun s via h => ?_, fun s via h => ?_⟩
  · have same := imgStart_same s via
    have host := pathSrc_ne_milk via
    have noted : Kept (maskBut imgParts) (imgStart s via) (chunkNoted (imgStart s via)) := Kept.setImages (.refl _ _) _ (.of_beq (by decide +kernel))
    have slot := inactiveSlot_of_images same.images
    have state : slotState (imgStart s via) (inactiveSlot (imgStart s via)) = slotState s (inactiveSlot s) := by
      rw [slot, slotState_of_images same.images]
    have marks : marksOf (imgStart s via) (inactiveSlot (imgStart s via)) = marksOf s (inactiveSlot s) := by
      rw [slot, marksOf_of_images same.images]
    have zero : chunkBytes (imgStart s via) (inactiveSlot (imgStart s via)) 0 = chunkBytes s (inactiveSlot s) 0 := by
      rw [slot, chunkBytes_of_images same.images]
    have count := marked_of_images same.images
    refine ⟨fun hk h0 => ?_, fun hk h0 hm => ?_, fun hk h0 hm hin => ⟨fun hd => ?_, fun hd hr => ?_⟩, fun hk hr => ?_, fun hk hc hd => ?_⟩
    · refine ⟨_, exec_imgChunk h, ?_⟩
      rw [chunkIn_homeless host hk (state.trans h0)]
      exact imgAnswer_after h noted
    · refine ⟨_, exec_imgChunk h, ?_⟩
      rw [chunkIn_marked host hk (ne_of_eq_of_ne state h0) (by rw [marks]; exact hm), count]
      exact imgAnswer_after h noted
    · refine ⟨_, exec_imgChunk h, ?_⟩
      rw [chunkIn_wrong hk (ne_of_eq_of_ne state h0) (by rw [marks]; exact hm) (by rw [zero]; exact hin) (by rw [zero]; exact hd), count]
      refine ⟨imgAnswer_after h (imgCount_kept _ (.of_beq (by decide +kernel)) noted), ?_⟩
      rw [imgAnswer_images, imgCount_counts, chunkNoted_counts, same.images]
    · refine ⟨_, exec_imgChunk h, ?_⟩
      rw [chunkIn_waits host hk (ne_of_eq_of_ne state h0) (by rw [marks]; exact hm) (by rw [zero]; exact hin) (by rw [zero]; exact hd)
        ((same.refusalOf false).trans hr)]
      rw [← same.images]
      exact ⟨rfl, rfl⟩
    · refine ⟨_, exec_imgChunk h, ?_⟩
      rw [hk, chunkIn_refused host (ne_of_eq_of_ne (same.refusalOf false) hr), count]
      refine ⟨imgAnswer_after h noted, ?_⟩
      rw [imgAnswer_images, ← same.images]
      rfl
    · refine ⟨_, exec_imgChunk h, ?_⟩
      have opens := chunkIn_opens (session := []) host ((same.openCheck false (chunkOf s via).2).trans hc)
        (by rw [slot, slotDigest_of_images same.images]; exact hd)
      rw [hk, opens]
      refine ⟨?_, ?_, chunkOpened_owner, ?_⟩
      · rw [slotDigest, chunkOpened_images, ← slot]
        exact sessionOpen_digest 1
      · rw [marksOf, chunkOpened_images, ← slot]
        exact sessionOpen_marks (b := (chunkOf s via).2) 1
      · rw [chunkOpened_images, same.images]
  · have same := imgStart_same s via
    refine ⟨_, exec_imgBitmap h, imgAnswer_after h (bitmapWritten_kept via), fun set index w hvia hw hlost => ?_⟩
    subst hvia
    obtain ⟨work, stands⟩ := imgStart_stands s (.cmd set index) w hw
    have written : bitmapWritten (imgStart s (.cmd set index)) (.cmd set index) =
        (imgStart s (.cmd set index)).emit (.hostWrite (bits w.desc 64 64) (bitmapBytes s)) := by
      rw [← bitmapBytes_of_images same.images]
      simp only [bitmapWritten, work, hlost, Bool.false_eq_true, if_false]
    let z := (imgStart s (.cmd set index)).emit (.hostWrite (bits w.desc 64 64) (bitmapBytes s))
    have answered : Kept (maskBut []) z (imgEnd z (.cmd set index) 0) := imgAnswer_kept _ _ _ _ (.of_beq (by decide +kernel)) (.refl _ _)
    rw [written]
    exact mem_drop_of_prefix stands.out answered.out
  · have same := imgStart_same s via
    have slot := inactiveSlot_of_images same.images
    refine ⟨fun hb => ⟨_, (exec_imgAbort h).trans (congrArg Host.Outcome.next (if_pos hb)), imgAnswer_after h (.refl _ _), ?_⟩,
      fun hb => ⟨_, (exec_imgAbort h).trans (congrArg Host.Outcome.next (if_neg (by rw [hb]; decide))), imgAnswer_after h ?_, ?_, ?_⟩⟩
    · exact congrArg Images.digest ((imgAnswer_images _ _ _ _).trans same.images)
    · exact updShow_kept (.of_beq (by decide +kernel)) (slotEmpty_kept _ (.of_beq (by decide +kernel)) (.refl _ _))
    · refine slotState_of_none ?_
      rw [slotDigest, imgEnd, imgAnswer_images, updShow_images]
      exact slotEmpty_digest _
    · have answered := (imgAnswer_kept (fr := maskBut [.reg .UPD_STATUS]) (pathSrc via) 0 0 0 (.of_beq (by decide +kernel))
        (.refl _ (updShow (slotEmpty (imgStart s via) (inactiveSlot s))))).same_of_but (p := .reg .UPD_STATUS) (by decide) .UPD_STATUS_owner 0 rfl
      exact answered.trans ((updShow_other (by decide) 0).trans (slotEmpty_owner _))
  · have same := imgStart_same s via
    refine ⟨_, exec_imgConfirm h, ?_, fun h0 => ?_⟩
    · rw [← imgConfirm_same same]
      exact imgAnswer_after h (imgConfirm_kept (.of_beq (by decide +kernel)) (.refl _ _))
    · have writes := imgConfirm_writes ((imgConfirm_same same).trans h0)
      refine (congrArg Images.writing (imgAnswer_images _ _ _ _)).trans (writes.trans ?_)
      rw [confirmedRecord, bootNow_of_images same.images]

end

section
/-! SUPPORT. Sessions as they go on: chunk writes, the chunks that wait, verification and the timers (R343 to R345, R352, R353). -/

namespace Sys2Proof.Machine

-- A proof that evaluates in the kernel waits for every declaration before it, and holds a thread while it waits.
set_option Elab.async false

section
variable {s t u : State} {src : ChunkSrc} {j : ChunkJob}

/-! ### What answers and the chain leave of a session -/

/-- Only what the chain still wants or has sent moves, and counters other than readback_fail; no refusal state changes. -/
structure ChainStep (s t : State) : Prop where
  images : ∃ a b c, t.images = { s.images with wanted := a, unacked := b, counts := c } ∧ tget 0 c (1, 0) = tget 0 s.images.counts (1, 0)
  refusal : ∀ f, f ∈ refusalFlds → t.fget f 0 = s.fget f 0

theorem ChainStep.refl (s : State) : ChainStep s s := ⟨⟨s.images.wanted, s.images.unacked, s.images.counts, rfl, rfl⟩, fun _ _ => rfl⟩

theorem ChainStep.trans (h : ChainStep s t) (k : ChainStep t u) : ChainStep s u := by
  obtain ⟨⟨a, b, c, hi, hc⟩, hr⟩ := h
  obtain ⟨⟨a', b', c', ki, kc⟩, kr⟩ := k
  rw [hi] at ki kc
  exact ⟨⟨a', b', c', ki, kc.trans hc⟩, fun f hf => (kr f hf).trans (hr f hf)⟩

/-- The parts that a session and its refusal states lie in. -/
def sessionParts : List Part := [.images, .reg .UPD_STATUS, .reg .RAIL, .reg .THERMAL, .reg .HIF_STATUS, .reg .RIND_STATUS]

theorem ChainStep.of_kept (k : Kept (maskBut sessionParts) s t) : ChainStep s t := by
  have images : t.images = s.images := k.same_of_but (p := .images) (by decide)
  refine ⟨⟨s.images.wanted, s.images.unacked, s.images.counts, images, rfl⟩, fun f hf => ?_⟩
  exact k.same_of_but (p := .reg f.reg) ((by decide : ∀ f ∈ refusalFlds, Part.reg f.reg ∈ sessionParts) f hf) f 0 rfl

theorem ChainStep.refusalOf (h : ChainStep s t) (milk : Bool) : refusalOf t milk = refusalOf s milk := refusalOf_of_fget h.refusal milk

theorem imgAnswer_chain (cmd mbx r0 : Nat) : ChainStep s (imgAnswer s src cmd mbx r0) := by
  refine ⟨⟨s.images.wanted, s.images.unacked, s.images.counts, imgAnswer_images _ _ _ _, rfl⟩, fun f hf => ?_⟩
  have quiet := (by decide : ∀ f ∈ refusalFlds, Part.reg f.reg ∉ [.reg .EVT_CAUSE, .reg .RIND_EVT] ∧ f ≠ .RIND_STATUS_mbx_busy) f hf
  cases src with
  | cmd set index =>
    unfold imgAnswer
    dsimp only
    split
    · exact (cmdComplete_kept (fr := maskBut sessionParts) _ _ _ _ _ (.of_beq (by decide +kernel)) (.refl _ _)).same_of_but
        (p := .reg f.reg) ((by decide : ∀ f ∈ refusalFlds, Part.reg f.reg ∈ sessionParts) f hf) f 0 rfl
    · rfl
  | mbx =>
    unfold imgAnswer mbxFinish
    dsimp only
    split
    · exact (mbxEnd_fget quiet.1 0).trans (fget_fset_ne quiet.2 _ _ _)
    · rfl
  | milk => rfl

theorem milkFrame_chain (q op piece chunk reason : Nat) (session data : List Byte) :
    ChainStep s (milkFrame s q op piece chunk reason session data) :=
  .of_kept (milkFrame_kept _ _ _ _ _ _ _ (.of_beq (by decide +kernel)) (.refl _ _))

theorem imgCount_chain {i : Nat} (h : i ≠ 1) : ChainStep s (imgCount s i) :=
  ⟨⟨_, _, _, rfl, tget_tset_other 0 0 s.images.counts (i, 0) (1, 0) _ (by simpa using h.symm)⟩, fun _ _ => rfl⟩

theorem sendChunk_chain (k : Nat) : ChainStep s (sendChunk s k) :=
  .of_kept (sendChunk_kept _ (.of_beq (by decide +kernel)) (.refl _ _))

theorem milkPump_chain (n : Nat) : ChainStep s (milkPump n s) := by
  induction n generalizing s with
  | zero => exact .refl s
  | succ n ih =>
    unfold milkPump
    dsimp only
    split
    · split
      · exact .refl s
      · next k _ =>
        have sent : ChainStep s (imgCount (sendChunk s k) 3) := (sendChunk_chain k).trans (imgCount_chain (by decide))
        have listed (z : State) (a b) : ChainStep z { z with images := { z.images with wanted := a, unacked := b } } :=
          ⟨⟨a, b, z.images.counts, rfl, rfl⟩, fun _ _ => rfl⟩
        exact (sent.trans (listed _ _ _)).trans ih
    · exact .refl s

theorem milkOffer_chain : ChainStep s (milkOffer s) := by
  have wanted (a) : ChainStep s { s with images := { s.images with wanted := a } } := ⟨⟨a, s.images.unacked, s.images.counts, rfl, rfl⟩, fun _ _ => rfl⟩
  unfold milkOffer
  split
  · exact (wanted _).trans (milkPump_chain 8)
  · exact .refl s

theorem chunkDone_chain (k : Nat) : ChainStep s (chunkDone s src k) := by
  unfold chunkDone sendAck
  split
  · split
    · exact milkFrame_chain _ _ _ _ _ _ _
    · exact .refl s
  · exact imgAnswer_chain _ _ _

theorem chunkForward_chain : ChainStep s (chunkForward s j) := by
  unfold chunkForward
  dsimp only
  split
  · exact (chunkDone_chain _).trans milkOffer_chain
  · exact (chunkDone_chain _).trans (milkPump_chain 8)

theorem chunkRefuse_chain (row : Nat) (session : List Byte) : ChainStep s (chunkRefuse s src row session) := by
  unfold chunkRefuse sendRefuse
  split
  · refine (imgCount_chain (i := 6) (by decide)).trans ?_
    split
    · exact milkFrame_chain _ _ _ _ _ _ _
    · exact .refl _
  · exact imgAnswer_chain _ _ _

/-! ### The chunks that wait (R344, R345) -/

/-- Recovery mode alone refuses the Milk Run and not the host. -/
theorem refusalOf_zero (h : refusalOf s true = 0) (milk : Bool) : refusalOf s milk = 0 := by
  cases milk with
  | true => exact h
  | false =>
    unfold refusalOf at h ⊢
    split_ifs at h ⊢
    · next k _ => exact Bool.false_ne_true k
    · rfl

theorem refusalOf_ne_zero (h : refusalOf s false ≠ 0) (milk : Bool) : refusalOf s milk ≠ 0 := by
  cases milk with
  | true => exact fun e => h (refusalOf_zero e false)
  | false => exact h

/-- With no refusal state the next chunk has its turn; where one holds for every sender, none is left. -/
theorem jobsStart_cases (l : List ChunkJob) : ∃ z r, ChainStep s z ∧ jobsStart s l = { z with images := { z.images with jobs := r } } ∧
    (refusalOf s true = 0 → r = l) ∧ (refusalOf s false ≠ 0 → r = []) := by
  induction l generalizing s with
  | nil => exact ⟨s, [], .refl s, rfl, fun _ => rfl, fun _ => rfl⟩
  | cons j l ih =>
    by_cases h : refusalOf s (decide (j.src = .milk)) = 0
    · exact ⟨s, j :: l, .refl s, if_neg (by rw [h]; decide), fun _ => rfl, fun k => absurd h (refusalOf_ne_zero k _)⟩
    · have refused : ChainStep s (chunkRefuse s j.src 1 (milkSession s)) := chunkRefuse_chain _ _
      obtain ⟨z, r, step, e, _, all⟩ := ih (s := chunkRefuse s j.src 1 (milkSession s))
      exact ⟨z, r, refused.trans step, (if_pos (bne_iff_ne.2 h)).trans e, fun k => absurd (refusalOf_zero k _) h,
        fun k => all (ne_of_eq_of_ne (refused.refusalOf false) k)⟩

/-! ### A chunk's write completes -/

/-- A failed chunk is written once more. -/
def chunkAgain (s : State) (j : ChunkJob) (l : List ChunkJob) : State :=
  { s with images := { s.images with jobs := { j with retried := true } :: l } }

/-- The next chunk has its turn once one is done. -/
def chunkTurn (s : State) (l : List ChunkJob) : State := updShow (jobsStart s l)

/-- What a turn leaves of a session, and the chunks that wait then. -/
theorem chunkTurn_images (h : ChainStep s u) (l : List ChunkJob) : ∃ a b c r, (chunkTurn u l).images =
      { s.images with wanted := a, unacked := b, counts := c, jobs := r } ∧ tget 0 c (1, 0) = tget 0 s.images.counts (1, 0) ∧
    (refusalOf s true = 0 → r = l) ∧ (refusalOf s false ≠ 0 → r = []) := by
  obtain ⟨z, r, step, e, one, all⟩ := jobsStart_cases (s := u) l
  obtain ⟨⟨a, b, c, images, count⟩, _⟩ := h.trans step
  refine ⟨a, b, c, r, ?_, count, fun k => one ((h.refusalOf true).trans k), fun k => all (ne_of_eq_of_ne (h.refusalOf false) k)⟩
  rw [chunkTurn, updShow_images, e]
  show { z.images with jobs := r } = _
  rw [images]

section
variable {l : List ChunkJob} (hj : s.images.jobs = j :: l) (h0 : slotState s (inactiveSlot s) ≠ 0) (hf : jobFits s j = true)
  (hm : (marksOf s (inactiveSlot s)).contains j.chunk = false)
include hj h0 hf hm

theorem exec_chunkWriteComplete (ok : Bool) : exec (.chunkWriteComplete ok) s = .next
    (if ok then chunkTurn (chunkForward (chunkMark s j) j) l
      else if j.retried then chunkTurn (imgAnswer (imgCount s 1) j.src 8 8 (marked (imgCount s 1))) l
      else updShow (chunkAgain (imgCount s 1) j l)) := by
  simp only [exec, execChunkWriteComplete, hj, h0, hf, hm, if_false, Bool.true_eq_false, Bool.false_eq_true, chunkTurn]
  cases ok
  · simp only [Bool.false_eq_true, if_false]
    cases j.retried <;> rfl
  · rfl

end

/-! ### Verification and the timers -/

theorem exec_slotVerifyComplete (h2 : slotState s (inactiveSlot s) = 2) (hr : refusalOf s false = 0)
    (hc : s.fbit .START_STATUS_start_complete 0 = true) : exec .slotVerifyComplete s = .next
      (if slotAuth s (inactiveSlot s) then
        updShow (recoveryRecord { s with images := { s.images with verified := tset false s.images.verified (inactiveSlot s, 0) true } } (inactiveSlot s))
        else updShow ((slotEmpty s (inactiveSlot s)).fset .UPD_STATUS_last_event 0 6)) := by
  refine congrArg Host.Outcome.next (if_neg ?_)
  rw [h2, hr, hc, Bool.true_or]
  decide

theorem exec_autoConfirm {t0 : Nat} (h : s.images.confirmAt = some t0) (hle : t0 ≤ s.now) (hr : s.runs pdMgmt = true)
    (hok : (imgConfirm s).2 = 0) : exec .autoConfirm s =
      .next { (imgConfirm s).1 with images := { (imgConfirm s).1.images with confirmAt := none } } := by
  simp only [exec, execAutoConfirm, h, hr, hok, Nat.not_lt.2 hle, Bool.true_eq_false, or_self, if_false, Nat.reduceEqDiff]

theorem recoveryRecord_images (n : Nat) : ∃ x, (recoveryRecord s n).images = { s.images with writing := x } := by
  unfold recoveryRecord
  dsimp only
  split
  · exact ⟨_, rfl⟩
  · exact ⟨s.images.writing, rfl⟩

/-- A whole slot that is verified is VERIFIED. -/
theorem slotState_verified {n : Nat} {x : Option (BootRec × BootWhy)} (h : slotState s n = 2)
    (hu : u.images = { s.images with verified := tset false s.images.verified (n, 0) true, writing := x }) : slotState u n = 3 := by
  have digest : slotDigest u n = slotDigest s n := by rw [slotDigest, hu, slotDigest]
  have marks : marksOf u n = marksOf s n := by rw [marksOf, hu, marksOf]
  have bytes : chunkBytes u n 0 = chunkBytes s n 0 := by rw [chunkBytes, hu, chunkBytes]
  have verified : tget false u.images.verified (n, 0) = true := by
    rw [hu]
    exact tget_tset_same false s.images.verified (n, 0) true
  rw [slotState, digest, marks, bytes, verified]
  rw [slotState] at h
  cases hd : slotDigest s n with
  | none =>
    rw [hd] at h
    cases h
  | some d =>
    rw [hd] at h
    dsimp only at h ⊢
    split at h
    · cases h
    · next whole => exact (if_neg whole).trans (if_pos rfl)

end

end Sys2Proof.Machine

open Sys2Proof Sys2Proof.Machine

/-- Settles O48: what answers and the chain leave of a session is said once, and each row is followed to its end. -/
theorem sessionsAndSlotsGoOn : Obligations.SessionsAndSlotsGoOn := by
  refine ⟨fun s j l hj h0 hf hm => ⟨?_, fun hr => ?_, fun hr => ?_⟩, fun s h2 hr hc => ⟨fun ha => ?_, fun ha => ?_⟩, fun s h => ?_,
    fun s t0 h0 hle hrun hok => ?_⟩
  · obtain ⟨a, b, c, r, images, _, one, all⟩ := chunkTurn_images (s := chunkMark s j) chunkForward_chain l
    refine ⟨_, exec_chunkWriteComplete hj h0 hf hm true, ?_, ?_, fun k => ?_, fun k => ?_⟩
    · rw [if_pos rfl, marksOf, images]
      exact tget_tset_same [] s.images.marks (inactiveSlot s, 0) _
    · rw [if_pos rfl, chunkBytes, images]
      exact tget_tset_same [] s.images.chunks (inactiveSlot s, j.chunk) j.data
    · rw [if_pos rfl, images]
      exact one k
    · rw [if_pos rfl, images]
      exact all k
  · refine ⟨_, exec_chunkWriteComplete hj h0 hf hm false, ?_⟩
    rw [if_neg Bool.false_ne_true, hr, if_neg Bool.false_ne_true]
    dsimp only
    rw [updShow_images]
    exact ⟨rfl, rfl, imgCount_counts 1⟩
  · obtain ⟨a, b, c, r, images, count, one, all⟩ := chunkTurn_images (s := imgCount s 1) (imgAnswer_chain (src := j.src) 8 8 (marked (imgCount s 1))) l
    refine ⟨_, exec_chunkWriteComplete hj h0 hf hm false, ?_⟩
    rw [if_neg Bool.false_ne_true, hr, if_pos rfl]
    dsimp only
    rw [images]
    exact ⟨one, all, rfl, count.trans (imgCount_counts 1)⟩
  · refine ⟨_, exec_slotVerifyComplete h2 hr hc, ?_⟩
    obtain ⟨x, images⟩ := recoveryRecord_images (s := { s with images := { s.images with verified := tset false s.images.verified (inactiveSlot s, 0) true } })
      (inactiveSlot s)
    rw [if_pos ha]
    exact slotState_verified h2 (updShow_images.trans images)
  · refine ⟨_, exec_slotVerifyComplete h2 hr hc, ?_⟩
    rw [if_neg (by rw [ha]; decide)]
    refine ⟨slotState_of_none ?_, (updShow_other (by decide) 0).trans (fget_fset_same _ _ _ _),
      (updShow_other (by decide) 0).trans ((fget_fset_ne (by decide) _ _ _).trans (slotEmpty_owner _))⟩
    rw [slotDigest, updShow_images]
    exact slotEmpty_digest (inactiveSlot s)
  · by_cases owned : s.fget .UPD_STATUS_owner 0 = 0
    · exact ⟨_, congrArg Host.Outcome.next (if_neg fun k => k.1 owned), owned⟩
    · exact ⟨_, congrArg Host.Outcome.next (if_pos ⟨owned, h⟩), (fget_fset_same _ _ _ _).trans (Nat.zero_mod _)⟩
  · exact ⟨_, exec_autoConfirm h0 hle hrun hok, rfl, imgConfirm_writes hok⟩

end

section
/-! SUPPORT. Lane checkers, the frame generator and the TAP (R358 to R363, R368). -/

namespace Sys2Proof.Machine

-- A proof that evaluates in the kernel waits for every declaration before it, and holds a thread while it waits.
set_option Elab.async false

section
variable {s : State} {o l n b e : Nat}

/-! ### Lane checkers (R358) -/

/-- The live counts of a lane. -/
def laneOf (s : State) (n : Nat) : Lane := tget {} s.setup.lanes (n, 0)

/-- They are set. -/
def laneSet (s : State) (n : Nat) (x : Lane) : State := { s with setup := { s.setup with lanes := tset {} s.setup.lanes (n, 0) x } }

theorem laneOf_laneSet (x : Lane) : laneOf (laneSet s n x) n = x := tget_tset_same ({} : Lane) s.setup.lanes (n, 0) x

theorem laneAdd_eq : laneAdd s n b e = if s.fbit .LANE_TEST_lock n && decide ((laneOf s n).bits < 2 ^ 48 - 1) then
    laneSet s n { laneOf s n with bits := min ((laneOf s n).bits + b) (2 ^ 48 - 1), errs := (laneOf s n).errs + e } else s := rfl

theorem laneAdd_loss : (laneOf (laneAdd s n b e) n).loss = (laneOf s n).loss := by
  rw [laneAdd_eq]
  split
  · rw [laneOf_laneSet]
  · rfl

/-- Bits past 2^48 - 1 are not counted. -/
theorem laneAdd_full (hlock : s.fbit .LANE_TEST_lock n = true) (hbits : (laneOf s n).bits < 2 ^ 48 - 1) (hfull : 2 ^ 48 - 1 ≤ (laneOf s n).bits + b) :
    (laneOf (laneAdd s n b e) n).bits = 2 ^ 48 - 1 := by
  rw [laneAdd_eq, hlock, decide_eq_true hbits, Bool.and_self, if_pos rfl, laneOf_laneSet]
  exact Nat.min_eq_right hfull

/-- A loss is counted. -/
def laneLost (s : State) (n : Nat) : State := laneSet s n { laneOf s n with loss := ((laneOf s n).loss + 1) % 2 ^ 32 }

theorem laneLost_loss : (laneOf (laneLost s n) n).loss = ((laneOf s n).loss + 1) % 2 ^ 32 := congrArg Lane.loss (laneOf_laneSet _)

theorem laneOf_event (f : Fld) (i : Nat) : laneOf (s.event f i) n = laneOf s n := by
  have setup : (s.event f i).setup = s.setup := event_same (p := .setup) (by decide) f i
  rw [laneOf, setup, laneOf]

theorem exec_checkerLockLoss (hon : checkerOn s o l = true) (hlock : s.fbit .LANE_TEST_lock (o * 8 + l) = true) : exec (.checkerLockLoss o l b e) s =
    .next (((laneLost (laneAdd s (o * 8 + l) b e) (o * 8 + l)).fset .LANE_TEST_lock (o * 8 + l) 0).event .LANE_TEST_lock_lost (o * 8 + l)) :=
  congrArg Host.Outcome.next (if_pos (by rw [hon, hlock]; rfl))

theorem exec_checkerSaturate (hon : checkerOn s o l = true) (hlock : s.fbit .LANE_TEST_lock (o * 8 + l) = true)
    (hfull : (laneOf (laneAdd s (o * 8 + l) b e) (o * 8 + l)).bits = 2 ^ 48 - 1) : exec (.checkerSaturate o l b e) s =
    .next ((laneAdd s (o * 8 + l) b e).event .LANE_TEST_saturated (o * 8 + l)) :=
  congrArg Host.Outcome.next ((if_pos (by rw [hon, hlock]; rfl)).trans (if_pos hfull))

/-! ### The frame generator (R360 to R363) -/

/-- A generated frame leaves, as the port's loopback has it. -/
def genLeaves (s : State) (n : Nat) : State :=
  match s.fget .PORT_TEST_loopback n with
  | 3 => s.emit (.looped n (genFrame s n (s.port n).test.seq))
  | 2 => s
  | _ => s.emit (.wire n (genFrame s n (s.port n).test.seq) false)

/-- It is counted, and the next one has the next sequence number. -/
def genCounted (s : State) (n : Nat) (t : TestSt) : State :=
  let z := (s.count .txOk n).fset .PORT_CHK_gen_sent n (s.fget .PORT_CHK_gen_sent n + 1)
  z.setPort n { z.port n with test := { t with seq := (t.seq + 1) % 2 ^ 32, sent := t.sent + 1 } }

/-- What a generated frame leaves. -/
def genSent (s : State) (n : Nat) : State :=
  let z := genCounted (genLeaves s n) n (s.port n).test
  if z.fget .PORT_TEST_gen_count n = (s.port n).test.sent + 1 then z.fset .PORT_TEST_gen_en n 0 else z

theorem exec_genFrameSend (hn : n < 256) (hr : s.runs (pdOctet (n / 8)) = true) (hu : portUp s n = true) (hg : s.fbit .PORT_TEST_gen_en n = true)
    (ht : tget none s.egress.tx (n, 0) = none) (hd : genDue s n = true) : exec (.genFrameSend n) s = .next (genSent s n) := by
  refine congrArg Host.Outcome.next (if_pos ?_)
  rw [decide_eq_true hn, hr, hu, hg, ht, hd]
  rfl

theorem genLeaves_eq (s : State) (n : Nat) : ∃ out, genLeaves s n = { s with out := out } := by
  unfold genLeaves
  split
  · exact ⟨_, rfl⟩
  · exact ⟨s.out, rfl⟩
  · exact ⟨_, rfl⟩

theorem genLeaves_wire (h : s.fget .PORT_TEST_loopback n = 0) : genLeaves s n = s.emit (.wire n (genFrame s n (s.port n).test.seq) false) := by
  rw [genLeaves, h]
  rfl

section
variable {t : TestSt}

theorem genCounted_txOk : (genCounted s n t).cget .txOk n = (s.cget .txOk n + 1) % 2 ^ 48 := count_cget_same s .txOk n 1 none

theorem genCounted_fget {f : Fld} (h : f ≠ .PORT_CHK_gen_sent) (i : Nat) : (genCounted s n t).fget f i = s.fget f i := by
  have counted : (s.count .txOk n).fget f i = s.fget f i := fget_of_reg (count_reg s .txOk n 1 none) f i
  rw [← counted]
  exact fget_fset_ne h n i _

theorem genCounted_sent :
    (genCounted s n t).fget .PORT_CHK_gen_sent n = (s.fget .PORT_CHK_gen_sent n + 1) % 2 ^ Fld.PORT_CHK_gen_sent.info.width :=
  fget_fset_same (s.count .txOk n) .PORT_CHK_gen_sent n _

theorem genCounted_seq : ((genCounted s n t).port n).test.seq = (t.seq + 1) % 2 ^ 32 :=
  congrArg (fun p : PortSt => p.test.seq) (setPort_same _ n _)

theorem genCounted_out : (genCounted s n t).out = s.out := count_out s .txOk n 1 none

end

/-- But for gen_en, what shows a generated frame is what counting it leaves. -/
theorem genSent_cases (s : State) (n : Nat) : genSent s n = genCounted (genLeaves s n) n (s.port n).test ∨
    genSent s n = (genCounted (genLeaves s n) n (s.port n).test).fset .PORT_TEST_gen_en n 0 := by
  unfold genSent
  dsimp only
  split
  · exact .inr rfl
  · exact .inl rfl

theorem genSent_last (h : s.fget .PORT_TEST_gen_count n = (s.port n).test.sent + 1) : (genSent s n).fget .PORT_TEST_gen_en n = 0 := by
  obtain ⟨out, e⟩ := genLeaves_eq s n
  have count : (genCounted (genLeaves s n) n (s.port n).test).fget .PORT_TEST_gen_count n = (s.port n).test.sent + 1 := by
    rw [genCounted_fget (by decide), e]
    exact h
  rw [genSent, if_pos count, fget_fset_same]
  exact Nat.zero_mod _

end

end Sys2Proof.Machine

open Sys2Proof Sys2Proof.Machine

/-- Settles O46: a checker's row, a generated frame and a TAP instruction are each followed to their end. -/
theorem linkTestsAndTheTap : Obligations.LinkTestsAndTheTap := by
  refine ⟨fun s o l hon => ⟨?_, fun b e hlock => ⟨?_, fun hb hf => ?_⟩⟩, fun s n hn hr hu hg ht hd => ?_, fun s => ?_, fun s => ?_⟩
  · exact ⟨_, congrArg Host.Outcome.next (if_pos hon), fget_fset_same _ _ _ _,
      (Kept.field (fr := partsMask [.reg .LANE_TEST]) _ _ _ (.refl _ _) (.of_beq (by decide +kernel))).changesOnly⟩
  · refine ⟨_, exec_checkerLockLoss hon hlock, ?_, event_fget_same (by decide) rfl _, ?_⟩
    · exact (event_fget_ne (by decide) (by decide) _ _).trans ((fget_fset_same _ _ _ _).trans (Nat.zero_mod _))
    · exact (congrArg Lane.loss (laneOf_event _ _)).trans (laneLost_loss.trans (by rw [laneAdd_loss]; rfl))
  · have full := laneAdd_full (e := e) hlock hb hf
    exact ⟨_, exec_checkerSaturate hon hlock full, event_fget_same (by decide) rfl _, (congrArg Lane.bits (laneOf_event _ _)).trans full⟩
  · obtain ⟨out, e⟩ := genLeaves_eq s n
    have txOk : (genCounted (genLeaves s n) n (s.port n).test).cget .txOk n = (s.cget .txOk n + 1) % 2 ^ 48 := by
      rw [genCounted_txOk, e]
      rfl
    have sent : (genCounted (genLeaves s n) n (s.port n).test).fget .PORT_CHK_gen_sent n =
        (s.fget .PORT_CHK_gen_sent n + 1) % 2 ^ Fld.PORT_CHK_gen_sent.info.width := by
      rw [genCounted_sent, e]
      rfl
    have wire (h : s.fget .PORT_TEST_loopback n = 0) : (genCounted (genLeaves s n) n (s.port n).test).out =
        s.out ++ [.wire n (genFrame s n (s.port n).test.seq) false] := by
      rw [genCounted_out, genLeaves_wire h]
      rfl
    refine ⟨_, exec_genFrameSend hn hr hu hg ht hd, ?_, ?_, ?_, fun h => ?_, genSent_last⟩
    · obtain k | k := genSent_cases s n <;> rw [k]
      · exact txOk
      · exact (cget_fset _ _ _ _ _ _).trans txOk
    · obtain k | k := genSent_cases s n <;> rw [k]
      · exact sent
      · exact (fget_fset_ne (by decide) _ _ _).trans sent
    · obtain k | k := genSent_cases s n <;> rw [k]
      · exact genCounted_seq
      · exact genCounted_seq
    · obtain k | k := genSent_cases s n <;> rw [k]
      · exact wire h
      · exact wire h
  · refine ⟨⟨_, rfl, rfl, ?_⟩, ⟨_, rfl, rfl, rfl⟩, ⟨_, rfl, rfl, rfl⟩, ⟨_, rfl, rfl, rfl⟩, ⟨_, rfl, rfl, rfl⟩, ⟨_, rfl, rfl, rfl⟩,
      ⟨_, rfl, rfl, rfl⟩, ⟨_, rfl, rfl⟩⟩
    rfl
  · exact ⟨_, rfl, rfl, rfl, rfl⟩

end

section
/-! SUPPORT. What a reset source of level A or B keeps and loses as it asserts, and how one is released (R319 to R321, R328, R334,
R335, R383). -/

namespace Sys2Proof.Machine

-- A proof that evaluates in the kernel waits for every declaration before it, and holds a thread while it waits.
set_option Elab.async false

section
variable {s t u : State} {r : ResetSource} {keep : List Nat} {f : Fld} {l : List ResetSource} {b : Bool}

/-! ### The state that a reset starts from -/

/-- The reset state with what no reset clears, before the Rind shows anything in it. -/
def resetBase (s0 : State) (keep : List Nat) : State :=
  let s := bootCut s0
  let z := State.reset
  let r := { z.rind with fuses := s.rind.fuses, otp := s.rind.otp, sources := [], hizBall := s.rind.hizBall, tripLow := s.rind.tripLow,
                         marginPin := s.rind.marginPin, railLow := s.rind.railLow, sealedKey := s.rind.sealedKey }
  { z with
    pending := s.pending, now := s.now, draws := s.draws, out := s.out,
    reg := s.reg.filter (fun e => keep.contains e.1.1 || ownerFlds.contains e.1.1),
    fabric := { z.fabric with epoch := s.fabric.epoch },
    host := { z.host with perst := s.host.perst },
    rind := r, images := flashKept s, setup := { z.setup with rstLow := s.setup.rstLow, tap := s.setup.tap } }

/-- The fields that the Rind shows in it. -/
def resetShown : List Fld :=
  [.RAIL_margin_low, .RIND_STATUS_mode, .START_STATUS_fail_threshold, .RIND_STATUS_wdog_ms, .THERMAL_throttle_point]

theorem resetKeep_eq (s : State) (keep : List Nat) : resetKeep s keep =
    updShow (fuseSense ((if (resetBase s keep).rind.marginPin || (resetBase s keep).rind.railLow then
      (resetBase s keep).fset .RAIL_margin_low 0 1 else resetBase s keep).fset .RIND_STATUS_mode 0 3)) := rfl

/-- Two states differ in registers only. -/
def RegOnly (s t : State) : Prop := ∃ x, t = { s with reg := x }

theorem RegOnly.refl (s : State) : RegOnly s s := ⟨s.reg, rfl⟩

theorem RegOnly.trans (h : RegOnly s t) (k : RegOnly t u) : RegOnly s u := by
  obtain ⟨x, rfl⟩ := h
  obtain ⟨y, rfl⟩ := k
  exact ⟨y, rfl⟩

theorem RegOnly.fset (h : RegOnly s t) (f : Fld) (i v : Nat) : RegOnly s (t.fset f i v) := h.trans ⟨_, rfl⟩

theorem RegOnly.updShow (h : RegOnly s t) : RegOnly s (updShow t) := by
  unfold Machine.updShow
  exact ((((((((((h.fset _ _ _).fset _ _ _).fset _ _ _).fset _ _ _).fset _ _ _).fset _ _ _).fset _ _ _).fset _ _ _).fset _ _ _).fset
    _ _ _).fset _ _ _

theorem RegOnly.fuseSense (h : RegOnly s t) : RegOnly s (fuseSense t) := by
  unfold Machine.fuseSense
  exact ((h.fset _ _ _).fset _ _ _).fset _ _ _

/-- It shows registers only. -/
theorem resetKeep_reg (s : State) (keep : List Nat) : RegOnly (resetBase s keep) (resetKeep s keep) := by
  rw [resetKeep_eq]
  refine (RegOnly.fset ?_ _ _ _).fuseSense.updShow
  split
  · exact (RegOnly.refl _).fset _ _ _
  · exact .refl _

theorem fuseSense_other (h : f ∉ resetShown) (i : Nat) : (fuseSense s).fget f i = s.fget f i := by
  have apart {g : Fld} (hg : g ∈ resetShown) : f ≠ g := fun e => h (e ▸ hg)
  exact (fget_fset_ne (apart (by decide)) _ _ _).trans ((fget_fset_ne (apart (by decide)) _ _ _).trans
    (fget_fset_ne (apart (by decide)) _ _ _))

theorem resetKeep_other (h : f ∉ updShown ++ resetShown) (i : Nat) : (resetKeep s keep).fget f i = (resetBase s keep).fget f i := by
  obtain ⟨hu, hr⟩ := not_or.1 (fun k => h (List.mem_append.2 k))
  have apart {g : Fld} (hg : g ∈ resetShown) : f ≠ g := fun e => hr (e ▸ hg)
  rw [resetKeep_eq, updShow_other hu, fuseSense_other hr, fget_fset_ne (apart (by decide))]
  split
  · exact fget_fset_ne (apart (by decide)) _ _ _
  · rfl

/-- A boot record write that is cut moves the records alone. -/
theorem bootCut_stands (s : State) : (bootCut s).rind = s.rind ∧ (bootCut s).reg = s.reg ∧ (bootCut s).pending = s.pending ∧
    (bootCut s).now = s.now ∧ (bootCut s).setup = s.setup ∧ (bootCut s).images.marks = s.images.marks ∧
    (bootCut s).images.verified = s.images.verified ∧ (bootCut s).images.nonces = s.images.nonces := by
  unfold bootCut
  split
  · exact ⟨rfl, rfl, rfl, rfl, rfl, rfl, rfl, rfl⟩
  · dsimp only [State.draw]
    split
    · unfold bootPut
      dsimp only
      split
      · exact ⟨rfl, rfl, rfl, rfl, rfl, rfl, rfl, rfl⟩
      · exact ⟨rfl, rfl, rfl, rfl, rfl, rfl, rfl, rfl⟩
    · split
      · exact ⟨rfl, rfl, rfl, rfl, rfl, rfl, rfl, rfl⟩
      · exact ⟨rfl, rfl, rfl, rfl, rfl, rfl, rfl, rfl⟩

/-- A field that a reset keeps stands, any other but the flash's own takes its reset value. -/
theorem resetBase_fget (h : keep.contains f.ctorIdx = true) (i : Nat) : (resetBase s keep).fget f i = s.fget f i := by
  obtain ⟨-, reg, -⟩ := bootCut_stands s
  refine (tget_filter_other _ _ _ fun v => ?_).trans (congrArg (fun x => tget (fldReset f i) x (f.ctorIdx, i)) reg)
  show (keep.contains f.ctorIdx || _) = true
  rw [h, Bool.true_or]

theorem resetBase_lost (h : (keep.contains f.ctorIdx || ownerFlds.contains f.ctorIdx) = false) (i : Nat) :
    (resetBase s keep).fget f i = fldReset f i :=
  tget_filter_drop _ _ _ fun _ => h

/-! ### A source that asserts -/

/-- The fields that a source's level keeps. -/
def keptBy (r : ResetSource) : List Nat := if srcCold r then [] else stickyFlds

theorem keptBy_cold (h : srcCold r = true) : keptBy r = [] := if_pos h

theorem keptBy_warm (h : srcCold r = false) : keptBy r = stickyFlds := if_neg (by rw [h]; exact Bool.false_ne_true)

/-- The list of sources is set. -/
def sourced (s : State) (l : List ResetSource) : State := { s with rind := { s.rind with sources := l } }

/-- What level B keeps besides registers. -/
def warmKept (s0 s : State) : State :=
  { s with rind := { s.rind with history := s0.rind.history, compatHiz := s0.rind.compatHiz },
           images := { s.images with revert := s0.images.revert },
           setup := { s.setup with tap := s0.setup.tap } }

theorem resetB_eq (s : State) : resetB s = warmKept s (resetKeep s stickyFlds) := rfl

/-- What a source leaves, but for registers. -/
def assertedBase (s : State) (r : ResetSource) : State :=
  sourced (if srcCold r then resetBase s (keptBy r) else warmKept s (resetBase s (keptBy r))) (sourcesWith s r)

theorem assertedBase_cold (h : srcCold r = true) : assertedBase s r = sourced (resetBase s []) (sourcesWith s r) := by
  rw [assertedBase, if_pos h, keptBy_cold h]

theorem assertedBase_warm (h : srcCold r = false) :
    assertedBase s r = sourced (warmKept s (resetBase s stickyFlds)) (sourcesWith s r) := by
  rw [assertedBase, h, if_neg Bool.false_ne_true, keptBy_warm h]

theorem RegOnly.sourced (h : RegOnly s t) (l : List ResetSource) : RegOnly (sourced s l) (sourced t l) := by
  obtain ⟨x, rfl⟩ := h
  exact ⟨x, rfl⟩

theorem RegOnly.warmKept (s0 : State) (h : RegOnly s t) : RegOnly (warmKept s0 s) (warmKept s0 t) := by
  obtain ⟨x, rfl⟩ := h
  exact ⟨x, rfl⟩

theorem RegOnly.causesSet (l : List ResetSource) (s : State) : RegOnly s (causesSet s l) :=
  List.foldlRecOn l _ (motive := fun u : State => RegOnly s u) (.refl s) fun _ h _ _ => h.fset _ _ _

theorem resetFor_eq (s : State) (r : ResetSource) : resetFor s r =
    causesSet (sourced (if srcCold r then resetA s else resetB s) (sourcesWith s r)) (sourcesWith s r) := rfl

theorem assertSource_reg (s : State) (r : ResetSource) : RegOnly (assertedBase s r) (assertSource s r) := by
  have start : RegOnly (assertedBase s r) (resetFor s r) := by
    rw [resetFor_eq]
    refine RegOnly.trans ?_ (.causesSet _ _)
    cases h : srcCold r with
    | false =>
      rw [assertedBase_warm h, if_neg Bool.false_ne_true, resetB_eq]
      exact ((resetKeep_reg s stickyFlds).warmKept s).sourced _
    | true =>
      rw [assertedBase_cold h, if_pos rfl, resetA]
      exact (resetKeep_reg s []).sourced _
  rw [assertSource_eq]
  split
  · exact start.fset _ _ _
  · exact start

theorem sourced_fget (l : List ResetSource) (i : Nat) : (sourced s l).fget f i = s.fget f i := rfl

theorem warmKept_fget (s0 : State) (i : Nat) : (warmKept s0 s).fget f i = s.fget f i := rfl

theorem causesSet_other (hc : f.reg ≠ .RESET_CAUSE) (l : List ResetSource) (i : Nat) : (causesSet s l).fget f i = s.fget f i :=
  List.foldlRecOn l _ (motive := fun v : State => v.fget f i = s.fget f i) rfl fun _ hv x _ =>
    (fget_fset_ne (fun e => hc (by rw [e, srcCause_reg])) _ _ _).trans hv

/-- The causes apart, a register field reads what the reset's start leaves. -/
theorem assertSource_show (h : f ∉ updShown ++ resetShown) (hc : f.reg ≠ .RESET_CAUSE) (i : Nat) :
    (assertSource s r).fget f i = (resetBase s (keptBy r)).fget f i := by
  have start : (resetFor s r).fget f i = (resetBase s (keptBy r)).fget f i := by
    rw [resetFor_eq, causesSet_other hc, sourced_fget]
    cases hr : srcCold r with
    | false => rw [if_neg Bool.false_ne_true, resetB_eq, warmKept_fget, keptBy_warm hr, resetKeep_other h]
    | true => rw [if_pos rfl, resetA, keptBy_cold hr, resetKeep_other h]
  rw [assertSource_eq]
  split
  · exact (fget_fset_ne (fun e => hc (by rw [e]; rfl)) _ _ _).trans start
  · exact start

/-- A cause that was shown before a level B reset shows still. -/
theorem assertSource_keeps (hb : srcCold r = false) (hf : f ∈ Reg.RESET_CAUSE.flds) (h : s.fget f 0 = 1) :
    (assertSource s r).fget f 0 = 1 := by
  obtain ⟨sticky, apart⟩ := (by decide : ∀ f ∈ Reg.RESET_CAUSE.flds, stickyFlds.contains f.ctorIdx = true ∧
    f ∉ updShown ++ resetShown) f hf
  have kept : (resetKeep s stickyFlds).fget f 0 = 1 := ((resetKeep_other apart 0).trans (resetBase_fget sticky 0)).trans h
  have start : (resetFor s r).fget f 0 = 1 := by
    rw [resetFor_eq, hb, if_neg Bool.false_ne_true, resetB_eq]
    refine causesSet_keeps _ ?_
    rw [sourced_fget, warmKept_fget, kept]
  rw [assertSource_eq]
  split
  · exact fset_one_keeps rfl start
  · exact start

/-- A field of the sticky state outside the causes stands through a level B reset. -/
theorem assertSource_sticky (hb : srcCold r = false) (h : f ∉ updShown ++ resetShown) (hc : f.reg ≠ .RESET_CAUSE)
    (hf : stickyFlds.contains f.ctorIdx = true) : (assertSource s r).fget f 0 = s.fget f 0 := by
  rw [assertSource_show h hc, keptBy, hb]
  exact resetBase_fget hf 0

theorem assertedBase_rind (s : State) (r : ResetSource) : (assertedBase s r).rind.fuses = s.rind.fuses ∧
    (assertedBase s r).rind.otp = s.rind.otp ∧ (assertedBase s r).rind.tripLow = s.rind.tripLow ∧
    (srcCold r = true → (assertedBase s r).rind.history = []) ∧ (srcCold r = false → (assertedBase s r).rind.history = s.rind.history) := by
  obtain ⟨rind, -⟩ := bootCut_stands s
  have fuses := congrArg Rind.fuses rind
  have otp := congrArg Rind.otp rind
  have trip := congrArg Rind.tripLow rind
  cases hc : srcCold r with
  | false =>
    rw [assertedBase_warm hc]
    exact ⟨fuses, otp, trip, nofun, fun _ => rfl⟩
  | true =>
    rw [assertedBase_cold hc]
    exact ⟨fuses, otp, trip, fun _ => rfl, nofun⟩

theorem assertedBase_clears (s : State) (r : ResetSource) : (assertedBase s r).frames = [] ∧ (assertedBase s r).ctr = [] ∧
    (assertedBase s r).prog = [] ∧ (assertedBase s r).cellar = State.reset.cellar ∧ (assertedBase s r).skim = State.reset.skim ∧
    (assertedBase s r).strainer = State.reset.strainer ∧ (assertedBase s r).whey = [] := by
  cases hc : srcCold r with
  | false =>
    rw [assertedBase_warm hc]
    exact ⟨rfl, rfl, rfl, rfl, rfl, rfl, rfl⟩
  | true =>
    rw [assertedBase_cold hc]
    exact ⟨rfl, rfl, rfl, rfl, rfl, rfl, rfl⟩

theorem assertedBase_keeps (s : State) (r : ResetSource) : (assertedBase s r).images.marks = s.images.marks ∧
    (assertedBase s r).images.verified = s.images.verified ∧ (assertedBase s r).images.nonces = s.images.nonces ∧
    (assertedBase s r).pending = s.pending ∧ (assertedBase s r).now = s.now ∧ (assertedBase s r).setup.rstLow = s.setup.rstLow := by
  obtain ⟨-, -, pending, now, setup, marks, verified, nonces⟩ := bootCut_stands s
  have low := congrArg (·.rstLow) setup
  cases hc : srcCold r with
  | false =>
    rw [assertedBase_warm hc]
    exact ⟨marks, verified, nonces, pending, now, low⟩
  | true =>
    rw [assertedBase_cold hc]
    exact ⟨marks, verified, nonces, pending, now, low⟩

/-- A source of level A or B that asserts has the reach of its level. -/
theorem assertSource_asserted (s : State) (r : ResetSource) : Asserted s (assertSource s r) r := by
  obtain ⟨x, e⟩ := assertSource_reg s r
  obtain ⟨fuses, otp, -, cold, warm⟩ := assertedBase_rind s r
  obtain ⟨frames, ctr, prog, cellar, skim, strainer, whey⟩ := assertedBase_clears s r
  obtain ⟨marks, verified, nonces, pending, now, -⟩ := assertedBase_keeps s r
  have off (pd : Nat) : (assertSource s r).fget .PD_STATE_on pd = 0 := by
    rw [assertSource_show (by decide) (by decide), keptBy]
    refine resetBase_lost ?_ pd
    split
    · decide
    · decide
  have fails (h : srcCold r = true) : (assertSource s r).fget .START_STATUS_failed_count 0 = 0 := by
    rw [assertSource_show (by decide) (by decide), keptBy, h]
    exact resetBase_lost (by decide) 0
  refine ⟨assertSource_sources r, assertSource_cause r, ?_, ?_, ?_, ?_, ?_, ?_, ?_, off, ?_, ?_, ?_, ?_, ?_, ?_, ?_,
    fun h => ⟨?_, fails h⟩, fun h => ⟨?_, assertSource_sticky h (by decide) (by decide) (by decide),
      assertSource_sticky h (by decide) (by decide) (by decide), fun f hf h1 _ => assertSource_keeps h hf h1⟩⟩
  all_goals rw [e]
  · exact frames
  · exact ctr
  · exact prog
  · exact cellar
  · exact skim
  · exact strainer
  · exact whey
  · exact fuses
  · exact otp
  · exact marks
  · exact verified
  · exact nonces
  · exact pending
  · exact now
  · exact cold h
  · exact warm h

theorem assertSource_pins (s : State) (r : ResetSource) : (assertSource s r).rind.tripLow = s.rind.tripLow ∧
    (assertSource s r).setup.rstLow = s.setup.rstLow := by
  obtain ⟨x, e⟩ := assertSource_reg s r
  obtain ⟨-, -, trip, -, -⟩ := assertedBase_rind s r
  obtain ⟨-, -, -, -, -, low⟩ := assertedBase_keeps s r
  rw [e]
  exact ⟨trip, low⟩

/-- The same of a state that differs from another in nothing that `Asserted` reads of it. -/
theorem Asserted.of_same (h : Asserted u t r) (sources : u.rind.sources = s.rind.sources) (fuses : u.rind.fuses = s.rind.fuses)
    (otp : u.rind.otp = s.rind.otp) (history : u.rind.history = s.rind.history) (marks : u.images.marks = s.images.marks)
    (verified : u.images.verified = s.images.verified) (nonces : u.images.nonces = s.images.nonces) (pending : u.pending = s.pending)
    (now : u.now = s.now) (reg : ∀ f, f.reg = .RESET_CAUSE ∨ f.reg = .START_STATUS → u.fget f 0 = s.fget f 0) : Asserted s t r := by
  obtain ⟨h1, h2, h3, h4, h5, h6, h7, h8, h9, h10, h11, h12, h13, h14, h15, h16, h17, cold, warm⟩ := h
  refine ⟨by rw [h1, sources], h2, h3, h4, h5, h6, h7, h8, h9, h10, h11.trans fuses, h12.trans otp, h13.trans marks, h14.trans verified,
    h15.trans nonces, h16.trans pending, h17.trans now, cold, fun hc => ?_⟩
  obtain ⟨w1, w2, w3, w4⟩ := warm hc
  refine ⟨w1.trans history, w2.trans (reg _ (.inr rfl)), w3.trans (reg _ (.inr rfl)), fun f hf h1 hne => w4 f hf ?_ hne⟩
  have cause := (by decide : ∀ f ∈ Reg.RESET_CAUSE.flds, f.reg = .RESET_CAUSE) f hf
  exact (reg f (.inl cause)).trans h1

/-- The fields of `Asserted` but for the cause's place stand when that place is written. -/
theorem Asserted.crit (h : Asserted s t r) (n : Nat) : Asserted s (t.fset .RESET_CAUSE_crit_where 0 n) r := by
  obtain ⟨h1, h2, h3, h4, h5, h6, h7, h8, h9, h10, h11, h12, h13, h14, h15, h16, h17, cold, warm⟩ := h
  have other {f : Fld} (i : Nat) (hf : f ≠ .RESET_CAUSE_crit_where) : (t.fset .RESET_CAUSE_crit_where 0 n).fget f i = t.fget f i :=
    fget_fset_ne hf _ _ _
  refine ⟨h1, (other 0 ?_).trans h2, h3, h4, h5, h6, h7, h8, h9, fun pd => (other pd (by decide)).trans (h10 pd), h11, h12, h13, h14,
    h15, h16, h17, fun hc => ?_, fun hc => ?_⟩
  · cases r <;> decide
  · obtain ⟨c1, c2⟩ := cold hc
    exact ⟨c1, (other 0 (by decide)).trans c2⟩
  · obtain ⟨w1, w2, w3, w4⟩ := warm hc
    exact ⟨w1, (other 0 (by decide)).trans w2, (other 0 (by decide)).trans w3, fun f hf h1 hne => (other 0 hne).trans (w4 f hf h1 hne)⟩

/-! ### A source that is released -/

theorem strapSample_rind : (strapSample s b).rind.sources = s.rind.sources ∧ (strapSample s b).rind.tripLow = s.rind.tripLow ∧
    (strapSample s b).setup = s.setup := by
  unfold strapSample
  cases b with
  | false => exact ⟨rfl, rfl, rfl⟩
  | true =>
    exact ⟨rfl, rfl, rfl⟩

/-- The strap is sampled when the last source of level A goes. -/
def strapped (s : State) (l : List ResetSource) (known : Bool) : State :=
  let w := { s with rind := { s.rind with sources := l } }
  if s.rind.sources.any srcCold && !l.any srcCold then strapSample w known else w

theorem sourcesLeft_eq : sourcesLeft s l b = if l.isEmpty then (strapped s l b).fset .RIND_STATUS_mode 0 0 else strapped s l b := rfl

theorem strapped_stands : (strapped s l b).rind.sources = l ∧ (strapped s l b).rind.tripLow = s.rind.tripLow ∧
    (strapped s l b).setup = s.setup := by
  unfold strapped
  dsimp only
  split
  · exact strapSample_rind
  · exact ⟨rfl, rfl, rfl⟩

/-- The sources are those left, the pins stand, and with none left the device is starting. -/
theorem sourcesLeft_stands : (sourcesLeft s l b).rind.sources = l ∧ (sourcesLeft s l b).rind.tripLow = s.rind.tripLow ∧
    (sourcesLeft s l b).setup = s.setup ∧ (l = [] → (sourcesLeft s l b).fget .RIND_STATUS_mode 0 = 0) := by
  obtain ⟨sources, trip, setup⟩ := strapped_stands (s := s) (l := l) (b := b)
  rw [sourcesLeft_eq]
  split
  · exact ⟨sources, trip, setup, fun _ => fget_fset_same _ _ _ _⟩
  · next h => exact ⟨sources, trip, setup, fun e => absurd (by rw [e]; rfl) h⟩

/-- The strap as POWER_ON carries it. -/
theorem sourcesLeft_strap {v : Bool} (hb : s.rind.hizBall = some v) : (sourcesLeft s l true).rind.hizBall = some v ∧
    (s.rind.sources.any srcCold = true → l = [] → (sourcesLeft s l true).rind.compatHiz = v) := by
  have held : (strapped s l true).rind.hizBall = some v := by
    unfold strapped
    dsimp only
    split
    · exact hb
    · exact hb
  have sampled (hc : s.rind.sources.any srcCold = true) (hl : l = []) : (strapped s l true).rind.compatHiz = v := by
    unfold strapped
    rw [hc, hl]
    exact congrArg (·.getD Config.strapAtReset) hb
  rw [sourcesLeft_eq]
  split
  · exact ⟨held, sampled⟩
  · exact ⟨held, sampled⟩

/-- What a source's release leaves of the list. -/
def sourcesBut (s : State) (r : ResetSource) : List ResetSource := s.rind.sources.filter (fun x => x ≠ r)

theorem releaseSource_eq (h : s.rind.sources.contains r = true) :
    releaseSource s r = sourcesLeft s (sourcesBut s r) (r == .powerOn) := by
  rw [releaseSource, if_pos h]
  rfl

/-- A source of the list is released. -/
theorem releaseSource_stands (h : s.rind.sources.contains r = true) :
    (releaseSource s r).rind.sources = s.rind.sources.filter (fun x => x ≠ r) ∧
    (releaseSource s r).rind.tripLow = s.rind.tripLow ∧ (releaseSource s r).setup = s.setup ∧
    ((releaseSource s r).rind.sources = [] → (releaseSource s r).fget .RIND_STATUS_mode 0 = 0) := by
  obtain ⟨sources, trip, setup, mode⟩ := sourcesLeft_stands (s := s) (l := sourcesBut s r) (b := r == .powerOn)
  rw [releaseSource_eq h]
  exact ⟨sources, trip, setup, fun e => mode (sources.symm.trans e)⟩

/-! ### The rows of the sources -/

theorem powerRailFall_asserts {rails : List Nat} {k : Nat} (hk : k ∈ rails) (h1 : 1 ≤ k) (h14 : k < 14) :
    Completes (.powerRailFall rails) s fun t => Asserted s t .powerOn := by
  refine ⟨_, congrArg Host.Outcome.next (if_pos (List.any_eq_true.2 ⟨k, hk, ?_⟩)), assertSource_asserted s _⟩
  rw [decide_eq_true h1, decide_eq_true h14]
  rfl

theorem criticalStateError_asserts {n : Nat} (h1 : 1 ≤ n) (h8 : n ≤ 8) : Completes (.criticalStateError n) s fun t =>
    Asserted s t (if n ≤ 6 then .critB else .critA) ∧ t.fget .RESET_CAUSE_crit_where 0 = n := by
  refine ⟨_, congrArg Host.Outcome.next (if_neg (by omega)), (assertSource_asserted s _).crit n, ?_⟩
  rw [fget_fset_same]
  exact Nat.mod_eq_of_lt (Nat.lt_of_le_of_lt h8 (by decide))

/-- RST_N is low. -/
def rstHeld (s : State) : State := { s with setup := { s.setup with rstLow := true } }

theorem rstHeld_asserts (s : State) : Asserted s (assertSource (rstHeld s) .rstN) .rstN ∧
    (assertSource (rstHeld s) .rstN).setup.rstLow = true := by
  obtain ⟨-, low⟩ := assertSource_pins (rstHeld s) .rstN
  exact ⟨(assertSource_asserted (rstHeld s) .rstN).of_same rfl rfl rfl rfl rfl rfl rfl rfl rfl fun _ _ => rfl, low⟩

theorem rstNAssert_long {n : Nat} (h : 1000 ≤ n) : Completes (.rstNAssert n) s fun t => Asserted s t .rstN ∧ t.setup.rstLow = true :=
  ⟨_, congrArg Host.Outcome.next ((if_neg (by omega)).trans (if_pos h)), rstHeld_asserts s⟩

theorem rstNAssert_short {n : Nat} (h : n < 100) : exec (.rstNAssert n) s = .next s := congrArg Host.Outcome.next (if_pos h)

/-- Between the two widths the draw decides. -/
theorem rstNAssert_between {n : Nat} (h1 : 100 ≤ n) (h2 : n < 1000) : Completes (.rstNAssert n) s fun t =>
    t = { s with draws := s.draws + 1 } ∨ Asserted s t .rstN := by
  refine ⟨_, congrArg Host.Outcome.next ((if_neg (by omega)).trans (if_neg (by omega))), ?_⟩
  dsimp only [State.draw]
  split
  · exact .inr ((rstHeld_asserts { s with draws := s.draws + 1 }).1.of_same rfl rfl rfl rfl rfl rfl rfl rfl rfl fun _ _ => rfl)
  · exact .inl rfl

theorem thermalTrip_asserts : Completes .thermalTrip s fun t => Asserted s t .thermTrip ∧ t.rind.tripLow = true := by
  obtain ⟨trip, -⟩ := assertSource_pins { s with rind := { s.rind with tripLow := true } } .thermTrip
  exact ⟨_, rfl, (assertSource_asserted { s with rind := { s.rind with tripLow := true } } .thermTrip).of_same
    rfl rfl rfl rfl rfl rfl rfl rfl rfl fun _ _ => rfl, trip⟩

/-! ### The watchdog -/

theorem watchdogStage2_asserts (hw : wdogRuns s = true) (h1 : s.rind.stage1 = true) (ht : s.rind.kickAt + wdogNs s ≤ s.now) :
    Completes .watchdogStage2 s fun t => Asserted s t .watchdog :=
  ⟨_, congrArg Host.Outcome.next (if_pos (by rw [hw, h1, decide_eq_true ht]; rfl)), assertSource_asserted s _⟩

/-- The watchdog's first stage shows. -/
def wdogShown (s : State) : State := (s.fset .RIND_STATUS_wdog_stage1 0 1).fset .RESET_CAUSE_wdog_mgmt 0 1

/-- The management complex is reset and held. -/
def wdogHeld (s : State) : State := { domainReset (wdogShown s) 157 with rind := { (domainReset (wdogShown s) 157).rind with stage1 := true } }

theorem mgmtDomainReset_eq (s : State) : domainReset s 157 =
    mgmtReset (setHeld { s with rind := { s.rind with restored := s.rind.restored.filter (fun x => x ≠ 157) } } 157 true) := rfl

theorem wdogHeld_fget (f : Fld) (i : Nat) : (wdogHeld s).fget f i = ((wdogShown s).fset .PD_HELD_held 157 1).fget f i := rfl

theorem wdogHeld_kept (s : State) :
    Kept (partsMask [.rind, .setup, .reg .RIND_STATUS, .reg .RESET_CAUSE, .reg .PD_HELD]) s (wdogHeld s) := by
  have shown : Kept (partsMask [.rind, .setup, .reg .RIND_STATUS, .reg .RESET_CAUSE, .reg .PD_HELD]) s (wdogShown s) :=
    .field _ _ _ (.field _ _ _ (.refl _ _) (.of_beq (by decide +kernel))) (.of_beq (by decide +kernel))
  unfold wdogHeld
  rw [mgmtDomainReset_eq]
  exact (mgmtReset_kept (.of_beq (by decide +kernel)) (setHeld_kept _ _ (.of_beq (by decide +kernel))
    (shown.setRind _ rfl rfl (.of_beq (by decide +kernel))))).setRind _ rfl rfl (.of_beq (by decide +kernel))

theorem watchdogStage1_resets (hw : wdogRuns s = true) (h1 : s.rind.stage1 = false) (ht : s.rind.kickAt + wdogNs s ≤ s.now) :
    Completes .watchdogStage1 s fun t => t.rind.stage1 = true ∧ t.rind.kickAt = s.now ∧ t.fget .RIND_STATUS_wdog_stage1 0 = 1 ∧
      t.fget .RESET_CAUSE_wdog_mgmt 0 = 1 ∧ t.fget .PD_HELD_held 157 = 1 ∧
      ChangesOnly [.rind, .setup, .reg .RIND_STATUS, .reg .RESET_CAUSE, .reg .PD_HELD] s t := by
  have e : exec .watchdogStage1 s = .next (wdogHeld s) :=
    congrArg Host.Outcome.next (if_pos (by rw [hw, h1, decide_eq_true ht]; rfl))
  have stage : (wdogHeld s).fget .RIND_STATUS_wdog_stage1 0 = 1 := by
    rw [wdogHeld_fget, fget_fset_ne (by decide), wdogShown, fget_fset_ne (by decide), fget_fset_same]
    rfl
  have cause : (wdogHeld s).fget .RESET_CAUSE_wdog_mgmt 0 = 1 := by
    rw [wdogHeld_fget, fget_fset_ne (by decide), wdogShown, fget_fset_same]
    rfl
  have held : (wdogHeld s).fget .PD_HELD_held 157 = 1 := by
    rw [wdogHeld_fget, fget_fset_same]
    rfl
  exact ⟨_, e, rfl, rfl, stage, cause, held, (wdogHeld_kept s).changesOnly⟩

theorem watchdogKick_kicks (hw : wdogRuns s = true) : Completes .watchdogKick s fun t =>
    t = { s with rind := { s.rind with kickAt := s.now, stage1 := false } } := ⟨_, congrArg Host.Outcome.next (if_pos hw), rfl⟩

/-! ### The rows of a release -/

theorem powerOn_releases (h : s.rind.sources.contains .powerOn = true) : Completes (.powerOn b) s fun t =>
    t.rind.sources = s.rind.sources.filter (fun x => x ≠ .powerOn) ∧ t.rind.hizBall = some b ∧ t.setup.tap = .idcode ∧
    (t.rind.sources = [] → t.fget .RIND_STATUS_mode 0 = 0 ∧ t.rind.compatHiz = b) := by
  let w : State := { s with rind := { s.rind with hizBall := some b }, setup := { s.setup with tap := .idcode } }
  have hw : w.rind.sources.contains .powerOn = true := h
  have cold : w.rind.sources.any srcCold = true := List.any_eq_true.2 ⟨.powerOn, List.contains_iff_mem.1 h, rfl⟩
  obtain ⟨sources, -, setup, mode⟩ := releaseSource_stands hw
  obtain ⟨ball, strap⟩ := sourcesLeft_strap (s := w) (l := sourcesBut w .powerOn) (v := b) rfl
  have eq : releaseSource w .powerOn = sourcesLeft w (sourcesBut w .powerOn) true := releaseSource_eq hw
  refine ⟨releaseSource w .powerOn, congrArg Host.Outcome.next (if_pos h), sources, ?_, congrArg (·.tap) setup, fun e => ⟨mode e, ?_⟩⟩
  · rw [eq]
    exact ball
  · rw [eq]
    exact strap cold (sources.symm.trans e)

theorem thermalTripRelease_releases (h : s.rind.sources.contains .thermTrip = true) : Completes .thermalTripRelease s fun t =>
    t.rind.sources = s.rind.sources.filter (fun x => x ≠ .thermTrip) ∧ t.rind.tripLow = false := by
  obtain ⟨sources, trip, -⟩ := releaseSource_stands (s := { s with rind := { s.rind with tripLow := false } }) h
  exact ⟨_, congrArg Host.Outcome.next (if_pos h), sources, trip⟩

/-- Power-on, the thermal trip and PERST# apart, a source is released by RESET_SOURCE_RELEASE. -/
theorem resetSourceRelease_releases (hp : r ≠ .perst) (ho : r ≠ .powerOn) (ht : r ≠ .thermTrip) (h : s.rind.sources.contains r = true) :
    Completes (.resetSourceRelease r) s fun t =>
      t.rind.sources = s.rind.sources.filter (fun x => x ≠ r) ∧ (r = .rstN → t.setup.rstLow = false) ∧
      (t.rind.sources = [] → t.fget .RIND_STATUS_mode 0 = 0) := by
  have other (hn : r ≠ .rstN) (e : exec (.resetSourceRelease r) s = .next (releaseSource s r)) : Completes (.resetSourceRelease r) s
      fun t => t.rind.sources = s.rind.sources.filter (fun x => x ≠ r) ∧ (r = .rstN → t.setup.rstLow = false) ∧
        (t.rind.sources = [] → t.fget .RIND_STATUS_mode 0 = 0) := by
    obtain ⟨sources, -, -, mode⟩ := releaseSource_stands h
    exact ⟨_, e, sources, fun k => absurd k hn, mode⟩
  cases r with
  | perst => exact absurd rfl hp
  | powerOn => exact absurd rfl ho
  | thermTrip => exact absurd rfl ht
  | rstN =>
    obtain ⟨sources, -, setup, mode⟩ := releaseSource_stands (s := { s with setup := { s.setup with rstLow := false } }) h
    exact ⟨_, rfl, sources, fun _ => congrArg (·.rstLow) setup, mode⟩
  | brownout => exact other (by decide) rfl
  | critA => exact other (by decide) rfl
  | watchdog => exact other (by decide) rfl
  | hostFull => exact other (by decide) rfl
  | failedStart => exact other (by decide) rfl
  | updateAct => exact other (by decide) rfl
  | critB => exact other (by decide) rfl

end
end Sys2Proof.Machine

open Sys2Proof Sys2Proof.Machine

/-- Settles O42: whatever asserts, one reset is taken, with the reach of the source's level, and a release takes the source off the
list. -/
theorem resetSourcesAssertAndRelease : Obligations.ResetSourcesAssertAndRelease := by
  unfold Obligations.ResetSourcesAssertAndRelease
  refine ⟨fun s rails k hk h1 h14 => powerRailFall_asserts hk h1 h14,
    fun s v hv => ⟨_, congrArg Host.Outcome.next (if_pos hv), assertSource_asserted s _⟩,
    fun s => thermalTrip_asserts, fun s n h1 h8 => criticalStateError_asserts h1 h8,
    fun s n => ⟨rstNAssert_long, rstNAssert_short, rstNAssert_between⟩, fun s hw h1 ht => watchdogStage2_asserts hw h1 ht,
    fun s hw h1 ht => watchdogStage1_resets hw h1 ht, fun s hw => watchdogKick_kicks hw, fun s b h => powerOn_releases h,
    fun s h => thermalTripRelease_releases h, fun s r hp ho ht h => resetSourceRelease_releases hp ho ht h, fun s => rfl⟩

end

section
/-! SUPPORT. What memory BIST and the tests of the links inside the package leave in a start (R322, R365, R366). -/

namespace Sys2Proof.Machine

-- A proof that evaluates in the kernel waits for every declaration before it, and holds a thread while it waits.
set_option Elab.async false

section
variable {s : State} {x : StartTests} {c pd : Nat}

/-! ### Bits of a failure map -/

theorem bits_one_iff (v k : Nat) : bits v k 1 = 1 ↔ v.testBit k = true := by
  rw [Nat.testBit_eq_decide_div_mod_eq, decide_eq_true_eq]
  rfl

/-- A number given by its bits. -/
def bitSum (f : Nat → Bool) (n : Nat) : Nat := ((List.range n).map (fun k => bit (f k) * 2 ^ k)).sum

theorem bitSum_succ (f : Nat → Bool) (n : Nat) : bitSum f (n + 1) = 2 ^ n * bit (f n) + bitSum f n := by
  rw [bitSum, List.range_succ, List.map_append, List.sum_append, Nat.add_comm, Nat.mul_comm]
  rfl

theorem bitSum_spec (f : Nat → Bool) (n : Nat) : bitSum f n < 2 ^ n ∧ ∀ k, k < n → (bitSum f n).testBit k = f k := by
  induction n with
  | zero => exact ⟨Nat.one_pos, fun _ h => absurd h (Nat.not_lt_zero _)⟩
  | succ n ih =>
    obtain ⟨lt, at'⟩ := ih
    have one : bit (f n) ≤ 1 := by cases f n <;> decide
    rw [bitSum_succ]
    refine ⟨?_, fun k hk => ?_⟩
    · have top : 2 ^ n * bit (f n) ≤ 2 ^ n * 1 := Nat.mul_le_mul_left _ one
      rw [pow_succ]
      omega
    · rw [Nat.testBit_two_pow_mul_add _ lt]
      split
      · next h => exact at' k h
      · next h =>
        obtain rfl : k = n := by omega
        rw [Nat.sub_self]
        cases f k <;> rfl

theorem linksFailed_eq (l : List (Nat × Nat × Nat)) (n : Nat) :
    linksFailed l n = bitSum (fun k => l.any (fun x => x.1 == k && decide (2 < x.2.2))) n := rfl

/-- A bit of the map: a group of that tile or stack is past its spares. -/
theorem linksFailed_bit (l : List (Nat × Nat × Nat)) {n k : Nat} (hk : k < n) :
    bits (linksFailed l n % 2 ^ n) k 1 = 1 ↔ ∃ g m, (k, g, m) ∈ l ∧ 2 < m := by
  obtain ⟨lt, at'⟩ := bitSum_spec (fun k => l.any (fun x => x.1 == k && decide (2 < x.2.2))) n
  rw [linksFailed_eq, Nat.mod_eq_of_lt lt, bits_one_iff, at' k hk, List.any_eq_true]
  constructor
  · rintro ⟨⟨j, g, m⟩, hmem, h⟩
    obtain ⟨hj, hm⟩ := Bool.and_eq_true_iff.1 h
    obtain rfl : j = k := beq_iff_eq.1 hj
    exact ⟨g, m, hmem, of_decide_eq_true hm⟩
  · rintro ⟨g, m, hmem, hm⟩
    exact ⟨(k, g, m), hmem, Bool.and_eq_true_iff.2 ⟨beq_self_eq_true k, decide_eq_true hm⟩⟩

/-! ### Memory BIST (R366) -/

/-- The counts of memory BIST show. -/
def memCounted (s : State) (x : StartTests) : State :=
  (((s.fset .BIST_STATUS_mem_repaired 0 (min 65535 x.memRepaired)).fset .BIST_STATUS_mem_failed 0 (min 65535 x.memFailed.length)).fset
    .BIST_STATUS_first_pd 0 (x.memFailed.headD 0)).fset .BIST_STATUS_any_failed 0 (bit (!x.memFailed.isEmpty))

/-- The clusters with an unrepairable memory are quarantined. -/
def quarantineAll (s : State) (x : StartTests) : State := ((x.memFailed.filter isCluster).map (fun p => p - 48)).foldl memQuarantine s

theorem memQuarantine_shows (s : State) (c : Nat) : (memQuarantine s c).fget .CLUSTER_QUARANTINE_bits c = 1 ∧
    (memQuarantine s c).fget .MCK_STATUS_quarantine_event 0 = 1 :=
  ⟨(event_fget_ne (by decide) (by decide) _ _).trans (fget_fset_same _ _ _ _), event_fget_same (by decide) rfl 0⟩

theorem memQuarantine_keeps {i : Nat} (h : s.fget .CLUSTER_QUARANTINE_bits i = 1) (c : Nat) :
    (memQuarantine s c).fget .CLUSTER_QUARANTINE_bits i = 1 := by
  by_cases e : i = c
  · rw [e, (memQuarantine_shows s c).1]
  · exact (event_fget_ne (by decide) (by decide) _ _).trans ((fget_fset_other _ _ _ _ _ _ (fun k => e (congrArg Prod.snd k))).trans h)

theorem quarantineFold_shows {l : List Nat} (h : c ∈ l) : (l.foldl memQuarantine s).fget .CLUSTER_QUARANTINE_bits c = 1 ∧
    (l.foldl memQuarantine s).fget .MCK_STATUS_quarantine_event 0 = 1 := by
  induction l generalizing s with
  | nil => cases h
  | cons y l ih =>
    rw [List.foldl_cons]
    rcases List.mem_cons.1 h with rfl | hl
    · obtain ⟨quarantine, event⟩ := memQuarantine_shows s c
      refine List.foldlRecOn l memQuarantine (motive := fun u : State => u.fget .CLUSTER_QUARANTINE_bits c = 1 ∧
        u.fget .MCK_STATUS_quarantine_event 0 = 1) ⟨quarantine, event⟩ fun u hu y _ => ?_
      exact ⟨memQuarantine_keeps hu.1 y, (memQuarantine_shows u y).2⟩
    · exact ih hl

/-- The quarantine writes neither what memory BIST shows nor what the Rind holds. -/
theorem quarantineAll_kept (s : State) (x : StartTests) : Kept (maskBut [.rind, .reg .BIST_STATUS]) s (quarantineAll s x) :=
  Kept.foldl (fun _ c h => memQuarantine_kept c (.of_beq (by decide +kernel)) h) (.refl _ _)

theorem startTests_bist {f : Fld} (hf : f.reg = .BIST_STATUS) : (startTests s 4 x).fget f 0 = (memCounted s x).fget f 0 :=
  (quarantineAll_kept (memCounted s x) x).same_of_but (p := .reg .BIST_STATUS) (by decide) f 0 hf

theorem memCounted_shows (s : State) (x : StartTests) :
    (memCounted s x).fget .BIST_STATUS_mem_repaired 0 = min 65535 x.memRepaired ∧
    (memCounted s x).fget .BIST_STATUS_mem_failed 0 = min 65535 x.memFailed.length ∧
    (memCounted s x).fget .BIST_STATUS_any_failed 0 = bit (!x.memFailed.isEmpty) ∧
    (memCounted s x).fget .BIST_STATUS_first_pd 0 = x.memFailed.headD 0 % 2 ^ Fld.BIST_STATUS_first_pd.info.width := by
  have cut (n : Nat) : min 65535 n % 2 ^ 16 = min 65535 n := Nat.mod_eq_of_lt (by omega)
  refine ⟨?_, ?_, ?_, ?_⟩
  · rw [memCounted, fget_fset_ne (by decide), fget_fset_ne (by decide), fget_fset_ne (by decide), fget_fset_same]
    exact cut _
  · rw [memCounted, fget_fset_ne (by decide), fget_fset_ne (by decide), fget_fset_same]
    exact cut _
  · rw [memCounted, fget_fset_same]
    exact bit_mod_two _
  · rw [memCounted, fget_fset_ne (by decide), fget_fset_same]

/-- A memory outside the clusters that cannot be repaired holds the step. -/
theorem memHeld_iff (l : List Nat) : l.any (fun p => !isCluster p) = true ↔ ∃ p, p ∈ l ∧ (p < 48 ∨ 112 ≤ p) := by
  have out (p : Nat) : (!isCluster p) = true ↔ p < 48 ∨ 112 ≤ p := by
    rw [isCluster, Bool.not_eq_true', decide_eq_false_iff_not]
    omega
  rw [List.any_eq_true]
  exact exists_congr fun p => and_congr_right fun _ => out p

theorem domainRelease_memory (hd : stepDue s 4 = true) : Completes (.domainRelease 4 x) s fun t =>
    t.rind.clocks = s.rind.clocks ++ [(4, s.now)] ∧ t.fget .BIST_STATUS_mem_repaired 0 = min 65535 x.memRepaired ∧
    t.fget .BIST_STATUS_mem_failed 0 = min 65535 x.memFailed.length ∧ t.fget .BIST_STATUS_any_failed 0 = bit (!x.memFailed.isEmpty) ∧
    (∀ p l, x.memFailed = p :: l → t.fget .BIST_STATUS_first_pd 0 = p % 2 ^ Fld.BIST_STATUS_first_pd.info.width) ∧
    (∀ c, c < 64 → 48 + c ∈ x.memFailed → t.fget .CLUSTER_QUARANTINE_bits c = 1 ∧ t.fget .MCK_STATUS_quarantine_event 0 = 1) ∧
    (t.rind.memHeld = true ↔ ∃ p, p ∈ x.memFailed ∧ (p < 48 ∨ 112 ≤ p)) := by
  have counted := quarantineAll_kept (memCounted s x) x
  have rind : (quarantineAll (memCounted s x) x).rind = s.rind := counted.same_of_but (p := .rind) (by decide)
  have now : (quarantineAll (memCounted s x) x).now = s.now := counted.now
  obtain ⟨repaired, failed, any, first⟩ := memCounted_shows s x
  refine ⟨_, exec_domainRelease hd (by decide) (by decide), ?_, (startTests_bist rfl).trans repaired, (startTests_bist rfl).trans failed,
    (startTests_bist rfl).trans any, fun p l hl => ((startTests_bist rfl).trans first).trans (by rw [hl]; rfl), fun c hc hm => ?_,
    memHeld_iff x.memFailed⟩
  · show (quarantineAll (memCounted s x) x).rind.clocks ++ [(4, (quarantineAll (memCounted s x) x).now)] = _
    rw [rind, now]
  · have cluster : isCluster (48 + c) = true := decide_eq_true (by omega)
    exact quarantineFold_shows (List.mem_map.2 ⟨48 + c, List.mem_filter.2 ⟨hm, cluster⟩, Nat.add_sub_cancel_left ..⟩)

theorem exec_clockGood_held (h : s.rind.memHeld = true) : exec (.clockGood 4) s = .next s := by
  have e : exec (.clockGood 4) s = execClockGood 4 s := rfl
  rw [e, execClockGood]
  split
  · rfl
  · rw [if_neg (by simp [h])]

/-! ### The links inside the package (R365) -/

theorem clockOn_fget (n : Nat) (f : Fld) (i : Nat) : (clockOn s n).fget f i = s.fget f i := rfl

theorem startTests_stacks : startTests s 5 x =
    (s.fset .REPAIR_LINKS_hbm_repaired 0 (lanesRepaired x.hbm)).fset .REPAIR_LINKS_hbm_failed 0 (linksFailed x.hbm 4) := rfl

theorem domainRelease_stacks (hd : stepDue s 5 = true) : Completes (.domainRelease 5 x) s fun t =>
    t.rind.clocks = s.rind.clocks ++ [(5, s.now)] ∧
    t.fget .REPAIR_LINKS_hbm_repaired 0 = lanesRepaired x.hbm % 2 ^ Fld.REPAIR_LINKS_hbm_repaired.info.width ∧
    (∀ k, k < 4 → (bits (t.fget .REPAIR_LINKS_hbm_failed 0) k 1 = 1 ↔ ∃ ch n, (k, ch, n) ∈ x.hbm ∧ 2 < n)) := by
  refine ⟨_, exec_domainRelease hd (by decide) (by decide), ?_⟩
  rw [if_neg (by decide), startTests_stacks]
  refine ⟨rfl, ?_, fun k hk => ?_⟩
  · rw [clockOn_fget, fget_fset_ne (by decide), fget_fset_same]
  · rw [clockOn_fget, fget_fset_same]
    exact linksFailed_bit x.hbm hk

theorem startTests_tiles : startTests s 10 x =
    (s.fset .REPAIR_LINKS_d2d_repaired 0 (lanesRepaired x.d2d)).fset .REPAIR_LINKS_d2d_failed 0 (linksFailed x.d2d 8) := rfl

theorem domainRelease_tiles (hd : stepDue s 10 = true) : Completes (.domainRelease 10 x) s fun t =>
    t.rind.clocks = s.rind.clocks ++ [(10, s.now)] ∧
    t.fget .REPAIR_LINKS_d2d_repaired 0 = lanesRepaired x.d2d % 2 ^ Fld.REPAIR_LINKS_d2d_repaired.info.width ∧
    (∀ k, k < 8 → (bits (t.fget .REPAIR_LINKS_d2d_failed 0) k 1 = 1 ↔ ∃ g n, (k, g, n) ∈ x.d2d ∧ 2 < n)) := by
  refine ⟨_, exec_domainRelease hd (by decide) (by decide), ?_⟩
  rw [if_neg (by decide), startTests_tiles]
  refine ⟨rfl, ?_, fun k hk => ?_⟩
  · rw [clockOn_fget, fget_fset_ne (by decide), fget_fset_same]
  · rw [clockOn_fget, fget_fset_same]
    exact linksFailed_bit x.d2d hk

theorem exec_domainRelease_stackFailed (h : s.fget .REPAIR_LINKS_hbm_failed 0 ≠ 0) : exec (.domainRelease 8 x) s = .next s :=
  congrArg Host.Outcome.next (if_pos (.inr ⟨rfl, h⟩))

theorem exec_domainRelease_defaults (hd : stepDue s 8 = true) (h : s.fget .REPAIR_LINKS_hbm_failed 0 = 0) :
    exec (.domainRelease 8 x) s = .next (clockOn (loadDefaults s) 8) := by
  have e : exec (.domainRelease 8 x) s = execDomainRelease 8 x s := rfl
  rw [e, execDomainRelease, hd, if_neg (by simp [h]), if_neg (by simp), if_pos rfl]

/-- An octet of a failed tile. -/
theorem tileFailed_of_bit (hp : pd < 32) (hb : bits (s.fget .REPAIR_LINKS_d2d_failed 0) (pd / 4) 1 = 1) : s.tileFailed pd = true := by
  rw [State.tileFailed, decide_eq_true hp, hb]
  rfl

/-- It stays off while the domains of a step come on. -/
theorem domainsUp_failed (l : List Nat) (hf : s.tileFailed pd = true) (h0 : s.fget .PD_STATE_on pd = 0) :
    (l.foldl domainUp s).fget .PD_STATE_on pd = 0 := by
  induction l generalizing s with
  | nil => exact h0
  | cons y l ih =>
    have links : (domainUp s y).fget .REPAIR_LINKS_d2d_failed 0 = s.fget .REPAIR_LINKS_d2d_failed 0 :=
      (domainUp_kept y (fr := maskBut releaseReads) (.of_beq (by decide +kernel)) (.refl _ s)).same_of_but
        (p := .reg .REPAIR_LINKS) (by decide) _ _ rfl
    refine ih ?_ ?_
    · rw [State.tileFailed, links]
      exact hf
    · by_cases e : pd = y
      · rw [← e, domainUp, hf, Bool.or_true, Bool.true_or, if_pos rfl]
        exact h0
      · rw [domainUp_other e, h0]

theorem stepRelease_failed {n : Nat} (hf : s.tileFailed pd = true) (h0 : s.fget .PD_STATE_on pd = 0) :
    (stepRelease s n).fget .PD_STATE_on pd = 0 := by
  rw [stepRelease_eq, stepActs_fget (fun _ => by decide)]
  refine domainsUp_failed _ ?_ ((stepCounted_fget (by decide) pd).trans h0)
  rw [State.tileFailed, stepCounted_fget (by decide)]
  exact hf

end
end Sys2Proof.Machine

open Sys2Proof Sys2Proof.Machine

/-- Settles O44: the tests of a step write their counts and maps as its clock is enabled, and a domain that they fail is passed over
when the step is released. -/
theorem theTestsOfAStart : Obligations.TheTestsOfAStart := by
  unfold Obligations.TheTestsOfAStart
  refine ⟨fun s x hd => domainRelease_memory hd, fun s h => exec_clockGood_held h, fun s x hd => domainRelease_stacks hd,
    fun s x h => exec_domainRelease_stackFailed h, fun s x hd h => exec_domainRelease_defaults hd h,
    fun s x hd => domainRelease_tiles hd, fun s n pd hp hb => ?_⟩
  have failed := tileFailed_of_bit hp hb
  refine ⟨?_, fun h0 _ => stepRelease_failed failed h0⟩
  rw [State.runs, failed, Bool.not_true, Bool.and_false]

end

section
/-! SUPPORT. Tickets, boot records as they are done, an activation that goes on and start-complete (R323, R341, R349 to R355). -/

namespace Sys2Proof.Machine

-- A proof that evaluates in the kernel waits for every declaration before it, and holds a thread while it waits.
set_option Elab.async false

section
variable {s t u v : State} {m : MbxReq} {b : List Byte} {a : Activation} {k : Ticket} {r : BootRec} {n i : Nat}

/-! ### What an accepted ticket is (R350) -/

theorem status_zero {c : Prop} [Decidable c] {x y : Nat} (hx : x ≠ 0) (h : (if c then x else y) = 0) : ¬c ∧ y = 0 := by
  by_cases hc : c
  · rw [if_pos hc] at h
    exact absurd h hx
  · rw [if_neg hc] at h
    exact ⟨hc, h⟩

/-- A ticket that no row refuses is at least 10 ms ahead, and a unit is free for it. -/
theorem ticketCheck_zero (h : ticketCheck s b = 0) : s.devNs + 10000000 ≤ tkInstant b ∧ freeUnits s ≠ [] := by
  unfold ticketCheck at h
  dsimp only at h
  obtain ⟨-, h⟩ := status_zero (by decide) h
  obtain ⟨-, h⟩ := status_zero (by decide) h
  obtain ⟨-, h⟩ := status_zero (by decide) h
  obtain ⟨-, h⟩ := status_zero (by decide) h
  obtain ⟨-, h⟩ := status_zero (by decide) h
  obtain ⟨early, h⟩ := status_zero (by decide) h
  obtain ⟨free, -⟩ := status_zero (by decide) h
  exact ⟨Nat.le_of_not_lt fun k => early (.inl k), fun k => free (by rw [k]; rfl)⟩

theorem envCheck_body {kind : Nat} (h : envCheck s m kind = 0) : envBodyBad m.data kind = false := by
  unfold envCheck at h
  dsimp only at h
  obtain ⟨-, h⟩ := status_zero (by decide) h
  obtain ⟨-, h⟩ := status_zero (by decide) h
  obtain ⟨form, -⟩ := status_zero (by decide) h
  simp only [Bool.or_eq_true, not_or] at form
  obtain ⟨⟨⟨-, bad⟩, -⟩, -⟩ := form
  exact Bool.eq_false_iff.2 bad

/-- The nanoseconds of an accepted envelope's ticket are below a second. -/
theorem envCheck_nanoseconds (h : envCheck s m 1 = 0) : leAt (envBody m.data 1) 54 4 ≤ 999999999 := by
  have ok := envCheck_body h
  rw [envBodyBad, if_pos rfl] at ok
  simp only [Bool.or_eq_false_iff, decide_eq_false_iff_not] at ok
  obtain ⟨⟨⟨⟨⟨-, ns⟩, -⟩, -⟩, -⟩, -⟩ := ok
  exact Nat.le_of_not_lt ns

theorem leNat_lt (l : List Byte) : leNat l < 256 ^ l.length := by
  induction l with
  | nil => exact Nat.one_pos
  | cons x l ih =>
    have byte : x.toNat < 256 := x.isLt
    have step : leNat (x :: l) = leNat l * 256 + x.toNat := rfl
    rw [step, List.length_cons, pow_succ]
    omega

theorem leAt_lt (l : List Byte) (o k : Nat) : leAt l o k < 256 ^ k := by
  have h := leNat_lt (slice l o k)
  rwa [slice, List.length_map, List.length_range] at h

/-! ### The unit that a ticket takes (R352) -/

/-- The unit is set, and not yet armed. -/
def ticketUnitSet (s : State) (u t : Nat) (pub : Bool) : State :=
  let s := (s.fset .TRIG_START_HI_sec u (t / 1000000000)).fset .TRIG_START_LO_ns u (t % 1000000000)
  let s := (s.fset .TRIG_PERIOD_period_ns u 0).fset .TRIG_CTL_targets u (16 + 8 * bit pub)
  (s.fset .TRIG_CTL_out_mask u 0).fset .TRIG_CTL_fw_owned u 1

theorem ticketUnit_eq (s : State) (u t : Nat) (pub : Bool) : ticketUnit s u t pub = trigArm (ticketUnitSet s u t pub) u := rfl

theorem ticketUnitSet_start {at' : Nat} (pub : Bool) (h : at' / 1000000000 < 2 ^ 48) : trigStart (ticketUnitSet s n at' pub) n = at' := by
  have hi : (ticketUnitSet s n at' pub).fget .TRIG_START_HI_sec n = at' / 1000000000 := by
    rw [ticketUnitSet, fget_fset_ne (by decide), fget_fset_ne (by decide), fget_fset_ne (by decide), fget_fset_ne (by decide),
      fget_fset_ne (by decide), fget_fset_same]
    exact Nat.mod_eq_of_lt h
  have lo : (ticketUnitSet s n at' pub).fget .TRIG_START_LO_ns n = at' % 1000000000 := by
    rw [ticketUnitSet, fget_fset_ne (by decide), fget_fset_ne (by decide), fget_fset_ne (by decide), fget_fset_ne (by decide), fget_fset_same]
    exact Nat.mod_eq_of_lt (Nat.lt_trans (Nat.mod_lt _ (by decide)) (by decide))
  rw [trigStart, hi, lo]
  exact Nat.div_add_mod' at' 1000000000

theorem ticketUnitSet_shows (at' : Nat) (pub : Bool) : trigPeriod (ticketUnitSet s n at' pub) n = 0 ∧
    (ticketUnitSet s n at' pub).fget .TRIG_CTL_fw_owned n = 1 ∧ (ticketUnitSet s n at' pub).time = s.time ∧
    (ticketUnitSet s n at' pub).images = s.images := by
  refine ⟨?_, ?_, rfl, rfl⟩
  · rw [trigPeriod, ticketUnitSet, fget_fset_ne (by decide), fget_fset_ne (by decide), fget_fset_ne (by decide), fget_fset_same]
    rfl
  · rw [ticketUnitSet, fget_fset_same]
    rfl

/-- A one-shot whose start has not passed waits for it. -/
theorem trigArm_ahead (hp : trigPeriod s n = 0) (h : s.time.dt ≤ trigStart s n * 2 ^ 40) :
    trigArm s n = setTrigNext (s.fset .TRIG_CTL_arm n 1) n (some (trigStart s n)) := by
  unfold trigArm
  dsimp only
  rw [if_pos hp]
  exact if_neg (Nat.not_lt.2 h)

/-- The unit of a ticket ahead: armed, owned by firmware, at the ticket's instant. -/
theorem ticketUnit_ahead {at' : Nat} (pub : Bool) (h48 : at' / 1000000000 < 2 ^ 48) (h : s.time.dt ≤ at' * 2 ^ 40) :
    (ticketUnit s n at' pub).fget .TRIG_CTL_arm n = 1 ∧ (ticketUnit s n at' pub).fget .TRIG_CTL_fw_owned n = 1 ∧
    trigNext (ticketUnit s n at' pub) n = some at' ∧ (ticketUnit s n at' pub).images = s.images := by
  obtain ⟨period, owned, time, images⟩ := ticketUnitSet_shows (s := s) (n := n) at' pub
  have start := ticketUnitSet_start (s := s) (n := n) pub h48
  rw [ticketUnit_eq, trigArm_ahead period (by rw [start, time]; exact h), start]
  have next (w : State) : trigNext (setTrigNext w n (some at')) n = some at' := tget_tset_same none w.time.trigNext (n, 0) (some at')
  have reg (w : State) (f : Fld) : (setTrigNext w n (some at')).fget f n = w.fget f n := rfl
  refine ⟨?_, ?_, next _, images⟩
  · rw [reg, fget_fset_same]
    rfl
  · rw [reg, fget_fset_ne (by decide), owned]

/-! ### TICKET_SUBMIT (R349, R352) -/

/-- The ticket of a body, with the unit taken for it. -/
def ticketOf (s : State) (b : List Byte) (u : Nat) : Ticket :=
  { digest := tkDigest b, instant := tkInstant b, scope := tkScope b, tables := tkScope b != 2 && tkTables b, auto := tkAuto b, unit := u,
    bundle := tkScope b != 2 && compDiffers s (inactiveSlot s) 4, staged := false, checked := false }

/-- A ticket shows as pending, and what it publishes is staged. -/
def ticketShown (s : State) (b : List Byte) (n : Nat) : State :=
  let s := (s.fset .UPD_STATUS_ticket_pending 0 1).fset .UPD_STATUS_ticket_scope 0 (tkScope b)
  let s := if tkScope b != 2 && tkTables b then tablesStage s (tableBytes s n) else s
  if bankFree s then bankIdle s else s.fset .PUBLISH_STATUS_ready 0 0

/-- The unit that the next draw takes. -/
def unitDrawn (s : State) : Nat := (freeUnits s).getD (s.draw.1 % (freeUnits s).length) 0

/-- The ticket is pending, and its unit armed. -/
def ticketPends (s : State) (b : List Byte) : State :=
  let k := ticketOf s b (unitDrawn s)
  ticketUnit { s.draw.2 with images := { s.images with ticket := some k } } k.unit k.instant (k.bundle || k.tables)

theorem ticketAccept_eq (s : State) (b : List Byte) : ticketAccept s b = ticketShown (ticketPends s b) b (inactiveSlot s) := rfl

theorem unitDrawn_free (h : freeUnits s ≠ []) : s.fbit .TRIG_CTL_arm (unitDrawn s) = false := by
  have lt : s.draw.1 % (freeUnits s).length < (freeUnits s).length := Nat.mod_lt _ (List.length_pos_iff.2 h)
  have mem : unitDrawn s ∈ freeUnits s := by
    rw [unitDrawn, List.getD_eq_getElem _ _ lt]
    exact List.getElem_mem lt
  obtain ⟨-, free⟩ := List.mem_filter.1 mem
  simp only [Bool.and_eq_true, Bool.not_eq_true'] at free
  obtain ⟨⟨-, arm⟩, -⟩ := free
  exact arm

/-- What a ticket's unit and the ticket lie in. -/
def ticketParts : List Part := [.time, .images, .reg .TRIG_CTL, .reg .UPD_STATUS, .reg .RIND_STATUS]

/-- Staging leaves the ticket and its unit. -/
theorem ticketShown_kept (s : State) (b : List Byte) (n : Nat) : Kept (maskBut ticketParts)
    ((s.fset .UPD_STATUS_ticket_pending 0 1).fset .UPD_STATUS_ticket_scope 0 (tkScope b)) (ticketShown s b n) := by
  have tables : Kept (maskBut ticketParts) ((s.fset .UPD_STATUS_ticket_pending 0 1).fset .UPD_STATUS_ticket_scope 0 (tkScope b))
      (if tkScope b != 2 && tkTables b then
        tablesStage ((s.fset .UPD_STATUS_ticket_pending 0 1).fset .UPD_STATUS_ticket_scope 0 (tkScope b)) (tableBytes s n)
      else (s.fset .UPD_STATUS_ticket_pending 0 1).fset .UPD_STATUS_ticket_scope 0 (tkScope b)) :=
    .ite (fun _ => tablesStage_kept _ (.of_beq (by decide +kernel)) (.refl _ _)) fun _ => .refl _ _
  exact .ite (fun _ => bankIdle_kept (.of_beq (by decide +kernel)) tables) fun _ => .field _ _ _ tables (.of_beq (by decide +kernel))

theorem ticketShown_stands (s : State) (b : List Byte) (n : Nat) : (ticketShown s b n).images = s.images ∧
    (∀ f i, f.reg = .TRIG_CTL → (ticketShown s b n).fget f i = s.fget f i) ∧ (∀ i, trigNext (ticketShown s b n) i = trigNext s i) ∧
    (ticketShown s b n).fget .UPD_STATUS_ticket_pending 0 = 1 := by
  have kept := ticketShown_kept s b n
  have images := kept.same_of_but (p := .images) (by decide)
  have time : (ticketShown s b n).time = s.time := kept.same_of_but (p := .time) (by decide)
  refine ⟨images, fun f i hf => ?_, fun i => congrArg (fun x : TimeSt => tget none x.trigNext (i, 0)) time, ?_⟩
  · have other (g : Fld) (hg : g.reg = .UPD_STATUS) : f ≠ g := fun e => by
      rw [e, hg] at hf
      cases hf
    refine (kept.same_of_but (p := .reg .TRIG_CTL) (by decide) f i hf).trans ?_
    rw [fget_fset_ne (other _ rfl), fget_fset_ne (other _ rfl)]
  · refine (kept.same_of_but (p := .reg .UPD_STATUS) (by decide) .UPD_STATUS_ticket_pending 0 rfl).trans ?_
    rw [fget_fset_ne (by decide), fget_fset_same]
    rfl

/-- A ticket ahead is pending once it is accepted, its unit armed by firmware at its instant. -/
theorem ticketAccept_pends (h48 : tkInstant b / 1000000000 < 2 ^ 48) (h : s.time.dt ≤ tkInstant b * 2 ^ 40) :
    (ticketAccept s b).images.ticket = some (ticketOf s b (unitDrawn s)) ∧
    (ticketAccept s b).fget .TRIG_CTL_arm (unitDrawn s) = 1 ∧ (ticketAccept s b).fget .TRIG_CTL_fw_owned (unitDrawn s) = 1 ∧
    trigNext (ticketAccept s b) (unitDrawn s) = some (tkInstant b) ∧ (ticketAccept s b).fget .UPD_STATUS_ticket_pending 0 = 1 := by
  obtain ⟨images, trig, next, pending⟩ := ticketShown_stands (ticketPends s b) b (inactiveSlot s)
  obtain ⟨arm, owned, instant, kept⟩ := ticketUnit_ahead
    (s := { s.draw.2 with images := { s.images with ticket := some (ticketOf s b (unitDrawn s)) } }) (n := unitDrawn s)
    ((ticketOf s b (unitDrawn s)).bundle || (ticketOf s b (unitDrawn s)).tables) h48 h
  rw [ticketAccept_eq]
  exact ⟨(congrArg Images.ticket images).trans (congrArg Images.ticket kept), (trig _ _ rfl).trans arm, (trig _ _ rfl).trans owned,
    (next _).trans instant, pending⟩

theorem mbxTaken_ticketCheck : ticketCheck (mbxTaken s m) b = ticketCheck s b := by
  obtain ⟨h, e⟩ := mbxTaken_eq s m
  rw [e]
  rfl

theorem exec_ticketSubmit (hready : mbxReady s m = true) (hres : mbxReserved m = false) (hcmd : mbxCmd m = 0x74) :
    exec (.ticketSubmit m) s = .next (
      if envCheck s m 1 ≠ 0 then mbxDone (mbxTaken s m) m (envCheck s m 1) 0 0
      else if ticketCheck s (envBody m.data 1) ≠ 0 then mbxDone (mbxTaken s m) m (ticketCheck s (envBody m.data 1)) 0 0
      else mbxWait (ticketAccept (envAccept (mbxTaken s m) m) (envBody m.data 1)) m (.logWrite 0 0 0)) := by
  have row := mbxRow_taken (f := fun s =>
    if envCheck s m 1 != 0 then mbxDone s m (envCheck s m 1) 0 0
    else if ticketCheck s (envBody m.data 1) != 0 then mbxDone s m (ticketCheck s (envBody m.data 1)) 0 0
    else mbxWait (ticketAccept (envAccept s m) (envBody m.data 1)) m (.logWrite 0 0 0)) hready hcmd (.inr rfl) hres
  refine congrArg Host.Outcome.next (row.trans ?_)
  rw [mbxTaken_envCheck, mbxTaken_ticketCheck]
  simp only [bne_iff_ne]

theorem mbxTaken_images : (mbxTaken s m).images = s.images := by
  obtain ⟨h, e⟩ := mbxTaken_eq s m
  rw [e]

theorem envAccept_stands (s : State) (m : MbxReq) : (envAccept (mbxTaken s m) m).time = s.time ∧
    freeUnits (envAccept (mbxTaken s m) m) = freeUnits s ∧ ∀ f i, (envAccept (mbxTaken s m) m).fbit f i = s.fbit f i := by
  obtain ⟨h, e⟩ := mbxTaken_eq s m
  rw [e]
  exact ⟨rfl, rfl, fun _ _ => rfl⟩

/-- A ticket that is accepted waits for its log entry with all that it takes. -/
theorem ticketWaits (w : MbxWaits) (h48 : tkInstant b / 1000000000 < 2 ^ 48) (h : s.time.dt ≤ tkInstant b * 2 ^ 40)
    (free : freeUnits s ≠ []) : ∃ k, (mbxWait (ticketAccept s b) m w).images.ticket = some k ∧ k.digest = tkDigest b ∧
      k.instant = tkInstant b ∧ k.scope = tkScope b ∧ k.auto = tkAuto b ∧ k.checked = false ∧ s.fbit .TRIG_CTL_arm k.unit = false ∧
      (mbxWait (ticketAccept s b) m w).fget .TRIG_CTL_arm k.unit = 1 ∧ (mbxWait (ticketAccept s b) m w).fget .TRIG_CTL_fw_owned k.unit = 1 ∧
      trigNext (mbxWait (ticketAccept s b) m w) k.unit = some (tkInstant b) ∧
      (mbxWait (ticketAccept s b) m w).fget .UPD_STATUS_ticket_pending 0 = 1 ∧
      (mbxWait (ticketAccept s b) m w).fget .RIND_STATUS_mbx_busy 0 = 1 := by
  obtain ⟨ticket, arm, owned, next, pending⟩ := ticketAccept_pends h48 h
  exact ⟨ticketOf s b (unitDrawn s), ticket, rfl, rfl, rfl, rfl, rfl, unitDrawn_free free, (mbxWait_fget (by decide) _ _).trans arm,
    (mbxWait_fget (by decide) _ _).trans owned, next, (mbxWait_fget (by decide) _ _).trans pending, mbxWait_busy _ _ _⟩

/-- A ticket whose envelope is taken and that no row refuses. -/
theorem ticketSubmit_pends (hready : mbxReady s m = true) (hres : mbxReserved m = false) (hcmd : mbxCmd m = 0x74)
    (he : envCheck s m 1 = 0) (hc : ticketCheck s (envBody m.data 1) = 0) : Completes (.ticketSubmit m) s fun t => ∃ k,
      t.images.ticket = some k ∧ k.digest = tkDigest (envBody m.data 1) ∧ k.instant = tkInstant (envBody m.data 1) ∧
      k.scope = tkScope (envBody m.data 1) ∧ k.auto = tkAuto (envBody m.data 1) ∧ k.checked = false ∧
      s.fbit .TRIG_CTL_arm k.unit = false ∧ t.fget .TRIG_CTL_arm k.unit = 1 ∧ t.fget .TRIG_CTL_fw_owned k.unit = 1 ∧
      trigNext t k.unit = some (tkInstant (envBody m.data 1)) ∧ t.fget .UPD_STATUS_ticket_pending 0 = 1 ∧
      t.fget .RIND_STATUS_mbx_busy 0 = 1 := by
  obtain ⟨early, free⟩ := ticketCheck_zero hc
  have ns := envCheck_nanoseconds he
  have sec : leAt (envBody m.data 1) 48 6 < 256 ^ 6 := leAt_lt _ _ _
  have h48 : tkInstant (envBody m.data 1) / 1000000000 < 2 ^ 48 := by
    rw [tkInstant]
    omega
  have ahead : s.time.dt ≤ tkInstant (envBody m.data 1) * 2 ^ 40 := by
    rw [State.devNs] at early
    omega
  obtain ⟨time, units, fbit⟩ := envAccept_stands s m
  have waits := ticketWaits (m := m) (.logWrite 0 0 0) h48 (by rw [time]; exact ahead) (by rw [units]; exact free)
  simp only [fbit] at waits
  refine ⟨_, exec_ticketSubmit hready hres hcmd, ?_⟩
  rw [if_neg (not_not_intro he), if_neg (not_not_intro hc)]
  exact waits

/-! ### A ticket that ends without an activation (R346, R352) -/

theorem trigOff_shows (s : State) (n : Nat) : (trigOff s n).fget .TRIG_CTL_arm n = 0 ∧ trigNext (trigOff s n) n = none := by
  unfold trigOff
  dsimp only
  refine ⟨?_, tget_tset_same none _ (n, 0) none⟩
  rw [fget_time, fget_fset_ne (by decide), fget_fset_same]
  rfl

theorem ticketDrop_off (event : Nat) (h : s.images.ticket = some k) :
    (ticketDrop s event).fget .TRIG_CTL_arm k.unit = 0 ∧ trigNext (ticketDrop s event) k.unit = none := by
  have after := ticketDrop_after event h
  obtain ⟨arm, next⟩ := trigOff_shows s k.unit
  have time : (ticketDrop s event).time = (trigOff s k.unit).time := after.same_of_but (p := .time) (by decide)
  exact ⟨(after.same_of_but (p := .reg .TRIG_CTL) (by decide) .TRIG_CTL_arm _ rfl).trans arm,
    (congrArg (fun x : TimeSt => tget none x.trigNext (k.unit, 0)) time).trans next⟩

/-- The ticket is over, and its event shows. -/
def ticketOver (s : State) (k : Ticket) (event : Nat) : State :=
  let s := trigOff s k.unit
  let s := { s with images := { s.images with ticket := none } }
  let s := (s.fset .UPD_STATUS_ticket_pending 0 0).fset .UPD_STATUS_ticket_scope 0 0
  if event = 0 then s else s.fset .UPD_STATUS_last_event 0 event

/-- What the bank and the tables do as a ticket ends. -/
theorem ticketDrop_over (event : Nat) (h : s.images.ticket = some k) :
    Kept (maskBut [.images, .reg .UPD_STATUS]) (ticketOver s k event) (ticketDrop s event) := by
  have pub : Within (Part.bit (.reg .PUBLISH_STATUS)) (maskBut [.images, .reg .UPD_STATUS]) := .of_beq (by decide +kernel)
  have tables := Kept.ite (c := k.tables = true)
    (fun _ => tablesUndo_kept (.of_beq (by decide +kernel)) (.refl (maskBut [.images, .reg .UPD_STATUS]) (ticketOver s k event)))
    fun _ => .refl _ _
  rw [ticketDrop, h]
  exact .ite (fun _ => Kept.field _ _ _ (Kept.field _ _ _ (Kept.setChurn tables _ (.of_beq (by decide +kernel))) pub) pub) fun _ =>
    .ite (fun _ => Kept.field _ _ _ tables pub) fun _ => tables

theorem ticketDrop_images (event : Nat) (h : s.images.ticket = some k) : (ticketDrop s event).images.ticket = none := by
  have images : (ticketDrop s event).images = (ticketOver s k event).images := (ticketDrop_over event h).same_of_but (p := .images) (by decide)
  rw [images, ticketOver]
  dsimp only
  split <;> rfl

theorem ticketDrop_event (h : s.images.ticket = some k) : (ticketDrop s 4).fget .UPD_STATUS_last_event 0 = 4 := by
  refine ((ticketDrop_over 4 h).same_of_but (p := .reg .UPD_STATUS) (by decide) .UPD_STATUS_last_event 0 rfl).trans ?_
  exact fget_fset_same _ _ _ _

theorem exec_ticketCancel (hready : mbxReady s m = true) (hres : mbxReserved m = false) (hcmd : mbxCmd m = 0x75) :
    exec (.ticketCancel m) s = .next (match s.images.ticket with
      | some t => if s.devNs + 100000 < t.instant then mbxDone (ticketDrop (mbxTaken s m) 0) m 0 0 0 else mbxDone (mbxTaken s m) m 10 0 0
      | none => mbxDone (mbxTaken s m) m 10 0 0) := by
  have row := mbxRow_taken (f := fun s => match s.images.ticket with
    | some t => if s.devNs + 100000 < t.instant then mbxDone (ticketDrop s 0) m 0 0 0 else mbxDone s m 10 0 0
    | none => mbxDone s m 10 0 0) hready hcmd (.inr rfl) hres
  refine congrArg Host.Outcome.next (row.trans ?_)
  obtain ⟨h, e⟩ := mbxTaken_eq s m
  rw [e]
  rfl

theorem ticketCancel_cancels (hready : mbxReady s m = true) (hres : mbxReserved m = false) (hcmd : mbxCmd m = 0x75)
    (hk : s.images.ticket = some k) (hi : s.devNs + 100000 < k.instant) : Completes (.ticketCancel m) s fun t => Replied s t m 0 0 0 ∧
      t.images.ticket = none ∧ t.fget .TRIG_CTL_arm k.unit = 0 ∧ trigNext t k.unit = none := by
  have ticket : (mbxTaken s m).images.ticket = some k := by rw [mbxTaken_images, hk]
  have stands : RspStands (mbxTaken s m) (ticketDrop (mbxTaken s m) 0) :=
    .of_kept (ticketDrop_kept 0 (.of_beq (by decide +kernel)) (.refl _ _))
  obtain ⟨arm, next⟩ := ticketDrop_off 0 ticket
  have time : (mbxDone (ticketDrop (mbxTaken s m) 0) m 0 0 0).time = (ticketDrop (mbxTaken s m) 0).time :=
    (mbxDone_kept (fr := maskBut [.time]) _ _ _ _ (.of_beq (by decide +kernel)) (.refl _ _)).same_of_but (p := .time) (by decide)
  refine ⟨_, exec_ticketCancel hready hres hcmd, ?_⟩
  rw [hk]
  dsimp only
  rw [if_pos hi]
  exact ⟨mbxDone_replied ((mbxTaken_stands s m).trans stands) hready, (congrArg Images.ticket mbxDone_images).trans (ticketDrop_images 0 ticket),
    (mbxDone_fget (by decide) (by decide) _).trans arm,
    (congrArg (fun x : TimeSt => tget none x.trigNext (k.unit, 0)) time).trans next⟩

theorem ticketCancel_none (hready : mbxReady s m = true) (hres : mbxReserved m = false) (hcmd : mbxCmd m = 0x75)
    (hk : s.images.ticket = none) : Completes (.ticketCancel m) s fun t => Replied s t m 10 0 0 := by
  refine ⟨_, exec_ticketCancel hready hres hcmd, ?_⟩
  rw [hk]
  exact mbxDone_replied (mbxTaken_stands s m) hready

theorem exec_activationCheck (hk : s.images.ticket = some k) (hc : k.checked = false) (hi : k.instant ≤ s.devNs + 100000) :
    exec .activationCheck s = .next (if ticketOk s k then
      { s with images := { s.images with ticket := some { k with checked := true } } } else ticketDrop s 4) := by
  have e : exec .activationCheck s = execActivationCheck s := rfl
  rw [e, execActivationCheck, hk]
  dsimp only
  rw [if_neg (by simp [hc, hi])]

/-! ### A boot record is done (R341) -/

/-- The record is in force. -/
def recordDone (s : State) (r : BootRec) : State := updShow (bootPut s r)

theorem bootPut_images (s : State) (r : BootRec) : (bootPut s r).images.writing = none ∧
    (if bootCopy s = 0 then (bootPut s r).images.boot0 else (bootPut s r).images.boot1) = some r ∧
    (bootPut s r).images.activation = s.images.activation ∧ (bootPut s r).images.marks = s.images.marks ∧
    (bootPut s r).images.verified = s.images.verified ∧ (bootPut s r).images.nonces = s.images.nonces := by
  unfold bootPut
  dsimp only
  split <;> exact ⟨rfl, rfl, rfl, rfl, rfl, rfl⟩

theorem recordDone_images : (recordDone s r).images = (bootPut s r).images := updShow_images

/-- A record that is in force is so wherever the images are the same. -/
theorem recordDone_kept (h : t.images = (recordDone s r).images) :
    (if bootCopy s = 0 then t.images.boot0 else t.images.boot1) = some r ∧ t.images.writing = none := by
  obtain ⟨writing, copy, -⟩ := bootPut_images s r
  rw [h, recordDone_images]
  exact ⟨copy, writing⟩

/-- The SVN of a confirmed image is fused, and its event shows. -/
def recordConfirmed (s : State) (r : BootRec) : State :=
  let s := recordDone s r
  updShow (fuseSvn (s.fset .UPD_STATUS_last_event 0 2) (imgSvn (chunkBytes s (activeSlot s) 0)))

/-- The activation has its record. -/
def recordActivates (s : State) (r : BootRec) (a : Activation) : State :=
  { recordDone s r with images := { (recordDone s r).images with runs := none, activation := some { a with recorded := true } } }

theorem exec_bootRecordWriteDone {why : BootWhy} (hw : s.images.writing = some (r, why)) (hwhy : why = .start ∨ why = .recovery)
    (ha : s.images.activation = none) : exec .bootRecordWriteDone s = .next (recordDone s r) := by
  have none' : (updShow (bootPut s r)).images.activation = none := by
    obtain ⟨-, -, activation, -⟩ := bootPut_images s r
    rw [updShow_images, activation, ha]
  have e : exec .bootRecordWriteDone s = execBootRecordWriteDone s := rfl
  rw [e, execBootRecordWriteDone, hw]
  obtain rfl | rfl := hwhy
  · dsimp only
    rw [none']
    rfl
  · dsimp only
    rw [none']
    rfl

theorem fuseSvn_images (s : State) (n : Nat) : (fuseSvn s n).images = s.images := rfl

theorem fuseSvn_fget (s : State) (n : Nat) (f : Fld) (i : Nat) : (fuseSvn s n).fget f i = s.fget f i := rfl

theorem recordConfirmed_images : (recordConfirmed s r).images = (recordDone s r).images := by
  rw [recordConfirmed, updShow_images, fuseSvn_images, fset_images]

theorem exec_bootRecordWriteDone_confirm (hw : s.images.writing = some (r, .confirm)) (ha : s.images.activation = none) :
    exec .bootRecordWriteDone s = .next (recordConfirmed s r) := by
  have none' : (recordConfirmed s r).images.activation = none := by
    obtain ⟨-, -, activation, -⟩ := bootPut_images s r
    rw [recordConfirmed_images, recordDone_images, activation, ha]
  have e : exec .bootRecordWriteDone s = execBootRecordWriteDone s := rfl
  have shown : updShow (fuseSvn ((updShow (bootPut s r)).fset .UPD_STATUS_last_event 0 2)
      (imgSvn (chunkBytes (updShow (bootPut s r)) (activeSlot (updShow (bootPut s r))) 0))) = recordConfirmed s r := rfl
  rw [e, execBootRecordWriteDone, hw]
  dsimp only
  rw [shown, none']

theorem exec_bootRecordWriteDone_activate (hw : s.images.writing = some (r, .activate)) (ha : s.images.activation = some a)
    (hs : a.scope = 2) : exec .bootRecordWriteDone s = .next (assertSource (recordActivates s r a) .updateAct) := by
  have some' : (updShow (bootPut s r)).images.activation = some a := by
    obtain ⟨-, -, activation, -⟩ := bootPut_images s r
    rw [updShow_images, activation, ha]
  have e : exec .bootRecordWriteDone s = execBootRecordWriteDone s := rfl
  rw [e, execBootRecordWriteDone, hw]
  dsimp only
  rw [some']
  dsimp only
  rw [if_pos hs]
  rfl

/-- Fusing an SVN clears no bit. -/
theorem fuseSvn_bitsKept (s : State) (n : Nat) : BitsKept s.rind.otp (fuseSvn s n).rind.otp := fuseSvn_bits _ _ _

theorem recordDone_rind : (recordDone s r).rind = s.rind := by
  refine (updShow_same (p := .rind) (by decide)).trans ?_
  unfold bootPut
  dsimp only
  split <;> rfl

theorem recordConfirmed_rind : (recordConfirmed s r).rind = (fuseSvn ((recordDone s r).fset .UPD_STATUS_last_event 0 2)
    (imgSvn (chunkBytes (recordDone s r) (activeSlot (recordDone s r)) 0))).rind := updShow_same (p := .rind) (by decide)

theorem bootRecordWriteDone_confirms (hw : s.images.writing = some (r, .confirm)) (ha : s.images.activation = none) :
    Completes .bootRecordWriteDone s fun t =>
      ((if bootCopy s = 0 then t.images.boot0 else t.images.boot1) = some r ∧ t.images.writing = none) ∧
      t.fget .UPD_STATUS_last_event 0 = 2 ∧ BitsKept s.rind.otp t.rind.otp := by
  refine ⟨_, exec_bootRecordWriteDone_confirm hw ha, recordDone_kept recordConfirmed_images, ?_, ?_⟩
  · rw [recordConfirmed, updShow_other (by decide), fuseSvn_fget, fget_fset_same]
    rfl
  · rw [recordConfirmed_rind, ← recordDone_rind (r := r)]
    exact fuseSvn_bitsKept _ _

/-- The flash keeps its records through a level B reset that cuts no write. -/
theorem assertSource_records (h : s.images.writing = none) : (assertSource s .updateAct).images.boot0 = s.images.boot0 ∧
    (assertSource s .updateAct).images.boot1 = s.images.boot1 ∧ (assertSource s .updateAct).images.writing = none := by
  obtain ⟨x, e⟩ := assertSource_reg s .updateAct
  have uncut : bootCut s = s := by rw [bootCut, h]
  rw [e, assertedBase_warm rfl]
  have boot0 : (resetBase s stickyFlds).images.boot0 = (bootCut s).images.boot0 := rfl
  have boot1 : (resetBase s stickyFlds).images.boot1 = (bootCut s).images.boot1 := rfl
  rw [uncut] at boot0 boot1
  exact ⟨boot0, boot1, rfl⟩

theorem recordActivates_images (s : State) (r : BootRec) (a : Activation) : (recordActivates s r a).images =
    { (bootPut s r).images with runs := none, activation := some { a with recorded := true } } := by
  rw [← recordDone_images]
  rfl

theorem recordActivates_rind (s : State) (r : BootRec) (a : Activation) : (recordActivates s r a).rind = s.rind := by
  rw [← recordDone_rind (s := s) (r := r)]
  rfl

theorem recordActivates_kept (s : State) (r : BootRec) (a : Activation) :
    Kept (maskBut [.reg .RESET_CAUSE, .reg .START_STATUS]) s (recordActivates s r a) :=
  (updShow_kept (.of_beq (by decide +kernel)) (bootPut_kept r (.of_beq (by decide +kernel)) (.refl _ s))).setImages _
    (.of_beq (by decide +kernel))

theorem bootRecordWriteDone_activates (hw : s.images.writing = some (r, .activate)) (ha : s.images.activation = some a) (hs : a.scope = 2) :
    Completes .bootRecordWriteDone s fun t =>
      ((if bootCopy s = 0 then t.images.boot0 else t.images.boot1) = some r ∧ t.images.writing = none) ∧ Asserted s t .updateAct := by
  obtain ⟨writing, copy, -, marks, verified, nonces⟩ := bootPut_images s r
  have images := recordActivates_images s r a
  obtain ⟨boot0, boot1, written⟩ := assertSource_records (s := recordActivates s r a) (by rw [images]; exact writing)
  have rind : (recordActivates s r a).rind = s.rind := recordActivates_rind s r a
  have kept := recordActivates_kept s r a
  refine ⟨_, exec_bootRecordWriteDone_activate hw ha hs, ⟨?_, written⟩, ?_⟩
  · rw [boot0, boot1, images]
    exact copy
  · refine (assertSource_asserted (recordActivates s r a) .updateAct).of_same (congrArg _ rind) (congrArg _ rind) (congrArg _ rind)
      (congrArg _ rind) (by rw [images]; exact marks) (by rw [images]; exact verified) (by rw [images]; exact nonces)
      kept.pending kept.now fun f hf => ?_
    obtain hf | hf := hf
    · exact kept.same_of_but (p := .reg .RESET_CAUSE) (by decide) f 0 hf
    · exact kept.same_of_but (p := .reg .START_STATUS) (by decide) f 0 hf

/-! ### The management complex restarts, and the octets retrain (R352) -/

theorem runs_of_fget (h : ∀ f, f.reg ∈ [Reg.PD_STATE, .PD_HELD, .REPAIR_LINKS] → ∀ i, t.fget f i = s.fget f i) (pd : Nat) :
    t.runs pd = s.runs pd := by
  simp only [State.runs, State.tileFailed, State.fbit, h .PD_STATE_on (by decide), h .PD_HELD_held (by decide),
    h .REPAIR_LINKS_d2d_failed (by decide)]

theorem sendNeed_runs (pd : Nat) : (sendNeed s).runs pd = s.runs pd := by
  refine runs_of_fget (fun f hf i => ?_) pd
  exact (sendNeed_kept (fr := maskBut ([Reg.PD_STATE, .PD_HELD, .REPAIR_LINKS].map .reg)) (.of_beq (by decide +kernel))
    (.refl _ _)).same_of_but (p := .reg f.reg) (List.mem_map_of_mem hf) f i rfl

theorem mladundRestart_runs (hon : s.fbit .PD_STATE_on pdMgmt = true) (hheld : s.fbit .PD_HELD_held pdMgmt = true)
    (hh : s.rind.holds.contains pdMgmt = false) (ha : s.images.activation = none) :
    Completes .mladundRestartDone s fun t => t.runs pdMgmt = true := by
  have opened : domainOpen s pdMgmt = setHeld s pdMgmt false := if_neg (by rw [hh]; exact Bool.false_ne_true)
  have e : exec .mladundRestartDone s = .next (sendNeed (setHeld s pdMgmt false)) := by
    have e : exec .mladundRestartDone s = execMladundRestartDone s := rfl
    rw [e, execMladundRestartDone, hon, hheld, hh, if_neg (by decide), opened]
    have none' : (setHeld s pdMgmt false).images.activation = none := ha
    dsimp only
    rw [none']
  refine ⟨_, e, ?_⟩
  have on : (setHeld s pdMgmt false).fbit .PD_STATE_on pdMgmt = true := by
    rw [State.fbit, setHeld, fget_fset_ne (by decide)]
    exact hon
  have free : (setHeld s pdMgmt false).fbit .PD_HELD_held pdMgmt = false := by
    rw [State.fbit, setHeld, fget_fset_same]
    rfl
  have tile : (setHeld s pdMgmt false).tileFailed pdMgmt = false := by
    rw [State.tileFailed, decide_eq_false (by decide), Bool.false_and]
  dsimp only
  rw [sendNeed_runs, State.runs, on, free, tile]
  rfl

/-- A domain under reset, before its block is: it opens with no row that came before. -/
def domainHeld (s : State) (pd : Nat) : State :=
  setHeld { s with rind := { s.rind with restored := s.rind.restored.filter (fun x => x ≠ pd) } } pd (pdWaits pd || s.rind.holds.contains pd)

theorem domainReset_eq (s : State) (pd : Nat) : domainReset s pd = blockReset (domainHeld s pd) false pd := rfl

theorem domainHeld_kept (s : State) (pd : Nat) : Kept (partsMask [.rind, .reg .PD_HELD]) s (domainHeld s pd) :=
  setHeld_kept _ _ (.of_beq (by decide +kernel)) (Kept.setRind (.refl _ s) _ rfl rfl (.of_beq (by decide +kernel)))

/-- The reset of an octet leaves the images. -/
theorem octetDomainReset_images (s : State) (hn : n < 32) : (domainReset s n).images = s.images := by
  have octet (z : State) : blockReset z false n = octetReset z false n := if_pos hn
  have held : (domainHeld s n).images = s.images := (domainHeld_kept s n).changesOnly .images (by decide)
  have reset : Kept (maskBut [.images]) (domainHeld s n) (octetReset (domainHeld s n) false n) :=
    octetReset_kept false n (.of_beq (by decide +kernel)) (.refl _ _)
  have images : (octetReset (domainHeld s n) false n).images = (domainHeld s n).images := reset.same_of_but (p := .images) (by decide)
  rw [domainReset_eq, octet, images, held]

/-- The octet that retrains now. -/
def octetTurn (s : State) (a : Activation) (n : Nat) : State :=
  { s with images := { s.images with activation := some { a with phase := .octet n s.now } } }

theorem octetRetrain_eq (s : State) (a : Activation) (n : Nat) : octetRetrain s a n =
    if (octetTurn s a n).fbit .PD_STATE_on n then domainReset (octetTurn s a n) n else octetTurn s a n := rfl

theorem octetRetrain_turn (hn : n < 32) (a : Activation) :
    (octetRetrain s a n).images.activation = some { a with phase := .octet n s.now } := by
  rw [octetRetrain_eq]
  split
  · rw [octetDomainReset_images _ hn]
    rfl
  · rfl

theorem exec_octetRetrainNext {t0 : Nat} (ha : s.images.activation = some a) (hp : a.phase = .octet n t0)
    (hd : octetUp s n = true ∨ t0 + 1000000000 ≤ s.now) : exec .octetRetrainNext s = .next
      (if n < 31 then octetRetrain s a (n + 1) else activationEnd (runsNow s a.slot 3) a) := by
  have e : exec .octetRetrainNext s = execOctetRetrainNext s := rfl
  rw [e, execOctetRetrainNext, ha]
  dsimp only
  rw [hp]
  dsimp only
  rw [if_neg]
  rintro ⟨down, early⟩
  obtain up | late := hd
  · rw [up] at down
    cases down
  · omega

/-- When a new image is confirmed by itself. -/
def confirmFrom (s : State) (a : Activation) : Option Nat := if a.auto = 0 then none else some (s.now + a.auto * 1000000000)

theorem activationEnd_shows (s : State) (a : Activation) : (activationEnd s a).images.activation = none ∧
    (activationEnd s a).fget .UPD_STATUS_last_event 0 = 1 ∧ (activationEnd s a).images.confirmAt = confirmFrom s a := by
  unfold activationEnd
  dsimp only
  rw [updShow_images, updShow_other (by decide), fget_fset_same]
  exact ⟨rfl, rfl, rfl⟩

/-! ### Start-complete (R323) -/

/-- A start that is complete. -/
def startDone (s : State) : State :=
  let s := (s.fset .START_STATUS_start_complete 0 1).fset .GLOBAL_STATUS_start_complete 0 1
  let s := (s.fset .START_STATUS_failed_count 0 0).fset .START_STATUS_last_fail 0 0
  let s := s.fset .RIND_STATUS_mode 0 1
  let r := bootNow s
  let at0 := if r.trial ∧ r.auto ≠ 0 then some (s.now + r.auto * 1000000000) else none
  { s with images := { s.images with confirmAt := at0 }, rind := { s.rind with windowFrom := none } }

/-- The registers of a start that is complete. -/
def startRegs : List Reg := [.START_STATUS, .GLOBAL_STATUS, .RIND_STATUS]

/-- Its registers, as they are written. -/
def startShown (s : State) : State :=
  (((((s.fset .START_STATUS_start_complete 0 1).fset .GLOBAL_STATUS_start_complete 0 1).fset .START_STATUS_failed_count 0 0).fset
    .START_STATUS_last_fail 0 0).fset .RIND_STATUS_mode 0 1)

theorem startDone_fget (f : Fld) : (startDone s).fget f 0 = (startShown s).fget f 0 := rfl

theorem exec_startComplete (h : startReady s = true) : exec .startComplete s = .next (sendNeed (startDone s)) := by
  have e : exec .startComplete s = execStartComplete s := rfl
  rw [e, execStartComplete, if_neg (by rw [h]; decide)]
  rfl

theorem startComplete_completes (h : startReady s = true) : Completes .startComplete s fun t =>
    t.fget .START_STATUS_start_complete 0 = 1 ∧ t.fget .GLOBAL_STATUS_start_complete 0 = 1 ∧ t.fget .START_STATUS_failed_count 0 = 0 ∧
    t.fget .RIND_STATUS_mode 0 = 1 ∧ t.rind.windowFrom = none := by
  have kept : Kept (maskBut (.rind :: startRegs.map .reg)) (startDone s) (sendNeed (startDone s)) :=
    sendNeed_kept (.of_beq (by decide +kernel)) (.refl _ _)
  have same (f : Fld) (hf : f.reg ∈ startRegs) : (sendNeed (startDone s)).fget f 0 = (startShown s).fget f 0 :=
    (kept.same_of_but (p := .reg f.reg) (List.mem_cons_of_mem _ (List.mem_map_of_mem hf)) f 0 rfl).trans (startDone_fget f)
  have rind : (sendNeed (startDone s)).rind = (startDone s).rind := kept.same_of_but (p := .rind) (by decide)
  refine ⟨_, exec_startComplete h, ?_, ?_, ?_, ?_, congrArg Rind.windowFrom rind⟩
  · rw [same _ (by decide), startShown, fget_fset_ne (by decide), fget_fset_ne (by decide), fget_fset_ne (by decide),
      fget_fset_ne (by decide), fget_fset_same]
    rfl
  · rw [same _ (by decide), startShown, fget_fset_ne (by decide), fget_fset_ne (by decide), fget_fset_ne (by decide), fget_fset_same]
    rfl
  · rw [same _ (by decide), startShown, fget_fset_ne (by decide), fget_fset_ne (by decide), fget_fset_same]
    rfl
  · rw [same _ (by decide), startShown, fget_fset_same]
    rfl

end
end Sys2Proof.Machine

open Sys2Proof Sys2Proof.Machine

/-- Settles O51: a ticket holds one armed unit until it is dropped or fires, a record that is done is in force, and each end of an
activation or a start writes what shows it. -/
theorem ticketsAndActivationsGoOn : Obligations.TicketsAndActivationsGoOn := by
  unfold Obligations.TicketsAndActivationsGoOn
  refine ⟨fun s m hready hres hcmd => ⟨fun he => ?_, fun he hc => ?_, fun he hc => ticketSubmit_pends hready hres hcmd he hc⟩,
    fun s m hready hres hcmd => ⟨fun k hk hi => ticketCancel_cancels hready hres hcmd hk hi, fun hk => ticketCancel_none hready hres hcmd hk⟩,
    fun s k hk hc hi => ⟨fun ho => ?_, fun ho => ?_⟩, fun s r why hw => ⟨fun hwhy ha => ?_, ?_, ?_⟩,
    fun s hon hheld hh ha => mladundRestart_runs hon hheld hh ha, fun s a n t0 ha hp hd => ⟨fun hn => ?_, fun hn => ?_⟩,
    fun s h => startComplete_completes h⟩
  · refine ⟨_, exec_ticketSubmit hready hres hcmd, ?_⟩
    rw [if_pos he]
    exact ⟨mbxDone_replied (mbxTaken_stands s m) hready, mbxDone_images.trans mbxTaken_images⟩
  · refine ⟨_, exec_ticketSubmit hready hres hcmd, ?_⟩
    rw [if_neg (not_not_intro he), if_pos hc]
    exact ⟨mbxDone_replied (mbxTaken_stands s m) hready, mbxDone_images.trans mbxTaken_images⟩
  · exact ⟨_, exec_activationCheck hk hc hi, if_pos ho⟩
  · refine ⟨_, exec_activationCheck hk hc hi, ?_⟩
    rw [ho, if_neg Bool.false_ne_true]
    exact ⟨ticketDrop_images 4 hk, ticketDrop_event hk⟩
  · exact ⟨_, exec_bootRecordWriteDone hw hwhy ha, recordDone_kept rfl⟩
  · rintro rfl ha
    exact bootRecordWriteDone_confirms hw ha
  · rintro a rfl ha hs
    exact bootRecordWriteDone_activates hw ha hs
  · refine ⟨_, exec_octetRetrainNext ha hp hd, ?_⟩
    rw [if_pos hn]
    exact octetRetrain_turn (by omega) a
  · refine ⟨_, exec_octetRetrainNext ha hp hd, ?_⟩
    rw [if_neg (by omega : ¬n < 31)]
    exact activationEnd_shows (runsNow s a.slot 3) a

end

section
/-! SUPPORT. What a level D reset leaves of ring 7 of set 0: what its blocks drop reaches the host on other rings, by status blocks and by
messages only, so that a request that resets a domain is answered as it would have been before (R316, R330). -/

namespace Sys2Proof.Machine

-- A proof that evaluates in the kernel waits for every declaration before it, and holds a thread while it waits.
set_option Elab.async false

section
variable {z s t : State} {set k v q c o id n reason status extra i : Nat} {f : Fld} {e : Copy} {tn : Option Nat}

/-! ### How the frame composes -/

theorem RspRing.refl (s : State) : RspRing s s := ⟨fun _ _ _ => rfl, rfl, rfl, rfl, List.prefix_refl _⟩

theorem RspRing.step (h : RspRing z s) (x : Kept (maskBut rspParts) s t) : RspRing z t := h.trans (.of_kept x)

theorem RspRing.same (h : RspRing z s) (reg : t.reg = s.reg) (host : t.host = s.host) (out : t.out = s.out) : RspRing z t := by
  refine ⟨fun f i hf => ?_, ?_, by rw [host, h.master], by rw [host, h.rsps], by rw [out]; exact h.out⟩
  · exact (congrArg (fun x => tget (fldReset f i) x (f.ctorIdx, i)) reg).trans (h.regs f i hf)
  · exact (congrArg (fun x : HostSt => tget ({} : RingSt) x.rings (0, 7)) host).trans h.ring

theorem RspRing.setHost (h : RspRing z s) (x : HostSt) (rings : x.rings = s.host.rings) (master : x.busMaster = s.host.busMaster)
    (rsps : x.rsps = s.host.rsps) : RspRing z { s with host := x } :=
  ⟨h.regs, (congrArg (fun r => tget ({} : RingSt) r (0, 7)) rings).trans h.ring, master.trans h.master, rsps.trans h.rsps, h.out⟩

theorem RspRing.setRing (h : RspRing z s) (r : RingSt) (hk : (set, k) ≠ (0, 7)) : RspRing z (s.setRing set k r) :=
  ⟨h.regs, (setRing_other s set k r 0 7 hk.symm).trans h.ring, h.master, h.rsps, h.out⟩

theorem RspRing.fset (h : RspRing z s) (hf : f.reg ∉ rspRegs) : RspRing z (s.fset f i v) :=
  ⟨fun g j hg => (fget_fset_ne (fun x => hf (by rw [← x]; exact hg)) _ _ _).trans (h.regs g j hg), h.ring, h.master, h.rsps, h.out⟩

theorem RspRing.ite {p : Prop} [Decidable p] {a b : State} (ha : RspRing z a) (hb : RspRing z b) : RspRing z (if p then a else b) := by
  split
  · exact ha
  · exact hb

theorem RspRing.foldl {α : Type} {l : List α} {g : State → α → State} (h : RspRing z s) (hg : ∀ u a, RspRing z u → RspRing z (g u a)) :
    RspRing z (l.foldl g s) :=
  List.foldlRecOn l g (motive := RspRing z) h fun u hu a _ => hg u a hu

theorem RspRing.count {x : Ctr} (h : RspRing z s) : RspRing z (s.count x i n tn) :=
  h.step (State.count_kept _ _ _ _ (.of_beq (by decide +kernel)) (.refl _ _) (.but (Nat.or_self _) (by simp [rspParts, rspRegs])))

theorem RspRing.emit {x : Out} (h : RspRing z s) : RspRing z (s.emit x) :=
  h.step (State.emit_kept _ (.of_beq (by decide +kernel)) (.refl _ _))

/-! ### Messages and events -/

theorem RspRing.sbWrite (h : RspRing z s) : RspRing z (sbWrite s set) := (h.emit).setHost _ rfl rfl rfl

theorem RspRing.setMessage (h : RspRing z s) : RspRing z (setMessage s set v) := by
  have h1 : RspRing z (if tget false s.host.sbDirty (set, 0) then Machine.sbWrite s set else s) := .ite h.sbWrite h
  exact .ite (h1.setHost _ rfl rfl rfl) h1.emit

theorem RspRing.evtUpdate (h : RspRing z s) : RspRing z (evtUpdate s) := by
  have h1 : RspRing z (s.fset .EVT_CAUSE_cause 0 (evtCause s)) := h.fset (by decide)
  exact RspRing.same (.ite h1.setMessage h1) rfl rfl rfl

theorem RspRing.event (h : RspRing z s) (hf : f.reg ∉ rspRegs) : RspRing z (s.event f i) := (h.fset hf).evtUpdate

/-! ### Rings other than 7 of set 0 -/

theorem RspRing.ringMessage (h : RspRing z s) (hk : (set, k) ≠ (0, 7)) : RspRing z (ringMessage s set k) := (h.setRing _ hk).setMessage

theorem RspRing.ringWrite (h : RspRing z s) (hk : (set, k) ≠ (0, 7)) : RspRing z (ringWrite s set k v) := by
  unfold Machine.ringWrite
  extract_lets r n' i' s1 r' s2
  have h2 : RspRing z s2 := ((h.emit (x := _)).setRing _ hk).setHost _ rfl rfl rfl
  exact .ite (h2.ringMessage hk) h2

theorem RspRing.cplData {x : Cpl} (h : RspRing z s) : RspRing z (cplData s x).1 := by
  unfold Machine.cplData
  split
  · split
    · exact h.emit
    · exact h
  · exact h

theorem RspRing.cplKeep {x : Cpl} (h : RspRing z s) : RspRing z (cplKeep s x) := h.setHost _ rfl rfl rfl

theorem RspRing.cplOne {x : Cpl} (h : RspRing z s) : RspRing z (cplOne s x) := by
  have h1 : RspRing z (Machine.cplData s x).1 := h.cplData
  unfold Machine.cplOne
  extract_lets r
  split
  · exact .ite h1.cplKeep h1
  · exact .ite (.ite h1.count.cplKeep h1.count) (.ite (h1.ringWrite (by simp)).count h1.cplKeep)

theorem RspRing.cplFlush {l : List Cpl} (h : RspRing z s) : RspRing z (cplFlush s l) := h.foldl fun _ _ hu => hu.cplOne

/-! ### Descriptors that end -/

theorem RspRing.workSet {w : Work} (h : RspRing z s) : RspRing z (workSet s w) := h.setHost _ rfl rfl rfl

theorem RspRing.workDrop (h : RspRing z s) : RspRing z (workDrop s set k n) := h.setHost _ rfl rfl rfl

theorem RspRing.complete {w : Work} {opcode version : Nat} {quiet : Bool} {data : Option (Nat × List Byte)} (h : RspRing z s) :
    RspRing z (complete s w opcode status reason version extra quiet data) := by
  have h1 : RspRing z (Machine.workDrop s w.set w.ring w.index) := h.workDrop
  unfold Machine.complete
  exact .ite (.ite h1.count h1) (.ite h1 (RspRing.cplFlush (h1.setHost _ rfl rfl rfl)))

theorem RspRing.injEnd {x : Frame} (h : RspRing z s) : RspRing z (injEnd s x status reason extra) := by
  unfold Machine.injEnd
  split
  · exact h
  · split
    · exact h.complete
    · exact h

theorem RspRing.gmax {x : Ctr} (h : RspRing z s) : RspRing z (s.gmax x i n) :=
  h.step (State.gmax_kept _ _ _ (.of_beq (by decide +kernel)) (.refl _ _) (.but (Nat.or_self _) (by simp [rspParts, rspRegs])))

theorem RspRing.wheyEmit {kind body stamp tenant : Nat} (h : RspRing z s) : RspRing z (wheyEmit s kind body stamp tenant) := by
  unfold Machine.wheyEmit
  extract_lets fill w x y s1 s2
  have h2 : RspRing z s2 := RspRing.fset (.same h rfl rfl rfl) (by decide)
  exact .ite h.count (.ite h2.gmax.count (h.count.count.event (by decide)))

theorem RspRing.dropSample {x : Frame} {out : Option (Nat × Nat)} (h : RspRing z s) : RspRing z (dropSample s x reason out) := by
  have drawn : RspRing z s.draw.2 := h.step (State.draw_kept (.of_beq (by decide +kernel)) (.refl _ _))
  exact .ite h (.ite drawn.wheyEmit drawn)

/-! ### Copies that end -/

theorem RspRing.bufLogged {x : Ctr} {b : Nat × Nat} {a d : Nat} (h : RspRing z s) (hf : f.reg ∉ rspRegs) :
    RspRing z ((bufLog (s.count x 0) b n a d).event f 0) :=
  (h.count.step (bufLog_kept _ _ _ _ (.of_beq (by decide +kernel)) (.refl _ _))).event hf

theorem RspRing.setBuf {b : Nat × Nat} {x : Option Buf} (h : RspRing z s) : RspRing z (s.setBuf b x) :=
  h.step (State.setBuf_kept _ _ (.of_beq (by decide +kernel)) (.refl _ _))

theorem RspRing.bufRelease {b : Nat × Nat} (h : RspRing z s) : RspRing z (bufRelease s b n) := by
  unfold Machine.bufRelease
  split
  · exact h.bufLogged (by decide)
  · next x _ =>
    have freed : RspRing z (bufForget (bufUncharge (s.setBuf b none) b x) b) :=
      (h.setBuf.step (bufUncharge_kept _ _ (.of_beq (by decide +kernel)) (.refl _ _))).step
        (bufForget_kept _ (.of_beq (by decide +kernel)) (.refl _ _))
    exact .ite h (.ite (h.bufLogged (by decide)) (.ite (h.bufLogged (by decide)) (.ite (freed.fset (by decide)).count h.setBuf)))

theorem RspRing.modFrame {g : Frame → Frame} (h : RspRing z s) : RspRing z (s.modFrame id g) :=
  h.step (State.modFrame_kept _ _ (.of_beq (by decide +kernel)) (.refl _ _))

theorem RspRing.delFrame (h : RspRing z s) : RspRing z (s.delFrame id) :=
  h.step (State.delFrame_kept _ (.of_beq (by decide +kernel)) (.refl _ _))

theorem RspRing.frameRelease1 (h : RspRing z s) : RspRing z (frameRelease1 s id) := by
  unfold Machine.frameRelease1
  extract_lets x s1
  have h1 : RspRing z s1 := by
    show RspRing z (match x.buf with | some b => Machine.bufRelease s b x.owner | none => s)
    split
    · exact h.bufRelease
    · exact h
  exact .ite (h1.delFrame.step (bufHeir_kept _ _ (.of_beq (by decide +kernel)) (.refl _ _))) h1.modFrame

theorem RspRing.copyEnd (h : RspRing z s) : RspRing z (copyEnd s e) := .ite h.frameRelease1 (.ite h.delFrame h.modFrame)

/-- A frame's injection ends with its main copy. -/
theorem RspRing.mainEnd {x : Frame} (h : RspRing z s) : RspRing z (match e.kind with
    | .main => Machine.injEnd s x 7 reason 0
    | .mirror _ => s) := by
  split
  · exact h.injEnd
  · exact h

theorem RspRing.dropFrame {out : Option (Nat × Nat)} (h : RspRing z s) : RspRing z (dropFrame s id reason out) :=
  h.dropSample.injEnd.frameRelease1

theorem RspRing.dropCopy (h : RspRing z s) : RspRing z (dropCopy s e q c reason) := by
  unfold Machine.dropCopy
  split
  · exact h.dropFrame
  · exact h.dropSample.frameRelease1

theorem RspRing.putQueue {x : Queue} (h : RspRing z s) : RspRing z (putQueue s q c x) :=
  h.step (putQueue_kept _ _ _ (.of_beq (by decide +kernel)) (.refl _ _))

theorem RspRing.place (h : RspRing z s) : RspRing z (place s e q c) := by
  have full {x : Ctr} : RspRing z ((s.count x (q * 16 + c) 1 (s.frame e.frame).ten).event .BUF_STATUS_vat_full_event 0) :=
    h.count.event (by decide)
  unfold Machine.place
  refine .ite (.ite h.count.putQueue (.ite h.count.dropCopy (.ite h.count.dropCopy full.dropCopy))) ?_
  exact .ite h.putQueue (.ite h.count.putQueue (.ite h.putQueue h.count.dropCopy))

theorem RspRing.dropMoved (h : RspRing z s) : RspRing z (dropMoved s e q c reason) := (h.dropSample.mainEnd).copyEnd

theorem RspRing.moveCopy (h : RspRing z s) : RspRing z (moveCopy s e q c) :=
  .ite h.place (.ite h.count.dropMoved (.ite (h.count.event (by decide)).dropMoved h.putQueue))

/-- The uplink that a moved copy takes. -/
def uplinkChosen (s : State) (m : Shim) (x : Frame) (c : Nat) : Option (Nat × State) :=
  if m.pinned then (pinnedUplink s m.dst (pinSel x)).map (fun u => (u, s)) else spray s m.dst c

theorem RspRing.uplinkChosen {m : Shim} {x : Frame} {p : Nat × State} (h : RspRing z s) (hp : uplinkChosen s m x c = some p) :
    RspRing z p.2 := by
  unfold Machine.uplinkChosen at hp
  split at hp
  · obtain ⟨u, -, rfl⟩ := Option.map_eq_some_iff.1 hp
    exact h
  · exact h.step (spray_kept m.dst c (.of_beq (by decide +kernel)) (.refl _ s) p.1 p.2 hp)

theorem RspRing.failoverCopy (h : RspRing z s) : RspRing z (failoverCopy s q c e) := by
  unfold Machine.failoverCopy
  extract_lets x back
  split
  · next m _ _ =>
    show RspRing z (match Machine.uplinkChosen s m x c with
      | some (u, s) => Machine.moveCopy (s.count .movedIn u 1 x.ten) e (s.fget .FAB_UPLINK_port u) c
      | none => back s)
    split
    · next u w hw => exact (h.uplinkChosen hw).count.moveCopy
    · exact h.putQueue
  · exact h.putQueue

theorem RspRing.failover (h : RspRing z s) : RspRing z (failover s q) :=
  h.foldl fun _ _ hu => .ite hu (hu.putQueue.foldl fun _ _ hw => hw.failoverCopy)

/-! ### Queues that are flushed -/

theorem RspRing.flushEntries {l : List Copy} (h : RspRing z s) : RspRing z (flushEntries s l q c) := by
  induction l generalizing s with
  | nil => exact h
  | cons e l ih => exact ih (h.count.count.dropSample.mainEnd).copyEnd

theorem RspRing.flushPort (h : RspRing z s) : RspRing z (flushPort s q) := h.foldl fun _ _ hu => hu.putQueue.flushEntries

theorem RspRing.flushMark (h : RspRing z s) : RspRing z (flushMark s q) :=
  h.step (flushMark_kept _ (.of_beq (by decide +kernel)) (.refl _ _))

theorem RspRing.flushStart (h : RspRing z s) : RspRing z (flushStart s q) := h.flushMark.flushPort

theorem RspRing.queuesFlush (h : RspRing z s) : RspRing z (queuesFlush s) :=
  (h.foldl fun _ _ hu => .ite hu.flushStart hu).flushPort

theorem RspRing.vatLose {x : Key} (h : RspRing z s) : RspRing z (vatLose s x) :=
  .ite h ((RspRing.ite h.flushMark h).putQueue).flushEntries

theorem RspRing.vatEmpty (h : RspRing z s) : RspRing z (vatEmpty s) := h.foldl fun _ _ hu => hu.vatLose

/-! ### Tasks that start and that go back -/

theorem RspRing.newTask {x : Task} (h : RspRing z s) : RspRing z (newTask s x) :=
  h.step (newTask_kept _ (.of_beq (by decide +kernel)) (.refl _ _))

theorem RspRing.startTask {w : Waiter} (h : RspRing z s) : RspRing z (startTask s w n) := by
  unfold Machine.startTask
  cases w with
  | frame id => exact h.modFrame.newTask
  | cmd set i =>
    dsimp only
    split
    · exact h
    · exact h.workSet.newTask

theorem RspRing.startAll {l : List Waiter} (h : RspRing z s) : RspRing z (startAll s l n) := h.foldl fun _ _ hu => hu.startTask

theorem RspRing.freeEntry {x : Key} (h : RspRing z s) : RspRing z (freeEntry s x) :=
  h.step (freeEntry_kept _ (.of_beq (by decide +kernel)) (.refl _ _))

theorem RspRing.tryFill {x : Key} {m : Miss} (h : RspRing z s) (ht : tryFill s x m = some t) : RspRing z t := by
  unfold Machine.tryFill at ht
  split at ht
  · cases ht
  · next n words dirty _ =>
    obtain ⟨u, hu, rfl⟩ := Option.map_eq_some_iff.1 ht
    exact (h.step (fillWay_kept n words dirty (.of_beq (by decide +kernel)) (.refl _ s) u hu)).freeEntry.startAll

theorem RspRing.tryFillD {x : Key} {m : Miss} (h : RspRing z s) (ht : RspRing z t) : RspRing z ((Machine.tryFill s x m).getD t) := by
  cases hf : Machine.tryFill s x m with
  | none => exact ht
  | some u => exact h.tryFill hf

theorem RspRing.retryEntry {x : Key} (h : RspRing z s) : RspRing z (retryEntry s x) := by
  unfold Machine.retryEntry
  split
  · exact h
  · split
    · exact h.tryFillD h
    · refine .ite h (.ite (.ite (.ite h ?_) h.freeEntry) (h.tryFillD ?_))
      · exact h.freeEntry.step (wbPush_kept _ _ (.of_beq (by decide +kernel)) (.refl _ _))
      · exact h.step (setMiss_kept _ _ (.of_beq (by decide +kernel)) (.refl _ _))
    · exact h

theorem RspRing.settle (h : RspRing z s) : RspRing z (settle s) :=
  (h.foldl fun _ _ hu => hu.retryEntry).step (wake_kept (.of_beq (by decide +kernel)) (.refl _ _))

theorem RspRing.emptyCluster (h : RspRing z s) : RspRing z (emptyCluster s c) :=
  (h.foldl fun _ _ hu => hu.step (squashTask_kept _ _ _ (.of_beq (by decide +kernel)) (.refl _ _))).settle

theorem RspRing.groupClear (h : RspRing z s) : RspRing z (groupClear s n) :=
  h.step (groupClear_kept _ (.of_beq (by decide +kernel)) (.refl _ _))

theorem RspRing.clusterReset (h : RspRing z s) : RspRing z (clusterReset s c) := by
  unfold Machine.clusterReset
  extract_lets s1
  have h1 : RspRing z s1 := h.emptyCluster.groupClear
  exact .same h1 rfl rfl rfl

theorem RspRing.setTask {x : Option Task} (h : RspRing z s) : RspRing z (s.setTask id x) :=
  h.step (State.setTask_kept _ _ (.of_beq (by decide +kernel)) (.refl _ _))

theorem RspRing.toLookup {w : Waiter} (h : RspRing z s) : RspRing z (toLookup s w) :=
  h.step (toLookup_kept _ (.of_beq (by decide +kernel)) (.refl _ _))

theorem RspRing.returnTask {x : Task} (h : RspRing z s) : RspRing z (returnTask s id x) := by
  have lost : RspRing z (loseSegment s x) := h.step (loseSegment_kept _ (.of_beq (by decide +kernel)) (.refl _ _))
  have h1 : RspRing z ((if x.pos.cluster.isSome then (loseSegment s x).count .squash (x.pos.cluster.getD 0) 1 x.ten else s).setTask id none) :=
    (RspRing.ite lost.count h).setTask
  unfold Machine.returnTask
  dsimp only
  split
  · exact h1.toLookup
  · split
    · exact h1.workSet.toLookup
    · exact h1
  · exact h1

theorem RspRing.loseRecordOf {x : Nat × Task} (h : RspRing z s) : RspRing z (loseRecordOf s x) := by
  unfold Machine.loseRecordOf
  split
  · exact h.returnTask
  · exact h.setTask
  · exact .ite (.ite h.setTask h.returnTask) h

theorem RspRing.fldClear (h : RspRing z s) (hf : f.reg ∉ rspRegs) : RspRing z (fldClear s f) := by
  refine h.step (fldClear_kept f (.of_beq (by decide +kernel)) (.refl _ _) (.but (Nat.or_self _) ?_))
  simpa [rspParts] using hf

theorem RspRing.cellarEmpty (h : RspRing z s) : RspRing z (cellarEmpty s) := by
  unfold Machine.cellarEmpty
  extract_lets ns w s1 s2 s3
  have h1 : RspRing z s1 := .same h rfl rfl rfl
  have h3 : RspRing z s3 := (((h1.fldClear (by decide)).fldClear (by decide)).fldClear (by decide)).fldClear (by decide)
  refine RspRing.settle (RspRing.foldl (RspRing.foldl h3 fun u a hu => ?_) fun _ _ hu => hu.loseRecordOf)
  exact (hu.step (dropCopies_kept _ (.of_beq (by decide +kernel)) (.refl _ _))).step
    (orphan_kept _ (.of_beq (by decide +kernel)) (.refl _ _))

/-! ### Frames that are discarded -/

theorem RspRing.pullQueue {x : Key} {keep : Bool} (h : RspRing z s) : RspRing z (pullQueue s id keep x) :=
  .ite h (h.putQueue.foldl fun _ _ hu => hu.copyEnd)

theorem RspRing.takeBack {keep : Bool} (h : RspRing z s) : RspRing z (takeBack s id keep) := by
  unfold Machine.takeBack
  extract_lets s1 s2 s3
  have h1 : RspRing z s1 := h.foldl fun _ _ hu => hu.pullQueue
  have h2 : RspRing z s2 := .same h1 rfl rfl rfl
  have h3 : RspRing z s3 := .ite (h2.step (unhold_kept _ (.of_beq (by decide +kernel)) (.refl _ _))) h2
  exact .same h3 rfl rfl rfl

theorem RspRing.callBack {keep : Bool} (h : RspRing z s) : RspRing z (callBack s id keep) := by
  unfold Machine.callBack
  extract_lets s1 s2
  have h1 : RspRing z s1 := .ite (h.step (cancelTask_kept _ (.of_beq (by decide +kernel)) (.refl _ _))) h
  have h2 : RspRing z s2 := (h1.step (stompTx_kept _ (.of_beq (by decide +kernel)) (.refl _ _))).takeBack
  exact .ite h2.modFrame h2

theorem RspRing.discard (h : RspRing z s) : RspRing z (discard s id) := by
  unfold Machine.discard
  extract_lets s1 s2
  have h1 : RspRing z s1 := h.injEnd
  have h2 : RspRing z s2 := h1.callBack
  exact .ite (h2.step (slotSettle_kept _ _ (.of_beq (by decide +kernel)) (.refl _ _))).frameRelease1 h2.modFrame

theorem RspRing.stagedLost {x : Staged} (h : RspRing z s) : RspRing z (stagedLost s x) := .ite h.delFrame (.ite h.discard h)

theorem RspRing.bufferLost (h : RspRing z s) : RspRing z (bufferLost s id) := .ite h.discard h

/-- The packet buffer is emptied. -/
theorem RspRing.buffersEmpty (h : RspRing z s) : RspRing z (buffersEmpty s) := by
  unfold Machine.buffersEmpty
  extract_lets r s1 s2 s3
  have h0 : RspRing z r.2 := h.step (buffersGone_kept (.of_beq (by decide +kernel)) (.refl _ _))
  have h1 : RspRing z s1 := h0.foldl fun u a hu =>
    (hu.step (setPaused_kept _ _ _ (.of_beq (by decide +kernel)) (.refl _ _))).step
      (pfcOwe_kept _ _ _ (.of_beq (by decide +kernel)) (.refl _ _))
  have h2 : RspRing z s2 := RspRing.foldl
    (h1.step (streamsLost_kept (.of_beq (by decide +kernel)) (.refl _ _))).queuesFlush fun _ _ hu => hu.bufferLost
  have h3 : RspRing z s3 := h2.foldl fun _ _ hu => hu.fset (by decide)
  exact h3.fldClear (by decide)

/-! ### Ports that go down, and octets -/

theorem RspRing.abortTx (h : RspRing z s) : RspRing z (abortTx s q) := by
  unfold Machine.abortTx
  split
  · exact h
  · have cleared : RspRing z (txClear s q) := h.step (txClear_kept _ (.of_beq (by decide +kernel)) (.refl _ _))
    exact (cleared.count.dropSample.mainEnd).copyEnd

theorem RspRing.setPort {x : PortSt} (h : RspRing z s) : RspRing z (s.setPort q x) :=
  h.step (State.setPort_kept _ _ (.of_beq (by decide +kernel)) (.refl _ _))

theorem RspRing.declareDown {admin : Bool} (h : RspRing z s) : RspRing z (declareDown s q admin) := by
  unfold Machine.declareDown
  extract_lets s1 s2 pz rf w s3 x s4 s5 s6 y s7
  have h2 : RspRing z s2 := ((h.fset (by decide)).event (by decide)).abortTx
  have h3 : RspRing z s3 := .same h2 rfl rfl rfl
  have h4 : RspRing z s4 := h3.setPort.step (latchUpCfg_kept _ (.of_beq (by decide +kernel)) (.refl _ _))
  have h5 : RspRing z s5 := .ite h4.failover h4
  have h7 : RspRing z s7 := (h5.fset (by decide)).setPort
  exact .ite h5.flushStart (.ite h7.flushStart h7)

theorem RspRing.adminOff (h : RspRing z s) : RspRing z (adminOff s q) := by
  unfold Machine.adminOff
  extract_lets s1 w s2
  have h2 : RspRing z s2 := ((h.fset (by decide)).fset (by decide)).setPort
  exact .ite h2.declareDown h2.flushStart

theorem RspRing.portReset {off : Bool} (h : RspRing z s) : RspRing z (portReset s off q) := by
  have cleared : ∀ f ∈ portCleared, f.reg ∉ rspRegs := by decide
  have h1 : RspRing z (if off then Machine.adminOff s q else if portUp s q then Machine.declareDown s q false else s) :=
    .ite h.adminOff (.ite h.declareDown h)
  have h2 := List.foldlRecOn portCleared (fun s f => s.fset f q 0) (motive := RspRing z) h1 fun u hu f hf => hu.fset (cleared f hf)
  exact h2.setPort

theorem RspRing.octetReset {off : Bool} (h : RspRing z s) : RspRing z (octetReset s off o) := by
  unfold Machine.octetReset
  extract_lets lost s1 s2 s3 s4
  have h1 : RspRing z s1 := h.foldl fun _ _ hu =>
    .ite (hu.portReset.step (egressReset_kept _ (.of_beq (by decide +kernel)) (.refl _ _))) hu
  have h3 : RspRing z s3 := RspRing.foldl
    ((h1.fset (by decide)).step (setStaging_kept _ _ (.of_beq (by decide +kernel)) (.refl _ _))) fun _ _ hu => hu.stagedLost
  have h4 : RspRing z s4 := h3.foldl fun u a hu =>
    ((((hu.fset (by decide)).fset (by decide)).fset (by decide)).fset (by decide)).step
      (laneClear_kept _ (.of_beq (by decide +kernel)) (.refl _ _))
  exact h4.groupClear.evtUpdate

/-! ### The time unit -/

theorem RspRing.judgeQueue (h : RspRing z s) : RspRing z (judgeQueue s q c) :=
  .ite h.putQueue (h.putQueue.foldl fun _ _ hu => (hu.count.dropSample.mainEnd).copyEnd)

theorem RspRing.timeReset (h : RspRing z s) : RspRing z (timeReset s) := by
  unfold Machine.timeReset
  extract_lets armed s1 ref s2 e' t' s3 s4 s5 s6
  have h1 : RspRing z s1 := by
    show RspRing z (match s.images.ticket with | some _ => ticketDrop s 4 | none => s)
    split
    · exact h.step (ticketDrop_kept _ (.of_beq (by decide +kernel)) (.refl _ _))
    · exact h
  have named : ∀ r ∈ timeRegs, Within (Part.bit (.reg r)) (maskBut rspParts) :=
    Within.regsBut (l := rspParts) (.of_beq (by decide +kernel)) (by decide)
  have h2 : RspRing z s2 := h1.step (regsReset_keptAt named (.refl _ _))
  have h3 : RspRing z s3 := h2.step (timeJump_kept _ (.of_beq (by decide +kernel)) (.refl _ _))
  have h4 : RspRing z s4 := RspRing.fset (.same (t := { s3 with time := t' }) h3 rfl rfl rfl) (f := .TIME_STATUS_epoch) (by decide)
  have h5 : RspRing z s5 := h4.fset (f := .TIME_STATUS_ref_active) (by decide)
  have h6 : RspRing z s6 := h5.foldl fun _ _ hu => hu.event (by decide)
  have h7 : RspRing z (markLate (rateShow s6)) := (h6.step (rateShow_kept (.of_beq (by decide +kernel)) (.refl _ _))).step
    (markLate_kept (.of_beq (by decide +kernel)) (.refl _ _))
  exact RspRing.evtUpdate (h7.foldl fun _ _ hu => hu.judgeQueue)

end

end Sys2Proof.Machine
end

section
/-! SUPPORT. What a level D reset and a switch leave of the Rind, its causes and the other domains (R330, R331). -/

namespace Sys2Proof.Machine

-- A proof that evaluates in the kernel waits for every declaration before it, and holds a thread while it waits.
set_option Elab.async false

/-! ### The settings of the telemetry page are reloaded -/

/-- What of the domains no register write moves: the Rind, which domains are on, and the quarantine. -/
def domainParts : List Part := [.rind, .reg .PD_STATE, .reg .CLUSTER_QUARANTINE]

theorem writeParts_not_domain (r : Reg) : ∀ p ∈ writeParts r, p ∉ domainParts := by
  cases r <;> decide

section
variable {s s0 t z : State} {pd : Nat}

theorem domainWrite_within (r : Reg) : Within (partsMask (writeParts r)) (maskBut domainParts) :=
  .all_parts fun p hp => .but (Nat.or_self _) (writeParts_not_domain r p hp)

theorem afterHost_domain {w : RegWrite} (h : Kept (maskBut domainParts) z s) : Kept (maskBut domainParts) z (afterHost s0 s w) := by
  unfold afterHost
  split
  · exact .cond (.field _ _ _ (.field _ _ _ h (.of_beq (by decide +kernel))) (.of_beq (by decide +kernel))) h
  · exact .ite (fun _ => setMessage_kept _ _ (.of_beq (by decide +kernel)) h) fun _ => h
  · exact .cond (ringStart_kept _ _ (.of_beq (by decide +kernel)) h)
      (.cond (ringEnd_kept _ _ (.of_beq (by decide +kernel)) h) h)
  · exact setSwitch_kept _ _ (.of_beq (by decide +kernel)) h
  · exact h

theorem afterWrite_domain {w : RegWrite} (h : Kept (maskBut domainParts) z s) : Kept (maskBut domainParts) z (afterWrite s0 s w) := by
  have h1 := afterSep_kept s0 w (.of_beq (by decide +kernel)) (afterPort_kept s0 w (.of_beq (by decide +kernel)) h)
  have h2 := afterFlow_kept s0 w (.of_beq (by decide +kernel)) (afterBuf_kept s0 w (.of_beq (by decide +kernel)) h1)
  exact afterHost_domain (afterWhey_kept s0 w (.of_beq (by decide +kernel)) (afterTime_kept w (.of_beq (by decide +kernel)) h2))

/-- A store of any register leaves the domains. -/
theorem regStore_domain {req : Requester} {r : Reg} {i off v mask : Nat} (h : Kept (maskBut domainParts) z s) :
    Kept (maskBut domainParts) z (regStore s req r i off v mask) := by
  have hw := domainWrite_within r
  by_cases hr : r.plain = true
  · exact regStore_keptAt hr hw (fun t _ _ ht => afterWrite_domain ht) h
  · have special : r = .TIME_CTL ∨ r = .TRIG_CTL ∨ r = .TALLY_PROG := by
      revert hr
      simp only [Reg.plain, Bool.and_eq_true, bne_iff_ne, ne_eq]
      tauto
    obtain rfl | rfl | rfl := special
    · exact regStore_timeCtl_kept hw (timeCtlWrite_kept _ (.of_beq (by decide +kernel)) h) h
    · exact regStore_trigCtl_kept hw (fun _ => trigCtlWrite_kept _ _ _ (.of_beq (by decide +kernel)) h) h
    · exact .ite (fun _ => lockRefuse_keptAt hw h) fun _ => tallyStage_kept _ _ _ (.of_beq (by decide +kernel)) h

theorem wordWrite_domain {req : Requester} {r : Reg} {i word off v mask : Nat} (h : Kept (maskBut domainParts) z s) :
    Kept (maskBut domainParts) z (wordWrite s req r i word off v mask) :=
  wordWrite_keptBy (fun _ => .of_beq (by decide +kernel)) (fun _ _ _ ht => regStore_domain ht) h

theorem busWrite_domain {req : Requester} {bar off size v : Nat} (h : Kept (maskBut domainParts) z s) :
    Kept (maskBut domainParts) z (busWrite s req bar off size v) := by
  have hs : Within (2 ^ 21) (maskBut domainParts) := .of_beq (by decide +kernel)
  unfold busWrite
  extract_lets base key u lo t
  have ht : Kept (maskBut domainParts) z t := h.setSetup _ hs
  split
  · exact h
  · refine .ite (fun _ => h) fun _ => .ite (fun _ => wordWrite_domain h) fun _ => .ite (fun _ => h.setSetup _ hs) fun _ => ?_
    cases lo with
    | none => exact wordWrite_domain ht
    | some l => exact wordWrite_domain ht

theorem bar0Write_domain {req : Requester} {off size v : Nat} (h : Kept (maskBut domainParts) z s) :
    Kept (maskBut domainParts) z (bar0Write s req off size v) :=
  .ite (fun _ => badAccess_kept _ _ (.of_beq (by decide +kernel)) h) fun _ =>
    .ite (fun _ => Kept.foldl (fun _ _ ht => regStore_domain ht) h) fun _ => busWrite_domain h

theorem reloadTelem_domain (s : State) : Kept (maskBut domainParts) s (reloadTelem s) :=
  Kept.foldl (fun _ _ ht => bar0Write_domain ht) (.refl _ _)

/-! ### The blocks of the domains -/

/-- What of the Rind, its causes and the domains the reset of a block leaves. -/
def blockParts : List Part := [.rind, .reg .RESET_CAUSE, .reg .PD_STATE, .reg .PD_HELD, .reg .CLUSTER_QUARANTINE]

theorem timeReset_block (s : State) : Kept (maskBut blockParts) s (timeReset s) := by
  have hs : Within (Part.bit (.reg .TIME_STATUS)) (maskBut blockParts) := .of_beq (by decide +kernel)
  unfold timeReset
  extract_lets armed s1 ref s2 e t s3 s4 s5 s6
  have h1 : Kept (maskBut blockParts) s s1 := by
    show Kept (maskBut blockParts) s (match s.images.ticket with | some _ => ticketDrop s 4 | none => s)
    split
    · exact ticketDrop_kept _ (.of_beq (by decide +kernel)) (.refl _ _)
    · exact .refl _ _
  have named : ∀ r ∈ timeRegs, Within (Part.bit (.reg r)) (maskBut blockParts) :=
    Within.regsBut (l := blockParts) (.of_beq (by decide +kernel)) (by decide)
  have h3 : Kept (maskBut blockParts) s s3 := timeJump_kept _ (.of_beq (by decide +kernel)) (regsReset_keptAt named h1)
  have h5 : Kept (maskBut blockParts) s s5 := .field _ _ _ (.field _ _ _ (h3.setTime t (.of_beq (by decide +kernel))) hs) hs
  have h6 : Kept (maskBut blockParts) s s6 := Kept.foldl
    (fun _ _ hx => State.event_kept _ _ (.of_beq (by decide +kernel)) hx (.of_beq (by decide +kernel))) h5
  have h7 : Kept (maskBut blockParts) s (markLate (rateShow s6)) :=
    markLate_kept (.of_beq (by decide +kernel)) (rateShow_kept (.of_beq (by decide +kernel)) h6)
  exact evtUpdate_kept (.of_beq (by decide +kernel)) (judgeLate_kept (.of_beq (by decide +kernel)) h7)

theorem telemLose_block (s : State) : Kept (maskBut blockParts) s (telemLose s) := by
  have named : ∀ r ∈ telemRegs, Within (Part.bit (.reg r)) (maskBut blockParts) :=
    Within.regsBut (l := blockParts) (.of_beq (by decide +kernel)) (by decide)
  have h1 : Kept (maskBut blockParts) s (progLose (regsReset s telemRegs [])) :=
    progLose_kept (.of_beq (by decide +kernel)) (regsReset_keptAt named (.refl _ _))
  exact groupClear_kept _ (.of_beq (by decide +kernel)) (h1.setWheyTelem (.of_beq (by decide +kernel)) (.of_beq (by decide +kernel)))

/-- The management complex apart, whose watchdog runs anew, a block's reset leaves the Rind and its registers. -/
theorem blockReset_block (s : State) (off : Bool) (h157 : pd ≠ 157) : Kept (maskBut blockParts) s (blockReset s off pd) := by
  have clear {t : State} (g : Nat) (ht : Kept (maskBut blockParts) s t) : Kept (maskBut blockParts) s (groupClear t g) :=
    groupClear_kept g (.of_beq (by decide +kernel)) ht
  have h : Kept (maskBut blockParts) s s := .refl _ _
  unfold blockReset
  refine .ite (fun _ => octetReset_kept _ _ (.of_beq (by decide +kernel)) h) fun _ => ?_
  refine .ite (fun _ => sliceReset_kept _ (.of_beq (by decide +kernel)) h) fun _ => ?_
  refine .ite (fun _ => clusterReset_kept _ (.of_beq (by decide +kernel)) h) fun _ => ?_
  refine .ite (fun _ => .cond (bankOff_kept _ (.of_beq (by decide +kernel)) h) (bankHold_kept _ (.of_beq (by decide +kernel)) h))
    fun _ => ?_
  refine .ite (fun _ => clear _ (.cond (blockLose_kept _ (.of_beq (by decide +kernel)) h) h)) fun _ => ?_
  refine .ite (fun _ => clear _ (vatEmpty_kept (.of_beq (by decide +kernel)) (cellarEmpty_kept (.of_beq (by decide +kernel)) h)))
    fun _ => ?_
  refine .ite (fun _ => clear _ (buffersEmpty_kept (.of_beq (by decide +kernel)) h)) fun _ => ?_
  refine .ite (fun x => absurd x h157) fun _ => ?_
  refine .ite (fun _ => .cond h (clear _ (timeReset_block s))) fun _ => ?_
  exact .ite (fun _ => .cond (telemLose_block s) (telemReset_kept (.of_beq (by decide +kernel)) h)) fun _ => h

/-- Of the Rind a block's reset can only start the watchdog anew. -/
theorem blockReset_rind (s : State) (off : Bool) (pd : Nat) : ∃ k, (blockReset s off pd).rind = { s.rind with kickAt := k } := by
  by_cases h : pd = 157
  · subst h
    exact ⟨s.now, rfl⟩
  · exact ⟨s.rind.kickAt, (blockReset_block s off h).same_of_but (p := .rind) (by decide)⟩

/-- The registers in which the reset causes and the domains show. -/
def domainRegs : List Reg := [.RESET_CAUSE, .PD_STATE, .PD_HELD, .CLUSTER_QUARANTINE]

theorem blockReset_fget {f : Fld} (hf : f.reg ∈ domainRegs) (off : Bool) (pd i : Nat) :
    (blockReset s off pd).fget f i = s.fget f i := by
  by_cases h : pd = 157
  · subst h
    rfl
  · exact (blockReset_block s off h).same_of_but (p := .reg f.reg) (List.mem_cons_of_mem _ (List.mem_map_of_mem hf)) f i rfl

/-! ### A domain's reset -/

theorem domainHeld_rind (s : State) (pd : Nat) : (domainHeld s pd).rind =
    { s.rind with restored := s.rind.restored.filter (fun x => x ≠ pd) } := rfl

theorem domainReset_rind (s : State) (pd : Nat) : ∃ l k, (domainReset s pd).rind = { s.rind with restored := l, kickAt := k } := by
  obtain ⟨k, h⟩ := blockReset_rind (domainHeld s pd) false pd
  exact ⟨_, k, by rw [domainReset_eq, h, domainHeld_rind]⟩

theorem domainReset_fget {f : Fld} (hf : f.reg ∈ domainRegs) (hh : f ≠ .PD_HELD_held) (pd i : Nat) :
    (domainReset s pd).fget f i = s.fget f i := by
  rw [domainReset_eq, blockReset_fget hf]
  exact fget_fset_ne hh _ _ _

theorem domainReset_held (s : State) (pd : Nat) :
    (domainReset s pd).fget .PD_HELD_held pd = bit (pdWaits pd || s.rind.holds.contains pd) := by
  rw [domainReset_eq, blockReset_fget (by decide)]
  exact (fget_fset_same _ _ _ _).trans (bit_mod_two _)

theorem RspRing.blockReset (h : RspRing z s) (pd : Nat) : RspRing z (blockReset s false pd) := by
  unfold Machine.blockReset
  refine .ite h.octetReset ?_
  refine .ite (h.step (sliceReset_kept _ (.of_beq (by decide +kernel)) (.refl _ _))) ?_
  refine .ite h.clusterReset ?_
  refine .ite (.ite (h.step (bankOff_kept _ (.of_beq (by decide +kernel)) (.refl _ _)))
    (h.step (bankHold_kept _ (.of_beq (by decide +kernel)) (.refl _ _)))) ?_
  refine .ite (RspRing.groupClear (.ite (h.step (blockLose_kept _ (.of_beq (by decide +kernel)) (.refl _ _))) h)) ?_
  refine .ite h.cellarEmpty.vatEmpty.groupClear (.ite h.buffersEmpty.groupClear ?_)
  refine .ite (h.step (mgmtReset_kept (.of_beq (by decide +kernel)) (.refl _ _))) (.ite (.ite h h.timeReset.groupClear) ?_)
  have lost : RspRing z (telemLose s) := by
    have named : ∀ r ∈ telemRegs, Within (Part.bit (.reg r)) (maskBut rspParts) :=
      Within.regsBut (l := rspParts) (.of_beq (by decide +kernel)) (by decide)
    have h1 : Kept (maskBut rspParts) s (progLose (regsReset s telemRegs [])) :=
      progLose_kept (.of_beq (by decide +kernel)) (regsReset_keptAt named (.refl _ _))
    exact RspRing.groupClear (h.step (h1.setWheyTelem (.of_beq (by decide +kernel)) (.of_beq (by decide +kernel))))
  exact .ite (.ite lost (h.step (telemReset_kept (.of_beq (by decide +kernel)) (.refl _ _)))) h

/-- A response is written after a domain's reset as it would have been before. -/
theorem domainReset_stands (s : State) (pd : Nat) : RspStands s (domainReset s pd) := by
  obtain ⟨l, k, rind⟩ := domainReset_rind s pd
  refine ⟨?_, by rw [rind]⟩
  have held : RspRing s (domainHeld s pd) :=
    .of_kept (setHeld_kept _ _ (.of_beq (by decide +kernel)) (Kept.setRind (.refl _ s) _ rfl rfl (.of_beq (by decide +kernel))))
  exact held.blockReset pd

/-! ### A domain's switch -/

/-- The events of a switch leave the Rind and the domains. -/
theorem pdEvent_rind (s : State) : (s.event .RIND_EVT_pd_event 0).rind = s.rind := event_same (p := .rind) (by decide) _ _

theorem pdEvent_fget {f : Fld} (hf : f.reg ∈ domainRegs) (i : Nat) : (s.event .RIND_EVT_pd_event 0).fget f i = s.fget f i := by
  obtain ⟨quiet, apart⟩ := (by decide : ∀ r ∈ domainRegs, Part.reg r ∉ evtParts ∧ r ≠ Fld.RIND_EVT_pd_event.reg) f.reg hf
  exact event_fget_ne quiet (fun e => apart (congrArg Fld.reg e)) _ _

theorem domainOff_eq (s : State) (pd : Nat) : domainOff s pd =
    (setHeld (blockReset (s.fset .PD_STATE_on pd 0) true pd) pd (s.rind.holds.contains pd)).event .RIND_EVT_pd_event 0 := rfl

theorem domainOff_rind (s : State) (pd : Nat) : ∃ k, (domainOff s pd).rind = { s.rind with kickAt := k } := by
  obtain ⟨k, h⟩ := blockReset_rind (s.fset .PD_STATE_on pd 0) true pd
  exact ⟨k, by rw [domainOff_eq, pdEvent_rind, setHeld, fset_rind, h]; rfl⟩

theorem domainOff_shows (s : State) (pd : Nat) : (domainOff s pd).fget .PD_STATE_on pd = 0 ∧
    (domainOff s pd).fget .RIND_EVT_pd_event 0 = 1 ∧ pdQuarantined (domainOff s pd) pd = pdQuarantined s pd := by
  have quarantine (i : Nat) : (domainOff s pd).fget .CLUSTER_QUARANTINE_bits i = s.fget .CLUSTER_QUARANTINE_bits i := by
    rw [domainOff_eq, pdEvent_fget (by decide), setHeld, fget_fset_ne (by decide), blockReset_fget (by decide), fget_fset_ne (by decide)]
  refine ⟨?_, event_fget_same (by decide) rfl 0, by rw [pdQuarantined, State.fbit, quarantine]; rfl⟩
  rw [domainOff_eq, pdEvent_fget (by decide), setHeld, fget_fset_ne (by decide), blockReset_fget (by decide), fget_fset_same]
  exact Nat.zero_mod _

/-- A domain comes on, and the telemetry one with its settings. -/
def domainLoaded (s : State) (pd : Nat) : State :=
  if pd = 159 then reloadTelem (domainReset (s.fset .PD_STATE_on pd 1) pd) else domainReset (s.fset .PD_STATE_on pd 1) pd

theorem domainOn_eq (s : State) (pd : Nat) : domainOn s pd = (domainLoaded s pd).event .RIND_EVT_pd_event 0 := rfl

theorem domainLoaded_kept (s : State) (pd : Nat) :
    Kept (maskBut domainParts) (domainReset (s.fset .PD_STATE_on pd 1) pd) (domainLoaded s pd) :=
  .ite (fun _ => reloadTelem_domain _) fun _ => .refl _ _

theorem domainOn_rind (s : State) (pd : Nat) : ∃ l k, (domainOn s pd).rind = { s.rind with restored := l, kickAt := k } := by
  obtain ⟨l, k, h⟩ := domainReset_rind (s.fset .PD_STATE_on pd 1) pd
  have loaded : (domainLoaded s pd).rind = (domainReset (s.fset .PD_STATE_on pd 1) pd).rind :=
    (domainLoaded_kept s pd).same_of_but (p := .rind) (by decide)
  exact ⟨l, k, by rw [domainOn_eq, pdEvent_rind, loaded, h, fset_rind]⟩

theorem domainOn_shows (s : State) (pd : Nat) : (domainOn s pd).fget .PD_STATE_on pd = 1 ∧
    (domainOn s pd).fget .RIND_EVT_pd_event 0 = 1 ∧ pdQuarantined (domainOn s pd) pd = pdQuarantined s pd := by
  have kept := domainLoaded_kept s pd
  have on : (domainLoaded s pd).fget .PD_STATE_on pd = 1 := by
    refine (kept.same_of_but (p := .reg .PD_STATE) (by decide) .PD_STATE_on pd rfl).trans ?_
    rw [domainReset_fget (by decide) (by decide), fget_fset_same]
    rfl
  have quarantine (i : Nat) : (domainLoaded s pd).fget .CLUSTER_QUARANTINE_bits i = s.fget .CLUSTER_QUARANTINE_bits i := by
    refine (kept.same_of_but (p := .reg .CLUSTER_QUARANTINE) (by decide) .CLUSTER_QUARANTINE_bits i rfl).trans ?_
    rw [domainReset_fget (by decide) (by decide), fget_fset_ne (by decide)]
  rw [domainOn_eq]
  refine ⟨(pdEvent_fget (by decide) _).trans on, event_fget_same (by decide) rfl 0, ?_⟩
  rw [pdQuarantined, State.fbit, pdEvent_fget (by decide), quarantine]
  rfl

end

end Sys2Proof.Machine
end

section
/-! SUPPORT. Domain resets, holds and power switching as the mailbox asks for them, and the end of recovery (R318, R326, R330, R331). -/

namespace Sys2Proof.Machine

-- A proof that evaluates in the kernel waits for every declaration before it, and holds a thread while it waits.
set_option Elab.async false

section
variable {s t u : State} {m : MbxReq} {pd i : Nat} {f : Fld} {on : Bool}

/-! ### RESET_DOMAIN (R330) -/

/-- A reset that was asked for shows its cause. -/
def domainAsked (s : State) : State := s.fset .RESET_CAUSE_domain_req 0 1

theorem domainAsked_fget (h : f ≠ .RESET_CAUSE_domain_req) (i : Nat) : (domainAsked s).fget f i = s.fget f i := fget_fset_ne h _ _ _

theorem domainAsked_cause : (domainAsked s).fget .RESET_CAUSE_domain_req 0 = 1 := fget_fset_same _ _ _ _

theorem domainAsked_stands : RspStands s (domainAsked s) :=
  .of_kept (.field _ _ _ (.refl _ _) (.of_beq (by decide +kernel)))

/-- A bank under hold shows it. -/
theorem bankHold_shows {b : Nat} (h : b < 16) : hasBit ((bankHold s b).fget .SKIM_STATUS_bank_held 0) b = true := by
  have width : Fld.SKIM_STATUS_bank_held.info.width = 16 := rfl
  rw [hasBit, beq_iff_eq, bits_one_iff, bankHold, fget_fset_same, width, Nat.testBit_mod_two_pow, Nat.testBit_or, Nat.testBit_two_pow_self,
    decide_eq_true h, Bool.or_true]
  rfl

theorem mbxTaken_fget (f : Fld) (i : Nat) : (mbxTaken s m).fget f i = s.fget f i := by
  obtain ⟨h, e⟩ := mbxTaken_eq s m
  rw [e]
  rfl

theorem mbxTaken_rind : (mbxTaken s m).rind = s.rind := by
  obtain ⟨h, e⟩ := mbxTaken_eq s m
  rw [e]

theorem mbxTaken_domain (pd : Nat) : pdQuarantined (mbxTaken s m) pd = pdQuarantined s pd ∧
    resetAllowed (mbxTaken s m) pd = resetAllowed s pd ∧ offAllowed (mbxTaken s m) pd = offAllowed s pd ∧
    awaitsStep (mbxTaken s m) pd = awaitsStep s pd := by
  obtain ⟨h, e⟩ := mbxTaken_eq s m
  rw [e]
  exact ⟨rfl, rfl, rfl, rfl⟩

theorem exec_resetDomain (hready : mbxReady s m = true) (hres : mbxReserved m = false) (hrec : inRecovery s = false)
    (hcmd : mbxCmd m = 0x11) : exec (.resetDomain m) s = .next (
      if 160 ≤ mbxArg0 m then mbxDone (mbxTaken s m) m 1 0 0
      else if pdQuarantined s (mbxArg0 m) then mbxDone (mbxTaken s m) m 6 0 0
      else if !resetAllowed s (mbxArg0 m) then mbxDone (mbxTaken s m) m 10 0 0
      else if s.fbit .PD_STATE_on (mbxArg0 m) = false then mbxDone (domainAsked (mbxTaken s m)) m 0 0 0
      else if isBank (mbxArg0 m) then mbxWait (domainReset (domainAsked (mbxTaken s m)) (mbxArg0 m)) m (.flush (mbxArg0 m - 112))
      else mbxDone (domainReset (domainAsked (mbxTaken s m)) (mbxArg0 m)) m 0 0 0) := by
  have row := mbxRow_taken (f := fun s =>
      if 160 ≤ mbxArg0 m then mbxDone s m 1 0 0
      else if pdQuarantined s (mbxArg0 m) then mbxDone s m 6 0 0
      else if !resetAllowed s (mbxArg0 m) then mbxDone s m 10 0 0
      else if (domainAsked s).fbit .PD_STATE_on (mbxArg0 m) = false then mbxDone (domainAsked s) m 0 0 0
      else if isBank (mbxArg0 m) then mbxWait (domainReset (domainAsked s) (mbxArg0 m)) m (.flush (mbxArg0 m - 112))
      else mbxDone (domainReset (domainAsked s) (mbxArg0 m)) m 0 0 0) hready hcmd (.inl hrec) hres
  refine congrArg Host.Outcome.next (row.trans ?_)
  obtain ⟨quarantined, allowed, -, -⟩ := mbxTaken_domain (s := s) (m := m) (mbxArg0 m)
  have power : (domainAsked (mbxTaken s m)).fbit .PD_STATE_on (mbxArg0 m) = s.fbit .PD_STATE_on (mbxArg0 m) := by
    rw [State.fbit, domainAsked_fget (by decide), mbxTaken_fget]
    rfl
  rw [quarantined, allowed, power]

theorem asked_stands : RspStands s (domainAsked (mbxTaken s m)) := (mbxTaken_stands s m).trans domainAsked_stands

theorem asked_reset_stands : RspStands s (domainReset (domainAsked (mbxTaken s m)) pd) := asked_stands.trans (domainReset_stands _ _)

theorem asked_reset_cause : (domainReset (domainAsked (mbxTaken s m)) pd).fget .RESET_CAUSE_domain_req 0 = 1 :=
  (domainReset_fget (by decide) (by decide) _ _).trans domainAsked_cause

theorem asked_reset_held : (domainReset (domainAsked (mbxTaken s m)) pd).fget .PD_HELD_held pd =
    bit (pdWaits pd || s.rind.holds.contains pd) := by
  have rind : (domainAsked (mbxTaken s m)).rind = s.rind := mbxTaken_rind
  rw [domainReset_held, rind]

section
variable (hready : mbxReady s m = true) (hres : mbxReserved m = false) (hrec : inRecovery s = false)
include hready hres hrec

/-- A domain that is asked for is reset at once, but for a bank that is on. -/
theorem resetDomain_resets (hcmd : mbxCmd m = 0x11) (hpd : mbxArg0 m < 160) (hq : pdQuarantined s (mbxArg0 m) = false)
    (ha : resetAllowed s (mbxArg0 m) = true) (hb : isBank (mbxArg0 m) = false ∨ s.fbit .PD_STATE_on (mbxArg0 m) = false) :
    Completes (.resetDomain m) s fun t => Replied s t m 0 0 0 ∧ t.fget .RESET_CAUSE_domain_req 0 = 1 ∧
      (s.fbit .PD_STATE_on (mbxArg0 m) = true →
        t.fget .PD_HELD_held (mbxArg0 m) = bit (pdWaits (mbxArg0 m) || s.rind.holds.contains (mbxArg0 m))) := by
  refine ⟨_, exec_resetDomain hready hres hrec hcmd, ?_⟩
  rw [if_neg (Nat.not_le.2 hpd), hq, if_neg Bool.false_ne_true, ha, Bool.not_true, if_neg Bool.false_ne_true]
  cases power : s.fbit .PD_STATE_on (mbxArg0 m) with
  | false =>
    rw [if_pos rfl]
    exact ⟨mbxDone_replied asked_stands hready, (mbxDone_fget (by decide) (by decide) _).trans domainAsked_cause, nofun⟩
  | true =>
    have other : isBank (mbxArg0 m) = false := hb.resolve_right (by rw [power]; decide)
    rw [if_neg (by decide), other, if_neg Bool.false_ne_true]
    exact ⟨mbxDone_replied asked_reset_stands hready, (mbxDone_fget (by decide) (by decide) _).trans asked_reset_cause,
      fun _ => (mbxDone_fget (by decide) (by decide) _).trans asked_reset_held⟩

/-- A bank that is on stops taking lookups, and its answer waits for its flush. -/
theorem resetDomain_waits (hcmd : mbxCmd m = 0x11) (hpd : mbxArg0 m < 160) (hq : pdQuarantined s (mbxArg0 m) = false)
    (ha : resetAllowed s (mbxArg0 m) = true) (hb : isBank (mbxArg0 m) = true) (power : s.fbit .PD_STATE_on (mbxArg0 m) = true) :
    Completes (.resetDomain m) s fun t => t.fget .RIND_STATUS_mbx_busy 0 = 1 ∧ t.fget .RESET_CAUSE_domain_req 0 = 1 ∧
      hasBit (t.fget .SKIM_STATUS_bank_held 0) (mbxArg0 m - 112) = true ∧
      t.rind.mbx = some { internal := m.internal, lost := false, cmd := 0x11, tag := mbxTag m, waits := .flush (mbxArg0 m - 112) } := by
  obtain ⟨low, high⟩ : 112 ≤ mbxArg0 m ∧ mbxArg0 m < 128 := of_decide_eq_true hb
  have held : hasBit ((domainReset (domainAsked (mbxTaken s m)) (mbxArg0 m)).fget .SKIM_STATUS_bank_held 0) (mbxArg0 m - 112) = true := by
    have block (z : State) : blockReset z false (mbxArg0 m) = bankHold z (mbxArg0 m - 112) := by
      unfold blockReset
      rw [if_neg (by omega), if_neg (by omega), if_neg (by omega), if_pos high, if_neg Bool.false_ne_true]
    rw [domainReset_eq, block]
    exact bankHold_shows (by omega)
  refine ⟨_, exec_resetDomain hready hres hrec hcmd, ?_⟩
  rw [if_neg (Nat.not_le.2 hpd), hq, if_neg Bool.false_ne_true, ha, Bool.not_true, if_neg Bool.false_ne_true, power,
    if_neg (by decide), if_pos hb]
  refine ⟨mbxWait_busy _ _ _, (mbxWait_fget (by decide) _ _).trans asked_reset_cause, ?_, ?_⟩
  · rw [mbxWait_fget (by decide)]
    exact held
  · rw [mbxWait_rind, mbxRunOf, hcmd]

end

/-! ### DOMAIN_HOLD (R330) -/

theorem holdsWith_contains (l : List Nat) (pd : Nat) : (pd :: l.filter (fun x => x ≠ pd)).contains pd = true :=
  List.contains_iff_mem.2 (List.mem_cons_self ..)

theorem holdsBut_contains (l : List Nat) (pd : Nat) : (l.filter (fun x => x ≠ pd)).contains pd = false := by
  rw [← Bool.not_eq_true, List.contains_iff_mem]
  intro h
  exact of_decide_eq_true (List.mem_filter.1 h).2 rfl

/-- A domain is held from now on. -/
def holdTaken (s : State) (pd : Nat) : State :=
  domainAsked { s with rind := { s.rind with holds := pd :: s.rind.holds.filter (fun x => x ≠ pd) } }

/-- Its block is in reset. -/
def holdApplied (s : State) (pd : Nat) : State :=
  if (holdTaken s pd).fbit .PD_STATE_on pd then domainReset (holdTaken s pd) pd else setHeld (holdTaken s pd) pd true

/-- A domain is no longer held. -/
def holdEnded (s : State) (pd : Nat) : State := { s with rind := { s.rind with holds := s.rind.holds.filter (fun x => x ≠ pd) } }

/-- It opens where nothing else keeps it in reset. -/
def holdReleased (s : State) (pd : Nat) : State :=
  if s.rind.holds.contains pd && holdOver (holdEnded s pd) pd then setHeld (holdEnded s pd) pd false else holdEnded s pd

theorem exec_domainHold (hready : mbxReady s m = true) (hres : mbxReserved m = false) (hrec : inRecovery s = false)
    (hcmd : mbxCmd m = 0x12) (hpd : mbxArg0 m < 160) (hq : pdQuarantined s (mbxArg0 m) = false) (ha : resetAllowed s (mbxArg0 m) = true)
    (h1 : mbxArg1 m < 2) : exec (.domainHold m) s = .next (mbxDone (if mbxArg1 m = 1 then holdApplied (mbxTaken s m) (mbxArg0 m)
      else holdReleased (mbxTaken s m) (mbxArg0 m)) m 0 0 0) := by
  have row := mbxRow_taken (f := fun s =>
      if 160 ≤ mbxArg0 m ∨ 2 ≤ mbxArg1 m then mbxDone s m 1 0 0
      else if pdQuarantined s (mbxArg0 m) then mbxDone s m 6 0 0
      else if !resetAllowed s (mbxArg0 m) then mbxDone s m 10 0 0
      else if mbxArg1 m = 1 then mbxDone (holdApplied s (mbxArg0 m)) m 0 0 0
      else mbxDone (holdReleased s (mbxArg0 m)) m 0 0 0) hready hcmd (.inl hrec) hres
  refine congrArg Host.Outcome.next (row.trans ?_)
  obtain ⟨quarantined, allowed, -, -⟩ := mbxTaken_domain (s := s) (m := m) (mbxArg0 m)
  rw [quarantined, allowed, if_neg (by omega), hq, if_neg Bool.false_ne_true, ha, Bool.not_true, if_neg Bool.false_ne_true]
  split <;> rfl

theorem holdTaken_stands (s : State) (pd : Nat) : RspStands s (holdTaken s pd) :=
  ⟨.of_kept (.field _ _ _ (Kept.setRind (.refl _ s) _ rfl rfl (.of_beq (by decide +kernel))) (.of_beq (by decide +kernel))), rfl⟩

theorem setHeld_stands (s : State) (pd : Nat) (b : Bool) : RspStands s (setHeld s pd b) :=
  .of_kept (setHeld_kept _ _ (.of_beq (by decide +kernel)) (.refl _ _))

theorem holdApplied_stands (s : State) (pd : Nat) : RspStands s (holdApplied s pd) := by
  unfold holdApplied
  split
  · exact (holdTaken_stands s pd).trans (domainReset_stands _ _)
  · exact (holdTaken_stands s pd).trans (setHeld_stands _ _ _)

theorem holdApplied_holds (s : State) (pd : Nat) : (holdApplied s pd).rind.holds.contains pd = true := by
  have taken : (holdTaken s pd).rind.holds.contains pd = true := holdsWith_contains _ _
  unfold holdApplied
  split
  · obtain ⟨l, k, rind⟩ := domainReset_rind (holdTaken s pd) pd
    rw [rind]
    exact taken
  · exact taken

theorem holdApplied_held (s : State) (pd : Nat) : (holdApplied s pd).fget .PD_HELD_held pd = 1 := by
  have taken : (holdTaken s pd).rind.holds.contains pd = true := holdsWith_contains _ _
  unfold holdApplied
  split
  · rw [domainReset_held, taken, Bool.or_true]
    rfl
  · exact fget_fset_same _ _ _ _

theorem holdReleased_stands (s : State) (pd : Nat) : RspStands s (holdReleased s pd) := by
  have ended : RspStands s (holdEnded s pd) := ⟨.of_kept (Kept.setRind (.refl _ s) _ rfl rfl (.of_beq (by decide +kernel))), rfl⟩
  unfold holdReleased
  split
  · exact ended.trans (setHeld_stands _ _ _)
  · exact ended

theorem holdReleased_holds (s : State) (pd : Nat) : (holdReleased s pd).rind.holds.contains pd = false := by
  have ended : (holdEnded s pd).rind.holds.contains pd = false := holdsBut_contains _ _
  unfold holdReleased
  split
  · exact ended
  · exact ended

theorem mbxDone_holds {status r0 r1 : Nat} : (mbxDone s m status r0 r1).rind.holds = s.rind.holds := by
  obtain ⟨b, rind⟩ := mbxEnd_rind (s := s) (internal := m.internal) (lost := false) (cmd := mbxCmd m) (tag := mbxTag m) (status := status)
    (r0 := r0) (r1 := r1)
  rw [mbxDone, rind]

/-! ### POWER_SET (R330, R331) -/

/-- A switch waits its turn. -/
def switchQueued (s : State) (pd : Nat) (on : Bool) : State :=
  { offHold s pd on with rind := { (offHold s pd on).rind with switching := (offHold s pd on).rind.switching ++ [(pd, on)] } }

theorem exec_powerSet (hready : mbxReady s m = true) (hres : mbxReserved m = false) (hrec : inRecovery s = false)
    (hcmd : mbxCmd m = 0x20) (hpd : mbxArg0 m < 160) (h1 : mbxArg1 m < 2) (hq : pdQuarantined s (mbxArg0 m) = false) :
    exec (.powerSet m) s = .next (
      if s.fbit .PD_STATE_on (mbxArg0 m) == (mbxArg1 m == 1) ∨ ((mbxArg1 m == 1) && awaitsStep s (mbxArg0 m)) then
        mbxDone (stepAsk (mbxTaken s m) (mbxArg0 m) (mbxArg1 m == 1)) m 0 0 0
      else if !(mbxArg1 m == 1) && !offAllowed s (mbxArg0 m) then mbxDone (mbxTaken s m) m 10 0 0
      else mbxWait (switchQueued (mbxTaken s m) (mbxArg0 m) (mbxArg1 m == 1)) m (.domain (mbxArg0 m))) := by
  have row := mbxRow_taken (f := fun s =>
      if 160 ≤ mbxArg0 m ∨ 2 ≤ mbxArg1 m then mbxDone s m 1 0 0
      else if pdQuarantined s (mbxArg0 m) then mbxDone s m 6 0 0
      else if s.fbit .PD_STATE_on (mbxArg0 m) == (mbxArg1 m == 1) ∨ ((mbxArg1 m == 1) && awaitsStep s (mbxArg0 m)) then
        mbxDone (stepAsk s (mbxArg0 m) (mbxArg1 m == 1)) m 0 0 0
      else if !(mbxArg1 m == 1) && !offAllowed s (mbxArg0 m) then mbxDone s m 10 0 0
      else mbxWait (switchQueued s (mbxArg0 m) (mbxArg1 m == 1)) m (.domain (mbxArg0 m))) hready hcmd (.inl hrec) hres
  refine congrArg Host.Outcome.next (row.trans ?_)
  obtain ⟨quarantined, -, off, awaits⟩ := mbxTaken_domain (s := s) (m := m) (mbxArg0 m)
  have power : (mbxTaken s m).fbit .PD_STATE_on (mbxArg0 m) = s.fbit .PD_STATE_on (mbxArg0 m) := congrArg (· == 1) (mbxTaken_fget _ _)
  rw [quarantined, off, awaits, power, if_neg (by omega), hq, if_neg Bool.false_ne_true]

theorem stepAsk_stands (s : State) (pd : Nat) (on : Bool) : RspStands s (stepAsk s pd on) := by
  unfold stepAsk
  dsimp only
  split
  · exact ⟨.of_kept (Kept.setRind (.refl _ s) _ rfl rfl (.of_beq (by decide +kernel))), rfl⟩
  · exact .refl _

theorem offHold_rind (s : State) (pd : Nat) (on : Bool) : (offHold s pd on).rind = s.rind := by
  unfold offHold
  split
  · rfl
  · rfl

/-! ### DOMAIN_SWITCH_COMPLETE (R331) -/

/-- A response sets no event but mbx_done. -/
theorem rspFlush_fget (hf : f ≠ .RIND_EVT_mbx_done) (he : Part.reg f.reg ∉ evtParts) (l : List Nat) (i : Nat) :
    (rspFlush s l).fget f i = s.fget f i := by
  induction l generalizing s with
  | nil => rfl
  | cons v l ih =>
    rw [rspFlush]
    refine ih.trans ?_
    split
    · exact congrArg (fun x => tget (fldReset f i) x (f.ctorIdx, i)) (count_reg _ _ _ _ _)
    · split
      · rw [event_fget_ne he hf]
        exact (ringWrite_kept (fr := partsMask [.out, .host]) _ _ _ (.of_beq (by decide +kernel)) (.refl _ _)).changesOnly
          (.reg f.reg) (by simp) f i rfl
      · rfl

theorem mbxEnd_pdEvent {internal lost : Bool} {cmd tag status r0 r1 : Nat} :
    (mbxEnd s internal lost cmd tag status r0 r1).fget .RIND_EVT_pd_event 0 = s.fget .RIND_EVT_pd_event 0 := by
  have freed : (mbxFreed s cmd tag status).fget .RIND_EVT_pd_event 0 = s.fget .RIND_EVT_pd_event 0 := fget_fset_ne (by decide) _ _ _
  rw [mbxEnd_eq, spdmAll_fget, mbxResponse]
  split
  · exact freed
  · split
    · exact freed
    · exact (rspFlush_fget (by decide) (by decide) _ _).trans freed

/-- The switch at the head of the queue is taken. -/
def switchTaken (s : State) (l : List (Nat × Bool)) : State :=
  { s with rind := { s.rind with switching := l, lastSwitch := some s.now } }

/-- It is done. -/
def switched (s : State) (pd : Nat) (on : Bool) : State := if on then domainOn s pd else domainOff s pd

theorem switched_rind (s : State) (pd : Nat) (on : Bool) : ∃ x k, (switched s pd on).rind = { s.rind with restored := x, kickAt := k } := by
  cases on with
  | true => exact domainOn_rind s pd
  | false =>
    obtain ⟨k, h⟩ := domainOff_rind s pd
    exact ⟨s.rind.restored, k, h⟩

theorem switched_shows (s : State) (pd : Nat) (on : Bool) : (switched s pd on).fget .PD_STATE_on pd = bit on ∧
    (switched s pd on).fget .RIND_EVT_pd_event 0 = 1 ∧ pdQuarantined (switched s pd on) pd = pdQuarantined s pd := by
  cases on with
  | true => exact domainOn_shows s pd
  | false => exact domainOff_shows s pd

theorem exec_domainSwitchComplete {l : List (Nat × Bool)} (hs : s.rind.switching = (pd, on) :: l)
    (hp : ∀ t0, s.rind.lastSwitch = some t0 → t0 + 10000 ≤ s.now)
    (hb : isBank pd = true → on = false → bankIdleNow s (pd - 112) = true) :
    exec (.domainSwitchComplete pd) s = .next (switchAnswer (switched (switchTaken s l) pd on) pd) := by
  have idle : ¬(isBank pd && !on && !bankIdleNow s (pd - 112)) = true := by
    simp only [Bool.and_eq_true, Bool.not_eq_true', not_and, Bool.not_eq_false]
    exact fun x => hb x.1 x.2
  have e : exec (.domainSwitchComplete pd) s = execDomainSwitchComplete pd s := rfl
  rw [e, execDomainSwitchComplete, hs]
  dsimp only
  refine congrArg Host.Outcome.next (if_neg ?_)
  rintro (h | h | h)
  · exact h rfl
  · split at h
    · next t0 ht => exact of_decide_eq_false h (hp t0 ht)
    · cases h
  · exact idle h

/-- The request that waits for the switch is answered. -/
theorem switchAnswer_answers {r : MbxRun} (hr : s.rind.mbx = some r) (hw : r.waits = .domain pd) (hq : pdQuarantined s pd = false) :
    switchAnswer s pd = mbxEnd s r.internal r.lost r.cmd r.tag 0 0 0 := by
  rw [switchAnswer, hr, Option.map_some, hw, if_pos rfl, hq, if_neg Bool.false_ne_true, mbxFinish, hr]

theorem domainSwitch_completes {l : List (Nat × Bool)} {r : MbxRun} (hs : s.rind.switching = (pd, on) :: l)
    (hp : ∀ t0, s.rind.lastSwitch = some t0 → t0 + 10000 ≤ s.now) (hq : pdQuarantined s pd = false) (hr : s.rind.mbx = some r)
    (hw : r.waits = .domain pd) (hb : isBank pd = true → on = false → bankIdleNow s (pd - 112) = true) :
    Completes (.domainSwitchComplete pd) s fun t =>
      t.fget .PD_STATE_on pd = bit on ∧ t.fget .RIND_EVT_pd_event 0 = 1 ∧ t.rind.switching = l ∧ t.rind.lastSwitch = some s.now ∧
      t.rind.mbx = none ∧ t.rind.history = ((r.cmd + r.tag * 2 ^ 16) :: s.rind.history).take 16 := by
  obtain ⟨power, event, quarantined⟩ := switched_shows (switchTaken s l) pd on
  obtain ⟨x, k, rind⟩ := switched_rind (switchTaken s l) pd on
  have run : (switched (switchTaken s l) pd on).rind.mbx = some r := by
    rw [rind]
    exact hr
  have answered := switchAnswer_answers run hw (quarantined.trans hq)
  obtain ⟨b, after⟩ := mbxEnd_rind (s := switched (switchTaken s l) pd on) (internal := r.internal) (lost := r.lost) (cmd := r.cmd)
    (tag := r.tag) (status := 0) (r0 := 0) (r1 := 0)
  refine ⟨_, exec_domainSwitchComplete hs hp hb, ?_⟩
  rw [answered]
  refine ⟨?_, mbxEnd_pdEvent.trans event, ?_, ?_, ?_, ?_⟩
  · rw [mbxEnd_fget (by decide), fget_fset_ne (by decide), power]
  · rw [after, rind]
    rfl
  · rw [after, rind]
    rfl
  · rw [after]
  · rw [after, rind, Nat.zero_mul, Nat.add_zero]
    rfl

/-! ### RECOVERY_COMPLETE (R326) -/

/-- Recovery is over before the chip starts anew. -/
def recoveryEnded (s : State) (m : MbxReq) : State :=
  ((mbxDone s m 0 0 0).fset .START_STATUS_failed_count 0 0).fset .START_STATUS_recovery 0 0

theorem exec_recoveryComplete (hready : mbxReady s m = true) (hres : mbxReserved m = false) (hcmd : mbxCmd m = 0x50) :
    exec (.recoveryComplete m) s = .next (
      if !inRecovery s then mbxDone (mbxTaken s m) m 6 0 0
      else if !(slotAuth s 0 || slotAuth s 1) then mbxDone (mbxTaken s m) m 10 0 0
      else (resetB (recoveryEnded (mbxTaken s m) m)).fset .RIND_STATUS_mode 0 0) := by
  have row := mbxRow_taken (f := fun s =>
      if !inRecovery s then mbxDone s m 6 0 0
      else if !(slotAuth s 0 || slotAuth s 1) then mbxDone s m 10 0 0
      else (resetB (recoveryEnded s m)).fset .RIND_STATUS_mode 0 0) hready hcmd (.inr rfl) hres
  refine congrArg Host.Outcome.next (row.trans ?_)
  have auth (k : Nat) : slotAuth (mbxTaken s m) k = slotAuth s k := by
    obtain ⟨h, e⟩ := mbxTaken_eq s m
    rw [e]
    rfl
  have mode : inRecovery (mbxTaken s m) = inRecovery s := congrArg (· == 2) (mbxTaken_fget _ _)
  rw [mode, auth, auth]

/-- What level B keeps and loses, field by field. -/
theorem resetB_sticky (h : f ∉ updShown ++ resetShown) (hf : stickyFlds.contains f.ctorIdx = true) (i : Nat) :
    (resetB s).fget f i = s.fget f i := by
  rw [resetB_eq, warmKept_fget, resetKeep_other h, resetBase_fget hf]

theorem resetB_off (pd : Nat) : (resetB s).fget .PD_STATE_on pd = 0 := by
  rw [resetB_eq, warmKept_fget, resetKeep_other (by decide)]
  exact resetBase_lost (by decide) pd

theorem recoveryEnded_history : (recoveryEnded s m).rind.history = ((mbxCmd m + mbxTag m * 2 ^ 16) :: s.rind.history).take 16 := by
  obtain ⟨b, rind⟩ := mbxEnd_rind (s := s) (internal := m.internal) (lost := false) (cmd := mbxCmd m) (tag := mbxTag m) (status := 0)
    (r0 := 0) (r1 := 0)
  show (mbxDone s m 0 0 0).rind.history = _
  rw [mbxDone, rind, Nat.zero_mul, Nat.add_zero]

theorem recoveryComplete_starts (hready : mbxReady s m = true) (hres : mbxReserved m = false) (hcmd : mbxCmd m = 0x50)
    (hrec : inRecovery s = true) (ha : slotAuth s 0 = true ∨ slotAuth s 1 = true) : Completes (.recoveryComplete m) s fun t =>
      t.fget .START_STATUS_recovery 0 = 0 ∧ t.fget .START_STATUS_failed_count 0 = 0 ∧ t.fget .RIND_STATUS_mode 0 = 0 ∧
      (∀ pd, t.fget .PD_STATE_on pd = 0) ∧ t.rind.history = ((0x50 + mbxTag m * 2 ^ 16) :: s.rind.history).take 16 := by
  have auth : (slotAuth s 0 || slotAuth s 1) = true := Bool.or_eq_true_iff.2 ha
  refine ⟨_, exec_recoveryComplete hready hres hcmd, ?_⟩
  rw [hrec, Bool.not_true, if_neg Bool.false_ne_true, auth, Bool.not_true, if_neg Bool.false_ne_true]
  refine ⟨?_, ?_, fget_fset_same _ _ _ _, fun pd => (fget_fset_ne (by decide) _ _ _).trans (resetB_off pd), ?_⟩
  · rw [fget_fset_ne (by decide), resetB_sticky (by decide) (by decide), recoveryEnded, fget_fset_same]
    rfl
  · rw [fget_fset_ne (by decide), resetB_sticky (by decide) (by decide), recoveryEnded, fget_fset_ne (by decide), fget_fset_same]
    rfl
  · show (recoveryEnded (mbxTaken s m) m).rind.history = _
    rw [recoveryEnded_history, hcmd, mbxTaken_rind]

end
end Sys2Proof.Machine

open Sys2Proof Sys2Proof.Machine

/-- Settles O41: each request is judged on the state as it was taken, and what a level D reset drops reaches the host on other rings
than the response's. -/
theorem domainRequestsAct : Obligations.DomainRequestsAct := by
  unfold Obligations.DomainRequestsAct
  refine ⟨fun s m hready hres hrec hcmd => ⟨fun hpd => ?_, fun hpd hq => ?_, fun hpd hq ha => ?_, fun hpd hq ha =>
      ⟨fun hb => resetDomain_resets hready hres hrec hcmd hpd hq ha hb,
        fun hb hon => resetDomain_waits hready hres hrec hcmd hpd hq ha hb hon⟩⟩,
    fun s m hready hres hrec hcmd hpd hq ha => ⟨fun h1 => ?_, fun h1 => ?_⟩,
    fun s m hready hres hrec hcmd hpd h1 hq => ⟨fun h => ?_, fun hne h => ?_, fun hon h1 ho => ?_⟩,
    fun s pd on l r hs hp hq hr hw hb => domainSwitch_completes hs hp hq hr hw hb,
    fun s m hready hres hcmd => ⟨fun hrec => ?_, fun hrec h0 h1 => ?_, fun hrec ha => recoveryComplete_starts hready hres hcmd hrec ha⟩⟩
  · refine ⟨_, exec_resetDomain hready hres hrec hcmd, ?_⟩
    rw [if_pos hpd]
    exact mbxDone_replied (mbxTaken_stands s m) hready
  · refine ⟨_, exec_resetDomain hready hres hrec hcmd, ?_⟩
    rw [if_neg (Nat.not_le.2 hpd), if_pos hq]
    exact mbxDone_replied (mbxTaken_stands s m) hready
  · refine ⟨_, exec_resetDomain hready hres hrec hcmd, ?_⟩
    rw [if_neg (Nat.not_le.2 hpd), hq, if_neg Bool.false_ne_true, ha, Bool.not_false, if_pos rfl]
    exact mbxDone_replied (mbxTaken_stands s m) hready
  · refine ⟨_, exec_domainHold hready hres hrec hcmd hpd hq ha (by omega), ?_⟩
    rw [if_pos h1]
    refine ⟨mbxDone_replied ((mbxTaken_stands s m).trans (holdApplied_stands _ _)) hready, ?_,
      (mbxDone_fget (by decide) (by decide) _).trans (holdApplied_held _ _)⟩
    rw [mbxDone_holds, holdApplied_holds]
  · refine ⟨_, exec_domainHold hready hres hrec hcmd hpd hq ha (by omega), ?_⟩
    rw [if_neg (by omega)]
    refine ⟨mbxDone_replied ((mbxTaken_stands s m).trans (holdReleased_stands _ _)) hready, ?_⟩
    rw [mbxDone_holds, holdReleased_holds]
  · refine ⟨_, exec_powerSet hready hres hrec hcmd hpd h1 hq, ?_⟩
    rw [if_pos]
    · exact mbxDone_replied ((mbxTaken_stands s m).trans (stepAsk_stands _ _ _)) hready
    · obtain h | ⟨h, hw⟩ := h
      · exact .inl (beq_iff_eq.2 h)
      · exact .inr (by rw [h, hw]; rfl)
  · refine ⟨_, exec_powerSet hready hres hrec hcmd hpd h1 hq, ?_⟩
    rw [if_neg, if_neg]
    · refine ⟨mbxWait_busy _ _ _, ?_, by rw [mbxWait_rind, mbxRunOf, hcmd]⟩
      rw [mbxWait_rind]
      show (offHold (mbxTaken s m) (mbxArg0 m) (mbxArg1 m == 1)).rind.switching ++ _ = _
      rw [offHold_rind, mbxTaken_rind]
    · obtain ⟨h, -⟩ | ⟨-, ho⟩ := h
      · simp [h]
      · rw [ho, Bool.not_true, Bool.and_false]
        exact Bool.false_ne_true
    · rintro (k | k)
      · exact hne (beq_iff_eq.1 k)
      · obtain ⟨on, waits⟩ := Bool.and_eq_true_iff.1 k
        obtain ⟨-, ready⟩ | ⟨off, -⟩ := h
        · rw [ready] at waits
          cases waits
        · rw [off] at on
          cases on
  · refine ⟨_, exec_powerSet hready hres hrec hcmd hpd (by omega) hq, ?_⟩
    rw [h1, hon, ho, if_neg (by simp), if_pos (by decide)]
    exact mbxDone_replied (mbxTaken_stands s m) hready
  · refine ⟨_, exec_recoveryComplete hready hres hcmd, ?_⟩
    rw [hrec, Bool.not_false, if_pos rfl]
    exact mbxDone_replied (mbxTaken_stands s m) hready
  · refine ⟨_, exec_recoveryComplete hready hres hcmd, ?_⟩
    rw [hrec, Bool.not_true, if_neg Bool.false_ne_true, h0, h1, Bool.or_false, Bool.not_false, if_pos rfl]
    exact mbxDone_replied (mbxTaken_stands s m) hready

end
